-- ==== Sys2Proof/Word.lean ====
section
/-! DEFINITION. The word types of the JS-6400 and their plainest uses (00_scope.md, Notation). -/

namespace Sys2Proof

/-- A direct register or one table word: 32 bits (R71). -/
abbrev Word := BitVec 32

/-- One word of the internal array: 64 data bits (R289). -/
abbrev DWord := BitVec 64

/-- The 48-bit frame count EPOCH (R48). -/
abbrev Epoch := BitVec 48

/-- Byte enables of a host write: bit i is 1 when HBE_N[i] is low, so that byte i is written (R76). -/
abbrev ByteEn := BitVec 4

end Sys2Proof
end

