-- ==== Sys2Proof/Syntax.lean ====
section
/-! DEFINITION. The commands of the block: one constructor of Instr per row of the operation and event table, with the
operands that come from outside the device (bus data, pin samples, what a NAND page decodes to). -/

namespace Sys2Proof

/-- One entry of the host's post buffer: register offset, data and byte enables (R71, R76, R78). -/
structure PostEntry where
  off  : Nat
  data : Word
  be   : ByteEn
  deriving DecidableEq, Repr

/-- What WAKE frame g+0 samples: the WV_ID straps (R381), the VIO_HOST sense (R402) and whether the crystal runs (R53). -/
structure WakeIn where
  wvId   : BitVec 6
  io33   : Bool
  xtalOk : Bool
  deriving DecidableEq, Repr

/-- A work item of the firmware (R54): on core A (false) or B (true), its cost in core cycles and its granule in ticks, 0 for
an item that is not splittable; or one of the customer extension, which runs on core B and is splittable (R327). -/
structure HiveTask where
  core   : Bool
  cycles : Nat
  gran   : Nat
  ext    : Bool := false
  deriving DecidableEq, Repr

/-- What a frame boundary takes from outside: OWN_GNT as sampled at tick 96 of the frame that ends (R206), the frame's
mean of CHG_ISNS in mA (R177), the droop comparators at the boundary (R64: 0 none, 1 below 0.785 V, 2 below 0.770 V,
3 below 0.755 V), the samples of a WAKE that begins here, and the firmware's work items for the new frame (R54). -/
structure FrameIn where
  gnt   : Bool
  iMeas : Nat
  vdd   : Nat
  wk    : WakeIn
  tasks : List HiveTask := []
  deriving DecidableEq, Repr

/-- One 1 MS/s Scout sample (R151): raw VIN in mV, the logic inputs, and for how many microseconds the backup
comparator output has been low without a break (R160; none while it is high). -/
structure VinSample where
  vin       : Int
  pgHigh    : Bool
  wetHigh   : Bool
  tamperLow : Bool
  wvLow     : Bool
  /-- VIN in mV as the backup comparator sees it at VIN_SNS, and the whole microseconds since it last fell below the comparator's
  level -/
  sns       : Int
  snsLow    : Nat
  deriving DecidableEq, Repr

/-- One slow-rate sample of HOLD or DORMANT (R152, R153): voltages in mV, the die's temperature in m°C, the thermistors' 12-bit
ratiometric codes; the values of
conversions that are not due at this sample are not used. -/
structure SlowSample where
  vin       : Int
  wetHigh   : Bool
  tamperLow : Bool
  vstore    : Int
  die       : Int
  th0       : Int
  th1       : Int
  deriving DecidableEq, Repr

/-- What the boot ROM and core B find of one image's DIGEST and SIG at phase IMAGE (R326, R356). -/
structure ImageCheck where
  digestOk : Bool
  sigOk    : Bool
  deriving DecidableEq, Repr

/-- The findings of WAKE phase IMAGE that rest on digests, signatures and key records: the checks of each image, whether
the key check record unwraps, and the slots whose latest record is uncorrectable in both banks (R326, R354, R356, R362). -/
structure ImageIn where
  fwA      : ImageCheck
  fwB      : ImageCheck
  ext      : ImageCheck
  keyRecOk : Bool
  lostSlots : List Nat
  deriving DecidableEq, Repr

/-- What a target's parameter page says (R243, R244, R246): a copy with a correct CRC was found, the ONFI revision in tenths, the
main page, LUNs, planes, pages per block, blocks per plane, spare bytes, and whether the interface survives RESET. -/
structure ParamPage where
  crcOk : Bool
  onfi  : Nat
  page  : Nat
  luns  : Nat
  planes : Nat
  ppb   : Nat
  bpp   : Nat
  spare : Nat
  keeps : Bool
  deriving DecidableEq, Repr

/-- NAND bring-up (R244), one bit per target: answered READ ID, returned the ONFI signature, confirmed its interface; the
parameter page and the READ ID 00h bytes of each target; the stripes with a factory mark (R261), and those of an ARMED entry
whose first page does not read erased (R262), as (target, stripe) pairs. -/
structure BringUp where
  present   : BitVec 32
  onfiSig   : BitVec 32
  confirmed : BitVec 32
  pages     : List ParamPage
  ids       : List Word
  marks     : List (Nat × Nat)
  unerased  : List (Nat × Nat)
  deriving DecidableEq, Repr

/-- A run of cells of one tenant, as a loss list holds it (R258). -/
structure CellRun where
  first  : Nat
  count  : Nat
  tenant : Nat
  coarse : Bool
  deriving DecidableEq, Repr

/-- One tenant of a Comb header's snapshot (R255). -/
structure HdrTenant where
  tenant   : Nat
  critical : Bool
  keySlot  : Nat
  base     : Nat
  last     : Nat
  deriving DecidableEq, Repr

/-- A usable Comb header (R255): its tenant snapshot and NANDGEOM entry 0 word 0. -/
structure CombHdr where
  tenants : List HdrTenant
  geom    : Word
  deriving DecidableEq, Repr

/-- What a verified seal copy gives (R257): the loss list, the cells whose Trickle bit is set, each lane's last LSEQ, and the bad
stripes as (target, stripe) pairs. -/
structure SealInfo where
  runs     : List CellRun
  trickle  : List Nat
  lastLseq : List Nat
  bad      : List (Nat × Nat)
  deriving DecidableEq, Repr

/-- What VERIFY reads of one Comb (R271): the header's snapshot if the header is usable, and the first seal copy
that decodes, names this Comb and whose tag verifies. -/
structure VerifyIn where
  hdr  : Option CombHdr
  sealCopy : Option SealInfo
  deriving DecidableEq, Repr

/-- One page footer of a swept program unit (R250, R273); trickle is KIND TRICKLE, rewrite is KIND REWRITE. -/
structure Footer where
  combId  : Nat
  cell    : Nat
  quarter : Nat
  lseq    : Nat
  rewrite : Bool
  trickle : Bool
  deriving DecidableEq, Repr

/-- What one restore page read finds (R277): the codewords decode, how many of them were corrected and how many are
uncorrectable (R245), after how many read-retry levels, the footer
matches the locator, the chain holds, and whether the lane's sealed tail is contradicted by its last page. -/
structure PageRead where
  lane     : Nat
  cell     : Nat
  quarter  : Nat
  corr     : Nat
  unc      : Nat
  retries  : Nat
  footerOk : Bool
  chainOk  : Bool
  tailBad  : Bool
  deriving DecidableEq, Repr

/-- Who commands the array: the host, a Hive core (false A, true B) or a device engine (R292). -/
inductive Requester where
  | host
  | core (b : Bool)
  | engine
  deriving DecidableEq, Repr

/-- Why a core enters its fault vector (R319). -/
inductive ExcCause where
  | illegal
  | misaligned
  | busFault
  | envCall
  deriving DecidableEq, Repr

/-- How the customer extension is entered (R327). -/
inductive ActKind where
  | mailbox
  | doorbell
  | periodic
  deriving DecidableEq, Repr

/-- An access of JTAG HIVEDBG (R368). -/
inductive DbgOp where
  | halt (core : Bool)
  | resume (core : Bool)
  | stepInsn (core : Bool)
  | breakpoint (core : Bool) (addr : Word)
  | readMem (core : Bool) (addr : Word)
  | writeMem (core : Bool) (addr data : Word)
  deriving DecidableEq, Repr

/-- A read carried by JTAG OBSERVE (R368): a register, or an entry of a table, the log's among them. -/
inductive ObsOp where
  | reg (off : Nat)
  | entry (tid idx : Nat)
  deriving DecidableEq, Repr

/-- A write carried by JTAG SERVICE (R368): a register, a table entry or a Scout override. -/
inductive SvcOp where
  | reg (off : Nat) (val : Word)
  | entry (tid idx : Nat) (words : List Word)
  | override (ch : Nat) (start ramp : Int)
  deriving DecidableEq, Repr

/-- One TICK as a member receives it (R383, R386): the field values, the arrival error e of its own boundary in
0.625 ns units, the measured forwarding latency in the same units and whether its CRC holds. -/
structure TickIn where
  ringOk   : Bool
  freeze   : Bool
  masterId : Nat
  swf      : BitVec 16
  delay    : BitVec 16
  frac     : List Nat
  err      : Int
  latency  : Nat
  crcOk    : Bool
  deriving DecidableEq, Repr

/-- One status slot as a member forwards it (R383): header fields, payload words and whether its CRC holds. -/
structure StatusIn where
  id       : Nat
  kind     : Nat
  state    : Nat
  group    : Nat
  chg      : Bool
  tickLock : Bool
  refLoss  : Bool
  p0       : Word
  p1       : Word
  p2       : Nat
  crcOk    : Bool
  deriving DecidableEq, Repr

/-- The commands: the rows of the operation and event table, in the table's order. -/
inductive Instr where
  | aonPor
  | aonPorRelease
  | coreBor
  | coreBorRelease (w : WakeIn)
  | hrstNAssert
  | frameBoundary (f : FrameIn)
  | refLoss
  | vddCoreDroop (level tick : Nat)
  | throttleRelease
  | scoutVinSample (x : VinSample)
  | scoutMuxConversion (raw : Int)
  | holdSample (x : SlowSample)
  | dormantWakeup (x : SlowSample)
  | wakeQualified (w : WakeIn)
  | wakeQualifierAbandon
  | shipComparatorFire (vin : Int)
  | tamperEdgeLatch
  | tamperClear
  | wetClear
  | rtcTick
  | rtcStop
  | rtcOscOk
  | watchExit
  | hdecideLimit
  | wakeScanDone (failed : List Nat)
  | wakeImageLoad (i : ImageIn)
  | wakeCatalogScan (headers : List Nat)
  | wakeDecision
  | stateReqNop (key : BitVec 16) (be : ByteEn)
  | stateReqServiceEnter (key : BitVec 16) (be : ByteEn)
  | stateReqServiceLeave (key : BitVec 16) (be : ByteEn)
  | stateReqEarly (key : BitVec 16) (be : ByteEn)
  | stateReqDiscardComb (key : BitVec 16) (be : ByteEn)
  | stateReqDormant (key : BitVec 16) (be : ByteEn)
  | stateReqShip (key : BitVec 16) (be : ByteEn)
  | stateReqSoftReset (key : BitVec 16) (be : ByteEn)
  | stateReqReserved (cmd : Nat) (key : BitVec 16) (be : ByteEn)
  | postBufferEnter (e : PostEntry)
  | registerWrite (e : PostEntry)
  | hostcfgSyncWrite (data : Word) (be : ByteEn)
  | syncModeStart
  | intStatRead
  | intStatW1c (data : Word) (be : ByteEn)
  | intForceWrite (data : Word) (be : ByteEn)
  | tblAddrWrite (data : Word) (be : ByteEn)
  | tableFetchDone
  | tblDataRead
  | tblDataWrite (data : Word) (be : ByteEn)
  | vinNowRead
  | vstoreNowRead
  | throttleStatRead
  | faultPinCtrlRead
  | rtcSecRead
  | rtcSecWrite (data : Word) (be : ByteEn)
  | mboxH2cWrite (data : Word) (be : ByteEn)
  | mboxC2hRead
  | mboxPing
  | mboxFwVersion
  | mboxLogMark
  | mboxExtension (result : BitVec 8)
  | mboxUnknown
  | unlockRequest (data : Word) (be : ByteEn)
  | unlockResponse (data : Word) (be : ByteEn)
  | unlockRelock (be : ByteEn)
  | unlockTimeout
  | relockExpiry
  | lockoutEnd
  | ringSelWrite (data : Word) (be : ByteEn)
  | ringPortWrite (data : Word) (be : ByteEn)
  | ringPortRead
  | ringDoorbellWrite (data : Word) (be : ByteEn)
  | ringReset (ring : Nat)
  | admitScanDone (t : Nat)
  | mapRecountDone
  | admitWaitExpiry (t : Nat)
  | admitMapWriteDone (t : Nat)
  | cleanScanDone (t : Nat)
  | cleanWriteDone (t : Nat)
  | answerPostDeferred (t : Nat)
  | reserveRelease
  | chargeCtrlStep (be : ByteEn) (data : Word)
  | chargeCtrlRefcap (be : ByteEn) (data : Word)
  | stepTestStep
  | stepTestResult
  | stepTestDueAgain
  | intervalEnd
  | ownGntIsolate (tick : Nat)
  | forcedIsolation
  | refreshDue (rank : Nat)
  | zqcsDue
  | trainStart (be : ByteEn)
  | trainDone (okHost ok2400 : Bool)
  | trickleGo (be : ByteEn)
  | trickleCancel (be : ByteEn)
  | trickleCellCopied (c : Nat)
  | tricklePassEnd
  | cellSaved (lane : Nat)
  | nandProgramStatus (target page : Nat) (pass : Bool)
  | targetTimeout (target : Nat)
  | hSealEnd
  | nandEraseDone (target stripe : Nat) (pass : Bool)
  | verifyCombDone (v : VerifyIn)
  | sweepUnitDone (lane : Nat) (fs : List Footer)
  | demandLookupDone (ring : Nat)
  | restorePageRead (p : PageRead)
  | cellRestored (lane : Nat)
  | endWordRetry (okA okB : Bool)
  | arrayNop (arg : Nat) (be : ByteEn)
  | arrayLdlo (be : ByteEn)
  | arrayLdhi (be : ByteEn)
  | arrayGetlo (be : ByteEn)
  | arrayGethi (be : ByteEn)
  | arrayRead (req : Requester) (be : ByteEn)
  | arrayProgram (req : Requester) (key : BitVec 16) (arg : BitVec 8) (be : ByteEn)
  | arrayErase (req : Requester) (key : BitVec 16) (be : ByteEn)
  | arrayBlank (req : Requester) (be : ByteEn)
  | arraySuspend (req : Requester) (be : ByteEn)
  | arrayResume (req : Requester) (be : ByteEn)
  | arrayReserved (req : Requester) (op : Nat) (be : ByteEn)
  | arrayProgramEnd (pulses : Nat) (ok : Bool)
  | arrayEraseEnd (pulses : Nat) (ok : Bool)
  | eraseSuspendEffect
  | arrayFetch (core : Bool) (addr : Word) (isFetch : Bool)
  | autoResume
  | overlayCommit (be : ByteEn)
  | overlayRevert (be : ByteEn)
  | coreStore (core : Bool) (addr : Word) (size : Nat) (data : Word)
  | coreLoad (core : Bool) (addr : Word) (size : Nat)
  | storePerformed (core : Bool)
  | coreFence (core : Bool)
  | syncException (core : Bool) (cause : ExcCause) (addr : Word)
  | coreInterrupt (core : Bool)
  | h2cTake (core : Bool)
  | c2hPost (core : Bool) (data : Word)
  | dbH2cClear (core : Bool) (data : Word)
  | dbC2hSet (core : Bool) (data : Word)
  | wdogKick (core : Bool) (data : Word)
  | watchdogExpiry (core : Bool)
  | extensionActivation (k : ActKind)
  | extensionSliceExpiry
  | tallyMessage (src kind : Nat) (addr : Word)
  | tallyWindowEnd (src : Nat)
  | faultNPulseEnd
  | degradedExit
  | faultInjectArm (data : Word) (be : ByteEn)
  | faultInjectCancel (be : ByteEn)
  | dropRecordWrite
  | snapRecordWrite
  | lifecycleProvision (key : BitVec 16) (be : ByteEn)
  | lifecycleDeploy (key : BitVec 16) (be : ByteEn)
  | lifecycleRma (key : BitVec 16) (be : ByteEn)
  | lifecycleScrap (key : BitVec 16) (be : ByteEn)
  | lifecycleCmdDone (ok : Bool)
  | keyGen (slot : Nat)
  | keyLoad (idx : Nat) (data : BitVec 16)
  | keyImport (slot : Nat)
  | keyZero (slot : Nat)
  | keyRaiseFw
  | keyRaiseExt
  | keyReservedOp (op : Nat)
  | keyOpDone (ok : Bool)
  | jtagBypass
  | jtagIdcode
  | jtagSamplePreload (bits : List Bool)
  | jtagExtest
  | jtagClamp
  | jtagHighz
  | jtagUnlock (data : Word)
  | jtagObserve (op : ObsOp)
  | jtagService (op : SvcOp)
  | jtagHivedbg (op : DbgOp)
  | jtagScan
  | jtagOtpProg (row : Nat) (val : List Word)
  | jtagReserved (code : Nat)
  | orfortCharRx (c : BitVec 8) (timing : Nat)
  | orfortBreak
  | orfortHe
  | orfortSt
  | orfortRd (off n : Nat)
  | orfortWr (off : Nat) (val : Word)
  | orfortTb (tid idx : Nat)
  | orfortTl (tid idx : Nat) (ws : List Word)
  | orfortAr (off n : Nat)
  | orfortCb (slot : Option Nat)
  | orfortLg (seq : Option Nat) (n : Nat)
  | orfortUlRequest (level : Nat)
  | orfortUlResponse (data : Word)
  | orfortUlRelock
  | orfortOvSet (ch : Nat) (start ramp : Int)
  | orfortOvClear (ch : Nat)
  | orfortOvOff
  | orfortOvList
  | orfortTxDisarm
  | orfortTxLaneout (lane frame : Nat)
  | orfortTxSpoil (bankB ovl : Bool)
  | weaveTickReceive (t : TickIn)
  | weaveStatusReceive (x : StatusIn)
  | weaveSyncLoss
  | masterElection
  | tickLockSet
  | tickLockLoss
  | weaveFrozen
  | peerLiveTimeout (id : Nat)
  | wvTripLineLow
  | hrstNRelease
  | gntDrop
  | weaveSyncRealign
  | nandBringUpDone (b : BringUp)
  | coreRestart (core : Bool)
  deriving DecidableEq, Repr

end Sys2Proof
end

