-- ==== Sys2Proof/Decode.lean ====
section
/-! DEFINITION. The words of the commands: the operation and event table gives no row any bits, so that no word spells a
command. -/

namespace Sys2Proof

/-- The command that a word spells: none, since no row of the table gives bits. -/
def decodeTableWord (_nbits _w : Nat) : Option Instr := none

end Sys2Proof
end

