-- ==== Sys2Proof/Config.lean ====
section
/-! DEFINITION. The values the spec leaves open, as constants with no body (R98, R293, R311, R352, R355, R396 and the
roundings that no rule states). Each is applied to the counter State.free or to the operands it depends on. -/

namespace Sys2Proof.Config

/-- The fresh challenge of an unlock exchange (R98): any 32-bit value. -/
opaque challenge : Nat → BitVec 32

/-- The contents of an array word after a program that ends FAIL or is cut by a loss of power (R293, R311). -/
opaque undefinedWord : Nat → BitVec 64

/-- What a ring word with an uncorrectable error reads as when BAD_ENTRY carries it (R125). -/
opaque ueWord : Nat → BitVec 32

/-- Whether an epoch fuse blow that an AON POR interrupts reads blown. -/
opaque fuseBlown : Nat → Bool

/-- Whether FAULT_N is low at the tick of a read of PIN_NOW while the frame marker runs (R338): ticks 0–49 of 0–99. -/
opaque markLow : Nat → Bool

/-- The tick, modulo 100, at which a register write that raises the throttle's demand takes effect within its frame, which the
write does not tell (R57, R66). -/
opaque writeTick : Nat → Nat

/-- How the ½-degree fields of TEMP_NOW round a temperature between two steps, which no rule states: true takes the upper step. -/
opaque tempRoundUp : Int → Nat → Bool

/-- How TAP_MV and VIEW_VAL round a fraction where no rule states it: true takes the next whole unit up. -/
opaque tapRoundUp : Int → Nat → Bool

/-- The ESR or capacitance of a step test rounds up, where R183 states no resolution. -/
opaque stepRoundUp : Int → Int → Bool

/-- Which of its island's clock sources a domain of AON, FABRIC or TEST uses, which R61 and R62 do not say: true takes the second one. -/
opaque domainAlt : Nat → Bool

/-- FREQ_KHZ of clocks whose value in whole kHz the spec does not give: 0 the 32.768 kHz crystal, 1 HCLK, 2 TCK. -/
opaque clockKhz : Nat → BitVec 24

/-- SOURCE of a domain on the backup oscillator, for which R62 lists no code. -/
opaque backupSource : BitVec 4

/-- The fraction that R390 gives a member when the whole store's energy E_S is 0, for which its quotient has no value. -/
opaque shareOfNothing : Nat → Nat

/-- How the array's sectors 98–99 and 122–125 write a record down, which no rule lays out (R290): by its kind and its value. -/
opaque recordWord : Nat → Nat → BitVec 64

/-- The part's key from its physically unclonable function, and the content of OTP row OTP_SECRET (R352). -/
opaque pufKey : List (BitVec 8)
opaque otpSecret : List (BitVec 8)

/-- The 64-byte XTS key that the n-th GEN made (R354, R355). -/
opaque generatedKey : Nat → List (BitVec 8)

/-- AES-256-XTS as IEEE 1619 defines it, which the spec cites and does not repeat (R232): key, tweak, plaintext. -/
opaque xtsEncrypt : List (BitVec 8) → List (BitVec 8) → List (BitVec 8) → List (BitVec 8)

/-- What the DRAM holds, which is the host's (R200): by the free value's index and the word's byte address, data in [63:0] and
the check byte in [71:64]. -/
opaque dramWord : Nat → Nat → BitVec 72

/-- The LDPC parity of a codeword, whose code no rule gives: its length and the codeword's payload (R249). -/
opaque ldpcParity : Nat → List (BitVec 8) → List (BitVec 8)

/-- The user area of a FILLER page, which no rule states (R253). -/
opaque fillerArea : Nat → List (BitVec 8)

/-- How the header's and the seal's payload lay their fields out, which R255 and R257 only list: the fields in the listed order. -/
opaque headerLayout : List Nat → List (BitVec 8)
opaque sealLayout : List Nat → List (BitVec 8)

/-- What a lane's chain starts from in place of HD while the Comb has no header (R256). -/
opaque noHeader : List (BitVec 8)

/-- Whether the part runs a production firmware build, in which `tx laneout` is not present (R380). -/
opaque productionBuild : Bool

end Sys2Proof.Config
end

