-- ==== Sys2Proof/Machine/Sparse.lean ====
section
/-! DEFINITION. Sparse lists of (key, value) pairs in one canonical form: keys strictly rising and no entry equal to
what an unlisted key reads as; and the small list and number helpers the families share. -/

namespace Sys2Proof.Machine

/-- The value at key k; d k for an unlisted key. -/
def Sparse.get {α : Type} (d : Nat → α) : List (Nat × α) → Nat → α
  | [], k => d k
  | (j, v) :: m, k => if j = k then v else Sparse.get d m k

/-- m with v, no default, at key k. -/
def Sparse.insert {α : Type} : List (Nat × α) → Nat → α → List (Nat × α)
  | [], k, v => [(k, v)]
  | (j, w) :: m, k, v => if j = k then (k, v) :: m else if k < j then (k, v) :: (j, w) :: m else (j, w) :: Sparse.insert m k v

/-- m with v at key k, in canonical form: writing the default removes the entry. -/
def Sparse.put {α : Type} [DecidableEq α] (d : Nat → α) (m : List (Nat × α)) (k : Nat) (v : α) : List (Nat × α) :=
  if v = d k then m.filter (fun p => p.1 != k) else Sparse.insert m k v

/-- m with f applied at key k. -/
def Sparse.modify {α : Type} [DecidableEq α] (d : Nat → α) (m : List (Nat × α)) (k : Nat) (f : α → α) : List (Nat × α) :=
  Sparse.put d m k (f (Sparse.get d m k))

/-- Every key of m is above b. -/
def Sparse.above {α : Type} (b : Nat) : List (Nat × α) → Bool
  | [] => true
  | (j, _) :: _ => decide (b < j)

/-- The canonical form. -/
def Sparse.wf {α : Type} [DecidableEq α] (d : Nat → α) : List (Nat × α) → Bool
  | [] => true
  | (j, v) :: m => decide (v ≠ d j) && Sparse.above j m && Sparse.wf d m

/-- Saturating increment. -/
def satInc (max n : Nat) : Nat := if n < max then n + 1 else n

/-- n ÷ d rounded up. -/
def ceilDiv (n d : Nat) : Nat := (n + d - 1) / d

/-- 1 for true. -/
def b2n (b : Bool) : Nat := if b then 1 else 0

/-- The numbers of ns, each once, in rising order. -/
def insertNat (n : Nat) : List Nat → List Nat
  | [] => [n]
  | m :: ms => if n = m then m :: ms else if n < m then n :: m :: ms else m :: insertNat n ms

/-- ns without n. -/
def removeNat (n : Nat) (ns : List Nat) : List Nat := ns.filter (· != n)

end Sys2Proof.Machine
end

