-- ==== Sys2Proof/Machine/State.lean ====
section
/-! DEFINITION. The state of the JS-6400, block by block as the chapters give it, as plain data, and its value right
after an AON POR. A structure's default values are its reset values: the Reset columns of the register tables (R8),
and for what the spec gives no reset value the values that the assumption log names. Sparse lists of pairs are kept in
the canonical form of Machine/Sparse.lean. -/

namespace Sys2Proof.Machine

/-- No command of this block stops the machine with a fault of its own: the part reports faults as Tally messages and
register bits, which are effects. -/
inductive Fault
  deriving DecidableEq, Repr

/-- Why a command has no meaning. -/
inductive Refusal where
  /-- raised by an arm of exec whose command is not modelled yet: safe -/
  | notModelled (mnemonic : String)
  /-- raised by a Hive core access to 0x8000_0000–0x80FF_FFFF, the firmware-side registers of the device blocks, whose
  contents and effects the spec does not give (R312): safe -/
  | firmwareRegister
  deriving DecidableEq, Repr

/-- The top-level states (R18). -/
inductive DevState where
  | off | dormant | wake | guard | watch | harvest | hold | ret | early | service
  deriving DecidableEq, Repr

/-- The phases within WAKE, HARVEST, RETURN and EARLY (Table: Phase codes). -/
inductive Phase where
  | none | scan | image | catalog | hDecide | hIsolate | hDrain | hSeal
  | verify | waitGnt | critical | bulk | done
  deriving DecidableEq, Repr

/-- Lifecycle states (R349). -/
inductive Lifecycle where
  | blank | provisioned | deployed | rma | scrapped
  deriving DecidableEq, Repr

/-- A filtered value, exact: num ÷ 2^exp, in mV or m°C (R156). -/
structure Dyadic where
  num : Int := 0
  exp : Nat := 0
  deriving DecidableEq, Repr

/-- An accepted STATE_REQ that takes effect at the next boundary (R20). -/
inductive ReqAction where
  | serviceEnter | serviceLeave | early | discard | dormant | ship | softReset
  deriving DecidableEq, Repr

/-- What has qualified in the frame under way and decides the state at its end (R24). Levels that stay qualified are
read from their own blocks. -/
structure Trig where
  tamper    : Bool := false
  wet       : Bool := false
  pg        : Bool := false
  trip      : Bool := false
  pretrip   : Bool := false
  warn      : Bool := false
  abort     : Bool := false
  limit     : Bool := false
  phaseEnd  : Bool := false
  watchExit : Bool := false
  req       : Option ReqAction := none
  /-- X bits of the TRIP record for the causes that newly qualified in the frame (R347, R388) -/
  causes    : BitVec 8 := 0
  /-- TRIP, a wet-trip, PG_FAIL or TAMPER has newly qualified in the frame, in whatever state (R190) -/
  ends      : Bool := false
  /-- a WAKE that follows a relock from D-OPEN (R366) or a lifecycle command (R350) -/
  softWake  : Bool := false
  deriving DecidableEq, Repr

/-- The top-level state and CONFIG_STAT (02). -/
structure Top where
  state     : DevState := .off
  phase     : Phase := .none
  ship      : Bool := false
  combPend  : Bool := false
  cause     : Nat := 0
  prev      : Nat := 0
  /-- frames completed in the present state and in the present phase -/
  inState   : Nat := 0
  inPhase   : Nat := 0
  coreBor   : Bool := false
  /-- the WAKE work done so far: flag scan, image load, catalog scan, decision -/
  wakeStep  : Nat := 0
  trig      : Trig := {}
  /-- EARLY accepted in the previous frame: the preparation frame runs (R20) -/
  earlyPrep : Bool := false
  /-- DISCARD_COMB accepted while the DRAM was owned: frames of hand-back left (R288) -/
  discardIn : Option Nat := none
  /-- the post-TRIP window (R82) -/
  window    : Bool := false
  /-- no DIRTY entry is consumed since the trip frame (R25) -/
  dirtyStop : Bool := false
  reject    : Bool := false
  reqErr    : Bool := false
  ueWrite   : Bool := false
  postRej   : Bool := false
  ovlBad    : List Nat := []
  baseAlt   : Bool := false
  baseNone  : Bool := false
  lastRej   : Nat := 0
  reqReason : Nat := 0
  deriving DecidableEq, Repr

/-- One 16-byte record of an image (R34). -/
structure ImgRec where
  tid   : Nat
  idx   : Nat
  off   : Nat
  mask  : Word
  value : Word
  watch : Bool
  deriving DecidableEq, Repr

/-- Configuration fields, the overlay in force and the staged images (R34 to R44). -/
structure Conf where
  /-- the value in force of every configurable word; keys by Machine/Operands.lean, default its Reset column -/
  cur     : List (Nat × Word) := []
  /-- the most recently written value of the same words (R40) -/
  shadow  : List (Nat × Word) := []
  /-- base values: what the latest WAKE left in the configurable words (R36) -/
  base    : List (Nat × Word) := []
  /-- records of the overlay in force -/
  ovl     : List ImgRec := []
  /-- the valid overlays found at the latest WAKE or commit: image ID and records -/
  images  : List (Nat × List ImgRec) := []
  /-- staged copies: word number image × 1024 + i, default all ones -/
  staged  : List (Nat × Word) := []
  edited  : List Nat := []
  /-- table words, by key, whose storage holds an uncorrectable or a correctable error -/
  tblUe   : List Nat := []
  tblCe   : List Nat := []
  /-- the image being committed (OVERLAY_SEL.BUSY) and the words still to write -/
  commit  : Option Nat := none
  deriving DecidableEq, Repr

/-- One ledger account (R54 to R60). -/
structure Acct where
  usedNow  : Nat := 0
  usedLast : Nat := 0
  usedMax  : Nat := 0
  splits   : Nat := 0
  refusals : Nat := 0
  overruns : Nat := 0
  carry    : Nat := 0
  deriving DecidableEq, Repr

/-- What a ledger item does when its ticks have been spent. -/
inductive Work where
  | admitScan (t : Nat)
  | admitWrite (t ord first count : Nat)
  | cleanScan (t : Nat)
  | cleanWrite (t ord first count : Nat)
  | recount
  /-- the H-SEAL scan of the Trickle windows (R259) -/
  | trickleScan
  | demandLookup (ring : Nat)
  | hiveTask (core : Bool)
  | extension
  | eraseStripe (target stripe : Nat)
  deriving DecidableEq, Repr

/-- A queued work item: resource, ticks still to charge, granule (0: not splittable) and its work (R54). A Hive
item's cost is in core cycles until it is considered. -/
structure Item where
  res    : Nat
  cost   : Nat
  gran   : Nat
  cycles : Nat
  work   : Work
  deriving DecidableEq, Repr

/-- The frame generator, TIME, the throttle and the ledger (03). -/
structure FrameB where
  epoch      : Epoch := 0
  running    : Bool := false
  rem        : Nat := 0
  stopTick   : Nat := 0
  wakeEpoch  : Epoch := 0
  gapSec     : Nat := 0
  refLoss    : Bool := false
  refLossCnt : Nat := 0
  /-- EPOCH[47:32] as the host's and Orfort's index-0 reads latched it -/
  latchHi    : BitVec 16 := 0
  orfHi      : BitVec 16 := 0
  /-- D in force, coded 0 ÷1 to 3 ÷8 -/
  div        : Nat := 0
  /-- droop comparator level now: 0 none, 1 below 0.785 V, 2 below 0.770 V, 3 below 0.755 V -/
  vdd        : Nat := 0
  /-- held demand conditions with the frames each has been absent: 0 Tj135, 1 Tj145, 2 V785, 3 V770, 4 V755,
  5 VST 0.25, 6 VST 0.125, 7 TEST_DHW -/
  held       : List (Nat × Nat) := []
  polOvr     : Bool := false
  ovrCount   : Nat := 0
  inEpisode  : Bool := false
  acct       : List (Nat × Acct) := []
  queue      : List Item := []
  /-- items whose ticks are all spent and whose end has not been acted on -/
  done       : List Item := []
  deriving DecidableEq, Repr

/-- The host interface (04). -/
structure HostB where
  sync      : Bool := false
  /-- SYNC = 1 has been written and synchronous mode has not started (R72) -/
  syncWait  : Bool := false
  hrst      : Bool := false
  post      : List PostEntry := []
  /-- a write held by HRDY because the buffer is full (R79) -/
  waiting   : Option PostEntry := none
  /-- model's output field: the data of the latest completed read -/
  hd        : Word := 0
  io33      : Bool := false
  intStat   : BitVec 15 := 0
  intFrame  : BitVec 15 := 0
  watch     : Bool := false
  watchSet  : BitVec 15 := 0
  hint      : Bool := false
  /-- falling edges of HINT_N made so far, re-arm pulses included -/
  hintEdges : Nat := 0
  mboxOvf   : Bool := false
  partErr   : Bool := false
  h2c       : Word := 0
  h2cFull   : Bool := false
  /-- the message a core has taken and firmware has not answered (R96) -/
  taken     : Option Word := none
  /-- core B took it -/
  takenB    : Bool := false
  c2h       : Word := 0
  c2hFull   : Bool := false
  dbH2c     : Word := 0
  dbC2h     : Word := 0
  tblTid    : Nat := 0
  tblIdx    : Nat := 0
  tblWord   : Nat := 0
  tblInc    : Bool := false
  tblBusy   : Bool := false
  tblErr    : Bool := false
  tblCode   : Nat := 0
  latch     : List Word := []
  stagedBe  : List ByteEn := []
  latchUe   : Bool := false
  deriving DecidableEq, Repr

/-- A 16-byte ring entry (R107): its words, which of them hold an uncorrectable or a correctable error, its slot in its
ring, and its place in publish order (R121). -/
structure Entry where
  w0  : Word
  w1  : Word
  w2  : Word
  w3  : Word
  ueW : List Nat := []
  ceW : List Nat := []
  slot : Nat := 0
  ord : Nat := 0
  deriving DecidableEq, Repr

/-- The changing part of one ring (R104 to R112). -/
structure Ring where
  part    : List Word := []
  partUe  : List Nat := []
  partCe  : List Nat := []
  /-- the slot that the next entry takes -/
  nextSlot : Nat := 0
  staged  : List Entry := []
  /-- published this frame, considered from the next (R112) -/
  fresh   : List Entry := []
  pub     : List Entry := []
  unread  : List Entry := []
  rdWord  : Nat := 0
  doneCnt : Nat := 0
  badDrop : Nat := 0
  dbErr   : Nat := 0
  lastBad : Nat := 0
  discard : Bool := false
  /-- 1: a reset was asked for in this frame (R106) -/
  reset   : Nat := 0
  deriving DecidableEq, Repr

/-- A decision on a producer entry that has still to write the map or to be answered (R115, R116, R141). -/
inductive Verdict where
  | accept
  | refuse (reason : Nat)
  | cleaned
  | bad (code : Nat)
  | demandDone (status : Nat)
  deriving DecidableEq, Repr

/-- Where a producer entry stands. -/
inductive Stage where
  | waiting
  | scanning
  /-- scanned, and still undecided for want of room, of ticks or of a state that decides it -/
  | ready
  | held
  | writing
  | decided (v : Verdict)
  deriving DecidableEq, Repr

/-- A pending DIRTY entry (R113): its stage, the n its scan found and the frames it has been held. -/
structure Pend where
  e     : Entry
  stage : Stage := .waiting
  n     : Nat := 0
  wait  : Nat := 0
  /-- held under R139: its own energy test failed -/
  byNeed : Bool := false
  deriving DecidableEq, Repr

/-- The changing part of one tenant (R100) with its pending entries and its head CLEAN entry's stage. -/
structure Tenant where
  dirtyNow   : Nat := 0
  admitCnt   : Nat := 0
  refuseCnt  : Nat := 0
  lastRefuse : Nat := 0
  badCnt     : Nat := 0
  pend       : List Pend := []
  clean      : Stage := .waiting
  /-- cells saved by the Harvest, trickled by the pass, restored in CRITICAL and in BULK -/
  saved      : Nat := 0
  trickled   : Nat := 0
  restC      : Nat := 0
  restB      : Nat := 0
  deriving DecidableEq, Repr

/-- An answer decided and not yet posted whose entry has left its ring (R106, R114): it is ready once the map shows what it
says. -/
structure Answer where
  tenant : Nat
  kind   : Nat
  e      : Entry
  v      : Verdict
  ready  : Bool
  deriving DecidableEq, Repr

/-- An unsolicited event to post (R117). -/
structure Unsol where
  tenant : Nat
  op     : Nat
  flags  : Nat
  tag    : BitVec 16
  w1     : Word
  w2     : Word
  deriving DecidableEq, Repr

/-- Deferred work on resource 12 (R55, R114): an event to post, or a ring whose head is to be decided or answered. -/
inductive RingWork where
  | post (u : Unsol)
  | serve (ring : Nat)
  deriving DecidableEq, Repr

/-- Tenants, rings and the pending list (05). -/
structure RingB where
  rings    : List (Nat × Ring) := []
  tenants  : List (Nat × Tenant) := []
  portErr  : Bool := false
  cause    : Nat := 0
  dbErr    : Bool := false
  answers  : List Answer := []
  /-- unsolicited events of the frame under way, which follow its answers (R120), and RINGS work deferred for want of ticks -/
  unsol    : List Unsol := []
  late     : List RingWork := []
  pubSeq   : Nat := 0
  /-- per rank, the tenant served last; 63 at first, so that service starts with tenant 0 (R123) -/
  lastServ : List (Nat × Nat) := []
  deriving DecidableEq, Repr

/-- Admission Guard (06). -/
structure GuardB where
  /-- cell ↦ STATE in [1:0] and GEN in [3:2]; unlisted cells are CLEAN with GEN 0 (R126) -/
  map       : List (Nat × Nat) := []
  ueWords   : List Nat := []
  ceWords   : List Nat := []
  dirtyTotal : Nat := 0
  trickledTotal : Nat := 0
  ocActive  : Bool := false
  polOvr    : Bool := false
  short     : Bool := false
  recount   : Bool := false
  now       : Nat := 0
  need      : Nat := 0
  credit    : Nat := 0
  ocEpisode : Bool := false
  /-- a term of the model has fallen, and ENERGY_NEED exceeds ENERGY_NOW since (R145) -/
  fell      : Bool := false
  lowArmed  : Bool := true
  lowCnt    : Nat := 0
  deriving DecidableEq, Repr

/-- The frames in which the triggers of a Harvest last qualified (R203). -/
structure QualAt where
  tamper  : Epoch := 0
  wet     : Epoch := 0
  pg      : Epoch := 0
  trip    : Epoch := 0
  pretrip : Epoch := 0
  deriving DecidableEq, Repr

/-- Scout (07). -/
structure ScoutB where
  /-- filter value per channel: 0 VIN, 1 VSTORE, 2–14 CT0–CT12, 15 die, 16 TH0, 17 TH1, 18 VAON_IN, 19 reference -/
  filt      : List (Nat × Dyadic) := []
  /-- channels whose first conversion has been made -/
  loaded    : List Nat := []
  pub       : List (Nat × Dyadic) := []
  /-- whether TH0 and TH1 were faulted at the publication -/
  pubF0     : Bool := false
  pubF1     : Bool := false
  hist      : List Dyadic := []
  /-- qualifier counts, numbered by Machine/Flags.lean -/
  cnt       : List (Nat × Nat) := []
  warnQ     : Bool := false
  tripQ     : Bool := false
  pretripQ  : Bool := false
  pgFail    : Bool := false
  pgArmed   : Bool := false
  vgood     : Bool := false
  wetQ      : Bool := false
  tamperQ   : Bool := false
  storeLow  : Bool := false
  thrDef    : Bool := false
  warnSeen  : Bool := false
  tripSeen  : Bool := false
  backup    : Bool := false
  qualAt    : QualAt := {}
  watchEpi  : Nat := 0
  talarm    : Bool := false
  talarmQ   : Bool := false
  th0Fault  : Bool := false
  th1Fault  : Bool := false
  adcChk    : Bool := false
  adcChkQ   : Bool := false
  rtcStop   : Bool := false
  wetSeen   : Bool := false
  tamperSeen : Bool := false
  shipWoke  : Bool := false
  /-- MIN of VIN_NOW and VSTORE_NOW; none before the first sample and right after clearing (reads 0) -/
  vinMin    : Option Nat := none
  vstMin    : Option Nat := none
  tallyTrip : Bool := false
  swarmTrip : Bool := false
  muxPos    : Nat := 0
  muxAlt    : Bool := false
  raised    : Bool := false
  raisedCnt : Nat := 0
  qualDone  : Bool := false
  /-- every VIN sample of the frame under way so far met VGOOD, and the frame holds a sample -/
  frameGood : Bool := false
  frameAny  : Bool := false
  /-- consecutive good frames (R157) -/
  goodFrames : Nat := 0
  /-- RC cycles since HOLD was entered, and when VSTORE and the temperatures are next due (R152) -/
  holdRc    : Nat := 0
  vstAt     : Nat := 0
  tmpAt     : Nat := 0
  /-- the ship comparator has fired since the last exit from DORMANT -/
  shipFired : Bool := false
  dormCnt   : Nat := 0
  edge      : Bool := false
  /-- RTC ticks since TAMPER_N last read low and since WET_SNS last read high -/
  tamHigh   : Nat := 0
  wetLow    : Nat := 0
  killMade  : Bool := false
  /-- AON copies: VSTORE_MIN in 0.1 V (R173) -/
  vminAon   : Nat := 110
  /-- overrides: channel ↦ value now and ramp per sample; channels 20 HOST_PG_N, 21 WET_SNS, 22 TAMPER_N (R171) -/
  ovr       : List (Nat × (Int × Int)) := []
  rtcSec    : Word := 0
  rtcTick   : Nat := 0
  rtcLatch  : Nat := 0
  oscOk     : Bool := false
  trimTicks : Nat := 0
  /-- ticks still to drop (R170) -/
  trimDrop  : Nat := 0
  freeTicks : Nat := 0
  xtal      : Bool := false
  pwrEn     : Bool := false
  deriving DecidableEq, Repr

/-- Sums of a least-squares line through samples (x in conversions of 50 µs, y in mV). -/
structure Fit where
  n   : Int := 0
  sx  : Int := 0
  sxx : Int := 0
  sy  : Int := 0
  sxy : Int := 0
  deriving DecidableEq, Repr

/-- The step test (R182, R183). -/
structure StepTest where
  due     : Bool := false
  refcap  : Bool := false
  /-- 0 none, 1 bleed, 2 BASE, 3 RAMP -/
  stage   : Nat := 0
  /-- frames and multiplexed conversions since s+0, and the conversions at t_s -/
  frames  : Nat := 0
  k       : Nat := 0
  ts      : Nat := 0
  againAt : Option Epoch := none
  /-- per channel, the fit under way and the BASE fit -/
  fits    : List (Nat × Fit) := []
  base    : List (Nat × Fit) := []
  /-- sum of I_meas in mA and frames of the RAMP fit -/
  isum    : Nat := 0
  inum    : Nat := 0
  deriving DecidableEq, Repr

/-- The store and the Charge Governor (08). -/
structure StoreB where
  mode      : Nat := 0
  polOvr    : Bool := false
  grade     : Nat := 0
  cValid    : Bool := false
  testWait  : Bool := false
  chgFault  : Bool := false
  /-- the charger is held off by R178 -/
  chgHold   : Bool := false
  cellOv    : Bool := false
  cfgBad    : Bool := false
  cellFail  : Bool := false
  testFail  : Bool := false
  chgEn     : Bool := false
  /-- I_ref in 1/16 mA: full scale 200,000 -/
  duty      : Nat := 0
  /-- bleeders driven: i for the excess over the mean, 16 + i for the 2.70 V limit, 32 + i before a step test -/
  bal       : List Nat := []
  /-- I_meas and I_pol in mA -/
  iMeas     : Nat := 0
  iPol      : Nat := 0
  /-- consecutive frames of the OC condition (R178) -/
  ocCnt     : Nat := 0
  /-- measured C in 0.01 F, ESR_25 in 0.1 mΩ since WAKE; the array's ESR_25 and ESR_REF (non-volatile) -/
  cMeas     : Nat := 0
  esr25     : Nat := 0
  nvEsr25   : Option Nat := none
  nvEsrRef  : Nat := 0
  test      : StepTest := {}
  reserve   : Bool := false
  /-- consecutive frames with ENERGY_NOW at or above E_ADM × 17 ÷ 16, up to 256 -/
  margin    : Nat := 0
  eAdm      : Nat := 0
  win       : Nat := 31
  intOpen   : Bool := false
  intLate   : Bool := false
  intStart  : Word := 0
  /-- an aligned end, or a write of RTC_SEC, in the frame under way -/
  intMark   : Bool := false
  rtcSet    : Bool := false
  /-- energy of the open interval, and of the records closed in the aligned interval closedIdx, in µW·frames -/
  eInt      : Nat := 0
  eClosed   : Nat := 0
  closedIdx : Nat := 0
  /-- per TARIFF entry, energy of week weekNo in µW·frames -/
  eWeek     : List (Nat × Nat) := []
  weekNo    : Nat := 0
  heldOff   : Bool := false
  polEpi    : Bool := false
  /-- the next frame of a charger-running state opens a LATE interval (R191) -/
  lateNext  : Bool := true
  deriving DecidableEq, Repr

/-- An event on the switches or the DRAM's lines (R202, R203, R207 to R209, R213, R214). -/
inductive BusEv where
  /-- DSW_OE_N high or low; DSW_SEL to the device (true) or the host -/
  | oe (high : Bool)
  | sel (dev : Bool)
  /-- CK runs or stops; RESET_N high, CS_N high, CKE low -/
  | clock (on : Bool)
  | idleLines
  | selfRefExit
  | selfRefEnter
  | prechargeAll
  /-- n REFRESH to a rank -/
  | refresh (rank n : Nat)
  | lastData
  /-- the DDR PLL at a frequency in MHz -/
  | pll (mhz : Nat)
  /-- MRS of a register, with DLL reset or without -/
  | mrs (reg : Nat) (val : Word) (dllReset : Bool)
  | zqcl
  | ownReq (high : Bool)
  deriving DecidableEq, Repr

/-- DRAM ownership and Trickle (09). -/
structure DramB where
  dswDev    : Bool := false
  dswOeHigh : Bool := true
  /-- OWN_REQ from tick 50 of the frame under way on, and before it (R204) -/
  ownReq    : Bool := false
  reqWas    : Bool := false
  gnt       : Bool := false
  owned     : Bool := false
  rate2400  : Bool := false
  /-- isolating takeover: 0 switches not open, 1 opened, 2 DSW_SEL changed, 3 PRECHARGE ALL issued, 4 downshift frame;
  5 the entry frame was owned already, 6 retained ownership -/
  iso       : Nat := 0
  /-- frames since the trigger's frame T -/
  sinceT    : Nat := 0
  /-- the frame under way carries the downshift of R213 -/
  shift     : Bool := false
  /-- the DRAM goes back to the host: 0 no, 1 this frame carries the upshift, 2 this frame carries the release -/
  hand      : Nat := 0
  forced    : Bool := false
  gntIgn    : Bool := false
  slotMiss  : Nat := 0
  takeovers : Nat := 0
  debt      : List (Nat × Nat) := []
  /-- the frame under way is the first one of an orderly takeover (R208) -/
  taken     : Bool := false
  /-- per rank, the time since its latest tREFI expiry, in half ticks (R210) -/
  refAcc    : List (Nat × Int) := []
  /-- owned frames since the latest ZQCS (R210) -/
  zqFrames  : Nat := 0
  /-- what the device drives on the switches and the DRAM's lines in the frame under way, with the ticks the rules give -/
  bus       : List (Option Nat × BusEv) := []
  selfRef   : Bool := false
  training  : Bool := false
  /-- the training of GEOM.SPEED is over and that of 2400 MT/s runs; a rate has failed (R215) -/
  train2    : Bool := false
  trainBad  : Bool := false
  trainFail : Bool := false
  /-- stored training sets: the DDRMR index 7 writable fields each was trained under (non-volatile) -/
  setHost   : Option Word := none
  set2400   : Option Word := none
  readyWas  : Bool := false
  active    : Bool := false
  imgOpen   : Bool := false
  cut       : Bool := false
  nextCell  : Nat := 0
  /-- cells of the pass whose bytes are in page registers and whose programs have still to report (R219) -/
  copying   : List Nat := []
  /-- windows of the armed Comb's Trickle passes: first and count (R259) -/
  passes    : List (Nat × Nat) := []
  deriving DecidableEq, Repr

/-- A page that waits for its program unit: its cell and quarter (R248), and the KIND of its footer (R250): 2 DATA, 3 REWRITE,
6 TRICKLE. -/
structure WaitPage where
  cell    : Nat
  quarter : Nat
  kind    : Nat
  deriving DecidableEq, Repr

/-- A page as a lane programs it: what its footer names (Table: Page footer). KIND 1 HEADER, 2 DATA, 3 REWRITE, 4 FILLER,
5 SEAL, 6 TRICKLE. -/
structure PageOut where
  combId  : Nat
  lane    : Nat
  kind    : Nat
  tenant  : Nat
  quarter : Nat
  cell    : Nat
  lseq    : Nat
  chain   : List (BitVec 8)
  deriving DecidableEq, Repr

/-- A lane's chain (R256): the LSEQ of its latest page and H of it. -/
structure Chain where
  lseq : Nat := 0
  tail : List (BitVec 8) := []
  deriving DecidableEq, Repr

/-- A lane of Harvest or of a Trickle pass: dispatched cells whose last byte has not entered a page register, with the bytes
moved for them, and pages that have not yet filled a program unit. -/
structure Lane where
  cells : List Nat := []
  moved : Nat := 0
  out   : Bool := false
  pages : List WaitPage := []
  /-- the target in turn, counted within the channel -/
  turn  : Nat := 0
  deriving DecidableEq, Repr

/-- A NAND program unit awaiting status: target, stripe, last page index, its pages, and the frame in which it was issued (R251,
R253, R254). -/
structure ProgUnit where
  target : Nat
  stripe : Nat
  page   : Nat
  pages  : List PageOut
  since  : Epoch
  deriving DecidableEq, Repr

/-- What a Comb's header holds of the trip frame (R255): EPOCH, RTC_SEC, the cause flags of TRIP_SEEN, NANDGEOM entry 0, DDRMR
index 7, the active lane mask, DIRTY_TOTAL, and per tenant word 0, PART_BASE and PART_LAST. -/
structure HeaderRec where
  combId  : Nat
  epoch   : Epoch
  rtcSec  : Word
  causes  : Nat
  geom    : List Word
  ddr     : Word
  lanes   : Nat
  dirty   : Nat
  tenants : List (Word × Nat × Nat)
  deriving DecidableEq, Repr

/-- Harvest (10). -/
structure HarvB where
  /-- HARVEST_STAT.PHASE -/
  phase    : Nat := 0
  cutoff   : Bool := false
  loss     : Bool := false
  wet      : Bool := false
  trickle  : Bool := false
  catFail  : Bool := false
  saved    : Nat := 0
  lost     : Nat := 0
  atRisk   : Nat := 0
  combId   : Nat := 0
  plan     : List Nat := []
  /-- cells that a lane gave back: they go before the plan (R236) -/
  back     : List Nat := []
  /-- the dispatch scan (R230): the age class and cell it reads next, and cells it has read beyond them -/
  scanKey  : Nat := 1000
  scanCell : Nat := 0
  scanned  : Nat := 0
  /-- frames since CRYPT powered up, up to 2: with 2 it holds every enabled tenant's key (R233) -/
  keyFrames : Nat := 0
  /-- what the trip frame left for the header (R255), the header itself, and the page of S_A's seal stripe that it takes -/
  trip     : Option HeaderRec := none
  header   : Option HeaderRec := none
  hdrPage  : Nat := 0
  /-- bits of the Trickle bitmap, in pass order (R259) -/
  bitmap   : List Bool := []
  trkScan  : Bool := false
  lanes    : List (Nat × Lane) := []
  lastLane : Nat := 7
  lossList : List CellRun := []
  /-- for a Harvest with no armed Comb, the cells each lane's erased stripes can still take (R264) -/
  caps     : Option (List (Nat × Nat)) := none
  /-- causes of the trip that began it: X bits of the TRIP record -/
  causes   : BitVec 8 := 0
  tripEpoch : Epoch := 0
  /-- H-SEAL work: 0 waiting for program status, 1 seal copies, 2 SEAL word, 3 done (R237) -/
  sealStep : Nat := 0
  /-- seal pages, by target and page, that await status, and the targets whose copy has lost a page (R257) -/
  sealWait : List (Nat × Nat) := []
  sealFail : List Nat := []
  /-- the seal as it is written (R257) -/
  sealBytes : List (BitVec 8) := []
  sealOk   : Bool := false
  isStop   : Bool := false
  killLater : Bool := false
  wasWet   : Bool := false
  deriving DecidableEq, Repr

/-- One target (R245, index 10–41). -/
structure Target where
  next  : Nat := 0
  laps  : Nat := 0
  bad   : List Nat := []
  out   : Bool := false
  id    : Word := 0
  fails : Nat := 0
  deriving DecidableEq, Repr

/-- One channel's counters (R245, index 2–9). -/
structure Channel where
  present  : Nat := 0
  out      : Bool := false
  progFail : Nat := 0
  erFail   : Nat := 0
  cwCorr   : Nat := 0
  cwUnc    : Nat := 0
  deriving DecidableEq, Repr

/-- One catalog entry (R265): what its programmed words hold. Slots 0–127 lie in sector 120, 128–255 in sector 121. -/
structure CatEntry where
  slot     : Nat
  combId   : Nat
  dense    : Bool := false
  seq      : Nat := 0
  armEpoch : Epoch := 0
  /-- the first reserved stripe of each target -/
  firsts   : List Nat := []
  stripes  : Nat := 0
  trkRes   : Nat := 0
  sA       : Nat := 0
  sB       : Nat := 0
  opened   : Bool := false
  openEpoch : Epoch := 0
  sealed   : Bool := false
  saved    : Nat := 0
  lost     : Nat := 0
  cutoff   : Bool := false
  wet      : Bool := false
  trickle  : Bool := false
  /-- 0 not ended, 1 RETURNED, 2 DISCARDED, 3 VOID -/
  ended    : Nat := 0
  endEpoch : Epoch := 0
  deriving DecidableEq, Repr

/-- The Comb on NAND (11). -/
structure NandB where
  valid    : Bool := false
  geomErr  : Nat := 0
  /-- kept values (non-volatile): GEOM_SEQ and the writable NANDGEOM words it was computed for -/
  seq      : Nat := 0
  kept     : List (Nat × Word) := []
  chans    : List (Nat × Channel) := []
  /-- per target; next, laps and bad are non-volatile -/
  targets  : List (Nat × Target) := []
  broughtUp : Bool := false
  bringUp  : Bool := false
  power    : Bool := false
  armed    : Bool := false
  prep     : Bool := false
  prepHeld : Bool := false
  /-- the reservation under preparation: its entry, (target, stripe) pairs still to erase, and erased pairs -/
  prepEntry : Option CatEntry := none
  prepLeft : List (Nat × Nat) := []
  prepDone : List (Nat × Nat) := []
  /-- the re-arming of an ARMED entry waits for stripes to be erased again (R262) -/
  prepRearm : Bool := false
  /-- factory marks, as NAND shows them to a scan, target and stripe (R261) -/
  marks    : List (Nat × Nat) := []
  catAlt   : Bool := false
  bbmScan  : Bool := false
  /-- GEOM_SEQ for which the bad-stripe map was built (non-volatile) -/
  bbmSeq   : Nat := 0
  units    : List ProgUnit := []
  /-- per target, the stripes of the Comb being written that its pages still go to, in order, and the next page index in the
  first of them; in dense mode Trickle pages have stripes of their own (R251, R252) -/
  fill     : List (Nat × List Nat) := []
  pageAt   : List (Nat × Nat) := []
  trkFill  : List (Nat × List Nat) := []
  trkAt    : List (Nat × Nat) := []
  /-- the lanes' chains in the Comb being written (R256), and the stripes found bad while it was written (R254, R257) -/
  chains   : List (Nat × Chain) := []
  badFound : List (Nat × Nat) := []
  /-- cells with a page to write again (R254) -/
  rewrites : List Nat := []
  /-- the catalog as scanned and programmed, in slot order -/
  catalog  : List CatEntry := []
  /-- lane-out orders of tx laneout: lane and frame (R380) -/
  laneOut  : List (Nat × Nat) := []
  deriving DecidableEq, Repr

/-- One LOSTCELL entry (12), with the words of it that hold an uncorrectable or a correctable error. -/
structure Lost where
  run    : CellRun
  cause  : Nat
  combId : Nat
  stamp  : Epoch
  ueW    : List Nat := []
  ceW    : List Nat := []
  deriving DecidableEq, Repr

/-- The pages of a return-set cell that a lane's chain holds: the lane, the first LSEQ and the quarters as swept. -/
structure LaneCopy where
  lane : Nat
  lseq : Nat
  occ  : List Nat
  deriving DecidableEq, Repr

/-- One return-set cell: its Comb, lane, tenant, whether the tenant is CRITICAL in the snapshot, its first LSEQ, and
whether the locator holds it. -/
structure RCell where
  combId : Nat
  lane   : Nat
  tenant : Nat
  crit   : Bool
  lseq   : Nat
  located : Bool := true
  /-- the quarters of its pages as swept on that lane, what other lanes' chains hold of it (a lane that was declared out), and the
  quarters of its accepted and of its rejected pages -/
  occ    : List Nat := []
  rest   : List LaneCopy := []
  acc    : List Nat := []
  bad    : List Nat := []
  /-- 1 unrestored, 2 restored, 3 lost -/
  status : Nat := 1
  deriving DecidableEq, Repr

/-- A locator run of whole cells (R274), stride 0 while it holds one cell. -/
structure LocRun where
  lseq   : Nat
  first  : Nat
  count  : Nat
  stride : Nat
  deriving DecidableEq, Repr

/-- A DEMAND entry in service (R283): ring, entry, whether its lookup has ended, cells still to resolve, and whether it
waits for DONE. -/
structure Demand where
  ring   : Nat
  e      : Entry
  looked : Bool := false
  left   : List Nat := []
  tillDone : Bool := false
  deriving DecidableEq, Repr

/-- Return (12). -/
structure RetB where
  /-- RETURN_STAT.PHASE -/
  phase    : Nat := 0
  sealed   : Bool := false
  locFull  : Bool := false
  tailErr  : Bool := false
  stacked  : Bool := false
  setValid : Bool := false
  pending  : List Nat := []
  verified : List Nat := []
  unsealed : List Nat := []
  hdrs     : List (Nat × CombHdr) := []
  sealsOf  : List (Nat × SealInfo) := []
  /-- per Comb × 8 + lane: chains wholly swept, pages swept, CRIT_END, and the locator run that grows -/
  swept    : List Nat := []
  pagesAt  : List (Nat × Nat) := []
  critEnd  : List (Nat × Nat) := []
  runs     : List (Nat × LocRun) := []
  locUsed  : Nat := 0
  /-- return-set cells by cell number -/
  cells    : List (Nat × RCell) := []
  lost     : List Lost := []
  overflow : List (Nat × Lost) := []
  demands  : List Demand := []
  /-- cells in flight, oldest first; per lane the ticks of its sweep and the bytes of its restore not yet used -/
  flight   : List Nat := []
  ticks    : List (Nat × Nat) := []
  moved    : List (Nat × Nat) := []
  topId    : Nat := 0
  critDone : Bool := false
  /-- what RETURN_STAT still shows of a Return after SOFT_RESET has cleared the return RAM (R270, R287): LOSS and the counts restored,
  lost and remaining -/
  shown    : Option (Bool × Nat × Nat × Nat) := none
  /-- every return-set cell is resolved -/
  bulkDone : Bool := false
  /-- Combs whose END RETURNED word is not yet in place, and the frames until a failed one is tried again -/
  endsLeft : List Nat := []
  endRetry : Option Nat := none
  deriving DecidableEq, Repr

/-- An array operation queued, running or suspended (R292): requester, erase or program, word or sector offset,
data and byte mask, and frames run so far. -/
structure ArrOp where
  req    : Requester
  erase  : Bool
  off    : Nat
  data   : DWord := 0
  mask   : BitVec 8 := 0xFF
  frames : Nat := 0
  /-- what the operation belongs to: 0 a plain command, 1 log record word, 2 log erase, 3 catalog word, 4 commit,
  5 `tx spoil`, 6 training set, 7 store or bad-stripe record, 9 catalog compaction -/
  tag    : Nat := 0
  arg    : Nat := 0
  deriving DecidableEq, Repr

/-- Suspended erase: how it was suspended: 0 explicit, 1 automatic, 2 by H-SEAL, 3 by the log engine; frames suspended
and frames since the last access to its bank. -/
structure Susp where
  op    : ArrOp
  cause : Nat
  since : Nat := 0
  quietFor : Nat := 0
  deriving DecidableEq, Repr

/-- One command interface of the array: the host's or a core's (R302, R307). -/
structure ArrPort where
  hstate  : Nat := 0
  rejCode : Nat := 0
  pulses  : Nat := 0
  addr    : Word := 0
  latch   : DWord := 0
  autosus : Bool := true
  statread : Bool := false
  swHit   : Bool := false
  stalled : Bool := false
  stallCnt : Nat := 0
  suspReq : Bool := false
  /-- a READ (false) or BLANK (true) that waits for a busy bank, with its byte offset -/
  waitOp  : Option (Bool × Nat) := none
  deriving DecidableEq, Repr

/-- The internal array (13). -/
structure ArrB where
  /-- word number (offset ÷ 8) ↦ data; unlisted words are erased. Non-volatile -/
  mem     : List (Nat × DWord) := []
  ceMarks : List Nat := []
  ueMarks : List Nat := []
  ufe     : List Nat := []
  retired : List Nat := []
  retCnt  : Nat := 0
  queue   : List ArrOp := []
  run     : Option ArrOp := none
  susp    : Option Susp := none
  /-- frames the running erase must still run before it may be suspended automatically (R297) or by the log engine (R345) -/
  autoMin : Nat := 0
  port    : ArrPort := {}
  portA   : ArrPort := {}
  portB   : ArrPort := {}
  resolve : Option Nat := none
  deriving DecidableEq, Repr

/-- One buffered store: address, size in bytes and data. -/
structure BufStore where
  addr : Word
  size : Nat
  data : Word
  deriving DecidableEq, Repr

/-- One Hive core (14). -/
structure Core where
  tcm      : List (Nat × BitVec 8) := []
  ueWords  : List Nat := []
  ceWords  : List Nat := []
  buf      : List BufStore := []
  inReset  : Bool := true
  halted   : Bool := false
  /-- a single step of a halted core is due -/
  stepping : Bool := false
  wdog     : Nat := 0
  clearing : Bool := false
  clearFrames : Nat := 0
  asyncFault : Bool := false
  handler  : Bool := false
  interrupt : Bool := false
  bkpts    : List Word := []
  /-- model's output field: the value of the latest load -/
  lastLoad : Word := 0
  /-- the next instruction waits: a load for an overlapping store or a busy bank, a store for the buffer -/
  stalled  : Bool := false
  deriving DecidableEq, Repr

/-- The Hive (14). -/
structure HiveB where
  a        : Core := {}
  b        : Core := {}
  sram     : List (Nat × BitVec 8) := []
  ueWords  : List Nat := []
  ceWords  : List Nat := []
  flags    : List (Nat × Word) := []
  /-- window words, by byte offset, that hold a correctable or an uncorrectable error -/
  winCe    : List Nat := []
  winUe    : List Nat := []
  extLoaded : Bool := false
  extStopped : Bool := false
  extVersion : Word := 0
  extSince : Option Nat := none
  fwVersion : Option Word := none
  fwBankB  : Bool := false
  fwNone   : Bool := false
  deriving DecidableEq, Repr

/-- One Tally source (R337). -/
structure Source where
  open_    : Bool := false
  left     : Nat := 0
  count    : Nat := 0
  total    : Nat := 0
  sticky   : Bool := false
  severe   : Bool := false
  escalated : Bool := false
  lastKind : Nat := 0
  lastSev  : Bool := false
  lastStamp : BitVec 24 := 0
  lastAddr : Word := 0
  /-- a message came in the frame under way, so that a clearing write leaves the sticky bit set (R334) -/
  inFrame  : Bool := false
  deriving DecidableEq, Repr

/-- One event record (R346). -/
structure Record where
  x    : BitVec 8
  type : Nat
  sub  : Nat
  seq  : Nat
  epoch : Epoch
  arg0 : BitVec 16
  arg1 : Word
  /-- a program of the record in bank A ended FAIL, so that it is fetched from bank B -/
  onB  : Bool := false
  deriving DecidableEq, Repr

/-- Tally and the event log (15). -/
structure TallyB where
  src      : List (Nat × Source) := []
  aonLatch : List (Nat × (Nat × Word)) := []
  halted   : Bool := false
  haltIn   : Option Nat := none
  tripped  : Bool := false
  logDrop  : Bool := false
  lastSrc  : Nat := 0
  pulseLeft : Option Nat := none
  pulses   : Nat := 0
  /-- FAULT_N carries the frame marker in the frame under way (R338) -/
  markEnd  : Bool := false
  degraded : Bool := false
  degradeIn : Bool := false
  quiet    : Nat := 0
  exits    : Nat := 0
  injChk   : Nat := 0
  injDbl   : Bool := false
  injLeft  : Nat := 0
  queue    : List Record := []
  /-- the record whose four programs are under way and how many have ended; whether a bank A program failed -/
  cur      : Option Record := none
  curStep  : Nat := 0
  curFail  : Bool := false
  /-- held records by slot: 1,024 slots a sector, 14 sectors (non-volatile) -/
  held     : List (Nat × Record) := []
  /-- the slot the next record takes (non-volatile), and whether a word X program of the record under way has ended OK -/
  slot     : Nat := 0
  curX     : Bool := false
  next     : Nat := 0
  drops    : Nat := 0
  dropSent : Bool := false
  snap     : List (Nat × Word) := []
  snapEpoch : Epoch := 0
  /-- records already written with the stamp of the latest ones (R347) -/
  subStamp : Epoch := 0
  subCount : Nat := 0
  /-- the erase ahead that is outstanding: 0 none, else 1 + 2 × sector (0–13) + bank -/
  eraseAhead : Nat := 0
  deriving DecidableEq, Repr

/-- What a key slot holds (R354). -/
inductive Slot where
  | empty
  | generated (n : Nat)
  | imported (key : List (BitVec 16))
  | lost
  deriving DecidableEq, Repr

/-- Security (16). -/
structure SecB where
  life     : Lifecycle := .blank
  lcBusy   : Option Nat := none
  lcResult : Nat := 0
  epochFuses : Nat := 0
  fwMin    : Nat := 0
  extMin   : Nat := 0
  ukOwner  : List Word := []
  ukVendor : List Word := []
  extPub   : List Word := []
  otpSecret : Bool := false
  /-- the key check record: the epoch count it was written under; none: never written -/
  keyRec   : Option Nat := none
  slots    : List (Nat × Slot) := []
  staging  : List (Nat × BitVec 16) := []
  keyBusy  : Option (Nat × Nat) := none
  /-- the staged key that the IMPORT under way took -/
  keyIn    : List (BitVec 16) := []
  keyErr   : Bool := false
  keyCode  : Nat := 0
  keySlot  : Nat := 0
  killSeen : Bool := false
  lostAny  : Bool := false
  volatileKeys : Bool := false
  level    : Nat := 0
  result   : Nat := 0
  fails    : Nat := 0
  reqLevel : Nat := 0
  channel  : Nat := 0
  chal     : Option Word := none
  chalAge  : Nat := 0
  keysClosed : Bool := false
  /-- frames of lockout left; whether the AON POR lockout is still to start at the first WAKE (R365) -/
  lockLeft : Nat := 0
  porLock  : Bool := true
  raisedAge : Nat := 0
  /-- a kill waits for the lifecycle command that runs (16 Edges) -/
  killPend : Bool := false
  /-- what is left of the 50 µs that a fuse blow takes, in frames of 4 µs: until then an AON POR finds it blown or intact (16 Edges) -/
  blow     : Nat := 0
  deriving DecidableEq, Repr

/-- The TAP (R368): instruction register, boundary register, what TDO shows. -/
structure JtagB where
  ir       : BitVec 8 := 0x01
  boundary : List Bool := []
  driving  : Nat := 0
  tdo      : List Word := []
  deriving DecidableEq, Repr

/-- Orfort (17): line settings, the line typed so far, whether it has ended and its command runs, what has been sent, and the
answer of the last command. -/
structure OrfB where
  div     : Nat := 868
  autobaud : Bool := true
  line    : List (BitVec 8) := []
  tooLong : Bool := false
  /-- model's output fields: the character echoed last, the words the latest command printed, its status code 0 ok, 1–11 Enn -/
  echo    : List (BitVec 8) := []
  out     : List Word := []
  status  : Nat := 0
  ready   : Bool := false
  deriving DecidableEq, Repr

/-- One peer (18, PEER words 1–3 and the values of its latest statuses). -/
structure Peer where
  live  : Bool := false
  age   : Nat := 0
  state : Nat := 0
  group : Nat := 0
  chg   : Bool := false
  frac  : Nat := 0xFFFF
  need  : Nat := 0
  a     : Nat := 0
  last  : Word := 0
  cfg   : Option (Word × Word) := none
  /-- E_S of its latest STORE status and the frames since -/
  es    : Option Word := none
  esAge : Nat := 0
  deriving DecidableEq, Repr

/-- Weave (18). -/
structure WeaveB where
  myId    : Nat := 0
  masterId : Nat := 0
  isMaster : Bool := false
  ringOk  : Bool := false
  lock    : Bool := false
  joined  : Bool := false
  frozen  : Bool := false
  armed   : Bool := false
  lineLow : Bool := false
  drive   : Bool := false
  dupId   : Bool := false
  cfgMis  : Bool := false
  noChg   : Bool := false
  peers   : List (Nat × Peer) := []
  frac    : Option Nat := none
  nextFrac : Option Nat := none
  /-- the charge member's latest STORE: E_S, C and ESR word, MODE and GRADE byte, and its age in frames -/
  store   : Option (Word × Word × Nat) := none
  storeAge : Nat := 0
  /-- a charge member's STORE status has arrived since the latest WAKE (R392) -/
  storeWake : Bool := false
  err     : Int := 0
  inLock  : Nat := 0
  noTick  : Nat := 0
  noLower : Nat := 0
  noRing  : Nat := 0
  ownBack : Nat := 0
  offset  : BitVec 16 := 0
  delayOut : BitVec 16 := 0
  sync    : Bool := true
  handled : Bool := true
  highs   : Nat := 0
  lows    : Nat := 0
  lowFrames : Nat := 0
  lowSent : Bool := false
  /-- MASTER_ID of the latest valid TICK; a TICK, and one whose MASTER_ID is not above this member's, came in the frame
  under way; a TICK with a lower one came while master -/
  tickMaster : Option Nat := none
  tickSeen : Bool := false
  lowSeen : Bool := false
  abdicate : Bool := false
  freeze  : Bool := false
  /-- the apportionment of the round before, by member -/
  plan    : List (Nat × Nat) := []
  sent    : Option StatusIn := none
  /-- the status slot and the TICK that this member sent last, as their bytes (R383) -/
  slotOut : List (BitVec 8) := []
  tickOut : List (BitVec 8) := []
  deriving DecidableEq, Repr

/-- The whole block. -/
structure State where
  top   : Top := {}
  conf  : Conf := {}
  fr    : FrameB := {}
  host  : HostB := {}
  ring  : RingB := {}
  adm   : GuardB := {}
  scout : ScoutB := {}
  store : StoreB := {}
  dram  : DramB := {}
  harv  : HarvB := {}
  nand  : NandB := {}
  ret   : RetB := {}
  arr   : ArrB := {}
  hive  : HiveB := {}
  tally : TallyB := {}
  sec   : SecB := {}
  jtag  : JtagB := {}
  orf   : OrfB := {}
  weave : WeaveB := {}
  /-- commands waiting, first in, first out -/
  pending : List Instr := []
  /-- the model's own counter: the argument of the next free value -/
  free  : Nat := 0
  deriving DecidableEq, Repr

/-- The block at the instant an AON POR asserts (R31, R8): state OFF, every register at its Reset column, fuses of a
new part, an erased array, no command waiting. -/
def State.reset : State := {}

end Sys2Proof.Machine
end

