-- ==== Sys2Proof/Machine/Operands.lean ====
section
/-! DEFINITION. The operand forms: bit fields of words, byte enables (R76), the configuration space with its Reset
columns, its field descriptors with their classes (R39 to R44), and the accessors that read a field in force. -/

namespace Sys2Proof.Machine

/-- Bits [lo+n−1:lo] of a word as a number. -/
def fld {w : Nat} (x : BitVec w) (lo n : Nat) : Nat := (x.toNat / 2 ^ lo) % 2 ^ n

/-- A 32-bit word from fields (value, width, low bit): each value taken modulo its width. -/
def pack : List (Nat × Nat × Nat) → Word
  | [] => 0
  | (v, n, lo) :: fs => (BitVec.ofNat 32 (v % 2 ^ n * 2 ^ lo)) ||| pack fs

/-- The bit mask of a field. -/
def fmask (lo n : Nat) : Word := BitVec.ofNat 32 ((2 ^ n - 1) * 2 ^ lo)

/-- The bits that byte enables select (R76). -/
def beMask (be : ByteEn) : Word :=
  (if be.getLsbD 0 then 0x000000FF else 0) ||| (if be.getLsbD 1 then 0x0000FF00 else 0) |||
  (if be.getLsbD 2 then 0x00FF0000 else 0) ||| (if be.getLsbD 3 then 0xFF000000 else 0)

/-- old with the bits of mask taken from new. -/
def mergeBits (old new mask : Word) : Word := (old &&& ~~~mask) ||| (new &&& mask)

/-- old with the enabled bytes of new. -/
def mergeBe (old new : Word) (be : ByteEn) : Word := mergeBits old new (beMask be)

/-- Every byte enabled. -/
def allBe : ByteEn := 0xF

/-- The four field classes (R39 to R42). -/
inductive FClass where
  | live | frame | idle | boot
  deriving DecidableEq, Repr

/-- One RW field: table ID (0 for a direct register), first and last index, word (offset ÷ 4 for a register), low
bit, width and class. -/
structure FDesc where
  tid : Nat
  ilo : Nat
  ihi : Nat
  word : Nat
  lo : Nat
  width : Nat
  cls : FClass
  deriving DecidableEq, Repr

/-- A direct register's RW field, by offset. -/
def regF (off lo width : Nat) (cls : FClass) : FDesc := ⟨0, 0, 0, off / 4, lo, width, cls⟩

/-- RW fields of the direct registers, as their chapters' tables give them. -/
def regFields : List FDesc :=
  [regF 0x18 0 1 .live, regF 0x18 1 1 .live, regF 0x18 2 1 .live, regF 0x20 0 15 .live, regF 0x34 0 8 .live,
   regF 0x50 0 1 .frame, regF 0x50 1 1 .frame, regF 0x50 8 3 .boot, regF 0x50 16 8 .live, regF 0x50 24 8 .boot] ++
  [regF 0x54 0 8 .boot, regF 0x54 8 8 .boot, regF 0x54 16 8 .boot, regF 0x54 24 4 .boot, regF 0x54 28 1 .boot,
   regF 0x54 30 2 .boot,
   regF 0x5C 0 3 .live, regF 0x5C 3 3 .live, regF 0x5C 6 6 .frame, regF 0x5C 12 2 .frame, regF 0x5C 14 1 .boot,
   regF 0x5C 16 4 .live, regF 0x5C 20 2 .live, regF 0x5C 22 8 .live, regF 0x5C 30 2 .boot] ++
  [regF 0x64 0 2 .frame, regF 0x64 4 2 .frame, regF 0x64 8 4 .frame, regF 0x64 12 2 .live,
   regF 0x6C 0 4 .boot, regF 0x6C 4 8 .boot, regF 0x6C 12 10 .boot, regF 0x6C 22 1 .frame, regF 0x6C 23 1 .frame,
   regF 0x6C 26 3 .live, regF 0x6C 29 3 .boot, regF 0x7C 16 8 .live, regF 0x80 8 2 .live, regF 0x84 8 2 .live,
   regF 0x88 0 21 .live] ++
  [regF 0x9C 4 2 .live, regF 0xA4 0 8 .live, regF 0xA4 8 1 .live, regF 0xA4 11 1 .live,
   regF 0xA8 0 4 .idle, regF 0xA8 4 1 .idle, regF 0xA8 8 8 .idle, regF 0xAC 16 5 .frame,
   regF 0xB0 0 1 .boot, regF 0xB0 1 4 .boot, regF 0xB0 5 1 .boot, regF 0xB0 6 1 .boot, regF 0xB0 7 1 .boot,
   regF 0xB0 8 4 .boot, regF 0xC8 0 1 .boot, regF 0xC8 1 1 .boot, regF 0xC8 2 1 .boot, regF 0xC8 3 1 .boot,
   regF 0xC8 4 4 .live, regF 0xD8 0 3 .live, regF 0xF0 0 32 .live, regF 0xF4 0 32 .live]

/-- RW fields of the tables. -/
def tableFields : List FDesc :=
  [⟨1, 0, 63, 0, 0, 1, .idle⟩, ⟨1, 0, 63, 0, 1, 1, .frame⟩, ⟨1, 0, 63, 0, 2, 3, .frame⟩, ⟨1, 0, 63, 0, 5, 1, .live⟩,
   ⟨1, 0, 63, 0, 8, 6, .idle⟩, ⟨1, 0, 63, 0, 16, 12, .idle⟩, ⟨1, 0, 63, 1, 0, 21, .idle⟩, ⟨1, 0, 63, 2, 0, 21, .idle⟩,
   ⟨1, 0, 63, 3, 0, 22, .frame⟩, ⟨1, 0, 63, 4, 0, 22, .frame⟩, ⟨1, 0, 63, 7, 0, 5, .frame⟩] ++
  [⟨2, 0, 255, 0, 0, 1, .frame⟩, ⟨2, 0, 255, 0, 2, 2, .boot⟩, ⟨2, 0, 255, 0, 4, 1, .frame⟩, ⟨2, 0, 255, 0, 5, 2, .live⟩,
   ⟨3, 0, 111, 0, 0, 6, .frame⟩, ⟨3, 0, 111, 0, 8, 6, .frame⟩, ⟨3, 0, 111, 0, 16, 8, .frame⟩, ⟨3, 0, 111, 0, 24, 5, .frame⟩] ++
  [⟨4, 0, 23, 0, 0, 1, .frame⟩, ⟨4, 0, 23, 0, 1, 3, .frame⟩, ⟨4, 0, 23, 0, 4, 11, .frame⟩, ⟨4, 0, 23, 1, 0, 16, .frame⟩,
   ⟨4, 0, 23, 1, 16, 16, .frame⟩, ⟨4, 0, 23, 2, 0, 16, .frame⟩, ⟨4, 0, 23, 2, 16, 8, .frame⟩,
   ⟨6, 0, 63, 0, 0, 8, .frame⟩, ⟨6, 0, 63, 0, 8, 1, .frame⟩, ⟨6, 0, 63, 0, 16, 9, .frame⟩, ⟨7, 0, 235, 0, 5, 1, .idle⟩] ++
  [⟨10, 0, 6, 0, 0, 18, .idle⟩, ⟨10, 7, 7, 0, 0, 2, .boot⟩, ⟨10, 7, 7, 0, 2, 2, .boot⟩, ⟨10, 7, 7, 0, 4, 1, .boot⟩,
   ⟨10, 7, 7, 0, 5, 1, .boot⟩, ⟨10, 7, 7, 0, 6, 1, .boot⟩, ⟨10, 8, 8, 0, 0, 21, .idle⟩, ⟨10, 9, 9, 0, 0, 4, .idle⟩,
   ⟨10, 10, 10, 0, 0, 16, .frame⟩, ⟨10, 11, 11, 0, 0, 16, .frame⟩, ⟨10, 12, 12, 0, 0, 1, .frame⟩,
   ⟨10, 12, 12, 0, 1, 1, .frame⟩, ⟨10, 12, 12, 0, 2, 1, .frame⟩, ⟨10, 13, 14, 0, 0, 18, .idle⟩,
   ⟨10, 16, 16, 0, 0, 21, .idle⟩, ⟨10, 17, 17, 0, 0, 22, .idle⟩] ++
  [⟨11, 0, 0, 0, 0, 1, .boot⟩, ⟨11, 0, 0, 0, 1, 2, .boot⟩, ⟨11, 0, 0, 0, 3, 2, .boot⟩, ⟨11, 0, 0, 0, 5, 2, .boot⟩,
   ⟨11, 0, 0, 0, 7, 2, .boot⟩, ⟨11, 0, 0, 0, 9, 1, .boot⟩, ⟨11, 0, 0, 0, 16, 16, .boot⟩, ⟨11, 0, 0, 1, 0, 16, .boot⟩,
   ⟨11, 0, 0, 1, 16, 16, .boot⟩, ⟨11, 0, 0, 2, 0, 16, .boot⟩, ⟨11, 0, 0, 2, 16, 8, .boot⟩, ⟨11, 0, 0, 2, 24, 8, .boot⟩,
   ⟨11, 0, 0, 3, 0, 21, .boot⟩, ⟨11, 2, 9, 0, 0, 4, .boot⟩]

/-- Every RW field. -/
def allFields : List FDesc := regFields ++ tableFields

/-- The fields of one word. -/
def fieldsOf (tid idx word : Nat) : List FDesc :=
  allFields.filter fun d => d.tid == tid && decide (d.ilo ≤ idx) && decide (idx ≤ d.ihi) && d.word == word

/-- Values a field's table calls reserved or drops outright, the owning chapter naming no other outcome (00 Edges,
R188, R217, R337, R338, R339). -/
def reservedValue (tid idx word lo v : Nat) : Bool :=
  if tid = 0 then
    (word == 0x5C / 4 && lo == 0 && v == 7) || (word == 0xD8 / 4 && lo == 0 && decide (6 ≤ v)) ||
    (word == 0xA4 / 4 && lo == 0 && v == 0) || (word == 0xA8 / 4 && lo == 0 && decide (10 ≤ v)) ||
    (word == 0xAC / 4 && lo == 16 && !(decide (16 ≤ v) && decide (v ≤ 30))) ||
    (word == 0xC8 / 4 && lo == 4 && decide (11 ≤ v))
  else if tid = 1 then word == 7 && decide (25 ≤ v)
  else if tid = 3 then (lo == 16 && v == 0) || (lo == 24 && !(decide (4 ≤ v) && decide (v ≤ 30)))
  else if tid = 4 then word == 0 && lo == 4 && decide (1440 ≤ v)
  else if tid = 6 then lo == 16 && decide (321 ≤ v)
  else if tid = 10 then (idx == 9 && decide (9 ≤ v)) || (idx == 10 && v == 0xFFFF) ||
    (idx == 11 && (v == 0 || v == 0xFFFF))
  else false

/-- The key of a configurable word. -/
def ckey (tid idx word : Nat) : Nat := tid * 2 ^ 26 + idx * 64 + word

/-- Word 0 of a Tally source's reset profile (Table: Reset profiles, Table: Sources, R396). -/
def profileWord (src : Nat) : Word :=
  if src = 0x09 ∨ src = 0x19 ∨ src = 0x20 ∨ src = 0x2C then 0x10010701
  else if src = 0x12 then 0x14040F01
  else if src ∈ [0x08, 0x0C, 0x10, 0x11, 0x13, 0x14, 0x15, 0x17, 0x1A, 0x21, 0x22, 0x28, 0x2E, 0x2F, 0x30,
      0x32, 0x33, 0x34, 0x48] ∨ (0x24 ≤ src ∧ src ≤ 0x27) ∨ (0x38 ≤ src ∧ src ≤ 0x3F) then 0x18100301
  else 0x1EFF0101

/-- The Reset column of a configurable word (R8). -/
def resetWord (k : Nat) : Word :=
  let tid := k / 2 ^ 26
  let idx := k % 2 ^ 26 / 64
  let w := k % 64
  if tid = 0 then
    if w = 0x50 / 4 then 0x37100700
    else if w = 0x54 / 4 then 0x44C0CCDC
    else if w = 0x5C / 4 then 0xEBA01403
    else if w = 0x64 / 4 then 0x00000430
    else if w = 0x6C / 4 then 0x4083C6EC
    else if w = 0xA4 / 4 then 0x00000004
    else if w = 0xAC / 4 then 0x001A0000
    else if w = 0xB0 / 4 then 0x00000FDE
    else if w = 0xC8 / 4 then 0x00000008
    else 0
  else if tid = 1 then (if w = 0 then BitVec.ofNat 32 (idx * 256) else if w = 4 then 0x00200000 else if w = 7 then 0x10 else 0)
  else if tid = 2 then (if w = 0 then 0x18 else 0)
  else if tid = 3 then (if w = 0 then profileWord idx else 0)
  else if tid = 4 then (if w = 1 then 0xFFFF0000 else 0)
  else if tid = 6 then (if w = 0 then 1 else 0)
  else if tid = 10 then (if idx = 7 then 0x40 else if idx = 8 then 0x1FFFFF else if idx = 9 then 8
    else if idx = 11 then 0xAAAA else if idx = 12 then 2 else 0)
  else 0

/-- A configurable word in force. -/
def cw (s : State) (tid idx word : Nat) : Word := Sparse.get resetWord s.conf.cur (ckey tid idx word)

/-- The most recently written value of a configurable word (R40). -/
def cwShadow (s : State) (tid idx word : Nat) : Word := Sparse.get resetWord s.conf.shadow (ckey tid idx word)

/-- A direct register's configurable word in force, by offset. -/
def cr (s : State) (off : Nat) : Word := cw s 0 0 (off / 4)

/-- A field in force of a direct register. -/
def crf (s : State) (off lo n : Nat) : Nat := fld (cr s off) lo n

/-- A one-bit field in force of a direct register. -/
def crb (s : State) (off lo : Nat) : Bool := (cr s off).getLsbD lo

/-- Tables: words per entry and number of indexes (Table: Indirect tables; R38, R245, R270, R346). -/
def tblWords (tid : Nat) : Nat :=
  if tid = 1 then 8 else if tid = 5 ∨ tid = 9 ∨ tid = 10 then 1 else if 2 ≤ tid ∧ tid ≤ 13 then 4 else 0

/-- Number of indexes of a table; OVERLAY by its selected image. -/
def tblCount (s : State) (tid : Nat) : Nat :=
  if tid = 1 ∨ tid = 6 then 64 else if tid = 2 then 256 else if tid = 3 then 112 else if tid = 4 then 24
  else if tid = 5 then (if crf s 0xD8 0 3 = 5 then 1024 else 64) else if tid = 7 then 236 else if tid = 8 then 16
  else if tid = 9 then 6 else if tid = 10 then 32 else if tid = 11 then 42 else if tid = 12 ∨ tid = 13 then 16384 else 0

/-! Accessors of the fields in force, named as the chapters name them. -/

def warnMv (s : State) : Int := Int.ofNat (crf s 0x54 0 8 * 50)
def tripMv (s : State) : Int := Int.ofNat (crf s 0x54 8 8 * 50)
def hrstMv (s : State) : Int := Int.ofNat (crf s 0x54 16 8 * 50)
def hystMv (s : State) : Int := Int.ofNat (crf s 0x54 24 4 * 50)
def pgSrc (s : State) : Bool := crb s 0x54 28
def vinIir (s : State) : Nat := crf s 0x54 30 2
def cellsN (s : State) : Nat := crf s 0x6C 0 4
def vmin (s : State) : Nat := crf s 0x6C 4 8
def crated (s : State) : Nat := crf s 0x6C 12 10
def dintCode (s : State) : Nat := crf s 0x6C 29 3
def wvEn (s : State) : Bool := crb s 0xB0 0
def wvGroup (s : State) : Nat := crf s 0xB0 1 4
def wvChg (s : State) : Bool := crb s 0xB0 5

def tEnable (s : State) (t : Nat) : Bool := (cw s 1 t 0).getLsbD 0
def tCrit (s : State) (t : Nat) : Bool := (cw s 1 t 0).getLsbD 1
def tRank (s : State) (t : Nat) : Nat := fld (cw s 1 t 0) 2 3
def tTallyEv (s : State) (t : Nat) : Bool := (cw s 1 t 0).getLsbD 5
def tKeySlot (s : State) (t : Nat) : Nat := fld (cw s 1 t 0) 8 6
def tPendMax (s : State) (t : Nat) : Nat := fld (cw s 1 t 0) 16 12
def tBase (s : State) (t : Nat) : Nat := fld (cw s 1 t 1) 0 21
def tLast (s : State) (t : Nat) : Nat := fld (cw s 1 t 2) 0 21
def tFloor (s : State) (t : Nat) : Nat := fld (cw s 1 t 3) 0 22
def tCap (s : State) (t : Nat) : Nat := fld (cw s 1 t 4) 0 22
def tWait (s : State) (t : Nat) : Nat := fld (cw s 1 t 7) 0 5

def rEnable (s : State) (r : Nat) : Bool := (cw s 2 r 0).getLsbD 0
def rDepthOf (w : Word) : Nat := 16 * 2 ^ fld w 2 2
def rDepth (s : State) (r : Nat) : Nat := rDepthOf (cw s 2 r 0)
def rCrcChk (s : State) (r : Nat) : Bool := (cw s 2 r 0).getLsbD 4
def rIrq (s : State) (r : Nat) : Nat := fld (cw s 2 r 0) 5 2

/-- BASE(n): the sum of the depths below ring n (R104). Rings whose word 0 is at its Reset value are 64 deep: the listed
rings below n give their own depths, the others 64. -/
def rBase (s : State) (n : Nat) : Nat :=
  let own := s.conf.cur.filter fun p => decide (ckey 2 0 0 ≤ p.1) && decide (p.1 < ckey 2 n 0) && p.1 % 64 == 0
  own.foldl (fun a p => a + rDepthOf p.2) ((n - own.length) * 64)

/-- Whether ring n is allocated (R104). -/
def rAlloc (s : State) (n : Nat) : Bool := decide (rBase s n + rDepth s n ≤ 16384)

/-- The changing part of tenant t, ring r, source n, target t and channel c. -/
def tenOf (s : State) (t : Nat) : Tenant := Sparse.get (fun _ => {}) s.ring.tenants t
def ringOf (s : State) (r : Nat) : Ring := Sparse.get (fun _ => {}) s.ring.rings r
def srcOf (s : State) (n : Nat) : Source := Sparse.get (fun _ => {}) s.tally.src n
def tgtOf (s : State) (t : Nat) : Target := Sparse.get (fun _ => {}) s.nand.targets t
def chanOf (s : State) (c : Nat) : Channel := Sparse.get (fun _ => {}) s.nand.chans c
def acctOf (s : State) (r : Nat) : Acct := Sparse.get (fun _ => {}) s.fr.acct r
def laneOf (s : State) (l : Nat) : Lane := Sparse.get (fun _ => {}) s.harv.lanes l
def peerOf (s : State) (p : Nat) : Peer := Sparse.get (fun _ => {}) s.weave.peers p

/-- A peer is LIVE: a status of it has arrived within the last 64 frames (18, Breaks, master loss and late joiners). -/
def peerLive (p : Peer) : Bool := p.live && decide (p.age < 64)

def modTenant (t : Nat) (f : Tenant → Tenant) (s : State) : State :=
  { s with ring := { s.ring with tenants := Sparse.modify (fun _ => {}) s.ring.tenants t f } }
def modRing (r : Nat) (f : Ring → Ring) (s : State) : State :=
  { s with ring := { s.ring with rings := Sparse.modify (fun _ => {}) s.ring.rings r f } }
def modSrc (n : Nat) (f : Source → Source) (s : State) : State :=
  { s with tally := { s.tally with src := Sparse.modify (fun _ => {}) s.tally.src n f } }
def modTgt (t : Nat) (f : Target → Target) (s : State) : State :=
  { s with nand := { s.nand with targets := Sparse.modify (fun _ => {}) s.nand.targets t f } }
def modChan (c : Nat) (f : Channel → Channel) (s : State) : State :=
  { s with nand := { s.nand with chans := Sparse.modify (fun _ => {}) s.nand.chans c f } }
def modAcct (r : Nat) (f : Acct → Acct) (s : State) : State :=
  { s with fr := { s.fr with acct := Sparse.modify (fun _ => {}) s.fr.acct r f } }
def modLane (l : Nat) (f : Lane → Lane) (s : State) : State :=
  { s with harv := { s.harv with lanes := Sparse.modify (fun _ => {}) s.harv.lanes l f } }
def modPeer (p : Nat) (f : Peer → Peer) (s : State) : State :=
  { s with weave := { s.weave with peers := Sparse.modify (fun _ => {}) s.weave.peers p f } }

/-- A ring is usable while its ENABLE and its tenant's ENABLE are 1 and it is allocated (R104, R105). -/
def rUsable (s : State) (r : Nat) : Bool := rEnable s r && tEnable s (r / 4) && rAlloc s r

/-- Tenants whose ENABLE is 1, ascending. -/
def enabledTenants (s : State) : List Nat := (List.range 64).filter (tEnable s)

/-- The tenant whose partition contains cell c (R128). -/
def ownerOf (s : State) (c : Nat) : Option Nat :=
  (enabledTenants s).find? fun t => decide (tBase s t ≤ c) && decide (c ≤ tLast s t)

/-- CELLS_CFG: RANKS × rank size in cells (R199). -/
def cellsCfg (s : State) : Nat :=
  let g := cw s 10 7 0
  (fld g 0 2 + 1) * (131072 * 2 ^ (fld g 2 2 % 2) * 2 ^ fld g 4 1)

/-- S_part: the sum of the partition sizes of the enabled tenants (R241). -/
def sPart (s : State) : Nat := (enabledTenants s).foldl (fun a t => a + (tLast s t + 1 - tBase s t)) 0

/-! Which states hold what (Table: Top-level states, R151). -/

/-- The running states: those of R151. -/
def DevState.runs : DevState → Bool
  | .off => false | .dormant => false | .hold => false | _ => true

/-- STATE codes; OFF is never readable and the register then holds its Reset value 0x2 (Table: STATE). -/
def DevState.code : DevState → Nat
  | .off => 2 | .dormant => 1 | .wake => 2 | .guard => 3 | .watch => 4 | .harvest => 5 | .hold => 6 | .ret => 7
  | .early => 8 | .service => 9

/-- PHASE codes (Table: Phase codes). -/
def Phase.code : Phase → Nat
  | .none => 0 | .scan => 0 | .image => 1 | .catalog => 2 | .hDecide => 0 | .hIsolate => 1 | .hDrain => 2 | .hSeal => 3
  | .verify => 0 | .waitGnt => 1 | .critical => 2 | .bulk => 3 | .done => 4

/-- Lifecycle codes (R349). -/
def Lifecycle.code : Lifecycle → Nat
  | .blank => 0 | .provisioned => 1 | .deployed => 2 | .rma => 3 | .scrapped => 4

/-- PROVISIONED or DEPLOYED. -/
def Lifecycle.inUse : Lifecycle → Bool
  | .provisioned => true | .deployed => true | _ => false

/-- The islands other than AON are powered: frames run (R46). -/
def powered (s : State) : Bool := s.top.state.runs && !s.top.coreBor

/-- The quiesce of H-SEAL has been made in the frame under way (R239): from it on no host bus exists in HARVEST
(Table: Top-level states). -/
def quiesced (s : State) : Bool := s.top.state = .harvest && s.top.phase = .hSeal && s.top.trig.phaseEnd

/-- The HOST island serves the bus (R69, R83): not in WAKE frame g+0, not after the quiesce. -/
def busUp (s : State) : Bool :=
  powered s && !s.host.hrst && !(s.top.state = .wake && s.top.inState = 0) && !quiesced s

/-- The host can start and complete an access: not between a write of SYNC = 1 and the start of synchronous mode (R72). -/
def accessUp (s : State) : Bool := busUp s && !s.host.syncWait

/-- Firmware answers the mailbox: the states of R96 with a core out of reset and firmware booted (R96, R341, R358, 04
Edges). -/
def fwServes (s : State) : Bool :=
  (s.top.state ∈ [DevState.guard, .watch, .service, .ret, .early]) && powered s && !s.tally.halted && !s.hive.fwNone &&
    ((!s.hive.a.inReset && !s.hive.a.halted) || (!s.hive.b.inReset && !s.hive.b.halted))

end Sys2Proof.Machine
end

