-- ==== Sys2Proof/Machine/Ops.lean ====
section
/-! DEFINITION. The operations every family shares: interrupts and HINT_N (R86 to R89), the log queue (R345, R347),
the ledger's charge (R54, R55), EVENT ring posting (R116 to R118), Tally (R329 to R343), rejection (R41, R45), and the
post buffer (R78 to R82). -/

namespace Sys2Proof.Machine

/-! Interrupts. -/

/-- INT_EN in force. -/
def intEn (s : State) : BitVec 15 := (cr s 0x20).truncate 15

/-- Bit i of INT_STAT sets (R86, R87, R88). A setting while the HOST island is off is not recorded (R89). HINT_N is driven
only while the host bus responds (R69, R83). -/
def setInt (i : Nat) (s : State) : State :=
  if powered s then
    let b : BitVec 15 := BitVec.ofNat 15 (2 ^ i)
    let stat := s.host.intStat ||| b
    let on := (intEn s &&& stat) != 0 && busUp s
    let rearm := crb s 0x18 2 && (intEn s &&& b) != 0
    { s with host := { s.host with
        intStat := stat
        intFrame := s.host.intFrame ||| b
        watchSet := if s.host.watch then s.host.watchSet ||| b else s.host.watchSet
        hint := on
        hintEdges := if on && (!s.host.hint || rearm) then s.host.hintEdges + 1 else s.host.hintEdges } }
  else s

/-- HINT_N follows INT_STAT AND INT_EN (R86) while the host bus responds, and is released otherwise (R69, R83). -/
def hintFollow (s : State) : State :=
  let on := (s.host.intStat &&& intEn s) != 0 && busUp s
  { s with host := { s.host with
      hint := on
      hintEdges := if on && !s.host.hint then s.host.hintEdges + 1 else s.host.hintEdges } }

/-! The event log. -/

/-- SUB of a record of a type (R195, R347). -/
def logSub (type : Nat) (ep : Epoch) (s : State) : Nat :=
  if type = 1 then 0 else if type = 2 then 1 else if type = 3 then 2 else if type = 4 then 3
  else min 15 (4 + (if s.tally.subStamp = ep then s.tally.subCount else 0))

/-- xs without its last element that satisfies p; none if none does. -/
def dropLastWhere {α : Type} (p : α → Bool) : List α → Option (List α)
  | [] => none
  | x :: xs =>
    match dropLastWhere p xs with
    | some ys => some (x :: ys)
    | none => if p x then some xs else none

/-- A HARVEST record is queued ahead of every waiting TALLY record (15 Edges). -/
def beforeTally (r : Record) (q : List Record) : List Record :=
  q.takeWhile (fun x => x.type != 8) ++ r :: q.dropWhile (fun x => x.type != 8)

/-- A record joins the 32-entry queue; a HARVEST record displaces the youngest waiting TALLY, else FW, record; otherwise
a record that finds the queue full is dropped (R345). The result's flag says whether a record was dropped. -/
def logQueue (r : Record) (q : List Record) : List Record × Bool :=
  if q.length < 32 then (q ++ [r], false)
  else if r.type = 5 then
    match dropLastWhere (fun x => x.type == 8) q with
    | some q' => (beforeTally r q', true)
    | none =>
      match dropLastWhere (fun x => x.type == 15) q with
      | some q' => (q' ++ [r], true)
      | none => (q, true)
  else (q, true)

/-- A record is logged under a stamp. While ARRAY is unpowered nothing is logged (R345). -/
def logAt (ep : Epoch) (type : Nat) (x : BitVec 8) (arg0 : BitVec 16) (arg1 : Word) (s : State) : State :=
  if powered s then
    let r : Record := ⟨x, type, logSub type ep s, 0, ep, arg0, arg1, false⟩
    let q := logQueue r s.tally.queue
    { s with tally := { s.tally with
        queue := q.1
        subStamp := if 5 ≤ type then ep else s.tally.subStamp
        subCount := if 5 ≤ type then (if s.tally.subStamp = ep then s.tally.subCount + 1 else 1) else s.tally.subCount
        logDrop := s.tally.logDrop || q.2
        drops := if q.2 then s.tally.drops + 1 else s.tally.drops } }
  else s

/-- A record is logged under the present frame's stamp. -/
def logRec (type : Nat) (x : BitVec 8) (arg0 : BitVec 16) (arg1 : Word) (s : State) : State :=
  logAt s.fr.epoch type x arg0 arg1 s

/-! The ledger's accounts. -/

/-- The reservation of a resource in a state (Table: Ledger resources). -/
def reserveOf (st : DevState) (res : Nat) : Nat :=
  if res = 0 then (if st ∈ [DevState.harvest, .ret, .early] then 14 else 0)
  else if res = 9 ∨ res = 10 then 10 else if res = 12 then 8 else if res = 13 then 20 else if res = 14 then 5
  else if res = 15 then 2 else 0

/-- B of a resource in the present state (R55). -/
def budget (s : State) (res : Nat) : Nat := 100 - reserveOf s.top.state res

/-- r, what is left of B in the frame under way. -/
def ledLeft (s : State) (res : Nat) : Nat := budget s res - (acctOf s res).usedNow

/-- n ticks charged to a resource. -/
def spend (res n : Nat) (s : State) : State := modAcct res (fun a => { a with usedNow := a.usedNow + n }) s

/-! Check-bit injection. -/

/-- One armed injection on a checker is used up (R342): the state, and 0 none, 1 correctable, 2 uncorrectable. -/
def injectUse (chk : Nat) (s : State) : State × Nat :=
  if s.tally.injChk = chk ∧ 0 < s.tally.injLeft then
    let left := s.tally.injLeft - 1
    ({ s with tally := { s.tally with injLeft := left, injChk := if left = 0 then 0 else chk } },
      if s.tally.injDbl then 2 else 1)
  else (s, 0)

/-- n successive word writes to a checker: the state, and which of them take an uncorrectable and a correctable error. -/
def injectMany (chk : Nat) : Nat → State → State × List Nat × List Nat
  | 0, s => (s, [], [])
  | n + 1, s =>
    let r := injectMany chk n s
    let j := injectUse chk r.1
    (j.1, if j.2 = 2 then r.2.1 ++ [n] else r.2.1, if j.2 = 1 then r.2.2 ++ [n] else r.2.2)

/-! EVENT rings. -/

/-- One step of the CRC-8 of R107 over a bit. -/
def crc8Bit (c : BitVec 8) : BitVec 8 := if c.msb then (c <<< 1) ^^^ 0x07 else c <<< 1

/-- CRC-8 with one byte more. -/
def crc8Byte (c b : BitVec 8) : BitVec 8 :=
  (crc8Bit <| crc8Bit <| crc8Bit <| crc8Bit <| crc8Bit <| crc8Bit <| crc8Bit <| crc8Bit (c ^^^ b))

/-- Byte i of a word. -/
def byteOf (w : Word) (i : Nat) : BitVec 8 := (w >>> (8 * i)).truncate 8

/-- The bytes of a word, byte 0 first. -/
def bytesOf (w : Word) : List (BitVec 8) := [byteOf w 0, byteOf w 1, byteOf w 2, byteOf w 3]

/-- The CRC of an entry over bytes 0–14 (R107). -/
def entryCrc (w0 w1 w2 w3 : Word) : BitVec 8 :=
  (bytesOf w0 ++ bytesOf w1 ++ bytesOf w2 ++ [byteOf w3 0, byteOf w3 1, byteOf w3 2]).foldl crc8Byte 0

/-- An event: opcode, FLAGS, TAG and words 1 and 2, stamped with the frame of its posting (R107, R108). -/
def mkEvent (op flags : Nat) (tag : BitVec 16) (w1 w2 : Word) (s : State) : Entry :=
  let w0 : Word := BitVec.ofNat 32 (op + flags * 256 + tag.toNat * 65536)
  let st : Word := (s.fr.epoch.truncate 24).zeroExtend 32
  { w0 := w0, w1 := w1, w2 := w2, w3 := st ||| ((entryCrc w0 w1 w2 st).zeroExtend 32 <<< 24) }

/-- Whether IRQ_MODE selects an event (R118): unsol covers unsolicited events, OVERFLOW and BAD_ENTRY. -/
def irqSelects (mode : Nat) (unsol notify : Bool) : Bool :=
  mode == 1 || (mode == 2 && (unsol || notify)) || (mode == 3 && unsol)

/-- An event enters an EVENT ring: it is unread, counts in DONE_CNT, costs one RINGS tick (R114) and sets INT_STAT.RING
when IRQ_MODE selects it (R118). -/
def putEvent (r : Nat) (e : Entry) (unsol notify : Bool) (s : State) : State :=
  let j := injectMany 5 4 s
  let e1 : Entry := { e with ueW := j.2.1, ceW := j.2.2, slot := (ringOf s r).nextSlot }
  let s1 := spend 12 1 (modRing r (fun g => { g with
    unread := g.unread ++ [e1], doneCnt := satInc 65535 g.doneCnt, nextSlot := (g.nextSlot + 1) % rDepth s r }) j.1)
  if irqSelects (rIrq s r) unsol notify then setInt 0 s1 else s1

/-- Free entries of an EVENT ring. -/
def evFree (s : State) (r : Nat) : Nat := rDepth s r - (ringOf s r).unread.length

/-- RINGS work may be done now: none waits, and a tick is left in the frame (R55, R56). -/
def ringsFree (s : State) : Bool := s.ring.late.isEmpty && decide (0 < ledLeft s 12)

/-- An unsolicited event is posted, or OVERFLOW in its place, or it is dropped (R117). -/
def postEvent (u : Unsol) (s : State) : State :=
  let r := 4 * u.tenant + 3
  if rUsable s r then
    if 2 ≤ evFree s r then putEvent r (mkEvent u.op u.flags u.tag u.w1 u.w2 s) true false s
    else
      let s1 := modRing r (fun g => { g with badDrop := satInc 65535 g.badDrop }) s
      if evFree s r = 1 then putEvent r (mkEvent 0x8A 0 0 (s.fr.epoch.truncate 32) 0 s) true false s1 else s1
  else s

/-- An event is posted, or waits behind the deferred RINGS work (R55, R56, R114). -/
def postOrWait (u : Unsol) (s : State) : State :=
  if ringsFree s then postEvent u s else { s with ring := { s.ring with late := s.ring.late ++ [.post u] } }

/-- A broadcast to every tenant, ascending: it comes before the answers of its frame (R119, R120). -/
def broadcast (op flags : Nat) (w1 : Nat → Word) (s : State) : State :=
  (List.range 64).foldl (fun s t => postOrWait ⟨t, op, flags, 0, w1 t, 0⟩ s) s

/-- Any other unsolicited event to tenant t's EVENT ring: it follows the answers of its frame (R120). None is posted in WAKE
(Table: Ring use by state). -/
def postUnsol (t op flags : Nat) (tag : BitVec 16) (w1 w2 : Word) (s : State) : State :=
  if s.top.state = .wake then s
  else { s with ring := { s.ring with unsol := s.ring.unsol ++ [⟨t, op, flags, tag, w1, w2⟩] } }

/-- An unsolicited event to every tenant of a list. -/
def postAll (ts : List Nat) (op flags : Nat) (tag : BitVec 16) (w1 : Word) (w2 : Nat → Word) (s : State) : State :=
  ts.foldl (fun s t => postUnsol t op flags tag w1 (w2 t) s) s

/-! Trips. -/

/-- States in which a member drives WV_TRIP_N (R387). -/
def drivesIn (st : DevState) : Bool := st ∈ [DevState.guard, .watch, .harvest, .ret, .early]

/-- A condition that closes an open demand interval qualifies in the frame (R190). -/
def markEnds (s : State) : State := { s with top := { s.top with trig := { s.top.trig with ends := true } } }

/-- A trip cause newly qualifies in the frame: its bit joins the TRIP record's X (R347) and, where its WEAVE_CTRL bit or
R387 says so, the member drives WV_TRIP_N. A TRIP (bits 0, 4, 5) stops the taking of DIRTY entries (R25). -/
def tripCause (x : BitVec 8) (drive : Bool) (s : State) : State :=
  { s with
    top := { s.top with
      trig := { s.top.trig with causes := s.top.trig.causes ||| x, ends := true }
      dirtyStop := s.top.dirtyStop || (x &&& 0x31) != 0 }
    weave := if drive && wvEn s && drivesIn s.top.state then { s.weave with drive := true } else s.weave }

/-! Tally. -/

/-- Forced-SEVERE kinds (R330, Table: Sources, Table: Security sources, Table: Weave sources). -/
def forced (src kind : Nat) : Bool :=
  ((src == 0x10 || src == 0x11) && kind == 4) || ((src == 0x12 || src == 0x14 || src == 0x15 || src == 0x17 || src == 0x32) && kind == 2) ||
  (src == 0x19 && (kind == 1 || kind == 2)) || (src == 0x1A && kind == 1) || (src == 0x2C && kind == 3) ||
  (src == 0x2E && kind == 3) || (src == 0x30 && kind == 5) || (src == 0x33 && (kind == 2 || kind == 3)) ||
  (src == 0x25 && (kind == 2 || kind == 4)) || (src == 0x26 && kind == 1) || (src == 0x3C && kind == 1)

/-- How many kinds a source has; 0: it has no sender (R330). -/
def kindsOf (src : Nat) : Nat :=
  if src ∈ [0x08, 0x09, 0x0A, 0x18, 0x22, 0x26, 0x34, 0x3A, 0x48] then 1
  else if src ∈ [0x12, 0x14, 0x15, 0x16, 0x17, 0x20, 0x21, 0x2F, 0x31, 0x32, 0x38, 0x39, 0x3B] then 2
  else if src ∈ [0x13, 0x19, 0x1A, 0x33, 0x3C] then 3
  else if src ∈ [0x10, 0x11, 0x24, 0x25, 0x27, 0x28, 0x2C, 0x2E] then 4
  else if src = 0x30 then 5 else if src = 0x0C then 6 else 0

/-- Sources whose block lies in AON: Scout's and the security block's kill and tamper reports (R343). -/
def aonSource (src : Nat) : Bool := src ∈ [0x20, 0x21, 0x22, 0x25, 0x26]

/-- A PIN action: a pulse starts or restarts, unless FRAME_MARK is 1 (R338). It ends after frame m + MINW. -/
def pinAction (s : State) : State :=
  if crb s 0xA4 11 then s
  else { s with tally := { s.tally with pulseLeft := some (crf s 0xA4 0 8 + 1), pulses := satInc 65535 s.tally.pulses } }

/-- A DEGRADE or HALT action: entry, logged once, or renewal (R339). -/
def degradeAct (src : Nat) (acts : BitVec 8) (s : State) : State :=
  let s1 := if s.tally.degraded || s.tally.degradeIn then s
    else logRec 9 acts (BitVec.ofNat 16 src) (BitVec.ofNat 32 s.tally.exits) s
  { s1 with tally := { s1.tally with degradeIn := true, quiet := 0 } }

/-- A HALT action's own part (R341): HALTED reads 1 from the next frame. -/
def haltAct (src : Nat) (s : State) : State :=
  if s.tally.halted || s.tally.haltIn.isSome then s
  else
    let s1 := logRec 11 0 (BitVec.ofNat 16 src) 0 s
    { s1 with tally := { s1.tally with haltIn := some 2 } }

/-- The record of triggers once TRIP qualifies: a TRIP that holds already keeps its frame (R203). -/
def tripStamp (s : State) : QualAt :=
  if s.scout.tripQ || s.scout.tallyTrip || s.scout.swarmTrip then s.scout.qualAt else { s.scout.qualAt with trip := s.fr.epoch }

/-- A HARVEST action (R340): a Tally trip in GUARD and WATCH, elsewhere a DEGRADE. -/
def harvestAct (src : Nat) (acts : BitVec 8) (s : State) : State :=
  if s.top.state = .guard ∨ s.top.state = .watch then
    let s1 := tripCause 0x10 (crb s 0xB0 11) s
    { s1 with
      top := { s1.top with trig := { s1.top.trig with trip := true } }
      scout := { s1.scout with tallyTrip := true, tripSeen := true, qualAt := tripStamp s }
      tally := { s1.tally with tripped := true } }
  else degradeAct src acts s

/-- A source's record after one message, with whether the message opens its window and whether it escalates
(R331, R332, R334, R335). -/
def countMsg (src kind : Nat) (addr : Word) (s : State) : Source × Bool × Bool :=
  let o := srcOf s src
  let w := cw s 3 src 0
  let thresh := fld w 16 8
  let opens := !o.open_ || o.left == 0
  let c0 := if opens then 0 else o.count
  let c1 := satInc 255 c0
  let c := if forced src kind then max c1 thresh else c1
  let sev := decide (thresh ≤ c)
  let esc := sev && (opens || !o.escalated)
  ({ open_ := true
     left := if opens then 2 ^ fld w 24 5 else o.left
     count := c
     total := satInc 65535 o.total
     sticky := true
     severe := sev
     escalated := (!opens && o.escalated) || sev
     lastKind := kind
     lastSev := sev
     lastStamp := s.fr.epoch.truncate 24
     lastAddr := addr
     inFrame := true }, opens, esc)

/-- The action mask of a source for a class (R333). -/
def actMask (src : Nat) (sev : Bool) (s : State) : BitVec 8 :=
  BitVec.ofNat 8 (fld (cw s 3 src 0) (if sev then 8 else 0) 6)

/-- The actions of a message, bit by bit (Table: Actions). -/
def actions (src kind : Nat) (addr : Word) (m : BitVec 8) (sev opens esc : Bool) (count : Nat) (s : State) : State :=
  let s1 := if m.getLsbD 0 && (opens || esc) then
      logRec 8 (BitVec.ofNat 8 (kind + b2n sev * 32 + b2n esc * 64)) (BitVec.ofNat 16 (src + count * 256)) addr s else s
  let s2 := if m.getLsbD 1 || esc then setInt 6 s1 else s1
  let s3 := if esc then
      postAll ((List.range 64).filter (tTallyEv s2)) 0x89 kind (BitVec.ofNat 16 src) addr (fun _ => 0) s2 else s2
  let s4 := if m.getLsbD 2 then pinAction s3 else s3
  let s5 := if m.getLsbD 3 || m.getLsbD 5 then degradeAct src m s4 else s4
  let s6 := if m.getLsbD 4 then harvestAct src m s5 else s5
  if m.getLsbD 5 then haltAct src s6 else s6

/-- Tally processes one message (R329 to R335). -/
def tallyProcess (src kind : Nat) (addr : Word) (s : State) : State :=
  let r := countMsg src kind addr s
  let s1 := modSrc src (fun _ => r.1) s
  let s2 := { s1 with tally := { s1.tally with lastSrc := src } }
  actions src kind addr (actMask src r.1.severe s) r.1.severe r.2.1 r.2.2 r.1.count s2

/-- One message, with the first-drop message of the log that it may cause (R345). While TALLY is unpowered an AON
block's message sets its sticky bit and is latched (R343). -/
def tally (src kind : Nat) (addr : Word) (s : State) : State :=
  if powered s then
    let s1 := tallyProcess src kind addr s
    if 0 < s1.tally.drops ∧ s1.tally.dropSent = false then
      tallyProcess 0x48 1 (BitVec.ofNat 32 s1.tally.drops) { s1 with tally := { s1.tally with dropSent := true } }
    else s1
  else if aonSource src then
    let s1 := modSrc src (fun o => { o with sticky := true }) s
    { s1 with tally := { s1.tally with aonLatch := Sparse.put (fun _ => (0, 0)) s1.tally.aonLatch src (kind, addr) } }
  else s

/-- A record, and the LOG_DROP message of the first drop (R345). -/
def logEv (type : Nat) (x : BitVec 8) (arg0 : BitVec 16) (arg1 : Word) (s : State) : State :=
  let s1 := logRec type x arg0 arg1 s
  if 0 < s1.tally.drops ∧ s1.tally.dropSent = false then
    tally 0x48 1 (BitVec.ofNat 32 s1.tally.drops) { s1 with tally := { s1.tally with dropSent := true } }
  else s1

/-! Configuration errors. -/

/-- A write is dropped with REJECT: LAST_REJ_OFF, INT_STAT.CONFIG and one REJECT message (R41, R45). -/
def reject (off tid : Nat) (s : State) : State :=
  let s1 := { s with top := { s.top with reject := true, lastRej := off } }
  tally 0x0C 1 (BitVec.ofNat 32 (off + tid * 2 ^ 24)) (setInt 14 s1)

/-- CONFIG_STAT.UE_WRITE sets (R45, R323). -/
def ueWriteSet (s : State) : State := setInt 14 { s with top := { s.top with ueWrite := true } }

/-- CONFIG_STAT.POST_REJ sets (R45, R82). -/
def postRejSet (s : State) : State := setInt 14 { s with top := { s.top with postRej := true } }

/-- A STATE_REQ is refused with a reason (R21). -/
def refuseReq (reason : Nat) (s : State) : State :=
  setInt 14 { s with top := { s.top with reqErr := true, reqReason := reason } }

/-! The post buffer. -/

/-- Word-atomic registers (R77). -/
def wordAtomic (off : Nat) : Bool := off ∈ [0x14, 0x28, 0x38, 0x3C, 0xB8, 0xFC]

/-- What WAKE accepts (R30). -/
def wakeAccepts (off : Nat) : Bool := off ∈ [0xF0, 0xF4, 0x20, 0x1C, 0xDC, 0x3C]

/-- The entry leaves the post buffer: it must be the oldest one (R78), or come by a path that has no buffer (an empty
one). None: it is not the oldest, and nothing happens. A waiting write then enters (R79). -/
def takePost (e : PostEntry) (s : State) : Option State :=
  match s.host.post with
  | [] => some s
  | p :: ps => if p = e then
      some { s with host := { s.host with
        post := ps ++ s.host.waiting.toList, waiting := none } } else none

/-- The common tests on an entry that leaves: the bus exists (R69), the reserved register (R7), the post-TRIP window (R82),
word atomicity (R77), an all-high HBE_N (R43; a TBL_DATA write may commit with no byte enabled, R92), what WAKE accepts
(R30). Then f applies it. -/
def gate (e : PostEntry) (f : State → State) (s : State) : State :=
  if busUp s then
    if e.off = 0xF8 then s
    else if s.top.window && e.off != 0x3C && e.off != 0x14 then postRejSet s
    else if wordAtomic e.off && e.be != allBe then
      tally 0x0C 2 (BitVec.ofNat 32 e.off) { s with host := { s.host with partErr := true } }
    else if e.be = 0 ∧ (e.off ≠ 0x2C ∨ s.top.state = .wake) then s
    else if s.top.state = .wake && !wakeAccepts e.off then reject e.off 0 s
    else f s
  else s

/-- An entry leaves the post buffer and is applied by f after the common tests. A write that no buffer holds is an access,
and none is made between a write of SYNC = 1 and the start of synchronous mode (R72, 04 Edges). -/
def leave (e : PostEntry) (f : State → State) (s : State) : State :=
  if s.host.post.isEmpty && s.host.syncWait then s
  else
    match takePost e s with
    | some s1 => gate e f s1
    | none => s

/-- A read completes: only with an empty post buffer (R80) and while the bus responds (R69). f gives the data and the
side effects (R81). -/
def busRead (f : State → Word × State) (s : State) : State :=
  if accessUp s && s.host.post.isEmpty then
    let r := f s
    { r.2 with host := { r.2.host with hd := r.1 }, free := r.2.free + 1 }
  else s

end Sys2Proof.Machine
end

