-- ==== Sys2Proof/Machine/Flags.lean ====
section
/-! DEFINITION. Filters and comparisons on filtered values (R156), the qualifier counts, and the computed terms that
status fields show: the energy model (R131 to R136, R184, R185), DRAM readiness (R211, R212), NAND rates and
reservations (R247, R260). -/

namespace Sys2Proof.Machine

/-! Exact filtered values. -/

/-- A raw value. -/
def dy (x : Int) : Dyadic := ⟨x, 0⟩

/-- y + (x − y) ÷ 2^a (R156). -/
def dyFilter (a : Nat) (y : Dyadic) (x : Int) : Dyadic :=
  ⟨y.num * (2 ^ a - 1) + x * 2 ^ y.exp, y.exp + a⟩

/-- y rounded down. -/
def dyFloor (y : Dyadic) : Int := y.num / 2 ^ y.exp

/-- y rounded down, no less than 0. -/
def dyNat (y : Dyadic) : Nat := (dyFloor y).toNat

def dyLt (y : Dyadic) (x : Int) : Bool := decide (y.num < x * 2 ^ y.exp)
def dyGt (y : Dyadic) (x : Int) : Bool := decide (x * 2 ^ y.exp < y.num)
def dyLe (a b : Dyadic) : Bool := decide (a.num * 2 ^ b.exp ≤ b.num * 2 ^ a.exp)

/-- y is not a whole number of units u. -/
def dyFrac (y : Dyadic) (u : Nat) : Bool := y.num % (u * 2 ^ y.exp) != 0

/-- The filtered value of a channel, and the value published for it (R168). -/
def filt (s : State) (ch : Nat) : Dyadic := Sparse.get (fun _ => {}) s.scout.filt ch
def pubd (s : State) (ch : Nat) : Dyadic := Sparse.get (fun _ => {}) s.scout.pub ch

/-- A conversion of a channel passes through its filter; the first one loads it (R156). -/
def convert (ch a : Nat) (x : Int) (s : State) : State :=
  let y := if ch ∈ s.scout.loaded then dyFilter a (filt s ch) x else dy x
  { s with scout := { s.scout with
      filt := Sparse.put (fun _ => {}) s.scout.filt ch y
      loaded := insertNat ch s.scout.loaded } }

/-- A channel's conversion saturates at the ends of its range at the source (R150): VIN 0–15 V, VSTORE and the taps 0–36 V, the
die −64 °C to +191 °C, VAON_IN 0–6 V, the reference check the ADC's own 0–1.50 V, in mV and m°C. -/
def inRange (ch : Nat) (x : Int) : Int :=
  let lim := fun (lo hi : Int) => max lo (min hi x)
  if ch = 0 then lim 0 15000 else if ch ≤ 14 then lim 0 36000 else if ch = 15 then lim (-64000) 191000
  else if ch = 18 then lim 0 6000 else if ch = 19 then lim 0 1500 else x

/-- The raw value a channel sees: an override replaces the sample (R171). -/
def rawOf (s : State) (ch : Nat) (x : Int) : Int :=
  inRange ch (match s.scout.ovr.find? (fun p => p.1 == ch) with
    | some p => p.2.1
    | none => x)

/-! The thermistors' curve (R167). -/

/-- n terms of atanh z, z and the result in units of 2^−40: p is the power of z that term k begins with. -/
def atanhFix : Nat → Int → Int → Int → Int
  | 0, _, _, _ => 0
  | n + 1, k, p, z => p / k + atanhFix n (k + 2) (p * z / 2 ^ 40 * z / 2 ^ 40) z

/-- ln 2 = 2 · atanh (1 ÷ 3), in units of 2^−40. -/
def ln2Fix : Int := 2 * atanhFix 18 1 (2 ^ 40 / 3) (2 ^ 40 / 3)

/-- ln (a ÷ b) in units of 2^−40, a and b at least 1: the powers of 2 first, then an atanh series on at most 1 ÷ 3. -/
def lnFix (a b : Nat) : Int :=
  let a' : Int := Int.ofNat (a * 2 ^ b.log2)
  let b' : Int := Int.ofNat (b * 2 ^ a.log2)
  let z := (a' - b') * 2 ^ 40 / (a' + b')
  (Int.ofNat a.log2 - Int.ofNat b.log2) * ln2Fix + 2 * atanhFix 18 1 z z

/-- The temperature in m°C of a thermistor's ratiometric code: R ÷ 10 kΩ = code ÷ (4,096 − code) against the 10.0 kΩ resistor to
VDD_AON, and 1 ÷ T = 1 ÷ 298.15 K + ln (R ÷ 10 kΩ) ÷ 3,435 K (R150, R167), rounded down. Code 0, a short, for which the equation
has no value, reads as code 1 does (DESIGN CHOICE, log entry 6). -/
def thMilli (code : Int) : Int :=
  let c := max 1 (min 4095 code.toNat)
  29815 * 3435 * 1000 * 2 ^ 40 / (343500 * 2 ^ 40 + 29815 * lnFix c (4096 - c)) - 273150

/-- The logic level a pin sees under its override (R171): channels 20 HOST_PG_N, 21 WET_SNS, 22 TAMPER_N. -/
def rawPin (s : State) (ch : Nat) (high : Bool) : Bool :=
  match s.scout.ovr.find? (fun p => p.1 == ch) with
  | some p => p.2.1 != 0
  | none => high

/-- The publication of a frame boundary: the filtered values as they stand, and which thermistors are faulted (R168). -/
def publish (s : State) : State :=
  { s with scout := { s.scout with
      pub := s.scout.filt.filter (fun p => decide (p.1 ≤ 17)), pubF0 := s.scout.th0Fault, pubF1 := s.scout.th1Fault } }

/-- Every override advances by its ramp, in mV or m°C a microsecond (R171: mV/µs, °C/ms). -/
def rampAll (s : State) : State :=
  { s with scout := { s.scout with ovr := s.scout.ovr.map fun p => (p.1, (p.2.1 + p.2.2, p.2.2)) } }

/-! Qualifier counts, by number: 0 WARN, 1 WARN clear, 2 TRIP, 3 TRIP clear, 4 pre-trip, 5 PG high, 6 PG low, 7 WET,
8 TAMPER, 9 VGOOD, 10 STORE_LOW, 11 STORE_LOW clear, 12/13 TH0 fault and clear, 14/15 TH1 fault and clear, 16 TALARM
of TH0, 63 of TH1, 17 and 64 their clearing, 18 ADC_CHK, 19 OV, 20 CELL_OV (+ cell), 40 cell short (+ cell), 60 CT0 high, 61 tap mismatch, 62 OC. -/

/-- Count i: +1 while c holds, else 0. -/
def bump (i : Nat) (c : Bool) (s : State) : State :=
  { s with scout := { s.scout with
      cnt := Sparse.put (fun _ => 0) s.scout.cnt i (if c then Sparse.get (fun _ => 0) s.scout.cnt i + 1 else 0) } }

/-- The value of count i. -/
def cntOf (s : State) (i : Nat) : Nat := Sparse.get (fun _ => 0) s.scout.cnt i

/-- A used thermistor is one SCOUT_CTRL.TH_USE selects (R167). -/
def thUsed (s : State) (i : Nat) : Bool := crb s 0x5C (30 + i)

/-- The temperature thermistor i counts for derating: −55 °C while faulted, as published (R167, R168, R184). -/
def thTemp (s : State) (i : Nat) : Dyadic :=
  if (if i = 0 then s.scout.pubF0 else s.scout.pubF1) then dy (-55000) else pubd s (16 + i)

/-! Interpolated factors, in thousandths, rounded up (R131, R184). -/

/-- The ceiling of a quotient of integers, d > 0. -/
def ceilInt (n d : Int) : Int := -((-n) / d)

/-- A piecewise linear table of (m°C, thousandths), rising in temperature: clamped at its ends, rounded up between. -/
def interp (y : Dyadic) : List (Int × Int) → Int
  | [] => 0
  | [(_, k)] => k
  | (t0, k0) :: (t1, k1) :: rest =>
    if !dyGt y t0 then k0
    else if dyLt y t1 then k0 + ceilInt ((k1 - k0) * (y.num - t0 * 2 ^ y.exp)) ((t1 - t0) * 2 ^ y.exp)
    else interp y ((t1, k1) :: rest)

/-- Table: Derating factor. -/
def derating : List (Int × Int) :=
  [(-55000, 1600), (-40000, 1420), (-20000, 1200), (0, 1050), (25000, 1000), (85000, 1000), (105000, 1040), (125000, 1100)]

/-- Table: ESR temperature factor. -/
def esrFactor : List (Int × Int) :=
  [(-55000, 3000), (-40000, 2333), (-20000, 1700), (0, 1250), (25000, 1000)]

/-- k_T in thousandths: the largest factor of the die and the used thermistors (R131, R167). -/
def kT (s : State) : Nat :=
  let d := interp (pubd s 15) derating
  let a := if thUsed s 0 then interp (thTemp s 0) derating else 0
  let b := if thUsed s 1 then interp (thTemp s 1) derating else 0
  (max d (max a b)).toNat

/-- Dense mode (NANDGEOM.MODE). -/
def dense (s : State) : Bool := (cw s 11 0 0).getLsbD 0

/-- The length of H-SEAL in frames (R224). -/
def sealLen (s : State) : Nat := if dense s then 1200 else 600

/-- The frame under way is the last one of H-SEAL, in which the cores are quiesced (R239). -/
def sealLast (s : State) : Bool := s.top.state = .harvest && s.top.phase = .hSeal && decide (sealLen s ≤ s.top.inPhase + 1)

/-- CE_EN of channel c. -/
def ceEn (s : State) (c : Nat) : Nat := fld (cw s 11 (2 + c) 0) 0 4

/-- Whether target t (channel ⌊t ÷ 4⌋, CE t mod 4) is enabled. -/
def tgtOn (s : State) (t : Nat) : Bool := (cw s 11 (2 + t / 4) 0).getLsbD (t % 4)

/-- Enabled targets, ascending. -/
def targetsOn (s : State) : List Nat := (List.range 32).filter (tgtOn s)

/-- N_T (R133). -/
def nT (s : State) : Nat := (targetsOn s).length

/-- e_T in µJ (R132). -/
def eT (s : State) : Nat :=
  ceilDiv (max (crf s 0x50 24 8) (if dense s then 143 else 55) * 10 * kT s) 1000

/-- E_fixed_T in µJ (R133). -/
def eFixed (s : State) : Nat :=
  ceilDiv ((4000000 + 500000 * nT s + 1000000 * b2n s.dram.imgOpen) * kT s) 1000

/-- E_SEAL_T in µJ (R234). -/
def eSeal (s : State) : Nat :=
  ceilDiv ((1000000 + 250000 * nT s + 1000000 * b2n s.dram.imgOpen) * kT s) 1000

/-- ENERGY_NEED in mJ (R135). -/
def needOf (s : State) (dirty : Nat) : Nat := ceilDiv (eFixed s + eT s * dirty) 1000

/-- The store temperature T_s (R184). -/
def storeTemp (s : State) : Dyadic :=
  match thUsed s 0, thUsed s 1 with
  | true, true => if dyLe (thTemp s 0) (thTemp s 1) then thTemp s 0 else thTemp s 1
  | true, false => thTemp s 0
  | false, true => thTemp s 1
  | false, false => pubd s 15

/-- Four times ESR_25 in 0.1 mΩ, so that the factor 1.25 of R185 stays exact. -/
def esr25x4 (s : State) : Nat :=
  if s.store.cValid then 4 * s.store.esr25
  else
    match s.store.nvEsr25 with
    | some e => 5 * max e s.store.nvEsrRef
    | none => if s.store.nvEsrRef = 0 then 4 * 50 * cellsN s else 5 * s.store.nvEsrRef

/-- ESR_T of this device's own measurement, in 0.1 mΩ, rounded up (R184). -/
def esrTOwn (s : State) : Nat := ceilDiv (esr25x4 s * (interp (storeTemp s) esrFactor).toNat) 4000

/-- C_use of this device's own measurement, in 0.01 F (R134). -/
def cUseOwn (s : State) : Nat :=
  if s.store.cValid then min (50 * crated s) s.store.cMeas else 40 * crated s

/-- In a shared store group (R389). -/
def shared (s : State) : Bool := wvEn s && wvGroup s != 15

/-- Whether C_use and ESR_T come from the charge member's STORE status (R389). -/
def copiesStore (s : State) : Bool := shared s && !wvChg s

/-- C_use and ESR_T that the energy model uses (R134, R389). -/
def cUse (s : State) : Nat :=
  if copiesStore s then (match s.weave.store with | some st => fld st.2.1 0 16 | none => 0) else cUseOwn s
def esrT (s : State) : Nat :=
  if copiesStore s then (match s.weave.store with | some st => fld st.2.1 16 16 | none => 0) else esrTOwn s

/-- P_H in mW (R134), or the group power P_G over the members whose CONFIG status is held (R389). -/
def powerMw (s : State) : Nat :=
  let own := 8000 + 1250 * nT s
  if shared s then
    s.weave.peers.foldl (fun a p =>
      if p.1 != s.weave.myId && p.2.group == wvGroup s then
        (match p.2.cfg with | some c => a + 8000 + 1250 * fld c.2 0 6 | none => a) else a) own
  else own

/-- The expression of R134 for a VSTORE, exact, in mJ rounded down; 0 when VSTORE ≤ V_floor. -/
def energyAt (v : Dyadic) (vminMv pMw dEsr c eta : Nat) : Nat :=
  let q : Int := Int.ofNat (10 * vminMv)
  let vn : Int := Int.ofNat (10 * vminMv * vminMv + pMw * dEsr)
  let f : Int := 2 ^ (2 * v.exp)
  let diff : Int := v.num * v.num * (q * q) - vn * vn * f
  if v.num * q ≤ vn * 2 ^ v.exp then 0
  else (Int.ofNat ((920 + 8 * eta) * c) * diff / (200000000 * f * (q * q))).toNat

/-- E_S: the whole store's usable energy (R134, R389). -/
def eStore (s : State) : Nat :=
  energyAt (pubd s 1) (vmin s * 100) (powerMw s) (esrT s - s.store.nvEsrRef) (cUse s) (crf s 0x50 8 3)

/-- ENERGY_NOW: 0 with CFG_BAD (R176); a member's share in a shared group (R392). -/
def energyNow (s : State) : Nat :=
  if s.store.cfgBad then 0
  else if shared s then
    (if s.weave.joined then (match s.weave.frac with | some f => eStore s * f / 65536 | none => 0) else 0)
  else eStore s

/-- CREDIT (R136). -/
def creditOf (now need e : Nat) : Nat := if need ≤ now then (now - need) * 1000 / e else 0

/-! DRAM readiness. -/

/-- MR0's CAS latency in clocks, 0 for a reserved code: A12, A6:A4 and A2 (PRESUMED: JESD79-4). -/
def mrCl (mr0 : Word) : Nat :=
  [9, 10, 11, 12, 13, 14, 15, 16, 18, 20, 22, 24, 23, 17, 19, 21, 25, 26, 27, 28, 0, 30, 0, 32].getD
    (16 * fld mr0 12 1 + 2 * fld mr0 4 3 + fld mr0 2 1) 0

/-- MR0's write recovery in clocks, twice its RTP, 0 for a reserved code: A13 and A11:A9 (PRESUMED: JESD79-4). -/
def mrWr (mr0 : Word) : Nat := [10, 12, 14, 16, 18, 20, 24, 22, 26, 28].getD (8 * fld mr0 13 1 + fld mr0 9 3) 0

/-- MR2's CAS write latency in clocks: A5:A3 (PRESUMED: JESD79-4). -/
def mrCwl (mr2 : Word) : Nat := [9, 10, 11, 12, 14, 16, 18, 20].getD (fld mr2 3 3) 0

/-- Check 0x8 at 3200 or 2400 MT/s: CL and CWL of that rate's speed bins, WR of at least 15 ns (PRESUMED: JESD79-4). -/
def mrLegal (fast : Bool) (mr0 mr2 : Word) : Bool :=
  if fast then mrCl mr0 ∈ [20, 22, 24] && mrCwl mr2 ∈ [16, 20] && decide (24 ≤ mrWr mr0)
  else mrCl mr0 ∈ [15, 16, 17, 18] && mrCwl mr2 ∈ [12, 16] && decide (18 ≤ mrWr mr0)

/-- GEOM in force: DDRMR index 7. -/
def geomW (s : State) : Word := cw s 10 7 0

/-- GEOM.SPEED: 3200 MT/s. -/
def speed3200 (s : State) : Bool := (geomW s).getLsbD 6

def h2400 (s : State) : Bool := (cw s 10 12 0).getLsbD 0
def ret2400 (s : State) : Bool := (cw s 10 12 0).getLsbD 1

/-- The lowest failing code of Table: Mode-register checks; 0: none fails (R211). -/
def mrErr (s : State) : Nat :=
  let m (i : Nat) : Word := cw s 10 i 0
  if !(m 1).getLsbD 0 || (m 0).getLsbD 8 then 1
  else if fld (m 1) 3 2 ≠ 0 then 2
  else if fld (m 4) 6 3 ≠ 0 then 3
  else if (m 2).getLsbD 12 then 4
  else if fld (m 5) 11 2 ≠ 0 then 5
  else if (m 4).getLsbD 1 || (m 4).getLsbD 3 || fld (m 3) 6 3 ≠ 0 then 6
  else if (m 1).getLsbD 7 || (m 3).getLsbD 2 || (m 0).getLsbD 7 then 7
  else if !mrLegal (speed3200 s) (m 0) (m 2) then 8
  else if 2 ≤ fld (geomW s) 2 2 || ((geomW s).getLsbD 5 && fld (geomW s) 0 2 % 2 == 0) || decide (2097152 < cellsCfg s) then 9
  else if speed3200 s && (h2400 s || ret2400 s) &&
      (cw s 10 13 0 == 0 || cw s 10 14 0 == 0 || !mrLegal false (cw s 10 13 0) (cw s 10 14 0)) then 10
  else 0

/-- The writable index 7 fields a training set records (R216). -/
def geomKey (s : State) : Word := geomW s &&& 0x7F

/-- TRAIN_HOST and TRAIN_2400 (R216). -/
def trainHost (s : State) : Bool := s.dram.setHost == some (geomKey s)
def train2400 (s : State) : Bool := if speed3200 s then s.dram.set2400 == some (geomKey s) else trainHost s

/-- DDR_STAT.READY (R212). -/
def ready (s : State) : Bool :=
  mrErr s == 0 && trainHost s && (train2400 s || !(h2400 s || ret2400 s))

/-! NAND. -/

/-- Planes P. -/
def planes (s : State) : Nat := 2 ^ fld (cw s 11 0 0) 1 2

/-- T_c: enabled targets of channel c not declared out (R247). -/
def tc (s : State) (c : Nat) : Nat := ((targetsOn s).filter fun t => t / 4 == c && !(tgtOf s t).out).length

/-- Lane c is active (R230). -/
def laneActive (s : State) (c : Nat) : Bool := decide (0 < tc s c) && !(laneOf s c).out

/-- Active lanes, ascending. -/
def lanesOn (s : State) : List Nat := (List.range 8).filter (laneActive s)

/-- r_L = min(26, ⌊T_c × P × g⌋) bytes per tick, g = 2 or 0.625 (R247). -/
def laneRate (s : State) (c : Nat) : Nat :=
  min 26 (if dense s then tc s c * planes s * 5 / 8 else tc s c * planes s * 2)

/-- BITS, PPB, BPP, PAR and the seal targets. -/
def gBits (s : State) : Nat := fld (cw s 11 0 0) 3 2 + 1
def gPpb (s : State) : Nat := fld (cw s 11 0 1) 16 16
def gBpp (s : State) : Nat := fld (cw s 11 0 2) 0 16
def gPar (s : State) : Nat := 256 + 128 * fld (cw s 11 0 0) 7 2
def trkRes (s : State) : Nat := fld (cw s 11 0 3) 0 21

/-- STRIPES: stripes reserved per target (R260). -/
def stripes (s : State) : Nat :=
  let l := max 1 (lanesOn s).length
  let cl := ceilDiv (sPart s + trkRes s) l
  let t := max 1 (((List.range 8).filter fun c => 0 < tc s c).foldl (fun a c => min a (tc s c)) 4)
  let pps := if dense s then gPpb s else gPpb s / gBits s
  let dat := ceilDiv (ceilDiv (4 * cl) t) (max 1 (planes s * pps))
  let trk := if dense s then ceilDiv (ceilDiv (4 * ceilDiv (trkRes s) l) t) (max 1 (planes s * (gPpb s / gBits s))) else 0
  dat + trk + 2

/-- S_A and S_B (R260). -/
def sealA (s : State) : Nat := (targetsOn s).head?.getD 0
def sealB (s : State) : Nat :=
  match (targetsOn s).reverse.find? (fun t => t / 4 != sealA s / 4) with
  | some t => t
  | none => (targetsOn s).getLast?.getD (sealA s)

/-- TRK_LEFT: what the armed Comb's passes leave of TRK_RES (R259). -/
def trkLeft (s : State) : Nat := if s.nand.armed then trkRes s - s.dram.passes.foldl (fun a p => a + p.2) 0 else 0

end Sys2Proof.Machine
end

