-- ==== Sys2Proof/Machine/Frame.lean ====
section
/-! DEFINITION. The frame generator, the sag throttle and the ledger (03): epoch advance after a stop, the divider in
force, and how queued work is charged. -/

namespace Sys2Proof.Machine

abbrev Out := Host.Outcome State Fault Refusal

/-! The sag throttle. Held conditions: 0 Tj135, 1 Tj145, 2 V785, 3 V770, 4 V755, 5 VST 0.25, 6 VST 0.125,
7, 8, 9 TEST_DHW = 1, 2, 3. A held condition's count is 0 while it has been present in the frame under way, else 1 more than
the whole frames that it has been absent; releasedMark says that its 256th absent frame ends. -/

/-- The count of a condition whose 256th frame of absence ends with the frame under way (R66). -/
def releasedMark : Nat := 1000

/-- The divider code a condition demands (Table: Hardware demand). -/
def condDemand (i : Nat) : Nat :=
  if i = 4 ∨ i = 9 then 3 else if i = 1 ∨ i = 3 ∨ i = 6 ∨ i = 8 then 2 else 1

/-- A guard-band condition (Table: Hardware demand; TEST_DHW). -/
def condGuard (i : Nat) : Bool := decide (3 ≤ i)

/-- Whether a condition is present now (R64). -/
def condNow (s : State) (i : Nat) : Bool :=
  let vsg : Int := Int.ofNat (crf s 0x64 8 4)
  let vst (step : Int) : Bool := dyLt (pubd s 1) (Int.ofNat (vmin s) * 100 + vsg * step)
  if i = 0 then !dyLt (pubd s 15) 135000 else if i = 1 then !dyLt (pubd s 15) 145000
  else if i = 2 then decide (1 ≤ s.fr.vdd) else if i = 3 then decide (2 ≤ s.fr.vdd) else if i = 4 then decide (3 ≤ s.fr.vdd)
  else if i = 5 then vst 250 else if i = 6 then vst 125
  else s.top.state = .service && crf s 0x64 12 2 == i - 6

/-- The conditions present now. -/
def condsNow (s : State) : List Nat := (List.range 10).filter (condNow s)

/-- The conditions held: each until the boundary that ends its 256th frame of absence (R66). -/
def heldConds (s : State) : List Nat := s.fr.held.map (·.1)

/-- D_hw as a code (R64). -/
def dHw (s : State) : Nat := (heldConds s).foldl (fun a i => max a (condDemand i)) 0

/-- GUARD_BAND (R64). -/
def guardBand (s : State) : Bool := (heldConds s).any condGuard

/-- CEIL, FLOOR and F_eff as codes (R65). -/
def ceilCode (s : State) : Nat := crf s 0x64 0 2
def floorCode (s : State) : Nat := crf s 0x64 4 2
def fEff (s : State) : Nat := max (floorCode s) (ceilCode s)

/-- The divider that R65 gives, as a code. -/
def divRule (s : State) : Nat :=
  if guardBand s then max (dHw s) (ceilCode s) else max (ceilCode s) (min (dHw s) (fEff s))

/-- Conditions present join the held list, with their release count at 0. -/
def holdConds (s : State) : State :=
  let held := (condsNow s).foldl (fun h i => Sparse.put (fun _ => 300) h i 0) s.fr.held
  { s with fr := { s.fr with held := held } }

/-- An override episode begins, goes on or ends (R67). -/
def overrideEpisode (s : State) : State :=
  if guardBand s && decide (fEff s < dHw s) then
    if s.fr.inEpisode then s
    else
      let vgb := (heldConds s).any fun i => i == 3 || i == 4
      let sgb := (heldConds s).any fun i => i == 5 || i == 6
      let thm := (heldConds s).any fun i => i == 0 || i == 1
      tally 0x0A 1 (BitVec.ofNat 32 (dHw s + 4 * fEff s + 16 * b2n vgb + 32 * b2n sgb + 64 * b2n thm))
        { s with fr := { s.fr with polOvr := true, ovrCount := satInc 0xFFFF s.fr.ovrCount, inEpisode := true } }
  else { s with fr := { s.fr with inEpisode := false } }

/-- The ticks a running Hive resource still needs grow with the divider (R57): at tick t, work charged beyond t runs on
at the new divider. -/
def stretch (res tick d0 d1 : Nat) (s : State) : State :=
  let ended := tick - reserveOf s.top.state res
  let left := (acctOf s res).usedNow - ended
  spend res (left * (2 ^ (d1 - d0) - 1)) s

/-- A rise of D in mid-frame (R66). -/
def riseNow (tick : Nat) (s : State) : State :=
  let d := divRule s
  if s.fr.div < d then
    let s1 := stretch 10 tick s.fr.div d (stretch 9 tick s.fr.div d s)
    { s1 with fr := { s1.fr with div := d } }
  else s

/-- VDD_CORE_DROOP: the demand rises at once (R64, R66, R67). -/
def vddDroop (level tick : Nat) (s : State) : State :=
  if powered s then overrideEpisode (riseNow tick (holdConds { s with fr := { s.fr with vdd := max s.fr.vdd level } }))
  else s

/-- A write of TEST_DHW: its demand is present from this moment (R64, THROTTLE_CTRL), at a tick of the frame that the write
does not tell. -/
def testDemand (s : State) : State :=
  if powered s then
    let s1 := overrideEpisode (riseNow (Config.writeTick s.free % 100) (holdConds s))
    { s1 with free := s1.free + 1 }
  else s

/-- THROTTLE_RELEASE: the 256th consecutive frame without a held condition is under way; the condition is released, and D and
D_hw with it, at the boundary that ends the frame (R66). -/
def throttleRelease (s : State) : State :=
  let seen := condsNow s
  { s with fr := { s.fr with held := s.fr.held.map fun p =>
      if p.2 = 256 && !seen.contains p.1 then (p.1, releasedMark) else p } }

/-- The frame that ends: a held condition that it held begins its count of absent frames anew, the others count on (R66). -/
def throttleCount (s : State) : State :=
  let seen := condsNow s
  let held := s.fr.held.map fun p =>
    if seen.contains p.1 || p.2 == 0 then (p.1, 1) else (p.1, if p.2 = releasedMark then releasedMark else min 256 (p.2 + 1))
  { s with fr := { s.fr with held := held } }

/-- Work that a Hive resource carries into a frame runs on at the new divider (R57). -/
def carryStretch (res d0 d1 : Nat) (s : State) : State :=
  spend res ((acctOf s res).usedNow * (2 ^ (d1 - d0) - 1)) s

/-- Step 3 of R47: the conditions of the new frame are held, those that were released go, and D takes its rule's value; a rise
makes a condition that was being released wait again, and stretches what the Hive resources carry (R57, R66, 03 Edges). -/
def throttleBoundary (s : State) : State :=
  let s1 := holdConds s
  let gone := { s1 with fr := { s1.fr with held := s1.fr.held.filter fun p => p.2 != releasedMark } }
  let s2 := if s1.fr.div < divRule gone then
      { s1 with fr := { s1.fr with held := s1.fr.held.map fun p => if p.2 = releasedMark then (p.1, 1) else p } }
    else gone
  let d := divRule s2
  let s3 := if s2.fr.div < d then carryStretch 10 s2.fr.div d (carryStretch 9 s2.fr.div d s2) else s2
  overrideEpisode { s3 with fr := { s3.fr with div := d } }

/-! The ledger. -/

/-- The ticks an item costs when it is considered (R54). -/
def itemCost (s : State) (it : Item) : Nat :=
  if it.cycles = 0 then it.cost else ceilDiv (it.cycles * 2 ^ s.fr.div) 20

/-- What happens to an item that is considered (Table: Ledger decisions): none, it waits; some k, k ticks are admitted;
refused. -/
inductive Decision where
  | whole | part (ticks : Nat) | later | refuse
  deriving DecidableEq, Repr

/-- Table: Ledger decisions. -/
def ledgerDecide (cost gran r b : Nat) : Decision :=
  if cost ≤ r then .whole
  else if gran ≠ 0 then
    if gran ≤ r then .part (r / gran * gran) else if gran ≤ b then .later else .refuse
  else if cost ≤ b then .later else .refuse

/-- The part of an item that is left after k ticks. -/
def afterTicks (s : State) (it : Item) (k : Nat) : Item :=
  if it.cycles = 0 then { it with cost := it.cost - k } else { it with cycles := it.cycles - k * 20 / 2 ^ s.fr.div }

/-- A counter of an account moves. -/
def bumpAcct (res : Nat) (f : Acct → Acct) (s : State) : State := modAcct res f s

/-- An item is considered: the state after it, and the item if it still waits (R55). -/
def consider (it : Item) (s : State) : State × Option Item :=
  let c := itemCost s it
  match ledgerDecide c it.gran (ledLeft s it.res) (budget s it.res) with
  | .whole => let s1 := spend it.res c s; ({ s1 with fr := { s1.fr with done := s1.fr.done ++ [it] } }, none)
  | .part k => (bumpAcct it.res (fun a => { a with splits := satInc 0xFFFF a.splits }) (spend it.res k s), some (afterTicks s it k))
  | .later => (s, some it)
  | .refuse =>
    (tally 0x08 1 (BitVec.ofNat 32 (it.res + c % 2 ^ 24 * 256))
      (bumpAcct it.res (fun a => { a with refusals := satInc 0xFFFF a.refusals }) s), none)

/-- The queue is considered in order; an item that waits blocks the items behind it on its resource (R56). -/
def considerAll : List Item → List Nat → State → State × List Item
  | [], _, s => (s, [])
  | it :: q, blocked, s =>
    if blocked.contains it.res then
      let r := considerAll q blocked s
      (r.1, it :: r.2)
    else
      match consider it s with
      | (s1, none) => considerAll q blocked s1
      | (s1, some it1) =>
        let r := considerAll q (it1.res :: blocked) s1
        (r.1, it1 :: r.2)

/-- An item joins its resource's queue and, with nothing ahead of it, is considered at once (R55). -/
def queueItem (it : Item) (s : State) : State :=
  if s.fr.queue.any (fun i => i.res == it.res) then { s with fr := { s.fr with queue := s.fr.queue ++ [it] } }
  else
    match consider it s with
    | (s1, none) => s1
    | (s1, some it1) => { s1 with fr := { s1.fr with queue := s1.fr.queue ++ [it1] } }

/-- The first item of a resource whose ticks are all spent leaves the list of ended work: work of one resource ends in its queue's
order (R56). -/
def takeDone (w : Work) (s : State) : Option State :=
  match s.fr.done.find? (fun i => decide (i.work = w)) with
  | some i =>
    match s.fr.done.find? (fun j => j.res == i.res) with
    | some j => if j.work = w then some { s with fr := { s.fr with done := s.fr.done.erase j } } else none
    | none => none
  | none => none

/-- Queued and ended items of a kind are withdrawn. -/
def dropWork (p : Work → Bool) (s : State) : State :=
  { s with fr := { s.fr with
      queue := s.fr.queue.filter fun i => !p i.work
      done := s.fr.done.filter fun i => !p i.work } }

/-- Whether an item of a kind is queued or has ended. -/
def hasWork (s : State) (w : Work) : Bool :=
  s.fr.queue.any (fun i => decide (i.work = w)) || s.fr.done.any (fun i => decide (i.work = w))

/-- An account at a boundary (R55, R57, R60): b is the budget of the frame that ends. Only the Hive resources carry. USED_LAST
takes every tick charged in the frame, those that become carry among them; a carry that carries again is one overrun, counted
when it first crossed a boundary (DEDUCED, log entry 21). -/
def closeAcct (hive : Bool) (b : Nat) (a : Acct) : Acct :=
  let last := min 255 a.usedNow
  let excess := if hive then a.usedNow - b else 0
  { a with
    usedLast := last
    usedMax := max a.usedMax last
    usedNow := excess
    carry := min 0xFFFF excess
    overruns := if 0 < excess ∧ a.carry ≤ b then satInc 0xFFFF a.overruns else a.overruns }

/-- The frame that ends is closed: used and carried ticks are recorded, with the budgets of its state. -/
def ledgerClose (st : DevState) (s : State) : State :=
  (List.range 16).foldl (fun s r => modAcct r (closeAcct (r == 9 || r == 10) (100 - reserveOf st r)) s) s

/-- Step 4 of R47: the ledger opens and considers the queue; in the last H-SEAL frame it admits no Hive item (R239). -/
def ledgerOpen (s : State) : State :=
  let r := considerAll s.fr.queue (if sealLast s then [9, 10] else []) { s with fr := { s.fr with queue := [] } }
  { r.1 with fr := { r.1.fr with queue := r.2 ++ r.1.fr.queue } }

/-- A work item of a core that asks for the new frame joins its resource's queue (R54, R55). A halted or unpowered core submits
none, nor does an extension that no activation runs (R327). -/
def submitTask (s : State) (t : HiveTask) : State :=
  let onB := t.core || t.ext
  let core := if onB then s.hive.b else s.hive.a
  if core.inReset || core.halted || quiesced s || (t.ext && s.hive.extSince.isNone) then s
  else if t.ext then queueItem ⟨10, 0, max 1 t.gran, t.cycles, .extension⟩ s
  else queueItem ⟨if onB then 10 else 9, 0, t.gran, t.cycles, .hiveTask onB⟩ s

/-- The firmware's items join the queues, and the extension's behind them (R327). -/
def submitTasks (ts : List HiveTask) (s : State) : State :=
  (ts.filter (fun t => !t.ext) ++ ts.filter (fun t => t.ext)).foldl submitTask s

/-- Ended firmware items need nothing more of the ledger. -/
def reapTasks (s : State) : State :=
  { s with fr := { s.fr with done := s.fr.done.filter fun i => match i.work with | .hiveTask _ => false | .extension => false | _ => true } }

/-- Queued Hive items that have not started are discarded as the HIVE island powers off (03 Edges). -/
def dropHiveItems (s : State) : State :=
  { s with fr := { s.fr with queue := s.fr.queue.filter fun i => !(i.res == 9 || i.res == 10) } }

/-! The frame generator. -/

/-- The generator stops: the stop is measured from here (R49). -/
def stopFrames (s : State) : State :=
  { s with fr := { s.fr with running := false, stopTick := s.scout.freeTicks } }

/-- The generator restarts with a boundary: EPOCH takes 1 and the stopped time (R49), GAP_SEC the stopped seconds, and the
F-class shadows that AON kept come into force (R40, R47), with Scout's publication (R168). -/
def startFrames (s0 : State) : State :=
  let s := publish s0
  let t := s.scout.freeTicks - s.fr.stopTick
  let n := t * 250000 + s.fr.rem
  { s with
    conf := { s.conf with cur := s.conf.shadow }
    fr := { s.fr with
      running := true
      epoch := s.fr.epoch + BitVec.ofNat 48 (1 + n / 32768)
      rem := n % 32768
      gapSec := min 0xFFFFFFFF (t / 32768) } }

/-- REF_LOSS: the backup oscillator takes over (R52). -/
def refLossNow (s : State) : State :=
  if powered s && !s.fr.refLoss then
    tally 0x09 1 0 { s with fr := { s.fr with refLoss := true, refLossCnt := satInc 255 s.fr.refLossCnt } }
  else s

/-! One definition per command. -/

def execVddCoreDroop (level tick : Nat) (s : State) : Out := .next (vddDroop level tick s)
def execThrottleRelease (s : State) : Out := .next (throttleRelease s)

end Sys2Proof.Machine
end

