-- ==== Sys2Proof/Machine/Admit.lean ====
section
/-! DEFINITION. Rings, the dirty map and Admission Guard (05, 06): how entries are published, decided and answered, and
the commands of RING_SEL, RING_PORT, RING_DOORBELL and of the admission engine. -/

namespace Sys2Proof.Machine

/-! The dirty map (R126). -/

/-- A cell's nibble, its STATE (0 CLEAN, 1 DIRTY, 2 TRICKLED, 3 SAVED) and its GEN. -/
def nibble (s : State) (c : Nat) : Nat := Sparse.get (fun _ => 0) s.adm.map c
def cellState (s : State) (c : Nat) : Nat := nibble s c % 4
def cellGen (s : State) (c : Nat) : Nat := nibble s c / 4

/-- EPOCH[27:26] (R127). -/
def genNow (s : State) : Nat := fld s.fr.epoch 26 2

/-- The map words of a range are written: an armed injection marks them (R342). -/
def mapWrites (first count : Nat) (s : State) : State :=
  if s.tally.injChk = 8 then
    (List.range ((first + count - 1) / 16 + 1 - first / 16)).foldl (fun s i =>
      let w := first / 16 + i
      let j := injectUse 8 s
      let s1 := j.1
      if j.2 = 1 then { s1 with adm := { s1.adm with ceWords := insertNat w s1.adm.ceWords } }
      else if j.2 = 2 then { s1 with adm := { s1.adm with ueWords := insertNat w s1.adm.ueWords } } else s1) s
  else s

/-- A cell's nibble is written; TRICKLED_TOTAL follows. -/
def writeCell (c st gen : Nat) (s : State) : State :=
  let was := cellState s c
  { s with adm := { s.adm with
      map := Sparse.put (fun _ => 0) s.adm.map c (st + 4 * gen)
      trickledTotal := s.adm.trickledTotal + (if st = 2 then 1 else 0) - (if was = 2 then 1 else 0) } }

/-- DIRTY_NOW of t and DIRTY_TOTAL rise, or fall, by n (R135). -/
def addDirty (t n : Nat) (s : State) : State :=
  modTenant t (fun x => { x with dirtyNow := x.dirtyNow + n })
    { s with adm := { s.adm with dirtyTotal := s.adm.dirtyTotal + n } }
def subDirty (t n : Nat) (s : State) : State :=
  modTenant t (fun x => { x with dirtyNow := x.dirtyNow - n })
    { s with adm := { s.adm with dirtyTotal := s.adm.dirtyTotal - n } }

/-- A cell leaves DIRTY, if it was DIRTY, for state st; its owner's counts fall (R126, R135). -/
def undirty (c st : Nat) (s : State) : State :=
  let s1 := writeCell c st (cellGen s c) s
  if cellState s c = 1 then
    match ownerOf s c with
    | some t => subDirty t 1 s1
    | none => { s1 with adm := { s1.adm with dirtyTotal := s1.adm.dirtyTotal - 1 } }
  else s1

/-- The listed cells of a range in a state. -/
def cellsIn (s : State) (first count st : Nat) : List Nat :=
  (s.adm.map.filter fun p => decide (first ≤ p.1) && decide (p.1 < first + count) && p.2 % 4 == st).map (·.1)

/-- The cells FIRST to FIRST + COUNT − 1. -/
def rangeOf (first count : Nat) : List Nat := (List.range count).map (first + ·)

/-! Energy terms follow the counts (R134 to R136, R149). -/

/-- ADMIT_LOW threshold in cells. -/
def lowThr (s : State) : Nat := crf s 0x50 16 8 * 1024

/-- ENERGY_NEED, CREDIT and SHORT follow; the entry into SHORT sends its NOTE and ADMIT_LOW sets (R136, R149). -/
def refresh (s : State) : State :=
  let need := needOf s s.adm.dirtyTotal
  let credit := creditOf s.adm.now need (eT s)
  let short := decide (s.adm.now < need)
  let newShort := short && !s.adm.short
  let low := s.adm.lowArmed && (newShort || (decide (lowThr s ≤ s.adm.credit) && decide (credit < lowThr s)))
  let s1 := { s with adm := { s.adm with
    need := need, credit := credit, short := short, fell := s.adm.fell && short
    lowArmed := s.adm.lowArmed && !low
    lowCnt := if low then 0 else s.adm.lowCnt } }
  let s2 := if newShort then tally 0x16 1 0 s1 else s1
  if low then setInt 1 s2 else s2

/-! Entries. -/

def eOp (e : Entry) : Nat := fld e.w0 0 8
def eFlags (e : Entry) : Nat := fld e.w0 8 8
def eTag (e : Entry) : BitVec 16 := (e.w0 >>> 16).truncate 16
def eFirst (e : Entry) : Nat := e.w1.toNat
def eCount (e : Entry) : Nat := e.w2.toNat

/-- The lowest failing code of Table: Malformed entries for an entry of ring r; 0: well formed (R125). A check is made only on
words that read without an uncorrectable error, so that the CRC of an entry with such a word is not compared (DEDUCED, log
entry 53). -/
def badCode (s : State) (r : Nat) (e : Entry) : Nat :=
  let op := if r % 4 = 0 then 0x01 else if r % 4 = 1 then 0x10 else 0x20
  let sound := fun w => !e.ueW.contains w
  if rCrcChk s r && e.ueW.isEmpty && entryCrc e.w0 e.w1 e.w2 e.w3 != byteOf e.w3 3 then 1
  else if sound 0 && eOp e != op then 2
  else if sound 0 && decide (2 ≤ eFlags e) then 3
  else if sound 2 && eCount e == 0 then 4
  else if sound 1 && decide (eFirst e < tBase s (r / 4)) then 5
  else if sound 1 && sound 2 && decide (tLast s (r / 4) < eFirst e + eCount e - 1) then 5
  else if !e.ueW.isEmpty then 6
  else 0

/-- The pool byte offset of word w of an entry of ring r. -/
def poolAddr (s : State) (r : Nat) (e : Entry) (w : Nat) : Word := BitVec.ofNat 32 ((rBase s r + e.slot) * 16 + 4 * w)

/-- The device reads an entry: its correctable and its uncorrectable words are reported (R109, R125, R321). -/
def entryRead (r : Nat) (e : Entry) (s : State) : State :=
  e.ueW.foldl (fun s w => tally 0x14 2 (poolAddr s r e w) s) (e.ceW.foldl (fun s w => tally 0x14 1 (poolAddr s r e w) s) s)

/-- Word w of an entry as the device reads it: what an uncorrectable word reads as is free. -/
def asRead (e : Entry) (w : Nat) (x : Word) (s : State) : Word := if e.ueW.contains w then Config.ueWord (s.free + w) else x

/-- The event that answers an entry (Table: Event opcodes). -/
def answerEvent (e : Entry) (v : Verdict) (s : State) : Entry :=
  match v with
  | .accept => mkEvent 0x80 0 (eTag e) e.w1 e.w2 s
  | .refuse r => mkEvent 0x81 r (eTag e) e.w1 e.w2 s
  | .cleaned => mkEvent 0x82 0 (eTag e) e.w1 e.w2 s
  | .demandDone st => mkEvent 0x86 st (eTag e) e.w1 e.w2 s
  | .bad c => mkEvent 0x8B c ((asRead e 0 e.w0 s >>> 16).truncate 16) (asRead e 1 e.w1 s) (asRead e 2 e.w2 s) s

/-- The EVENT ring of t takes an answer: it is usable and has 2 free entries (R116). -/
def answerRoom (s : State) (t : Nat) : Bool := rUsable s (4 * t + 3) && decide (2 ≤ evFree s (4 * t + 3))

/-- The RINGS work of ring r waits for the ticks of a later frame, behind what waits already (R56, R114). -/
def ringsWait (r : Nat) (s : State) : State :=
  if s.ring.late.contains (.serve r) then s else { s with ring := { s.ring with late := s.ring.late ++ [.serve r] } }

/-- The answer to an entry of ring r is posted and counted (R100, R114, R116, R125). -/
def postAnswer (r : Nat) (e : Entry) (v : Verdict) (s : State) : State :=
  let t := r / 4
  let isBad := match v with | .bad _ => true | _ => false
  let s1 := putEvent (4 * t + 3) (answerEvent e v s) isBad (eFlags e % 2 == 1) { s with free := s.free + 3 }
  match v with
  | .accept => modTenant t (fun x => { x with admitCnt := satInc 65535 x.admitCnt }) s1
  | .refuse c => modTenant t (fun x => { x with refuseCnt := satInc 65535 x.refuseCnt, lastRefuse := c }) s1
  | .bad c =>
    modRing r (fun g => { g with badDrop := satInc 65535 g.badDrop, lastBad := c })
      (modTenant t (fun x => { x with badCnt := satInc 65535 x.badCnt }) s1)
  | _ => s1

/-- The head of t's pending list is replaced. -/
def setHead (t : Nat) (p : Pend) (s : State) : State :=
  modTenant t (fun x => { x with pend := p :: x.pend.tail }) s

/-- The stage of t's head CLEAN entry. -/
def setClean (t : Nat) (st : Stage) (s : State) : State := modTenant t (fun x => { x with clean := st }) s

/-! Which entries are decided, and in which order (R120, R121, R123, R124). -/

/-- DIRTY entries are decided in the present state (Table: Ring use by state, R25, R130, ADMIT_CTRL.HOLD). -/
def dirtyDecides (s : State) : Bool :=
  (s.top.state ∈ [DevState.guard, .watch, .early, .service] || (s.top.state = .ret && s.top.phase = .done)) &&
  !crb s 0x50 0 && !s.adm.recount && !s.top.dirtyStop

/-- CLEAN entries are decided in the present state (Table: Ring use by state, R130). -/
def cleanDecides (s : State) : Bool :=
  (s.top.state ∈ [DevState.guard, .watch, .early, .service] || (s.top.state = .harvest && !s.top.window) ||
    (s.top.state = .ret && s.top.phase = .done)) && !s.adm.recount

/-- An entry that has been decided is answered in the present state: not while its ring's entries are Pending (Table: Ring use
by state), but for the map writes that run on in H-DECIDE and H-ISOLATE (06 Edges). -/
def answersNow (s : State) : Bool :=
  s.top.state ∈ [DevState.guard, .watch, .early, .service] || (s.top.state = .ret && s.top.phase = .done) ||
  (s.top.state = .harvest && (!s.top.window || s.top.phase = .hDecide || s.top.phase = .hIsolate))

/-- A CLEAN entry of t published before entry e has not been decided (R121). -/
def cleanBefore (s : State) (t : Nat) (e : Entry) : Bool :=
  let g := ringOf s (4 * t + 1)
  let open_ := match (tenOf s t).clean with | .writing => g.pub.tail | .decided _ => g.pub.tail | _ => g.pub
  (open_ ++ g.fresh).any fun c => decide (c.ord < e.ord)

/-- t's head DIRTY entry is to be scanned now. -/
def dirtyHead (s : State) (t : Nat) : Option Entry :=
  match (tenOf s t).pend with
  | p :: _ => if p.stage = .waiting && !cleanBefore s t p.e then some p.e else none
  | [] => none

/-- The ticks of the scan of an entry: 32 cells a tick, none for an entry that fails a check (R125, R137). -/
def scanCost (s : State) (r : Nat) (e : Entry) : Nat := if badCode s r e ≠ 0 then 0 else ceilDiv (eCount e) 32

/-- The scan of t's head CLEAN entry is queued. -/
def cleanServe (t : Nat) (s : State) : State :=
  match (ringOf s (4 * t + 1)).pub with
  | e :: _ =>
    if (tenOf s t).clean = .waiting then
      queueItem ⟨13, scanCost s (4 * t + 1) e, 1, 0, .cleanScan t⟩ (setClean t .scanning s)
    else s
  | [] => s

/-- t is the tenant of its rank that was served last (R123). -/
def servedLast (t : Nat) (s : State) : State :=
  { s with ring := { s.ring with lastServ := Sparse.put (fun _ => 63) s.ring.lastServ (tRank s t) t } }

/-- The scan of t's head DIRTY entry is queued. -/
def dirtyServe (t : Nat) (s : State) : State :=
  match dirtyHead s t with
  | some e =>
    let s1 := modTenant t (fun x => { x with pend := match x.pend with | p :: ps => { p with stage := .scanning } :: ps | [] => [] }) s
    queueItem ⟨13, scanCost s (4 * t) e, 1, 0, .admitScan t⟩ (servedLast t s1)
  | none => s

/-- The tenants of a rank, from the one after the tenant served last (R123). -/
def turnOf (s : State) (rank : Nat) : List Nat :=
  let last := Sparse.get (fun _ => 63) s.ring.lastServ rank
  ((List.range 64).map fun i => (last + 1 + i) % 64).filter fun t => tRank s t == rank

/-- The heads that may be scanned now are: CLEAN rings in ascending order, then DIRTY heads in descending rank. -/
def serveHeads (s : State) : State :=
  let s1 := if cleanDecides s then (List.range 64).foldl (fun s t => cleanServe t s) s else s
  if dirtyDecides s1 then
    [7, 6, 5, 4, 3, 2, 1, 0].foldl (fun s k => (turnOf s k).foldl (fun s t => dirtyServe t s) s) s1
  else s1

/-- The answer to t's DIRTY head, once decided, is posted; the head leaves the pending list and the next one is served (R113,
R115, R116). It waits for room in the EVENT ring, and for ticks. -/
def answerDirty (t : Nat) (s : State) : State :=
  match (tenOf s t).pend with
  | p :: _ =>
    match p.stage with
    | .decided v =>
      if answersNow s && answerRoom s t then
        if ringsFree s then serveHeads (postAnswer (4 * t) p.e v (modTenant t (fun x => { x with pend := x.pend.tail }) s))
        else ringsWait (4 * t) s
      else s
    | _ => s
  | [] => s

/-- The answer to t's CLEAN head, once decided, is posted and the head taken from its ring. -/
def answerClean (t : Nat) (s : State) : State :=
  match (tenOf s t).clean, (ringOf s (4 * t + 1)).pub with
  | .decided v, e :: _ =>
    if answersNow s && answerRoom s t then
      if ringsFree s then
        serveHeads (postAnswer (4 * t + 1) e v
          (modRing (4 * t + 1) (fun g => { g with pub := g.pub.tail, doneCnt := satInc 65535 g.doneCnt }) (setClean t .waiting s)))
      else ringsWait (4 * t + 1) s
    else s
  | _, _ => s

/-- The oldest answer of t that outlived its ring's reset, or its decision's ticks, and is ready is posted (R106, R116). -/
def answerKept (t : Nat) (s : State) : State :=
  match s.ring.answers.find? (fun a => a.tenant == t && a.ready) with
  | some a =>
    if answerRoom s t then
      if ringsFree s then postAnswer (4 * t + a.kind) a.e a.v { s with ring := { s.ring with answers := s.ring.answers.erase a } }
      else ringsWait (4 * t + 3) s
    else s
  | none => s

/-! Admission (R137 to R143). -/

/-- Admission is closed by a fixed action or by HALTED (R336, R212, R238). -/
def closedByTally (s : State) : Bool := !ready s || !s.nand.armed || s.tally.halted

/-- Floors of the other enabled tenants still to cover: R of R139. -/
def floorsOf (s : State) (t : Nat) : Nat :=
  (enabledTenants s).foldl (fun a u => if u = t then a else a + (tFloor s u - (tenOf s u).dirtyNow)) 0

/-- DIRTY cells of all CRITICAL tenants: C_crit of R142. -/
def critDirty (s : State) : Nat :=
  ((List.range 64).filter (tCrit s)).foldl (fun a u => a + (tenOf s u).dirtyNow) 0

/-- L of R139 and R142. -/
def limitL (s : State) : Nat :=
  if s.adm.ocActive then s.adm.now + (s.adm.now - ceilDiv (eFixed s) 1000) / 8 else s.adm.now

/-- The left-hand side of R139. -/
def testNeed (s : State) (t n : Nat) : Nat := needOf s (s.adm.dirtyTotal + n + floorsOf s t)

/-- Another tenant's entry of rank at least t's is held under R139 (R140). -/
def outranked (s : State) (t : Nat) : Bool :=
  s.ring.tenants.any fun p => p.1 != t && decide (tRank s t ≤ tRank s p.1) &&
    (match p.2.pend with | q :: _ => q.stage == .held && q.byNeed | [] => false)

/-- The energy test for n new cells of t: R139's limit, the hard floor, which covers E_fixed_T and every DIRTY cell of a CRITICAL
tenant, t's new ones among them if it is one (R142, R143), and none while a fall of the model leaves the store short (R145). -/
def energyFits (s : State) (t n : Nat) : Bool :=
  decide (testNeed s t n ≤ limitL s) && decide (needOf s (critDirty s + if tCrit s t then n else 0) ≤ s.adm.now) && !s.adm.fell

/-- The energy test and the rank rule (R139, R140). -/
def energyTest (s : State) (t n : Nat) : Bool :=
  energyFits s t n && (!outranked s t || decide ((tenOf s t).dirtyNow + n ≤ tFloor s t))

/-- What check decides an ADMIT_REQ with n new cells (Table: Admission checks): none means held. -/
def admitCheck (s : State) (t n wait : Nat) : Option Verdict :=
  if s.top.state = .service then some (.refuse 3)
  else if 0 < n ∧ (s.tally.degraded || closedByTally s) then some (.refuse 4)
  else if n = 0 then some .accept
  else if tCap s t < (tenOf s t).dirtyNow + n then some (.refuse 2)
  else if energyTest s t n then some .accept
  else if tWait s t = 0 ∨ 2 ^ tWait s t ≤ wait then some (.refuse 1)
  else none

/-- The named cells include an unrestored return-set cell while a return set exists (R281). -/
def namesUnrestored (s : State) (e : Entry) : Bool :=
  (s.top.state = .ret || s.top.state = .early) &&
  s.ret.cells.any fun p => decide (eFirst e ≤ p.1) && decide (p.1 < eFirst e + eCount e) && p.2.status == 1

/-- The named cells include a return-set cell and some END word is still to be programmed (R281). -/
def namesReturnSet (s : State) (e : Entry) : Bool :=
  (s.ret.setValid || !s.ret.endsLeft.isEmpty) &&
  ((s.top.state = .ret || s.top.state = .early) || !s.ret.endsLeft.isEmpty) &&
  s.ret.cells.any fun p => decide (eFirst e ≤ p.1) && decide (p.1 < eFirst e + eCount e)

/-- n of R137: the named cells that are not DIRTY. -/
def newCells (s : State) (e : Entry) : Nat := eCount e - (cellsIn s (eFirst e) (eCount e) 1).length

/-- The check that decides t's head p now; none: it is held for energy credit (R115, R125, R138). -/
def dirtyVerdict (s : State) (t : Nat) (p : Pend) : Option Verdict :=
  match badCode s (4 * t) p.e with
  | 0 => admitCheck s t p.n p.wait
  | c => some (.bad c)

/-- The decision on t's scanned head p, made now (R115, R116, R138 to R141). It costs a tick (R114), and waits while its EVENT
ring has no room or while the head names a cell that Return has still to restore (R281). An admission with n = 0 has no map
word to write and is answered in the decision frame (DESIGN CHOICE, log entry 54). -/
def decideHead (t : Nat) (p0 : Pend) (s : State) : State :=
  let p : Pend := { p0 with n := newCells s p0.e }
  match dirtyVerdict s t p with
  | none => setHead t { p with stage := .held, byNeed := !energyFits s t p.n } s
  | some v =>
    if badCode s (4 * t) p.e = 0 && namesUnrestored s p.e then setHead t { p with stage := .ready } s
    else if answerRoom s t then
      if ringsFree s then
        let s1 := spend 12 1 s
        if v = .accept && decide (0 < p.n) then
          refresh (queueItem ⟨13, ceilDiv (eCount p.e) 16, 1, 0, .admitWrite t p.e.ord (eFirst p.e) (eCount p.e)⟩
            (setHead t { p with stage := .writing } (addDirty t p.n s1)))
        else answerDirty t (setHead t { p with stage := .decided v } s1)
      else ringsWait (4 * t) (setHead t (if p.stage = .held then p else { p with stage := .ready }) s)
    else setHead t (if p.stage = .held then p else { p with stage := .ready }) s

/-- t's scanned head is decided where its state decides DIRTY entries. -/
def decideDirty (t : Nat) (s : State) : State :=
  match (tenOf s t).pend with
  | p :: _ => if dirtyDecides s && (p.stage = .ready || p.stage = .held) then decideHead t p s else s
  | [] => s

/-- The decision on t's scanned CLEAN head, made now: a tick, and the write of its cells (R114, R116, R125, R141, R228, R281). -/
def decideCleanHead (t : Nat) (e : Entry) (s : State) : State :=
  let bc := badCode s (4 * t + 1) e
  if bc = 0 && namesReturnSet s e then s
  else if answerRoom s t then
    if ringsFree s then
      let s1 := spend 12 1 s
      if bc ≠ 0 then answerClean t (setClean t (.decided (.bad bc)) s1)
      else
        let s2 := { s1 with harv := { s1.harv with plan := s1.harv.plan.filter fun c =>
          !(decide (eFirst e ≤ c) && decide (c < eFirst e + eCount e)) } }
        serveHeads (queueItem ⟨13, ceilDiv (eCount e) 16, 1, 0, .cleanWrite t e.ord (eFirst e) (eCount e)⟩ (setClean t .writing s2))
    else ringsWait (4 * t + 1) s
  else s

/-- t's scanned CLEAN head is decided where its state decides CLEAN entries. -/
def decideClean (t : Nat) (s : State) : State :=
  match (ringOf s (4 * t + 1)).pub with
  | e :: _ => if cleanDecides s && (tenOf s t).clean = .ready then decideCleanHead t e s else s
  | [] => s

/-! Map errors (R130). -/

/-- Word w of the map is rewritten: every cell of an enabled partition DIRTY with the present GEN, the others CLEAN; the counts
rise, and a recount is asked for (R130). In HARVEST it is queued afterwards, so that the plan's scans go on. -/
def repairWord (w : Nat) (s : State) : State :=
  let s1 := tally 0x15 2 (BitVec.ofNat 32 w) s
  let s2 := (rangeOf (16 * w) 16).foldl (fun s c =>
    match ownerOf s c with
    | some t => modTenant t (fun x => { x with dirtyNow := x.dirtyNow + 1 }) (writeCell c 1 (genNow s) s)
    | none => writeCell c 0 0 s) s1
  let s3 := { s2 with adm := { s2.adm with
    ueWords := removeNat w s2.adm.ueWords
    dirtyTotal := s2.adm.dirtyTotal + 16
    recount := true } }
  refresh (if s.adm.recount || s.top.state = .harvest then s3 else queueItem ⟨13, 131072, 1, 0, .recount⟩ s3)

/-- A correctable map word is corrected, written back and reported (R130). -/
def correctWord (w : Nat) (s : State) : State :=
  tally 0x15 1 (BitVec.ofNat 32 w) { s with adm := { s.adm with ceWords := removeNat w s.adm.ceWords } }

/-- The map words that p names are read: their correctable errors are corrected, their uncorrectable ones handled (R130). -/
def readWords (p : Nat → Bool) (s : State) : State :=
  let s1 := (s.adm.ceWords.filter p).foldl (fun s w => correctWord w s) s
  (s1.adm.ueWords.filter p).foldl (fun s w => repairWord w s) s1

/-- The words of a range of cells are read. -/
def scanWords (first count : Nat) (s : State) : State :=
  readWords (fun w => decide (first / 16 ≤ w) && decide (w ≤ (first + count - 1) / 16)) s

/-! Commands of the admission engine. -/

/-- ADMIT_SCAN_DONE (R137, R138). An uncorrectable word that the scan meets does not keep this entry from being decided, on the
word as it was rewritten (06 Edges). -/
def admitScanDone (t : Nat) (s : State) : State :=
  match (tenOf s t).pend with
  | p :: _ =>
    if p.stage = .scanning then
      match takeDone (.admitScan t) s with
      | some s0 =>
        let s1 := entryRead (4 * t) p.e s0
        let p1 : Pend := { p with stage := .ready, e := { p.e with ceW := [] } }
        let s2 := setHead t p1 (if badCode s (4 * t) p.e = 0 then scanWords (eFirst p.e) (eCount p.e) s1 else s1)
        if dirtyDecides s then decideHead t p1 s2 else s2
      | none => s
    else s
  | [] => s

/-- MAP_RECOUNT_DONE: every word has been read, and the counts are exact (R130). -/
def mapRecountDone (s : State) : State :=
  match takeDone .recount s with
  | some s0 =>
    let s1 := readWords (fun _ => true) s0
    let dirty := (s1.adm.map.filter fun p => p.2 % 4 == 1).map (·.1)
    let s2 := (List.range 64).foldl (fun s t => modTenant t (fun x => { x with dirtyNow :=
      (dirty.filter fun c => tEnable s1 t && decide (tBase s1 t ≤ c) && decide (c ≤ tLast s1 t)).length }) s) s1
    refresh { s2 with adm := { s2.adm with dirtyTotal := dirty.length, recount := false } }
  | none => s

/-- ADMIT_WAIT_EXPIRY: a held entry is refused with reason 0x01 (R115, R139). -/
def admitWaitExpiry (t : Nat) (s : State) : State :=
  match (tenOf s t).pend with
  | p :: _ =>
    if p.stage = .held && decide (2 ^ tWait s t ≤ p.wait) && dirtyDecides s && answerRoom s t then
      if ringsFree s then answerDirty t (setHead t { p with stage := .decided (.refuse 1) } (spend 12 1 s))
      else ringsWait (4 * t) s
    else s
  | [] => s

/-- The first map write of kind k for tenant t that has ended: its publish order, first cell and count. -/
def endedWrite (clean : Bool) (t : Nat) (s : State) : Option (Nat × Nat × Nat) :=
  s.fr.done.findSome? fun i => match i.work with
    | .admitWrite u o f n => if u = t && !clean then some (o, f, n) else none
    | .cleanWrite u o f n => if u = t && clean then some (o, f, n) else none
    | _ => none

/-- The kept answer of the entry published as the o-th is ready (R106). -/
def keptReady (o : Nat) (s : State) : State :=
  { s with ring := { s.ring with answers := s.ring.answers.map fun a => if a.e.ord = o then { a with ready := true } else a } }

/-- The named cells read DIRTY: a cell that is DIRTY keeps its GEN (R115, R127, R141). -/
def writeDirty (first count : Nat) (s : State) : State :=
  if count = 0 then s
  else mapWrites first count ((rangeOf first count).foldl (fun s c => if cellState s c = 1 then s else writeCell c 1 (genNow s) s) s)

/-- The named cells read CLEAN, and no plan of a Harvest names them (R141, R147, R228). -/
def writeClean (first count : Nat) (s : State) : State :=
  if count = 0 then s else
  let inR := fun c => decide (first ≤ c) && decide (c < first + count)
  let s1 := ((s.adm.map.filter fun p => inR p.1).map (·.1)).foldl (fun s c => undirty c 0 s) s
  let s2 := { s1 with harv := { s1.harv with plan := s1.harv.plan.filter fun c => !inR c } }
  mapWrites first count (refresh s2)

/-- ADMIT_MAP_WRITE_DONE: the named cells read DIRTY and ADMIT is posted (R115, R127, R141), or is ready to be after its ring's
reset (R106). -/
def admitMapWriteDone (t : Nat) (s : State) : State :=
  match endedWrite false t s with
  | some (o, first, count) =>
    match takeDone (.admitWrite t o first count) s with
    | some s1 =>
      let s2 := writeDirty first count s1
      match (tenOf s2 t).pend with
      | p :: _ =>
        if p.stage = .writing && p.e.ord = o then answerDirty t (setHead t { p with stage := .decided .accept } s2)
        else answerKept t (keptReady o s2)
      | [] => answerKept t (keptReady o s2)
    | none => s
  | none => s

/-- CLEAN_SCAN_DONE: the entry is decided and its write starts (R125, R141, R228, R281). -/
def cleanScanDone (t : Nat) (s : State) : State :=
  match (ringOf s (4 * t + 1)).pub with
  | e :: _ =>
    if (tenOf s t).clean = .scanning then
      match takeDone (.cleanScan t) s with
      | some s0 =>
        let s1 := modRing (4 * t + 1) (fun g => { g with pub := { e with ceW := [] } :: g.pub.tail }) (entryRead (4 * t + 1) e s0)
        let s2 := setClean t .ready (if badCode s (4 * t + 1) e = 0 then scanWords (eFirst e) (eCount e) s1 else s1)
        if cleanDecides s then decideCleanHead t { e with ceW := [] } s2 else s2
      | none => s
    else s
  | [] => s

/-- CLEAN_WRITE_DONE: the named cells read CLEAN and CLEANED is posted (R115, R141), or is ready to be after its ring's reset. -/
def cleanWriteDone (t : Nat) (s : State) : State :=
  match endedWrite true t s with
  | some (o, first, count) =>
    match takeDone (.cleanWrite t o first count) s with
    | some s1 =>
      let s2 := writeClean first count s1
      match (ringOf s2 (4 * t + 1)).pub with
      | e :: _ =>
        if (tenOf s2 t).clean = .writing && e.ord = o then answerClean t (setClean t (.decided .cleaned) s2)
        else answerKept t (keptReady o s2)
      | [] => answerKept t (keptReady o s2)
    | none => s
  | none => s

/-! DEMAND. -/

/-- The status a DEMAND gets in a state that answers it at once (Table: Ring use by state). -/
def demandStatus (s : State) : Option Nat :=
  match s.top.state with
  | .guard => some 2 | .watch => some 2 | .service => some 3
  | .harvest => if s.top.window then none else some 3
  | _ => none

/-- A DEMAND entry is decided: the decision's tick, and the answer at once or, with no tick left, kept for the next frame (R114). -/
def demandAnswer (r : Nat) (e : Entry) (v : Verdict) (s : State) : State :=
  let s1 := spend 12 1 (modRing r (fun g => { g with doneCnt := satInc 65535 g.doneCnt }) s)
  if ringsFree s1 then postAnswer r e v s1
  else ringsWait (4 * (r / 4) + 3) { s1 with ring := { s1.ring with answers := s1.ring.answers ++ [⟨r / 4, 2, e, v, true⟩] } }

/-- The head DEMAND entry of ring r is answered in a state that answers it at once (R124, R125). -/
def demandNow (r : Nat) (s : State) : State :=
  match demandStatus s, (ringOf s r).pub with
  | some st, e :: rest =>
    if s.ret.demands.any (fun d => d.ring == r) then s
    else if answerRoom s (r / 4) then
      if ringsFree s then
        let bc := badCode s r e
        demandAnswer r e (if bc ≠ 0 then .bad bc else .demandDone st)
          (modRing r (fun g => { g with pub := rest }) (entryRead r e s))
      else ringsWait r s
    else s
  | _, _ => s

/-- How many cells two ranges share. -/
def shareN (f n g m : Nat) : Nat := min (f + n) (g + m) - max f g

/-- A LOSTCELL entry names a lost cell of the range: an exact run any of its cells, a COARSE run those that were not
restored (Table: LOSTCELL entry). -/
def entryLoses (s : State) (l : Lost) (first count : Nat) : Bool :=
  let n := shareN l.run.first l.run.count first count
  let back := (s.ret.cells.filter fun p => p.2.status == 2 && decide (max l.run.first first ≤ p.1) &&
    decide (p.1 < min (l.run.first + l.run.count) (first + count))).length
  decide (0 < n) && (!l.run.coarse || decide (back < n))

/-- The entries of LOSTCELL, those of the overflow runs last. -/
def lostEntries (s : State) : List Lost := s.ret.lost ++ s.ret.overflow.map (·.2)

/-- Some cell of a range is lost. -/
def rangeLost (s : State) (first count : Nat) : Bool :=
  s.ret.cells.any (fun p => decide (first ≤ p.1) && decide (p.1 < first + count) && p.2.status == 3) ||
    (lostEntries s).any fun l => entryLoses s l first count

/-- The status of a served DEMAND: 0x01 if any named cell is lost (R283). -/
def servedStatus (s : State) (e : Entry) : Nat := b2n (rangeLost s (eFirst e) (eCount e))

/-- Every cell of an entry in service is resolved. -/
def served (d : Demand) : Bool := d.looked && d.left.isEmpty && !d.tillDone

/-- The answer to a DEMAND entry all of whose cells are resolved (R125, R283). -/
def servedVerdict (s : State) (d : Demand) : Verdict :=
  match badCode s d.ring d.e with
  | 0 => .demandDone (servedStatus s d.e)
  | c => .bad c

/-- The oldest entry in service of ring r is answered once it is resolved, if its EVENT ring has space (R116, R120, R283). -/
def answerServed (r : Nat) (s : State) : State :=
  match s.ret.demands.find? (fun d => d.ring == r) with
  | some d =>
    if served d && answerRoom s (r / 4) then
      if ringsFree s then
        demandAnswer r d.e (servedVerdict s d) { s with ret := { s.ret with demands := s.ret.demands.erase d } }
      else ringsWait r s
    else s
  | none => s

/-- The resolved entries in service are answered, each ring's in its order. -/
def finishServed (s : State) : State :=
  (s.ret.demands.filter served).foldl (fun s d => answerServed d.ring s) s

/-- The lookup of entry d in service ends: each named cell is resolved or left to its lane (R283). -/
def lookUp (d : Demand) (s : State) : State :=
  let named := s.ret.cells.filter fun p => decide (eFirst d.e ≤ p.1) && decide (p.1 < eFirst d.e + eCount d.e)
  let bad := badCode s d.ring d.e ≠ 0
  let d1 : Demand := { d with
    looked := true
    left := if bad then [] else (named.filter (fun p => p.2.status == 1)).map (·.1)
    tillDone := !bad && s.ret.locFull && decide (named.length < eCount d.e) }
  let s1 := { s with ret := { s.ret with demands := s.ret.demands.replace d d1 } }
  if served d1 then finishServed s1 else s1

/-- DEMAND_LOOKUP_DONE: the oldest lookup of the ring that has ended is done; where DEMAND is answered at once, the head
entry is, after those in service (R120, R124, R125, R283). -/
def demandLookupDone (r : Nat) (s : State) : State :=
  if r % 4 ≠ 2 then s
  else
    match s.ret.demands.find? (fun d => d.ring == r && !d.looked), takeDone (.demandLookup r) s with
    | some d, some s0 => lookUp d (entryRead r d.e s0)
    | _, _ => demandNow r s

/-! What waits for room or for ticks. -/

/-- The head of ring r, as far as it stands, goes on; of an EVENT ring, the tenant's kept answers do. -/
def serveRing (r : Nat) (s : State) : State :=
  if r % 4 = 0 then answerDirty (r / 4) (decideDirty (r / 4) s)
  else if r % 4 = 1 then answerClean (r / 4) (decideClean (r / 4) s)
  else if r % 4 = 2 then demandNow r (answerServed r s)
  else answerKept (r / 4) s

/-- ANSWER_POST_DEFERRED: the decisions of tenant t that wait for EVENT space are made and posted (R106, R116). -/
def answerPostDeferred (t : Nat) (s : State) : State :=
  serveRing (4 * t + 2) (serveRing (4 * t + 1) (serveRing (4 * t) (serveRing (4 * t + 3) s)))

/-- The deferred RINGS work at the opening of a frame, in its order, while ticks are left (R55, R56, R114). -/
def ringsPump : List RingWork → State → State
  | [], s => s
  | w :: ws, s =>
    if ledLeft s 12 = 0 then { s with ring := { s.ring with late := s.ring.late ++ w :: ws } }
    else ringsPump ws (match w with | .post u => postEvent u s | .serve r => serveRing r s)

/-- Step 4 of R47 on resource 12. -/
def ringsOpen (s : State) : State := ringsPump s.ring.late { s with ring := { s.ring with late := [] } }

/-- The unsolicited events of the frame that ends are posted, after its broadcasts and its answers (R114, R117, R120). -/
def unsolClose (s : State) : State :=
  s.ring.unsol.foldl (fun s u => postOrWait u s) { s with ring := { s.ring with unsol := [] } }

/-! The host's ring registers. -/

/-- PENDING of a tenant (R111). -/
def pendingOf (s : State) (t : Nat) : Nat := (tenOf s t).pend.length

/-- OCCUPANCY (R105). -/
def occupancy (s : State) (r : Nat) : Nat :=
  if r % 4 = 3 then (ringOf s r).unread.length else (ringOf s r).pub.length + (ringOf s r).fresh.length

/-- AVAIL of a ring (R111); unread entries of an EVENT ring. -/
def avail (s : State) (r : Nat) : Nat :=
  if !rUsable s r then 0
  else if r % 4 = 3 then (ringOf s r).unread.length
  else
    let room := rDepth s r - (occupancy s r + (ringOf s r).staged.length)
    if r % 4 = 0 then
      min room (tPendMax s (r / 4) - (pendingOf s (r / 4) + occupancy s r + (ringOf s r).staged.length))
    else room

/-- The ring RING_SEL selects. -/
def selRing (s : State) : Nat := crf s 0x34 0 8

/-- RING_CREDIT.PORT_ERR sets with a cause (R110): 0 FULL, 1 DIRECTION, 2 EMPTY, 3 PARTIAL. PORT_CAUSE shows the latest one, also
while PORT_ERR is set already, and keeps it when PORT_ERR is cleared (DESIGN CHOICE, log entry 53). -/
def portErr (c : Nat) (s : State) : State := { s with ring := { s.ring with portErr := true, cause := c } }

/-- RING_SEL write: a partial staging entry is discarded (R110). -/
def applyRingSel (data : Word) (be : ByteEn) (s : State) : State :=
  let r := selRing s
  let g := ringOf s r
  let s1 := if r % 4 = 3 then modRing r (fun g => { g with rdWord := 0 }) s
    else if g.part.isEmpty then s else portErr 3 (modRing r (fun g => { g with part := [], partUe := [], partCe := [] }) s)
  if be.getLsbD 0 then
    { s1 with conf := { s1.conf with
      cur := Sparse.put resetWord s1.conf.cur (ckey 0 0 (0x34 / 4)) (data &&& 0xFF)
      shadow := Sparse.put resetWord s1.conf.shadow (ckey 0 0 (0x34 / 4)) (data &&& 0xFF) } }
  else s1

/-- RING_PORT write (R110). -/
def applyRingPort (data : Word) (s : State) : State :=
  let r := selRing s
  let g := ringOf s r
  if !rUsable s r || r % 4 == 3 then portErr 1 s
  else if g.part.isEmpty && avail s r == 0 then
    portErr 0 (modRing r (fun g => { g with discard := true, part := [], partUe := [], partCe := [] }) s)
  else
    let j := injectUse 5 s
    let ue := if j.2 = 2 then g.partUe ++ [g.part.length] else g.partUe
    let ce := if j.2 = 1 then g.partCe ++ [g.part.length] else g.partCe
    match g.part with
    | [a, b, c] => modRing r (fun g => { g with
        part := [], partUe := [], partCe := [], discard := false, nextSlot := (g.nextSlot + 1) % rDepth s r
        staged := g.staged ++ [{ w0 := a, w1 := b, w2 := c, w3 := data, ueW := ue, ceW := ce, slot := g.nextSlot }] }) j.1
    | ws => modRing r (fun g => { g with part := ws ++ [data], partUe := ue, partCe := ce, discard := false }) j.1

/-- RING_PORT read: the word and the removal after word 3 (R110). -/
def readRingPort (s : State) : Word × State :=
  let r := selRing s
  let g := ringOf s r
  if !rUsable s r || r % 4 != 3 then (0, portErr 1 s)
  else
    match g.unread with
    | [] => (0, portErr 2 s)
    | e :: rest =>
      let w := if g.rdWord = 0 then e.w0 else if g.rdWord = 1 then e.w1 else if g.rdWord = 2 then e.w2 else e.w3
      let s1 := if g.rdWord = 3 then modRing r (fun g => { g with unread := rest, rdWord := 0 }) s
        else modRing r (fun g => { g with rdWord := g.rdWord + 1 }) s
      if e.ueW.contains g.rdWord then (0, tally 0x14 2 (poolAddr s r e g.rdWord) s1)
      else if e.ceW.contains g.rdWord then
        (w, tally 0x14 1 (poolAddr s r e g.rdWord) (modRing r (fun x => { x with unread := x.unread.map fun y =>
          if y = e then { y with ceW := removeNat g.rdWord y.ceW } else y }) s1))
      else (w, s1)

/-- RING_DOORBELL (R112). -/
def applyDoorbell (data : Word) (s : State) : State :=
  let r := fld data 0 8
  let n := fld data 8 8
  let g := ringOf s r
  let err := fun s => modRing r (fun g => { g with dbErr := satInc 65535 g.dbErr }) { s with ring := { s.ring with dbErr := true } }
  if n = 0 then s
  else if !rUsable s r then err s
  else if r % 4 = 3 then
    let s1 := modRing r (fun g => { g with unread := g.unread.drop n, rdWord := 0 }) s
    if g.unread.length < n then err s1 else s1
  else
    let out := (g.staged.take n).zipIdx.map fun p => { p.1 with ord := s.ring.pubSeq + p.2 }
    let s1 := modRing r (fun g => { g with fresh := g.fresh ++ out, staged := g.staged.drop n })
      { s with ring := { s.ring with pubSeq := s.ring.pubSeq + out.length } }
    if g.staged.length < n then err s1 else s1

/-- A ring is emptied (R105, R106): its entries are discarded. A DIRTY ring's pending entries return their credit; scans and
lookups of what is discarded are withdrawn; a map write goes on, since the decision stands. A decided answer that is not yet
posted is kept, unless the tenant's EVENT ring is itself being reset. -/
def emptyRing (r : Nat) (keepAnswers : Bool) (s : State) : State :=
  let t := r / 4
  let kept := fun (kind : Nat) (e : Entry) (st : Stage) => if keepAnswers then (match st with
      | .decided v => [(⟨t, kind, e, v, true⟩ : Answer)]
      | .writing => [⟨t, kind, e, if kind = 0 then .accept else .cleaned, false⟩]
      | _ => []) else []
  let s1 := modRing r (fun g => { g with
    part := [], partUe := [], partCe := [], nextSlot := 0, staged := [], fresh := [], pub := [], unread := [], rdWord := 0, discard := false, reset := 0 }) s
  if r % 4 = 0 then
    let keep := match (tenOf s t).pend with | p :: _ => kept 0 p.e p.stage | [] => []
    dropWork (fun w => decide (w = .admitScan t))
      (modTenant t (fun x => { x with pend := [] }) { s1 with ring := { s1.ring with answers := s1.ring.answers ++ keep } })
  else if r % 4 = 1 then
    let keep := match (ringOf s r).pub with | e :: _ => kept 1 e (tenOf s t).clean | [] => []
    dropWork (fun w => decide (w = .cleanScan t))
      (setClean t .waiting { s1 with ring := { s1.ring with answers := s1.ring.answers ++ keep } })
  else if r % 4 = 2 then
    dropWork (fun w => decide (w = .demandLookup r)) { s1 with ret := { s1.ret with
      demands := s1.ret.demands.filter (fun d => d.ring != r) } }
  else s1

/-- The answers of t that are decided and not posted are discarded with its EVENT ring (R106). -/
def dropAnswers (t : Nat) (s : State) : State :=
  let gone : Stage → Bool := fun st => match st with | .writing => true | .decided _ => true | _ => false
  let s1 := { s with ring := { s.ring with answers := s.ring.answers.filter (fun a => a.tenant != t) } }
  let s2 := modTenant t (fun x => { x with pend := match x.pend with | p :: ps => if gone p.stage then ps else p :: ps | [] => [] }) s1
  if gone (tenOf s t).clean then modRing (4 * t + 1) (fun g => { g with pub := g.pub.tail }) (setClean t .waiting s2) else s2

/-- A RESET of ring r leaves the post buffer: it takes effect at the next boundary (R106). -/
def askReset (r : Nat) (s : State) : State := modRing r (fun g => { g with reset := 1 }) s

/-- RING_RESET: the reset of a ring, where a write of its RING entry would pass (R30, R82, R106). -/
def ringReset (r : Nat) (s : State) : State :=
  if busUp s && s.top.state != .wake && !s.top.window then askReset r s else s

/-- The resets asked for in the frame that ended take effect (R106). -/
def resetsDue (s : State) : State :=
  let due := (List.range 256).filter fun r => (ringOf s r).reset == 1
  let s1 := due.foldl (fun s r => emptyRing r (!due.contains (r / 4 * 4 + 3)) s) s
  (due.filter fun r => r % 4 == 3).foldl (fun s r => dropAnswers (r / 4) s) s1

/-! One definition per command. -/

def execRingSelWrite (data : Word) (be : ByteEn) (s : State) : Out :=
  .next (leave ⟨0x34, data, be⟩ (applyRingSel data be) s)
def execRingPortWrite (data : Word) (be : ByteEn) (s : State) : Out :=
  .next (leave ⟨0x38, data, be⟩ (applyRingPort data) s)
def execRingPortRead (s : State) : Out := .next (busRead readRingPort s)
def execRingDoorbellWrite (data : Word) (be : ByteEn) (s : State) : Out :=
  .next (leave ⟨0x3C, data, be⟩ (applyDoorbell data) s)
def execRingReset (r : Nat) (s : State) : Out := .next (ringReset r s)
def execAdmitScanDone (t : Nat) (s : State) : Out := .next (admitScanDone t s)
def execMapRecountDone (s : State) : Out := .next (mapRecountDone s)
def execAdmitWaitExpiry (t : Nat) (s : State) : Out := .next (admitWaitExpiry t s)
def execAdmitMapWriteDone (t : Nat) (s : State) : Out := .next (admitMapWriteDone t s)
def execCleanScanDone (t : Nat) (s : State) : Out := .next (cleanScanDone t s)
def execCleanWriteDone (t : Nat) (s : State) : Out := .next (cleanWriteDone t s)
def execDemandLookupDone (r : Nat) (s : State) : Out := .next (demandLookupDone r s)
def execAnswerPostDeferred (t : Nat) (s : State) : Out := .next (answerPostDeferred t s)

end Sys2Proof.Machine
end

