-- ==== Sys2Proof/Machine/Sha.lean ====
section
/-! DEFINITION. SHA-256 and HMAC-SHA-256 on lists of bytes, as R352 and R364 use them (FIPS 180-4, RFC 2104), and the
CRC-32 of R416. -/

namespace Sys2Proof.Machine.Sha

/-- The greatest r below `lo + 2 ^ n` and not below `lo` with `r ^ k ≤ x`, found bit by bit. -/
def rootIn (k x : Nat) : Nat → Nat → Nat
  | 0, lo => lo
  | n + 1, lo => rootIn k x n (if (lo + 2 ^ n) ^ k ≤ x then lo + 2 ^ n else lo)

/-- The primes from which the hash takes its constants: the first 64. -/
def primes : List Nat := (List.range 312).filter fun p => 2 ≤ p && (List.range 18).all fun d => d < 2 || p ≤ d || p % d != 0

/-- The first 32 bits of the fraction of the k-th root of a prime. -/
def rootFraction (k p : Nat) : Word := BitVec.ofNat 32 (rootIn k (p * 2 ^ (32 * k)) 37 0)

/-- A hash value: the eight words, A to H. -/
abbrev Digest := List Word

/-- What a hash begins from: the square roots of the first eight primes. -/
def begin0 : Digest := (primes.take 8).map (rootFraction 2)

/-- What the 64 rounds add: the cube roots of the primes. -/
def addends : List Word := primes.map (rootFraction 3)

/-- A word turned right by each of two counts, and by a third count or shifted by it, the three added modulo 2 (the four mixing
functions of FIPS 180-4, 4.1.2). -/
def stir (turn : Bool) (i j k : Nat) (x : Word) : Word :=
  (if turn then x.rotateRight k else x >>> k) ^^^ (x.rotateRight j ^^^ x.rotateRight i)

/-- One round: the eight words take the message word `w` and the round's addend `k`. -/
def turn (v : Digest) (k w : Word) : Digest :=
  match v with
  | [a, b, c, d, e, f, g, h] =>
    let pick := ((f ^^^ g) &&& e) ^^^ g
    let most := (a ||| b) &&& c ||| a &&& b
    let into := k + w + pick + stir true 6 11 25 e + h
    [into + most + stir true 2 13 22 a, a, b, c, into + d, e, f, g]
  | _ => v

/-- The rounds of one block: a window of the schedule's next 16 words, of which each round takes the first and appends the
one that follows the last. -/
def rounds : List Word → Digest → List Word → Digest
  | k :: ks, v, w :: win =>
    rounds ks (turn v k w)
      (win ++ [w + win.getD 8 0 + stir false 7 18 3 (win.getD 0 0) + stir false 17 19 10 (win.getD 13 0)])
  | _, v, _ => v

/-- One block of 16 words taken into the hash value. -/
def absorb (v : Digest) (win : List Word) : Digest := List.zipWith (· + ·) v (rounds addends v win)

/-- Bytes to words, first byte highest. -/
def toWords : List (BitVec 8) → List Word
  | a :: b :: c :: d :: rest => (a ++ b ++ c ++ d) :: toWords rest
  | _ => []

/-- Words to bytes, highest byte first. -/
def toBytes (ws : List Word) : List (BitVec 8) :=
  ws.flatMap fun (w : Word) => [(w >>> 24).truncate 8, (w >>> 16).truncate 8, (w >>> 8).truncate 8, w.truncate 8]

/-- The words of a message taken block by block; n bounds the number of blocks. -/
def absorbAll : Nat → Digest → List Word → Digest
  | n + 1, v, w :: ws => absorbAll n (absorb v ((w :: ws).take 16)) ((w :: ws).drop 16)
  | _, v, _ => v

/-- What closes a message of n bytes: a one bit, zero bits up to 8 bytes short of a block, and its length in bits. -/
def closing (n : Nat) : List (BitVec 8) :=
  (0x80 : BitVec 8) :: List.replicate (63 - (n + 8) % 64) 0 ++ toBytes [BitVec.ofNat 32 (n >>> 29), BitVec.ofNat 32 (n * 8)]

/-- SHA-256. -/
def sha256 (m : List (BitVec 8)) : List (BitVec 8) :=
  toBytes (absorbAll (m.length / 64 + 2) begin0 (toWords (m ++ closing m.length)))

/-- HMAC-SHA-256 with a key of at most 64 bytes. -/
def hmac (key m : List (BitVec 8)) : List (BitVec 8) :=
  let k := key ++ List.replicate (64 - key.length) (0 : BitVec 8)
  sha256 (k.map (· ^^^ 0x5c) ++ sha256 (k.map (· ^^^ 0x36) ++ m))

/-- One bit of the reflected CRC-32. -/
def crcBit (c : Word) : Word := if c.getLsbD 0 then (c >>> 1) ^^^ 0xEDB88320 else c >>> 1

/-- One byte of the reflected CRC-32. -/
def crcByte (c : Word) (b : BitVec 8) : Word :=
  crcBit <| crcBit <| crcBit <| crcBit <| crcBit <| crcBit <| crcBit <| crcBit (c ^^^ b.zeroExtend 32)

/-- The CRC-32 of bytes in order (R416). -/
def crc32 (m : List (BitVec 8)) : Word := (m.foldl crcByte 0xFFFFFFFF) ^^^ 0xFFFFFFFF

end Sys2Proof.Machine.Sha
end

