-- ==== Sys2Proof/Machine/Keys.lean ====
section
/-! DEFINITION. Debug levels, the unlock exchange and the kill (16): what raises and lowers the level, and the access
classes in force (R369). -/

namespace Sys2Proof.Machine

/-! The matrix (R369). -/

/-- Class O is granted: reads of every register, table and the event log. -/
def grantsO (s : State) : Bool := powered s && s.top.state != .wake && decide (1 ≤ s.sec.level)

/-- Class S is granted. -/
def grantsS (s : State) : Bool :=
  powered s && s.top.state != .wake && s.top.state != .harvest && decide (2 ≤ s.sec.level)

/-- Class E is granted. -/
def grantsE (s : State) : Bool := powered s && s.top.state = .service && decide (2 ≤ s.sec.level)

/-- Class X is granted. -/
def grantsX (s : State) : Bool := powered s && s.top.state = .service && s.sec.level == 3

/-- Class P is granted: identity, STATE, LIFECYCLE and DEBUG_STAT reads, the unlock exchange. -/
def grantsP (s : State) : Bool := powered s && !(s.top.state = .wake && s.top.inState = 0)

/-! Messages of source 0x27. -/

/-- GRANT 1, BAD_RESP 2, REFUSED 3 or RELOCK 4, with level, channel and RESULT. -/
def unlockMsg (kind lvl ch res : Nat) (s : State) : State :=
  tally 0x27 kind (BitVec.ofNat 32 (lvl % 4 + ch % 4 * 4 + res % 16 * 16)) s

/-- A pending exchange returns to IDLE as cancelled (R99, R363). -/
def cancelExchange (s : State) : State :=
  if s.sec.chal.isSome then { s with sec := { s.sec with chal := none, result := 8 } } else s

/-- The level falls to D-CLOSED and the exchange to IDLE without a message (R360, R363). -/
def closeLevel (s : State) : State :=
  let s1 := cancelExchange s
  { s1 with sec := { s1.sec with level := 0, raisedAge := 0 }, scout := { s1.scout with ovr := [] } }

/-- Volatile keys and the staging register are cleared: the kill's first step (R360). -/
def clearKeys (s : State) : State := { s with sec := { s.sec with volatileKeys := false, staging := [] } }

/-- A relock (R98, R363, R366): at D-OPEN with the keys closed it leads to WAKE at the next boundary. -/
def relock (ch : Nat) (s : State) : State :=
  let toWake := s.sec.level == 3 && s.sec.keysClosed
  let s1 := { s with
    sec := { s.sec with level := 0, raisedAge := 0, chal := none, result := 7, staging := [] }
    scout := { s.scout with ovr := [] }
    top := if toWake then { s.top with trig := { s.top.trig with softWake := true } } else s.top }
  unlockMsg 4 0 ch 7 s1

/-- Whether a channel is disabled (R364): Orfort by ORF_OFF, JTAG by JTAG_PRIV_OFF, in PROVISIONED and DEPLOYED. -/
def channelOff (s : State) (ch : Nat) : Bool :=
  s.sec.life.inUse && ((ch == 1 && crb s 0xC8 0) || (ch == 2 && crb s 0xC8 1))

/-- A lockout runs (R365). -/
def lockedOut (s : State) : Bool := decide (1 < s.sec.lockLeft)

/-- The RESULT with which a request is refused; 0: it is permitted (R364). Tests in the order R364 lists them. -/
def refuseUnlock (s : State) (ch lvl : Nat) : Nat :=
  if lvl ≤ s.sec.level then 9
  else if !(s.top.state ∈ [DevState.guard, .watch, .ret, .early, .service]) then 3
  else if lvl = 3 ∧ s.top.state ≠ .service then 3
  else if lvl = 3 ∧ s.top.combPend then 4
  else if channelOff s ch then 6
  else if s.scout.tamperQ then 10
  else if lockedOut s then 5
  else 0

/-- A request for a level on a channel (R98, R363, R364). -/
def unlockAsk (ch lvl : Nat) (s : State) : State :=
  let s1 := cancelExchange s
  let r := refuseUnlock s1 ch lvl
  let s2 := { s1 with sec := { s1.sec with reqLevel := lvl, channel := ch } }
  if r = 0 then
    { s2 with sec := { s2.sec with chal := some (Config.challenge s2.free), chalAge := 0 }, free := s2.free + 1 }
  else unlockMsg 3 lvl ch r { s2 with sec := { s2.sec with result := r } }

/-- The key that answers for a level (Table: Unlock keys): none is keyless. -/
def unlockKey (s : State) (lvl : Nat) : List Word :=
  match s.sec.life with
  | .blank => [] | .scrapped => []
  | .provisioned => if lvl = 1 then [] else s.sec.ukOwner
  | .deployed => if lvl = 3 then s.sec.ukVendor else s.sec.ukOwner
  | .rma => s.sec.ukVendor

/-- The 32 bytes of a key row; zeros for a keyless level. -/
def keyBytes (ws : List Word) : List (BitVec 8) :=
  let b := (Sha.toBytes ws).take 32
  b ++ List.replicate (32 - b.length) (0 : BitVec 8)

/-- The expected response (R364). -/
def unlockResp (s : State) (chal : Word) (lvl : Nat) : Word :=
  let d := Sha.hmac (keyBytes (unlockKey s lvl))
    (Sha.toBytes [chal] ++ [BitVec.ofNat 8 lvl, BitVec.ofNat 8 s.sec.life.code])
  (Sha.toWords (d.take 4)).headD 0

/-- D-OPEN in PROVISIONED or DEPLOYED closes the keys (R366). -/
def openEntry (lvl : Nat) (s : State) : State :=
  if lvl = 3 ∧ s.sec.life.inUse then
    let s1 := clearKeys s
    { s1 with sec := { s1.sec with keysClosed := true } }
  else s

/-- A response (R98, R364, R365). -/
def unlockAnswer (data : Word) (s : State) : State :=
  match s.sec.chal with
  | some c =>
    let lvl := s.sec.reqLevel
    let s0 := { s with sec := { s.sec with chal := none } }
    if data = unlockResp s c lvl then
      unlockMsg 1 lvl s.sec.channel 1 (openEntry lvl
        { s0 with sec := { s0.sec with level := lvl, result := 1, fails := 0, raisedAge := 0 } })
    else
      let f := satInc 3 s.sec.fails
      unlockMsg 2 lvl s.sec.channel 2
        { s0 with sec := { s0.sec with result := 2, fails := f, lockLeft := if f = 3 then 2 ^ 28 + 1 else s.sec.lockLeft } }
  | none => s

/-- A write to UNLOCK (R98). While CHALLENGED, a request word on the channel of the pending exchange is taken as its response (R98), and
one on another channel cancels it (R363); a word that is no request answers the shared exchange, whichever channel it comes by.
DEDUCED (log entry 44). -/
def applyUnlock (data : Word) (s : State) : State :=
  if data = 0x554C0000 then relock 0 s
  else
    let isReq := data = 0x554C0001 || data = 0x554C0002 || data = 0x554C0003
    match s.sec.chal with
    | some _ => if isReq && s.sec.channel != 0 then unlockAsk 0 (fld data 0 2) s else unlockAnswer data s
    | none => if isReq then unlockAsk 0 (fld data 0 2) s else s

/-! The kill (R360). -/

/-- The kill: keys cleared, the next epoch fuse blown, the level closed, and a KILL message. -/
def kill (s : State) : State :=
  if s.sec.lcBusy.isSome then { s with sec := { s.sec with killPend := true } }
  else
    let s1 := closeLevel (clearKeys s)
    let e := min 32 (s1.sec.epochFuses + 1)
    tally 0x25 2 (BitVec.ofNat 32 e)
      { s1 with sec := { s1.sec with epochFuses := e, killPend := false, blow := if e = s1.sec.epochFuses then 0 else 13 }, scout := { s1.scout with killMade := true } }

/-- A kill that still waits, for a lifecycle command or for the end of a Harvest, is made when the power goes: one kill for
each qualification (R360). -/
def killWaiting (s : State) : State :=
  if s.sec.killPend || (s.harv.killLater && !s.top.trig.phaseEnd && s.top.state = .harvest) then
    kill { s with sec := { s.sec with lcBusy := none } } else s

/-- DEBUG_CTRL.TAMPER_MODE: SAVE_THEN_KILL. -/
def saveThenKill (s : State) : Bool := crb s 0xC8 2

/-- A SAVE_THEN_KILL whose kill is still to be made: one kill for each qualification (R360). -/
def killDue (s : State) : Bool := saveThenKill s && !s.scout.killMade

/-- TAMPER acts (R359). -/
def tamperActs (s : State) : Bool := crb s 0xC8 3 && s.sec.life.inUse

/-- TAMPER qualifies (R166, R359 to R361): the message, and the outcome of the present state. -/
def tamperQualify (s : State) : State :=
  let acts := tamperActs s
  let s0 : State := { s with scout := { s.scout with tamperQ := true, tamperSeen := true, qualAt := { s.scout.qualAt with tamper := s.fr.epoch } } }
  let s1 := if acts then markEnds s0 else s0
  let s2 := tally 0x26 1 (BitVec.ofNat 32 (b2n (saveThenKill s) + 2 * b2n acts + 16 * s.top.state.code)) s1
  if !acts then s2
  else
    let mark := fun (x : State) => { x with top := { x.top with trig := { x.top.trig with tamper := true } } }
    let s3 := tripCause 0x08 (crb s 0xB0 10) s2
    match s.top.state with
    | .off => kill s2 | .dormant => kill s2 | .hold => kill s2
    | .wake => mark (kill s2)
    | .service => if s.sec.lcBusy.isSome then kill s2 else mark (kill s2)
    | .harvest =>
      if !saveThenKill s then mark (kill s3)
      else if s.top.phase = .hDecide then mark (closeLevel s3)
      else closeLevel { s2 with harv := { s2.harv with killLater := true } }
    | _ => if saveThenKill s then mark (closeLevel s3) else mark (kill s3)

/-! Timed ends. -/

/-- UNLOCK_TIMEOUT: 2^24 frames without a response (R99). -/
def unlockTimeout (s : State) : State := if s.sec.chal.isSome && decide (2 ^ 24 ≤ s.sec.chalAge) then cancelExchange s else s

/-- RELOCK_EXPIRY (R363, DEBUG_CTRL.RELOCK). -/
def relockExpiry (s : State) : State :=
  let k := crf s 0xC8 4 4
  if decide (0 < s.sec.level) && decide (0 < k) && decide (2 ^ (k + 20) ≤ s.sec.raisedAge) then relock s.sec.channel s else s

/-- LOCKOUT_END (R365). -/
def lockoutEnd (s : State) : State := if s.sec.lockLeft = 1 then { s with sec := { s.sec with lockLeft := 0 } } else s

/-- What a boundary counts for the unlock exchange, the relock time and the lockout. -/
def secBoundary (s : State) : State :=
  { s with sec := { s.sec with
      chalAge := if s.sec.chal.isSome then s.sec.chalAge + 1 else 0
      raisedAge := if 0 < s.sec.level then s.sec.raisedAge + 1 else 0
      lockLeft := if 1 < s.sec.lockLeft then s.sec.lockLeft - 1 else s.sec.lockLeft
      blow := s.sec.blow - 1 } }

/-! One definition per command. -/

def execUnlockRequest (data : Word) (be : ByteEn) (s : State) : Out :=
  .next (leave ⟨0xFC, data, be⟩ (applyUnlock data) s)
def execUnlockResponse (data : Word) (be : ByteEn) (s : State) : Out :=
  .next (leave ⟨0xFC, data, be⟩ (fun s => if s.sec.chal.isSome then applyUnlock data s else s) s)
def execUnlockRelock (be : ByteEn) (s : State) : Out :=
  .next (leave ⟨0xFC, 0x554C0000, be⟩ (applyUnlock 0x554C0000) s)
def execUnlockTimeout (s : State) : Out := .next (unlockTimeout s)
def execRelockExpiry (s : State) : Out := .next (relockExpiry s)
def execLockoutEnd (s : State) : Out := .next (lockoutEnd s)

end Sys2Proof.Machine
end

