-- ==== Sys2Proof/Machine/Array.lean ====
section
/-! DEFINITION. The internal array (13): its words and sectors, the operations that wait, run or are suspended, the
command interfaces of the host and the cores, and what a read of a busy bank meets. -/

namespace Sys2Proof.Machine

/-! Words and sectors (R289). Offsets are byte offsets; a word's number is its offset ÷ 8; sectors are numbered 0–255,
bank A first. -/

/-- An erased word. -/
def erasedWord : DWord := 0xFFFFFFFFFFFFFFFF

/-- The stored data of word w. -/
def arrWord (s : State) (w : Nat) : DWord := Sparse.get (fun _ => erasedWord) s.arr.mem w

def secOf (off : Nat) : Nat := off / 0x4000
def bankOf (off : Nat) : Nat := off / 0x200000

/-- Word w is blank: all 72 bits are 1 (R289). -/
def wordBlank (s : State) (w : Nat) : Bool :=
  arrWord s w == erasedWord && !s.arr.ceMarks.contains w && !s.arr.ueMarks.contains w

/-- A word and the injected errors of its check bits are written. -/
def setWord (w : Nat) (d : DWord) (s : State) : State :=
  { s with arr := { s.arr with mem := Sparse.put (fun _ => erasedWord) s.arr.mem w d } }

/-- An array read (R300, R309): the corrected word, none when uncorrectable, and the messages. -/
def readWord (w : Nat) (s : State) : Option DWord × State :=
  if s.arr.retired.contains (secOf (8 * w)) || s.arr.ueMarks.contains w then
    (none, tally 0x32 2 (BitVec.ofNat 32 (8 * w)) s)
  else if s.arr.ceMarks.contains w then (some (arrWord s w), tally 0x32 1 (BitVec.ofNat 32 (8 * w)) s)
  else (some (arrWord s w), s)

/-- A word as an engine finds it without reporting: none when it has no valid copy. -/
def peekWord (s : State) (w : Nat) : Option DWord :=
  if s.arr.retired.contains (secOf (8 * w)) || s.arr.ueMarks.contains w then none else some (arrWord s w)

/-- The sector's content is erased, with its injected errors (R294, R342). -/
def blankSector (sec : Nat) (s : State) : State :=
  let keep := fun (w : Nat) => secOf (8 * w) != sec
  let mem := s.arr.mem.filter (fun p => keep p.1)
  { s with arr := { s.arr with
      mem := mem
      ceMarks := s.arr.ceMarks.filter keep
      ueMarks := s.arr.ueMarks.filter keep } }

/-- A sector's first word that is not blank, as a word number (ARRAY_CMD BLANK). -/
def firstUsed (s : State) (sec : Nat) : Option Nat :=
  let ws := (s.arr.mem.map (·.1)) ++ s.arr.ceMarks ++ s.arr.ueMarks
  (ws.filter fun w => secOf (8 * w) == sec).foldl (fun a w => match a with | none => some w | some b => some (min b w)) none

/-! Operations. -/

/-- The interface of a requester; an engine has none. -/
def portOf (s : State) (r : Requester) : ArrPort :=
  match r with
  | .host => s.arr.port | .core false => s.arr.portA | .core true => s.arr.portB | .engine => {}

def setPort (r : Requester) (p : ArrPort) (s : State) : State :=
  match r with
  | .host => { s with arr := { s.arr with port := p } }
  | .core false => { s with arr := { s.arr with portA := p } }
  | .core true => { s with arr := { s.arr with portB := p } }
  | .engine => s

/-- The requester's HSTATE. -/
def setHstate (r : Requester) (h : Nat) (s : State) : State := setPort r { portOf s r with hstate := h } s

/-- A command ends (R302, R305): HSTATE, and ARRAY_DONE for the host. -/
def endCmd (r : Requester) (h : Nat) (s : State) : State :=
  let s1 := setHstate r h s
  if r = .host then setInt 7 s1 else s1

/-- A command is refused with a code (R302, R305). -/
def rejCmd (r : Requester) (code : Nat) (s : State) : State :=
  endCmd r 6 (setPort r { portOf s r with rejCode := code } s)

/-- The suspended erase runs again: it returns to the head of the queue (R292, R296). -/
def resumeSusp (minRun : Nat) (s : State) : State :=
  match s.arr.susp with
  | some z => { s with arr := { s.arr with susp := none, queue := z.op :: s.arr.queue, autoMin := minRun } }
  | none => s

/-- With nothing running, the head of the queue starts, unless an erase is suspended and it is an erase, or it programs
the erasing sector. An engine erase first brings the suspended erase back (R292, R296). -/
def startNext (s : State) : State :=
  match s.arr.run, s.arr.queue with
  | none, o :: q =>
    match s.arr.susp with
    | some z =>
      if o.erase then
        if o.req = .engine then
          setHstate z.op.req 2 { s with arr := { s.arr with run := some z.op, susp := none } }
        else s
      else if secOf o.off = secOf z.op.off then s
      else setHstate o.req 2 { s with arr := { s.arr with run := some o, queue := q } }
    | none =>
      let ufe := if o.erase then insertNat (secOf o.off) s.arr.ufe else s.arr.ufe
      setHstate o.req 2 { s with arr := { s.arr with run := some o, queue := q, ufe := ufe } }
  | _, _ => s

/-- An operation joins the queue and starts if it can. -/
def submit (o : ArrOp) (s : State) : State :=
  startNext (setHstate o.req 1 { s with arr := { s.arr with queue := s.arr.queue ++ [o] } })

/-- The word of a bank, counted from its start, that the next record of sectors lo to hi takes: after every word of them that is used
or is being programmed in either bank. -/
def recordSlot (s : State) (lo hi : Nat) : Nat :=
  let busy := (s.arr.queue ++ s.arr.run.toList).filterMap fun o => if o.erase then none else some (o.off / 8)
  let used := (s.arr.mem.map (·.1) ++ s.arr.ceMarks ++ s.arr.ueMarks ++ busy).map fun w => w % 0x40000
  (used.filter fun w => decide (lo * 2048 ≤ w) && decide (w < (hi + 1) * 2048)).foldl (fun a w => max a (w + 1)) (lo * 2048)

/-- A record of an engine goes to sectors lo to hi of both banks, the same content in each (R290, R292). Its place and its words are
the model's, since no rule lays these sectors out: it is appended, and full sectors are erased and begun again (DESIGN CHOICE,
log entry 58). -/
def keepRecord (lo hi tag arg : Nat) (d : DWord) (s : State) : State :=
  let w := recordSlot s lo hi
  let full := decide ((hi + 1) * 2048 ≤ w)
  let at' := if full then lo * 2048 else w
  let s1 := if full then
      ((List.range (hi + 1 - lo)).flatMap fun i => [lo + i, 128 + lo + i]).foldl (fun s sec =>
        submit { req := .engine, erase := true, off := sec * 0x4000 } s) s
    else s
  let put := fun (b : Bool) (s : State) =>
    submit { req := .engine, erase := false, off := 8 * at' + 0x200000 * b2n b, data := d, tag := tag, arg := 2 * arg + b2n b } s
  put true (put false s1)

/-- The running erase is suspended (R296, R297): cause 0 explicit, 1 automatic, 2 H-SEAL, 3 log engine. -/
def suspendRun (cause : Nat) (s : State) : State :=
  match s.arr.run with
  | some o =>
    if o.erase then
      startNext { s with arr := { s.arr with run := none, susp := some ⟨o, cause, 0, 0⟩ } }
    else s
  | none => s

/-- The bank's state code (Table: Bank state codes). -/
def bankState (s : State) (bank : Nat) : Nat :=
  let suspHere := match s.arr.susp with | some z => bankOf z.op.off == bank | none => false
  if (match s.arr.resolve with | some sec => sec / 128 == bank | none => false) then 5
  else
    match s.arr.run with
    | some o =>
      if bankOf o.off = bank then (if o.erase then 2 else if suspHere then 4 else 1) else if suspHere then 3 else 0
    | none => if suspHere then 3 else 0

/-- The operation that a status word of a bank describes. -/
def bankOp (s : State) (bank : Nat) : Option ArrOp :=
  match s.arr.run with
  | some o => if bankOf o.off = bank then some o else
      (match s.arr.susp with | some z => if bankOf z.op.off = bank then some z.op else none | none => none)
  | none => match s.arr.susp with | some z => if bankOf z.op.off = bank then some z.op else none | none => none

/-- The pulses an operation has applied in the frames it has run: an erase's set-up takes 100 µs and each pulse with its verify
2.256 ms; a program's 12 µs each (Table: Array timing). DEDUCED (log entry 58). -/
def pulsesOf (o : ArrOp) : Nat := if o.erase then min 48 ((4 * o.frames - 100) / 2256) else min 16 ((4 * o.frames - 12) / 12)

/-- A requester's code in a status word. -/
def reqCode : Requester → Nat
  | .host => 0 | .core false => 1 | .core true => 2 | .engine => 3

/-- The status word (R299). -/
def statusWord (s : State) (bank : Nat) : Word :=
  match bankOp s bank with
  | some o => pack [(0xA5, 8, 24), (bankState s bank, 4, 20), (secOf o.off % 128, 7, 13), (pulsesOf o, 6, 7), (reqCode o.req, 2, 5)]
  | none => pack [(0xA5, 8, 24), (bankState s bank, 4, 20)]

/-- What stands in the way of a read of offset off (R298): 0 nothing, 1 an erase running in the bank, 2 the erasing
sector, which its UFE cell marks, 3 a program running in the bank. -/
def busyFor (s : State) (off : Nat) : Nat :=
  if s.arr.ufe.contains (secOf off) && !s.arr.retired.contains (secOf off) then 2
  else
    match s.arr.run with
    | some o => if bankOf o.off ≠ bankOf off then 0 else if o.erase then 1 else 3
    | none => 0

/-- An access to a bank keeps its suspended erase suspended (R297). -/
def touchBank (off : Nat) (s : State) : State :=
  match s.arr.susp with
  | some z => if bankOf z.op.off = bankOf off then { s with arr := { s.arr with susp := some { z with quietFor := 0 } } } else s
  | none => s

/-! Commands (R302 to R307, R370). -/

/-- The bank that holds the booted firmware (R358). -/
def bootBank (s : State) : Nat := b2n s.hive.fwBankB

/-- An activation of the customer extension runs on core B: it is scheduled in GUARD, WATCH, SERVICE, RETURN and EARLY only (R327). -/
def extOn (s : State) : Bool :=
  s.hive.extSince.isSome && (s.top.state ∈ [DevState.guard, .watch, .service, .ret, .early])

/-- The requester is the customer extension. -/
def extRunning (s : State) (r : Requester) : Bool := r = .core true && extOn s

/-- The region or security forbids the command (R290, R370): op 5 READ, 6 PROGRAM, 7 ERASE, 8 BLANK. -/
def regionForbids (s : State) (r : Requester) (op off : Nat) : Bool :=
  let sl := secOf off % 128
  let boot := bankOf off == bootBank s
  if extRunning s r then !((op == 5 || op == 8) && boot && decide (80 ≤ sl) && decide (sl ≤ 95))
  else if op = 5 ∨ op = 8 then decide (100 ≤ sl) && decide (sl ≤ 103)
  else if 96 ≤ sl then true
  else match r with
    | .host => if boot then !grantsX s else !grantsS s
    | _ => boot

/-- The present state forbids the command (R303, R307). -/
def stateForbids (s : State) (r : Requester) (op : Nat) : Bool :=
  if s.top.state = .harvest then true
  else
    match r with
    | .host => (op == 6 || op == 7) && s.top.state != .service
    | _ => s.top.state = .wake

/-- The requester has a program or a read under way, or an erase queued or running. -/
def progOut (s : State) (r : Requester) : Bool :=
  let mine := fun (o : ArrOp) => o.req == r && !o.erase
  s.arr.queue.any mine || (match s.arr.run with | some o => mine o | none => false) || (portOf s r).waitOp.isSome
def eraseOut (s : State) (r : Requester) : Bool :=
  let mine := fun (o : ArrOp) => o.req == r && o.erase
  s.arr.queue.any mine || (match s.arr.run with | some o => mine o | none => false)
def eraseSusp (s : State) (r : Requester) : Bool :=
  match s.arr.susp with | some z => z.op.req == r | none => false
/-- The requester's erase runs, or is suspended only automatically: SUSPEND has something to act on (R296). -/
def eraseRuns (s : State) (r : Requester) : Bool :=
  (match s.arr.run with | some o => o.req == r && o.erase | none => false) ||
  (match s.arr.susp with | some z => z.op.req == r && z.cause == 1 | none => false)
/-- The requester suspended its erase, so that RESUME has something to act on (R296). -/
def eraseHeld (s : State) (r : Requester) : Bool :=
  match s.arr.susp with | some z => z.op.req == r && z.cause == 0 | none => false

/-- Another command of the requester is outstanding (R302). -/
def outstanding (s : State) (r : Requester) (op : Nat) : Bool :=
  if op = 9 ∨ op = 10 then progOut s r && !eraseOut s r && !eraseSusp s r
  else if op = 7 then progOut s r || eraseOut s r || eraseSusp s r
  else progOut s r || eraseOut s r

/-- The lowest code of Table: Array refusal codes that applies; 0: the command is accepted. -/
def cmdCode (s : State) (r : Requester) (op key arg : Nat) : Nat :=
  let addr := (portOf s r).addr.toNat
  let uses := op == 5 || op == 6 || op == 7 || op == 8
  let sec := secOf addr
  if 11 ≤ op ∨ ((op = 6 ∨ op = 7) ∧ key ≠ 0xA77A) ∨ (op = 6 ∧ arg = 0) then 1
  else if outstanding s r op then 2
  else if uses && (addr % 8 != 0 || decide (0x400000 ≤ addr)) then 3
  else if stateForbids s r op then 4
  else if uses && regionForbids s r op addr then 5
  else if (uses && op != 5) && s.arr.retired.contains sec then 6
  else if op = 6 && !wordBlank s (addr / 8) then 7
  else if (op = 9 && !eraseRuns s r) || (op = 10 && !eraseHeld s r) || (op = 7 && s.arr.susp.isSome) then 8
  else if uses && busyFor s addr == 2 then 9
  else 0

/-- The bytes of data that a mask enables, the others 0xFF (R293). -/
def maskData (d : DWord) (m : BitVec 8) : DWord :=
  (List.range 8).foldl (fun a i => if m.getLsbD i then a else a ||| ((0xFF : DWord) <<< (8 * i))) d

/-- A READ is served (R300, R302). -/
def serveRead (r : Requester) (off : Nat) (s : State) : State :=
  match readWord (off / 8) (touchBank off s) with
  | (some d, s1) => endCmd r 4 (setPort r { portOf s1 r with latch := d, waitOp := none } s1)
  | (none, s1) => endCmd r 5 (setPort r { portOf s1 r with latch := 0, waitOp := none } s1)

/-- A BLANK is served (R302). -/
def serveBlank (r : Requester) (off : Nat) (s : State) : State :=
  let s1 := touchBank off s
  match firstUsed s1 (secOf off) with
  | none => endCmd r 4 (setPort r { portOf s1 r with waitOp := none } s1)
  | some w => endCmd r 5 (setPort r { portOf s1 r with addr := BitVec.ofNat 32 (8 * w), waitOp := none } s1)

/-- A read of the host or through a window stalls: one that an erase stalls is an ESTALL (R298). -/
def stallRead (r : Requester) (blank : Bool) (off : Nat) (erase : Bool) (s : State) : State :=
  let s1 := if erase && (portOf s r).waitOp.isNone then tally 0x31 1 (BitVec.ofNat 32 off) s else s
  setPort r { portOf s1 r with waitOp := some (blank, off), hstate := 2 } s1

/-- A READ or BLANK meets the bank (R298): served, served after an automatic suspension, or waiting. -/
def tryRead (r : Requester) (blank : Bool) (off : Nat) (s : State) : State :=
  let serve := fun s => if blank then serveBlank r off s else serveRead r off s
  match busyFor s off with
  | 0 => serve s
  | 1 => if s.arr.autoMin = 0 then serve (suspendRun 1 s) else stallRead r blank off true s
  | 2 => serve s
  | _ => stallRead r blank off false s

/-- READs and BLANKs that waited are tried again; those that an erase stalled are served once it may be suspended again (R297). -/
def serveWaits (s : State) : State :=
  [Requester.host, .core false, .core true].foldl (fun s r =>
    match (portOf s r).waitOp with
    | some (b, off) => if busyFor s off = 0 ∨ (busyFor s off = 1 ∧ s.arr.autoMin = 0) then tryRead r b off s else s
    | none => s) s

/-- A command of a requester (R302). -/
def arrCmd (r : Requester) (op key arg : Nat) (s : State) : State :=
  let p := portOf s r
  if op = 0 then s
  else
    match cmdCode s r op key arg with
    | 0 =>
      if op = 1 then endCmd r 4 (setPort r { p with latch := (p.latch &&& 0xFFFFFFFF00000000) ||| p.addr.zeroExtend 64 } s)
      else if op = 2 then endCmd r 4 (setPort r { p with latch := (p.latch &&& 0xFFFFFFFF) ||| (p.addr.zeroExtend 64 <<< 32) } s)
      else if op = 3 then endCmd r 4 (setPort r { p with addr := p.latch.truncate 32 } s)
      else if op = 4 then endCmd r 4 (setPort r { p with addr := (p.latch >>> 32).truncate 32 } s)
      else if op = 5 then tryRead r false p.addr.toNat s
      else if op = 6 then submit { req := r, erase := false, off := p.addr.toNat, data := p.latch, mask := BitVec.ofNat 8 arg } s
      else if op = 7 then submit { req := r, erase := true, off := secOf p.addr.toNat * 0x4000 } s
      else if op = 8 then tryRead r true p.addr.toNat s
      else if op = 9 then setPort r { p with suspReq := true } s
      else startNext (setHstate r 2 (resumeSusp 0 s))
    | c => rejCmd r c s

/-- An ARRAY_CMD word with its byte enables: a field whose bytes are disabled is not written (R43, R76). -/
def arrCmdWord (r : Requester) (data : Word) (be : ByteEn) (s : State) : State :=
  if be.getLsbD 0 then
    arrCmd r (fld data 0 4) (if be.getLsbD 2 && be.getLsbD 3 then fld data 16 16 else 0)
      (if be.getLsbD 1 then fld data 8 8 else 0) s
  else s

/-- A command of the host leaves the post buffer; a core's comes through its window. -/
def arrRow (r : Requester) (op key arg : Nat) (be : ByteEn) (s : State) : State :=
  let data := pack [(op, 4, 0), (arg, 8, 8), (key, 16, 16)]
  match r with
  | .host => leave ⟨0x90, data, be⟩ (arrCmdWord .host data be) s
  | .core b => if powered s && !(if b then s.hive.b.inReset else s.hive.a.inReset) then arrCmdWord (.core b) data be s else s
  | .engine => s

/-- A requester's erase is suspended at its request: HSTATE, and ARRAY_DONE for the host (R302, R305). -/
def suspended (r : Requester) (s : State) : State :=
  let s1 := setPort r { portOf s r with suspReq := false, hstate := 3 } s
  if r = .host then setInt 7 s1 else s1

/-- ERASE_SUSPEND_EFFECT: at the segment boundary the requested suspension takes effect (R296, R305); one that was suspended
automatically meanwhile stays suspended for its requester. -/
def suspendEffect (s : State) : State :=
  match s.arr.run, s.arr.susp with
  | some o, none => if o.erase && (portOf s o.req).suspReq then serveWaits (suspendRun 0 (suspended o.req s)) else s
  | _, some z =>
    if (portOf s z.op.req).suspReq then
      suspended z.op.req { s with arr := { s.arr with susp := some { z with cause := 0 } } }
    else s
  | _, _ => s

/-- AUTO_RESUME: an automatically suspended erase runs again after 8 µs without access or 2 ms (R297). -/
def autoResume (s : State) : State :=
  match s.arr.susp with
  | some z =>
    if z.cause = 1 ∧ (2 ≤ z.quietFor ∨ 500 ≤ z.since) then
      startNext (setHstate z.op.req 2 (resumeSusp (if z.quietFor < 2 then 25 else 0) s))
    else s
  | none => s

/-- What a boundary counts: frames of the running operation, of a suspension, whose bank a nested program keeps busy, and of the
runs after it (R292, R297). Reads that stalled behind those runs are tried again. -/
def arrBoundary (s : State) : State :=
  let run := s.arr.run.map fun o => { o with frames := o.frames + 1 }
  let susp := s.arr.susp.map fun z =>
    { z with since := z.since + 1, quietFor := if (bankOp s (bankOf z.op.off)).any (fun o => !o.erase) then 0 else z.quietFor + 1 }
  serveWaits { s with arr := { s.arr with
    run := run, susp := susp, autoMin := if run.isSome then s.arr.autoMin - 1 else s.arr.autoMin } }

/-- Step 4 of R47 for resource 11: a running operation is charged the frame, as a split item (R55, R292). -/
def arrCharge (s : State) : State :=
  match s.arr.run with
  | some o =>
    let cost := if o.erase then 2712200 else 5500
    let left := cost - 100 * o.frames
    let s1 := spend 11 (min left (budget s 11)) s
    if budget s 11 < left then modAcct 11 (fun a => { a with splits := satInc 0xFFFF a.splits }) s1 else s1
  | none => s

/-- The first HARVEST frame: queued commands of the host and the cores leave the queue with code 0x4 (R304). -/
def harvestFlush (s : State) : State :=
  let out := s.arr.queue.filter fun o => o.req != .engine
  let s1 := { s with arr := { s.arr with queue := s.arr.queue.filter fun o => o.req == .engine } }
  out.foldl (fun s o => rejCmd o.req 4 s) s1

/-- Power is lost, or Core BOR or AON POR (R311, R306): a running program leaves its word undefined, erases keep UFE. -/
def arrCut (s : State) : State :=
  let s1 := match s.arr.run with
    | some o => if o.erase then s else
        let s2 := setWord (o.off / 8) (Config.undefinedWord s.free) s
        { s2 with free := s2.free + 1 }
    | none => s
  { s1 with arr := { s1.arr with
      queue := [], run := none, susp := none, autoMin := 0, resolve := none, retCnt := 0, port := {}, portA := {}, portB := {} } }

/-- SOFT_RESET (R311, R306): a running program goes on; erases are abandoned with UFE set; the queue is lost, but for the next program
of an event-log record already begun (R345). -/
def arrSoft (s : State) : State :=
  let run := match s.arr.run with | some o => if o.erase then none else some { o with req := .engine } | none => none
  { s with arr := { s.arr with
      queue := s.arr.queue.filter fun o => o.tag == 1 && decide (0 < s.tally.curStep)
      run := run, susp := none, autoMin := 0, retCnt := 0, port := {}, portA := {}, portB := {} } }

/-- A core's watchdog reset (R307, R311): its queued commands leave the queue, its suspended erase resumes, its window
takes its Reset values. -/
def arrWatchdog (b : Bool) (s : State) : State :=
  let q := s.arr.queue.filter fun o => o.req != .core b
  let s1 := { s with arr := { s.arr with queue := q } }
  let s2 := if eraseSusp s1 (.core b) then startNext (resumeSusp 0 s1) else s1
  setPort (.core b) {} s2

/-! Core accesses (R298). -/

/-- The core state of core b. -/
def coreOf (s : State) (b : Bool) : Core := if b then s.hive.b else s.hive.a
def setCore (b : Bool) (c : Core) (s : State) : State :=
  if b then { s with hive := { s.hive with b := c } } else { s with hive := { s.hive with a := c } }

/-- How an access of a core to the array ends. -/
inductive ArrAccess where
  | value (d : DWord) | status (w : Word) | fault | stall (erase : Bool)
  deriving DecidableEq, Repr

/-- An access of core b to offset off (Table: Access to a busy bank). An access that still stalls is the same stall. -/
def coreAccess (b : Bool) (off : Nat) (isFetch : Bool) (s : State) : ArrAccess × State :=
  let p := portOf s (.core b)
  let stat := !isFetch && p.statread
  let read := fun s => match readWord (off / 8) (touchBank off s) with
    | (some d, s1) => (ArrAccess.value d, s1)
    | (none, s1) => (ArrAccess.fault, s1)
  match busyFor s off with
  | 0 => read s
  | 2 => if stat then (.status (statusWord s (bankOf off)), s) else (.fault, tally 0x31 2 (BitVec.ofNat 32 off) s)
  | 1 =>
    if stat then (.status (statusWord s (bankOf off)), s)
    else if p.autosus && s.arr.autoMin == 0 then read (suspendRun 1 s)
    else (.stall true, if (coreOf s b).stalled then s else tally 0x31 1 (BitVec.ofNat 32 off) s)
  | _ => if stat then (.status (statusWord s (bankOf off)), s) else (.stall false, s)

/-- The flags an access leaves in ARRAY_CFG (R298, ARRAY_CFG). -/
def markAccess (b : Bool) (a : ArrAccess) (s : State) : State :=
  let p := portOf s (.core b)
  match a with
  | .status _ => setPort (.core b) { p with swHit := true } s
  | .stall e => setPort (.core b) { p with
      stalled := true, stallCnt := if e && !(coreOf s b).stalled then satInc 0xFFFF p.stallCnt else p.stallCnt } s
  | _ => s

/-! One definition per command. -/

def execArrayNop (arg : Nat) (be : ByteEn) (s : State) : Out := .next (arrRow .host 0 0 arg be s)
def execArrayLdlo (be : ByteEn) (s : State) : Out := .next (arrRow .host 1 0 0 be s)
def execArrayLdhi (be : ByteEn) (s : State) : Out := .next (arrRow .host 2 0 0 be s)
def execArrayGetlo (be : ByteEn) (s : State) : Out := .next (arrRow .host 3 0 0 be s)
def execArrayGethi (be : ByteEn) (s : State) : Out := .next (arrRow .host 4 0 0 be s)
def execArrayRead (r : Requester) (be : ByteEn) (s : State) : Out := .next (arrRow r 5 0 0 be s)
def execArrayProgram (r : Requester) (key : BitVec 16) (arg : BitVec 8) (be : ByteEn) (s : State) : Out :=
  .next (arrRow r 6 key.toNat arg.toNat be s)
def execArrayErase (r : Requester) (key : BitVec 16) (be : ByteEn) (s : State) : Out := .next (arrRow r 7 key.toNat 0 be s)
def execArrayBlank (r : Requester) (be : ByteEn) (s : State) : Out := .next (arrRow r 8 0 0 be s)
def execArraySuspend (r : Requester) (be : ByteEn) (s : State) : Out := .next (arrRow r 9 0 0 be s)
def execArrayResume (r : Requester) (be : ByteEn) (s : State) : Out := .next (arrRow r 10 0 0 be s)
def execArrayReserved (r : Requester) (op : Nat) (be : ByteEn) (s : State) : Out :=
  .next (if 11 ≤ op ∧ op ≤ 15 then arrRow r op 0 0 be s else s)
def execEraseSuspendEffect (s : State) : Out := .next (suspendEffect s)
def execAutoResume (s : State) : Out := .next (autoResume s)

end Sys2Proof.Machine
end

