-- ==== Sys2Proof/Machine/Hive.lean ====
section
/-! DEFINITION. The Hive cores (14): their memories under SECDED, the store buffers and their ordering, the mailbox
window, the watchdog and the customer extension. -/

namespace Sys2Proof.Machine

/-- The Tally source of a core. -/
def coreSrc (b : Bool) : Nat := if b then 0x11 else 0x10

/-- A core executes: HIVE is powered and not yet quiesced (R239), and the core is neither in reset nor halted by the debugger, or
steps once (R368). -/
def coreRuns (s : State) (b : Bool) : Bool :=
  powered s && !quiesced s && !(coreOf s b).inReset && (!(coreOf s b).halted || (coreOf s b).stepping)

/-! SECDED RAM (R321 to R324). A region: 0 the core's TCM, 1 shared SRAM; words by core address ÷ 4. -/

/-- One byte of a region. -/
def ramByte (s : State) (b : Bool) (addr : Nat) : BitVec 8 :=
  if addr < 0x10000 then Sparse.get (fun _ => 0) (coreOf s b).tcm addr else Sparse.get (fun _ => 0) s.hive.sram addr
def setRamByte (b : Bool) (addr : Nat) (v : BitVec 8) (s : State) : State :=
  if addr < 0x10000 then
    let c := coreOf s b
    setCore b { c with tcm := Sparse.put (fun _ => 0) c.tcm addr v } s
  else { s with hive := { s.hive with sram := Sparse.put (fun _ => 0) s.hive.sram addr v } }

/-- Whether the word at an address holds a correctable or an uncorrectable error. -/
def ramCe (s : State) (b : Bool) (addr : Nat) : Bool :=
  if addr < 0x10000 then (coreOf s b).ceWords.contains (addr / 4) else s.hive.ceWords.contains (addr / 4)
def ramUe (s : State) (b : Bool) (addr : Nat) : Bool :=
  if addr < 0x10000 then (coreOf s b).ueWords.contains (addr / 4) else s.hive.ueWords.contains (addr / 4)

/-- The word's error marks are set: 0 none, 1 correctable, 2 uncorrectable. -/
def ramMark (b : Bool) (addr m : Nat) (s : State) : State :=
  let w := addr / 4
  let upd := fun (k : Nat) (ws : List Nat) => if m = k then insertNat w ws else removeNat w ws
  if addr < 0x10000 then
    let c := coreOf s b
    setCore b { c with ceWords := upd 1 c.ceWords, ueWords := upd 2 c.ueWords } s
  else { s with hive := { s.hive with ceWords := upd 1 s.hive.ceWords, ueWords := upd 2 s.hive.ueWords } }

/-- The checker of a region (FAULT_INJECT.CHK). -/
def ramChk (b : Bool) (addr : Nat) : Nat := if addr < 0x10000 then (if b then 2 else 1) else 3

/-- The bytes of an access, lowest first, as a word. -/
def ramWord (s : State) (b : Bool) (addr size : Nat) : Word :=
  (List.range size).foldl (fun a i => a ||| ((ramByte s b (addr + i)).zeroExtend 32 <<< (8 * i))) 0

/-- A read of a region: the value, none when the word is uncorrectable (R321). -/
def ramRead (b : Bool) (addr size : Nat) (s : State) : Option Word × State :=
  let base : Word := BitVec.ofNat 32 (addr / 4 * 4)
  if ramUe s b addr then (none, tally 0x12 2 base s)
  else if ramCe s b addr then (some (ramWord s b addr size), tally 0x12 1 base (ramMark b addr 0 s))
  else (some (ramWord s b addr size), s)

/-- A write to a region: true when it is dropped on an uncorrectable word (R322, R323, R342). -/
def ramWrite (b : Bool) (addr size : Nat) (data : Word) (s : State) : Bool × State :=
  let base : Word := BitVec.ofNat 32 (addr / 4 * 4)
  if size < 4 ∧ ramUe s b addr then (true, tally 0x12 2 base s)
  else
    let s1 := if size < 4 ∧ ramCe s b addr then tally 0x12 1 base s else s
    let s2 := (List.range size).foldl (fun s i => setRamByte b (addr + i) (byteOf data i) s) s1
    let j := injectUse (ramChk b addr) s2
    (false, ramMark b addr j.2 j.1)

/-! The customer extension (R325 to R328). -/

/-- A 32-bit little-endian word of the array at a byte offset. -/
def arrHalf (s : State) (off : Nat) : Word :=
  let d := arrWord s (off / 8)
  if off % 8 < 4 then d.truncate 32 else (d >>> 32).truncate 32

/-- The array offset of the extension: sectors 80–95 of the boot bank. -/
def extBase (s : State) : Nat := bootBank s * 0x200000 + 80 * 0x4000

/-- TCM_KIB and SRAM_KIB of the extension image. -/
def extTcmKib (s : State) : Nat := fld (arrHalf s (extBase s + 16)) 0 16
def extSramKib (s : State) : Nat := fld (arrHalf s (extBase s + 16)) 16 16

/-- LENGTH of the extension image. -/
def extLength (s : State) : Nat := (arrHalf s (extBase s + 4)).toNat

/-- An access of size bytes that R327 permits the extension: its slices, FLAG4–FLAG7, the EXT halves of DB_H2C and DB_C2H, its
array window, and reads of its own body. -/
def extMay (s : State) (addr size : Nat) (write : Bool) : Bool :=
  (decide (0x10000 - 1024 * extTcmKib s ≤ addr) && decide (addr < 0x10000)) ||
  (decide (0x10070000 ≤ addr) && decide (addr < 0x10070000 + 1024 * extSramKib s)) ||
  (decide (0x20000030 ≤ addr) && decide (addr < 0x20000040)) ||
  (decide (0x20000008 ≤ addr) && decide (addr < 0x20000010) && (decide (size = 4) || decide (2 ≤ addr % 4))) ||
  (decide (0x20001000 ≤ addr) && decide (addr < 0x20001018)) ||
  (!write && decide (0x40000000 + extBase s + 128 ≤ addr) && decide (addr + size ≤ 0x40000000 + extBase s + 128 + extLength s))

/-- DOORBELL_C2H bits set (R314, INT_STAT.DOORBELL). -/
def ringC2h (bits : Word) (s : State) : State :=
  let b := bits &&& 0xFFFF0003
  if b = 0 then s else setInt 10 { s with host := { s.host with dbC2h := s.host.dbC2h ||| b } }

/-- The extension is stopped for good (R328): EXT_STOP, EXT_FAULT, its slices at 0, and its work leaves the ledger. -/
def extStop (addr : Word) (s : State) : State :=
  let t := 0x10000 - 1024 * extTcmKib s
  let c := s.hive.b
  let c1 := { c with
    tcm := c.tcm.filter (fun p => decide (p.1 < t))
    ueWords := c.ueWords.filter (fun w => decide (4 * w < t))
    ceWords := c.ceWords.filter (fun w => decide (4 * w < t)) }
  let h := 0x10070000 + 1024 * extSramKib s
  let out := fun (a : Nat) => decide (a < 0x10070000) || decide (h ≤ a)
  let s1 := { s with hive := { s.hive with
    b := c1
    sram := s.hive.sram.filter (fun p => out p.1)
    ueWords := s.hive.ueWords.filter (fun w => out (4 * w))
    ceWords := s.hive.ceWords.filter (fun w => out (4 * w))
    extStopped := true
    extSince := none } }
  tally 0x13 2 addr (ringC2h 2 (dropWork (fun w => decide (w = .extension)) s1))

/-- An activation of the extension has returned: firmware of core B runs again. -/
def extReturn (b : Bool) (s : State) : State :=
  if b && extOn s then { s with hive := { s.hive with extSince := none } } else s

/-- A synchronous exception on core b at an address (R319, R328). -/
def excEntry (b : Bool) (addr : Word) (s : State) : State :=
  if b && extOn s then extStop addr s
  else tally (coreSrc b) 1 addr (setCore b { coreOf s b with handler := true } s)

/-! The mailbox window (R314, R315). -/

/-- A message waits for firmware, taken or still in MBOX_H2C (R95, R96). -/
def mboxMsg (s : State) : Option Word :=
  match s.host.taken with
  | some w => some w
  | none => if s.host.h2cFull then some s.host.h2c else none

/-- H2C_TAKE: the word, and H2C_FULL clears. -/
def takeH2c (b : Bool) (s : State) : State :=
  if s.hive.winUe.contains 0 then excEntry b 0x20000000 (tally 0x12 2 0x20000000 s)
  else
    let s0 := if s.hive.winCe.contains 0 then
      tally 0x12 1 0x20000000 { s with hive := { s.hive with winCe := removeNat 0 s.hive.winCe } } else s
    let w := if s.host.h2cFull then s.host.h2c else 0
    let s1 := setCore b { coreOf s0 b with lastLoad := w } s0
    { s1 with host := { s1.host with
        taken := if s.host.h2cFull then some w else s.host.taken
        takenB := if s.host.h2cFull then b else s.host.takenB
        h2cFull := false } }

/-- An injection on the window's checker marks a written word (R324, R342). -/
def winMark (off : Nat) (s : State) : State :=
  let j := injectUse 4 s
  let s1 := j.1
  { s1 with hive := { s1.hive with
      winCe := if j.2 = 1 then insertNat off s1.hive.winCe else removeNat off s1.hive.winCe
      winUe := if j.2 = 2 then insertNat off s1.hive.winUe else removeNat off s1.hive.winUe } }

/-- C2H_POST: MBOX_C2H, C2H_FULL and INT_STAT.MBOX (R95). -/
def postC2h (w : Word) (s : State) : State :=
  setInt 9 (winMark 4 { s with host := { s.host with c2h := w, c2hFull := true } })

/-- DB_H2C: 1 clears a DOORBELL_H2C bit. -/
def clearDbH2c (w : Word) (s : State) : State := { s with host := { s.host with dbH2c := s.host.dbH2c &&& ~~~w } }

/-- WDOG_KICK (R320). -/
def kickWdog (b : Bool) (w : Word) (s : State) : State :=
  if w = 0x0000C0DE then setCore b { coreOf s b with wdog := 0 } s else s

/-- A store to a FLAG word; true when it is dropped on an uncorrectable word. -/
def storeFlag (off size lo : Nat) (data : Word) (s : State) : Bool × State :=
  let a : Word := BitVec.ofNat 32 (0x20000000 + off)
  if size < 4 ∧ s.hive.winUe.contains off then (true, tally 0x12 2 a s)
  else
    let s1 := if size < 4 ∧ s.hive.winCe.contains off then tally 0x12 1 a s else s
    let m := fmask (8 * lo) (8 * size)
    let old := Sparse.get (fun _ => 0) s1.hive.flags (off / 4)
    (false, winMark off { s1 with hive := { s1.hive with
      flags := Sparse.put (fun _ => 0) s1.hive.flags (off / 4) (mergeBits old (data <<< (8 * lo)) m) } })

/-- A store of core b to the window. -/
def storeWindow (b : Bool) (off size : Nat) (data : Word) (s : State) : State :=
  let w := off / 4 * 4
  let d := (data &&& fmask 0 (8 * size)) <<< (8 * (off % 4))
  let ext := b && extOn s
  let dm : Word := if ext then d &&& 0xFFFF0000 else d
  if w = 0x04 then postC2h d (extReturn b s)
  else if w = 0x08 then clearDbH2c dm s
  else if w = 0x0C then ringC2h dm s
  else if w = 0x14 then kickWdog b d (extReturn b s)
  else if 0x20 ≤ w ∧ w < 0x40 then
    match storeFlag w size (off % 4) data s with
    | (true, s1) => tally (coreSrc b) 2 (BitVec.ofNat 32 (0x20000000 + off)) (setCore b { coreOf s1 b with asyncFault := true } s1)
    | (false, s1) => s1
  else s

/-- A load of core b from the window; the extension sees of the doorbells their EXT fields (R327). -/
def loadWindow (b : Bool) (off size : Nat) (s : State) : State :=
  let w := off / 4 * 4
  let m : Word := if b && extOn s then 0xFFFF0000 else 0xFFFFFFFF
  let give := fun (v : Word) (s : State) =>
    setCore b { coreOf s b with lastLoad := (v >>> (8 * (off % 4))) &&& fmask 0 (8 * size) } s
  if w = 0x00 then takeH2c b (extReturn b s)
  else if w = 0x08 then give (s.host.dbH2c &&& m) s
  else if w = 0x0C then give (s.host.dbC2h &&& m) s
  else if w = 0x10 then give (BitVec.ofNat 32 (b2n s.host.h2cFull + 2 * b2n s.host.c2hFull)) s
  else if 0x20 ≤ w ∧ w < 0x40 then
    if s.hive.winUe.contains w then
      excEntry b (BitVec.ofNat 32 (0x20000000 + w)) (tally 0x12 2 (BitVec.ofNat 32 (0x20000000 + w)) s)
    else
      let s1 := if s.hive.winCe.contains w then
        tally 0x12 1 (BitVec.ofNat 32 (0x20000000 + w)) { s with hive := { s.hive with winCe := removeNat w s.hive.winCe } } else s
      give (Sparse.get (fun _ => 0) s1.hive.flags (w / 4)) s1
  else give 0 s

/-! The array window (R307). -/

/-- ARRAY_STAT of a requester. -/
def arrStat (s : State) (r : Requester) : Word :=
  let p := portOf s r
  pack [(p.hstate, 3, 0), (p.rejCode, 4, 4), (p.pulses, 6, 8), (bankState s 0, 4, 16), (bankState s 1, 4, 20),
    (min 255 s.arr.retCnt, 8, 24)]

/-- ARRAY_CFG of core b. -/
def arrCfg (s : State) (b : Bool) : Word :=
  let p := portOf s (.core b)
  pack [(b2n p.autosus, 1, 0), (b2n p.statread, 1, 1), (b2n p.swHit, 1, 8), (b2n p.stalled, 1, 9), (p.stallCnt, 16, 16)]

/-- A store of core b to its array window. -/
def storeArrWin (b : Bool) (off size : Nat) (data : Word) (s : State) : State :=
  let w := off / 4 * 4
  let lo := off % 4
  let d := (data &&& fmask 0 (8 * size)) <<< (8 * lo)
  let m := fmask (8 * lo) (8 * size)
  let be : ByteEn := BitVec.ofNat 4 ((2 ^ size - 1) * 2 ^ lo)
  let p := portOf s (.core b)
  if w = 0x00 then arrCmdWord (.core b) d be s
  else if w = 0x04 then setPort (.core b) { p with addr := mergeBits p.addr d m } s
  else if w = 0x0C then
    setPort (.core b) { p with
      autosus := if m.getLsbD 0 then d.getLsbD 0 else p.autosus
      statread := if m.getLsbD 1 then d.getLsbD 1 else p.statread
      swHit := p.swHit && !d.getLsbD 8
      stalled := p.stalled && !d.getLsbD 9 } s
  else if w = 0x10 then
    setPort (.core b) { p with latch := (p.latch &&& ~~~(m.zeroExtend 64)) ||| (d.zeroExtend 64) } s
  else if w = 0x14 then
    setPort (.core b) { p with latch := (p.latch &&& ~~~(m.zeroExtend 64 <<< 32)) ||| (d.zeroExtend 64 <<< 32) } s
  else s

/-- A load of core b from its array window. -/
def loadArrWin (b : Bool) (off size : Nat) (s : State) : State :=
  let w := off / 4 * 4
  let p := portOf s (.core b)
  let v : Word := if w = 0x04 then p.addr else if w = 0x08 then arrStat s (.core b) else if w = 0x0C then arrCfg s b
    else if w = 0x10 then p.latch.truncate 32 else if w = 0x14 then (p.latch >>> 32).truncate 32 else 0
  let s1 := if w = 0x0C then setPort (.core b) { p with stallCnt := 0 } s else s
  setCore b { coreOf s1 b with lastLoad := (v >>> (8 * (off % 4))) &&& fmask 0 (8 * size) } s1

/-! Store buffers and ordering (R316, R317). -/

/-- The device blocks' firmware-side registers, whose behaviour the spec does not give (R312). -/
def fwReg (addr : Nat) : Bool := decide (0x80000000 ≤ addr) && decide (addr < 0x81000000)

/-- An aligned access of a size the cores have (R312). -/
def alignedTo (addr size : Nat) : Bool := (size == 1 || size == 2 || size == 4) && addr % size == 0

/-- An address a store may go to, and one a load may (Table: Core address map). -/
def mayStore (addr : Nat) : Bool :=
  decide (addr < 0x10000) || (decide (0x10000000 ≤ addr) && decide (addr < 0x10080000)) ||
  (decide (0x20000000 ≤ addr) && decide (addr < 0x20000100)) ||
  (decide (0x20001000 ≤ addr) && decide (addr < 0x20001100)) || fwReg addr
def mayLoad (addr : Nat) : Bool :=
  mayStore addr || (decide (0x40000000 ≤ addr) && decide (addr < 0x40400000))

/-- A store is performed: none when it reaches a firmware-side register (R316, R319). -/
def performStore (b : Bool) (w : BufStore) (s : State) : Option State :=
  let a := w.addr.toNat
  if fwReg a then none
  else if 0x20001000 ≤ a ∧ a < 0x20001100 then some (storeArrWin b (a - 0x20001000) w.size w.data s)
  else
    match ramWrite b a w.size w.data s with
    | (true, s1) => some (tally (coreSrc b) 2 w.addr (setCore b { coreOf s1 b with asyncFault := true } s1))
    | (false, s1) => some s1

/-- The head of the store buffer is performed. -/
def performHead (b : Bool) (s : State) : Option State :=
  match (coreOf s b).buf with
  | [] => some s
  | w :: ws => performStore b w (setCore b { coreOf s b with buf := ws } s)

/-- The buffer drains: n bounds its length. -/
def drain (b : Bool) : Nat → State → Option State
  | 0, s => some s
  | n + 1, s =>
    match performHead b s with
    | some s1 => drain b n s1
    | none => none

/-- The whole buffer of core b drains. -/
def drainAll (b : Bool) (s : State) : Option State := drain b (coreOf s b).buf.length s

/-- At an instruction boundary a pending asynchronous bus fault is taken (R319). -/
def takeAsync (b : Bool) (s : State) : State :=
  if (coreOf s b).asyncFault then
    let s1 := setCore b { coreOf s b with asyncFault := false } s
    if b && extOn s1 then extStop 0 s1 else setCore b { coreOf s1 b with handler := true } s1
  else s

/-- Two byte ranges overlap. -/
def overlaps (a n c m : Nat) : Bool := decide (a < c + m) && decide (c < a + n)

/-- The youngest buffered store that overlaps a load. -/
def youngest (buf : List BufStore) (addr size : Nat) : Option BufStore :=
  buf.reverse.find? fun w => overlaps w.addr.toNat w.size addr size

/-- The value a covering store gives a load. -/
def forwarded (w : BufStore) (addr size : Nat) : Word :=
  (w.data >>> (8 * (addr - w.addr.toNat))) &&& fmask 0 (8 * size)

/-- An outcome from an optional state: none is an access to a firmware-side register. -/
def orRefuse : Option State → Out
  | some s => .next s
  | none => .refused .firmwareRegister

/-- A precise fault: older buffered stores are performed first (R319). -/
def preciseFault (b : Bool) (addr : Word) (s : State) : Out := orRefuse ((drainAll b s).map (excEntry b addr))

/-- The next instruction of core b waits, or no longer does. -/
def setStalled (b v : Bool) (s : State) : State := setCore b { coreOf s b with stalled := v } s

/-- An access of core b that takes a precise bus fault: misaligned, outside the map, or not the extension's (R312, R327). -/
def accessBad (s : State) (b : Bool) (addr size : Nat) (write : Bool) : Bool :=
  !alignedTo addr size || !(if write then mayStore addr else mayLoad addr) || (b && extOn s && !extMay s addr size write)

/-- An instruction of core b that leaves no store younger than it in the buffer: the whole buffer drains first (R315, R317). -/
def drainedInsn (b : Bool) (f : State → State) (s : State) : Out := orRefuse ((drainAll b (takeAsync b s)).map fun x => setStalled b false (f x))

/-- A store commits (R312, R315, R316): into the buffer, or, for a window store, after the buffer has drained. With the
buffer full the store waits and nothing happens. Its own fault is taken before an asynchronous one (14 Edges). -/
def commitStore (b : Bool) (addr : Word) (size : Nat) (data : Word) (s : State) : Out :=
  let a := addr.toNat
  if !coreRuns s b then .next s
  else if accessBad s b a size true then preciseFault b addr (setStalled b false s)
  else if 0x20000000 ≤ a ∧ a < 0x20000100 then drainedInsn b (storeWindow b (a - 0x20000000) size data) s
  else
    let s1 := takeAsync b s
    if (coreOf s1 b).buf.length < 4 then
      .next (setCore b { coreOf s1 b with buf := (coreOf s1 b).buf ++ [⟨addr, size, data⟩], stalled := false } s1)
    else .next (setStalled b true s1)

/-- A fetch or data read of core b that reaches the array (R298). -/
def arrayRead (b : Bool) (addr : Word) (size : Nat) (isFetch : Bool) (s : State) : Out :=
  let off := addr.toNat - 0x40000000
  let r := coreAccess b off isFetch s
  let s1 := markAccess b r.1 r.2
  let give := fun (v : Word) => Host.Outcome.next (setCore b { coreOf s1 b with lastLoad := v &&& fmask 0 (8 * size), stalled := false } s1)
  match r.1 with
  | .value d => give ((d >>> (8 * (off % 8))).truncate 32)
  | .status w => give (w >>> (8 * (off % 4)))
  | .fault => preciseFault b addr (setStalled b false s1)
  | .stall _ => .next (setStalled b true s1)

/-- A load (R312, R315, R316, R321). -/
def doLoad (b : Bool) (addr : Word) (size : Nat) (s : State) : Out :=
  let a := addr.toNat
  if !coreRuns s b then .next s
  else if accessBad s b a size false then preciseFault b addr (setStalled b false s)
  else if 0x20000000 ≤ a ∧ a < 0x20000100 then drainedInsn b (loadWindow b (a - 0x20000000) size) s
  else
      let s1 := takeAsync b s
      match youngest (coreOf s1 b).buf a size with
      | some w =>
        if w.addr.toNat ≤ a ∧ a + size ≤ w.addr.toNat + w.size then
          .next (setCore b { coreOf s1 b with lastLoad := forwarded w a size, stalled := false } s1)
        else .next (setStalled b true s1)
      | none =>
        if fwReg a then .refused .firmwareRegister
        else if 0x20001000 ≤ a ∧ a < 0x20001100 then .next (setStalled b false (loadArrWin b (a - 0x20001000) size s1))
        else if 0x40000000 ≤ a then arrayRead b addr size false s1
        else
          match ramRead b a size s1 with
          | (some v, s2) => .next (setCore b { coreOf s2 b with lastLoad := v, stalled := false } s2)
          | (none, s2) => preciseFault b addr (setStalled b false s2)

/-! The watchdog (R320). -/

/-- WATCHDOG_EXPIRY: the Hive watchdog reset of core b (R31, R307, R319, R320, R328). A message the core had taken is lost, and an
activation of the extension ends with the core (14 Edges). -/
def watchdogReset (b : Bool) (s : State) : State :=
  if powered s && !quiesced s && !(coreOf s b).inReset && decide (65536 ≤ (coreOf s b).wdog) then
    let c := coreOf s b
    let s1 := c.buf.foldl (fun s w => tally (coreSrc b) 3 w.addr s) s
    let s2 := tally (coreSrc b) 4 0 s1
    let s3 := if b && extOn s && !c.buf.isEmpty then extStop 0 s2 else s2
    let s4 := if b then dropWork (fun w => decide (w = .extension)) { s3 with hive := { s3.hive with extSince := none } } else s3
    let s5 := if s4.host.takenB = b then { s4 with host := { s4.host with taken := none } } else s4
    arrWatchdog b (setCore b { inReset := true, clearing := true } s5)
  else s

/-- A HALT resets core b until the next WAKE (R341): what it runs is lost with the message it had taken, and its window is as after
its watchdog reset (R307). Its TCM keeps its words. DEDUCED (log entry 60). -/
def haltCore (b : Bool) (s : State) : State :=
  let c := coreOf s b
  let s1 := setCore b { tcm := c.tcm, ueWords := c.ueWords, ceWords := c.ceWords, inReset := true } s
  let s2 := if s1.host.takenB = b then { s1 with host := { s1.host with taken := none } } else s1
  arrWatchdog b (if b then { s2 with hive := { s2.hive with extSince := none } } else s2)

/-- CORE_RESTART: TCM has been cleared and the core starts at its reset vector (R320, R33). -/
def coreRestart (b : Bool) (s : State) : State :=
  let c := coreOf s b
  if powered s && c.clearing && decide (16 ≤ c.clearFrames) && !s.tally.halted then
    setCore b { c with inReset := false, clearing := false, clearFrames := 0, wdog := 0 } s
  else s

/-- What a boundary counts: the watchdogs and TCM clearing. -/
def coreBoundary (c : Core) : Core :=
  { c with
    wdog := if c.inReset then 0 else c.wdog + 1
    clearFrames := if c.clearing then c.clearFrames + 1 else 0 }

/-- The extension is loaded and may run. -/
def extReady (s : State) : Bool := s.hive.extLoaded && !s.hive.extStopped

/-- What a boundary counts for the Hive, the extension's activation included. Firmware that serves no extension clears the EXT
doorbells unanswered (R326, R328); the frame in which it does is the model's (DESIGN CHOICE, log entry 60). -/
def hiveBoundary (s : State) : State :=
  let db := if fwServes s && !extReady s then s.host.dbH2c &&& 0x0000FFFF else s.host.dbH2c
  { s with
    hive := { s.hive with
      a := coreBoundary s.hive.a
      b := coreBoundary s.hive.b
      extSince := s.hive.extSince.map (· + 1) }
    host := { s.host with dbH2c := db } }

/-- Both cores' FENCE at the quiesce and at a HALT (R239, R341): what is buffered is performed; a store to a
firmware-side register is left out. -/
def quiesceCore (b : Bool) (s : State) : State :=
  (coreOf s b).buf.foldl (fun s w => (performStore b w s).getD s) (setCore b { coreOf s b with buf := [] } s)

/-! Extension and mailbox commands of firmware (R95, R96, R327). -/

/-- EXTENSION_ACTIVATION (R327). -/
def extActivate (k : ActKind) (s : State) : State :=
  let asked := match k with
    | .mailbox => (match mboxMsg s with | some w => decide (0x80 ≤ fld w 24 8) | none => false)
    | .doorbell => fld s.host.dbH2c 16 16 != 0
    | .periodic => true
  if fwServes s && extReady s && coreRuns s true && asked then { s with hive := { s.hive with extSince := some 0 } } else s

/-- EXTENSION_SLICE_EXPIRY: the return bound is missed (R327, R328). -/
def extSlice (s : State) : State :=
  match s.hive.extSince with
  | some n => if 4096 ≤ n then extStop 0 (tally 0x13 3 0 s) else s
  | none => s

/-- Firmware answers the waiting message if p holds of it (R95, R96). -/
def answerMbox (p : Word → Bool) (f : Word → Nat × Nat) (s : State) : State :=
  match mboxMsg s with
  | some w =>
    if fwServes s && p w then
      let r := f w
      postC2h (pack [(r.2, 8, 0), (r.1, 8, 8), (fld w 16 8, 8, 16), (fld w 24 8, 8, 24)])
        { s with host := { s.host with taken := none, h2cFull := if s.host.taken.isSome then s.host.h2cFull else false } }
    else s
  | none => s

/-- CMD and ARG of a message. -/
def mCmd (w : Word) : Nat := fld w 24 8
def mArg (w : Word) : Nat := fld w 0 16

/-- FW_VERSION's STATUS and RESULT. -/
def fwVersionByte (s : State) (w : Word) : Nat × Nat :=
  if mArg w < 4 then (0, fld (s.hive.fwVersion.getD 0) (8 * mArg w) 8) else (2, 0)

/-- LOG_MARK: a MARK record and DOORBELL_C2H.LOG. -/
def logMark (s : State) : State :=
  match mboxMsg s with
  | some w =>
    if fwServes s && mCmd w == 3 then ringC2h 1 (logEv 12 0 (BitVec.ofNat 16 (mArg w)) 0 s) else s
  | none => s

/-- One instruction of core b: a single step that was due has been made, unless the instruction still waits. -/
def oneInsn (b : Bool) (f : State → Out) (s : State) : Out :=
  match f s with
  | .next t => .next (if coreRuns s b && (coreOf t b).stepping && !(coreOf t b).stalled then setCore b { coreOf t b with stepping := false } t else t)
  | o => o

/-- An instruction of core b that acts once its store buffer has drained (R315, R317). -/
def windowInsn (b : Bool) (f : State → State) (s : State) : Out :=
  oneInsn b (fun s => if coreRuns s b then drainedInsn b f s else .next s) s

/-! One definition per command. -/

def execCoreStore (b : Bool) (addr : Word) (size : Nat) (data : Word) (s : State) : Out :=
  oneInsn b (commitStore b addr size data) s
def execCoreLoad (b : Bool) (addr : Word) (size : Nat) (s : State) : Out := oneInsn b (doLoad b addr size) s
def execStorePerformed (b : Bool) (s : State) : Out := if powered s then orRefuse (performHead b s) else .next s
def execArrayFetch (b : Bool) (addr : Word) (isFetch : Bool) (s : State) : Out :=
  oneInsn b (fun s =>
    if coreRuns s b && decide (0x40000000 ≤ addr.toNat) && decide (addr.toNat < 0x40400000) then
      if accessBad s b addr.toNat 4 false then preciseFault b addr (setStalled b false s) else arrayRead b addr 4 isFetch (takeAsync b s)
    else .next s) s
def execCoreFence (b : Bool) (s : State) : Out := windowInsn b (fun x => x) s
def execSyncException (b : Bool) (_cause : ExcCause) (addr : Word) (s : State) : Out :=
  oneInsn b (fun s => if coreRuns s b then preciseFault b addr s else .next s) s
def execCoreInterrupt (b : Bool) (s : State) : Out :=
  if coreRuns s b then
    let s1 := takeAsync b s
    .next (setCore b { coreOf s1 b with interrupt := true } s1)
  else .next s
def execH2cTake (b : Bool) (s : State) : Out :=
  windowInsn b (fun x => takeH2c b (extReturn b x)) s
def execC2hPost (b : Bool) (data : Word) (s : State) : Out :=
  windowInsn b (fun x => postC2h data (extReturn b x)) s
def execDbH2cClear (b : Bool) (data : Word) (s : State) : Out :=
  windowInsn b (storeWindow b 0x08 4 data) s
def execDbC2hSet (b : Bool) (data : Word) (s : State) : Out :=
  windowInsn b (storeWindow b 0x0C 4 data) s
def execWdogKick (b : Bool) (data : Word) (s : State) : Out :=
  windowInsn b (fun x => kickWdog b data (extReturn b x)) s
def execWatchdogExpiry (b : Bool) (s : State) : Out := .next (watchdogReset b s)
def execCoreRestart (b : Bool) (s : State) : Out := .next (coreRestart b s)
def execExtensionActivation (k : ActKind) (s : State) : Out := .next (extActivate k s)
def execExtensionSliceExpiry (s : State) : Out := .next (extSlice s)
def execMboxPing (s : State) : Out := .next (answerMbox (fun w => mCmd w == 1) (fun _ => (0, 0xA5)) s)
def execMboxFwVersion (s : State) : Out := .next (answerMbox (fun w => mCmd w == 2) (fwVersionByte s) s)
def execMboxLogMark (s : State) : Out := .next (answerMbox (fun w => mCmd w == 3) (fun _ => (0, 0)) (logMark s))
def execMboxExtension (result : BitVec 8) (s : State) : Out :=
  .next (answerMbox (fun w => decide (0x80 ≤ mCmd w)) (fun _ => if extReady s then (0, result.toNat) else (4, 0))
    (if (match mboxMsg s with | some w => fwServes s && decide (0x80 ≤ mCmd w) | none => false) then extReturn true s else s))
def execMboxUnknown (s : State) : Out :=
  .next (answerMbox (fun w => !(mCmd w == 1 || mCmd w == 2 || mCmd w == 3) && decide (mCmd w < 0x80)) (fun _ => (1, 0)) s)

end Sys2Proof.Machine
end

