-- ==== Sys2Proof/Machine/Dram.lean ====
section
/-! DEFINITION. DRAM ownership (09): the isolating and the orderly switch, the handshake, speed, training and Trickle
passes. `DramB.bus` lists what the device drives on the switches and on the DRAM's lines in a frame. -/

namespace Sys2Proof.Machine

/-! The data address (R200). -/

/-- Rank size in bytes (Table: Rank size). -/
def rankSize (s : State) : Nat := 65536 * (131072 * 2 ^ (fld (geomW s) 2 2 % 2) * 2 ^ fld (geomW s) 4 1)

/-- Where a data address lies: byte, column, bank group, bank, row and rank. -/
structure DramAddr where
  byte : Nat
  col  : Nat
  bg   : Nat
  ba   : Nat
  row  : Nat
  rank : Nat
  deriving DecidableEq, Repr

/-- The map of R200. With GEOM.MAP = 1 the rank lies below the row, on as many bits as tell the ranks apart. -/
def dramAddr (s : State) (a : Nat) : DramAddr :=
  let above := a / 2 ^ 17
  let k := if fld (geomW s) 0 2 = 3 then 4 else 2
  let rr := if fld (geomW s) 5 1 = 1 then (above / k, above % k) else (above % (rankSize s / 2 ^ 17), a / rankSize s)
  ⟨a % 8, a / 2 ^ 3 % 2 ^ 10, a / 2 ^ 13 % 4, a / 2 ^ 15 % 4, rr.1, rr.2⟩

/-- The first data address of a cell: cells are 64 KiB in address order (R200). -/
def cellAddr (c : Nat) : Nat := 65536 * c

/-! Refresh (R210). -/

/-- Configured ranks. -/
def ranksN (s : State) : Nat := fld (geomW s) 0 2 + 1

/-- HOST_DEBT (R210). -/
def hostDebt (s : State) : Nat := fld (cw s 10 9 0) 0 4

/-- A thermistor in use is faulted at the publication. -/
def thAnyFault (s : State) : Bool := (thUsed s 0 && s.scout.pubF0) || (thUsed s 1 && s.scout.pubF1)

/-- The hotter unfaulted thermistor in use is at or above 85 °C. -/
def thHot (s : State) : Bool :=
  (thUsed s 0 && !s.scout.pubF0 && !dyLt (pubd s 16) 85000) || (thUsed s 1 && !s.scout.pubF1 && !dyLt (pubd s 17) 85000)

/-- tREFI in half ticks of 20 ns: 7.8 µs, or 3.9 µs. -/
def refInterval (s : State) : Int := if (cw s 10 12 0).getLsbD 2 || thHot s || thAnyFault s then 195 else 390

/-- n DDR commands are charged to the command bus: 64 command clocks a tick at 3200 MT/s and 48 at 2400 (R210, log entry 57). -/
def ddrSpend (n : Nat) (s : State) : State :=
  spend 0 (ceilDiv n (if speed3200 s && !s.dram.rate2400 then 64 else 48)) s

/-- The ranks are up and refreshed by the device: not while CKE is held low after an isolating switch (R209). -/
def refreshing (s : State) : Bool := s.dram.owned && s.dram.iso != 2

/-- The refresh of one rank over a frame: intervals that expired and were not commanded count as postponed, at most 4 of them;
what is more is issued at once. -/
def refreshRank (i : Int) (r : Nat) (s : State) : State :=
  let d := s.dram
  let acc := Sparse.get (fun _ => 0) d.refAcc r + 200
  let n := (acc / i).toNat
  { s with dram := { d with
      refAcc := Sparse.put (fun _ => 0) d.refAcc r (acc - i * n)
      debt := Sparse.put (fun _ => 0) d.debt r (min 4 (Sparse.get (fun _ => 0) d.debt r + n)) } }

/-- The end of a frame: the inherited refreshes have been paid in the takeover frame, or, after an isolating switch, in the frame
of its PRECHARGE ALL (R208 to R210); the intervals of the frame are counted. -/
def refreshEnd (s : State) : State :=
  if refreshing s then
    let inherited := s.dram.taken || s.dram.iso == 3
    let s1 := { s with dram := { s.dram with
      debt := if inherited then [] else s.dram.debt, zqFrames := min 32000 (s.dram.zqFrames + 1) } }
    (List.range (ranksN s)).foldl (fun s r => refreshRank (refInterval s) r s) s1
  else s

/-- REFRESH_DUE: a rank of an owned DRAM gets its REFRESH, a postponed one first; with nothing postponed, the interval must expire
in this frame. In a takeover's frame the inherited ones have gone before it, back to back. -/
def refreshDue (rank : Nat) (s : State) : State :=
  if refreshing s && decide (rank < ranksN s) then
    let d := s.dram
    let owed := Sparse.get (fun _ => 0) d.debt rank
    let acc := Sparse.get (fun _ => 0) d.refAcc rank
    if 0 < owed then
      ddrSpend 1 { s with dram := { d with
        debt := Sparse.put (fun _ => 0) d.debt rank (if d.taken || d.iso == 3 then 0 else owed - 1) } }
    else if refInterval s ≤ acc + 200 then
      ddrSpend 1 { s with dram := { d with refAcc := Sparse.put (fun _ => 0) d.refAcc rank (acc - refInterval s) } }
    else s
  else s

/-- ZQCS_DUE: 128 ms of ownership have passed and every rank gets its ZQCS (R210, log entry 57). -/
def zqcsDue (s : State) : State :=
  if refreshing s && decide (31999 ≤ s.dram.zqFrames) then
    ddrSpend (ranksN s) { s with dram := { s.dram with zqFrames := 0 } }
  else s

/-! Ownership. -/

/-- The device takes the DRAM: switches to its side, HOST_DEBT inherited on every rank (R202, R208 to R210). -/
def dramTake (s : State) : State :=
  { s with dram := { s.dram with
      owned := true
      taken := true
      dswDev := true
      dswOeHigh := false
      selfRef := false
      takeovers := satInc 0xFFFF s.dram.takeovers
      refAcc := []
      debt := if hostDebt s = 0 then [] else (List.range (ranksN s)).map fun r => (r, hostDebt s) } }

/-- The orderly switch back to the host, every rank in self-refresh with no refresh owed (R202, R207). -/
def dramGive (s : State) : State :=
  { s with dram := { s.dram with
      owned := false
      taken := false
      dswDev := false
      dswOeHigh := false
      selfRef := true
      ownReq := false
      rate2400 := false
      shift := false
      hand := 0
      iso := 0
      refAcc := []
      debt := [] } }

/-- A downshift is due for the present use of the DRAM (R213). -/
def shiftDue (s : State) (on : Bool) : Bool := speed3200 s && on && !s.dram.rate2400

/-- A grant is sampled and not taken because READY is 0 (R206). -/
def gntIgnored (s : State) : State :=
  tally 0x28 2 (s.fr.epoch.truncate 32) { s with dram := { s.dram with gntIgn := true } }

/-- The isolation has brought the DRAM to the device (R209, R213, R224, R225). -/
def isoDone (s : State) : Bool :=
  let i := s.dram.iso
  i == 4 || ((i == 3 || i == 6) && !shiftDue s (h2400 s))

/-- A boundary within H-ISOLATE (R203, R209, R213). With frame T+4 over and no sample seen the switches have opened at its tick 0,
whether FORCED_ISOLATION came or not, and DSW_SEL changes in frame T+5 (R13, R16). -/
def isoStep (s : State) : State :=
  let put := fun (s : State) (i : Nat) => { s with dram := { s.dram with iso := i, sinceT := s.dram.sinceT + 1, taken := false } }
  match s.dram.iso with
  | 0 => if 4 ≤ s.dram.sinceT then put (dramTake { s with dram := { s.dram with forced := true } }) 2 else put s 0
  | 1 => put (dramTake s) 2
  | 2 => put s 3
  | 5 => put s 6
  | 4 => let s1 := put s 4
         { s1 with dram := { s1.dram with rate2400 := true } }
  | _ => if shiftDue s (h2400 s) then put s 4 else s

/-- Slot mode: EARLY, and GUARD while a Trickle pass runs (R217). -/
def slotMode (s : State) : Bool := s.top.state = .early || (s.top.state = .guard && s.dram.active)

/-- The slot mask of the present state. -/
def slotMask (s : State) : Word := if s.top.state = .early then cw s 10 11 0 else cw s 10 10 0

/-- The mask requests the frame after the present one; none is requested once every cell of the set is resolved (R285). -/
def slotAsks (s : State) : Bool :=
  (slotMask s).getLsbD (fld (s.fr.epoch + 1) 0 4) && !(s.top.state = .early && s.ret.bulkDone)

/-- Exclusive requests: RETURN from WAIT_GNT, and training (R204, R215). -/
def exclusiveWait (s : State) : Bool := (s.top.state = .ret && s.top.phase = .waitGnt) || s.dram.training

/-- The tick-96 sample at the end of a frame of an exclusive request (R206, R215, R275). -/
def exclusiveStep (gnt : Bool) (s : State) : State :=
  let s1 := if s.dram.ownReq && !s.dram.owned && gnt then
      (if ready s || s.dram.training then dramTake s else gntIgnored s) else s
  let go := s1.dram.owned && !s1.dram.training && s1.top.state = .ret && ready s1 && shiftDue s1 (ret2400 s1) && !s.dram.shift
  { s1 with dram := { s1.dram with shift := go } }

/-- The tick-96 sample at the end of a frame in slot mode (R206). -/
def slotStep (gnt : Bool) (s : State) : State :=
  if s.dram.owned then (if s.dram.ownReq then s else dramGive s)
  else if !s.dram.ownReq then s
  else if !gnt then { s with dram := { s.dram with slotMiss := satInc 0xFFFF s.dram.slotMiss } }
  else if ready s then dramTake s else gntIgnored s

/-- What the boundary does to ownership, in the state of the frame that ends. -/
def dramBoundary (gnt : Bool) (s : State) : State :=
  let d := s.dram
  let s0 := refreshEnd s
  let s1 := { s0 with dram := { s0.dram with
    gnt := gnt
    reqWas := d.ownReq
    taken := false
    bus := []
    rate2400 := d.rate2400 || d.shift } }
  if s.top.state = .harvest && s.top.phase = .hIsolate then isoStep s1
  else if s.top.state = .harvest && (s.top.phase = .hDrain || s.top.phase = .hSeal) then s1
  else if d.hand = 1 then { s1 with dram := { s1.dram with rate2400 := false, hand := 2 } }
  else if d.hand = 2 then dramGive s1
  else if exclusiveWait s then exclusiveStep gnt s1
  else if slotMode s then slotStep gnt s1
  else if s.top.state = .ret then s1
  else if d.owned && !d.ownReq then dramGive s1
  else s1

/-- OWN_REQ of the new frame: tick 50 in slot mode, and in the frame before EARLY (R20, R204); it stays high through an exclusive
run up to tick 50 of the release frame (R204, R207), and a miss or an ignored grant leaves its level to the next decision
(R206). -/
def dramRequest (s : State) : State :=
  if s.dram.hand = 2 then { s with dram := { s.dram with ownReq := false } }
  else if slotMode s then { s with dram := { s.dram with ownReq := slotAsks s } }
  else if s.top.earlyPrep then { s with dram := { s.dram with
    ownReq := (cw s 10 11 0).getLsbD (fld (s.fr.epoch + 1) 0 4) && !s.ret.bulkDone } }
  else if exclusiveWait s then { s with dram := { s.dram with ownReq := true, reqWas := true } }
  else s

/-- The orderly switch to a side (R202). -/
def switchEvents (dev : Bool) : List (Option Nat × BusEv) := [(some 0, .oe true), (some 1, .sel dev), (some 2, .oe false)]

/-- A speed change: PLL, MRS and ZQCL (R213, R214). -/
def shiftEvents (s : State) (down : Bool) : List (Option Nat × BusEv) :=
  let m (i : Nat) : Word := if down then cw s 10 (if i = 0 then 13 else 14) 0 else cw s 10 i 0
  [(none, .selfRefEnter), (none, .clock false), (none, .pll (if down then 1200 else 1600)), (none, .clock true), (none, .selfRefExit),
   (none, .mrs 0 (m 0) true), (none, .mrs 2 (m 2) false), (none, .zqcl)]

/-- The release of the last owned frame, which is what makes it the last (R207). -/
def releaseEvents : List (Option Nat × BusEv) :=
  [(some 50, .ownReq false), (some 86, .lastData), (some 88, .prechargeAll), (some 89, .selfRefEnter), (none, .clock false)]

/-- What the device drives in the frame that begins (R202, R203, R207 to R209, R213, R214); gave: the frame before was the last
one the device owned. -/
def busEvents (gave : Bool) (s : State) : List (Option Nat × BusEv) :=
  let d := s.dram
  let inherited := (d.debt.map fun p => ((none : Option Nat), BusEv.refresh p.1 p.2))
  let take := if d.taken then switchEvents true ++
      [(some 3, .clock true), (some 3, .idleLines), (some 4, .selfRefExit), (some 18, .prechargeAll)] ++ inherited else []
  let iso := if s.top.state = .harvest && s.top.phase = .hIsolate then
      (if d.iso = 2 then [(some 0, .sel true), (some 1, .oe false), (some 2, .clock true), (some 2, .idleLines)]
       else if d.iso = 3 then [(some 0, .selfRefExit), (some 14, .prechargeAll)] ++ inherited
       else if d.iso = 4 then shiftEvents s true else []) else []
  let give := if gave then switchEvents false else []
  let shift := if d.shift then shiftEvents s true else if d.hand = 1 then shiftEvents s false else []
  let last := if d.owned && (d.hand = 2 || (slotMode s && !d.ownReq)) then releaseEvents else []
  give ++ take ++ iso ++ shift ++ last

/-- Ownership at the opening of a frame; was: the device owned the DRAM in the frame before. -/
def dramFrameStart (was : Bool) (s : State) : State :=
  let s1 := dramRequest s
  { s1 with dram := { s1.dram with bus := busEvents (was && !s1.dram.owned) s1 } }

/-- Each fall of READY sends one message (R212). -/
def readyCheck (s : State) : State :=
  let r := ready s
  let s1 := { s with dram := { s.dram with readyWas := r } }
  if s.dram.readyWas && !r then tally 0x28 1 (BitVec.ofNat 32 (mrErr s)) s1 else s1

/-- The takeover for the restore, with any downshift, is complete at the end of the frame (R215, R275). -/
def takeoverDone (s : State) : Bool :=
  s.dram.owned && !s.dram.training && ready s && s.dram.hand == 0 && (s.dram.shift || !shiftDue s (ret2400 s))

/-- The device begins to hand the DRAM back (R207, R214). -/
def handBack (s : State) : State :=
  if s.dram.owned && s.dram.hand == 0 then { s with dram := { s.dram with
    hand := if s.dram.rate2400 then 1 else 2, ownReq := s.dram.rate2400
    bus := s.dram.bus ++ (if s.dram.rate2400 then shiftEvents s false else releaseEvents) } } else s

/-! Isolation rows (R203, R16). -/

/-- OWN_GNT_ISOLATE: a high sample by the end of frame T+3. -/
def ownGntIsolate (s : State) : State :=
  if s.top.state = .harvest && s.top.phase = .hIsolate && s.dram.iso == 0 && decide (s.dram.sinceT ≤ 3) then
    { s with dram := { s.dram with gnt := true, dswOeHigh := true, iso := 1, bus := s.dram.bus ++ [(none, .oe true)] } }
  else s

/-- FORCED_ISOLATION: tick 0 of frame T+4. -/
def forcedIsolation (s : State) : State :=
  if s.top.state = .harvest && s.top.phase = .hIsolate && s.dram.iso == 0 && decide (4 ≤ s.dram.sinceT) then
    { s with dram := { s.dram with dswOeHigh := true, iso := 1, forced := true, bus := s.dram.bus ++ [(some 0, .oe true)] } }
  else s

/-- GNT_DROP (R204, 09 Edges). The drop that R205 asks for once OWN_REQ is low sends no message. DEDUCED. -/
def gntDrop (s : State) : State :=
  if s.dram.owned && s.dram.ownReq then tally 0x28 4 (s.fr.epoch.truncate 32) { s with dram := { s.dram with gnt := false } }
  else { s with dram := { s.dram with gnt := false } }

/-! Training (R215, R216). -/

/-- The DDRMR block is busy (R223). -/
def ddrBusy (s : State) : Bool := s.dram.owned || s.dram.active || s.dram.training

/-- A rejected or failed training (R215). -/
def trainFails (s : State) : State :=
  tally 0x28 3 (s.fr.epoch.truncate 32) { s with dram := { s.dram with trainFail := true } }

/-- A write of TRAIN = 1. -/
def trainStart (s : State) : State :=
  if ddrBusy s then reject 0x2C 10 s
  else if mrErr s == 0 && (s.top.state = .service || (s.top.state = .ret && s.top.phase = .waitGnt && !ready s)) then
    { s with dram := { s.dram with training := true, train2 := false, trainBad := false, ownReq := true, reqWas := true } }
  else trainFails s

/-- Both data rates are trained: MR0_2400 and MR2_2400 pass check 0x8 and GEOM.SPEED is 3200 (R215). -/
def trainsBoth (s : State) : Bool :=
  speed3200 s && cw s 10 13 0 != 0 && cw s 10 14 0 != 0 && mrLegal false (cw s 10 13 0) (cw s 10 14 0)

/-- Write training has its cell: TRAIN_CELL lies inside the configured cache (R199, log entry 57). -/
def trainCellOk (s : State) : Bool := decide (fld (cw s 10 8 0) 0 21 < cellsCfg s)

/-- The training ends: in SERVICE the DRAM goes back, after an upshift from 2400 MT/s; in WAIT_GNT the device keeps it at
GEOM.SPEED (R214, R215). -/
def trainEnds (s : State) : State :=
  let bad := s.dram.trainBad
  let s1 := { s with dram := { s.dram with training := false, train2 := false, trainBad := false } }
  let s2 := if s.top.state = .service then handBack s1 else { s1 with dram := { s1.dram with rate2400 := false } }
  if bad then trainFails s2 else s2

/-- A valid set of a rate goes to the array (R215, R290, R292): sectors 98–99 of both banks take it, and it counts from the end of
the first program that succeeds. -/
def storeSet (second : Bool) (s : State) : State :=
  let s1 := keepRecord 98 99 6 (b2n second) (Config.recordWord (b2n second) s.free) s
  { s1 with free := s1.free + 1 }

/-- TRAIN_DONE: the training of one data rate ends, that of GEOM.SPEED first (R215, log entry 57). -/
def trainDone (okHost ok2400 : Bool) (s : State) : State :=
  if s.dram.training && s.dram.owned then
    let ok := (if s.dram.train2 then ok2400 else okHost) && trainCellOk s
    let s1 := if ok then storeSet s.dram.train2 s else { s with dram := { s.dram with trainBad := true } }
    if trainsBoth s && !s.dram.train2 then { s1 with dram := { s1.dram with train2 := true, rate2400 := true } }
    else readyCheck (trainEnds s1)
  else s

/-- A set is stored (R215, R216): it records the writable index 7 fields in force when it was trained. -/
def setStored (second : Bool) (s : State) : State :=
  readyCheck { s with dram := { s.dram with
    setHost := if second then s.dram.setHost else some (geomKey s)
    set2400 := if second then some (geomKey s) else s.dram.set2400 } }

/-! Trickle (R218 to R222). -/

/-- The armed Comb's catalog entry: the newest entry with no OPEN and no END word. -/
def armedEntry (s : State) : Option CatEntry := s.nand.catalog.reverse.find? fun e => !e.opened && e.ended == 0

/-- The ID of the armed Comb, which an open Trickle image carries. -/
def armedId (s : State) : Nat := match armedEntry s with | some e => e.combId | none => 0

/-- The window. -/
def winFirst (s : State) : Nat := fld (cw s 10 16 0) 0 21
def winCount (s : State) : Nat := fld (cw s 10 17 0) 0 22

/-- A pending DIRTY entry names cell c (R219). -/
def pendNames (s : State) (c : Nat) : Bool :=
  s.ring.tenants.any fun p => p.2.pend.any fun q => decide (eFirst q.e ≤ c) && decide (c < eFirst q.e + eCount q.e)

/-- The copy of cell c of the window may start now (R219). -/
def mayTrickle (s : State) (c : Nat) : Bool :=
  decide (winFirst s ≤ c) && decide (c < winFirst s + winCount s) && cellState s c == 1 && !pendNames s c

/-- The next cell that the pass copies: the first one in ascending order that may be (R219). -/
def nextTrickle (s : State) : Option Nat :=
  (s.adm.map.filter fun p => decide (s.dram.nextCell ≤ p.1) && mayTrickle s p.1).foldl
    (fun a p => match a with | none => some p.1 | some b => some (min b p.1)) none

/-- A write of GO = 1 (R218, R259). -/
def trickleGo (s : State) : State :=
  let sum := s.dram.passes.foldl (fun a p => a + p.2) 0
  if s.top.state = .guard && ready s && !s.dram.active && fld (cw s 10 10 0) 0 16 != 0 &&
      decide (0 < winCount s) && decide (winFirst s + winCount s ≤ cellsCfg s) && s.nand.valid && s.nand.armed &&
      decide (sum + winCount s ≤ trkRes s) && decide (s.dram.passes.length < 32) then
    let s1 := (List.range 64).foldl (fun s t => modTenant t (fun x => { x with trickled := 0 }) s) s
    refresh { s1 with
      dram := { s1.dram with
        active := true
        imgOpen := true
        nextCell := winFirst s
        copying := []
        passes := s.dram.passes ++ [(winFirst s, winCount s)] }
      nand := { s1.nand with power := true } }
  else reject 0x2C 10 s

/-- The pass ends, with CUT or whole: SAVED events, and ACTIVE clears (R220). -/
def endPass (cut : Bool) (s : State) : State :=
  if s.dram.active then
    let ts := (List.range 64).filter fun t => decide (0 < (tenOf s t).trickled)
    let s1 := ts.foldl (fun s t =>
      postUnsol t 0x83 1 0 (BitVec.ofNat 32 (armedId s)) (BitVec.ofNat 32 (tenOf s t).trickled) s) s
    { s1 with
      dram := { s1.dram with active := false, cut := s1.dram.cut || cut, ownReq := false, copying := [] }
      harv := { s1.harv with lanes := [] }
      nand := { s1.nand with power := s1.nand.prep || s1.nand.bringUp } }
  else s

/-- TRICKLE_CELL_COPIED (R146, R219): every page of the cell has been programmed. A cell that is no longer DIRTY stays as it is. -/
def trickleCopied (c : Nat) (s : State) : State :=
  if s.dram.active && s.top.state = .guard && s.dram.copying.contains c &&
      !(s.nand.units.any fun u => u.pages.any fun p => p.cell == c) then
    let s0 := { s with dram := { s.dram with copying := removeNat c s.dram.copying } }
    if cellState s c = 1 then
      let s1 := mapWrites c 1 (writeCell c 2 (cellGen s c) s0)
      refresh (match ownerOf s c with
        | some t => modTenant t (fun x => { x with trickled := x.trickled + 1 }) (subDirty t 1 s1)
        | none => s1)
    else s0
  else s

/-- TRICKLE_PASS_END: no cell of the window is left to copy or in copy. -/
def tricklePassEnd (s : State) : State :=
  if s.dram.active && (nextTrickle s).isNone && s.dram.copying.isEmpty && (s.harv.lanes.all fun p => p.2.cells.isEmpty) then
    endPass false { s with dram := { s.dram with nextCell := winFirst s + winCount s } }
  else s

/-- The Trickle image closes at the end of a frame with nothing trickled and no pass (R222). -/
def imageClose (s : State) : State :=
  if s.dram.imgOpen && s.adm.trickledTotal == 0 && !s.dram.active then refresh { s with dram := { s.dram with imgOpen := false } } else s

/-! One definition per command. -/

def execOwnGntIsolate (_tick : Nat) (s : State) : Out := .next (ownGntIsolate s)
def execForcedIsolation (s : State) : Out := .next (forcedIsolation s)
def execRefreshDue (rank : Nat) (s : State) : Out := .next (refreshDue rank s)
def execZqcsDue (s : State) : Out := .next (zqcsDue s)
def execGntDrop (s : State) : Out := .next (gntDrop s)
def execTrainDone (okHost ok2400 : Bool) (s : State) : Out := .next (trainDone okHost ok2400 s)
def execTrickleCellCopied (c : Nat) (s : State) : Out := .next (trickleCopied c s)
def execTricklePassEnd (s : State) : Out := .next (tricklePassEnd s)

end Sys2Proof.Machine
end

