-- ==== Sys2Proof/Machine/Comb.lean ====
section
/-! DEFINITION. What a Comb's pages hold (11): the keys derived from the root key (R352, R354), the encrypted data units (R232,
R248), the page layout and its footer (R249, R250), the header (R255), the lanes' chains (R256) and the seal (R257, R258). The
DRAM's content, AES-XTS and the LDPC code are constants of Config. -/

namespace Sys2Proof.Machine

abbrev Bytes := List (BitVec 8)

/-- The k low bytes of a number, the least significant first. -/
def leBytes (n k : Nat) : Bytes := (List.range k).map fun i => BitVec.ofNat 8 (n / 256 ^ i)

/-- Bytes as a number, the least significant first. -/
def leNat (bs : Bytes) : Nat := bs.foldr (fun b n => b.toNat + 256 * n) 0

/-- A label of R352 as bytes. -/
def label (s : String) : Bytes := s.toList.map fun c => BitVec.ofNat 8 c.toNat

/-! Keys (R352, R354). -/

/-- RK. -/
def rootKey (s : State) : Bytes := Sha.hmac Config.pufKey (Config.otpSecret ++ leBytes s.sec.epochFuses 1)

/-- KDF(label) with an argument. -/
def kdf (s : State) (l : String) (arg : Bytes) : Bytes := Sha.hmac (rootKey s) (label l ++ arg)

/-- The key-wrapping key and the Comb seal key. -/
def wrapKey (s : State) : Bytes := kdf s "KEK" []
def sealKey (s : State) (id : Nat) : Bytes := kdf s "SEAL" (leBytes id 4)

/-- The derived tenant key of a slot. -/
def derivedKey (s : State) (k : Nat) : Bytes := kdf s "SLOT1" (leBytes k 1) ++ kdf s "SLOT2" (leBytes k 1)

/-- The key that a slot serves for new data; an empty or LOST slot serves its derived key. -/
def slotKey (s : State) (k : Nat) : Bytes :=
  match Sparse.get (fun _ => Slot.empty) s.sec.slots k with
  | .generated n => Config.generatedKey n
  | .imported hs => hs.flatMap fun h => leBytes h.toNat 2
  | _ => derivedKey s k

/-- Tenant t's key. -/
def tenantKey (s : State) (t : Nat) : Bytes := slotKey s (tKeySlot s t)

/-! Data units and pages (R232, R248, R249). -/

/-- The plaintext of a data unit: 512 words, each its 8 data bytes and then its check byte. -/
def unitPlain (ws : List (BitVec 72)) : Bytes := ws.flatMap fun w => leBytes w.toNat 9

/-- Data unit b of cell c as the DRAM holds it. -/
def unitOf (s : State) (c b : Nat) : Bytes :=
  unitPlain ((List.range 512).map fun i => Config.dramWord s.free (cellAddr c + 4096 * b + 8 * i))

/-- The data unit number, and its tweak: 128 bits, little-endian. -/
def unitNumber (c b : Nat) : Nat := 16 * c + b
def unitTweak (c b : Nat) : Bytes := leBytes (unitNumber c b) 16

/-- The ciphertext of a data unit under its tenant's key. -/
def cipherUnit (s : State) (c b : Nat) : Bytes :=
  Config.xtsEncrypt (tenantKey s ((ownerOf s c).getD 0)) (unitTweak c b) (unitOf s c b)

/-- The four codeword contents of page q of cell c: data units 4q to 4q + 3. -/
def pageUnits (s : State) (c q : Nat) : List Bytes := (List.range 4).map fun i => cipherUnit s c (4 * q + i)

/-- The user area: the main area and spare bytes 0–2,047 (R250). Codeword k's first 4,096 bytes lie at main-area columns 4,096k on,
its last 512 at spare bytes 512k on. -/
def userArea (us : List Bytes) : Bytes := us.flatMap (·.take 4096) ++ us.flatMap (·.drop 4096)

/-- What the lane's page holds of user data: a cell's quarter, or the filling of a FILLER page, which no rule states. -/
def userOf (s : State) (p : PageOut) : Bytes :=
  if p.kind = 4 then Config.fillerArea s.free else userArea (pageUnits s p.cell p.quarter)

/-- Bytes 0–23 of a footer (Table: Page footer). -/
def footerHead (p : PageOut) : Bytes :=
  leBytes 0x46424D43 4 ++ leBytes p.combId 4 ++ leBytes p.lane 1 ++ leBytes p.kind 1 ++ leBytes p.tenant 1 ++ leBytes p.quarter 1 ++
    leBytes p.cell 4 ++ leBytes p.lseq 4 ++ leBytes 0 4

/-- The 64 bytes of a footer. -/
def footerBytes (p : PageOut) : Bytes := footerHead p ++ p.chain ++ leBytes 0 8

/-- A page as it is programmed: the user area, the footer in codeword 3, the parity of each codeword from spare byte 2,112 on, and
0xFF up to the spare area's end. -/
def pageBytes (s : State) (us : List Bytes) (p : PageOut) : Bytes :=
  let foot := footerBytes p
  let par := us.zipIdx.flatMap fun u => Config.ldpcParity (gPar s) (if u.2 = 3 then u.1 ++ foot else u.1)
  let spare := fld (cw s 11 0 1) 0 16
  userArea us ++ foot ++ par ++ List.replicate (spare - (2112 + 4 * gPar s)) 0xFF

/-! The header (R255). -/

/-- The cause flags of TRIP_SEEN (R119): wet-trip, PG_FAIL, TAMPER. -/
def tripFlags (s : State) : Nat :=
  b2n (s.top.trig.wet || s.scout.wetQ) + 2 * b2n (s.top.trig.pg || s.scout.pgFail) + 4 * b2n s.top.trig.tamper

/-- The part's values in the frame under way, which a header takes of the trip frame. -/
def headerNow (s : State) : HeaderRec :=
  { combId := 0
    epoch := s.fr.epoch
    rtcSec := s.scout.rtcSec
    causes := tripFlags s
    geom := (List.range 4).map (cw s 11 0)
    ddr := cw s 10 7 0
    lanes := (lanesOn s).foldl (fun a l => a + 2 ^ l) 0
    dirty := s.adm.dirtyTotal
    tenants := (List.range 64).map fun t => (cw s 1 t 0, tBase s t, tLast s t) }

/-- The header's payload, one codeword: 4,608 bytes, those that no field takes 0. -/
def headerBytes (h : HeaderRec) : Bytes :=
  let fields := [0x48434D43, h.combId, h.epoch.toNat, h.rtcSec.toNat, h.causes] ++ h.geom.map (·.toNat) ++ [h.ddr.toNat, h.lanes, h.dirty] ++
    h.tenants.flatMap fun t => [t.1.toNat, t.2.1, t.2.2]
  (Config.headerLayout fields ++ List.replicate 4608 0).take 4608

/-- HD. Trickle pages are written before the trip frame gives the header its payload; what their chain starts from no rule states
(DESIGN CHOICE, log entry 59: a free value). -/
def headerDigest (s : State) : Bytes := match s.harv.header with | some h => Sha.sha256 (headerBytes h) | none => Config.noHeader

/-! The chains (R256). -/

/-- H_0 of a lane. -/
def chainStart (id lane : Nat) (hd : Bytes) : Bytes := Sha.sha256 (leBytes id 4 ++ leBytes lane 1 ++ hd)

/-- H_k from H_{k−1}, the page's user area and its footer's bytes 0–23. -/
def chainNext (h user head : Bytes) : Bytes := Sha.sha256 (h ++ user ++ head)

/-- Lane l's chain in the Comb being written. -/
def chainOf (s : State) (l : Nat) : Chain := Sparse.get (fun _ => {}) s.nand.chains l

/-- The next page of lane l's chain: its LSEQ and its link. -/
def linkPage (id l : Nat) (p : PageOut) (s : State) : PageOut × State :=
  let c := chainOf s l
  let h := if c.lseq = 0 then chainStart id l (headerDigest s) else c.tail
  let p1 := { p with combId := id, lane := l, lseq := c.lseq + 1 }
  let tail := chainNext h (userOf s p1) (footerHead p1)
  ({ p1 with chain := tail },
    { s with nand := { s.nand with chains := Sparse.put (fun _ => {}) s.nand.chains l ⟨c.lseq + 1, tail⟩ } })

/-! The loss list (R235, R258). -/

/-- A lost cell extends the last run or opens one; runs in order, the last one first. -/
def addRun (s : State) (rs : List CellRun) (c : Nat) : List CellRun :=
  let t := (ownerOf s c).getD 0
  match rs with
  | r :: rest => if r.tenant = t ∧ r.first + r.count = c then { r with count := r.count + 1 } :: rest else ⟨c, 1, t, false⟩ :: rs
  | [] => [⟨c, 1, t, false⟩]

/-- Cells as runs of contiguous cells of one tenant, in their order. -/
def runsOf (s : State) (cs : List Nat) : List CellRun := (cs.foldl (addRun s) []).reverse

/-- At most 13,760 exact runs; beyond them one COARSE run per tenant, from its lowest unrecorded cell to PART_LAST. -/
def lossRuns (s : State) (rs : List CellRun) : List CellRun :=
  let rest := rs.drop 13760
  let coarse := (List.range 64).filterMap fun t =>
    match rest.filter (fun r => r.tenant == t) with
    | [] => none
    | r :: more =>
      let lo := more.foldl (fun a x => min a x.first) r.first
      some ⟨lo, tLast s t + 1 - lo, t, true⟩
  rs.take 13760 ++ coarse

/-- Cells join the loss list. -/
def addLost (cs : List Nat) (s : State) : State :=
  { s with harv := { s.harv with
      lossList := lossRuns s (s.harv.lossList ++ runsOf s cs)
      lost := s.harv.lost + cs.length
      loss := s.harv.loss || !cs.isEmpty } }

/-! The seal (R257 to R259). -/

/-- A loss-list run as its 8 bytes. -/
def runWord (r : CellRun) : DWord :=
  BitVec.ofNat 64 (r.first % 2 ^ 21 + r.count % 2 ^ 22 * 2 ^ 21 + r.tenant % 64 * 2 ^ 43 + b2n r.coarse * 2 ^ 49)

/-- Cells of the armed Comb's pass windows. -/
def windowCells (s : State) : Nat := s.dram.passes.foldl (fun a p => a + p.2) 0

/-- N_S, the pages of one seal copy: the descriptor, the loss list in pages of 18,432 user bytes, at least one, and the Trickle
bitmap. DEDUCED from R257, R258 and the worked example of 11, where no run and no Trickle image make 2. -/
def sealPages (s : State) : Nat :=
  1 + max 1 (ceilDiv (8 * s.harv.lossList.length) 18432) + ceilDiv (ceilDiv s.harv.bitmap.length 8) 18432

/-- What the seal holds, in the order of R257. -/
def sealFields (s : State) (id : Nat) : List Nat :=
  [0x4C534D43, id, leNat (headerDigest s)] ++
    ((List.range 8).flatMap fun l => [(chainOf s l).lseq, leNat (chainOf s l).tail]) ++
    [s.harv.saved, s.dram.passes.length] ++ (s.dram.passes.flatMap fun p => [p.1, p.2]) ++
    [s.harv.lossList.length] ++ (s.harv.lossList.map fun r => (runWord r).toNat) ++
    (s.harv.bitmap.map b2n) ++ [s.nand.badFound.length] ++ s.nand.badFound.flatMap fun p => [p.1, p.2]

/-- The seal: every other byte, then their tag under the Comb seal key. -/
def sealOfComb (s : State) (id : Nat) : Bytes :=
  let body := Config.sealLayout (sealFields s id)
  body ++ Sha.hmac (sealKey s id) body

end Sys2Proof.Machine
end

