-- ==== Sys2Proof/Machine/Nand.lean ====
section
/-! DEFINITION. The Comb on NAND (11): geometry checks and GEOM_SEQ, the catalog and its array words, reservation and
preparation, arming, program units and their failures. -/

namespace Sys2Proof.Machine

/-! Geometry (R245, R246, R261). -/

/-- The transfer rate of TMODE in MT/s. -/
def tmodeRate (s : State) : Nat :=
  let m := fld (cw s 11 0 0) 5 2
  if m = 0 then 533 else if m = 1 then 667 else 800

/-- Stripes a target owes for one reservation (R260). -/
def stripesFor (s : State) (t : Nat) : Nat := stripes s + b2n (t == sealA s) + b2n (t == sealB s && sealA s != sealB s)

/-- The stripes that a Comb took of target t, in reservation order: from its first one on, without the bad ones and those of a
list (R261). -/
def stripeRun (s : State) (e : CatEntry) (t : Nat) (skip : List Nat) : List Nat :=
  let bad := (tgtOf s t).bad
  (((List.range (gBpp s)).map fun i => (e.firsts.getD t 0 + i) % max 1 (gBpp s)).filter fun x =>
    !bad.contains x && !skip.contains x).take (e.stripes + b2n (t == e.sA) + b2n (t == e.sB && e.sA != e.sB))

/-- The runs on target t of the Combs that no END word ends, older Combs first: a younger one skips what the older ones hold. -/
def heldRuns (s : State) (t : Nat) : List (Nat × List Nat) :=
  (s.nand.catalog.filter fun e => e.ended == 0).foldl (fun a e => a ++ [(e.combId, stripeRun s e t (a.flatMap (·.2)))]) []

/-- The stripes of target t that Combs hold (R261). -/
def heldStripes (s : State) (t : Nat) : List Nat := (heldRuns s t).flatMap (·.2)

/-- The stripes of target t that a Comb of the catalog holds. -/
def combStripes (s : State) (id t : Nat) : List Nat := ((heldRuns s t).filter fun p => p.1 == id).flatMap (·.2)

/-- The good free stripes of target t from its pointer upward (R261). -/
def freeStripes (s : State) (t : Nat) : List Nat :=
  let g := tgtOf s t
  let held := heldStripes s t
  ((List.range (gBpp s)).map fun i => (g.next + i) % max 1 (gBpp s)).filter fun x => !g.bad.contains x && !held.contains x

/-- Bring-up of target t met R243 and R244: identified, its parameter page accepted, its interface confirmed. -/
def targetMeets (b : BringUp) (t : Nat) : Bool :=
  b.present.getLsbD t && b.onfiSig.getLsbD t && b.confirmed.getLsbD t &&
    match b.pages[t]? with
    | some p => p.crcOk && decide (40 ≤ p.onfi) && p.page == 16384 && p.luns == 1 && p.keeps
    | none => false

/-- Target t's parameter page agrees with NANDGEOM (R246 code 0x4). -/
def targetAgrees (s : State) (b : BringUp) (t : Nat) : Bool :=
  match b.pages[t]? with
  | some p => p.ppb == gPpb s && p.bpp == gBpp s && p.planes == planes s && p.page == 16384 && decide (fld (cw s 11 0 1) 0 16 ≤ p.spare)
  | none => false

/-- Some enabled target has fewer good free stripes than a reservation takes (R246 code 0x8). -/
def stripesShort (s : State) : Bool := (targetsOn s).any fun t => decide ((freeStripes s t).length < stripesFor s t)

/-- The lowest failing code of Table: Geometry errors; b: what bring-up found, none before it (R246). -/
def geomCode (s : State) (b : Option BringUp) : Nat :=
  let w := cw s 11 0 0
  let spare := fld (cw s 11 0 1) 0 16
  let trst := fld w 16 16
  let on := targetsOn s
  if fld w 1 2 = 3 ∨ fld w 3 2 = 0 ∨ fld w 3 2 = 3 ∨ fld w 5 2 = 3 ∨ fld w 7 2 = 3 ∨ spare = 0 ∨ gPpb s = 0 ∨ gBpp s = 0 ∨ trst = 0 then 1
  else if on.isEmpty then 2
  else if (match b with | some b => !on.all (targetMeets b) | none => false) then 3
  else if (match b with | some b => !on.all (targetAgrees s b) | none => false) then 4
  else if spare < 2112 + 4 * gPar s then 5
  else if dense s && (fld w 1 2 == 0 || gPpb s % gBits s != 0) then 6
  else if 20 * tmodeRate s < trst * tmodeRate s + (4672 + gPar s) then 7
  else if b.isSome && stripesShort s then 8
  else if 0x100000 < trkRes s then 9
  else 0

/-- The writable NANDGEOM words. -/
def geomWords (s : State) : List (Nat × Word) :=
  ([(0, 0), (0, 1), (0, 2), (0, 3)].map fun p => (p.2, cw s 11 p.1 p.2)) ++
    (List.range 8).map fun c => (4 + c, cw s 11 (2 + c) 0)

/-- A value of the bad-stripe map's sectors is kept (R261, R290): 1 GEOM_SEQ, 2 a writable NANDGEOM word, 3 a bad stripe. -/
def keepGeom (kind val : Nat) (s : State) : State := keepRecord 122 125 7 kind (Config.recordWord (8 + kind) val) s

/-- Phase IMAGE: GEOM_SEQ follows a change of the loaded geometry, the values are kept, and the static checks run (R246, R261). -/
def geomWake (s : State) : State :=
  let ws := geomWords s
  let n := s.nand
  let same := n.seq != 0 && n.kept == ws
  let next := if n.seq = 255 then 1 else n.seq + 1
  let s1 := { s with nand := { n with
      seq := if same then n.seq else next
      kept := ws
      valid := false
      geomErr := geomCode s none } }
  if same then s1 else ws.foldl (fun s p => keepGeom 2 p.2.toNat s) (keepGeom 1 next s1)

/-- A stripe is marked bad in the map (R261). -/
def markBad (t x : Nat) (s : State) : State :=
  if (tgtOf s t).bad.contains x then s
  else keepGeom 3 (t * 2 ^ 20 + x) (modTgt t (fun g => { g with bad := insertNat x g.bad }) s)

/-! The catalog (R265, R266). -/

/-- The bytes of a catalog word, by slot and word, in bank A and bank B. -/
def catOff (slot w : Nat) (bankB : Bool) : Nat := (if bankB then 0x3E0000 else 0x1E0000) + slot * 128 + w * 8

/-- Word w of an entry (Table: Catalog entry). -/
def catWord (e : CatEntry) (w : Nat) : DWord :=
  let n (v : Nat) : DWord := BitVec.ofNat 64 v
  if w = 0 then n (0x4341 + e.combId % 2 ^ 32 * 2 ^ 16 + b2n e.dense * 2 ^ 48 + e.seq % 256 * 2 ^ 52)
  else if w = 1 then e.armEpoch.zeroExtend 64
  else if w ≤ 11 then
    let all := (e.firsts.zipIdx).foldl (fun a p => a + p.1 % 2 ^ 20 * 2 ^ (20 * p.2)) 0
    n (all / 2 ^ (64 * (w - 2)) % 2 ^ 64)
  else if w = 12 then n (e.stripes % 2 ^ 12 + e.trkRes % 2 ^ 21 * 2 ^ 12 + e.sA % 32 * 2 ^ 33 + e.sB % 32 * 2 ^ 38)
  else if w = 13 then n (0x4F50 + e.openEpoch.toNat * 2 ^ 16)
  else if w = 14 then
    n (0x5345 + e.saved % 2 ^ 22 * 2 ^ 16 + e.lost % 2 ^ 22 * 2 ^ 38 + b2n e.cutoff * 2 ^ 60 + b2n e.wet * 2 ^ 61 +
      b2n e.trickle * 2 ^ 62)
  else n ((if e.ended = 1 then 0x5254 else if e.ended = 2 then 0x4443 else 0x564F) + e.endEpoch.toNat * 2 ^ 16)

/-- The magic of words 0, 13, 14 and 15 is right. -/
def catMagic (w : Nat) (d : DWord) : Bool :=
  let m := fld d 0 16
  if w = 0 then m == 0x4341 else if w = 13 then m == 0x4F50 else if w = 14 then m == 0x5345
  else if w = 15 then m == 0x5254 || m == 0x4443 || m == 0x564F else d != erasedWord

/-- A catalog word as read: the valid copy counts, bank A's first (R265). -/
def catRead (s : State) (slot w : Nat) : Option DWord :=
  let copy := fun (b : Bool) => match peekWord s (catOff slot w b / 8) with
    | some d => if catMagic w d then some d else none
    | none => none
  match copy false with
  | some d => some d
  | none => copy true

/-- The entry of a slot as the array holds it. -/
def catDecode (s : State) (slot : Nat) : Option CatEntry :=
  match catRead s slot 0 with
  | none => none
  | some a =>
    let num := fun (w : Nat) => match catRead s slot w with | some d => d.toNat | none => 0
    let field := (List.range 10).foldl (fun acc i => acc + num (2 + i) * 2 ^ (64 * i)) 0
    let c := num 12
    let o := catRead s slot 13
    let z := catRead s slot 14
    let q := catRead s slot 15
    let at' := fun (x : Option DWord) (lo n : Nat) => match x with | some d => fld d lo n | none => 0
    some {
      slot := slot
      combId := fld a 16 32
      dense := a.getLsbD 48
      seq := fld a 52 8
      armEpoch := BitVec.ofNat 48 (num 1)
      firsts := (List.range 32).map fun t => field / 2 ^ (20 * t) % 2 ^ 20
      stripes := c % 2 ^ 12
      trkRes := c / 2 ^ 12 % 2 ^ 21
      sA := c / 2 ^ 33 % 32
      sB := c / 2 ^ 38 % 32
      opened := o.isSome
      openEpoch := BitVec.ofNat 48 (at' o 16 48)
      sealed := z.isSome
      saved := at' z 16 22
      lost := at' z 38 22
      cutoff := at' z 60 1 == 1
      wet := at' z 61 1 == 1
      trickle := at' z 62 1 == 1
      ended := match q with
        | some d => if fld d 0 16 = 0x5254 then 1 else if fld d 0 16 = 0x4443 then 2 else 3
        | none => 0
      endEpoch := BitVec.ofNat 48 (at' q 16 48) }

/-- The catalog as the array holds it; an entry found in both sectors counts once (R266, R267). -/
def catScan (s : State) : List CatEntry :=
  ((List.range 256).filterMap (catDecode s)).foldl (fun a e => if a.any (fun x => x.combId == e.combId) then a else a ++ [e]) []

/-- The slot a new entry takes: after the highest used one of the active sector, else the other sector's first (R265, R267). -/
def nextSlot (s : State) : Nat :=
  match s.nand.catalog.getLast? with
  | none => 0
  | some e => if e.slot % 128 = 127 then (if e.slot < 128 then 128 else 0) else e.slot + 1

/-- A word of an entry is programmed in bank A (R265); the program's end acts on it. -/
def catProgram (e : CatEntry) (w : Nat) (s : State) : State :=
  submit { req := .engine, erase := false, off := catOff e.slot w false, data := catWord e w, tag := 3, arg := e.slot * 16 + w } s

/-- The entry of a slot in the list changes. -/
def modEntry (slot : Nat) (f : CatEntry → CatEntry) (s : State) : State :=
  { s with nand := { s.nand with catalog := s.nand.catalog.map fun e => if e.slot == slot then f e else e } }

/-- An END word is programmed (R265): 1 RETURNED, 2 DISCARDED, 3 VOID. -/
def endEntry (kind : Nat) (id : Nat) (s : State) : State :=
  match s.nand.catalog.find? (fun e => e.combId == id && e.ended == 0) with
  | some e => catProgram { e with ended := kind, endEpoch := s.fr.epoch } 15 s
  | none => s

/-- Pending Combs: OPEN or SEALED without END, or ARMED with the header found (R266). -/
def pendingCombs (s : State) (headers : List Nat) : List Nat :=
  (s.nand.catalog.filter fun e => e.ended == 0 && (e.opened || e.sealed || headers.contains e.combId)).map (·.combId)

/-! Reservation and preparation (R260 to R262). -/

/-- The stripes that a reservation takes, per target. -/
def reserve (s : State) : List (Nat × Nat) :=
  (targetsOn s).flatMap fun t => ((freeStripes s t).take (stripesFor s t)).map fun x => (t, x)

/-- A rotation pointer moves past a stripe (R261). -/
def passStripe (bpp x : Nat) (g : Target) : Target :=
  { g with next := (x + 1) % max 1 bpp, laps := if x < g.next ∨ x + 1 = bpp then satInc 0xFFF g.laps else g.laps }

/-- Stripes of target t for Trickle pages in dense mode (R252, R260); in pSLC mode they share the data stripes. -/
def trkStripes (s : State) (t : Nat) : Nat :=
  if dense s then
    ceilDiv (ceilDiv (4 * ceilDiv (trkRes s) (max 1 (lanesOn s).length)) (max 1 (tc s (t / 4)))) (max 1 (planes s * (gPpb s / max 1 (gBits s))))
  else 0

/-- The pages of a Comb go to a reservation's stripes: the seal stripe comes first and takes no data, Trickle stripes of dense mode
come last (R251, R252, R260; their place in the run is the model's, log entry 59). -/
def setFill (sA sB : Nat) (run : Nat → List Nat) (s : State) : State :=
  let own := fun (t : Nat) => if t = sA ∨ t = sB then (run t).drop 1 else run t
  let put := fun (f : Nat → List Nat) => (targetsOn s).foldl (fun m t => Sparse.put (fun _ => []) m t (f t)) []
  { s with nand := { s.nand with
      fill := put fun t => (own t).take ((own t).length - trkStripes s t)
      trkFill := put fun t => (own t).drop ((own t).length - trkStripes s t)
      pageAt := [], trkAt := [], chains := [], badFound := [] } }

/-- The factory marks make the bad-stripe map at the first preparation after a GEOM_SEQ change (R261). -/
def factoryScan (s : State) : State :=
  if s.nand.bbmSeq = s.nand.seq then s
  else
    let s1 := (List.range 32).foldl (fun s t => modTgt t (fun g => { g with bad := [] }) s) s
    let s2 := (s.nand.marks.filter fun p => tgtOn s p.1).foldl (fun s p => markBad p.1 p.2 s) s1
    { s2 with nand := { s2.nand with bbmScan := true, bbmSeq := s.nand.seq } }

/-- The geometry has too few stripes left: nothing is prepared, and the NAND powers off (R246). -/
def geomShort (s : State) : State :=
  { s with nand := { s.nand with
      valid := false, geomErr := 8, prep := false, prepLeft := [], prepEntry := none, prepRearm := false
      power := if s.top.state = .guard || s.top.state = .service then false else s.nand.power } }

/-- Preparation begins (R262). -/
def prepStart (s0 : State) : State :=
  let s := factoryScan s0
  if stripesShort s then geomShort s
  else
    let r := reserve s
    let first := fun (t : Nat) => match r.find? (fun p => p.1 == t) with | some p => p.2 | none => 0
    let id := s.nand.catalog.foldl (fun a e => max a e.combId) 0 + 1
    let e : CatEntry := {
      slot := nextSlot s
      combId := id
      dense := dense s
      seq := s.nand.seq
      firsts := (List.range 32).map first
      stripes := stripes s
      trkRes := trkRes s
      sA := sealA s
      sB := sealB s }
    let s1 := (targetsOn s).foldl (fun s t => match (r.filter fun p => p.1 == t).getLast? with
      | some p => modTgt t (passStripe (gBpp s) p.2) s | none => s) s
    { s1 with nand := { s1.nand with
        prep := true
        power := true
        prepEntry := some e
        prepLeft := r
        prepDone := [] } }

/-- Preparation begins where R262 and R351 let it. -/
def prepMaybe (s : State) : State :=
  if s.sec.life.inUse && s.nand.valid && s.nand.broughtUp && !s.nand.armed && !s.nand.prep && !s.nand.prepHeld &&
      s.top.state ∈ [DevState.ret, .early, .guard, .service] then prepStart s
  else s

/-- Every stripe of the reservation is erased: its catalog words are programmed, ARM last (R262, R265). -/
def prepArm (s : State) : State :=
  match s.nand.prepEntry with
  | some e0 =>
    let e := { e0 with armEpoch := s.fr.epoch }
    let s1 := { s with nand := { s.nand with prepEntry := some e } }
    catProgram e 0 ((List.range 12).foldl (fun s i => catProgram e (i + 1) s) s1)
  | none => s

/-- A Comb's pages can be written: its stripes and its chains stand ready (R262). -/
def armComb (e : CatEntry) (s : State) : State :=
  let s1 := setFill e.sA e.sB (combStripes s e.combId) s
  { s1 with
    nand := { s1.nand with
      armed := true
      prep := false
      prepEntry := none
      prepLeft := []
      prepDone := []
      prepRearm := false
      power := if s.top.state = .guard || s.top.state = .service then s.dram.active else s.nand.power }
    dram := { s1.dram with passes := [] } }

/-- The ARM word is in place: the Comb is armed (R262). -/
def armed (e : CatEntry) (s : State) : State :=
  armComb e { s with nand := { s.nand with catalog := s.nand.catalog ++ [e] } }

/-- The last stripe of a preparation is erased: ARM is programmed, or the entry that was found armed is armed again (R262). -/
def prepEnd (s : State) : State :=
  if s.nand.prepRearm then
    match s.nand.prepEntry with
    | some e => armComb e s
    | none => s
  else prepArm s

/-- NAND_ERASE_DONE (R261, R262). -/
def eraseDone (t stripe : Nat) (pass : Bool) (s : State) : State :=
  if s.nand.prep && s.nand.prepLeft.contains (t, stripe) then
    let left := s.nand.prepLeft.filter fun p => p != (t, stripe)
    let s1 := { s with nand := { s.nand with prepLeft := left, bbmScan := false } }
    if pass then
      let s2 := { s1 with nand := { s1.nand with prepDone := s1.nand.prepDone ++ [(t, stripe)] } }
      if left.isEmpty then prepEnd s2 else s2
    else
      let s3 := modChan (t / 4) (fun c => { c with erFail := satInc 0xFFFF c.erFail }) (markBad t stripe s1)
      let s4 := tally 0x2E 4 (BitVec.ofNat 32 (t + stripe % 2 ^ 24 * 256)) s3
      let used := s4.nand.prepLeft ++ s4.nand.prepDone
      match (freeStripes s4 t).find? (fun x => !used.contains (t, x)) with
      | some x => modTgt t (passStripe (gBpp s4) x) { s4 with nand := { s4.nand with prepLeft := s4.nand.prepLeft ++ [(t, x)] } }
      | none => geomShort s4
  else s

/-- Arming is lost (R145, R238, R263): VOID, TRICKLED cells DIRTY again, NO_ARM, and preparation starts. -/
def armLoss (s : State) : State :=
  if s.nand.armed then
    let s1 := endEntry 3 (armedId s) s
    let cells := (s1.adm.map.filter fun p => p.2 % 4 == 2).map (·.1)
    let s2 := cells.foldl (fun s c =>
      let s' := writeCell c 1 (genNow s) s
      match ownerOf s c with
      | some t => addDirty t 1 s'
      | none => { s' with adm := { s'.adm with dirtyTotal := s'.adm.dirtyTotal + 1 } }) s1
    let s3 := endPass true { s2 with nand := { s2.nand with armed := false }, dram := { s2.dram with passes := [] } }
    prepMaybe (refresh (tally 0x2C 4 0 { s3 with dram := { s3.dram with imgOpen := false } }))
  else s

/-! Bring-up (R244, R246, R262). -/

/-- Bring-up starts in the first frame of the state that follows WAKE. -/
def bringUpStart (s : State) : State :=
  { s with nand := { s.nand with bringUp := true, broughtUp := false, power := true } }

/-- An ARMED entry of the present geometry with no header is armed again, once the stripes of it that do not read erased are erased
again (R262). -/
def rearm (unerased : List (Nat × Nat)) (s : State) : State :=
  match s.nand.catalog.reverse.find? (fun e => !e.opened && e.ended == 0 && !s.ret.pending.contains e.combId) with
  | some e =>
    if e.seq = s.nand.seq ∧ s.nand.valid ∧ s.sec.life.inUse ∧ !s.nand.prepHeld then
      let left := unerased.filter fun p => tgtOn s p.1 && (combStripes s e.combId p.1).contains p.2
      if left.isEmpty then armComb e s
      else { s with nand := { s.nand with prep := true, power := true, prepRearm := true, prepEntry := some e, prepLeft := left.eraseDups, prepDone := [] } }
    else s
  | none => s

/-- NAND_BRING_UP_DONE. -/
def bringUpDone (b : BringUp) (s : State) : State :=
  if s.nand.bringUp then
    let s1 := (List.range 8).foldl (fun s c =>
      modChan c (fun x => { x with present := fld (b.present &&& BitVec.ofNat 32 (ceEn s c * 2 ^ (4 * c))) (4 * c) 4 }) s) s
    let s2 := (List.range 32).foldl (fun s t =>
      modTgt t (fun g => { g with id := if tgtOn s t && b.present.getLsbD t then b.ids.getD t 0 else 0 }) s) s1
    let code := geomCode s2 (some b)
    let s3 := { s2 with nand := { s2.nand with
      bringUp := false, broughtUp := true, valid := code == 0, geomErr := code, marks := b.marks } }
    let s4 := if code = 0 then rearm b.unerased s3 else tally 0x2E 1 (BitVec.ofNat 32 code) s3
    let s5 := prepMaybe s4
    let stays := s5.top.state = .harvest || s5.top.state = .ret || s5.top.state = .early
    { s5 with nand := { s5.nand with power := s5.nand.valid && (stays || s5.nand.prep || s5.dram.active) } }
  else s

/-! Program units (R251, R253, R254). -/

/-- Pages of one program unit of data; Trickle pages are programmed in pSLC (R251, R252). -/
def unitPages (s : State) (trk : Bool) : Nat := planes s * (if dense s && !trk then gBits s else 1)

/-- Page indexes of one unit, and of a stripe. -/
def unitRows (s : State) (trk : Bool) : Nat := if dense s && !trk then gBits s else 1
def stripeRows (s : State) (trk : Bool) : Nat := if dense s && !trk then gPpb s else gPpb s / max 1 (gBits s)

/-- Enabled targets of a lane that are not out. -/
def laneTargets (s : State) (l : Nat) : List Nat := (targetsOn s).filter fun t => t / 4 == l && !(tgtOf s t).out

/-- The stripes that target t's pages still go to, and the next page index in the first of them. -/
def fillOf (s : State) (trk : Bool) (t : Nat) : List Nat :=
  Sparse.get (fun _ => []) (if trk && dense s then s.nand.trkFill else s.nand.fill) t
def rowOf (s : State) (trk : Bool) (t : Nat) : Nat := Sparse.get (fun _ => 0) (if trk && dense s then s.nand.trkAt else s.nand.pageAt) t

/-- The stripes and the page index of target t change. -/
def putFill (trk : Bool) (t : Nat) (xs : List Nat) (row : Nat) (s : State) : State :=
  if trk && dense s then { s with nand := { s.nand with
    trkFill := Sparse.put (fun _ => []) s.nand.trkFill t xs, trkAt := Sparse.put (fun _ => 0) s.nand.trkAt t row } }
  else { s with nand := { s.nand with
    fill := Sparse.put (fun _ => []) s.nand.fill t xs, pageAt := Sparse.put (fun _ => 0) s.nand.pageAt t row } }

/-- The targets of lane l that still have a stripe. -/
def fillTargets (s : State) (trk : Bool) (l : Nat) : List Nat := (laneTargets s l).filter fun t => !(fillOf s trk t).isEmpty

/-- Harvest programs data: H-DRAIN and H-SEAL of a Harvest that is no Return stop. -/
def writing (s : State) : Bool :=
  s.top.state = .harvest && (s.top.phase = .hDrain || s.top.phase = .hSeal) && !s.harv.isStop

/-- The Comb that pages go to. -/
def combNow (s : State) : Nat := if s.top.state = .harvest then s.harv.combId else armedId s

/-- A waiting page as it is issued; none: a FILLER page. -/
def pageFor (s : State) (w : Option WaitPage) : PageOut :=
  match w with
  | some w => ⟨0, 0, w.kind, (ownerOf s w.cell).getD 0, w.quarter, w.cell, 0, []⟩
  | none => ⟨0, 0, 4, 0, 0, 0xFFFFFFFF, 0, []⟩

/-- Pages take their places in lane l's chain, in order (R256). -/
def linkAll (id l : Nat) : List PageOut → State → List PageOut × State
  | [], s => ([], s)
  | p :: ps, s =>
    let r := linkPage id l p s
    let q := linkAll id l ps r.2
    (r.1 :: q.1, q.2)

/-- A cell that was SAVED and is to be written again leaves SAVED (R253); it is DIRTY with the present GEN (R127). -/
def unsave (c : Nat) (s : State) : State :=
  if cellState s c = 3 then
    let s1 := writeCell c 1 (genNow s) s
    let s2 := { s1 with harv := { s1.harv with saved := s1.harv.saved - 1 } }
    match ownerOf s c with
    | some t => addDirty t 1 (modTenant t (fun x => { x with saved := x.saved - 1 }) s2)
    | none => { s2 with adm := { s2.adm with dirtyTotal := s2.adm.dirtyTotal + 1 } }
  else s

/-- A cell is SAVED: its last byte has entered a page register (R233). -/
def save (c : Nat) (s : State) : State :=
  let s1 := mapWrites c 1 (undirty c 3 s)
  let s2 := match ownerOf s c with | some t => modTenant t (fun y => { y with saved := y.saved + 1 }) s1 | none => s1
  { s2 with harv := { s2.harv with saved := s2.harv.saved + 1 } }

/-- Cell c has a page that waits for its unit. -/
def pageWaits (s : State) (c : Nat) : Bool := s.harv.lanes.any fun p => p.2.pages.any fun w => w.cell == c

/-- A lane's waiting pages form units on its targets in turn, from the stripes of the reservation in order; with all, FILLER pages
complete a last unit (R251, R253). n bounds the units. -/
def formUnits (l : Nat) (all : Bool) : Nat → State → State
  | 0, s => s
  | n + 1, s =>
    match (laneOf s l).pages with
    | [] => s
    | w :: ws =>
      let trk := w.kind == 6
      let k := unitPages s trk
      let take := ((w :: ws).takeWhile fun p => (p.kind == 6) == trk).take k
      let ts := fillTargets s trk l
      if ts.isEmpty || (!all && decide (take.length < k)) then s
      else
        let turn := (laneOf s l).turn
        let t := (ts.find? fun t => decide (turn ≤ t % 4)).getD (ts.headD 0)
        let row := rowOf s trk t + unitRows s trk
        let full := decide (stripeRows s trk ≤ row)
        let outs := linkAll (combNow s) l (take.map (fun w => pageFor s (some w)) ++ List.replicate (k - take.length) (pageFor s none)) s
        let s1 := modLane l (fun x => { x with pages := x.pages.drop take.length, turn := t % 4 + 1 }) outs.2
        let s2 := putFill trk t (if full then (fillOf s trk t).tail else fillOf s trk t) (if full then 0 else row) s1
        let s3 := { s2 with nand := { s2.nand with units := s2.nand.units ++ [⟨t, (fillOf s trk t).headD 0, row - 1, outs.1, s.fr.epoch⟩] } }
        let again := ((take.filter fun w => w.kind == 3).map (·.cell)).eraseDups
        formUnits l all n (again.foldl (fun s c => if cellState s c = 1 && !pageWaits s c then save c s else s) s3)

/-- Cells of a lane that is out go back, DIRTY, ahead of the plan; in H-SEAL they are lost (R235 to R237). -/
def giveBack (cells : List Nat) (s : State) : State :=
  let cs := cells.eraseDups
  let s1 := cs.foldl (fun s c => unsave c s) s
  let s2 := { s1 with nand := { s1.nand with rewrites := s1.nand.rewrites.filter fun c => !cs.contains c } }
  refresh (if s.top.phase = .hSeal then addLost cs s2 else { s2 with harv := { s2.harv with back := cs ++ s2.harv.back } })

/-- The cells of a unit's data pages. -/
def unitCells (u : ProgUnit) : List Nat := (u.pages.filter fun p => p.kind == 2 || p.kind == 3).map (·.cell)

/-- Lane l is declared out (R236, R254, R278). -/
def laneGone (l : Nat) (s : State) : State :=
  if (laneOf s l).out then s
  else
    let x := laneOf s l
    let s1 := modChan l (fun c => { c with out := true }) (modLane l (fun x => { x with out := true, cells := [], moved := 0, pages := [] }) s)
    if s.top.state = .ret || s.top.state = .early then
      tally 0x30 4 (BitVec.ofNat 32 l) s1
    else
      let gone := (s1.nand.units.filter fun u => u.target / 4 == l)
      let s2 := { s1 with nand := { s1.nand with units := s1.nand.units.filter fun u => u.target / 4 != l } }
      tally 0x2C 2 (BitVec.ofNat 32 l) (giveBack (gone.flatMap unitCells ++ x.pages.map (·.cell) ++ x.cells) s2)

/-- Units are formed while pages suffice; a lane whose reserved stripes are used up is declared out (R254). -/
def pump (l : Nat) (all : Bool) (s : State) : State :=
  let s1 := formUnits l all ((laneOf s l).pages.length + 1) s
  match (laneOf s1 l).pages with
  | [] => s1
  | w :: _ => if writing s1 && (fillTargets s1 (w.kind == 6) l).isEmpty then laneGone l s1 else s1

/-- Target t is declared out (R254). -/
def targetGone (t page : Nat) (s : State) : State :=
  if (tgtOf s t).out then s
  else
    let s1 := tally 0x2E 3 (BitVec.ofNat 32 (t + page % 2 ^ 24 * 256)) (modTgt t (fun g => { g with out := true }) s)
    if tc s1 (t / 4) = 0 then laneGone (t / 4) s1 else s1

/-- A stripe takes no further program and is recorded as bad for the seal (R254, R257). -/
def retireStripe (t x : Nat) (s : State) : State :=
  let s1 := if (fillOf s false t).head? = some x then putFill false t (fillOf s false t).tail 0 s else s
  { s1 with nand := { s1.nand with badFound := if s1.nand.badFound.contains (t, x) then s1.nand.badFound else s1.nand.badFound ++ [(t, x)] } }

/-- A unit is void: its quarter-cells are read again and written in the lane's next units with KIND REWRITE, on the next target in
turn (R253, R254). -/
def voidUnit (u : ProgUnit) (s : State) : State :=
  let l := u.target / 4
  let pages := (u.pages.filter fun p => p.kind == 2 || p.kind == 3).map fun p => (⟨p.cell, p.quarter, 3⟩ : WaitPage)
  let s1 := retireStripe u.target u.stripe { s with nand := { s.nand with
    units := s.nand.units.erase u
    rewrites := (unitCells u).foldl (fun a c => insertNat c a) s.nand.rewrites } }
  let s2 := (unitCells u).eraseDups.foldl (fun s c => unsave c s) s1
  refresh (pump l (s.top.phase = .hSeal) (modLane l (fun x => { x with pages := pages ++ x.pages }) s2))

/-- A rewritten cell with no page outstanding is no longer being rewritten. -/
def settleRewrites (s : State) : State :=
  let busy := fun (c : Nat) => s.nand.units.any (fun u => (unitCells u).contains c) || pageWaits s c
  { s with nand := { s.nand with rewrites := s.nand.rewrites.filter busy } }

/-- The page of the header (R255): its CHAIN field is the digest of its user area. -/
def headerPage (s : State) : PageOut :=
  let user := match s.harv.header with | some h => headerBytes h | none => []
  ⟨s.harv.combId, sealA s / 4, 1, 0, 0, 0xFFFFFFFF, 0, Sha.sha256 (user ++ List.replicate (18432 - user.length) 0xFF)⟩

/-- The header is programmed as page hdrPage of S_A's seal stripe (R255). -/
def headerProgram (sA stripe : Nat) (s : State) : State :=
  { s with nand := { s.nand with units := s.nand.units ++ [⟨sA, stripe, s.harv.hdrPage, [headerPage s], s.fr.epoch⟩] } }

/-- The header program failed: the header goes to the next page, and the S_A seal copy moves down with it (11 Edges). -/
def headerAgain (u : ProgUnit) (s : State) : State :=
  headerProgram u.target u.stripe { s with
    harv := { s.harv with hdrPage := s.harv.hdrPage + 1 }
    nand := { s.nand with units := s.nand.units.erase u } }

/-- A program failure is counted and reported (R254). -/
def progFailed (t page : Nat) (s : State) : State :=
  tally 0x2E 2 (BitVec.ofNat 32 (t + page % 2 ^ 24 * 256)) (modChan (t / 4) (fun c => { c with progFail := satInc 0xFFFF c.progFail }) s)

/-- A program of Harvest reports its status (R253 to R255). -/
def unitStatus (t page : Nat) (pass : Bool) (s : State) : State :=
  match s.nand.units.find? (fun u => u.target == t && decide (page ≤ u.page) && decide (u.page < page + unitRows s false)) with
  | some u =>
    let hdr := u.pages.any fun p => p.kind == 1
    if pass then
      if page = u.page then settleRewrites { s with nand := { s.nand with units := s.nand.units.erase u } } else s
    else
      let s3 := modTgt t (fun g => { g with fails := g.fails + 1 }) (progFailed t page s)
      let s4 := if hdr then headerAgain u s3 else voidUnit u s3
      if 3 ≤ (tgtOf s4 t).fails then targetGone t page s4 else s4
  | none => s

/-- A Trickle program fails (R263): it leaves the target fewer than 2 of its 2 spare stripes. -/
def trickleFails (t page : Nat) (s : State) : State := armLoss (progFailed t page s)

/-- A Trickle program reports its status (R219, R263). -/
def trickleStatus (t page : Nat) (pass : Bool) (s : State) : State :=
  match s.nand.units.find? (fun u => u.target == t && u.page == page) with
  | some u => if pass then { s with nand := { s.nand with units := s.nand.units.erase u } } else trickleFails t page s
  | none => s

/-- The programs of target t that have not reported 8 ms after they were issued (R254). -/
def lateUnits (t : Nat) (s : State) : List ProgUnit :=
  s.nand.units.filter fun u => u.target == t && decide (2000 ≤ (s.fr.epoch - u.since).toNat)

/-- TARGET_TIMEOUT (R254, R263, R278). -/
def targetTimeout (t : Nat) (s : State) : State :=
  if !tgtOn s t then s
  else if writing s then
    match lateUnits t s with
    | [] => s
    | u :: _ =>
      let us := s.nand.units.filter fun u => u.target == t
      let s1 := tally 0x2E 3 (BitVec.ofNat 32 (t + u.page % 2 ^ 24 * 256)) (modTgt t (fun g => { g with out := true }) s)
      let s2 := us.foldl (fun s u => voidUnit u s) s1
      if tc s2 (t / 4) = 0 then laneGone (t / 4) s2 else s2
  else if s.dram.active then
    if (lateUnits t s).isEmpty then s
    else armLoss (tally 0x2E 3 (BitVec.ofNat 32 t) (modTgt t (fun g => { g with out := true }) s))
  else if s.top.state = .ret || s.top.state = .early then targetGone t 0 s
  else s

/-! Compaction (R267). -/

/-- Compaction is due: the active sector's last slot is used. -/
def compactDue (s : State) : Bool :=
  (match s.nand.catalog.getLast? with | some e => e.slot % 128 == 127 | none => false) &&
  (s.top.state = .guard || s.top.state = .service) && s.arr.run.isNone && s.arr.queue.isEmpty && s.arr.susp.isNone

/-- The entries that compaction keeps: those without END and the most recent ended one. -/
def compactKeep (s : State) : List CatEntry :=
  let lastEnded := (s.nand.catalog.filter fun e => e.ended != 0).getLast?
  s.nand.catalog.filter fun e => e.ended == 0 || some e == lastEnded

/-- Compaction: the other sector is cleared if a broken copy is there, the entries are copied, the old sector erased. -/
def compact (s : State) : State :=
  let old := match s.nand.catalog.getLast? with | some e => e.slot / 128 | none => 0
  let dst := 1 - old
  let keep := (compactKeep s).zipIdx
  let sec := fun (x : Nat) (b : Bool) => (if b then 128 else 0) + 120 + x
  let erase := fun (x : Nat) (b : Bool) (s : State) =>
    submit { req := .engine, erase := true, off := sec x b * 0x4000, tag := 9, arg := sec x b } s
  let clean := fun (b : Bool) (s : State) => if (firstUsed s (sec dst b)).isSome then erase dst b s else s
  let words := keep.flatMap fun p =>
    let e := { p.1 with slot := dst * 128 + p.2 }
    ((List.range 16).filter fun w => (catRead s p.1.slot w).isSome).map fun w => (e, w)
  let s1 := words.foldl (fun s p =>
    submit { req := .engine, erase := false, off := catOff p.1.slot p.2 false, data := catWord p.1 p.2, tag := 9, arg := p.1.slot * 16 + p.2 } s)
    (clean true (clean false s))
  erase old true (erase old false s1)

/-- After the old sector's erase in bank B the copies are the catalog. -/
def compactEnd (s : State) : State := { s with nand := { s.nand with catalog := catScan s } }

/-! One definition per command. -/

def execNandEraseDone (target stripe : Nat) (pass : Bool) (s : State) : Out := .next (eraseDone target stripe pass s)
def execNandBringUpDone (b : BringUp) (s : State) : Out := .next (bringUpDone b s)

end Sys2Proof.Machine
end

