-- ==== Sys2Proof/Machine/Harvest.lean ====
section
/-! DEFINITION. Harvest (10): the plan and its order, the lanes, dispatch and its scan, the cover and the cut-off, the loss list,
the seal, what each phase begins with, and the lanes of a Trickle pass (R219). -/

namespace Sys2Proof.Machine

/-! The plan (R228, R229). -/

/-- Sort key of a plan cell: CRITICAL, RANK and age class, each larger first (R229). -/
def planKey (s : State) (c : Nat) : Nat :=
  let age := (genNow s + 4 - cellGen s c) % 4
  match ownerOf s c with
  | some t => b2n (tCrit s t) * 32 + tRank s t * 4 + age
  | none => age

/-- c goes before d in the order. -/
def planBefore (s : State) (c d : Nat) : Bool :=
  decide (planKey s d < planKey s c) || (planKey s c == planKey s d && decide (c < d))

/-- A cell enters an ordered plan. -/
def planInsert (s : State) (c : Nat) : List Nat → List Nat
  | [] => [c]
  | d :: ds => if planBefore s c d then c :: d :: ds else d :: planInsert s c ds

/-- A plan in order. -/
def planSort (s : State) (cs : List Nat) : List Nat := cs.foldl (fun a c => planInsert s c a) []

/-- The DIRTY cells. -/
def dirtyCells (s : State) : List Nat := (s.adm.map.filter fun p => p.2 % 4 == 1).map (·.1)

/-- Cells that wait in the plan, that a lane gave back, or that a lane holds. -/
def planned (s : State) (c : Nat) : Bool :=
  s.harv.plan.contains c || s.harv.back.contains c || s.harv.lanes.any fun p => p.2.cells.contains c

/-- The rebuild's scan reads the map: correctable errors are corrected, uncorrectable words rewritten, and their newly DIRTY cells
join the plan (R130, R236). -/
def planRepair (s : State) : State :=
  let s1 := readWords (fun _ => true) s
  let new := (s.adm.ueWords.flatMap fun w => rangeOf (16 * w) 16).filter fun c => cellState s1 c == 1 && !planned s1 c
  { s1 with harv := { s1.harv with plan := s1.harv.plan ++ new } }

/-- The cells that a CLEAN decided before the window names and whose map write runs (R228). -/
def cleaning (s : State) (c : Nat) : Bool :=
  (s.fr.queue ++ s.fr.done).any fun i => match i.work with
    | .cleanWrite _ _ f n => decide (f ≤ c) && decide (c < f + n)
    | _ => false

/-- Rebuilding the plan at a boundary: in H-DECIDE it holds every DIRTY cell that no decided CLEAN names, later it is only
reordered (R228, R229). -/
def planRebuild (s : State) : State :=
  let s1 := planRepair s
  let cs := if s1.top.phase = .hDecide then (dirtyCells s1).filter fun c => !cleaning s1 c else s1.harv.plan
  { s1 with harv := { s1.harv with plan := planSort s1 cs } }

/-- The map write of an item is made at once; its item still runs its ticks, with nothing left to write. -/
def settleItem (i : Item) (s : State) : State :=
  match i.work with
  | .admitWrite _ _ f n => writeDirty f n s
  | .cleanWrite _ _ f n => writeClean f n s
  | _ => s

/-- An item whose write has been made. -/
def settled (i : Item) : Item :=
  { i with work := match i.work with
    | .admitWrite t o f _ => .admitWrite t o f 0
    | .cleanWrite t o f _ => .cleanWrite t o f 0
    | w => w }

/-- At the isolation every decision made before the window stands in the map, so that the plan is the map's DIRTY cells (R141, R147,
R228, log entry 59). -/
def settleWrites (s : State) : State :=
  let s1 := (s.fr.done ++ s.fr.queue).foldl (fun s i => settleItem i s) s
  { s1 with fr := { s1.fr with queue := s1.fr.queue.map settled, done := s1.fr.done.map settled } }

/-- Cells in flight, with those being written again (R234, R254). -/
def inFlight (s : State) : Nat := s.harv.lanes.foldl (fun a p => a + p.2.cells.length) 0 + s.nand.rewrites.length

/-- The cover P (R234). -/
def cover (s : State) : Nat :=
  let need := eSeal s + eT s * inFlight s
  if need ≤ 1000 * s.adm.now then (1000 * s.adm.now - need) / eT s else 0

/-! Lanes (R230, R231, R264). -/

/-- What lane l may still take in a Harvest with no armed Comb. -/
def capLeft (s : State) (l : Nat) : Bool :=
  match s.harv.caps with
  | none => true
  | some m => decide (0 < Sparse.get (fun _ => 0) m l)

/-- CRYPT holds every enabled tenant's key (R233). -/
def keysLoaded (s : State) : Bool := decide (2 ≤ s.harv.keyFrames)

/-- Lane l takes a cell now. -/
def laneTakes (s : State) (l : Nat) : Bool :=
  laneActive s l && decide ((laneOf s l).cells.length < 2) && capLeft s l && keysLoaded s

/-- A lane takes cell c: the lanes take turns after the last one served. -/
def giveLane (l c : Nat) (s : State) : State :=
  let s1 := modLane l (fun x => { x with cells := x.cells ++ [c] }) s
  { s1 with harv := { s1.harv with
      lastLane := l, caps := s1.harv.caps.map fun m => Sparse.modify (fun _ => 0) m l (· - 1) } }

/-- The cells that the dispatch scan reads to find head c (R230): on from the last head in its partition, or what is left of that
partition and its own from its base on. -/
def scanNeed (s : State) (c : Nat) : Nat :=
  let h := s.harv
  let same := h.scanKey == planKey s c && decide (h.scanCell ≤ c) && ownerOf s (h.scanCell - 1) == ownerOf s c && decide (0 < h.scanCell)
  let rest := match ownerOf s (h.scanCell - 1) with | some t => tLast s t + 1 - h.scanCell | none => 0
  let base := match ownerOf s c with | some t => tBase s t | none => c
  if same then c + 1 - h.scanCell else (if h.scanCell = 0 then 0 else rest) + (c + 1 - base)

/-- The scan finds head c if resource 13 has the ticks left; else it goes on in the next frame from where it stands (R230). -/
def scanHead (c : Nat) (s : State) : Bool × State :=
  let cost := ceilDiv (scanNeed s c - s.harv.scanned) 32
  let left := ledLeft s 13
  if cost ≤ left then
    (true, spend 13 cost { s with harv := { s.harv with
      scanKey := planKey s c, scanCell := c + 1, scanned := s.harv.scanned + 32 * cost - scanNeed s c } })
  else (false, spend 13 left { s with harv := { s.harv with scanned := s.harv.scanned + 32 * left } })

/-- Dispatch in order: first the cells that a lane gave back, then the head of the plan once the scan has found it (R230, R236); n
bounds the cells. -/
def dispatch : Nat → State → State
  | 0, s => s
  | n + 1, s =>
    match ((List.range 8).map fun i => (s.harv.lastLane + 1 + i) % 8).find? (laneTakes s) with
    | none => s
    | some l =>
      match s.harv.back, s.harv.plan with
      | c :: cs, _ => dispatch n (giveLane l c { s with harv := { s.harv with back := cs } })
      | [], c :: cs =>
        match scanHead c s with
        | (true, s1) => dispatch n (giveLane l c { s1 with harv := { s1.harv with plan := cs } })
        | (false, s1) => s1
      | [], [] => s

/-- Bytes per tick of lane l: a Trickle page is pSLC whatever the mode (R247, R252). -/
def copyRate (s : State) (l : Nat) : Nat :=
  if s.top.state = .guard then min 26 (tc s l * planes s * 2) else laneRate s l

/-- The bytes a frame moves on every lane that holds cells. -/
def laneProgress (s : State) : State :=
  (List.range 8).foldl (fun s l =>
    if (laneOf s l).cells.isEmpty then s else modLane l (fun x => { x with moved := x.moved + 100 * copyRate s l }) s) s

/-- Bytes that the lanes still have to move. -/
def laneLeft (s : State) (l : Nat) : Nat := (laneOf s l).cells.length * 65536 - (laneOf s l).moved

/-- The ticks of a lane's splittable item in the frame (R231). -/
def laneItem (l : Nat) (s : State) : State :=
  if (laneOf s l).cells.isEmpty then s
  else
    let cost := ceilDiv (laneLeft s l) (max 1 (copyRate s l))
    let s1 := spend (l + 1) (min cost (ledLeft s (l + 1))) s
    if ledLeft s (l + 1) < cost then modAcct (l + 1) (fun a => { a with splits := satInc 0xFFFF a.splits }) s1 else s1

/-- The lanes' items, and the DRAM's bursts of 64 bytes that they read (R210, R231). -/
def laneCharge (s : State) : State :=
  let bytes := (List.range 8).foldl (fun a l => a + min (laneLeft s l) (100 * copyRate s l)) 0
  ddrSpend (ceilDiv bytes 64) ((List.range 8).foldl (fun s l => laneItem l s) s)

/-- The cut-off (R234, R235). -/
def cutoffStep (s : State) : State :=
  let u := s.harv.back.length + s.harv.plan.length
  let p := cover s
  let s1 := { s with harv := { s.harv with atRisk := u - p } }
  if p = 0 ∧ 0 < u ∧ !s.harv.cutoff then
    tally 0x2C 1 (BitVec.ofNat 32 u) { s1 with harv := { s1.harv with cutoff := true } }
  else s1

/-- Lane-out orders of tx laneout whose frame has come (R380). -/
def laneOrders (s : State) : State :=
  let now := s.top.inPhase
  let due := s.nand.laneOut.filter fun p => decide (p.2 ≤ now)
  let s1 := { s with nand := { s.nand with laneOut := s.nand.laneOut.filter fun p => decide (now < p.2) } }
  due.foldl (fun s p => laneGone p.1 s) s1

/-- Step 4 of R47 in every H-DRAIN frame. -/
def drainFrame (s : State) : State :=
  let s1 := cutoffStep (planRebuild (laneOrders s))
  laneCharge (if s1.harv.cutoff then s1 else dispatch 16 s1)

/-- The drain is over at the end of the frame (Table: Harvest phases, R236). -/
def drainDone (s : State) : Bool :=
  s.harv.lanes.all (fun p => p.2.cells.isEmpty) &&
    ((s.harv.plan.isEmpty && s.harv.back.isEmpty) || s.harv.cutoff || !(List.range 8).any fun l => laneActive s l && capLeft s l)

/-! Phase entries (R224, R242, R264). -/

/-- The flags and views of HARVEST_STAT clear in the first frame of H-DECIDE, or of H-ISOLATE without it (R242). -/
def clearViews (s : State) : State :=
  { s with harv := { s.harv with
      cutoff := false, loss := false, wet := false, trickle := false, catFail := false
      saved := 0, lost := 0, atRisk := 0, combId := 0 } }

/-- HARVEST begins: NAND and CRYPT powered, targets reset, any pass ends. -/
def harvestBegin (s : State) : State :=
  let s1 := endPass true s
  let s2 := (List.range 32).foldl (fun s t => modTgt t (fun g => { g with out := false, fails := 0 }) s) s1
  let s3 := (List.range 8).foldl (fun s c => modChan c (fun x => { x with out := false }) s) s2
  let s4 := (List.range 64).foldl (fun s t => modTenant t (fun x => { x with saved := 0 }) s) s3
  { s4 with
    harv := { s4.harv with
      plan := [], back := [], lanes := [], lastLane := 7, lossList := [], caps := none, scanKey := 1000, scanCell := 0, scanned := 0
      header := none, hdrPage := 0, bitmap := [], trkScan := false
      sealStep := 0, sealWait := [], sealFail := [], sealBytes := [], sealOk := false, isStop := false }
    nand := { s4.nand with power := true, units := [], rewrites := [], badFound := [] } }

/-- H-ISOLATE begins: the request, and the plan as the map stands now (R203, R228). -/
def isolateEntry (s0 : State) : State :=
  let s := settleWrites s0
  { s with
    harv := { s.harv with plan := dirtyCells s, phase := 2, wet := s.harv.wet || s.harv.wasWet }
    dram := { s.dram with
      ownReq := true, reqWas := true, iso := if s.dram.owned then 5 else 0
      sinceT := (s.fr.epoch - s.harv.tripEpoch).toNat, hand := 0 } }

/-- The cells that the erased data stripes of an unfinished reservation can take, per lane (R264). -/
def erasedCaps (s : State) : List (Nat × Nat) :=
  ((List.range 8).map fun l =>
    let n := ((targetsOn s).filter fun t => t / 4 == l).foldl (fun a t => a + (fillOf s false t).length) 0
    (l, n * planes s * stripeRows s false / 4)).filter fun p => decide (0 < p.2)

/-- The erased stripes of a reservation under preparation, in its order; a seal stripe that is not erased still stands first, as
that of a seal target (R251, R264). -/
def erasedRun (s : State) (e : CatEntry) (t : Nat) : List Nat :=
  let first := e.firsts.getD t 0
  let run := ((List.range (gBpp s)).map fun i => (first + i) % max 1 (gBpp s)).filter fun x => s.nand.prepDone.contains (t, x)
  if (t = e.sA ∨ t = e.sB) ∧ run.head? ≠ some first then first :: run else run

/-- The header is confirmed with its Comb's ID and programmed, and the OPEN word with it (R238, R255). -/
def openComb (e : CatEntry) (s : State) : State :=
  let h : HeaderRec := { s.harv.trip.getD (headerNow s) with combId := e.combId }
  let stripe := (combStripes s e.combId e.sA).headD (e.firsts.getD e.sA 0)
  catProgram e 13 (headerProgram e.sA stripe { s with
    harv := { s.harv with header := some h, combId := e.combId }
    nand := { s.nand with armed := false } })

/-- H-DRAIN begins: the header and the OPEN word (R238); with no armed Comb the reservation under preparation is used as far as it
is erased (R264). -/
def drainEntry (s : State) : State :=
  let s1 := { s with harv := { s.harv with phase := 3 } }
  if s.nand.armed then
    match armedEntry s with
    | some e => openComb { e with openEpoch := s.harv.tripEpoch } s1
    | none => s1
  else
    match s.nand.prepEntry with
    | some e =>
      let s2 := setFill e.sA e.sB (erasedRun s e) s1
      let s3 := { s2 with nand := { s2.nand with prep := false, prepEntry := none, prepLeft := [], prepDone := [], prepRearm := false } }
      if s.nand.prepDone.contains (e.sA, e.firsts.getD e.sA 0) then
        let e1 := { e with openEpoch := s.harv.tripEpoch, armEpoch := s.harv.tripEpoch }
        let s4 := catProgram e1 0 ((List.range 12).foldl (fun s i => catProgram e1 (i + 1) s) s3)
        openComb e1 { s4 with
          harv := { s4.harv with caps := some (erasedCaps s4) }
          nand := { s4.nand with catalog := s4.nand.catalog ++ [e1] } }
      else { s3 with harv := { s3.harv with caps := some [] } }
    | none => { s1 with harv := { s1.harv with caps := some [] } }

/-- The first frame of H-SEAL suspends a running erase; one that is suspended automatically or by the log engine stays suspended
with it (R237, R296). -/
def sealSuspend (s : State) : State :=
  match s.arr.susp with
  | some z => if z.cause = 1 ∨ z.cause = 3 then { s with arr := { s.arr with susp := some { z with cause := 2 } } } else s
  | none => suspendRun 2 s

/-- H-SEAL begins after a drain, or as a Return stop (R237, R286): a running erase is suspended. What the drain left of the plan is
lost, each lane completes its open group, and the scan of the pass windows is queued (R235, R253, R259). -/
def sealEntry (stop : Bool) (s : State) : State :=
  let s1 := sealSuspend s
  if stop then { s1 with harv := { s1.harv with phase := 4, isStop := true, sealStep := 3, plan := [], lanes := [] } }
  else
    let s2 := addLost (s1.harv.back ++ s1.harv.plan) { s1 with harv := { s1.harv with phase := 4, atRisk := 0 } }
    let s3 := (List.range 8).foldl (fun s l => pump l true s) { s2 with harv := { s2.harv with plan := [], back := [] } }
    if s3.dram.imgOpen then
      queueItem ⟨13, ceilDiv (windowCells s3) 32, 1, 0, .trickleScan⟩ { s3 with harv := { s3.harv with trkScan := true } }
    else s3

/-! H-SEAL (R237, R257). -/

/-- HARVEST_STAT[7:0]. -/
def harvLow (s : State) : Nat :=
  let h := s.harv
  h.phase + 8 * b2n h.cutoff + 16 * b2n h.loss + 32 * b2n h.wet + 64 * b2n h.trickle + 128 * b2n h.catFail

/-- The HARVEST record (R237, R347). -/
def harvestRecord (s : State) : State := logEv 5 (BitVec.ofNat 8 (harvLow s)) 0 (BitVec.ofNat 32 s.harv.combId) s

/-- The entry of the Comb being written. -/
def combEntry (s : State) : Option CatEntry :=
  s.nand.catalog.find? fun e => e.combId == s.harv.combId && e.ended == 0

/-- The SEAL word is programmed, or the seal ends without it. -/
def sealWord (s : State) : State :=
  match combEntry s with
  | some e =>
    if s.harv.sealOk then
      let h := s.harv
      catProgram { e with saved := h.saved, lost := h.lost, cutoff := h.cutoff, wet := h.wet, trickle := h.trickle } 14
        { s with harv := { h with sealStep := 2 } }
    else harvestRecord { s with harv := { s.harv with sealStep := 3 } }
  | none => harvestRecord { s with harv := { s.harv with sealStep := 3 } }

/-- Cells whose pages cannot be written within the phase are lost (R237, R253, R254). -/
def dropRewrites (s : State) : State :=
  let cs := (s.nand.units.flatMap unitCells ++ s.harv.lanes.flatMap (fun p => p.2.pages.map (·.cell)) ++ s.nand.rewrites).eraseDups
  let s1 := cs.foldl (fun s c => unsave c s) { s with nand := { s.nand with units := [], rewrites := [] } }
  refresh (addLost cs ((List.range 8).foldl (fun s l => modLane l (fun x => { x with pages := [] }) s) s1))

/-- The bits of the Trickle bitmap: one per window cell, in pass order (R259). -/
def trickleBits (s : State) : List Bool := s.dram.passes.flatMap fun p => (rangeOf p.1 p.2).map fun c => cellState s c == 2

/-- Every TRICKLED cell becomes SAVED and the image closes (R237, R259). -/
def takeTrickle (s : State) : State :=
  let cells := (s.adm.map.filter fun p => p.2 % 4 == 2).map (·.1)
  let s1 := cells.foldl (fun s c => writeCell c 3 (cellGen s c) s) s
  refresh { s1 with
    harv := { s1.harv with
      trickle := s1.harv.trickle || s.dram.imgOpen, bitmap := if s.dram.imgOpen then trickleBits s else [], trkScan := false }
    dram := { s1.dram with imgOpen := false } }

/-- The pages of the two seal copies, each with its target: after the header on S_A, from page 0 on S_B; with one seal target the
second copy follows the first (R257, log entry 59). -/
def sealCopyA (s : State) (e : CatEntry) : List (Nat × Nat) := (List.range (sealPages s)).map fun i => (e.sA, s.harv.hdrPage + 1 + i)
def sealCopyB (s : State) (e : CatEntry) : List (Nat × Nat) :=
  (List.range (sealPages s)).map fun i => (e.sB, if e.sB = e.sA then s.harv.hdrPage + 1 + sealPages s + i else i)

/-- The scan of the pass windows has ended, or there is none. -/
def scanOver (s : State) : State × Bool :=
  if s.harv.trkScan then (match takeDone .trickleScan s with | some s1 => (s1, true) | none => (s, false)) else (s, true)

/-- An H-SEAL frame: once every program has its status, or when the time for the seal has come, the seal is written. -/
def sealFrame (s : State) : State :=
  let waits := !(s.nand.units.isEmpty && s.harv.lanes.all fun p => p.2.pages.isEmpty)
  if s.harv.isStop then (if s.top.inPhase = 0 then harvestRecord s else s)
  else if s.harv.sealStep = 0 && (!waits || decide (sealLen s ≤ s.top.inPhase + 240)) then
    match scanOver s with
    | (s0, true) =>
      let s1 := takeTrickle (if waits then dropRewrites s0 else s0)
      match combEntry s1 with
      | some e => { s1 with harv := { s1.harv with
          sealStep := 1, sealFail := [], sealWait := sealCopyA s1 e ++ sealCopyB s1 e, sealBytes := sealOfComb s1 e.combId } }
      | none => sealWord s1
    | (_, false) => s
  else s

/-- A seal page's status: a copy stands if each of its pages has programmed (R257). -/
def sealStatus (t page : Nat) (pass : Bool) (s : State) : State :=
  match combEntry s with
  | some e =>
    let copy := if (sealCopyA s e).contains (t, page) then 0 else 1
    let s0 := if pass then s else progFailed t page s
    let s1 := { s0 with harv := { s0.harv with
      sealWait := s.harv.sealWait.erase (t, page), sealFail := if pass then s.harv.sealFail else insertNat copy s.harv.sealFail } }
    if s1.harv.sealWait.isEmpty then
      sealWord { s1 with harv := { s1.harv with sealOk := !(s1.harv.sealFail.contains 0 && s1.harv.sealFail.contains 1) } }
    else s1
  | none => s

/-- NAND_PROGRAM_STATUS. -/
def programStatus (t page : Nat) (pass : Bool) (s : State) : State :=
  if writing s then
    if s.harv.sealStep = 1 ∧ s.harv.sealWait.contains (t, page) then sealStatus t page pass s else unitStatus t page pass s
  else if s.top.state = .guard then trickleStatus t page pass s
  else s

/-- The CAT_FAIL of R237: both SEAL programs failed. -/
def sealFails (s : State) : State :=
  harvestRecord (tally 0x2C 3 (BitVec.ofNat 32 s.harv.combId)
    { s with harv := { s.harv with catFail := true, sealStep := 3 } })

/-- The SEAL word is in place. -/
def sealDone (s : State) : State := harvestRecord { s with harv := { s.harv with sealStep := 3 } }

/-! CELL_SAVED (R233). -/

/-- The head cell of a lane has its last byte in a page register. -/
def cellSaved (l : Nat) (s : State) : State :=
  let x := laneOf s l
  match x.cells with
  | c :: cs =>
    if writing s && decide (65536 ≤ x.moved) then
      let s1 := modLane l (fun x => { x with
        cells := cs, moved := if cs.isEmpty then 0 else x.moved - 65536
        pages := x.pages ++ (List.range 4).map fun q => ⟨c, q, 2⟩ }) (save c s)
      refresh (pump l false s1)
    else s
  | [] => s

/-! The lanes of a Trickle pass (R219). -/

/-- A Trickle pass runs in a frame that the device owns. -/
def trickling (s : State) : Bool := s.top.state = .guard && s.dram.active && s.dram.owned

/-- The window's next cells go to the lanes that hold fewer than 2, in turn; n bounds the cells. -/
def trickleFill : Nat → State → State
  | 0, s => s
  | n + 1, s =>
    match ((List.range 8).map fun i => (s.harv.lastLane + 1 + i) % 8).find? (laneTakes s), nextTrickle s with
    | some l, some c => trickleFill n (giveLane l c { s with dram := { s.dram with nextCell := c + 1 } })
    | _, _ => s

/-- Step 4 of R47 in a frame of a pass that the device owns. -/
def trickleOpen (s : State) : State := if trickling s then laneCharge (trickleFill 16 s) else s

/-- At the end of such a frame lane l's head cell may have all its bytes in page registers: its pages are programmed. The next cell
of the lane is copied only if it may be when its copy starts (R219). -/
def trickleEnd (l : Nat) (s : State) : State :=
  let x := laneOf s l
  match x.cells with
  | c :: cs =>
    if 65536 ≤ x.moved then
      let next := cs.filter (mayTrickle s)
      let s1 := modLane l (fun x => { x with
        cells := next, moved := if next.isEmpty then 0 else x.moved - 65536
        pages := x.pages ++ (List.range 4).map fun q => ⟨c, q, 6⟩ }) s
      pump l false { s1 with dram := { s1.dram with copying := insertNat c s1.dram.copying } }
    else s
  | [] => s

/-- The lanes' bytes of a frame: Harvest's drain, or a Trickle pass. -/
def lanesClose (s : State) : State :=
  if s.top.state = .harvest && s.top.phase = .hDrain then laneProgress s
  else if trickling s then (List.range 8).foldl (fun s l => trickleEnd l s) (laneProgress s)
  else s

/-- CRYPT is on from HARVEST, RETURN, EARLY or a pass, and holds its keys 2 frames later (R233). -/
def cryptBoundary (s : State) : State :=
  let on := s.top.state = .harvest || s.top.state = .ret || s.top.state = .early || s.dram.active
  { s with harv := { s.harv with keyFrames := if on then min 2 (s.harv.keyFrames + 1) else 0 } }

/-! One definition per command. -/

def execCellSaved (lane : Nat) (s : State) : Out := .next (cellSaved lane s)
def execNandProgramStatus (target page : Nat) (pass : Bool) (s : State) : Out := .next (programStatus target page pass s)

end Sys2Proof.Machine
end

