-- ==== Sys2Proof/Machine/Return.lean ====
section
/-! DEFINITION. Return and Early Return (12): VERIFY, the sweep and the locator, the order and acceptance of restored
pages, lost cells, DEMAND service and the END words. -/

namespace Sys2Proof.Machine

/-! LOSTCELL. -/

/-- RETURN_STAT.PHASE changes (R287). -/
def retPhase (n : Nat) (s : State) : State :=
  if s.ret.phase = n then s else setInt 4 { s with ret := { s.ret with phase := n } }

/-- A run that covers both. -/
def spanRun (a b : CellRun) : CellRun :=
  let lo := min a.first b.first
  { a with first := lo, count := max (a.first + a.count) (b.first + b.count) - lo }

/-- A run is recorded: entries 0–16,319 in order, then its tenant's overflow run (Table: LOSTCELL entry). -/
def recordLost (r : CellRun) (cause id : Nat) (s : State) : State :=
  let j := injectMany 6 4 s
  let x : Lost := { run := r, cause := cause, combId := id, stamp := s.fr.epoch, ueW := j.2.1, ceW := j.2.2 }
  let s := j.1
  if s.ret.lost.length < 16320 then { s with ret := { s.ret with lost := s.ret.lost ++ [x] } }
  else
    match s.ret.overflow.find? (fun p => p.1 == r.tenant) with
    | none => { s with ret := { s.ret with
        overflow := s.ret.overflow ++ [(r.tenant, { x with run := { r with coarse := true }, cause := 4 })] } }
    | some _ => { s with ret := { s.ret with
        overflow := s.ret.overflow.map fun p => if p.1 == r.tenant then (p.1, { p.2 with run := spanRun p.2.run r }) else p } }

/-- A return-set cell changes. -/
def modCell (c : Nat) (f : RCell → RCell) (s : State) : State :=
  { s with ret := { s.ret with cells := s.ret.cells.map fun p => if p.1 == c then (p.1, f p.2) else p } }

/-- The record of a return-set cell. -/
def cellRec (s : State) (c : Nat) : Option RCell := (s.ret.cells.find? fun p => p.1 == c).map (·.2)

/-- Unrestored cells that satisfy p. -/
def openCells (s : State) (p : RCell → Bool) : List Nat :=
  (s.ret.cells.filter fun x => x.2.status == 1 && p x.2).map (·.1)

/-! Phase ends (R279, R283, R285). -/

/-- RESTORED events: one for each tenant with a count. -/
def postRestored (flags : Nat) (n : Tenant → Nat) (s : State) : State :=
  ((List.range 64).filter fun t => decide (0 < n (tenOf s t))).foldl (fun s t =>
    postUnsol t 0x84 flags 0 (BitVec.ofNat 32 s.ret.topId) (BitVec.ofNat 32 (n (tenOf s t))) s) s

/-- The last frame of CRITICAL: every CRITICAL cell is resolved (R279). -/
def criticalCheck (s : State) : State :=
  if s.top.state = .ret && s.top.phase = .critical && !s.ret.critDone && (openCells s (·.crit)).isEmpty then
    let s1 := { s with ret := { s.ret with critDone := true } }
    postRestored 2 (·.restC) (if s.ret.locFull then s1 else setInt 5 s1)
  else s

/-- A cell is restored or lost. -/
def resolved (c : Nat) (s : State) : State :=
  let s1 := { s with ret := { s.ret with
    flight := removeNat c s.ret.flight
    demands := s.ret.demands.map fun d => { d with left := removeNat c d.left } } }
  let s2 := criticalCheck (finishServed s1)
  { s2 with ret := { s2.ret with bulkDone := (openCells s2 fun _ => true).isEmpty } }

/-- A return-set cell is lost with cause 1: LOSTCELL, its LOST event, and CLEAN in the map (R126, R277, R278). -/
def markLost (c : Nat) (s : State) : State :=
  match cellRec s c with
  | some x =>
    let s1 := recordLost ⟨c, 1, x.tenant, false⟩ 1 x.combId (modCell c (fun y => { y with status := 3 }) s)
    refresh (mapWrites c 1 (undirty c 0 (postUnsol x.tenant 0x85 0 0 (BitVec.ofNat 32 c) 1 s1)))
  | none => s

/-- A cell of a lane that is out, or a damaged one, is lost. -/
def loseCell (c : Nat) (s : State) : State := resolved c (markLost c s)

/-- Lanes declared out lose every unrestored cell (R278). -/
def settleLanes (s : State) : State :=
  if s.top.state = .ret || s.top.state = .early then
    (openCells s fun x => (laneOf s x.lane).out).foldl (fun s c => loseCell c s) s
  else s

/-! VERIFY (R269 to R272). -/

/-- RETURN begins at VERIFY: the return RAM is cleared (R270, R287). -/
def returnBegin (pending : List Nat) (s : State) : State :=
  let ids := pending.foldl (fun a c => insertNat c a) []
  let s1 := (List.range 8).foldl (fun s l => modChan l (fun c => { c with out := false }) (modLane l (fun _ => {}) s)) s
  let s2 := (List.range 64).foldl (fun s t => modTenant t (fun x => { x with restC := 0, restB := 0 }) s) s1
  retPhase 1 { s2 with
    nand := { s2.nand with power := true }
    ret := { phase := s2.ret.phase, tailErr := s2.ret.tailErr, pending := ids, topId := ids.foldl max 0,
             stacked := decide (1 < ids.length) } }

/-- The Comb that VERIFY checks now. -/
def verifyComb (s : State) : Option Nat := s.ret.pending.find? fun c => !s.ret.verified.contains c

/-- The catalog entry of a Comb is SEALED. -/
def combSealed (s : State) (id : Nat) : Bool := s.nand.catalog.any fun e => e.combId == id && e.sealed

/-- A loss-list run is entered: exact DIRTY cells become CLEAN (R272). -/
def enterRun (id : Nat) (r : CellRun) (s : State) : State :=
  let s1 := recordLost r 0 id s
  if r.coarse then s1 else (cellsIn s1 r.first r.count 1).foldl (fun s c => undirty c 0 s) s1

/-- VERIFY_COMB_DONE: Table: VERIFY outcomes. -/
def verifyDone (v : VerifyIn) (s : State) : State :=
  match verifyComb s with
  | none => s
  | some id =>
    if s.top.state = .ret && s.top.phase = .verify && decide (1250 * (s.ret.verified.length + 1) ≤ s.top.inPhase + 1) then
      let s0 := { s with ret := { s.ret with verified := s.ret.verified ++ [id] } }
      let fail := fun (s : State) => { s with ret := { s.ret with unsealed := s.ret.unsealed ++ [id] } }
      let s1 := match v.hdr with
        | none => (enabledTenants s0).foldl (fun s t =>
            recordLost ⟨tBase s t, tLast s t + 1 - tBase s t, t, true⟩ 3 id s) (fail s0)
        | some h =>
          let s2 := { s0 with ret := { s0.ret with hdrs := s0.ret.hdrs ++ [(id, h)] } }
          match v.sealCopy with
          | some c =>
            if combSealed s id then
              refresh (c.runs.foldl (fun s r => enterRun id r s)
                { s2 with ret := { s2.ret with sealsOf := s2.ret.sealsOf ++ [(id, c)] } })
            else h.tenants.foldl (fun s (t : HdrTenant) => recordLost ⟨t.base, t.last + 1 - t.base, t.tenant, true⟩ 2 id s) (fail s2)
          | none => h.tenants.foldl (fun s (t : HdrTenant) => recordLost ⟨t.base, t.last + 1 - t.base, t.tenant, true⟩ 2 id s) (fail s2)
      { s1 with ret := { s1.ret with sealed := (verifyComb s1).isNone && s1.ret.unsealed.isEmpty } }
    else s

/-! The sweep (R273, R274). -/

/-- The header and the seal of a Comb. -/
def hdrOf (s : State) (id : Nat) : Option CombHdr := (s.ret.hdrs.find? fun p => p.1 == id).map (·.2)
def sealOf (s : State) (id : Nat) : Option SealInfo := (s.ret.sealsOf.find? fun p => p.1 == id).map (·.2)

/-- Planes, mode and bits that a Comb's header records. -/
def hPlanes (h : CombHdr) : Nat := 2 ^ fld h.geom 1 2
def hDense (h : CombHdr) : Bool := h.geom.getLsbD 0

/-- Pages of a program unit of a Comb. -/
def hUnit (h : CombHdr) : Nat := hPlanes h * (if hDense h then fld h.geom 3 2 + 1 else 1)

/-- Lanes that read chains. -/
def retLanes (s : State) : List Nat := (List.range 8).filter fun l => decide (0 < ceEn s l) && !(laneOf s l).out

/-- T_c of a lane that reads. -/
def retTc (s : State) (l : Nat) : Nat := max 1 (tc s l)

/-- The last page index of a dense unit has a footer that does not decode: the group is void (R253, R273). base: the pages swept
before it. -/
def groupVoid (h : CombHdr) (base : Nat) (fs : List Footer) : Bool :=
  hDense h && (List.range (hPlanes h)).any fun i => !fs.any fun f => f.lseq == base + hUnit h - i

/-- r_L of a lane for a Comb's geometry (R247, R276). -/
def retRate (s : State) (l id : Nat) : Nat :=
  match hdrOf s id with
  | some h => min 26 (if hDense h then retTc s l * hPlanes h * 5 / 8 else retTc s l * hPlanes h * 2)
  | none => 1

/-- The chain of a Comb on a lane is wholly swept. -/
def chainSwept (s : State) (l id : Nat) : Bool :=
  s.ret.swept.contains (id * 8 + l) ||
    (match hdrOf s id, sealOf s id with
     | none, _ => true
     | some _, some c => decide (c.lastLseq.getD l 0 ≤ Sparse.get (fun _ => 0) s.ret.pagesAt (id * 8 + l))
     | some _, none => false)

/-- The Comb that a lane sweeps now, the top Comb first. -/
def sweepComb (s : State) (l : Nat) : Option Nat := s.ret.pending.reverse.find? fun id => !chainSwept s l id

/-- Every lane's sweep has ended. -/
def sweepEnded (s : State) : Bool := (retLanes s).all fun l => (sweepComb s l).isNone

/-- The tenant of a Comb's snapshot that a cell belongs to. -/
def hdrTenant (h : CombHdr) (c : Nat) : Option HdrTenant := h.tenants.find? fun (t : HdrTenant) => decide (t.base ≤ c) && decide (c ≤ t.last)

/-- The loss list of a Comb names cell c; with exact, by an exact run. -/
def lossNames (s : State) (id c : Nat) (exact : Bool) : Bool :=
  match sealOf s id with
  | some i => i.runs.any fun r => !(exact && r.coarse) && decide (r.first ≤ c) && decide (c < r.first + r.count)
  | none => false

/-- The copy that a Comb may hold of cell c governs: no higher Comb holds it or names it lost, and the Comb itself does
not name it in an exact run (R269). -/
def governs (s : State) (id c : Nat) : Bool :=
  !lossNames s id c true &&
  (match cellRec s c with | some x => decide (x.combId ≤ id) | none => true) &&
  !s.ret.pending.any fun k => decide (id < k) && lossNames s k c false

/-- A run record takes one cell more. -/
def growRun (r : LocRun) (c lseq : Nat) : Option LocRun :=
  let d := c - r.first
  if r.lseq + 4 * r.count ≠ lseq ∨ c ≤ r.first then none
  else if r.count = 1 then (if d ≤ 255 then some { r with count := 2, stride := d } else none)
  else if d = r.stride * r.count then some { r with count := r.count + 1 } else none

/-- The locator takes a page: a quarter record for REWRITE, a run's first page otherwise (R274). The flag says whether it is
recorded. -/
def locate (key : Nat) (f : Footer) (s : State) : Bool × State :=
  if !f.rewrite && f.quarter != 0 then (true, s)
  else
    let grown := if f.rewrite then none else match s.ret.runs.find? (fun p => p.1 == key) with
      | some p => growRun p.2 f.cell f.lseq
      | none => none
    let putRun := fun (r : LocRun) (s : State) =>
      { s with ret := { s.ret with runs := (s.ret.runs.filter fun p => p.1 != key) ++ [(key, r)] } }
    match grown with
    | some r => (true, putRun r s)
    | none =>
      if 16384 ≤ s.ret.locUsed then
        if s.ret.locFull then (false, s)
        else (false, tally 0x30 1 (BitVec.ofNat 32 f.cell) { s with ret := { s.ret with locFull := true } })
      else
        let s0 := (injectMany 6 4 s).1
        let s1 := { s0 with ret := { s0.ret with locUsed := s.ret.locUsed + 1 } }
        (true, if f.rewrite then s1 else putRun ⟨f.lseq, f.cell, 1, 0⟩ s1)

/-- A Trickle page counts when the seal's bitmap names its cell (R259, R277). -/
def trickleCounts (s : State) (id : Nat) (f : Footer) : Bool :=
  !f.trickle || (match sealOf s id with | some c => c.trickle.contains f.cell | none => false)

/-- A cell's pages with one more, on a lane; the lane whose chain holds all four quarters has the cell (R276, R277). -/
def addPage (lane lseq quarter : Nat) (x : RCell) : RCell :=
  let all := ⟨x.lane, x.lseq, x.occ⟩ :: x.rest
  let grown := if all.any (fun k => k.lane == lane) then
      all.map fun k => if k.lane == lane then { k with occ := k.occ ++ [quarter] } else k
    else all ++ [⟨lane, lseq, [quarter]⟩]
  let whole := fun (k : LaneCopy) => [0, 1, 2, 3].all fun q => k.occ.contains q
  match (grown.find? whole).or grown.head? with
  | some k => { x with lane := k.lane, lseq := k.lseq, occ := k.occ, rest := grown.filter fun j => j.lane != k.lane }
  | none => x

/-- One footer of a Comb's chain is recorded. -/
def recordFooter (id lane : Nat) (h : CombHdr) (f : Footer) (s : State) : State :=
  match hdrTenant h f.cell with
  | some t =>
    if f.combId = id && trickleCounts s id f && governs s id f.cell then
      let key := id * 8 + lane
      let r := locate key f s
      let s1 := r.2
      let ends := if t.critical then Sparse.modify (fun _ => 0) s1.ret.critEnd key (max f.lseq) else s1.ret.critEnd
      let first : RCell :=
        { combId := id, lane := lane, tenant := t.tenant, crit := t.critical, lseq := f.lseq, located := r.1, occ := [f.quarter] }
      let x : RCell := match cellRec s1 f.cell with
        | some x => if x.combId = id then { addPage lane f.lseq f.quarter x with located := x.located && r.1 } else first
        | none => first
      { s1 with ret := { s1.ret with
          critEnd := ends
          cells := (s1.ret.cells.filter fun p => decide (p.1 < f.cell)) ++ [(f.cell, x)] ++
            s1.ret.cells.filter fun p => decide (f.cell < p.1) } }
    else s
  | none => s

/-- A slot's record is LOST (R354). -/
def slotLost (s : State) (k : Nat) : Bool := Sparse.get (fun _ => Slot.empty) s.sec.slots k == .lost

/-- Cells whose snapshot tenant names a LOST slot (R354). -/
def lostKeyCells (s : State) : List Nat :=
  (s.ret.cells.filter fun p => p.2.status == 1 && (match hdrOf s p.2.combId with
    | some h => h.tenants.any fun (t : HdrTenant) => t.tenant == p.2.tenant && slotLost s t.keySlot
    | none => false)).map (·.1)

/-- The sweep of every lane has ended: the return set is recorded (R287). -/
def sweepClose (s : State) : State :=
  if s.top.state = .ret && s.top.phase = .waitGnt && !s.ret.setValid && sweepEnded s then
    let s1 := { s with ret := { s.ret with setValid := true } }
    let s2 := (lostKeyCells s1).foldl (fun s c => markLost c s) s1
    { s2 with ret := { s2.ret with bulkDone := (openCells s2 fun _ => true).isEmpty } }
  else s

/-- The cost of one sweep item on a lane (R273). -/
def sweepCost (s : State) (l : Nat) : Nat := ceilDiv 400 (retTc s l)

/-- SWEEP_UNIT_DONE: a unit's footers are recorded, but for those of a void group. An unsealed chain ends at a unit whose footers
read erased, carry another Comb ID or do not decode (R273). -/
def sweepUnit (l : Nat) (fs : List Footer) (s : State) : State :=
  match sweepComb s l with
  | some id =>
    match hdrOf s id with
    | some h =>
      let t := Sparse.get (fun _ => 0) s.ret.ticks l
      if s.top.state = .ret && s.top.phase = .waitGnt && (retLanes s).contains l && decide (sweepCost s l ≤ t) then
        let key := id * 8 + l
        let s1 := { s with ret := { s.ret with
          ticks := Sparse.put (fun _ => 0) s.ret.ticks l (t - sweepCost s l)
          pagesAt := Sparse.modify (fun _ => 0) s.ret.pagesAt key (· + hUnit h) } }
        let ends := (sealOf s id).isNone && (decide (fs.length < hUnit h) || fs.any fun f => f.combId != id)
        sweepClose (
          if ends then { s1 with ret := { s1.ret with swept := insertNat key s1.ret.swept } }
          else if groupVoid h (Sparse.get (fun _ => 0) s.ret.pagesAt key) fs then s1
          else fs.foldl (fun s f => recordFooter id l h f s) s1)
      else s
    | none => s
  | none => s

/-- The first frame of WAIT_GNT: LOST events for the exact runs, in LOSTCELL order (R272). -/
def waitGntBegin (s : State) : State :=
  let s1 := (s.ret.lost.filter fun l => !l.run.coarse).foldl (fun s l =>
    postUnsol l.run.tenant 0x85 0 0 (BitVec.ofNat 32 l.run.first) (BitVec.ofNat 32 l.run.count) s) (retPhase 2 s)
  sweepClose s1

/-! Restoring (R276 to R278). -/

/-- Cells are restored in this frame: CRITICAL and BULK of RETURN, and frames of EARLY that the device owns. -/
def restoring (s : State) : Bool :=
  s.dram.owned && (s.dram.hand == 0 || s.dram.hand == 3) && !s.ret.bulkDone &&
  ((s.top.state = .ret && (s.top.phase = .critical || s.top.phase = .bulk)) || (s.top.state = .early && s.top.phase = .bulk))

/-- c comes before d in chain order, the top Comb's chain first. -/
def chainBefore (a b : RCell) : Bool := decide (b.combId < a.combId) || (a.combId == b.combId && decide (a.lseq < b.lseq))

/-- A cell enters a list in chain order. -/
def chainInsert (p : Nat × RCell) : List (Nat × RCell) → List (Nat × RCell)
  | [] => [p]
  | q :: qs => if chainBefore p.2 q.2 then p :: q :: qs else q :: chainInsert p qs

/-- The unrestored cells of a lane in chain order. -/
def chainCells (s : State) (l : Nat) : List (Nat × RCell) :=
  (s.ret.cells.filter fun p => p.2.status == 1 && p.2.lane == l).foldl (fun a p => chainInsert p a) []

/-- Cells that held ADMIT_REQ entries name (R281): a head that is not decided is held while it names an unrestored cell. -/
def heldNames (s : State) (c : Nat) : Bool :=
  s.ring.tenants.any fun p => match p.2.pend with
    | q :: _ => (match q.stage with | .writing => false | .decided _ => false | _ => true) && badCode s (4 * p.1) q.e == 0 &&
        decide (eFirst q.e ≤ c) && decide (c < eFirst q.e + eCount q.e)
    | [] => false

/-- A lane's queue in the order of R276. -/
def laneQueue (s : State) (l : Nat) : List Nat :=
  let chain := chainCells s l
  let crit := s.top.phase = .critical
  let mine := fun (c : Nat) => chain.any fun p => p.1 == c && (!s.ret.locFull || p.2.located) && (!crit || p.2.crit)
  let demand := (s.ret.demands.flatMap fun d => if d.looked then d.left else []).filter mine
  let held := (chain.filter fun p => heldNames s p.1 && (!s.ret.locFull || p.2.located)).map (·.1)
  let upTo := fun (p : Nat × RCell) =>
    if !crit then true
    else if s.ret.locFull then decide (p.2.lseq ≤ Sparse.get (fun _ => 0) s.ret.critEnd (p.2.combId * 8 + l))
    else p.2.crit
  (demand ++ held ++ (chain.filter upTo).map (·.1)).eraseDups

/-- The cells in flight on a lane. -/
def laneFlight (s : State) (l : Nat) : List Nat :=
  s.ret.flight.filter fun c => match cellRec s c with | some x => x.lane == l | none => false

/-- A page of cell c may be read on lane l now: c is in flight, or it is the next of the lane's queue and fewer than 2 are. -/
def mayRead (s : State) (l c : Nat) : Bool :=
  let fl := laneFlight s l
  fl.contains c || (decide (fl.length < 2) && ((laneQueue s l).find? fun x => !fl.contains x) == some c)

/-- How often a quarter stands in a list. -/
def quarterN (q : Nat) (qs : List Nat) : Nat := (qs.filter (· == q)).length

/-- RESTORE_PAGE_READ (R277). -/
def pageRead (p : PageRead) (s : State) : State :=
  match cellRec s p.cell with
  | some x =>
    if restoring s && x.lane == p.lane && x.status == 1 && mayRead s p.lane p.cell then
      let ok := p.unc == 0 && decide (p.retries ≤ 8) && p.footerOk && p.chainOk
      let s1 := { s with ret := { s.ret with flight := if s.ret.flight.contains p.cell then s.ret.flight else s.ret.flight ++ [p.cell] } }
      let s2 := modCell p.cell (fun y =>
        if ok then { y with acc := insertNat p.quarter y.acc } else { y with bad := y.bad ++ [p.quarter] }) s1
      let s3 := modChan p.lane (fun c => { c with cwCorr := min 0xFFFF (c.cwCorr + p.corr), cwUnc := min 0xFFFF (c.cwUnc + p.unc) }) s2
      let s4 := if p.tailBad then tally 0x30 3 (BitVec.ofNat 32 p.lane) { s3 with ret := { s3.ret with tailErr := true } } else s3
      let damaged := !ok && !x.acc.contains p.quarter && decide (quarterN p.quarter x.occ ≤ quarterN p.quarter x.bad + 1)
      if damaged then resolved p.cell (tally 0x30 2 (BitVec.ofNat 32 p.cell) (markLost p.cell s4))
      else s4
    else s
  | none => s

/-- CELL_RESTORED (R278): the oldest cell in flight whose four quarters are accepted, once its lane has moved 65,536 bytes for it.
R231 and R276 give that rate; the outage of 01 shows a DEMAND_DONE 9 frames after its DEMAND (R12), where the rate takes about 26
owned frames: the model follows the rate (DEDUCED, log entry 33). -/
def cellRestored (l : Nat) (s : State) : State :=
  let full := fun (c : Nat) => match cellRec s c with
    | some x => [0, 1, 2, 3].all fun q => x.acc.contains q
    | none => false
  let m := Sparse.get (fun _ => 0) s.ret.moved l
  match (laneFlight s l).find? full with
  | some c =>
    if restoring s && decide (65536 ≤ m) then
      match cellRec s c with
      | some x =>
        let crit := s.top.phase = .critical
        let s0 := (injectUse 6 s).1
        let s1 := mapWrites c 1 (undirty c 3 (modCell c (fun y => { y with status := 2 }) s0))
        let s2 := modTenant x.tenant (fun y =>
          if crit then { y with restC := y.restC + 1 } else { y with restB := y.restB + 1 }) s1
        let s3 := resolved c (refresh s2)
        let more := !(openCells s3 fun y => y.lane == l).isEmpty
        { s3 with ret := { s3.ret with moved := Sparse.put (fun _ => 0) s3.ret.moved l (if more then m - 65536 else 0) } }
      | none => s
    else s
  | none => s

/-! What boundaries do (R275, R279, R283, R285). -/

/-- CRITICAL begins. -/
def criticalBegin (s : State) : State := criticalCheck (retPhase 3 s)

/-- CRITICAL is over at the end of the frame. -/
def criticalOver (s : State) : Bool := s.ret.critDone

/-- BULK is over at the end of the frame: everything is resolved and the host has the DRAM. -/
def bulkOver (s : State) : Bool := s.ret.bulkDone && !s.dram.owned

/-- The last frame of BULK ends: RESTORED events under its own stamp. -/
def bulkClose (s : State) : State := postRestored 3 (·.restB) s

/-- Maximal runs of first, …, first + n − 1 that skip the cells of a rising list. -/
def gapRuns (first stop : Nat) : List Nat → List (Nat × Nat)
  | [] => if first < stop then [(first, stop - first)] else []
  | c :: cs =>
    if c < first ∨ stop ≤ c then gapRuns first stop cs
    else (if first < c then [(first, c - first)] else []) ++ gapRuns (c + 1) stop cs

/-- LOST events for the lost cells inside a COARSE run. -/
def postCoarse (l : Lost) (s : State) : State :=
  let back := (s.ret.cells.filter fun p => p.2.status == 2).map (·.1)
  (gapRuns l.run.first (l.run.first + l.run.count) back).foldl (fun s g =>
    postUnsol l.run.tenant 0x85 0 0 (BitVec.ofNat 32 g.1) (BitVec.ofNat 32 g.2) s) s

/-- The lost cells of a COARSE run that the map shows in a state of ps read CLEAN (R126). -/
def coarseClean (ps : Nat → Bool) (l : Lost) (s : State) : State :=
  let kept := fun c => s.ret.cells.any fun p => p.1 == c && p.2.status != 3
  let cs := (s.adm.map.filter fun p => ps (p.2 % 4) && decide (l.run.first ≤ p.1) && decide (p.1 < l.run.first + l.run.count)).map (·.1)
  (cs.filter fun c => !kept c).foldl (fun s c => undirty c 0 s) s

/-- The cells that COARSE runs leave lost read CLEAN: what Harvest left DIRTY before the host may dirty cells again, in EARLY or at
DONE, and what it had SAVED at DONE (R126, log entry 33). -/
def coarseLost (ps : Nat → Bool) (s : State) : State :=
  refresh (((lostEntries s).filter fun l => l.run.coarse).foldl (fun s l => coarseClean ps l s) s)

/-- The bad stripes that the seals list are marked when the Return ends (R261). -/
def sealBad (s : State) : State :=
  (s.ret.sealsOf.flatMap fun p => p.2.bad).foldl (fun s p => if tgtOn s p.1 then markBad p.1 p.2 s else s) s

/-- The DONE frame (R285). -/
def doneBegin (s0 : State) : State :=
  let s := sealBad (coarseLost (fun st => st == 3 || (st == 1 && s0.top.state != .early)) s0)
  let s1 := retPhase 5 s
  let s2 := ((lostEntries s1).filter fun l => l.run.coarse).foldl (fun s l => postCoarse l s) s1
  let s3 := { s2 with
    top := { s2.top with combPend := false }
    ret := { s2.ret with
      endsLeft := s2.ret.pending
      endRetry := none
      demands := s2.ret.demands.map (fun (d : Demand) => { d with tillDone := false }) } }
  finishServed (s3.ret.pending.foldl (fun s id => endEntry 1 id s) s3)

/-- DEMAND entries are taken into service (R283). -/
def demandTake (s : State) : State :=
  if (s.top.state = .ret && (s.top.phase = .critical || s.top.phase = .bulk || s.top.phase = .done)) || s.top.state = .early then
    (List.range 64).foldl (fun s t =>
      let r := 4 * t + 2
      match (ringOf s r).pub with
      | e :: _ =>
        if rUsable s r && decide (s.ret.demands.length < 16) then
          let cost := scanCost s r e
          let s1 := modRing r (fun g => { g with pub := g.pub.tail }) s
          queueItem ⟨13, cost, 1, 0, .demandLookup r⟩ { s1 with ret := { s1.ret with demands := s1.ret.demands ++ [{ ring := r, e := e }] } }
        else s
      | [] => s) s
  else s

/-- A frame of the sweep is charged to the lanes that sweep. -/
def sweepCharge (s : State) : State :=
  (retLanes s).foldl (fun s l =>
    match sweepComb s l with
    | some _ => spend (l + 1) (ledLeft s (l + 1)) { s with ret := { s.ret with
        ticks := Sparse.modify (fun _ => 0) s.ret.ticks l (fun (n : Nat) => n + ledLeft s (l + 1)) } }
    | none => s) s

/-- A frame of restore work is charged to the lanes that have cells, and its bursts to the command bus (R210, R276). -/
def restoreCharge (s : State) : State :=
  (retLanes s).foldl (fun s l =>
    match (laneFlight s l ++ laneQueue s l).head? with
    | some c =>
      let rate := match cellRec s c with | some x => max 1 (retRate s l x.combId) | none => 1
      let bytes := (laneFlight s l ++ laneQueue s l).eraseDups.length * 65536 - Sparse.get (fun _ => 0) s.ret.moved l
      let cost := ceilDiv bytes rate
      let r := ledLeft s (l + 1)
      let s0 : State := { s with ret := { s.ret with moved := Sparse.modify (fun _ => 0) s.ret.moved l (· + rate * r) } }
      let s1 := ddrSpend (ceilDiv (min bytes (rate * r)) 64) (spend (l + 1) (min cost r) s0)
      if r < cost then modAcct (l + 1) (fun a => { a with splits := satInc 0xFFFF a.splits }) s1 else s1
    | none => s) s

/-- Everything a frame of RETURN or EARLY begins with, after the phase has changed. -/
def returnFrame (s : State) : State :=
  let s1 := laneOrders s
  let s2 := settleLanes s1
  let s3 := demandTake s2
  if s3.top.state = .ret && s3.top.phase = .waitGnt then sweepCharge s3
  else
    let s4 := if restoring s3 then restoreCharge s3 else s3
    if s4.top.state = .ret && s4.top.phase = .bulk && s4.ret.bulkDone then handBack s4 else s4

/-- Entries in service go back to the heads of their rings. DEDUCED. -/
def unserve (s : State) : State :=
  s.ret.demands.foldr (fun d s => modRing d.ring (fun g => { g with pub := d.e :: g.pub }) s)
    { s with ret := { s.ret with demands := [] } }

/-- The Return stop, and every end of restore work by a trigger (R286). -/
def returnStops (stop : Bool) (s : State) : State :=
  let s1 := unserve { s with ret := { s.ret with
    flight := []
    moved := []
    ticks := []
    cells := s.ret.cells.map (fun p => if p.2.status = 1 then (p.1, { p.2 with acc := [], bad := [] }) else p) } }
  let s2 := dropWork (fun w => match w with | .demandLookup _ => true | _ => false) s1
  if stop then retPhase 6 s2 else s2

/-! The END words (R285). -/

/-- An END word is in place, or no word of it could be programmed. -/
def endDone (id : Nat) (s : State) : State :=
  { s with ret := { s.ret with endsLeft := removeNat id s.ret.endsLeft } }
def endFails (id : Nat) (s : State) : State :=
  if s.ret.endsLeft.contains id then
    tally 0x30 5 (BitVec.ofNat 32 id) { s with ret := { s.ret with endRetry := some 65536 } }
  else s

/-- END_WORD_RETRY: the program is tried again, with its outcome in each bank. -/
def endRetry (okA okB : Bool) (s : State) : State :=
  match s.ret.endRetry, s.ret.endsLeft with
  | some 0, id :: _ =>
    match s.nand.catalog.find? (fun e => e.combId == id && e.ended == 0) with
    | some e =>
      let e1 : CatEntry := { e with ended := 1, endEpoch := s.fr.epoch }
      if okA || okB then
        let s1 := if okA then setWord (catOff e.slot 15 false / 8) (catWord e1 15) s else s
        let s2 := if okB then setWord (catOff e.slot 15 true / 8) (catWord e1 15) s1 else s1
        let s3 := endDone id (modEntry e.slot (fun _ => e1) s2)
        { s3 with ret := { s3.ret with endRetry := if s3.ret.endsLeft.isEmpty then none else some 65536 } }
      else endFails id s
    | none => endDone id s
  | _, _ => s

/-- CSTAT of a cell (R287). -/
def cstat (s : State) (c : Nat) : Nat :=
  match cellRec s c with
  | some x => x.status
  | none =>
    if rangeLost s c 1 then 3
    else if s.ret.locFull && (s.ret.phase == 2 || s.ret.phase == 3 || s.ret.phase == 4) then 1 else 0

/-! One definition per command. -/

def execVerifyCombDone (v : VerifyIn) (s : State) : Out := .next (verifyDone v s)
def execSweepUnitDone (lane : Nat) (fs : List Footer) (s : State) : Out := .next (sweepUnit lane fs s)
def execRestorePageRead (p : PageRead) (s : State) : Out := .next (pageRead p s)
def execCellRestored (lane : Nat) (s : State) : Out := .next (cellRestored lane s)
def execEndWordRetry (okA okB : Bool) (s : State) : Out := .next (endRetry okA okB s)
def execTargetTimeout (target : Nat) (s : State) : Out := .next (settleLanes (settleRewrites (targetTimeout target s)))

end Sys2Proof.Machine
end

