-- ==== Sys2Proof/Machine/Scout.lean ====
section
/-! DEFINITION. Scout (07): the samples of each state, the filters and qualifiers, the decision table, the group-trip
line, the wake qualifier and the real-time clock. -/

namespace Sys2Proof.Machine

/-! Levels that trigger (R161). -/

/-- TRIP in any of its forms (R161, R340, R388). -/
def tripLevel (s : State) : Bool := s.scout.tripQ || s.scout.tallyTrip || s.scout.swarmTrip

/-- A trigger flag of the frame under way. -/
def modTrig (f : Trig → Trig) (s : State) : State := { s with top := { s.top with trig := f s.top.trig } }

/-- The levels that hold now mark the frame. -/
def markLevels (s : State) : State :=
  modTrig (fun t => { t with
    wet := t.wet || s.scout.wetQ
    pg := t.pg || s.scout.pgFail
    trip := t.trip || tripLevel s
    pretrip := t.pretrip || s.scout.pretripQ
    warn := t.warn || s.scout.warnQ }) s

/-- States in which a wet-trip, PG_FAIL or TRIP isolates, so that it is a cause of the trip record. -/
def tripState (s : State) : Bool :=
  s.top.state ∈ [DevState.guard, .watch, .ret, .early] || (s.top.state = .harvest && s.top.phase = .hDecide)

/-- The threshold in mV of VGOOD: WARN + hysteresis. -/
def goodMv (s : State) : Int := warnMv s + hystMv s

/-! One VIN conversion and its conditions. -/

/-- VIN passes its filter; MIN follows (R156). -/
def vinConvert (vin : Int) (s : State) : State :=
  let s1 := convert 0 (vinIir s) (rawOf s 0 vin) s
  let y := dyNat (filt s1 0)
  { s1 with scout := { s1.scout with
      vinMin := some (match s.scout.vinMin with | some m => min m y | none => y)
      hist := (filt s1 0 :: s.scout.hist).take 17 } }

/-- WARN (R161). -/
def warnStep (s : State) : State :=
  let y := filt s 0
  let s1 := bump 1 (!dyLt y (warnMv s)) (bump 0 (dyLt y (warnMv s)) s)
  if !s1.scout.warnQ && decide (3 ≤ cntOf s1 0) then { s1 with scout := { s1.scout with warnQ := true, warnSeen := true } }
  else if s1.scout.warnQ && decide (3 ≤ cntOf s1 1) then { s1 with scout := { s1.scout with warnQ := false } }
  else s1

/-- The backup comparator's output has been low for at least 3 µs: VIN_SNS lies below TRIP − 0.40 V (R160). No override of Scout's
reaches it (R171). -/
def backupTrips (s : State) (sns : Int) (low : Nat) : Bool := decide (sns < tripMv s - 400) && decide (3 ≤ low)

/-- TRIP from VIN (R161) and from the backup comparator (R160). -/
def tripStep (sns : Int) (low : Nat) (s : State) : State :=
  let y := filt s 0
  let s1 := bump 3 (dyGt y (tripMv s + hystMv s)) (bump 2 (dyLt y (tripMv s)) s)
  if !s1.scout.tripQ && decide (3 ≤ cntOf s1 2) then
    tripCause 0x01 true { s1 with scout := { s1.scout with tripQ := true, tripSeen := true, qualAt := tripStamp s } }
  else if !s1.scout.tripQ && backupTrips s sns low then
    tally 0x20 1 (BitVec.ofNat 32 (dyNat y))
      (tripCause 0x01 true { s1 with scout := { s1.scout with tripQ := true, tripSeen := true, backup := true, qualAt := tripStamp s } })
  else if s1.scout.tripQ && decide (3 ≤ cntOf s1 3) then { s1 with scout := { s1.scout with tripQ := false } }
  else s1

/-- Whether the fall over 16 µs exceeds DVDT × 8 mV (R158). -/
def slopeOver (s : State) : Bool :=
  match s.scout.hist.head?, s.scout.hist[16]? with
  | some y, some y0 =>
    let lim : Int := 8 * Int.ofNat (crf s 0x5C 6 6)
    decide ((y.num + lim * 2 ^ y.exp) * 2 ^ y0.exp < y0.num * 2 ^ y.exp)
  | _, _ => false

/-- PRE-TRIP (R158). -/
def pretripStep (s : State) : State :=
  let ok := decide (0 < crf s 0x5C 6 6) && slopeOver s && dyLt (filt s 0) (warnMv s)
  let s1 := bump 4 ok s
  let q := ok && decide (4 ≤ cntOf s1 4)
  { s1 with scout := { s1.scout with
      pretripQ := q
      qualAt := if q && !s.scout.pretripQ then { s1.scout.qualAt with pretrip := s.fr.epoch } else s1.scout.qualAt } }

/-- PG_FAIL (R159). -/
def pgStep (pgHigh : Bool) (s : State) : State :=
  let y := filt s 0
  let bad := if pgSrc s then dyLt y (Int.ofNat (crf s 0x54 16 8 * 50)) else rawPin s 20 pgHigh
  let good := if pgSrc s then dyGt y (Int.ofNat (crf s 0x54 16 8 * 50) + hystMv s) else !rawPin s 20 pgHigh
  let n := if pgSrc s then 3 else 2
  let s1 := bump 6 good (bump 5 bad s)
  let armed := s1.scout.pgArmed || (!pgSrc s && decide (2 ≤ cntOf s1 6) && !(s.top.state = .wake && s.top.inState = 0))
  let s2 := { s1 with scout := { s1.scout with pgArmed := armed } }
  if !s2.scout.pgFail && (pgSrc s || s.scout.pgArmed) then
    if n ≤ cntOf s2 5 then
      let s3 := { s2 with scout := { s2.scout with pgFail := true, qualAt := { s2.scout.qualAt with pg := s.fr.epoch } } }
      if tripState s then tripCause 0x04 (crb s 0xB0 8) s3 else markEnds s3
    else s2
  else if s2.scout.pgFail && decide (n ≤ cntOf s2 6) then { s2 with scout := { s2.scout with pgFail := false } }
  else s2

/-- The WET qualifier's sample count (SCOUT_CTRL.WETQ). -/
def wetSamples (s : State) : Nat := 16 * 4 ^ crf s 0x5C 12 2

/-- WET (R161, R164, R165). -/
def wetStep (high : Bool) (s : State) : State :=
  if !crb s 0x5C 14 then s
  else
    let h := rawPin s 21 high
    let s1 := bump 7 h s
    let s2 := if h then { s1 with scout := { s1.scout with wetLow := 0 } } else s1
    if !s2.scout.wetQ && decide (wetSamples s ≤ cntOf s2 7) then
      let s3 := { s2 with scout := { s2.scout with wetQ := true, wetSeen := true, qualAt := { s2.scout.qualAt with wet := s.fr.epoch } } }
      if tripState s then tripCause 0x02 (crb s 0xB0 9) s3 else markEnds s3
    else s2

/-- TAMPER (R161, R166). -/
def tamperStep (low : Bool) (s : State) : State :=
  let l := !rawPin s 22 (!low)
  let s1 := bump 8 l s
  let s2 := if l then { s1 with scout := { s1.scout with tamHigh := 0 } } else s1
  if !s2.scout.tamperQ && (decide (16 ≤ cntOf s2 8) || s2.scout.edge) then tamperQualify s2 else s2

/-- VGOOD, its count, and the frame's record of it (R157, R161). -/
def vgoodStep (s : State) : State :=
  let g := dyGt (filt s 0) (goodMv s)
  let s1 := bump 9 g s
  { s1 with scout := { s1.scout with
      vgood := g
      frameGood := if s.scout.frameAny then s.scout.frameGood && g else g
      frameAny := true } }

/-- The H-DECIDE abort: 8 samples above WARN + hysteresis with host power good (R23). -/
def abortStep (s : State) : State :=
  if s.top.state = .harvest && s.top.phase = .hDecide && decide (8 ≤ cntOf s 9) && !s.scout.pgFail && !s.harv.wasWet then
    modTrig (fun t => { t with abort := true }) s
  else s

/-- WV_TRIP_N (R388). -/
def lineStep (low : Bool) (s : State) : State :=
  if !wvEn s || (s.top.state = .wake && s.top.inState ≤ 1) then s
  else
    let highs := if low then 0 else satInc 2 s.weave.highs
    let lows := if low then satInc 2 s.weave.lows else 0
    let handled := if highs = 2 then false else s.weave.handled
    let armed := s.weave.armed || decide (highs = 2)
    let w := { s.weave with
      lineLow := low, highs := highs, lows := lows, handled := handled, armed := armed
      lowFrames := if low then s.weave.lowFrames else 0, lowSent := low && s.weave.lowSent }
    let s1 := { s with weave := w }
    if w.armed && crb s 0xB0 7 && lows == 2 && !handled then
      let s2 := { s1 with weave := { s1.weave with handled := true }, scout := { s1.scout with swarmTrip := true, tripSeen := true, qualAt := tripStamp s } }
      tally 0x3B 1 (s.fr.epoch.truncate 32) (setInt 8 (tripCause 0x20 false s2))
    else s1

/-- The line is released when every cause that drives it has cleared (R387). -/
def driveStep (s : State) : State :=
  let live := s.scout.tripQ || (s.scout.pgFail && crb s 0xB0 8) || (s.scout.wetQ && crb s 0xB0 9) ||
    (s.scout.tamperQ && crb s 0xB0 10) || (s.scout.tallyTrip && crb s 0xB0 11)
  if s.weave.drive && !live then { s with weave := { s.weave with drive := false } } else s

/-- A sample at the raised rate of DORMANT or HOLD counts the wake qualifier (R154, R157). -/
def raisedStep (s : State) : State :=
  let done := decide (8192 ≤ cntOf s 9)
  let cnt := if s.scout.qualDone && !done then 1 else s.scout.raisedCnt + 1
  { s with scout := { s.scout with qualDone := done, raisedCnt := cnt } }

/-- SCOUT_VIN_SAMPLE (R151, R154, R156). -/
def vinSample (x : VinSample) (s : State) : State :=
  if s.top.state.runs then
    rampAll (markLevels (driveStep (abortStep (lineStep x.wvLow (tamperStep x.tamperLow (wetStep x.wetHigh (pgStep x.pgHigh
      (pretripStep (tripStep x.sns x.snsLow (warnStep (vgoodStep (vinConvert x.vin s))))))))))))
  else if s.scout.raised then
    let s1 := raisedStep (tamperStep x.tamperLow (wetStep x.wetHigh (vgoodStep (vinConvert x.vin s))))
    { s1 with scout := { s1.scout with holdRc := s1.scout.holdRc + 1 } }
  else s

/-! Multiplexed conversions (R151). -/

/-- The channel at a position of the cycle for N cells (Table: Multiplexer cycle). Position 19 takes the reference check in the first
cycle after reset and VAON_IN in the second (DESIGN CHOICE, log entry 55). -/
def muxChannel (n pos : Nat) (alt : Bool) : Nat :=
  let tap := fun (k : Nat) => if k ≤ n then 2 + k else 1
  if pos = 0 ∨ pos = 5 ∨ pos = 10 then 1
  else if pos < 5 then tap (pos - 1)
  else if pos < 10 then tap (pos - 2)
  else if pos < 16 then tap (pos - 3)
  else if pos = 16 then 15 else if pos = 17 then 16 else if pos = 18 then 17 else if alt then 18 else 19

/-- A conversion of VSTORE moves VSTORE_NOW.MIN. -/
def vstConvert (x : Int) (s : State) : State :=
  let s1 := convert 1 3 (rawOf s 1 x) s
  let y := dyNat (filt s1 1)
  { s1 with scout := { s1.scout with vstMin := some (match s.scout.vstMin with | some m => min m y | none => y) } }

/-- A reading in 0.5 °C steps, rounded down, as 16 bits. -/
def halfDeg (y : Dyadic) : Nat := ((y.num / (500 * 2 ^ y.exp)) % 65536).toNat

/-- TH_FAULT for thermistor i (R161). -/
def thFaultStep (i : Nat) (s : State) : State :=
  let y := filt s (16 + i)
  let out := dyLt y (-70000) || dyGt y 170000
  let s1 := bump (13 + 2 * i) (!out) (bump (12 + 2 * i) out s)
  let was := if i = 0 then s.scout.th0Fault else s.scout.th1Fault
  let setF := fun (v : Bool) (s : State) =>
    if i = 0 then { s with scout := { s.scout with th0Fault := v } } else { s with scout := { s.scout with th1Fault := v } }
  if !was && decide (4 ≤ cntOf s1 (12 + 2 * i)) then
    tally 0x21 1 (BitVec.ofNat 32 (i + 65536 * halfDeg y)) (setInt 13 (setF true s1))
  else if was && decide (16 ≤ cntOf s1 (13 + 2 * i)) then setF false s1
  else s1

/-- The TALARM level in m°C. -/
def talarmMc (s : State) : Int := (Int.ofNat (crf s 0x5C 22 8) - 64) * 1000

/-- TALARM (R161): counts 16 and 63 for TH0 and TH1, 17 and 64 for their samples below TALARM − 5 °C. -/
def talarmStep (i : Nat) (s : State) : State :=
  let k := if i = 0 then 16 else 63
  let s1 := bump (if i = 0 then 17 else 64) (dyLt (filt s (16 + i)) (talarmMc s - 5000)) (bump k (!dyLt (filt s (16 + i)) (talarmMc s)) s)
  let cool := (!thUsed s 0 || decide (16 ≤ cntOf s1 17)) && (!thUsed s 1 || decide (16 ≤ cntOf s1 64))
  if !s1.scout.talarmQ && decide (16 ≤ cntOf s1 k) then
    let s2 := { s1 with scout := { s1.scout with talarmQ := true, talarm := true } }
    let s3 := if crb s 0x5C 20 then tally 0x21 2 (BitVec.ofNat 32 (i + 65536 * halfDeg (filt s2 (16 + i)))) s2 else s2
    if crb s 0x5C 21 then setInt 13 s3 else s3
  else if s1.scout.talarmQ && cool then { s1 with scout := { s1.scout with talarmQ := false } }
  else s1

/-- ADC_CHK (R161). The table gives the condition no clearing: it stays qualified until DORMANT or HOLD is entered, and a later pair
of failing checks sets and sends nothing (DESIGN CHOICE, log entry 55). -/
def adcStep (s : State) : State :=
  let y := filt s 19
  let s1 := bump 18 (dyLt y 735 || dyGt y 765) s
  if !s1.scout.adcChkQ && decide (2 ≤ cntOf s1 18) then
    tally 0x20 2 (BitVec.ofNat 32 (dyNat y)) (setInt 13 { s1 with scout := { s1.scout with adcChkQ := true, adcChk := true } })
  else s1

/-- A conversion of thermistor i, of a code, through its curve and its filter; one that TH_USE excludes is not converted (R167). -/
def thFilter (i : Nat) (code : Int) (s : State) : State :=
  if thUsed s i then convert (16 + i) 4 (rawOf s (16 + i) (thMilli code)) s else s

/-- A conversion of thermistor i with its conditions. -/
def thConvert (i : Nat) (code : Int) (s : State) : State :=
  if thUsed s i then talarmStep i (thFaultStep i (thFilter i code s)) else s

/-- Thermistors that TH_USE makes used load their first conversion (R156): used0 and used1 say which were used before. -/
def thReload (used0 used1 : Bool) (s : State) : State :=
  let drop := fun (i : Nat) (was : Bool) (l : List Nat) => if thUsed s i && !was then removeNat (16 + i) l else l
  { s with scout := { s.scout with loaded := drop 1 used1 (drop 0 used0 s.scout.loaded) } }

/-- One multiplexed conversion with what Scout itself concludes from it; the channel converted. -/
def muxConvert (raw : Int) (s : State) : State × Nat :=
  let ch := muxChannel (cellsN s) s.scout.muxPos s.scout.muxAlt
  let last := s.scout.muxPos = 19
  let s1 := { s with scout := { s.scout with
    muxPos := if last then 0 else s.scout.muxPos + 1
    muxAlt := if last then !s.scout.muxAlt else s.scout.muxAlt } }
  let s2 := if ch = 1 then vstConvert raw s1
    else if ch = 15 then convert 15 4 (rawOf s1 15 raw) s1
    else if ch = 16 then thConvert 0 raw s1
    else if ch = 17 then thConvert 1 raw s1
    else if ch = 19 then adcStep (convert 19 0 (rawOf s1 19 raw) s1)
    else convert ch 3 (rawOf s1 ch raw) s1
  (s2, ch)

/-! DORMANT, HOLD and ship (R152 to R155). -/

/-- STORE_LOW (R161). -/
def storeLowStep (s : State) : State :=
  let v : Int := Int.ofNat (s.scout.vminAon * 100)
  let s1 := bump 11 (dyGt (filt s 1) v) (bump 10 (dyLt (filt s 1) v) s)
  if !s1.scout.storeLow && decide (4 ≤ cntOf s1 10) then { s1 with scout := { s1.scout with storeLow := true } }
  else if s1.scout.storeLow && decide (4 ≤ cntOf s1 11) then { s1 with scout := { s1.scout with storeLow := false } }
  else s1

/-- The three temperatures. -/
def tempsConvert (x : SlowSample) (s : State) : State :=
  thFilter 1 x.th1 (thFilter 0 x.th0 (convert 15 4 (rawOf s 15 x.die) s))

/-- A VIN sample above WARN + hysteresis raises the rate, starts the crystal and raises PWR_EN (R154, R400). -/
def raiseStep (s : State) : State :=
  if dyGt (filt s 0) (goodMv s) then
    let s1 := bump 9 false s
    { s1 with scout := { s1.scout with raised := true, raisedCnt := 0, qualDone := false, xtal := true, pwrEn := true } }
  else s

/-- A low-rate VIN sample with WET_SNS and TAMPER_N. -/
def lowSample (x : SlowSample) (s : State) : State :=
  raiseStep (tamperStep x.tamperLow (wetStep x.wetHigh (vinConvert x.vin s)))

/-- HOLD's sampling period in RC cycles (R152). -/
def holdPeriod (s : State) : Nat :=
  let h := 2 ^ crf s 0x5C 3 3
  (2000 + h) / (2 * h)

/-- HOLD_SAMPLE's conversions: VIN and WET_SNS unless the rate is raised, VSTORE and the temperatures when due (R152). At the
raised rate, from the sample that raises it on, each VIN sample counts its own RC cycle. -/
def holdConvert (x : SlowSample) (s : State) : State :=
  let t := s.scout.holdRc
  let s1 := if s.scout.raised then s else lowSample x s
  let s2 := if s.scout.vstAt ≤ t then
      let s3 := storeLowStep (vstConvert x.vstore s1)
      { s3 with scout := { s3.scout with vstAt := s.scout.vstAt + 62500 } }
    else s1
  let s4 := if s.scout.tmpAt ≤ t then
      let s3 := tempsConvert x s2
      { s3 with scout := { s3.scout with tmpAt := s.scout.tmpAt + 1000000 } }
    else s2
  if s4.scout.raised then s4 else { s4 with scout := { s4.scout with holdRc := t + holdPeriod s } }

/-- DORMANT_WAKEUP (R153). The count of which every 8th wake converts VSTORE and the temperatures runs on from one stay in DORMANT to
the next (DESIGN CHOICE, log entry 55). -/
def dormantWakeup (x : SlowSample) (s : State) : State :=
  if s.top.state = .dormant && !s.top.ship && !s.scout.raised then
    let s1 := lowSample x { s with scout := { s.scout with dormCnt := s.scout.dormCnt + 1 } }
    if s1.scout.dormCnt % 8 = 0 then tempsConvert x (vstConvert x.vstore s1) else s1
  else s

/-- SHIP_COMPARATOR_FIRE (R155). -/
def shipFire (vin : Int) (s : State) : State :=
  if s.top.state = .dormant && s.top.ship && decide (9000 ≤ vin) then
    raiseStep (vinConvert vin { s with
      top := { s.top with ship := false }
      scout := { s.scout with shipWoke := true, shipFired := true } })
  else s

/-- WAKE_QUALIFIER_ABANDON (R154, R400). -/
def qualAbandon (s : State) : State :=
  if (s.top.state = .dormant || s.top.state = .hold) && s.scout.raised && !s.scout.qualDone && decide (65536 ≤ s.scout.raisedCnt) then
    { s with scout := { s.scout with raised := false, raisedCnt := 0, xtal := false, pwrEn := false } }
  else s

/-- TAMPER_EDGE_LATCH (R166): evaluated at once in ship sub-mode. -/
def edgeLatch (s : State) : State :=
  if s.top.state = .off then s
  else
    let s1 := { s with scout := { s.scout with edge := true, tamHigh := 0 } }
    if s.top.state = .dormant && s.top.ship && !s.scout.tamperQ then tamperQualify s1 else s1

/-- TAMPER_CLEAR (R359). -/
def tamperClear (s : State) : State :=
  if 32768 ≤ s.scout.tamHigh then { s with scout := { s.scout with tamperQ := false, edge := false, killMade := false } } else s

/-- WET_CLEAR (R161). -/
def wetClear (s : State) : State :=
  if s.scout.wetQ && decide (32768 ≤ s.scout.wetLow) && !(s.top.state = .dormant && s.top.ship) then
    { s with scout := { s.scout with wetQ := false } }
  else s

/-! The real-time clock (R169, R170). -/

/-- TRIM as a signed number. -/
def rtcTrim (s : State) : Int := (BitVec.ofNat 8 (crf s 0x7C 16 8)).toInt

/-- RTC_TICK: every 2^20 ticks a positive TRIM adds its ticks, and a negative one has that many dropped, this one first (R170). -/
def rtcAdvance (s : State) : State :=
  if s.top.state = .off then s
  else
    let due := s.scout.trimTicks + 1 = 2 ^ 20
    let drop := s.scout.trimDrop + (if due then (-rtcTrim s).toNat else 0)
    let d := if 0 < drop then 0 else 1 + (if due then (rtcTrim s).toNat else 0)
    let t1 := (s.scout.rtcSec.toNat * 32768 + s.scout.rtcTick + d) % 2 ^ 47
    { s with
      sec := { s.sec with blow := s.sec.blow - 7 }
      scout := { s.scout with
        rtcSec := BitVec.ofNat 32 (t1 / 32768)
        rtcTick := t1 % 32768
        freeTicks := s.scout.freeTicks + d
        trimDrop := drop - 1
        trimTicks := if due then 0 else s.scout.trimTicks + 1
        tamHigh := s.scout.tamHigh + 1
        wetLow := s.scout.wetLow + 1 } }

/-- RTC_STOP. -/
def rtcStops (s : State) : State :=
  if s.top.state != .off && s.scout.oscOk then
    tally 0x22 1 s.scout.rtcSec { s with scout := { s.scout with rtcStop := true, oscOk := false } }
  else s

/-- RTC_OSC_OK. -/
def rtcOsc (s : State) : State :=
  if s.top.state = .off then s else { s with scout := { s.scout with oscOk := true } }

/-! What boundaries and entries do to Scout. -/

/-- Step of every boundary: the frame's VGOOD record is counted (R157) and the filtered values are published (R168). -/
def scoutBoundary (s : State) : State :=
  let good := if s.scout.frameAny && s.scout.frameGood then s.scout.goodFrames + 1 else 0
  publish { s with scout := { s.scout with goodFrames := good, frameGood := false, frameAny := false } }

/-- The frame under way makes the n-th consecutive good frame. -/
def goodFor (s : State) (n : Nat) : Bool :=
  decide (n ≤ s.scout.goodFrames + (if s.scout.frameAny && s.scout.frameGood then 1 else 0))

/-- Entry into DORMANT or HOLD clears the conditions of the running states with their counts (R161); VGOOD, STORE_LOW, WET and TAMPER
keep theirs. -/
def scoutSleep (s : State) : State :=
  let cnt := s.scout.cnt.filter fun p => decide (7 ≤ p.1) && decide (p.1 ≤ 11)
  { s with scout := { s.scout with
      cnt := cnt
      warnQ := false, tripQ := false, pretripQ := false, pgFail := false
      talarmQ := false, th0Fault := false, th1Fault := false, adcChkQ := false
      tallyTrip := false, swarmTrip := false
      goodFrames := 0, frameGood := false, frameAny := false
      raised := false, raisedCnt := 0, qualDone := false
      holdRc := 0, vstAt := 0, tmpAt := 0
      hist := []
      ovr := [] } }

/-- WATCH_EXIT: the 2,048th consecutive good frame in WATCH (R23). -/
def watchExit (s : State) : State :=
  if s.top.state = .watch && goodFor s 2048 then modTrig (fun t => { t with watchExit := true }) s else s

/-- HDECIDE_LIMIT: the 16th frame of H-DECIDE (R15). -/
def hdecideLimit (s : State) : State :=
  if s.top.state = .harvest && s.top.phase = .hDecide && decide (15 ≤ s.top.inPhase) then
    modTrig (fun t => { t with limit := true }) s
  else s

/-! One definition per command. -/

def execScoutVinSample (x : VinSample) (s : State) : Out := .next (vinSample x s)
def execDormantWakeup (x : SlowSample) (s : State) : Out := .next (dormantWakeup x s)
def execWakeQualifierAbandon (s : State) : Out := .next (qualAbandon s)
def execShipComparatorFire (vin : Int) (s : State) : Out := .next (shipFire vin s)
def execTamperEdgeLatch (s : State) : Out := .next (edgeLatch s)
def execTamperClear (s : State) : Out := .next (tamperClear s)
def execWetClear (s : State) : Out := .next (wetClear s)
def execRtcTick (s : State) : Out := .next (rtcAdvance s)
def execRtcStop (s : State) : Out := .next (rtcStops s)
def execRtcOscOk (s : State) : Out := .next (rtcOsc s)
def execWatchExit (s : State) : Out := .next (watchExit s)
def execHdecideLimit (s : State) : Out := .next (hdecideLimit s)

end Sys2Proof.Machine
end

