-- ==== Sys2Proof/Machine/Store.lean ====
section
/-! DEFINITION. The energy store and the Charge Governor (08): protection, balancing, the charger, the step test, the
tariff windows and demand intervals, the policy and the reserve. -/

namespace Sys2Proof.Machine

/-! Voltages of the bank. -/

/-- a − b. -/
def dySub (a b : Dyadic) : Dyadic := ⟨a.num * 2 ^ b.exp - b.num * 2 ^ a.exp, a.exp + b.exp⟩

/-- VFULL in mV (R175). -/
def vfull (s : State) : Nat := cellsN s * 2700

/-- Rated capacitance in 0.01 F. -/
def ratedC (s : State) : Nat := 50 * crated s

/-- The filtered voltage of cell i, between CTi and CT(i+1) (R175), and its published value. -/
def cellFilt (s : State) (i : Nat) : Dyadic := dySub (filt s (3 + i)) (filt s (2 + i))
def cellPub (s : State) (i : Nat) : Dyadic := dySub (pubd s (3 + i)) (pubd s (2 + i))

/-- Charger-running states (R179). -/
def chargerState (st : DevState) : Bool := st ∈ [DevState.guard, .ret, .early, .service]

/-- This device drives the charger and the bleeders (R179, R389). -/
def ownsCharger (s : State) : Bool := !copiesStore s

/-- VSTORE in whole mV. -/
def vstMv (s : State) : Nat := dyNat (pubd s 1)

/-- INT_STAT.CHARGE (R197). -/
def setCharge (s : State) : State := setInt 11 s

/-! Health (R181, R186). -/

/-- The grade's code (Table: Health grade). -/
def gradeOf (s : State) : Nat :=
  let st := s.store
  if st.cellFail ||
      (st.cValid && (decide (100 * st.cMeas < 80 * ratedC s) ||
        (decide (0 < st.nvEsrRef) && decide (5 * st.nvEsrRef < 2 * st.esr25)))) then 3
  else if !st.cValid then 0
  else if decide (90 * ratedC s ≤ 100 * st.cMeas) && decide (0 < st.nvEsrRef) && decide (2 * st.esr25 ≤ 3 * st.nvEsrRef) then 1
  else 2

/-- The grade is evaluated; a change sends its NOTE (R186, R197). -/
def regrade (s : State) : State :=
  let g := gradeOf s
  if g = s.store.grade then s
  else tally 0x1A 3 (BitVec.ofNat 32 g) (setCharge { s with store := { s.store with grade := g } })

/-- CELL_FAIL sets (R181). -/
def cellFails (cell : Nat) (s : State) : State :=
  if s.store.cellFail then s
  else regrade (tally 0x1A 1 (BitVec.ofNat 32 cell) (setCharge { s with store := { s.store with cellFail := true } }))

/-- A protection condition qualifies: 1 OV, 2 CELL_OV, 3 OC (R178). -/
def chargerTrip (kind v : Nat) (s : State) : State :=
  tally 0x19 kind (BitVec.ofNat 32 v)
    (setCharge { s with store := { s.store with chgFault := true, chgHold := true, chgEn := false } })

/-- Counts 19 and 20 to 31 of conditions that hold now. -/
def protCounts (s : State) : List Nat := (List.range 13).map fun i => cntOf s (19 + i)

/-- OV on a conversion of VSTORE (R178). -/
def ovStep (s : State) : State :=
  let y := filt s 1
  let s1 := bump 19 (!dyLt y (Int.ofNat (cellsN s * 2750))) s
  if cntOf s1 19 = 4 then chargerTrip 1 (dyNat y) s1 else s1

/-- CELL_OV and a shorted cell, on a conversion of a cell's upper tap (R178, R181). -/
def cellStep (i : Nat) (s : State) : State :=
  let v := cellFilt s i
  let short := dyLt v 200 && dyGt (filt s 1) (Int.ofNat (1000 * cellsN s))
  let s1 := bump (40 + i) short (bump (20 + i) (!dyLt v 2800) s)
  let s2 := { s1 with store := { s1.store with cellOv := (List.range 12).any fun j => decide (4 ≤ cntOf s1 (20 + j)) } }
  let s3 := if cntOf s2 (20 + i) = 4 then chargerTrip 2 (dyNat v) s2 else s2
  if 16 ≤ cntOf s3 (40 + i) then cellFails i s3 else s3

/-- CT0 off the negative terminal (R181). -/
def ct0Step (s : State) : State :=
  let s1 := bump 60 (dyGt (filt s 2) 200) s
  if 16 ≤ cntOf s1 60 then cellFails 0 s1 else s1

/-- CT(CELLS) against VSTORE: 2 % + 50 mV (R181). -/
def topStep (s : State) : State :=
  let d := dySub (filt s (2 + cellsN s)) (filt s 1)
  let v := filt s 1
  let lim : Int := v.num * 2 ^ d.exp + 2500 * 2 ^ (d.exp + v.exp)
  let s1 := bump 61 (decide (lim < 50 * (Int.ofNat d.num.natAbs) * 2 ^ v.exp)) s
  if 16 ≤ cntOf s1 61 then cellFails 0 s1 else s1

/-- A sample joins the fit of its channel (R183). -/
def fitSample (ch : Nat) (raw : Int) (s : State) : State :=
  let t := s.store.test
  let fitting := (t.stage == 2 && decide (t.frames < 65536)) ||
    (t.stage == 3 && decide (65792 ≤ t.frames) && decide (t.frames < 1114368))
  if 2 ≤ t.stage then
    let x : Int := Int.ofNat t.k
    let add := fun (f : Fit) => (⟨f.n + 1, f.sx + x, f.sxx + x * x, f.sy + raw, f.sxy + x * raw⟩ : Fit)
    let fits := if fitting && decide (1 ≤ ch) && decide (ch ≤ 14) then Sparse.modify (fun _ => {}) t.fits ch add else t.fits
    { s with store := { s.store with test := { t with k := t.k + 1, fits := fits } } }
  else s

/-- SCOUT_MUX_CONVERSION: Scout's own part, then what the Charge Governor concludes from it. -/
def muxStep (raw : Int) (s : State) : State :=
  if s.top.state.runs then
    let r := muxConvert raw s
    let s1 := r.1
    let ch := r.2
    if powered s1 && ownsCharger s1 then
      let s2 := fitSample ch (rawOf s ch raw) s1
      let s3 := if ch = 1 then ovStep s2 else s2
      let s4 := if ch = 2 then ct0Step s3 else s3
      let s5 := if 3 ≤ ch ∧ ch ≤ 2 + cellsN s then cellStep (ch - 3) s4 else s4
      if ch = 2 + cellsN s ∧ 0 < cellsN s then topStep s5 else s5
    else s1
  else s

/-! Tariff windows (R187, R188). -/

/-- Seconds since the most recent start of TARIFF entry i, at a week time. -/
def tariffAge (s : State) (week i : Nat) : Nat :=
  let w := cw s 4 i 0
  let day := fld w 1 3
  let m := fld w 4 11 * 60
  if day = 7 then (week % 86400 + 86400 - m % 86400) % 86400 else (week + 604800 - (day * 86400 + m) % 604800) % 604800

/-- The window in force at the present week time; 31 none. -/
def windowNow (s : State) : Nat :=
  let week := s.scout.rtcSec.toNat % 604800
  if crb s 0x6C 22 then
    match (List.range 24).filter (fun i => (cw s 4 i 0).getLsbD 0) with
    | [] => 31
    | i :: is => is.foldl (fun b j => if tariffAge s week j < tariffAge s week b then j else b) i
  else 31

/-- The window is evaluated once per frame (R188, R196). -/
def tariffSwitch (s : State) : State :=
  let w := windowNow s
  if w = s.store.win then s
  else
    logEv 3 (BitVec.ofNat 8 (w + 32 * b2n s.store.rtcSet)) (BitVec.ofNat 16 s.store.win) s.scout.rtcSec
      (setInt 12 { s with store := { s.store with win := w } })

/-! Demand intervals (R189 to R191). Energy in µW·frames: 1 W·s is 250,000 × 10^6 of them. -/

/-- The interval length in seconds (CHARGE_CTRL.DINT); 0 for a reserved code. -/
def dintSec (s : State) : Nat :=
  let c := dintCode s
  if c = 0 then 300 else if c = 1 then 600 else if c = 2 then 900 else if c = 3 then 1800 else if c = 4 then 3600 else 0

/-- The aligned interval that holds a second. -/
def alignedIdx (s : State) (sec : Word) : Nat := sec.toNat / max 1 (dintSec s)

/-- The budget of the open interval; none without a demand limit. -/
def intBudget (s : State) : Option Nat :=
  if s.store.win < 24 then
    let peak := fld (cw s 4 s.store.win 1) 16 16
    if peak = 0xFFFF then none
    else
      let all := peak * dintSec s * 250000 * 1000000
      some (if s.store.closedIdx = alignedIdx s s.store.intStart then all - s.store.eClosed else all)
  else none

/-- E_int in 0.1 Wh. -/
def tenthWh (e : Nat) : Nat := e / 90000000000000

/-- E_int is above, or has reached, the budget. -/
def intOver (s : State) : Bool := match intBudget s with | some b => decide (b < s.store.eInt) | none => false
def intFull (s : State) : Bool := match intBudget s with | some b => decide (b ≤ s.store.eInt) | none => false

/-- An open interval closes under a stamp and its record is written (R190). -/
def closeInterval (trunc : Bool) (ep : Epoch) (s : State) : State :=
  if s.store.intOpen then
    let st := s.store
    let idx := alignedIdx s st.intStart
    let x := st.win + 32 * b2n trunc + 64 * b2n st.intLate + 128 * b2n (intOver s)
    let a0 := dintCode s * 8192 + min 8191 (tenthWh st.eInt)
    let s1 := logAt ep 2 (BitVec.ofNat 8 x) (BitVec.ofNat 16 a0) st.intStart s
    { s1 with store := { s1.store with
        intOpen := false
        eClosed := (if st.closedIdx = idx then st.eClosed else 0) + st.eInt
        closedIdx := idx
        eInt := 0
        lateNext := trunc } }
  else s

/-- WAKE loads the base image, which load does: an interval that is open under another DINT closes at g+0 (R190). -/
def dintLoad (load : State → State) (s : State) : State :=
  if dintCode (load s) = dintCode s then load s else load (closeInterval true s.fr.wakeEpoch s)

/-- An interval opens: at the aligned start after an aligned end, else LATE in a charger-running state (R191). -/
def openInterval (s : State) : State :=
  if s.store.intOpen || dintSec s == 0 then s
  else if !s.store.lateNext then
    let start : Word := BitVec.ofNat 32 (alignedIdx s s.scout.rtcSec * dintSec s)
    { s with store := { s.store with intOpen := true, intLate := false, intStart := start, eInt := 0, lateNext := true } }
  else if chargerState s.top.state then
    { s with store := { s.store with intOpen := true, intLate := true, intStart := s.scout.rtcSec, eInt := 0 } }
  else s

/-- INTERVAL_END: the aligned end falls in the frame under way, whose boundary closes the interval with the whole
frame's energy, or with TRUNC if a trip qualifies too, and opens the next (R190, R191, R195). -/
def intervalEnd (s : State) : State :=
  if s.store.intOpen && decide (0 < dintSec s) && alignedIdx s s.scout.rtcSec != alignedIdx s s.store.intStart then
    { s with store := { s.store with intMark := true } }
  else s

/-- The frame that ends is accounted: energy, week, interval closure, window (R189, R190, R195, R196). -/
def storeFrameEnd (iMeas : Nat) (trip : Bool) (s : State) : State :=
  let p := if ownsCharger s then vstMv s * iMeas else 0
  let st := s.store
  let week := s.scout.rtcSec.toNat / 604800
  let ew := if st.weekNo = week then st.eWeek else []
  let ew := if st.win < 24 then Sparse.modify (fun _ => 0) ew st.win (· + p) else ew
  let s1 := { s with store := { st with
    iMeas := iMeas
    eInt := if st.intOpen then st.eInt + p else st.eInt
    eWeek := ew
    weekNo := week } }
  let s2 := if trip || st.rtcSet then closeInterval true s.fr.epoch s1
    else if st.intMark then closeInterval false s.fr.epoch s1 else s1
  let s3 := tariffSwitch s2
  { s3 with store := { s3.store with intMark := false, rtcSet := false } }

/-! The reserve (R193, R393). -/

/-- Tenants whose head entry is held for energy. -/
def heldForEnergy (s : State) : List Nat :=
  (s.ring.tenants.filter fun p => match p.2.pend with
    | q :: _ => q.stage == .held && q.byNeed && decide (q.wait < 2 ^ tWait s p.1)
    | [] => false).map (·.1)

/-- E_ADM of this device in mJ. -/
def eAdmOf (s : State) : Nat :=
  (heldForEnergy s).foldl (fun a t => match (tenOf s t).pend with
    | q :: _ => max a (testNeed s t q.n) | [] => a) s.adm.need

/-- What the reserve compares with its threshold: E_S and E_ADM_G for the charge member of a shared group. -/
def reserveNow (s : State) : Nat := if shared s && wvChg s then (if s.store.cfgBad then 0 else eStore s) else s.adm.now
def reserveNeed (s : State) : Nat :=
  if shared s && wvChg s then
    s.weave.peers.foldl (fun a p => if p.1 != s.weave.myId && peerLive p.2 && p.2.group == wvGroup s then a + p.2.a else a) (eAdmOf s)
  else eAdmOf s

/-- The reserve's threshold of the frame, and whether it becomes active (R193). -/
def reserveStep (s : State) : State :=
  let e := reserveNeed s
  { s with store := { s.store with eAdm := e, reserve := s.store.reserve || decide (reserveNow s < e) } }

/-- The frame counts towards the 256 of R182 and R193 once its own test of the margin is made. -/
def marginStep (s : State) : State :=
  { s with store := { s.store with
      margin := if decide (17 * s.store.eAdm ≤ 16 * reserveNow s) then satInc 256 s.store.margin else 0 } }

/-- RESERVE_RELEASE (R193). -/
def reserveRelease (s : State) : State :=
  if s.store.reserve && decide (256 ≤ s.store.margin) then { s with store := { s.store with reserve := false } } else s

/-! The step test (R182, R183). -/

/-- A test that does not yield a valid result (R183, R197). -/
def testInvalid (s : State) : State :=
  if 2 ≤ s.store.test.stage then
    let t := s.store.test
    tally 0x1A 2 0 (setCharge { s with store := { s.store with
      testFail := true
      test := { due := false, refcap := t.refcap, againAt := some (s.fr.epoch + 0x1000000) } } })
  else { s with store := { s.store with test := { s.store.test with stage := 0 } } }

/-- The headroom condition: VSTORE ≤ VFULL − 9.0 C ÷ (0.8 × rated) − 0.05 V. -/
def headroom (s : State) : Bool :=
  let c := Int.ofNat (crated s)
  !dyGt (⟨(pubd s 1).num * c, (pubd s 1).exp⟩ : Dyadic) ((Int.ofNat (vfull s) - 50) * c - 22500)

/-- The other conditions for a start. -/
def testMay (s : State) : Bool :=
  (s.top.state = .guard || s.top.state = .service) && !s.store.reserve && decide (256 ≤ s.store.margin) && !s.store.chgFault &&
  ownsCharger s

/-- A due test starts, bleeds or waits; a running one counts its frame (R182). -/
def testStep (s : State) : State :=
  let t0 := s.store.test
  let wrap := fld s.fr.epoch 0 32 == 0
  let t := if wrap then { t0 with due := true } else t0
  let put := fun (t : StepTest) (wait : Bool) (duty : Nat) =>
    { s with store := { s.store with test := t, testWait := wait, duty := duty } }
  if 2 ≤ t.stage then
    if s.store.reserve then testInvalid (put t false s.store.duty)
    else
      let ramp := t.stage == 3 && decide (65792 < t.frames + 1) && decide (t.frames < 1114368)
      put { t with
        frames := t.frames + 1
        isum := if ramp then t.isum + s.store.iMeas else t.isum
        inum := if ramp then t.inum + 1 else t.inum } false s.store.duty
  else if t.due then
    if testMay s then
      if headroom s then put { t with due := false, stage := 2, frames := 0, k := 0, fits := [], base := [], isum := 0, inum := 0 } false 0
      else put { t with stage := 1 } false s.store.duty
    else put { t with stage := 0 } true s.store.duty
  else put t false s.store.duty

/-- The charger may run. -/
def mayCharge (s : State) : Bool := chargerState s.top.state && ownsCharger s && !s.store.cfgBad && !s.store.chgHold

/-- STEP_TEST_STEP: RAMP begins (Table: Step test). -/
def stepTestStep (s : State) : State :=
  let t := s.store.test
  if t.stage = 2 ∧ 65536 ≤ t.frames then
    let may := mayCharge s && dyLt (pubd s 1) (Int.ofNat (vfull s))
    { s with store := { s.store with duty := if may then 32000 else 0, chgEn := may, test := { t with stage := 3, base := t.fits, fits := [], ts := t.k } } }
  else s

/-- The slope of a fitted line in mV per 50 µs, and its value at x. -/
def Fit.slope (f : Fit) : ℚ := (f.n * f.sxy - f.sx * f.sy : Int) / (f.n * f.sxx - f.sx * f.sx : Int)
def Fit.at (f : Fit) (x : Int) : ℚ := ((f.sy : ℚ) + f.slope * ((f.n * x - f.sx : Int) : ℚ)) / (f.n : ℚ)

/-- For a channel: s1 − s0 and ΔV at t_s. -/
def stepOf (s : State) (ch : Nat) : ℚ × ℚ :=
  let t := s.store.test
  let r := Sparse.get (fun _ => {}) t.fits ch
  let b := Sparse.get (fun _ => {}) t.base ch
  (r.slope - b.slope, r.at t.ts - b.at t.ts)

/-- A result in whole units; where it is no whole number, which neighbour it takes is a free value. -/
def roundFree (q : ℚ) : Nat := (q.floor + (if q.den = 1 then 0 else if Config.stepRoundUp q.num q.den then 1 else 0)).toNat

/-- ESR_25, and ESR_REF after a reference test, go to sectors 98–99 of the array (R183, R197, R290). -/
def esrKeep (refcap : Bool) (e25 : Nat) (s : State) : State :=
  let s1 := keepRecord 98 99 7 0 (Config.recordWord 2 e25) s
  if refcap then keepRecord 98 99 7 0 (Config.recordWord 3 e25) s1 else s1

/-- STEP_TEST_RESULT (R181, R183, R186, R197). -/
def stepTestResult (s : State) : State :=
  let t := s.store.test
  if t.stage = 3 ∧ 1114368 ≤ t.frames then
    let i : ℚ := (t.isum : ℚ) / (t.inum : ℚ)
    let v := stepOf s 1
    let c : ℚ := i / (200 * v.1)
    let e : ℚ := v.2 / i * 10000
    let rated : ℚ := (ratedC s : ℚ)
    let ok := decide (1960 ≤ i) && decide (i ≤ 2040) && decide (0 < v.1) && decide (rated / 4 ≤ c) && decide (c ≤ 2 * rated) &&
      decide (1 ≤ e) && decide (e ≤ 5000)
    if ok then
      let n := cellsN s
      let esr := fun (k : Nat) => ((stepOf s (3 + k)).2 - (stepOf s (2 + k)).2) / i * 10000
      let mean := (List.range n).foldl (fun a k => a + esr k) 0 / (n : ℚ)
      let bad := (List.range n).find? fun k =>
        decide (i < rated * n / 2 * 200 * ((stepOf s (3 + k)).1 - (stepOf s (2 + k)).1)) || decide (3 * mean < esr k)
      let cw := roundFree c
      let e25 := roundFree (e * 1000 / ((interp (storeTemp s) esrFactor : Int) : ℚ))
      let s1 := { s with store := { s.store with
        cValid := true
        cMeas := cw
        esr25 := e25
        nvEsr25 := some e25
        nvEsrRef := if t.refcap then e25 else s.store.nvEsrRef
        testFail := false
        test := {} } }
      let s2 := logEv 4 (BitVec.ofNat 8 (1 + 2 * b2n t.refcap)) (BitVec.ofNat 16 (min 0xFFFF cw)) (BitVec.ofNat 32 e25) (setCharge (esrKeep t.refcap e25 s1))
      match bad with
      | some k => regrade (cellFails k s2)
      | none => regrade s2
    else testInvalid s
  else s

/-- STEP_TEST_DUE_AGAIN (R183). -/
def testDueAgain (s : State) : State :=
  match s.store.test.againAt with
  | some e => if e.toNat ≤ s.fr.epoch.toNat then
      { s with store := { s.store with test := { s.store.test with due := true, againAt := none } } } else s
  | none => s

/-- A request by CHARGE_CTRL.STEP or REFCAP (R182): the block is busy while a test or bleed runs. -/
def testBusy (s : State) : Bool := s.store.test.stage != 0
def testRequest (refcap : Bool) (s : State) : State :=
  { s with store := { s.store with test := { s.store.test with due := true, refcap := s.store.test.refcap || refcap, againAt := none } } }

/-! Policy, charger and balancing (R177, R180, R192 to R194). -/

/-- The policy target in mV. -/
def target (s : State) : Nat :=
  if s.store.win < 24 then
    let v := fld (cw s 4 s.store.win 2) 0 16
    if v = 0 ∨ vfull s < v then vfull s else v
  else vfull s

/-- Charging is held at the target until VSTORE has fallen 50 mV below it. -/
def holdAtTarget (s : State) : Bool :=
  if !dyLt (pubd s 1) (Int.ofNat (target s)) then true
  else s.store.heldOff && dyGt (pubd s 1) (Int.ofNat (target s) - 50)

/-- I_pol in mA. -/
def iPolOf (s : State) : Nat :=
  if !mayCharge s || s.store.heldOff then 0
  else if s.store.win < 24 then
    if intFull s then 0
    else
      let pcap := fld (cw s 4 s.store.win 1) 0 16
      if vstMv s = 0 then (if pcap = 0 then 0 else 12500) else min 12500 (pcap * 1000000 / vstMv s)
  else 12500

/-- The demanded current in mA; none at or above VFULL, the ramp of a step test included (R175). -/
def demandMa (s : State) : Nat :=
  let t := s.store.test
  if !mayCharge s then 0
  else if t.stage = 3 then (if dyLt (pubd s 1) (Int.ofNat (vfull s)) then 2000 else 0)
  else if t.stage ≠ 0 then 0
  else if s.store.reserve then (if dyLt (pubd s 1) (Int.ofNat (vfull s)) then 12500 else 0)
  else s.store.iPol

/-- CHARGE_STAT.MODE of this device. -/
def modeOf (s : State) : Nat :=
  if s.store.cfgBad || s.store.chgHold then 6
  else if !chargerState s.top.state || !ownsCharger s then 0
  else if s.store.test.stage = 1 then 5 else if 2 ≤ s.store.test.stage then 4
  else if s.store.reserve then 3
  else if s.store.heldOff then 1
  else if 0 < s.store.iPol then 2 else 0

/-- The duty moves toward the demand by at most 1/64 of full scale (R177); the step of the test is immediate. -/
def moveDuty (d want : Nat) : Nat := if d < want then min want (d + 3125) else max want (d - 3125)

/-- The bleeders (R180, R182). -/
def balance (s : State) : List Nat :=
  let n := cellsN s
  if s.store.test.stage = 1 then (List.range (min 12 n)).map (32 + ·)
  else if !(chargerState s.top.state && ownsCharger s && crb s 0x6C 23) || s.store.cfgBad then []
  else
    let all := dySub (pubd s (2 + n)) (pubd s 2)
    let excess := fun (i : Nat) => dySub (⟨(cellPub s i).num * n, (cellPub s i).exp⟩ : Dyadic) all
    let a := (List.range (min 12 n)).filter fun i =>
      dyGt (excess i) (Int.ofNat (20 * n)) || (s.store.bal.contains i && dyGt (excess i) (Int.ofNat (5 * n)))
    let b := (List.range (min 12 n)).filter fun i =>
      dyGt (cellPub s i) 2700 || (s.store.bal.contains (16 + i) && dyGt (cellPub s i) 2680)
    a ++ b.map (16 + ·)

/-- OC: I_meas above I_ref + 1.0 A or above 13.0 A for 16 frames (R178). -/
def ocStep (s : State) : State :=
  let high := decide (s.store.duty + 16000 < 16 * s.store.iMeas) || decide (13000 < s.store.iMeas)
  let n := if high then s.store.ocCnt + 1 else 0
  let s1 := { s with store := { s.store with ocCnt := n } }
  if n = 16 then chargerTrip 3 s.store.iMeas s1 else s1

/-- The hold of R178 ends once CHG_FAULT is clear and no condition is present. -/
def holdEnds (s : State) : State :=
  if s.store.chgHold && !s.store.chgFault && s.store.ocCnt == 0 && (protCounts s).all (· == 0) then
    { s with store := { s.store with chgHold := false } }
  else s

/-- An override episode of the charge policy (R194). -/
def chargeEpisode (s : State) : State :=
  if mayCharge s && s.store.reserve && decide (s.store.iPol < 12500) then
    if s.store.polEpi then s
    else tally 0x18 1 (BitVec.ofNat 32 (s.store.win + 32 * (s.store.iPol / 10)))
      (setCharge { s with store := { s.store with polEpi := true, polOvr := true } })
  else { s with store := { s.store with polEpi := false } }

/-- The charger's outputs of the frame. -/
def chargerLoop (s : State) : State :=
  let s1 := { s with store := { s.store with heldOff := chargerState s.top.state && holdAtTarget s } }
  let s2 := { s1 with store := { s1.store with iPol := iPolOf s1 } }
  let want := demandMa s2
  let m := modeOf s2
  let s3 := { s2 with store := { s2.store with
    chgEn := decide (0 < want)
    duty := if 2 ≤ s2.store.test.stage then want * 16 else moveDuty s2.store.duty (want * 16)
    bal := balance s2
    mode := m } }
  if m = s2.store.mode then s3 else setCharge s3

/-- What the Charge Governor does at the opening of a frame, after the energy model. In WAKE no reserve is tracked: its margin
begins with GUARD (08, the reserve at Tarnbeck). -/
def storeFrameStart (s : State) : State :=
  if s.top.state = .wake then chargerLoop (openInterval { s with store := { s.store with testWait := s.store.test.due } })
  else chargeEpisode (chargerLoop (openInterval (marginStep (testStep (reserveStep (holdEnds (ocStep s)))))))

/-- The store checks of phase IMAGE (R176, WEAVE_CTRL). -/
def storeCfgOk (s : State) : Bool :=
  decide (2 ≤ cellsN s) && decide (cellsN s ≤ 12) && decide (0x14 ≤ vmin s) &&
  decide (vmin s * 100 + 1000 ≤ vfull s) && decide (2 ≤ crated s) && decide (dintCode s ≤ 4) && !(wvChg s && wvGroup s == 15)

/-- WAKE: the store fields are checked, C_VALID and CELL_FAIL clear, every protection condition qualifies afresh and a step test is
due (R176, R178, R181, R182, R185). -/
def storeWake (s0 : State) : State :=
  let bad := !storeCfgOk s0
  let s := { s0 with scout := { s0.scout with cnt := s0.scout.cnt.filter fun p => !(decide (19 ≤ p.1) && decide (p.1 ≤ 61)) } }
  let s1 := { s with store := { s.store with
    ocCnt := 0
    cfgBad := bad, cValid := false, cellFail := false, chgHold := false, chgFault := false, reserve := false, margin := 0
    test := { due := true } } }
  let s2 := if bad then tally 0x0C 6 0 s1 else s1
  regrade s2

/-! One definition per command. -/

def execScoutMuxConversion (raw : Int) (s : State) : Out := .next (muxStep raw s)
def execReserveRelease (s : State) : Out := .next (reserveRelease s)
def execStepTestStep (s : State) : Out := .next (stepTestStep s)
def execStepTestResult (s : State) : Out := .next (stepTestResult s)
def execStepTestDueAgain (s : State) : Out := .next (testDueAgain s)
def execIntervalEnd (s : State) : Out := .next (intervalEnd s)

end Sys2Proof.Machine
end

