-- ==== Sys2Proof/Machine/Regs.lean ====
section
/-! DEFINITION. What every direct register and every table word reads (00, 02 to 18), and the side effects of host reads
(R81): RC fields, the RTC and EPOCH latches, the watch of R87, RING_PORT and MBOX_C2H. -/

namespace Sys2Proof.Machine

/-- A number in [15:0], saturating. -/
def sat16 (n : Nat) : Nat := min 0xFFFF n

/-- A word of RW fields, as a read returns them: F-class fields read what was written last (R40). -/
def rw (s : State) (off : Nat) : Word := cwShadow s 0 0 (off / 4)

/-! Values of the registers, chapter by chapter. -/

/-- STATE (02). -/
def stateReg (s : State) : Word :=
  pack [(s.top.state.code, 4, 0), (s.top.phase.code, 4, 4), (b2n s.tally.degraded, 1, 8), (b2n s.top.combPend, 1, 9),
    (s.top.cause, 4, 12), (s.top.prev, 4, 16)]

/-- LIFECYCLE (16). -/
def lifecycleReg (s : State) : Word :=
  pack [(s.sec.life.code, 3, 0), (b2n s.sec.lcBusy.isSome, 1, 3), (b2n s.hive.fwBankB, 1, 4), (b2n s.hive.fwNone, 1, 5),
    (s.sec.lcResult, 4, 12)]

/-- HOSTCFG (04). -/
def hostcfgReg (s : State) : Word :=
  rw s 0x18 ||| pack [(b2n s.host.h2cFull, 1, 8), (b2n s.host.c2hFull, 1, 9), (b2n s.host.mboxOvf, 1, 10),
    (b2n s.host.partErr, 1, 11), (s.host.post.length, 4, 16), (b2n s.host.io33, 1, 20)]

/-- TBL_CTRL (04). -/
def tblCtrlReg (s : State) : Word :=
  pack [(s.host.tblWord, 4, 0), (b2n s.host.tblInc, 1, 4), (b2n s.host.tblBusy, 1, 8), (b2n s.host.tblErr, 1, 9),
    (s.host.tblCode, 4, 12), (tblWords s.host.tblTid, 4, 16)]

/-- The lowest usable EVENT ring with unread entries. -/
def nextEv (s : State) : Option Nat :=
  ((List.range 64).map fun t => 4 * t + 3).find? fun r => rUsable s r && !(ringOf s r).unread.isEmpty

/-- RING_SEL (05). -/
def ringSelReg (s : State) : Word :=
  pack [(selRing s, 8, 0), ((nextEv s).getD 0, 8, 8), (b2n (nextEv s).isNone, 1, 16)]

/-- RING_CREDIT (05). -/
def ringCreditReg (s : State) : Word :=
  let r := selRing s
  let g := ringOf s r
  let ev := r % 4 == 3
  pack [(avail s r, 8, 0), (if ev then 0 else g.staged.length, 8, 8), (if ev then g.rdWord else g.part.length, 2, 16),
    (b2n s.ring.portErr, 1, 24), (s.ring.cause, 2, 25), (b2n s.ring.dbErr, 1, 27)]

/-- ADMIT_CTRL (06). -/
def admitReg (s : State) : Word :=
  rw s 0x50 ||| pack [(b2n s.adm.ocActive, 1, 2), (b2n s.adm.polOvr, 1, 3), (b2n (decide (s.adm.now < s.adm.need)), 1, 4), (b2n s.adm.recount, 1, 5)]

/-- PF_STAT (07). -/
def pfStatReg (s : State) : Word :=
  let c := s.scout
  pack [(b2n c.warnQ, 1, 0), (b2n c.tripQ, 1, 1), (b2n c.pretripQ, 1, 2), (b2n c.pgFail, 1, 3), (b2n (pgSrc s || c.pgArmed), 1, 4),
    (b2n c.vgood, 1, 5), (b2n c.wetQ, 1, 6), (b2n c.tamperQ, 1, 7), (b2n c.thrDef, 1, 8), (b2n c.warnSeen, 1, 9),
    (b2n c.tripSeen, 1, 10), (b2n c.backup, 1, 11), (b2n (!c.ovr.isEmpty), 1, 12), (c.watchEpi, 16, 16)]

/-- A filtered value in whole millivolts; how a fraction is rounded is a free value. -/
def mvFree (y : Dyadic) : Nat :=
  (dyFloor y + (if dyFrac y 1 && Config.tapRoundUp y.num y.exp then 1 else 0)).toNat

/-- SCOUT_STAT (07). -/
def scoutStatReg (s : State) : Word :=
  let c := s.scout
  let k := crf s 0x5C 16 4
  let ch := if k ≤ 12 then 2 + k else if k = 13 then 1 else if k = 14 then 18 else 19
  pack [(b2n c.talarm, 1, 0), (b2n c.th0Fault, 1, 1), (b2n c.th1Fault, 1, 2), (b2n c.adcChk, 1, 3), (b2n c.rtcStop, 1, 4),
    (b2n c.wetSeen, 1, 5), (b2n c.tamperSeen, 1, 6), (b2n c.shipWoke, 1, 7), (sat16 (mvFree (filt s ch)), 16, 16)]

/-- THROTTLE_STAT (03). -/
def throttleReg (s : State) : Word :=
  let held := fun (a b : Nat) => (heldConds s).any fun i => i == a || i == b
  pack [(s.fr.div, 2, 0), (dHw s, 2, 2), (b2n (guardBand s), 1, 4), (b2n (held 3 4), 1, 5), (b2n (held 5 6), 1, 6),
    (b2n (held 0 1), 1, 7), (b2n s.fr.polOvr, 1, 8), (b2n (!guardBand s && decide (fEff s < dHw s)), 1, 9),
    (b2n (decide (floorCode s < ceilCode s)), 1, 10), (s.fr.ovrCount, 16, 16)]

/-- CHARGE_STAT.VIEW_VAL (08, R393). -/
def viewVal (s : State) : Nat :=
  let v := crf s 0x6C 26 3
  let st := s.store
  if copiesStore s then (if v = 0 then cUse s else if v = 2 then esrT s else 0)
  else if v = 0 then st.cMeas
  else if v = 1 then ceilDiv (esr25x4 s) 4
  else if v = 2 then esrTOwn s
  else if v = 3 then st.nvEsrRef
  else if v = 4 then (if ownsCharger s then vstMv s * st.iMeas / 1000000 else 0)
  else if v = 5 then st.iMeas / 10
  else if v = 6 then st.iPol / 10
  else
    let cs := (List.range (cellsN s)).map fun i => cellPub s i
    match cs with
    | [] => 0
    | c :: rest =>
      let hi := rest.foldl (fun a b => if dyLe a b then b else a) c
      let lo := rest.foldl (fun a b => if dyLe a b then a else b) c
      mvFree (dySub hi lo)

/-- CHARGE_STAT (08, R393). -/
def chargeStatReg (s : State) : Word :=
  let t := s.store
  if copiesStore s then
    let mg := match s.weave.store with | some st => st.2.2 | none => 0
    pack [(mg, 3, 0), (mg / 8, 2, 4), (b2n s.weave.store.isSome, 1, 6), (b2n t.cfgBad, 1, 10), (sat16 (viewVal s), 16, 16)]
  else
    pack [(t.mode, 3, 0), (b2n t.polOvr, 1, 3), (t.grade, 2, 4), (b2n t.cValid, 1, 6), (b2n t.testWait, 1, 7),
      (b2n t.chgFault, 1, 8), (b2n t.cellOv, 1, 9), (b2n t.cfgBad, 1, 10), (b2n t.cellFail, 1, 11), (b2n t.testFail, 1, 12),
      (sat16 (viewVal s), 16, 16)]

/-- TARIFF_NOW (08). -/
def tariffReg (s : State) : Word :=
  let t := s.store
  pack [(t.win, 5, 0), (b2n t.intOpen, 1, 5), (b2n (t.intOpen && intFull s), 1, 6), (b2n (t.intOpen && t.intLate), 1, 7),
    (if t.win < 24 then fld (cw s 4 t.win 2) 16 8 else 0, 8, 8), (if t.intOpen then sat16 (tenthWh t.eInt) else 0, 16, 16)]

/-- RTC_SUB (07). -/
def rtcSubReg (s : State) : Word := rw s 0x7C ||| pack [(s.scout.rtcLatch, 15, 0), (b2n s.scout.oscOk, 1, 24)]

/-- HARVEST_STAT (10). -/
def harvestReg (s : State) : Word :=
  let h := s.harv
  let sel := crf s 0x80 8 2
  let v := if sel = 0 then h.saved else if sel = 1 then h.lost else if sel = 2 then h.atRisk else h.combId
  rw s 0x80 ||| pack [(harvLow s, 8, 0), (v, 22, 10)]

/-- The total length of intervals (first, end) in rising order of first. -/
def unionLen : Nat → List (Nat × Nat) → Nat
  | _, [] => 0
  | done, (a, b) :: rest => (b - max a done) + unionLen (max b done) rest

/-- Intervals in rising order of first. -/
def intervalInsert (p : Nat × Nat) : List (Nat × Nat) → List (Nat × Nat)
  | [] => [p]
  | q :: qs => if p.1 ≤ q.1 then p :: q :: qs else q :: intervalInsert p qs

/-- Cells lost: those an exact run names, and those of a COARSE run that are not restored (Table: LOSTCELL entry). -/
def lostCount (s : State) : Nat :=
  let ls := lostEntries s
  let all := ls.foldl (fun a l => intervalInsert (l.run.first, l.run.first + l.run.count) a) []
  let inRun := fun (l : Lost) (c : Nat) => decide (l.run.first ≤ c) && decide (c < l.run.first + l.run.count)
  let back := (s.ret.cells.filter fun p => p.2.status == 2 && ls.any (fun l => inRun l p.1) &&
    !(ls.any fun l => !l.run.coarse && inRun l p.1)).length
  unionLen 0 all - back

/-- LOSS and the counts of RETURN_STAT: restored, lost, remaining. -/
def returnShows (s : State) : Bool × Nat × Nat × Nat :=
  match s.ret.shown with
  | some x => x
  | none =>
    let n := fun (k : Nat) => (s.ret.cells.filter fun p => p.2.status == k).length
    (!(lostEntries s).isEmpty, n 2, lostCount s, n 1)

/-- RETURN_STAT[7:0]. -/
def returnLow (s : State) : Nat :=
  let r := s.ret
  r.phase + 8 * b2n r.sealed + 16 * b2n (returnShows s).1 + 32 * b2n r.locFull + 64 * b2n r.tailErr + 128 * b2n r.stacked

/-- RETURN_STAT (12). -/
def returnReg (s : State) : Word :=
  let sel := crf s 0x84 8 2
  let x := (returnShows s).2
  let v := if sel = 0 then x.1 else if sel = 1 then x.2.1 else if sel = 2 then x.2.2 else s.ret.topId
  rw s 0x84 ||| pack [(returnLow s, 8, 0), (v, 22, 10)]

/-- RETURN_DEMAND (12). -/
def returnDemandReg (s : State) : Word :=
  rw s 0x88 ||| pack [(cstat s (crf s 0x88 0 21), 2, 22), (b2n s.ret.setValid, 1, 24), (s.ret.demands.length, 5, 25)]

/-- IMAGE_STAT (11). -/
def imageReg (s : State) : Word :=
  let out := (List.range 8).foldl (fun a c => a + b2n (chanOf s c).out * 2 ^ c) 0
  pack [(b2n s.nand.armed, 1, 0), (b2n s.nand.prep, 1, 1), (b2n s.nand.valid, 1, 2), (s.nand.geomErr, 4, 4), (out, 8, 8),
    (b2n s.nand.catAlt, 1, 16), (b2n s.nand.bbmScan, 1, 17), (min 0xFFF (trkLeft s / 256), 12, 20)]

/-- The sticky bits of group g. -/
def stickyWord (s : State) (g : Nat) : Word :=
  (List.range 32).foldl (fun a i => if 32 * g + i ≤ 0x6F && (srcOf s (32 * g + i)).sticky then a ||| BitVec.ofNat 32 (2 ^ i) else a) 0

/-- A window of the source is open in the frame under way (R331). -/
def windowOpen (o : Source) : Bool := o.open_ && decide (0 < o.left)

/-- A source reads SEVERE. -/
def readsSevere (o : Source) : Bool := windowOpen o && o.severe

/-- A FAULT_N pulse runs: through the end of frame m + MINW (R338). -/
def pulseRuns (s : State) : Bool := s.tally.pulseLeft.any fun n => decide (0 < n)

/-- FAULT_SUMMARY (15). -/
def summaryReg (s : State) : Word :=
  let any := (List.range 4).foldl (fun a g => a + b2n (stickyWord s g != 0) * 2 ^ g) 0
  rw s 0x9C ||| pack [(any, 4, 0), (b2n s.tally.degraded, 1, 6), (b2n s.tally.halted, 1, 7), (b2n s.tally.tripped, 1, 8),
    (b2n s.tally.logDrop, 1, 9), (b2n (s.tally.src.any fun p => readsSevere p.2), 1, 10), (s.tally.lastSrc, 7, 11),
    (s.tally.next, 14, 18)]

/-- FAULT_N is driven low now (R338). Under the frame marker that depends on the tick of the read, which is a free value. -/
def faultPin (s : State) : Bool :=
  if s.tally.markEnd then Config.markLow s.free else pulseRuns s || crb s 0xA4 8

/-- FAULT_PIN_CTRL (15). -/
def faultPinReg (s : State) : Word :=
  rw s 0xA4 ||| pack [(b2n (pulseRuns s), 1, 9), (b2n (faultPin s), 1, 10), (s.tally.pulses, 16, 16)]

/-- FAULT_INJECT (15). -/
def injectReg (s : State) : Word :=
  rw s 0xA8 ||| pack [(b2n (decide (0 < s.tally.injLeft)), 1, 17), (s.tally.injLeft, 8, 24)]

/-- WEAVE_STAT (18). -/
def weaveStatReg (s : State) : Word :=
  let w := s.weave
  let live := if wvEn s then 1 + (w.peers.filter fun p => peerLive p.2 && p.1 != w.myId).length else 0
  pack [(w.myId, 6, 0), (w.masterId, 6, 6), (b2n w.isMaster, 1, 12), (b2n w.ringOk, 1, 13), (b2n w.lock, 1, 14),
    (b2n w.joined, 1, 15), (b2n w.frozen, 1, 16), (b2n w.armed, 1, 17), (b2n w.lineLow, 1, 18), (b2n w.drive, 1, 19),
    (b2n w.dupId, 1, 20), (b2n w.cfgMis, 1, 21), (b2n w.noChg, 1, 22), (live, 7, 24)]

/-- DEBUG_STAT (16). -/
def debugStatReg (s : State) : Word :=
  let k := s.sec
  pack [(k.level, 2, 0), (b2n k.chal.isSome, 1, 2), (b2n (lockedOut s), 1, 3), (k.result, 4, 4), (k.fails, 2, 8),
    (k.reqLevel, 2, 10), (k.channel, 2, 12), (b2n k.keysClosed, 1, 14)]

/-- A slot's state as KEY_STAT shows it (16). -/
def slotCode : Slot → Nat
  | .empty => 0 | .generated _ => 1 | .imported _ => 2 | .lost => 3

/-- KEY_STAT (16). -/
def keyStatReg (s : State) : Word :=
  let k := s.sec
  pack [(b2n k.keyBusy.isSome, 1, 0), (b2n k.keyErr, 1, 1), (k.keyCode, 4, 2), (b2n k.killSeen, 1, 6), (b2n k.lostAny, 1, 7),
    (k.epochFuses, 6, 8), (b2n (!k.extPub.isEmpty), 1, 14), (k.extMin, 6, 15), (k.fwMin, 6, 21),
    (b2n (k.staging.length == 32), 1, 27), (slotCode (Sparse.get (fun _ => .empty) k.slots k.keySlot), 2, 30)]

/-- The image OVERLAY_SEL names. -/
def ovlSel (s : State) : Nat := crf s 0xD8 0 3

/-- OVERLAY_SEL (02). -/
def overlaySelReg (s : State) : Word :=
  let i := ovlSel s
  let n := match s.conf.images.find? (fun p => p.1 == i) with | some p => p.2.length | none => 0
  rw s 0xD8 ||| pack [(b2n (s.conf.edited.contains i), 1, 16), (b2n s.conf.commit.isSome, 1, 17), (n, 8, 24)]

/-- CONFIG_STAT (02). -/
def configReg (s : State) : Word :=
  let t := s.top
  let bad := t.ovlBad.foldl (fun a i => a + 2 ^ i) 0
  pack [(b2n t.reject, 1, 0), (b2n t.reqErr, 1, 1), (b2n t.ueWrite, 1, 2), (b2n t.postRej, 1, 3), (bad, 5, 4),
    (b2n t.baseAlt, 1, 9), (t.lastRej, 8, 16), (t.reqReason, 4, 24)]

/-- A temperature in half degrees, ten bits; between two steps the direction is a free value. -/
def tempField (y : Dyadic) : Nat :=
  let n := y.num / (500 * 2 ^ y.exp) + (if dyFrac y 500 && Config.tempRoundUp y.num y.exp then 1 else 0)
  (n % 1024).toNat

/-- TEMP_NOW (07). -/
def tempReg (s : State) : Word :=
  let th := fun (i : Nat) => if !thUsed s i || (if i = 0 then s.scout.th0Fault else s.scout.th1Fault) then 0x200 else tempField (pubd s (16 + i))
  pack [(tempField (pubd s 15), 10, 0), (th 0, 10, 10), (th 1, 10, 20)]

/-- VIN_NOW and VSTORE_NOW (07). -/
def vinReg (s : State) : Word := pack [(sat16 (dyNat (pubd s 0)), 16, 0), (sat16 (s.scout.vinMin.getD 0), 16, 16)]
def vstoreReg (s : State) : Word := pack [(sat16 (dyNat (pubd s 1)), 16, 0), (sat16 (s.scout.vstMin.getD 0), 16, 16)]

/-- The value of the direct register at an offset, for a reader without side effects: RING_PORT shows the word at the head
without its removal, TBL_DATA the latched word (R376). -/
def regPeek (s : State) (off : Nat) : Word :=
  match off / 4 with
  | 0 => 0x4E576400 | 1 => 0x00020001 | 2 => 0x0071EE3F | 3 => lifecycleReg s | 4 => stateReg s
  | 6 => hostcfgReg s | 7 => s.host.intStat.zeroExtend 32 | 8 => rw s 0x20
  | 11 => s.host.latch.getD s.host.tblWord 0 | 14 => (readRingPort s).1
  | 10 => BitVec.ofNat 32 (s.host.tblTid * 2 ^ 24 + s.host.tblIdx % 2 ^ 24) | 12 => tblCtrlReg s
  | 13 => ringSelReg s | 16 => ringCreditReg s
  | 17 => BitVec.ofNat 32 (s.adm.dirtyTotal % 2 ^ 22) | 18 => BitVec.ofNat 32 (min 0xFFFFFFFF s.adm.now)
  | 19 => BitVec.ofNat 32 (min 0xFFFFFFFF s.adm.need) | 20 => admitReg s
  | 21 => rw s 0x54 | 22 => pfStatReg s | 23 => rw s 0x5C | 24 => scoutStatReg s
  | 25 => rw s 0x64 | 26 => throttleReg s | 27 => rw s 0x6C | 28 => chargeStatReg s | 29 => tariffReg s
  | 30 => s.scout.rtcSec | 31 => rtcSubReg s | 32 => harvestReg s | 33 => returnReg s | 34 => returnDemandReg s
  | 35 => imageReg s | 37 => s.arr.port.addr | 38 => arrStat s .host
  | 39 => summaryReg s | 40 => stickyWord s (crf s 0x9C 4 2) | 41 => faultPinReg s | 42 => injectReg s
  | 43 => rw s 0xAC ||| pack [(s.tally.exits, 16, 0)] | 44 => rw s 0xB0 | 45 => weaveStatReg s
  | 47 => s.host.c2h | 48 => s.host.dbH2c | 49 => s.host.dbC2h
  | 50 => rw s 0xC8 | 51 => debugStatReg s | 53 => keyStatReg s | 54 => overlaySelReg s | 55 => configReg s
  | 56 => tempReg s | 57 => vinReg s | 58 => vstoreReg s | 59 => s.fr.epoch.truncate 32
  | 60 => rw s 0xF0 | 61 => rw s 0xF4 | 63 => s.sec.chal.getD 0
  | _ => 0

/-! Table words. -/

/-- Island of a clock domain (Table: Islands). -/
def islandOf (i : Nat) : Nat :=
  if i < 6 then 0 else if i < 16 then 1 else if i < 40 then 2 else if i < 70 then 3 else if i < 82 then 4 else if i < 110 then 5
  else if i < 134 then 6 else if i < 158 then 7 else if i < 190 then 8 else if i < 198 then 9 else if i < 204 then 10
  else if i < 214 then 11 else if i < 220 then 12 else if i < 224 then 13 else if i < 232 then 14 else 15

/-- GATEABLE (R62). -/
def gateable (i : Nat) : Bool := islandOf i ∈ [6, 7, 8, 13, 14, 15]

/-- The domain's clock runs (R61, R62, R368). -/
def domainOn (s : State) (i : Nat) : Bool :=
  let isl := islandOf i
  let up := if isl = 6 ∨ isl = 7 ∨ isl = 8 then
      s.nand.power || s.top.state ∈ [DevState.harvest, .ret, .early]
    else if isl = 14 then !(s.top.state = .wake && s.top.inState = 0)
    else if isl = 15 then s.top.state = .service else true
  up && !(s.top.state = .service && (cw s 7 i 0).getLsbD 5)

/-- FREQ_KHZ and SOURCE of a domain (Table: Islands, Table: CLOCKDOM entry, R63). -/
def domainClock (s : State) (i : Nat) : BitVec 24 × BitVec 4 :=
  let alt := Config.domainAlt i
  match islandOf i with
  | 0 => if alt then (1000, 1) else (Config.clockKhz 0, 0)
  | 1 => if s.host.sync then (Config.clockKhz 1, 6) else (100000, 3)
  | 2 => (BitVec.ofNat 24 (500000 / 2 ^ s.fr.div), 3)
  | 3 => if alt then (24750, Config.backupSource) else (500000, 3)
  | 4 => (250000, 3)
  | 5 => (if speed3200 s && !s.dram.rate2400 then 1600000 else 1200000, 4)
  | 6 => (400000, 5) | 7 => (400000, 5) | 8 => (500000, 3)
  | 11 => (200000, 8)
  | 14 => if alt then (100000, 3) else (Config.clockKhz 2, 7)
  | 15 => (250000, 3)
  | _ => (100000, 3)

/-- A CLOCKDOM word. -/
def clockWord (s : State) (i w : Nat) : Word :=
  if w = 0 then cwShadow s 7 i 0 ||| pack [(islandOf i, 4, 0), (b2n (domainOn s i), 1, 4), (b2n (gateable i), 1, 6), (b2n (islandOf i == 2), 1, 7)]
  else if w = 1 then (if domainOn s i then (domainClock s i).1.zeroExtend 32 else 0)
  else if w = 2 then (domainClock s i).2.zeroExtend 32 else 0

/-- A LEDGER word (R60). -/
def ledgerWord (s : State) (i w : Nat) : Word :=
  let a := acctOf s i
  if w = 0 then pack [(budget s i, 8, 0), (reserveOf s.top.state i, 8, 8), (a.usedLast, 8, 16), (a.usedMax, 8, 24)]
  else if w = 1 then pack [(a.splits, 16, 0), (a.refusals, 16, 16)]
  else if w = 2 then pack [(a.overruns, 16, 0), (a.carry, 16, 16)] else 0

/-- A TIME word (R51), with the latched upper half. -/
def timeWord (s : State) (i : Nat) (hi : BitVec 16) : Word :=
  if i = 0 then s.fr.epoch.truncate 32 else if i = 1 then hi.zeroExtend 32
  else if i = 2 then s.fr.wakeEpoch.truncate 32 else if i = 3 then (s.fr.wakeEpoch >>> 32).truncate 32
  else if i = 4 then BitVec.ofNat 32 s.fr.gapSec
  else if i = 5 then pack [(b2n s.fr.refLoss, 1, 0), (s.fr.refLossCnt, 8, 8)] else 0

/-- A TENANT word (R100). -/
def tenantWord (s : State) (t w : Nat) : Word :=
  let x := tenOf s t
  if w = 5 then BitVec.ofNat 32 (x.dirtyNow % 2 ^ 22)
  else if w = 6 then pack [(x.admitCnt, 16, 0), (x.refuseCnt, 16, 16)]
  else if w = 7 then cwShadow s 1 t 7 ||| pack [(x.lastRefuse, 8, 8), (x.badCnt, 16, 16)]
  else cwShadow s 1 t w

/-- A RING word (05). -/
def ringWord (s : State) (r w : Nat) : Word :=
  let g := ringOf s r
  if w = 0 then cwShadow s 2 r 0 ||| pack [(b2n (rAlloc s r), 1, 7), (occupancy s r, 8, 16), (g.staged.length, 8, 24)]
  else if w = 1 then (if rAlloc s r then BitVec.ofNat 32 (rBase s r) else 0)
  else if w = 2 then pack [(g.doneCnt, 16, 0), (g.badDrop, 16, 16)]
  else pack [(g.dbErr, 16, 0), (g.lastBad, 8, 16)]

/-- A TALLY word (15). -/
def tallyWord (s : State) (n w : Nat) : Word :=
  let o := srcOf s n
  if w = 0 then cwShadow s 3 n 0
  else if w = 1 then pack [(b2n o.sticky, 1, 0), (b2n (readsSevere o), 1, 1), (b2n (n == 0x28 || n == 0x2C), 1, 2),
    (if windowOpen o then o.count else 0, 8, 8), (o.total, 16, 16)]
  else if w = 2 then pack [(o.lastKind, 5, 0), (b2n o.lastSev, 1, 5), (o.lastStamp.toNat, 24, 8)]
  else o.lastAddr

/-- A TARIFF word (08). -/
def tariffWord (s : State) (i w : Nat) : Word :=
  if w = 3 then BitVec.ofNat 32 (min 0xFFFFFF (Sparse.get (fun _ => 0) s.store.eWeek i / 900000000000000)) else cwShadow s 4 i w

/-- A PEER word (18). -/
def peerWord (s : State) (i w : Nat) : Word :=
  let p := peerOf s i
  if w = 0 then cwShadow s 6 i 0
  else if w = 1 then pack [(b2n (peerLive p), 1, 0), (p.state, 4, 1), (p.group, 4, 5), (b2n p.chg, 1, 9),
    (b2n ((cw s 6 i 0).getLsbD 8 && !peerLive p), 1, 10), (p.frac, 16, 16)]
  else if w = 2 then BitVec.ofNat 32 p.need else p.last

/-- The mode registers are loaded: DDR_STAT shows its Reset value until phase IMAGE has loaded them (Table: DDRMR entries). -/
def ddrLoaded (s : State) : Bool := powered s && !(s.top.state = .wake && decide (s.top.wakeStep < 2) && s.top.cause != 4)

/-- OWN_REQ at the tick of a read, which the read does not tell: a change falls at tick 50 (R204). -/
def reqNow (s : State) : Bool := if Config.writeTick s.free % 100 < 50 then s.dram.reqWas else s.dram.ownReq

/-- A DDRMR word (09). -/
def ddrWord (s : State) (i : Nat) : Word :=
  let d := s.dram
  if i = 7 then cwShadow s 10 7 0 ||| pack [(cellsCfg s, 22, 10)]
  else if i = 18 then pack [(b2n d.active, 1, 0), (b2n d.imgOpen, 1, 1), (b2n d.cut, 1, 2), (d.nextCell, 24, 8)]
  else if i = 19 then BitVec.ofNat 32 (s.adm.trickledTotal % 2 ^ 22)
  else if i = 20 then pack [(b2n d.trainFail, 1, 1)]
  else if i = 21 then
    (if ddrLoaded s then pack [(b2n (mrErr s == 0), 1, 0), (b2n (trainHost s), 1, 1), (b2n (train2400 s), 1, 2), (b2n (ready s), 1, 3),
      (b2n (speed3200 s && !d.rate2400), 1, 7), (mrErr s, 4, 12)] else 0) |||
    pack [(b2n d.owned, 1, 4), (b2n (reqNow s), 1, 5), (b2n d.gnt, 1, 6), (b2n d.forced, 1, 8), (b2n d.gntIgn, 1, 9)]
  else if i = 22 then pack [(d.slotMiss, 16, 0), (d.takeovers, 16, 16)]
  else if i = 23 then d.debt.foldl (fun a p => a ||| pack [(p.2, 4, 4 * p.1)]) 0
  else cwShadow s 10 i 0

/-- A NANDGEOM word (11). STRIPES has a value for a valid geometry only. DEDUCED from its Reset 0x000 (log entry 34). -/
def nandWord (s : State) (i w : Nat) : Word :=
  if i = 1 then
    if w = 0 then pack [(b2n s.nand.valid, 1, 0), (s.nand.geomErr, 4, 4), (s.nand.seq, 8, 8)]
    else if w = 1 then BitVec.ofNat 32 (nT s % 64) else if w = 2 then (if s.nand.valid then BitVec.ofNat 32 (stripes s % 2 ^ 12) else 0)
    else BitVec.ofNat 32 (trkLeft s % 2 ^ 21)
  else if 2 ≤ i ∧ i ≤ 9 then
    let c := chanOf s (i - 2)
    if w = 0 then cwShadow s 11 i 0 ||| pack [(c.present, 4, 4), (b2n c.out, 1, 8), (laneRate s (i - 2), 8, 16)]
    else if w = 1 then pack [(c.progFail, 16, 0), (c.erFail, 16, 16)]
    else if w = 2 then pack [(c.cwCorr, 16, 0), (c.cwUnc, 16, 16)] else 0
  else if 10 ≤ i then
    let g := tgtOf s (i - 10)
    if w = 0 then pack [(g.next, 20, 0), (g.laps, 12, 20)]
    else if w = 1 then pack [(sat16 g.bad.length, 16, 0), (b2n g.out, 1, 16)]
    else if w = 2 then g.id else 0
  else cwShadow s 11 i w

/-- The LOSTCELL entry of an index (12). -/
def lostAt (s : State) (i : Nat) : Option Lost :=
  if i < 16320 then s.ret.lost[i]? else (s.ret.overflow.find? fun p => p.1 + 16320 == i).map (·.2)

/-- A LOSTCELL word. -/
def lostWord (s : State) (i w : Nat) : Word :=
  match lostAt s i with
  | some l =>
    if w = 0 then pack [(l.run.first, 21, 0), (l.run.tenant, 6, 24), (b2n l.run.coarse, 1, 30), (1, 1, 31)]
    else if w = 1 then pack [(l.run.count, 22, 0), (l.cause, 3, 24)]
    else if w = 2 then BitVec.ofNat 32 l.combId else (l.stamp.truncate 24).zeroExtend 32
  | none => 0

/-- The held record whose SEQ is i, with its slot (R346). -/
def heldRecord (s : State) (i : Nat) : Option (Nat × Record) := s.tally.held.find? fun p => p.2.seq == i

/-- A record's words (Table: Event record). -/
def recordWord (r : Record) (w : Nat) : Word :=
  if w = 0 then pack [(r.x.toNat, 8, 0), (r.type, 6, 8), (r.sub, 4, 14), (r.seq, 14, 18)]
  else if w = 1 then r.epoch.truncate 32
  else if w = 2 then pack [((r.epoch >>> 32).toNat, 16, 0), (r.arg0.toNat, 16, 16)]
  else r.arg1

/-- The byte offset of word X (false) or Y (true) of a log slot (R345: two array words a record, 1,024 records a sector). -/
def logOff (slot : Nat) (y bankB : Bool) : Nat :=
  (if bankB then 0x200000 else 0) + 106 * 0x4000 + slot * 16 + (if y then 8 else 0)

/-- A staged image word (R38). -/
def stagedWord (s : State) (img i : Nat) : Word := Sparse.get (fun _ => 0xFFFFFFFF) s.conf.staged (img * 1024 + i)

/-- The live value of a table word; hi is the latched upper half of EPOCH. -/
def tblWordVal (s : State) (hi : BitVec 16) (tid idx w : Nat) : Word :=
  match tid with
  | 1 => tenantWord s idx w | 2 => ringWord s idx w | 3 => tallyWord s idx w | 4 => tariffWord s idx w
  | 5 => stagedWord s (ovlSel s) idx | 6 => peerWord s idx w | 7 => clockWord s idx w | 8 => ledgerWord s idx w
  | 9 => timeWord s idx hi | 10 => ddrWord s idx | 11 => nandWord s idx w | 12 => lostWord s idx w
  | 13 => (match heldRecord s idx with | some p => recordWord p.2 w | none => 0)
  | _ => 0

/-- The words of an entry. -/
def tblEntry (s : State) (hi : BitVec 16) (tid idx : Nat) : List Word := (List.range (tblWords tid)).map (tblWordVal s hi tid idx)

/-- An address names an entry: 0, or the code of a failed access (R94, R346). -/
def tblCode (s : State) (tid idx : Nat) : Nat :=
  if tblWords tid = 0 then 1
  else if tblCount s tid ≤ idx ∨ (tid = 13 ∧ (heldRecord s idx).isNone) then 2
  else 0

/-- The RC bits of a table word. -/
def rcMask (tid idx w : Nat) : Word :=
  if tid = 1 then (if w = 6 then 0xFFFFFFFF else if w = 7 then 0xFFFF0000 else 0)
  else if tid = 2 then (if w = 2 then 0xFFFFFFFF else if w = 3 then 0x0000FFFF else 0)
  else if tid = 3 then (if w = 1 then 0xFFFF0000 else 0)
  else if tid = 8 then (if w = 1 then 0xFFFFFFFF else if w = 2 then 0x0000FFFF else 0)
  else if tid = 9 then 0xFFFFFFFF
  else if tid = 10 then (if idx = 22 then 0xFFFFFFFF else 0)
  else if tid = 11 then (if 2 ≤ idx ∧ idx ≤ 9 ∧ (w = 1 ∨ w = 2) then 0xFFFFFFFF else 0)
  else 0

/-- The RC fields of a table word clear. -/
def rcClear (tid idx w : Nat) (s : State) : State :=
  if tid = 1 then
    (if w = 6 then modTenant idx (fun x => { x with admitCnt := 0, refuseCnt := 0 }) s
     else if w = 7 then modTenant idx (fun x => { x with badCnt := 0 }) s else s)
  else if tid = 2 then
    (if w = 2 then modRing idx (fun g => { g with doneCnt := 0, badDrop := 0 }) s
     else if w = 3 then modRing idx (fun g => { g with dbErr := 0 }) s else s)
  else if tid = 3 then (if w = 1 then modSrc idx (fun o => { o with total := 0 }) s else s)
  else if tid = 8 then
    (if w = 1 then modAcct idx (fun a => { a with splits := 0, refusals := 0 }) s
     else if w = 2 then modAcct idx (fun a => { a with overruns := 0 }) s else s)
  else if tid = 10 ∧ idx = 22 then { s with dram := { s.dram with slotMiss := 0, takeovers := 0 } }
  else if tid = 11 ∧ 2 ≤ idx ∧ idx ≤ 9 then
    (if w = 1 then modChan (idx - 2) (fun c => { c with progFail := 0, erFail := 0 }) s
     else if w = 2 then modChan (idx - 2) (fun c => { c with cwCorr := 0, cwUnc := 0 }) s else s)
  else s

end Sys2Proof.Machine
end

