-- ==== Sys2Proof/Machine/Fields.lean ====
section
/-! DEFINITION. Writes of configuration fields (R39 to R45, R92, R101, R102): which fields a write touches, which it drops
and what the rest leaves in force. -/

namespace Sys2Proof.Machine

/-- One field with the value a write gives it: its descriptor, table index and value. -/
abbrev Piece := FDesc × Nat

/-- The RW fields of a word that a mask touches. -/
def touched (tid idx word : Nat) (mask : Word) : List FDesc :=
  (fieldsOf tid idx word).filter fun d => (fmask d.lo d.width &&& mask) != 0

/-- Tenant t's partition holds a TRICKLED or SAVED cell (R128). -/
def partHolds (s : State) (t : Nat) : Bool :=
  s.adm.map.any fun p => decide (2 ≤ p.2 % 4) && decide (tBase s t ≤ p.1) && decide (p.1 ≤ tLast s t)

/-- A tenant is busy for its I-class fields (R101). -/
def tenantBusy (s : State) (t : Nat) : Bool :=
  decide (0 < (tenOf s t).dirtyNow) || !(tenOf s t).pend.isEmpty ||
  (s.top.state ∈ [DevState.harvest, .ret, .early]) ||
  (List.range 4).any fun k =>
    let g := ringOf s (4 * t + k)
    !g.staged.isEmpty || !g.fresh.isEmpty || !g.pub.isEmpty || !g.unread.isEmpty

/-- ENABLE, PART_BASE and PART_LAST of a TENANT entry. -/
def partField (d : FDesc) : Bool := d.tid == 1 && ((d.word == 0 && d.lo == 0) || d.word == 1 || d.word == 2)

/-- The block that owns an I-class field is busy (R62, R101, R128, R223, FAULT_INJECT.ACTIVE). -/
def fieldBusy (s : State) (idx : Nat) (d : FDesc) : Bool :=
  if d.tid = 1 then tenantBusy s idx || (partField d && partHolds s idx)
  else if d.tid = 7 then s.top.state != .service
  else if d.tid = 10 then ddrBusy s
  else decide (0 < s.tally.injLeft)

/-- A field takes a value: no reserved encoding (00 Edges) and no GATE_REQ of a domain that cannot be gated (R62); from
the bus, its class must allow it now (R39 to R42). -/
def fieldTakes (s : State) (image : Bool) (idx : Nat) (p : Piece) : Bool :=
  !reservedValue p.1.tid idx p.1.word p.1.lo p.2 && !(p.1.tid == 7 && !gateable idx) &&
  (image || (p.1.cls != .boot && !(p.1.cls == .idle && fieldBusy s idx p.1)))

/-- A field's value enters a word. -/
def putBits (p : Piece) (w : Word) : Word := mergeBits w (BitVec.ofNat 32 (p.2 * 2 ^ p.1.lo)) (fmask p.1.lo p.1.width)

/-- A field takes its value: in force at once, or an F-class field from the next boundary; from an image always at once. -/
def putField (image : Bool) (idx : Nat) (s : State) (p : Piece) : State :=
  let k := ckey p.1.tid idx p.1.word
  { s with conf := { s.conf with
      cur := if image || p.1.cls != .frame then Sparse.modify resetWord s.conf.cur k (putBits p) else s.conf.cur
      shadow := Sparse.modify resetWord s.conf.shadow k (putBits p) } }

/-- The fields of a list that take their values are written together; whether one was dropped (R41 to R43). -/
def putPieces (image : Bool) (idx : Nat) (ps : List Piece) (s : State) : State × Bool :=
  let ok := ps.filter (fieldTakes s image idx)
  (ok.foldl (putField image idx) s, decide (ok.length < ps.length))

/-- The fields that a masked write of a word touches, with their values; what a mask leaves out of a field is taken from
the word as it was last written. -/
def piecesOf (s : State) (tid idx word : Nat) (data mask : Word) : List Piece :=
  let merged := mergeBits (cwShadow s tid idx word) data mask
  (touched tid idx word mask).map fun d => (d, fld merged d.lo d.width)

/-- A write of a direct register's RW fields, with its REJECT (R41, R43). -/
def writeReg (off : Nat) (data mask : Word) (s : State) : State :=
  let r := putPieces false 0 (piecesOf s 0 0 (off / 4) data mask) s
  if r.2 then reject off 0 r.1 else r.1

/-! TENANT commits (R102). -/

/-- The value a commit gives a field of TENANT, or the one written last. -/
def pieceVal (s : State) (idx : Nat) (ps : List Piece) (word lo width : Nat) : Nat :=
  match ps.find? (fun p => p.1.word == word && p.1.lo == lo) with
  | some p => p.2
  | none => fld (cwShadow s 1 idx word) lo width

/-- A range overlaps the partition of an enabled tenant other than t. -/
def overlapsOther (s : State) (t b l : Nat) : Bool :=
  (enabledTenants s).any fun u => u != t && decide (b ≤ tLast s u) && decide (tBase s u ≤ l)

/-- A partition as R102 demands it. -/
def partOk (s : State) (t b l : Nat) : Bool := decide (b ≤ l) && decide (l < cellsCfg s) && !overlapsOther s t b l

/-- What R102 leaves of a TENANT commit. -/
def tenantCheck (s : State) (t : Nat) (ps : List Piece) : List Piece :=
  let isPart := fun (p : Piece) => p.1.word == 1 || p.1.word == 2
  let isFc := fun (p : Piece) => p.1.word == 3 || p.1.word == 4
  let ps1 := if ps.any isPart && !partOk s t (pieceVal s t ps 1 0 21) (pieceVal s t ps 2 0 21) then ps.filter (!isPart ·) else ps
  let sum := (List.range 64).foldl (fun a u => a + (if u = t then pieceVal s t ps1 0 16 12 else tPendMax s u)) 0
  let ps2 := if 4096 < sum then ps1.filter (fun p => !(p.1.word == 0 && p.1.lo == 16)) else ps1
  let ps3 := if pieceVal s t ps2 4 0 22 < pieceVal s t ps2 3 0 22 then ps2.filter (!isFc ·) else ps2
  if overlapsOther s t (pieceVal s t ps3 1 0 21) (pieceVal s t ps3 2 0 21) then
    ps3.filter (fun p => !(p.1.word == 0 && p.1.lo == 0 && p.2 == 1))
  else ps3

/-! Table words in storage. -/

/-- The key of a table word's storage. -/
def storeKey (s : State) (tid idx w : Nat) : Nat := ckey tid (if tid = 5 then ovlSel s * 1024 + idx else idx) w

/-- The address that source 0x17 reports. -/
def storeAddr (tid idx w : Nat) : Word := BitVec.ofNat 32 ((idx * tblWords tid + w) % 2 ^ 24 + tid * 2 ^ 24)

/-- A word is written with fresh check bits, with any armed injection (R322, R342). -/
def storeMark (k : Nat) (s : State) : State :=
  let j := injectUse 7 s
  { j.1 with conf := { j.1.conf with
      tblUe := if j.2 = 2 then insertNat k (removeNat k j.1.conf.tblUe) else removeNat k j.1.conf.tblUe
      tblCe := if j.2 = 1 then insertNat k (removeNat k j.1.conf.tblCe) else removeNat k j.1.conf.tblCe } }

/-- A staged word reaches its storage: false when a partial write meets an uncorrectable word and is dropped (R322,
R323). -/
def storeWrite (tid idx w : Nat) (be : ByteEn) (s : State) : Bool × State :=
  let k := storeKey s tid idx w
  if be ≠ allBe ∧ s.conf.tblUe.contains k then (false, tally 0x17 2 (storeAddr tid idx w) (ueWriteSet s))
  else
    let s1 := if be ≠ allBe ∧ s.conf.tblCe.contains k then tally 0x17 1 (storeAddr tid idx w) s else s
    (true, storeMark k s1)

/-- Effects of a committed word's bits that are not RW fields: RING RESET and ENABLE = 0 (R106), TALLY STICKY (R334), and
the commands and W1C bits of DDRMR (R215, R218, R220, Table: DDRMR entries). -/
def wordEffects (tid idx w : Nat) (data mask : Word) (s : State) : State :=
  let hit := fun (i : Nat) => data.getLsbD i && mask.getLsbD i
  if tid = 2 ∧ w = 0 then
    if hit 1 || (mask.getLsbD 0 && !data.getLsbD 0) then askReset idx s else s
  else if tid = 3 ∧ w = 1 then
    if hit 0 then modSrc idx (fun o => { o with sticky := o.inFrame }) s else s
  else if tid = 10 then
    if idx = 15 then
      let s1 := if hit 0 then trickleGo s else s
      if hit 1 then endPass true s1 else s1
    else if idx = 18 then (if hit 2 then { s with dram := { s.dram with cut := false } } else s)
    else if idx = 20 then
      let s1 := if hit 1 then { s with dram := { s.dram with trainFail := false } } else s
      if hit 0 then trainStart s1 else s1
    else if idx = 21 then
      { s with dram := { s.dram with
          forced := s.dram.forced && !hit 8
          gntIgn := s.dram.gntIgn && !hit 9 } }
    else s
  else s

/-- A staged image word is written (R38). -/
def stageWord (idx : Nat) (data mask : Word) (s : State) : State :=
  let i := ovlSel s
  { s with conf := { s.conf with
      staged := Sparse.modify (fun _ => 0xFFFFFFFF) s.conf.staged (i * 1024 + idx) (mergeBits · data mask)
      edited := insertNat i s.conf.edited } }

/-- A commit of words with their byte enables (R92): the words that reach storage, the fields together, one REJECT for any
that are dropped, and the other effects. A write of DDRMR may let ready fall (R212). -/
def commitEntry (tid idx : Nat) (ws : List (Word × ByteEn)) (s : State) : State :=
  let step := fun (a : List (Nat × Word × Word) × State) (p : (Word × ByteEn) × Nat) =>
    if p.1.2 = 0 then a
    else
      let r := storeWrite tid idx p.2 p.1.2 a.2
      (if r.1 then a.1 ++ [(p.2, p.1.1, beMask p.1.2)] else a.1, r.2)
  let r := ws.zipIdx.foldl step ([], s)
  if tid = 5 then r.1.foldl (fun s x => stageWord idx x.2.1 x.2.2 s) r.2
  else
    let ps := r.1.flatMap fun x => (touched tid idx x.1 x.2.2).map fun (d : FDesc) => (d, fld x.2.1 d.lo d.width)
    let ok := ps.filter (fieldTakes s false idx)
    let ok1 := if tid = 1 then tenantCheck s idx ok else ok
    let s1 := ok1.foldl (putField false idx) r.2
    let s2 := r.1.foldl (fun s x => wordEffects tid idx x.1 x.2.1 x.2.2 s) s1
    let s3 := if tid = 10 then readyCheck s2 else s2
    if ok1.length < ps.length then reject 0x2C tid s3 else s3

end Sys2Proof.Machine
end

