-- ==== Sys2Proof/Machine/Tables.lean ====
section
/-! DEFINITION. Indirect table access (R90 to R94, R346): the latch, its fetch, reads and writes through TBL_DATA. -/

namespace Sys2Proof.Machine

/-! Reading entries from where they lie. -/

/-- One word of an event record: from the bank with no running operation, bank A first, or from bank B where a program of bank A
failed; else the other bank's copy (R301, R345). -/
def logRead (p : Nat × Record) (y : Bool) (s : State) : Option DWord × State :=
  let first := p.2.onB || (match s.arr.run with | some o => bankOf o.off == 0 | none => false)
  match readWord (logOff p.1 y first / 8) s with
  | (some d, s1) => (some d, s1)
  | (none, s1) => if p.2.onB then (none, s1) else readWord (logOff p.1 y (!first) / 8) s1

/-- An EVENTLOG entry (R346). -/
def logFetch (idx : Nat) (s : State) : Option (List Word) × State :=
  match heldRecord s idx with
  | some p =>
    let x := logRead p false s
    let y := logRead p true x.2
    match x.1, y.1 with
    | some a, some b => (some [a.truncate 32, (a >>> 32).truncate 32, b.truncate 32, (b >>> 32).truncate 32], y.2)
    | _, _ => (none, y.2)
  | none => (none, s)

/-- The LOSTCELL entry of an index changes. -/
def modLost (i : Nat) (f : Lost → Lost) (s : State) : State :=
  if i < 16320 then { s with ret := { s.ret with lost := s.ret.lost.modify i f } }
  else { s with ret := { s.ret with overflow := s.ret.overflow.map fun p => if p.1 + 16320 = i then (p.1, f p.2) else p } }

/-- The read of one stored word meets its error (R321): true when it is uncorrectable. -/
def storeRead (tid idx w : Nat) (s : State) : Bool × State :=
  if tid = 12 then
    let a : Word := BitVec.ofNat 32 (0xFF * 2 ^ 24 + (idx * 4 + w) % 2 ^ 24)
    match lostAt s idx with
    | some l =>
      if l.ueW.contains w then (true, tally 0x17 2 a s)
      else if l.ceW.contains w then (false, tally 0x17 1 a (modLost idx (fun l => { l with ceW := removeNat w l.ceW }) s))
      else (false, s)
    | none => (false, s)
  else
    let k := storeKey s tid idx w
    if s.conf.tblUe.contains k then (true, tally 0x17 2 (storeAddr tid idx w) s)
    else if s.conf.tblCe.contains k then
      (false, tally 0x17 1 (storeAddr tid idx w) { s with conf := { s.conf with tblCe := removeNat k s.conf.tblCe } })
    else (false, s)

/-- An entry is read whole, with the upper half of EPOCH that an index-0 read latches: its words, none when one of them is
uncorrectable (R94, R346). -/
def entryFetch (hi : BitVec 16) (tid idx : Nat) (s : State) : Option (List Word) × State :=
  if tid = 13 then logFetch idx s
  else
    let r := (List.range (tblWords tid)).foldl (fun (a : Bool × State) w =>
      let x := storeRead tid idx w a.2
      (a.1 || x.1, x.2)) (false, s)
    (if r.1 then none else some (tblEntry r.2 hi tid idx), r.2)

/-! The host's latch. -/

/-- A table access fails (R94). -/
def tblFail (code : Nat) (s : State) : State := { s with host := { s.host with tblErr := true, tblCode := code } }

/-- A TBL_ADDR write (R90). -/
def applyTblAddr (data : Word) (s : State) : State :=
  { s with host := { s.host with
      tblTid := fld data 24 8, tblIdx := fld data 0 24, tblWord := 0, tblBusy := true, latch := [], stagedBe := [], latchUe := false } }

/-- The words of an entry, each with its staged bytes kept (R91). -/
def refreshWords (old : List Word) (be : List ByteEn) (new : List Word) : List Word :=
  new.zipIdx.map fun p => mergeBits p.1 (old.getD p.2 0) (beMask (be.getD p.2 0))

/-- The latch is filled from the live entry; an uncorrectable word fails with code 5 (R90, R91, R94). -/
def latchFill (s : State) : State :=
  let h := s.host
  if tblCode s h.tblTid h.tblIdx != 0 then { s with host := { h with latch := [], latchUe := false } }
  else
    let r := entryFetch s.fr.latchHi h.tblTid h.tblIdx s
    match r.1 with
    | some ws => { r.2 with host := { r.2.host with latch := refreshWords h.latch h.stagedBe ws, latchUe := false } }
    | none =>
      tblFail 5 { r.2 with host := { r.2.host with
        latch := refreshWords h.latch h.stagedBe (List.replicate (tblWords h.tblTid) 0), latchUe := true } }

/-- TABLE_FETCH_DONE (R90). -/
def fetchDone (s : State) : State :=
  if s.host.tblBusy then
    let s1 := { s with host := { s.host with tblBusy := false, stagedBe := [] } }
    latchFill s1
  else s

/-- WORD, INDEX and the latch after an access that does not fail (R93). -/
def tblAdvance (s : State) : State :=
  let h := s.host
  if !h.tblInc then s
  else if h.tblWord + 1 < tblWords h.tblTid then { s with host := { h with tblWord := h.tblWord + 1 } }
  else if tblCount s h.tblTid ≤ h.tblIdx + 1 then tblFail 2 { s with host := { h with tblWord := 0 } }
  else
    { s with host := { h with
      tblWord := 0, tblIdx := h.tblIdx + 1, tblBusy := true, latch := [], stagedBe := [], latchUe := false } }

/-- Why an access of the latched entry fails: 0 it does not (R94). -/
def accessCode (s : State) : Nat :=
  let c := tblCode s s.host.tblTid s.host.tblIdx
  if c != 0 then c else if tblWords s.host.tblTid ≤ s.host.tblWord then 4 else 0

/-- A TIME or RC word is read live, cleared, and leaves the rest as latched (R51, R91). -/
def liveWord (w : Word) (s : State) : Word × State :=
  let h := s.host
  let m := rcMask h.tblTid h.tblIdx h.tblWord
  if m = 0 then (w, s)
  else
    let s1 := if h.tblTid = 9 ∧ h.tblIdx = 0 then { s with fr := { s.fr with latchHi := (s.fr.epoch >>> 32).truncate 16 } } else s
    (mergeBits w (tblWordVal s1 s1.fr.latchHi h.tblTid h.tblIdx h.tblWord) m, rcClear h.tblTid h.tblIdx h.tblWord s1)

/-- A TBL_DATA read (R91, R93, R94, R321). A refresh that meets an uncorrectable word fails and leaves the latch as it was
(R93). -/
def readTblData (s : State) : Word × State :=
  match accessCode s with
  | 0 =>
    let s1 := if s.host.tblWord = 0 then latchFill s else s
    if s1.host.latchUe then
      (0, tblFail 5 { s1 with host := { s1.host with latch := s.host.latch, stagedBe := s.host.stagedBe, latchUe := s.host.latchUe } })
    else
      let r := liveWord (s1.host.latch.getD s1.host.tblWord 0) s1
      (r.1, tblAdvance r.2)
  | c => (0, tblFail c s)

/-- A table takes no writes. -/
def roTable (tid : Nat) : Bool := tid == 8 || tid == 9 || tid == 12 || tid == 13

/-- Every field of the word is RO (R94). -/
def roWord (tid idx w : Nat) : Bool :=
  if tid = 1 then w == 5
  else if tid = 2 then w == 1
  else if tid = 3 then w == 2 || w == 3
  else if tid = 4 then w == 3
  else if tid = 6 then decide (1 ≤ w)
  else if tid = 7 then decide (1 ≤ w)
  else if tid = 10 then idx == 19 || decide (23 ≤ idx)
  else if tid = 11 then idx == 1 || decide (10 ≤ idx) || (decide (2 ≤ idx) && w == 3)
  else false

/-- The enabled bytes merge into the latch, are marked staged, and a write to the last word commits (R92). -/
def stageData (data : Word) (be : ByteEn) (s : State) : State :=
  let h := s.host
  let n := tblWords h.tblTid
  let latch := (List.range n).map fun i => if i = h.tblWord then mergeBe (h.latch.getD i 0) data be else h.latch.getD i 0
  let bes := (List.range n).map fun i => if i = h.tblWord then h.stagedBe.getD i 0 ||| be else h.stagedBe.getD i 0
  let s1 := { s with host := { h with latch := latch, stagedBe := bes } }
  if h.tblWord + 1 = n then commitEntry h.tblTid h.tblIdx (latch.zip bes) { s1 with host := { s1.host with stagedBe := [] } } else s1

/-- A TBL_DATA write (R38, R92 to R94). -/
def applyTblData (data : Word) (be : ByteEn) (s : State) : State :=
  let h := s.host
  match accessCode s with
  | 0 =>
    let ro := roWord h.tblTid h.tblIdx h.tblWord
    if roTable h.tblTid || (ro && (data &&& beMask be) != 0) then tblFail 3 s
    else if h.tblTid = 5 ∧ s.top.state ≠ .service then tblAdvance (if be = 0 then s else reject 0x2C 5 s)
    else tblAdvance (stageData data (if ro then 0 else be) s)
  | c => tblFail c s

/-- A TBL_CTRL write. -/
def applyTblCtrl (data : Word) (be : ByteEn) (s : State) : State :=
  let h := s.host
  { s with host := { h with
      tblWord := if be.getLsbD 0 then fld data 0 4 else h.tblWord
      tblInc := if be.getLsbD 0 then data.getLsbD 4 else h.tblInc
      tblErr := h.tblErr && !(be.getLsbD 1 && data.getLsbD 9) } }

/-- A TBL_DATA write that leaves the post buffer; while BUSY it stays there (R90). -/
def leaveTblData (data : Word) (be : ByteEn) (s : State) : State :=
  if s.host.tblBusy then s else leave ⟨0x2C, data, be⟩ (applyTblData data be) s

/-- TBL_ADDR and TBL_CTRL name a DDRMR index, at word 0. -/
def atDdr (s : State) (idx : Nat) : Bool := s.host.tblTid == 10 && s.host.tblIdx == idx && s.host.tblWord == 0

/-! One definition per command. -/

def execTblAddrWrite (data : Word) (be : ByteEn) (s : State) : Out :=
  .next (leave ⟨0x28, data, be⟩ (applyTblAddr data) s)
def execTableFetchDone (s : State) : Out := .next (fetchDone s)
def execTblDataRead (s : State) : Out := .next (if s.host.tblBusy then s else busRead readTblData s)
def execTblDataWrite (data : Word) (be : ByteEn) (s : State) : Out := .next (leaveTblData data be s)
def execTrainStart (be : ByteEn) (s : State) : Out := .next (if atDdr s 20 then leaveTblData 1 be s else s)
def execTrickleGo (be : ByteEn) (s : State) : Out := .next (if atDdr s 15 then leaveTblData 1 be s else s)
def execTrickleCancel (be : ByteEn) (s : State) : Out := .next (if atDdr s 15 then leaveTblData 2 be s else s)

end Sys2Proof.Machine
end

