-- ==== Sys2Proof/Machine/Overlay.lean ====
section
/-! DEFINITION. Images (R34 to R38, R416): their form and validity, the base load, the overlays applied at state entries,
the staged copies, and commits. -/

namespace Sys2Proof.Machine

/-! Where images lie (R290: base image in sector 96, overlays in sector 97). -/

/-- The byte offset of an image in bank A: overlay i takes 256 bytes at i × 256 of sector 97. -/
def imgOff (img : Nat) : Nat := if img = 5 then 0x180000 else 0x184000 + img * 256

/-- 32-bit words of an image's area. -/
def imgLen (img : Nat) : Nat := if img = 5 then 1024 else 64

/-- Word i of an image's copy in a bank; none when it is uncorrectable. -/
def imgWord (s : State) (img : Nat) (bankB : Bool) (i : Nat) : Option Word :=
  let off := imgOff img + 4 * i + (if bankB then 0x200000 else 0)
  (peekWord s (off / 8)).map fun (d : DWord) => if off % 8 < 4 then d.truncate 32 else (d >>> 32).truncate 32

/-- The area reads erased in a bank. -/
def imgErased (s : State) (img : Nat) (bankB : Bool) : Bool :=
  let w0 := (imgOff img + (if bankB then 0x200000 else 0)) / 8
  (List.range (imgLen img / 2)).all fun i => wordBlank s (w0 + i)

/-! Records. -/

/-- RW words whose value another block holds. -/
def specialOff (off : Nat) : Bool := off ∈ [0x28, 0x2C, 0x30, 0x78, 0x94]

/-- The RW bits of such a word. -/
def specialMask (off : Nat) : Word := if off = 0x30 then 0x1F else 0xFFFFFFFF

/-- The value of such a word. -/
def specialVal (s : State) (off : Nat) : Word :=
  if off = 0x28 then BitVec.ofNat 32 (s.host.tblTid * 2 ^ 24 + s.host.tblIdx % 2 ^ 24)
  else if off = 0x2C then s.host.latch.getD s.host.tblWord 0
  else if off = 0x30 then pack [(s.host.tblWord, 4, 0), (b2n s.host.tblInc, 1, 4)]
  else if off = 0x78 then s.scout.rtcSec
  else s.arr.port.addr

/-- A write of RTC_SEC (R169, R196): seconds, tick 0, and at the end of the frame the open interval closes. -/
def setRtc (v : Word) (s : State) : State :=
  { s with
    scout := { s.scout with rtcSec := v, rtcTick := 0 }
    store := { s.store with rtcSet := true } }

/-- A write of such a word. -/
def writeSpecial (off : Nat) (data mask : Word) (s : State) : State :=
  let v := mergeBits (specialVal s off) data mask
  let be : ByteEn := BitVec.ofNat 4 ((List.range 4).foldl (fun a i => a + b2n (fld mask (8 * i) 8 != 0) * 2 ^ i) 0)
  if off = 0x28 then applyTblAddr v s
  else if off = 0x2C then applyTblData v be s
  else if off = 0x30 then applyTblCtrl v 1 s
  else if off = 0x78 then setRtc v s
  else { s with arr := { s.arr with port := { s.arr.port with addr := v } } }

/-- The bits of a word that are RW fields, B-class fields among them only with b. -/
def rwMask (tid idx word : Nat) (b : Bool) : Word :=
  if tid = 0 ∧ specialOff (4 * word) then specialMask (4 * word)
  else (fieldsOf tid idx word).foldl (fun a d => if b || d.cls != .boot then a ||| fmask d.lo d.width else a) 0

/-- A record that does not make its image invalid (R35). -/
def recOk (s : State) (img : Nat) (r : ImgRec) : Bool :=
  let place := if r.tid = 0 then r.idx == 0
    else decide (r.tid ≤ 13) && !(r.tid ∈ [5, 8, 9, 12, 13]) && decide (r.idx < tblCount s r.tid) &&
      decide (r.off < 4 * tblWords r.tid)
  place && r.off % 4 == 0 && (r.mask &&& ~~~(rwMask r.tid r.idx (r.off / 4) (img == 5))) == 0 &&
    (r.value &&& ~~~r.mask) == 0 && (!r.watch || img == 0)

/-- A record from its four words (Table: Image record). -/
def recOf (w0 w1 w2 w3 : Word) : ImgRec := ⟨fld w0 24 8, fld w0 8 16, fld w0 0 8, w1, w2, w3.getLsbD 0⟩

/-- The records of an image from its words. -/
def recsOf : List Word → List ImgRec
  | a :: b :: c :: d :: ws => recOf a b c d :: recsOf ws
  | _ => []

/-- The words from first to stop − 1 of a copy; none if one is uncorrectable. -/
def imgWords (s : State) (img : Nat) (bankB : Bool) (n : Nat) : Option (List Word) :=
  (List.range n).foldr (fun i acc => match imgWord s img bankB i, acc with
    | some w, some ws => some (w :: ws)
    | _, _ => none) (some [])

/-- The records of a valid copy (R35, R416); none when it is invalid. -/
def imgRead (s : State) (img : Nat) (bankB : Bool) : Option (List ImgRec) :=
  match imgWords s img bankB 4 with
  | some [h0, h1, h2, h3] =>
    let n := fld h1 0 8
    if h0 = 0x4F564C31 ∧ n ≤ (if img = 5 then 255 else 15) ∧ fld h1 8 8 = img then
      match imgWords s img bankB (4 + 4 * n) with
      | some ws =>
        let body := ws.drop 4
        let recs := recsOf body
        if Sha.crc32 (([h0, h1, h2] ++ body).flatMap bytesOf) = h3 ∧ recs.all (recOk s img) then some recs else none
      | none => none
    else none
  | _ => none

/-- How an image stands (R29, R35): its records if a copy is valid, and whether bank B's copy is used. -/
def imgChoose (s : State) (img : Nat) : Option (List ImgRec) × Bool :=
  match imgRead s img false with
  | some rs => (some rs, false)
  | none => match imgRead s img true with
    | some rs => (some rs, true)
    | none => (none, false)

/-- An overlay that was never committed (R35). -/
def imgAbsent (s : State) (img : Nat) : Bool := img != 5 && imgErased s img false && imgErased s img true

/-- The reads of an area meet the errors of its words (R300): one message a marked word, one for a retired sector. -/
def areaErrors (img : Nat) (bankB : Bool) (s : State) : State :=
  let w0 := (imgOff img + (if bankB then 0x200000 else 0)) / 8
  let stop := w0 + imgLen img / 2
  let bad := (s.arr.ceMarks ++ s.arr.ueMarks).filter fun w => decide (w0 ≤ w) && decide (w < stop)
  let ws := if s.arr.retired.contains (secOf (8 * w0)) then [w0] else bad
  ws.foldl (fun s w => (readWord w s).2) s

/-! Staged copies (R38). -/

/-- The staged copy of an image is loaded with its stored area; an uncorrectable word reads 0 (R300). -/
def stageLoad (img : Nat) (s : State) : State :=
  let b := (imgChoose s img).2
  let new := (List.range (imgLen img)).filterMap fun i =>
    let w := (imgWord s img b i).getD 0
    if w = 0xFFFFFFFF then none else some (img * 1024 + i, w)
  let old := s.conf.staged
  { s with conf := { s.conf with
      staged := (old.filter fun p => decide (p.1 < img * 1024)) ++ new ++ (old.filter fun p => decide ((img + 1) * 1024 ≤ p.1))
      edited := removeNat img s.conf.edited } }

/-- An image's records are noted as its active copy, with OVL_BAD and the IMAGE message of R35. -/
def imgNote (img : Nat) (s : State) : State :=
  let c := imgChoose s img
  let others := s.conf.images.filter (·.1 != img)
  let s1 := { s with conf := { s.conf with images := others ++ (match c.1 with | some rs => [(img, rs)] | none => []) } }
  if img = 5 then s1
  else
    let bad := c.1.isNone && !imgAbsent s img
    let s2 := { s1 with top := { s1.top with ovlBad := if bad then insertNat img s1.top.ovlBad else removeNat img s1.top.ovlBad } }
    if bad || c.2 then tally 0x0C 3 (BitVec.ofNat 32 img) s2 else s2

/-! Applying records (R36). -/

/-- What a written register does besides holding its value: bus mode (R72), HINT_N (R86), the frame marker (R338) and
arming an injection (R342). -/
def regHook (off : Nat) (mask : Word) (s : State) : State :=
  if off = 0x18 then
    if crb s 0x18 0 then (if s.host.sync then s else { s with host := { s.host with syncWait := true } })
    else { s with host := { s.host with sync := false, syncWait := false } }
  else if off = 0x20 then hintFollow s
  else if off = 0xA4 then
    if crb s 0xA4 11 then { s with tally := { s.tally with markEnd := true, pulseLeft := none } } else s
  else if off = 0xA8 then
    if (mask &&& 0xFF00) != 0 && s.tally.injLeft == 0 && crf s 0xA8 0 4 != 0 && crf s 0xA8 8 8 != 0 then
      { s with tally := { s.tally with injChk := crf s 0xA8 0 4, injDbl := crb s 0xA8 4, injLeft := crf s 0xA8 8 8 } }
    else s
  else s

/-- A record acts as a write of the fields that its MASK covers (R36). -/
def applyRec (s : State) (r : ImgRec) : State :=
  if r.tid = 0 ∧ specialOff r.off then writeSpecial r.off r.value r.mask s
  else
    let x := putPieces true r.idx (piecesOf s r.tid r.idx (r.off / 4) r.value r.mask) s
    let s1 := if r.tid = 0 then regHook r.off r.mask x.1
      else wordEffects r.tid r.idx (r.off / 4) r.value r.mask (storeMark (storeKey s r.tid r.idx (r.off / 4)) x.1)
    if x.2 then reject (if r.tid = 0 then r.off else 0x2C) r.tid s1 else s1

/-- The fields of a word whose value another block holds, as masks. -/
def specialFields (off : Nat) : List Word :=
  if off = 0x28 then [0x00FFFFFF, 0xFF000000] else if off = 0x30 then [0x0F, 0x10] else [0xFFFFFFFF]

/-- Every bit of the fields that a record's MASK touches: a field is named whole, however few of its bits MASK covers. -/
def namedMask (r : ImgRec) : Word :=
  if r.tid = 0 ∧ specialOff r.off then
    (specialFields r.off).foldl (fun a m => if (m &&& r.mask) != 0 then a ||| m else a) 0
  else (touched r.tid r.idx (r.off / 4) r.mask).foldl (fun a d => a ||| fmask d.lo d.width) 0

/-- The fields that a record names return to their base values (R36). -/
def revertRec (s : State) (r : ImgRec) : State :=
  let k := ckey r.tid r.idx (r.off / 4)
  let b := Sparse.get resetWord s.conf.base k
  let m := namedMask r
  if r.tid = 0 ∧ specialOff r.off then writeSpecial r.off b m s
  else
    let back := fun (w : Word) => mergeBits w b m
    let s1 := { s with conf := { s.conf with
      cur := Sparse.modify resetWord s.conf.cur k back
      shadow := Sparse.modify resetWord s.conf.shadow k back } }
    if r.tid = 0 then regHook r.off m s1 else wordEffects r.tid r.idx (r.off / 4) b m s1

/-- The overlay of a state (Table: Overlay use by state): the image and whether its WATCH records apply; none: it keeps
what is in force. -/
def overlayOf (st : DevState) : Option (Nat × Bool) :=
  match st with
  | .guard => some (0, false) | .watch => some (0, true) | .harvest => some (1, false) | .ret => some (2, false)
  | .dormant => some (3, false) | .service => some (4, false)
  | .wake => none | .hold => none | .early => none | .off => none

/-- The records that an image gives to a state. -/
def overlayRecs (s : State) (o : Nat × Bool) : List ImgRec :=
  match s.conf.images.find? (·.1 == o.1) with
  | some p => (p.2.filter fun r => !r.watch) ++ (if o.2 then p.2.filter (·.watch) else [])
  | none => []

/-- The overlays at a state entry (R36). -/
def enterOverlay (st : DevState) (s : State) : State :=
  match overlayOf st with
  | some o =>
    let recs := overlayRecs s o
    let s1 := s.conf.ovl.foldl revertRec s
    let s2 := recs.foldl applyRec s1
    { s2 with conf := { s2.conf with ovl := recs } }
  | none => s

/-- The configurable words that lie in AON: Scout's, DEBUG_CTRL, and HARVEST_STAT.SEL, which only AON POR clears. DEDUCED. -/
def aonWord (k : Nat) : Bool := k ∈ [ckey 0 0 (0x54 / 4), ckey 0 0 (0x5C / 4), ckey 0 0 (0x7C / 4), ckey 0 0 (0x80 / 4), ckey 0 0 (0xC8 / 4)]

/-- A record whose word lies in AON: those words and RTC_SEC. -/
def aonRec (r : ImgRec) : Bool := r.tid == 0 && (aonWord (ckey 0 0 (r.off / 4)) || r.off == 0x78)

/-- The configuration while the islands are off: AON's words with a write that waits for its boundary, their base values, the
records in force on them, and the DORMANT overlay's records that name them, of which AON keeps a copy. DEDUCED (R31, R36). -/
def aonConf (c : Conf) : Conf :=
  { cur := c.cur.filter (fun p => aonWord p.1)
    shadow := c.shadow.filter (fun p => aonWord p.1)
    base := c.base.filter (fun p => aonWord p.1)
    ovl := c.ovl.filter aonRec
    images := (c.images.filter (·.1 == 3)).map fun p => (p.1, p.2.filter aonRec) }

/-- DORMANT is entered while the islands are off: the outgoing overlay's AON fields return to base and the DORMANT overlay's
AON records apply (R36). -/
def aonOverlay (s : State) : State :=
  let t := enterOverlay .dormant s
  { s with conf := t.conf, scout := t.scout }

/-! Phase IMAGE. -/

/-- Records that SOFT_RESET's WAKE skips (R84). -/
def skipRec (s : State) (r : ImgRec) : Bool :=
  s.top.cause == 4 && r.tid == 0 && (r.off ∈ [0x18, 0x20, 0x28, 0x30])

/-- Every configurable word takes its Reset value, but for what the host may have written since WAKE began (R30) and the
HBI configuration that SOFT_RESET keeps (R84), and HARVEST_STAT.SEL (R242). -/
def confReset (s : State) : State :=
  let keep := fun (p : Nat × Word) => p.1 ∈ [ckey 0 0 (0xF0 / 4), ckey 0 0 (0xF4 / 4), ckey 0 0 (0x20 / 4), ckey 0 0 (0x80 / 4)] ||
    (s.top.cause == 4 && p.1 == ckey 0 0 (0x18 / 4))
  { s with conf := { s.conf with
      cur := s.conf.cur.filter keep
      shadow := s.conf.shadow.filter keep
      ovl := [] } }

/-- No ring reset is outstanding: WAKE has emptied every ring (R105). -/
def ringsQuiet (s : State) : State :=
  (s.ring.rings.map (·.1)).foldl (fun s r => modRing r (fun g => { g with reset := 0 }) s) s

/-- The base image is loaded (R29, R36): BASE_ALT, the IMAGE message when no copy is valid, and the base values. -/
def baseLoad (s : State) : State :=
  let c := imgChoose s 5
  let s1 := confReset s
  let recs := ((c.1.getD []).filter fun r => !skipRec s r)
  let s2 := ringsQuiet (recs.foldl applyRec { s1 with top := { s1.top with baseAlt := c.2, baseNone := c.1.isNone } })
  let specials := recs.filter fun r => r.tid == 0 && specialOff r.off
  let base := specials.foldl (fun m r => Sparse.modify resetWord m (ckey 0 0 (r.off / 4)) (mergeBits · r.value r.mask)) s2.conf.cur
  let s3 := { s2 with conf := { s2.conf with base := base } }
  if c.1.isNone then tally 0x0C 3 5 s3 else s3

/-- The check of R172. -/
def pfOk (s : State) : Bool :=
  let warn := crf s 0x54 0 8; let trip := crf s 0x54 8 8; let hrst := crf s 0x54 16 8; let hyst := crf s 0x54 24 4
  decide (0xB4 ≤ trip) && decide (hrst < trip) && decide (1 ≤ hyst) && decide (trip + hyst < warn) && decide (warn ≤ 0xEC)

/-- Scout checks the loaded thresholds (R172). -/
def pfCheck (s : State) : State :=
  let s1 := { s with scout := { s.scout with thrDef := !pfOk s } }
  if pfOk s then s1
  else
    let k := ckey 0 0 (0x54 / 4)
    let back := fun (w : Word) => mergeBits w 0x44C0CCDC 0x0FFFFFFF
    tally 0x0C 5 0 { s1 with conf := { s1.conf with
      cur := Sparse.modify resetWord s1.conf.cur k back
      shadow := Sparse.modify resetWord s1.conf.shadow k back
      base := Sparse.modify resetWord s1.conf.base k back } }

/-- The lowest unallocated ring is reported once per WAKE (R104). -/
def ringCheck (s : State) : State :=
  if rAlloc s 255 then s
  else match (List.range 256).find? (fun r => !rAlloc s r) with
    | some r => tally 0x0C 4 (BitVec.ofNat 32 r) s
    | none => s

/-! Commits (R38, R306). -/

/-- The commit's words for one bank: the image's staged words, the sequence number of header word 2 among them as it was
staged (whoever edits the copy counts it: DEDUCED, log entry 24), and, in the overlay sector, the other overlays as stored. -/
def commitWords (s : State) (img : Nat) (bankB : Bool) : List (Nat × DWord) :=
  let base := if bankB then 0x200000 else 0
  let sec := if img = 5 then 0x180000 else 0x184000
  let n := if img = 5 then 512 else 160
  (List.range n).filterMap fun i =>
    let off := sec + 8 * i
    let mine := decide (imgOff img ≤ off) && decide (off < imgOff img + 4 * imgLen img)
    let j := (off - imgOff img) / 4
    let d : DWord := if mine then (stagedWord s img j).zeroExtend 64 ||| ((stagedWord s img (j + 1)).zeroExtend 64 <<< 32)
      else match peekWord s ((off + base) / 8) with
        | some d => d
        | none => (peekWord s ((off + 0x200000 - base) / 8)).getD erasedWord
    if d = erasedWord then none else some (off + base, d)

/-- COMMIT is accepted: both banks are erased and written, bank A first. -/
def commitStart (s : State) : State :=
  let img := ovlSel s
  let sec := if img = 5 then 0x180000 else 0x184000
  let one := fun (bankB : Bool) (s : State) =>
    let base := if bankB then 0x200000 else 0
    let ws := commitWords s img bankB
    let s1 := submit { req := .engine, erase := true, off := sec + base, tag := 4, arg := img } s
    ws.foldl (fun s p => submit { req := .engine, erase := false, off := p.1, data := p.2, tag := 4, arg := img } s) s1
  let s1 := one true (one false s)
  { s1 with conf := { s1.conf with commit := some img } }

/-- An operation of a commit has ended: with none left, the images are validated anew (R38). -/
def commitEnd (img : Nat) (s : State) : State :=
  let mine := fun (o : ArrOp) => o.tag == 4 && o.arg == img
  let left := fun (p : ArrOp → Bool) => s.arr.queue.any p || (s.arr.run.map p).getD false || (s.arr.susp.map fun z => p z.op).getD false
  if left mine then s
  else
    let s1 := imgNote img { s with conf := { s.conf with edited := removeNat img s.conf.edited } }
    if left (fun o => o.tag == 4) then s1 else { s1 with conf := { s1.conf with commit := none } }

/-- COMMIT = 1 (R38, R41, R306). -/
def overlayCommit (s : State) : State :=
  if s.top.state ≠ .service || progOut s .host || eraseOut s .host || eraseSusp s .host then reject 0xD8 0 s
  else commitStart s

/-- An OVERLAY_SEL write: OVL, then COMMIT and REVERT. -/
def applyOverlaySel (data : Word) (be : ByteEn) (s : State) : State :=
  let s1 := writeReg 0xD8 data (beMask be) s
  let s2 := if be.getLsbD 1 && data.getLsbD 8 then overlayCommit s1 else s1
  if be.getLsbD 1 && data.getLsbD 9 then stageLoad (ovlSel s2) s2 else s2

/-! One definition per command. -/

def execOverlayCommit (be : ByteEn) (s : State) : Out :=
  let data := pack [(ovlSel s, 3, 0), (1, 1, 8)]
  .next (leave ⟨0xD8, data, be⟩ (applyOverlaySel data be) s)
def execOverlayRevert (be : ByteEn) (s : State) : Out :=
  let data := pack [(ovlSel s, 3, 0), (1, 1, 9)]
  .next (leave ⟨0xD8, data, be⟩ (applyOverlaySel data be) s)

end Sys2Proof.Machine
end

