-- ==== Sys2Proof/Machine/Wake.lean ====
section
/-! DEFINITION. The work of WAKE (R27 to R29, R172, R176, R266, R310, R326, R346, R356 to R362): the flag scan, phase
IMAGE, phase CATALOG and the decision. -/

namespace Sys2Proof.Machine

/-! Phase SCAN. -/

/-- A sector is retired (R309). -/
def retire (sec : Nat) (s : State) : State :=
  tally 0x33 3 (BitVec.ofNat 32 (sec * 0x4000))
    { s with arr := { s.arr with retired := insertNat sec s.arr.retired, retCnt := satInc 255 s.arr.retCnt } }

/-- An erase ends in success: the sector is blank and UFE clears (R294). -/
def eraseOk (sec : Nat) (s : State) : State :=
  let s1 := blankSector sec s
  { s1 with arr := { s1.arr with ufe := removeNat sec s1.arr.ufe } }

/-- An erase ends in FAIL (R294, R309). -/
def eraseFail (sec : Nat) (s : State) : State := retire sec (tally 0x33 2 (BitVec.ofNat 32 (sec * 0x4000)) s)

/-- The sectors that SCAN resolves, in scan order (R310). -/
def toResolve (s : State) : List Nat := s.arr.ufe.filter fun x => !s.arr.retired.contains x

/-- The least frames a resolution takes: 1 pulse, or 48 where it fails (R295). -/
def resolveFrames (s : State) (failed : List Nat) : Nat :=
  (toResolve s).foldl (fun a x => a + (if failed.contains x then 27097 else 614)) 0

/-- WAKE_SCAN_DONE (R28, R310). -/
def scanDone (failed : List Nat) (s : State) : State :=
  if s.top.state = .wake ∧ s.top.phase = .scan ∧ s.top.wakeStep = 0 ∧ 2559 + resolveFrames s failed ≤ s.top.inState then
    let s1 := { s with arr := { s.arr with retCnt := min 255 s.arr.retired.length } }
    let s2 := (toResolve s).foldl (fun s x =>
      let s' := tally 0x34 1 (BitVec.ofNat 32 (x * 0x4000)) s
      if failed.contains x then eraseFail x s' else eraseOk x s') s1
    { s2 with top := { s2.top with wakeStep := 1 }, arr := { s2.arr with resolve := none } }
  else s

/-! Phase IMAGE: firmware and extension. -/

/-- The form of a firmware or extension image at an array offset (Table: Extension image): MAGIC, LENGTH, ENTRY and the
reserved bytes. -/
def imageForm (s : State) (off : Nat) (magic : Word) (maxLen : Nat) : Bool :=
  let len := (arrHalf s (off + 4)).toNat
  let entry := (arrHalf s (off + 12)).toNat
  arrHalf s off == magic && decide (4 ≤ len) && decide (len ≤ maxLen) && len % 4 == 0 && entry % 4 == 0 && decide (entry < len) &&
    arrHalf s (off + 20) == 0 && arrHalf s (off + 24) == 0 && arrHalf s (off + 28) == 0

/-- Every sector from lo to hi − 1 is neither retired nor holds an uncorrectable word. -/
def sectorsRead (s : State) (lo hi : Nat) : Bool :=
  !(s.arr.retired.any fun x => decide (lo ≤ x) && decide (x < hi)) &&
  !(s.arr.ueMarks.any fun w => decide (lo ≤ secOf (8 * w)) && decide (secOf (8 * w) < hi))

/-- A bank's firmware image is valid (R356, R358). -/
def fwValid (s : State) (bankB : Bool) (c : ImageCheck) : Bool :=
  let off := if bankB then 0x200000 else 0
  imageForm s off 0x57464E4E 1310592 && arrHalf s (off + 16) == 0 && c.digestOk && c.sigOk &&
    decide (s.sec.fwMin ≤ fld (arrHalf s (off + 8)) 24 8) && sectorsRead s (secOf off) (secOf off + 80)

/-- The boot ROM's choice (R358): the cores leave reset on the booted image; with none, FW_NONE. -/
def fwBoot (i : ImageIn) (s : State) : State :=
  let a := fwValid s false i.fwA
  let b := fwValid s true i.fwB
  let va := (arrHalf s 8).toNat
  let vb := (arrHalf s 0x200008).toNat
  let useB := b && (!a || decide (va < vb))
  let core : Core := { inReset := false }
  if a || b then
    let s1 := { s with hive := { s.hive with
      a := core
      b := core
      fwNone := false
      fwBankB := useB
      fwVersion := some (BitVec.ofNat 32 (if useB then vb else va)) } }
    if useB && !a then tally 0x24 2 0 s1 else s1
  else tally 0x24 1 0 { s with hive := { s.hive with fwNone := true, fwVersion := none } }

/-- Sectors 80–95 of the boot bank are blank (R326). -/
def extBlank (s : State) : Bool :=
  let lo := secOf (extBase s)
  (List.range 16).all fun k => (firstUsed s (lo + k)).isNone

/-- The customer extension is loaded (R326, R357). -/
def extCheck (c : ImageCheck) (s : State) : State :=
  let off := extBase s
  let good := imageForm s off 0x54584543 261888 && decide (extTcmKib s ≤ 16) && decide (extSramKib s ≤ 64) &&
    c.digestOk && c.sigOk && decide (s.sec.extMin ≤ fld (arrHalf s (off + 8)) 24 8) && s.sec.life.inUse &&
    !s.sec.extPub.isEmpty && sectorsRead s (secOf off) (secOf off + 16)
  let s1 := { s with hive := { s.hive with extLoaded := false, extStopped := false, extSince := none, extVersion := 0 } }
  if s.hive.fwNone || extBlank s then s1
  else if good then { s1 with hive := { s1.hive with extLoaded := true, extVersion := arrHalf s (off + 8) } }
  else tally 0x13 1 0 s1

/-! The key engine's records (R352, R354, R362). -/

/-- The sector of a bank that the key engine appends to. -/
def keySector (s : State) : Nat := if (firstUsed s 100).isNone && (firstUsed s 101).isSome then 101 else 100

/-- The words of the sector that are used, counted from its start. -/
def keyUsed (s : State) : Nat :=
  let base := keySector s * 2048
  ((s.arr.mem.map (·.1) ++ s.arr.ceMarks ++ s.arr.ueMarks).filter fun w => decide (base ≤ w) && decide (w < base + 2048)).foldl
    (fun a w => max a (w + 1 - base)) 0

/-- n words of records, from word `first` of a sector of both banks on; what a wrap under KEK reads is not the model's (log entry 58). -/
def keyWords (sec first n : Nat) (s : State) : State :=
  let s1 := (List.range n).foldl (fun s i =>
    let d := Config.recordWord (16 + i) s.free
    setWord (sec * 2048 + first + i + 0x40000) d (setWord (sec * 2048 + first + i) d s)) s
  { s1 with free := s1.free + 1 }

/-- A record of n words is appended in both banks: the check record takes 5 words and a slot's 9. In a full sector the check record
and the slots' latest records first move to the other sector, and the full one is erased (R354). -/
def keyAppend (n : Nat) (s : State) : State :=
  if keyUsed s + n ≤ 2048 then keyWords (keySector s) (keyUsed s) n s
  else
    let old := keySector s
    let s1 := keyWords (201 - old) 0 (5 + 9 * s.sec.slots.length) s
    let s2 := eraseOk (old + 128) (eraseOk old s1)
    keyWords (keySector s2) (keyUsed s2) n s2

/-! Phase IMAGE: keys. -/

/-- The key check record and the slots (R354, R360, R362). -/
def keyWake (i : ImageIn) (s : State) : State :=
  if s.sec.life.inUse then
    let killed := s.sec.keyRec != some s.sec.epochFuses || !i.keyRecOk
    if killed then
      let s1 := if i.keyRecOk then s else tally 0x24 4 0x00190000 s
      let s2 := tally 0x25 3 (BitVec.ofNat 32 s.sec.epochFuses) (keyAppend 5 (eraseOk 229 (eraseOk 228 (eraseOk 101 (eraseOk 100 s1)))))
      { s2 with sec := { s2.sec with
          killSeen := true, keyRec := some s.sec.epochFuses, slots := [], lostAny := false, volatileKeys := true } }
    else
      let lost := i.lostSlots.filter fun k => decide (k < 64) && Sparse.get (fun _ => Slot.empty) s.sec.slots k != .empty
      let s1 := lost.foldl (fun s k => tally 0x25 1 (BitVec.ofNat 32 k)
        { s with sec := { s.sec with slots := Sparse.put (fun _ => Slot.empty) s.sec.slots k .lost } }) s
      { s1 with sec := { s1.sec with
          killSeen := false, lostAny := s1.sec.slots.any (fun p => p.2 == .lost), volatileKeys := true } }
  else { s with sec := { s.sec with killSeen := false } }

/-- When the 32nd epoch fuse has been blown, the lifecycle becomes SCRAPPED (R360). -/
def epochEnd (s : State) : State :=
  if 32 ≤ s.sec.epochFuses ∧ s.sec.life ≠ .scrapped then
    tally 0x25 4 32 { s with sec := { s.sec with life := .scrapped, volatileKeys := false } }
  else s

/-! Phase IMAGE: the log. -/

/-- A word of a log slot as WAKE finds it: bank A's where that decodes and is not blank, else bank B's. -/
def logCopy (s : State) (slot : Nat) (y : Bool) : Option (DWord × Bool) :=
  let find := fun (b : Bool) =>
    let w := logOff slot y b / 8
    if wordBlank s w then none else (peekWord s w).map fun d => (d, b)
  (find false).or (find true)

/-- The record that a slot's words write down (Table: Event record). -/
def recordOf (x y : DWord) (onB : Bool) : Record :=
  let w0 : Word := x.truncate 32
  let w2 : Word := y.truncate 32
  ⟨w0.truncate 8, fld w0 8 6, fld w0 14 4, fld w0 18 14, ((w2.truncate 16 : BitVec 16).zeroExtend 48 <<< 32) ||| ((x >>> 32).truncate 32 : Word).zeroExtend 48,
    (w2 >>> 16).truncate 16, (y >>> 32).truncate 32, onB⟩

/-- The slots of the log in which some word X is programmed, ascending. -/
def logSlots (s : State) : List Nat :=
  let base := logOff 0 false false
  (s.arr.mem.filterMap fun p =>
    let o := 8 * p.1 % 0x200000
    if base ≤ o ∧ o < base + 14 * 0x4000 ∧ (o - base) % 16 = 0 then some ((o - base) / 16) else none).foldl (fun a k => insertNat k a) []

/-- The held records, read back from the log: those whose word X decodes in either bank (R345). -/
def logScan (s : State) : List (Nat × Record) :=
  (logSlots s).filterMap fun k =>
    (logCopy s k false).map fun x => (k, recordOf x.1 (((logCopy s k true).map (·.1)).getD erasedWord) x.2)

/-- LOG_NEXT is recovered (R345, R346): the SEQ after the last held record's, with the SEQs of skipped slots. -/
def logRecover (s0 : State) : State :=
  let s := { s0 with tally := { s0.tally with held := logScan s0 } }
  let n := 14336
  let last := s.tally.held.foldl (fun (a : Option (Nat × Record)) p => match a with
    | some q => if (s.tally.slot + n - p.1 - 1) % n < (s.tally.slot + n - q.1 - 1) % n then some p else a
    | none => some p) none
  let next := match last with
    | some q => (q.2.seq + (s.tally.slot + n - q.1 - 1) % n + 1) % 16384
    | none => s.tally.slot
  { s with tally := { s.tally with next := next } }

/-- WAKE_IMAGE_LOAD: everything phase IMAGE does. -/
def imageLoad (i : ImageIn) (s : State) : State :=
  if s.top.state = .wake ∧ s.top.phase = .image ∧ s.top.wakeStep = 1 then
    let s1 := areaErrors 5 false s
    let s2 := if (imgRead s1 5 false).isNone then areaErrors 5 true s1 else s1
    let s3 := (List.range 5).foldl (fun s k => areaErrors k true (areaErrors k false s)) s2
    let s4 := geomWake (ringCheck (storeWake (thReload (thUsed s 0) (thUsed s 1) (pfCheck (dintLoad baseLoad s3)))))
    let s5 := (List.range 6).foldl (fun s k => stageLoad k (imgNote k s)) s4
    let s6 := logRecover (extCheck i.ext (fwBoot i (epochEnd (keyWake i s5))))
    logEv 7 (BitVec.ofNat 8 s.top.cause) 0 (BitVec.ofNat 32 s.fr.gapSec) (readyCheck { s6 with top := { s6.top with wakeStep := 2 } })
  else s

/-! Phase CATALOG. -/

/-- HARVEST_STAT takes the result of the latest entry that is OPEN, SEALED or pending by its header (R242, log entry 34). -/
def harvReload (headers : List Nat) (s : State) : State :=
  let h := s.harv
  match s.nand.catalog.reverse.find? (fun e => e.opened || e.sealed || headers.contains e.combId) with
  | some e => { s with harv := { h with
      phase := 0, saved := e.saved, lost := e.lost, atRisk := 0, combId := e.combId, cutoff := e.cutoff, loss := decide (0 < e.lost)
      wet := e.wet, trickle := e.trickle, catFail := false } }
  | none => { s with harv := { h with phase := 0 } }

/-- After a kill, END is programmed for every catalog entry that lacks one (R362, Table: Lifecycle commands). -/
def endAll (s : State) : State :=
  (s.nand.catalog.filter fun e => e.ended == 0).foldl (fun s e => endEntry (if e.opened || e.sealed then 2 else 3) e.combId s) s

/-- WAKE_CATALOG_SCAN (R266, R362). -/
def catalogScan (headers : List Nat) (s : State) : State :=
  if s.top.state = .wake ∧ s.top.phase = .catalog ∧ s.top.wakeStep = 2 then
    let s1 := harvReload headers { s with nand := { s.nand with catalog := catScan s } }
    let dead := s1.sec.killSeen || !s1.sec.life.inUse
    let ids := if dead then [] else pendingCombs s1 headers
    let s2 := if s1.sec.killSeen then endAll s1 else s1
    { s2 with
      top := { s2.top with wakeStep := 3, combPend := !ids.isEmpty }
      ret := { s2.ret with pending := ids } }
  else s

/-- WAKE_DECISION: the decision qualifies 140 frames into CATALOG (R27, Table: WAKE sequence). -/
def wakeDecision (s : State) : State :=
  if s.top.state = .wake ∧ s.top.phase = .catalog ∧ s.top.wakeStep = 3 ∧ 140 ≤ s.top.inPhase then
    { s with top := { s.top with wakeStep := 4, trig := { s.top.trig with phaseEnd := true } } }
  else s

/-- Where WAKE leads (R27, R29, Table: Transitions): a pending Comb leads to RETURN whatever else holds. DEDUCED (R27 over
R29). -/
def wakeTarget (s : State) : DevState :=
  if s.top.combPend then .ret else if s.sec.life.inUse && !s.top.baseNone then .guard else .service

/-! One definition per command. -/

def execWakeScanDone (failed : List Nat) (s : State) : Out := .next (scanDone failed s)
def execWakeImageLoad (i : ImageIn) (s : State) : Out := .next (imageLoad i s)
def execWakeCatalogScan (headers : List Nat) (s : State) : Out := .next (catalogScan headers s)
def execWakeDecision (s : State) : Out := .next (wakeDecision s)

end Sys2Proof.Machine
end

