-- ==== Sys2Proof/Machine/Trans.lean ====
section
/-! DEFINITION. State transitions (02): the reset kinds and what each clears, the entries into the states, the STATE_REQ
commands, the precedence of triggers at a boundary, and the commands of DORMANT, HOLD and H-SEAL that change the state. -/

namespace Sys2Proof.Machine

/-! Resets (R31, R344, R345). -/

/-- A record under way ends with the power (R345): held if its word X is in place, else its slot is skipped. -/
def logCut (s : State) : State :=
  let t := s.tally
  match t.cur with
  | some r =>
    let begun := decide (0 < t.curStep) || (match s.arr.run with | some o => o.tag == 1 | none => false)
    { s with tally := { t with
        cur := none, curStep := 0, curX := false, curFail := false
        held := if t.curX then (t.held.filter fun p => p.1 != t.slot) ++ [(t.slot, { r with onB := t.curFail })] else t.held
        slot := if begun then (t.slot + 1) % 14336 else t.slot } }
  | none => s

/-- What Core BOR and the island power-off clear (Table: Reset kinds, Table: Tally state across resets). -/
def powerCut (s0 : State) : State :=
  let s := arrCut (logCut s0)
  { s with
    top := { s.top with
      trig := {}, earlyPrep := false, discardIn := none, window := false, dirtyStop := false, reject := false, reqErr := false
      ueWrite := false, postRej := false, ovlBad := [], baseAlt := false, baseNone := false, lastRej := 0, reqReason := 0 }
    conf := aonConf s.conf
    fr := {
      epoch := s.fr.epoch, rem := s.fr.rem, stopTick := s.fr.stopTick, running := s.fr.running
      wakeEpoch := s.fr.wakeEpoch, gapSec := s.fr.gapSec, refLoss := s.fr.refLoss, refLossCnt := s.fr.refLossCnt }
    host := { hrst := s.host.hrst }
    ring := {}
    adm := {}
    store := { nvEsr25 := s.store.nvEsr25, nvEsrRef := s.store.nvEsrRef }
    dram := { dswDev := s.dram.dswDev, dswOeHigh := s.dram.dswOeHigh, setHost := s.dram.setHost, set2400 := s.dram.set2400 }
    harv := {}
    nand := {
      seq := s.nand.seq, kept := s.nand.kept, bbmSeq := s.nand.bbmSeq
      targets := (s.nand.targets.map fun p => (p.1, ({ next := p.2.next, laps := p.2.laps, bad := p.2.bad } : Target))).filter
        fun p => p.2 != {} }
    ret := {}
    hive := {}
    tally := {
      src := (s.tally.src.filter (fun p => p.2.sticky)).map fun p => (p.1, ({ sticky := true } : Source))
      aonLatch := s.tally.aonLatch, exits := s.tally.exits, held := s.tally.held, slot := s.tally.slot
      snap := s.tally.snap, snapEpoch := s.tally.snapEpoch }
    sec := {
      life := s.sec.life, epochFuses := s.sec.epochFuses, fwMin := s.sec.fwMin, extMin := s.sec.extMin
      ukOwner := s.sec.ukOwner, ukVendor := s.sec.ukVendor, extPub := s.sec.extPub, otpSecret := s.sec.otpSecret
      keyRec := s.sec.keyRec, slots := s.sec.slots, fails := s.sec.fails, lockLeft := s.sec.lockLeft
      porLock := s.sec.porLock, blow := s.sec.blow }
    jtag := {}
    orf := {}
    weave := {} }

/-- AON POR: the state of a device right after reset with its non-volatile contents (R31). A fuse blow that it interrupts
leaves the fuse blown or intact (16 Edges). -/
def porState (s0 : State) : State :=
  let c := powerCut s0
  let part := decide (0 < s0.sec.blow) && !Config.fuseBlown s0.free
  { State.reset with
    arr := { mem := c.arr.mem, ceMarks := c.arr.ceMarks, ueMarks := c.arr.ueMarks, ufe := c.arr.ufe, retired := c.arr.retired }
    store := c.store
    dram := { setHost := c.dram.setHost, set2400 := c.dram.set2400 }
    nand := c.nand
    tally := { held := c.tally.held, slot := c.tally.slot }
    sec := { c.sec with
      epochFuses := if part then c.sec.epochFuses - 1 else c.sec.epochFuses
      fails := 0, lockLeft := 0, porLock := true, blow := 0 }
    host := { hrst := s0.host.hrst }
    pending := s0.pending
    free := c.free + 1 }

/-- SOFT_RESET clears the return RAM; RETURN_STAT keeps what it shows (R270, R287, log entry 33). -/
def retSoft (s : State) : RetB :=
  { phase := s.ret.phase, tailErr := s.ret.tailErr, topId := s.ret.topId, stacked := s.ret.stacked, sealed := s.ret.sealed
    locFull := s.ret.locFull
    shown := some (returnShows s) }

/-- What SOFT_RESET clears before its WAKE (R31, R84, R311, R344, R345). -/
def softClear (s0 : State) : State :=
  let s := arrSoft s0
  let begun := decide (0 < s.tally.curStep) || (match s.arr.run with | some o => o.tag == 1 | none => false)
  { s with
    ret := retSoft s
    top := { s.top with trig := {}, window := false, dirtyStop := false, earlyPrep := false, discardIn := none }
    host := { s.host with intStat := 0, intFrame := 0, watch := false, watchSet := 0 }
    hive := {}
    fr := { s.fr with queue := [], done := [] }
    store := { s.store with polOvr := false, testFail := false }
    nand := { s.nand with chans := [], units := [], rewrites := [], laneOut := [] }
    tally := { s.tally with queue := [], cur := if begun then s.tally.cur else none, markEnd := false, eraseAhead := 0 }
    sec := { s.sec with staging := [] } }

/-! The state register. -/

/-- STATE and PHASE change; PREV_STATE takes the state left (02). -/
def setState (st : DevState) (ph : Phase) (s : State) : State :=
  let same := s.top.state = st
  { s with top := { s.top with
      state := st
      phase := ph
      prev := if same then s.top.prev else if s.top.state = .off then 0 else s.top.state.code
      inState := if same then s.top.inState else 0
      inPhase := 0 } }

/-- What leaving a state does, whichever state follows: an exchange is cancelled (R99), a step test ends (R183), a Trickle
pass ends with GUARD (R220), and SERVICE's staging register and gated clocks return (R62, R355). -/
def leaveState (s : State) : State :=
  let s1 := testInvalid (cancelExchange s)
  let s2 := if s.top.state = .guard then endPass true s1 else s1
  if s.top.state = .service then
    let off := fun (m : List (Nat × Word)) => m.filter fun p => !(decide (ckey 7 0 0 ≤ p.1) && decide (p.1 < ckey 8 0 0))
    { s2 with
      sec := { s2.sec with staging := [] }
      conf := { s2.conf with cur := off s2.conf.cur, shadow := off s2.conf.shadow } }
  else s2

/-- A state of the running set is entered: what is left ends, STATE changes and the overlays change (R36). -/
def enterActive (st : DevState) (ph : Phase) (s : State) : State := enterOverlay st (setState st ph (leaveState s))

/-- The post-TRIP window closes (R82). -/
def closeWindow (s : State) : State := { s with top := { s.top with window := false } }

/-- The post-TRIP window opens: TRIP_SEEN is posted to every usable EVENT ring (R82, R119). -/
def openWindow (wet pg tam : Bool) (s : State) : State :=
  if s.top.window then s
  else
    let s1 := broadcast 0x88 (b2n wet + 2 * b2n pg + 4 * b2n tam) (fun t => BitVec.ofNat 32 (tenOf s t).dirtyNow) s
    { s1 with top := { s1.top with window := true } }

/-! Entries. -/

/-- The first state after WAKE starts NAND bring-up (R244). -/
def afterWake (was : DevState) (s : State) : State := if was = .wake then bringUpStart s else s

/-- GUARD (R23, R25, R82, R262). -/
def enterGuard (s : State) : State :=
  let s1 := closeWindow (enterActive .guard .none s)
  afterWake s.top.state { s1 with
    top := { s1.top with dirtyStop := false, discardIn := none, earlyPrep := false }
    nand := { s1.nand with prepHeld := false, power := s1.nand.prep || s1.nand.bringUp || s1.dram.active } }

/-- WATCH (R119, R162). -/
def enterWatch (s : State) : State :=
  let s1 := enterActive .watch .none s
  let n := (s1.scout.watchEpi + 1) % 65536
  broadcast 0x87 0 (fun _ => BitVec.ofNat 32 n)
    (setInt 2 { s1 with scout := { s1.scout with watchEpi := n } })

/-- SERVICE. -/
def enterService (s : State) : State :=
  let s1 := afterWake s.top.state (closeWindow (enterActive .service .none s))
  if s.top.state = .wake then s1
  else { s1 with nand := { s1.nand with power := s1.nand.prep || s1.nand.bringUp } }

/-- RETURN begins at VERIFY (R271). -/
def enterReturn (ids : List Nat) (s : State) : State :=
  afterWake s.top.state (returnBegin ids (closeWindow (enterActive .ret .verify s)))

/-- EARLY begins: the DRAM stays with the device only where the slot mask asks for the first frame (R20, R214, R217). -/
def enterEarly (s : State) : State :=
  let s1 := closeWindow (enterActive .early .bulk (coarseLost (· == 1) s))
  let s2 := { s1 with
    top := { s1.top with dirtyStop := false, earlyPrep := false }
    dram := { s1.dram with rate2400 := false, hand := 0, shift := false } }
  if s2.dram.owned && !((cw s2 10 11 0).getLsbD (fld s2.fr.epoch 0 4) && !s2.ret.bulkDone) then dramGive s2 else s2

/-- What every entry into HARVEST does: CHG_EN falls, the NAND and CRYPT islands power up, queued array commands leave
the queue (R224, R304). -/
def enterHarvest (ph : Phase) (s : State) : State :=
  let s0 := enterActive .harvest ph { s with dram := { s.dram with training := false, train2 := false, trainBad := false } }
  let s1 := harvestFlush (harvestBegin (if ph = .hSeal then s0 else clearViews (setInt 3 s0)))
  { s1 with
    store := { s1.store with chgEn := false, duty := 0 }
    harv := { s1.harv with phase := 1, killLater := false, wasWet := false } }

/-- H-DECIDE. -/
def enterDecide (s : State) : State := enterHarvest .hDecide s

/-- T of R203: the frame in which the trigger of highest rank qualified; where a TRIP that still holds qualified before it, that
TRIP's frame, from which R13's limit on DSW_SEL runs. -/
def trigFrame (tam wet pg : Bool) (s : State) : Epoch :=
  let q := s.scout.qualAt
  let trip := s.top.trig.trip || tripLevel s
  let t := if tam then q.tamper else if wet then q.wet else if pg then q.pg else if trip then q.trip else q.pretrip
  if trip && decide (q.trip.toNat < t.toNat) then q.trip else t

/-- H-ISOLATE, from H-DECIDE or without it (R203, R238). -/
def enterIsolate (wet pg tam later : Bool) (s : State) : State :=
  let s1 := if s.top.state = .harvest then setInt 3 (setState .harvest .hIsolate s) else enterHarvest .hIsolate (returnStops (s.top.state = .early) s)
  let s2 := isolateEntry { s1 with harv := { s1.harv with
    wasWet := wet, killLater := later, tripEpoch := trigFrame tam wet pg s, causes := s.top.trig.causes } }
  openWindow wet pg tam { s2 with top := { s2.top with earlyPrep := false, discardIn := none } }

/-- The Return stop (R286): H-SEAL with an empty plan; an owned DRAM goes into self-refresh. -/
def enterReturnStop (wet pg trip later : Bool) (s : State) : State :=
  let s1 := sealEntry true (enterHarvest .hSeal (returnStops true s))
  let s2 := { s1 with
    top := { s1.top with earlyPrep := false, discardIn := none }
    harv := { s1.harv with wasWet := wet, killLater := later, tripEpoch := trigFrame later wet pg s, causes := s.top.trig.causes }
    dram := { s1.dram with
      hand := 0, ownReq := s1.dram.owned, reqWas := s1.dram.owned, selfRef := s1.dram.selfRef || s1.dram.owned } }
  if trip then openWindow wet pg later s2 else s2

/-- The abort of H-DECIDE (R226). -/
def abortHarvest (s : State) : State :=
  enterWatch { s with
    harv := { s.harv with phase := 6, plan := [], back := [] }
    nand := { s.nand with power := false } }

/-- A TAMPER kill, a fall of power or a quiet end leaves a DRAM that the device owns in self-refresh with its switches open,
and DSW_SEL as it is (R239, R361). -/
def dramPark (s : State) : State :=
  { s with dram := { s.dram with selfRef := s.dram.selfRef || s.dram.owned, dswOeHigh := true } }

/-- Entry into DORMANT or HOLD: the interval closes, the level falls, every island but AON powers off, and Scout changes its
rate (R31, R46, R152 to R154, R161, R173, R191, R363, R400). No frame begins here, so EPOCH stays at the last frame's, from
which R49 counts on. DEDUCED. -/
def sleepEntry (st : DevState) (ship : Bool) (s : State) : State :=
  let s1 := closeInterval true (s.fr.epoch - 1) (closeLevel (leaveState (killWaiting s)))
  let s2 := if st = .dormant then enterOverlay .dormant s1 else s1
  let v := vmin s
  let s3 := powerCut (setState st .none (dramPark { s2 with weave := { s2.weave with drive := false } }))
  scoutSleep (stopFrames { s3 with
    top := { s3.top with ship := ship }
    fr := { s3.fr with epoch := s3.fr.epoch - 1 }
    scout := { s3.scout with vminAon := v, pwrEn := false, xtal := false, shipFired := false } })

def enterDormant (ship : Bool) (s : State) : State := sleepEntry .dormant ship s

/-- HOLD entered with nothing to save leaves HARVEST_STAT.PHASE EMPTY (R240). -/
def enterHold (empty : Bool) (s : State) : State :=
  let s1 := sleepEntry .hold false s
  { s1 with harv := { s1.harv with phase := if empty then 7 else 0 } }

/-! WAKE. -/

/-- What every WAKE clears and samples at g+0; after a SOFT_RESET, cause 4, the member keeps its place in the ring (R31, R395) (R27, R53, R105, R129, R305, R342, R344, R363, R365, R381). -/
def wakeEntry (cause : Nat) (w : WakeIn) (s0 : State) : State :=
  let s := closeLevel s0
  let soft := decide (cause = 4)
  let s1 := setState .wake .scan s
  let s2 := { s1 with
    top := { s1.top with
      prev := if s0.top.state = .off then 0 else s0.top.state.code
      combPend := false, cause := cause, inState := 0, inPhase := 0, wakeStep := 0, trig := {}, window := false
      dirtyStop := false, discardIn := none, earlyPrep := false, ship := false }
    fr := { s1.fr with wakeEpoch := s.fr.epoch, refLoss := false }
    host := { s1.host with io33 := w.io33, hint := false }
    ring := {}
    adm := {}
    store := { s1.store with test := { due := true } }
    conf := { s1.conf with commit := none, edited := [] }
    scout := { s1.scout with pgArmed := false, cnt := s1.scout.cnt.filter fun p => !(p.1 == 5 || p.1 == 6) }
    harv := {
      phase := s1.harv.phase, cutoff := s1.harv.cutoff, loss := s1.harv.loss, wet := s1.harv.wet, trickle := s1.harv.trickle
      catFail := s1.harv.catFail, saved := s1.harv.saved, lost := s1.harv.lost, atRisk := s1.harv.atRisk, combId := s1.harv.combId }
    nand := { s1.nand with
      valid := false, geomErr := 0, broughtUp := false, bringUp := false, power := false, armed := false, prep := false
      prepHeld := false, prepEntry := none, prepLeft := [], prepDone := [], prepRearm := false, marks := [], catAlt := false, bbmScan := false
      units := [], fill := [], pageAt := [], trkFill := [], trkAt := [], chains := [], badFound := [], rewrites := [], catalog := [] }
    ret := { phase := 0, tailErr := s1.ret.tailErr, topId := s1.ret.topId
             stacked := s1.ret.stacked, sealed := s1.ret.sealed, locFull := s1.ret.locFull, shown := s1.ret.shown }
    dram := { s1.dram with active := false, imgOpen := false, passes := [], copying := [], bus := [], taken := false, refAcc := [] }
    tally := { s1.tally with
      degraded := false, degradeIn := false, halted := false, haltIn := none, tripped := false, injChk := 0, injDbl := false, injLeft := 0 }
    sec := { s1.sec with
      keysClosed := false, volatileKeys := false
      lockLeft := if s1.sec.porLock then 2 ^ 24 + 1 else s1.sec.lockLeft, porLock := false }
    weave := { s1.weave with
      myId := w.wvId.toNat, armed := false, highs := 0, lows := 0, handled := true, lineLow := false, lowFrames := 0, lowSent := false
      dupId := false, storeWake := false, joined := false, frozen := false
      storeAge := if soft then s1.weave.storeAge else 0
      isMaster := soft && s1.weave.isMaster, abdicate := soft && s1.weave.abdicate
      noLower := if soft then s1.weave.noLower else 0, noTick := if soft then s1.weave.noTick else 0 } }
  if w.xtalOk then s2 else refLossNow s2

/-- WAKE frame g+1: the switches close on the host side, the bus and HINT_N work, and the latched AON messages are processed
(R19, R69, R343). -/
def wakeSecond (s : State) : State :=
  let s1 := { hintFollow s with
    dram := { s.dram with dswDev := false, dswOeHigh := false, owned := false }
    tally := { s.tally with aonLatch := [] } }
  s.tally.aonLatch.foldl (fun s p => tally p.1 p.2.1 p.2.2 s) s1

/-! STATE_REQ (R20 to R22, R367). -/

/-- STATE_REQ refused for the present state or phase. -/
def reqState (s : State) (cmd : Nat) : Bool :=
  let st := s.top.state
  if cmd = 1 then st = .guard
  else if cmd = 2 then st = .service
  else if cmd = 3 then st = .ret && s.top.phase = .bulk
  else if cmd = 4 then (st = .ret && (s.top.phase = .verify || s.top.phase = .waitGnt)) || st = .service
  else st = .guard || st = .service

/-- The reason with which a command is refused; 0: it is accepted (R21). DISCARD_COMB with no Comb pending has reason 4, though no
reason of the list names it (DEDUCED, log entry 27). -/
def reqReason (s : State) (cmd : Nat) (key : BitVec 16) : Nat :=
  let quiet := cmd == 1 || cmd == 5 || cmd == 6 || cmd == 7
  if cmd = 0 then 0
  else if s.top.state = .harvest then 6
  else if key ≠ 0x57A7 ∨ 8 ≤ cmd then 1
  else if !reqState s cmd then 2
  else if quiet && decide (0 < s.adm.dirtyTotal) then 3
  else if (cmd == 6 && s.top.combPend) || (cmd == 4 && !s.top.combPend) then 4
  else if cmd == 3 && !s.host.intStat.getLsbD 5 then 5
  else if (cmd == 2 && (!s.sec.life.inUse || s.sec.keysClosed)) || (cmd == 4 && s.top.state = .service && decide (s.sec.level < 2)) ||
      (cmd == 4 && s.top.state = .ret && !s.sec.life.inUse && decide (s.sec.level < 2)) then 7
  else if quiet && (s.dram.active || s.dram.imgOpen) then 8
  else 0

/-- The action of a command. -/
def reqAction (cmd : Nat) : ReqAction :=
  if cmd = 1 then .serviceEnter else if cmd = 2 then .serviceLeave else if cmd = 3 then .early else if cmd = 4 then .discard
  else if cmd = 5 then .dormant else if cmd = 6 then .ship else .softReset

/-- A STATE_REQ write is evaluated in the frame in which it leaves the post buffer (R20, R21); of several accepted ones in a
frame the last stays in force (R40). -/
def evalReq (data : Word) (s : State) : State :=
  let cmd := fld data 0 4
  match reqReason s cmd ((data >>> 16).truncate 16) with
  | 0 =>
    if cmd = 0 then s
    else
      let s1 := { s with top := { s.top with trig := { s.top.trig with req := some (reqAction cmd) } } }
      if cmd = 4 && s.top.state = .ret && !s.dram.owned then { s1 with dram := { s1.dram with ownReq := false } } else s1
  | r => refuseReq r s

/-- DISCARD_COMB takes effect: END DISCARDED for every pending Comb (R288, 12 Edges). -/
def discardNow (s : State) : State :=
  let s1 := s.ret.pending.foldl (fun s id => endEntry 2 id s) s
  retPhase 7 { s1 with
    top := { s1.top with combPend := false }
    ret := { s1.ret with pending := [], setValid := false } }

/-- An accepted STATE_REQ takes effect at the boundary (Table: STATE_REQ commands). -/
def takeReq (w : WakeIn) (a : ReqAction) (s : State) : State :=
  match a with
  | .serviceEnter => enterService s
  | .serviceLeave => if s.top.combPend then enterReturn s.ret.pending s else enterGuard s
  | .early => { s with
      top := { s.top with earlyPrep := true }
      dram := { s.dram with hand := if s.dram.owned && s.dram.hand == 0 then 3 else s.dram.hand } }
  | .discard =>
    let s1 := discardNow s
    if s.top.state = .ret then
      if s1.dram.owned then handBack { s1 with top := { s1.top with discardIn := some 0 }, dram := { s1.dram with hand := 0, ownReq := true } }
      else enterGuard { s1 with dram := { s1.dram with ownReq := false } }
    else s1
  | .dormant => enterDormant false s
  | .ship => enterDormant true s
  | .softReset => wakeEntry 4 w (softClear (leaveState s))

/-! Triggers at a boundary (R23, R24). -/

/-- The triggers of the frame that ends, with the levels that hold at its end. -/
structure Cause where
  tamper : Bool
  wet : Bool
  pg : Bool
  trip : Bool
  pretrip : Bool
  warn : Bool
  deriving DecidableEq, Repr

/-- The triggers of the frame that ends. -/
def causesNow (s : State) : Cause :=
  let t := s.top.trig
  ⟨t.tamper, t.wet || s.scout.wetQ, t.pg || s.scout.pgFail, t.trip || tripLevel s, t.pretrip || s.scout.pretripQ, t.warn || s.scout.warnQ⟩

/-- Something is to be saved (R23). -/
def toSave (s : State) : Bool := decide (0 < s.adm.dirtyTotal) || s.dram.imgOpen

/-- A SAVE_THEN_KILL that has nothing to save: kill and DORMANT (R361). -/
def tamperDown (s : State) : State := enterDormant false (dramPark (if killDue s then kill s else s))

/-- GUARD and WATCH: the triggers above phase completion; none: none of them decides. -/
def fromGuard (c : Cause) (s : State) : Option State :=
  if c.tamper then some (if killDue s && toSave s then enterIsolate c.wet c.pg true true s else tamperDown s)
  else if c.wet || c.pg then some (enterIsolate c.wet c.pg false false s)
  else if c.trip then some (if toSave s then openWindow false false false (enterDecide s) else enterHold true s)
  else if c.pretrip then some (enterDecide s)
  else if c.warn && s.top.state = .guard then some (enterWatch s)
  else if s.top.state = .watch && s.top.trig.watchExit && goodFor s 2048 then some (enterGuard s)
  else none

/-- H-DECIDE. -/
def fromDecide (c : Cause) (s : State) : Option State :=
  if c.tamper then some (if killDue s && toSave s then enterIsolate c.wet c.pg true true s else tamperDown s)
  else if c.wet || c.pg then some (enterIsolate c.wet c.pg false false s)
  else if c.trip then some (if toSave s then enterIsolate false false false false s else enterHold true s)
  else if s.top.trig.abort || s.top.trig.limit then some (abortHarvest s)
  else none

/-- The end of H-SEAL (R26, R239, R361): RETURN, HOLD, or DORMANT after a Return stop with a kill. -/
def fromSeal (s : State) : Option State :=
  if s.top.trig.phaseEnd then
    let s1 := { s with scout := { s.scout with tallyTrip := false, swarmTrip := false }, weave := { s.weave with drive := false } }
    if s.harv.killLater && s.harv.isStop then some (enterDormant false s1)
    else if !s.harv.killLater && !s.harv.wasWet && goodFor s 2048 then
      let back := match s.arr.susp with
        | some z => if z.cause = 2 then startNext (setHstate z.op.req 2 (resumeSusp 0 s1)) else s1
        | none => s1
      let gave := if s.dram.owned then dramGive back else back
      let r := enterReturn (pendingCombs gave s.ret.pending) gave
      if s.harv.isStop then some r
      else some (((List.range 64).filter fun t => decide (0 < (tenOf s t).saved)).foldl (fun s' t =>
        postUnsol t 0x83 0 0 (BitVec.ofNat 32 s.harv.combId) (BitVec.ofNat 32 (tenOf s t).saved) s') r)
    else some (enterHold s.harv.isStop s1)
  else none

/-- HARVEST after H-DECIDE: a KILL_NOW kill ends it, else its phases end in order (R224, R226, R361). -/
def fromHarvest (iso : Bool) (s : State) : Option State :=
  if s.top.trig.tamper then some (enterDormant false (dramPark s))
  else if s.top.phase = .hIsolate then (if iso then some (drainEntry (setState .harvest .hDrain s)) else none)
  else if s.top.phase = .hDrain then (if drainDone s then some (sealEntry false (setState .harvest .hSeal s)) else none)
  else fromSeal s

/-- Where a trigger in RETURN or EARLY leads (R286, R361). -/
def returnFails (c : Cause) (later : Bool) (s : State) : State :=
  if s.top.state = .early && decide (0 < s.adm.dirtyTotal) then enterIsolate c.wet c.pg later later s
  else enterReturnStop c.wet c.pg c.trip later s

/-- The phases of RETURN and EARLY end (R271, R275, R279, R285, R288). take: the takeover for the restore is complete. -/
def returnPhases (take : Bool) (s : State) : Option State :=
  let next := fun (p : Phase) => setState s.top.state p s
  if s.top.discardIn.isSome then (if s.dram.owned then none else some (enterGuard s))
  else if s.top.phase = .verify then (if (verifyComb s).isNone then some (waitGntBegin (next .waitGnt)) else none)
  else if s.top.phase = .waitGnt then (if take && s.ret.setValid && sweepEnded s then some (criticalBegin (next .critical)) else none)
  else if s.top.phase = .critical then (if criticalOver s then some (retPhase 4 (next .bulk)) else none)
  else if s.top.phase = .bulk then (if bulkOver s then some (doneBegin (setState s.top.state .done s)) else none)
  else if s.top.phase = .done then some (enterGuard s)
  else none

/-- RETURN and EARLY. -/
def fromReturn (c : Cause) (take : Bool) (s : State) : Option State :=
  if c.tamper then some (if killDue s then returnFails c true s else enterDormant false (dramPark (returnStops true s)))
  else if c.wet || c.pg || c.trip || c.pretrip then some (returnFails c false s)
  else
    match returnPhases take s with
    | some s1 => some s1
    | none => if s.top.earlyPrep then some (enterEarly s) else none

/-- WAKE. -/
def fromWake (c : Cause) (s : State) : Option State :=
  if c.tamper || c.trip then some (enterDormant false s)
  else if s.top.phase = .scan then (if s.top.wakeStep = 1 then some (setState .wake .image s) else none)
  else if s.top.phase = .image then
    (if s.top.wakeStep = 2 ∧ 200 ≤ s.top.inPhase then some (setState .wake .catalog s) else none)
  else if s.top.trig.phaseEnd then
    some (match wakeTarget s with
      | .ret => enterReturn s.ret.pending s
      | .guard => enterGuard s
      | _ => enterService s)
  else none

/-- SERVICE. -/
def fromService (c : Cause) (s : State) : Option State := if c.tamper || c.trip then some (enterDormant false s) else none

/-- What decides the state at a boundary, all but a STATE_REQ. -/
def decides (iso take : Bool) (s : State) : Option State :=
  let c := causesNow s
  match s.top.state with
  | .guard => fromGuard c s
  | .watch => fromGuard c s
  | .harvest => if s.top.phase = .hDecide then fromDecide c s else fromHarvest iso s
  | .ret => fromReturn c take s
  | .early => fromReturn c take s
  | .wake => fromWake c s
  | .service => fromService c s
  | _ => none

/-- The flags that the boundary's own work has set belong to the frame that begins. -/
def freshTrig (was now : Trig) : Trig :=
  { tamper := now.tamper && !was.tamper, trip := now.trip && !was.trip, causes := now.causes &&& ~~~was.causes
    ends := now.ends && !was.ends }

/-- Step 2 of R47: one transition at most; a displaced STATE_REQ is refused with reason 2 (R24). The flags of the frame
that ended are cleared. -/
def transition (w : WakeIn) (iso take : Bool) (s : State) : State :=
  let s1 :=
    match decides iso take s, s.top.trig.req with
    | some t, some _ => if powered t then refuseReq 2 t else t
    | some t, none => t
    | none, r =>
      if s.top.trig.softWake then
        let t := wakeEntry 4 w (softClear (leaveState s))
        if r.isSome then refuseReq 2 t else t
      else match r with
        | some a => takeReq w a s
        | none => s
  let s2 := if s1.top.state = .harvest && (causesNow s).trip && powered s1 then openWindow (causesNow s).wet (causesNow s).pg (causesNow s).tamper s1 else s1
  { s2 with top := { s2.top with trig := freshTrig s.top.trig s2.top.trig } }

/-! Commands outside frames, and the resets. -/

/-- HOLD_SAMPLE (R152, R161): a low store ends HOLD in DORMANT at once, with the DORMANT overlay's AON records (R36);
a raised rate, its crystal and its counts go on (R154). -/
def holdSample (x : SlowSample) (s : State) : State :=
  if s.top.state = .hold && !s.top.coreBor then
    let s1 := holdConvert x s
    if s1.scout.storeLow then aonOverlay (setState .dormant .none s1) else s1
  else s

/-- The WAKE cause of a qualified wake (Table: STATE). -/
def qualCause (s : State) : Nat := if s.top.state = .hold then 2 else if s.fr.wakeEpoch = 0 then 0 else 1

/-- WAKE_QUALIFIED (R49, R154, R157, R361): WAKE begins with a boundary. -/
def wakeQualified (w : WakeIn) (s : State) : State :=
  if (s.top.state = .dormant || s.top.state = .hold) && !s.top.coreBor && s.scout.qualDone && !s.scout.tamperQ &&
      !(s.top.state = .hold && s.scout.wetQ) then
    let s1 := startFrames s
    wakeEntry (qualCause s) w { s1 with scout := { s1.scout with
      raised := false, raisedCnt := 0, qualDone := false, xtal := true, pwrEn := true
      shipWoke := if s.top.state = .dormant then s.scout.shipFired else s.scout.shipWoke, shipFired := false } }
  else s

/-- AON_POR. -/
def aonPor (s : State) : State := porState s

/-- AON_POR_RELEASE: OFF passes to DORMANT, and the stopped time starts at the release (R23, R49). -/
def aonPorRelease (s : State) : State :=
  if s.top.state = .off then
    stopFrames { s with top := { s.top with state := .dormant } }
  else s

/-- CORE_BOR: every island but AON is cleared and the frame generator stops (R31, R46); pads keep their levels (R19). -/
def coreBor (s : State) : State :=
  if s.top.state != .off && !s.top.coreBor then
    let run := s.top.state.runs
    let k := killWaiting s
    let s1 := powerCut (closeLevel { k with
      weave := { s.weave with drive := false }
      scout := { k.scout with vminAon := if run then vmin s else k.scout.vminAon } })
    let s2 := { s1 with top := { s1.top with coreBor := true } }
    if run then stopFrames s2 else s2
  else s

/-- CORE_BOR_RELEASE: WAKE or DORMANT by VIN (R23, R49). DORMANT takes its overlay's AON records (R36); the pads keep the levels
that the BOR left (R19, R31), although the table of states has the switches open in DORMANT. DEDUCED (log entry 30). -/
def coreBorRelease (w : WakeIn) (s : State) : State :=
  if s.top.coreBor then
    let s1 := { s with top := { s.top with coreBor := false } }
    if dyGt (filt s 0) (goodMv s) then
      let s2 := startFrames s1
      wakeEntry 3 w { s2 with scout := { s2.scout with
        raised := false, raisedCnt := 0, qualDone := false, xtal := true, pwrEn := true
        shipWoke := if s.top.state = .dormant then s.scout.shipFired else s.scout.shipWoke, shipFired := false } }
    else
      let s2 := scoutSleep (aonOverlay (setState .dormant .none s1))
      { s2 with
        top := { s2.top with prev := s.top.state.code, inState := 0 }
        scout := { s2.scout with pwrEn := false, xtal := false } }
  else s

/-! H_SEAL_END (R239, R348, R361). -/

/-- The registers of the snapshot, in order (R348). -/
def snapOffs : List Nat := [0x10, 0xE4, 0xE8, 0xE0, 0x44, 0x48, 0x4C, 0x80, 0x84, 0x70]

/-- In the last H-SEAL frame an owned DRAM goes into self-refresh: toward RETURN it is released, toward HOLD its switches open by
tick 92 (R207, R239). -/
def sealPark (s : State) : State :=
  if s.dram.owned then
    let gives := !s.harv.killLater && !s.harv.wasWet && goodFor s 2048
    { s with dram := { s.dram with
        ownReq := false
        bus := s.dram.bus ++ (if gives then releaseEvents
          else [(none, .prechargeAll), (none, .selfRefEnter), (none, .clock false), (some 92, .oe true)]) } }
  else s

/-- The fixed length of H-SEAL expires in the frame under way. -/
def sealEnd (s : State) : State :=
  if sealLast s && !s.top.trig.phaseEnd then
    let s1 := sealPark (quiesceCore true (quiesceCore false s))
    let s2 := setInt 3 { s1 with harv := { s1.harv with phase := if s1.harv.isStop then 7 else 5 } }
    let s3 := { s2 with
      top := { s2.top with trig := { s2.top.trig with phaseEnd := true } }
      tally := { s2.tally with snap := snapOffs.map (fun o => (o, regPeek s2 o)), snapEpoch := s2.fr.epoch } }
    if s.harv.killLater then kill s3 else s3
  else s

/-! One definition per command. -/

def execAonPor (s : State) : Out := .next (aonPor s)
def execAonPorRelease (s : State) : Out := .next (aonPorRelease s)
def execCoreBor (s : State) : Out := .next (coreBor s)
def execCoreBorRelease (w : WakeIn) (s : State) : Out := .next (coreBorRelease w s)
def execRefLoss (s : State) : Out := .next (refLossNow s)
def execHoldSample (x : SlowSample) (s : State) : Out := .next (holdSample x s)
def execWakeQualified (w : WakeIn) (s : State) : Out := .next (wakeQualified w s)
def execHSealEnd (s : State) : Out := .next (sealEnd s)

/-- A STATE_REQ write of a command leaves the post buffer. -/
def reqRow (cmd : Nat) (key : BitVec 16) (be : ByteEn) (s : State) : Out :=
  let data := pack [(cmd, 4, 0), (key.toNat, 16, 16)]
  .next (leave ⟨0x14, data, be⟩ (evalReq data) s)

def execStateReqNop (key : BitVec 16) (be : ByteEn) (s : State) : Out := reqRow 0 key be s
def execStateReqServiceEnter (key : BitVec 16) (be : ByteEn) (s : State) : Out := reqRow 1 key be s
def execStateReqServiceLeave (key : BitVec 16) (be : ByteEn) (s : State) : Out := reqRow 2 key be s
def execStateReqEarly (key : BitVec 16) (be : ByteEn) (s : State) : Out := reqRow 3 key be s
def execStateReqDiscardComb (key : BitVec 16) (be : ByteEn) (s : State) : Out := reqRow 4 key be s
def execStateReqDormant (key : BitVec 16) (be : ByteEn) (s : State) : Out := reqRow 5 key be s
def execStateReqShip (key : BitVec 16) (be : ByteEn) (s : State) : Out := reqRow 6 key be s
def execStateReqSoftReset (key : BitVec 16) (be : ByteEn) (s : State) : Out := reqRow 7 key be s
def execStateReqReserved (cmd : Nat) (key : BitVec 16) (be : ByteEn) (s : State) : Out :=
  if 8 ≤ cmd ∧ cmd ≤ 15 then reqRow cmd key be s else .next s

end Sys2Proof.Machine
end

