-- ==== Sys2Proof/Machine/Engine.lean ====
section
/-! DEFINITION. The ends of array operations (13) and what each belongs to: commands, catalog words, commits, compaction and
the event log's records and erases (15); and the commands that queue DROP and SNAP records. -/

namespace Sys2Proof.Machine

/-! The event log (R301, R345). -/

/-- Sector k of the log ring, as an array sector of a bank. -/
def logSector (k : Nat) (bankB : Bool) : Nat := (if bankB then 128 else 0) + 106 + k

/-- The erase of log sector k in a bank is queued. -/
def logErase (k : Nat) (bankB : Bool) (s : State) : State :=
  let s1 := submit { req := .engine, erase := true, off := logSector k bankB * 0x4000, tag := 2, arg := 2 * k + b2n bankB } s
  { s1 with tally := { s1.tally with eraseAhead := 1 + 2 * k + b2n bankB } }

/-- Program step i of a record: words Y and X in bank A, then Y and X in bank B. -/
def logProgram (i : Nat) (r : Record) (s : State) : State :=
  let isY := i % 2 == 0
  let w := fun (j : Nat) => (recordWord r j).zeroExtend 64
  let d : DWord := if isY then w 2 ||| (w 3 <<< 32) else w 0 ||| (w 1 <<< 32)
  submit { req := .engine, erase := false, off := logOff s.tally.slot isY (decide (2 ≤ i)), data := d, tag := 1, arg := i } s

/-- The records of a sector stop being held once its erase has begun. -/
def logUnhold (s : State) : State :=
  let ops : List ArrOp := s.arr.run.toList ++ (s.arr.susp.map fun (z : Susp) => z.op).toList
  let secs := ops.filterMap fun (o : ArrOp) => if o.tag = 2 then some (o.arg / 2) else none
  if secs.isEmpty then s
  else { s with tally := { s.tally with held := s.tally.held.filter fun p => !secs.contains (p.1 / 1024) } }

/-- The sector that the next record goes into waits for its erase. -/
def logBlocked (s : State) : Bool := s.tally.eraseAhead != 0 && decide ((s.tally.eraseAhead - 1) / 2 = s.tally.slot / 1024)

/-- The log can be written: ARRAY is powered and LOG_NEXT recovered. -/
def logOpen (s : State) : Bool := powered s && !(s.top.state = .wake && decide (s.top.wakeStep < 2))

/-- A record waits or is being written. -/
def logWaits (s : State) : Bool := (!s.tally.queue.isEmpty || decide (s.tally.cur.isSome ∧ s.tally.curStep < 4)) && !logBlocked s

/-- The next waiting record begins; entering a sector queues the erase of the one after it. -/
def logStart (s : State) : State :=
  match s.tally.cur, s.tally.queue with
  | none, r :: q =>
    if !logOpen s || logBlocked s then s
    else
      let r1 := { r with seq := s.tally.next }
      let s1 := logProgram 0 r1 { s with tally := { s.tally with
        queue := q, cur := some r1, curStep := 0, curFail := false, curX := false, next := (s.tally.next + 1) % 16384 } }
      if s.tally.slot % 1024 = 0 then logErase ((s.tally.slot / 1024 + 1) % 14) false s1 else s1
  | _, _ => s

/-- A sector ahead that a reset left unerased is erased before it is needed. DEDUCED from R345. -/
def logPrepare (s : State) : State :=
  if logOpen s && s.tally.eraseAhead == 0 && s.tally.cur.isNone then
    let k := if s.tally.slot % 1024 = 0 then s.tally.slot / 1024 else (s.tally.slot / 1024 + 1) % 14
    let need := fun (b : Bool) => !s.arr.retired.contains (logSector k b) && (firstUsed s (logSector k b)).isSome
    if need false then logErase k false s else if need true then logErase k true s else s
  else s

/-- The log engine suspends its own erase while a record waits, and resumes it when none does. -/
def logYield (s : State) : State :=
  match s.arr.run, s.arr.susp with
  | some o, none => if o.tag = 2 ∧ logWaits s ∧ s.arr.autoMin = 0 then suspendRun 3 s else s
  | none, some z => if z.cause = 3 ∧ !logWaits s then startNext (resumeSusp 25 s) else s
  | _, _ => s

/-- What a boundary does for the log: the record of the ended frame becomes held, the next begins. -/
def logBoundary (s : State) : State :=
  let t := s.tally
  let s1 := match t.cur with
    | some r =>
      let held := if t.curX then (t.held.filter fun p => p.1 != t.slot && p.2.seq != r.seq) ++ [(t.slot, { r with onB := t.curFail })] else t.held
      if 4 ≤ t.curStep then { s with tally := { t with held := held, cur := none, curStep := 0, curX := false, curFail := false,
                                                       slot := (t.slot + 1) % 14336 } }
      else { s with tally := { t with held := held } }
    | none => s
  logUnhold (logYield (logStart (logPrepare s1)))

/-- A program of the record under way has ended (R301, R345). -/
def logStep (i : Nat) (ok : Bool) (s : State) : State :=
  match s.tally.cur with
  | some r =>
    let fail := s.tally.curFail || (!ok && decide (i < 2))
    let x := s.tally.curX || (ok && ((i == 1 && !fail) || (i == 3 && fail)))
    let s1 := { s with tally := { s.tally with curStep := i + 1, curFail := fail, curX := x } }
    if i < 3 then logProgram (i + 1) r s1 else s1
  | none => s

/-- An erase of the log ring has ended: bank B follows bank A. -/
def logErased (arg : Nat) (s : State) : State :=
  if arg % 2 = 0 then logErase (arg / 2) true s else { s with tally := { s.tally with eraseAhead := 0 } }

/-! Catalog words (R237, R262, R265, R285). -/

/-- A word of an entry is in place. -/
def catDone (arg : Nat) (s : State) : State :=
  let slot := arg / 16
  let w := arg % 16
  if w = 0 then
    match s.nand.prepEntry with
    | some e => if e.slot = slot then armed e s else s
    | none => s
  else if w < 13 then s
  else
    match catDecode s slot with
    | some e =>
      let s1 := modEntry slot (fun _ => e) s
      if w = 13 then { s1 with top := { s1.top with combPend := true } }
      else if w = 14 then
        let s2 := { s1 with top := { s1.top with combPend := true } }
        if s.harv.sealStep = 2 ∧ e.combId = s.harv.combId then sealDone s2 else s2
      else endDone e.combId s1
    | none => s

/-- A word of an entry could be programmed in neither bank. -/
def catFails (arg : Nat) (s : State) : State :=
  let w := arg % 16
  match s.nand.catalog.find? (fun e => e.slot == arg / 16) with
  | some e => if w = 14 then sealFails s else if w = 15 then endFails e.combId s else s
  | none => s

/-- A catalog program ends (R265): after a FAIL in bank A the word goes to bank B. -/
def catEnd (o : ArrOp) (ok : Bool) (s : State) : State :=
  if ok then catDone o.arg s
  else if o.off < 0x200000 then
    submit { o with off := o.off + 0x200000, frames := 0 } { s with nand := { s.nand with catAlt := true } }
  else catFails o.arg s

/-- An operation of a compaction has ended: after the last one the copies are the catalog (R267). -/
def compactStep (s : State) : State :=
  let mine := fun (o : ArrOp) => o.tag == 9
  if s.arr.queue.any mine || (s.arr.run.map mine).getD false || (s.arr.susp.map fun z => mine z.op).getD false then s else compactEnd s

/-- A program of a training set ends: the set counts from the first copy that is in place; with both lost the training has failed
(R215, R290, R292). arg: the rate, and the bank. -/
def setEnd (arg : Nat) (ok : Bool) (s : State) : State :=
  let second := decide (2 ≤ arg)
  if ok then setStored second s
  else if arg % 2 = 1 && (if second then s.dram.set2400 else s.dram.setHost) != some (geomKey s) then trainFails s
  else s

/-! ARRAY_PROGRAM_END and ARRAY_ERASE_END (R293, R294, R417). -/

/-- The pulses of a requester's operation show in its status. -/
def notePulses (r : Requester) (n : Nat) (s : State) : State := setPort r { portOf s r with pulses := n } s

/-- The running program ends after its pulses. -/
def programEnd (pulses : Nat) (ok : Bool) (s : State) : State :=
  match s.arr.run with
  | some o =>
    if !o.erase && decide (1 ≤ pulses) && decide (pulses ≤ 16) && (ok || pulses == 16) && decide (28 + 12 * pulses ≤ 4 * (o.frames + 1)) then
      let w := o.off / 8
      let s0 := notePulses o.req pulses { s with arr := { s.arr with run := none } }
      let s1 :=
        if ok then
          let j := injectUse 9 (setWord w (maskData o.data o.mask) s0)
          { j.1 with arr := { j.1.arr with
              ceMarks := if j.2 = 1 then insertNat w j.1.arr.ceMarks else j.1.arr.ceMarks
              ueMarks := if j.2 = 2 then insertNat w j.1.arr.ueMarks else j.1.arr.ueMarks } }
        else
          let s2 := setWord w (Config.undefinedWord s0.free) s0
          tally 0x33 1 (BitVec.ofNat 32 o.off) { s2 with free := s2.free + 1 }
      let s3 := if o.req = .engine then s1 else endCmd o.req (if ok then 4 else 5) s1
      let s4 :=
        if o.tag = 1 then logStep o.arg ok s3
        else if o.tag = 3 then catEnd o ok s3
        else if o.tag = 4 then commitEnd o.arg s3
        else if o.tag = 6 then setEnd o.arg ok s3
        else if o.tag = 9 then compactStep s3
        else s3
      logUnhold (serveWaits (startNext s4))
    else s
  | none => s

/-- The erase of `tx spoil` has ended: its line is answered (R380). -/
def orfSpoilt (ok : Bool) (s : State) : State :=
  if s.orf.ready then { s with orf := { s.orf with ready := false, line := [], status := if ok then 0 else 6 } } else s

/-- The running erase ends after its pulses. -/
def eraseEnd (pulses : Nat) (ok : Bool) (s : State) : State :=
  match s.arr.run with
  | some o =>
    if o.erase && decide (1 ≤ pulses) && decide (pulses ≤ 48) && (ok || pulses == 48) && decide (200 + 2256 * pulses ≤ 4 * (o.frames + 1)) then
      let sec := secOf o.off
      let s0 := notePulses o.req pulses { s with arr := { s.arr with run := none } }
      let s1 := if ok then eraseOk sec s0 else eraseFail sec s0
      let s2 := if o.req = .engine then s1
        else endCmd o.req (if ok then 4 else 5) (setPort o.req { portOf s1 o.req with suspReq := false } s1)
      let s3 :=
        if o.tag = 2 then logErased o.arg s2
        else if o.tag = 4 then commitEnd o.arg s2
        else if o.tag = 9 then compactStep s2
        else if o.tag = 5 then orfSpoilt ok s2
        else s2
      logUnhold (serveWaits (startNext s3))
    else s
  | none => s

/-! DROP and SNAP (R345, R348). -/

/-- DROP_RECORD_WRITE. -/
def dropWrite (s : State) : State :=
  if logOpen s && decide (0 < s.tally.drops) && decide (s.tally.queue.length < 32) && !logBlocked s then
    logRec 14 0 0 (BitVec.ofNat 32 s.tally.drops) { s with tally := { s.tally with drops := 0, dropSent := false } }
  else s

/-- SNAP_RECORD_WRITE: one record per register, in order, under the snapshot's stamp. -/
def snapWrite (s : State) : State :=
  if logOpen s && s.top.state != .harvest && !s.tally.snap.isEmpty then
    s.tally.snap.foldl (fun s p => logAt s.tally.snapEpoch 6 (BitVec.ofNat 8 p.1) 0 p.2 s)
      { s with tally := { s.tally with snap := [] } }
  else s

/-! One definition per command. -/

def execArrayProgramEnd (pulses : Nat) (ok : Bool) (s : State) : Out := .next (programEnd pulses ok s)
def execArrayEraseEnd (pulses : Nat) (ok : Bool) (s : State) : Out := .next (eraseEnd pulses ok s)
def execDropRecordWrite (s : State) : Out := .next (dropWrite s)
def execSnapRecordWrite (s : State) : Out := .next (snapWrite s)

end Sys2Proof.Machine
end

