-- ==== Sys2Proof/Machine/Faults.lean ====
section
/-! DEFINITION. Tally's own commands (15): messages, windows, FAULT_N, DEGRADED, HALT and check-bit injection. -/

namespace Sys2Proof.Machine

/-- TALLY_MESSAGE (R329, R330): a source with no sender, or a kind it does not have, sends nothing. -/
def tallyMessage (src kind : Nat) (addr : Word) (s : State) : State :=
  if decide (1 ≤ kind) && decide (kind ≤ kindsOf src) && s.top.state != .off then tally src kind addr s else s

/-- TALLY_WINDOW_END (R331). -/
def windowEnd (src : Nat) (s : State) : State :=
  let o := srcOf s src
  if powered s && o.open_ && o.left == 0 then
    modSrc src (fun o => { o with open_ := false, left := 0, count := 0, severe := false, escalated := false }) s
  else s

/-- FAULT_N_PULSE_END (R338): FAULT_N follows LEVEL again. -/
def pulseEnd (s : State) : State :=
  if s.tally.pulseLeft = some 0 then
    { s with tally := { s.tally with pulseLeft := none } } else s

/-- DEGRADED_EXIT (R339): 2^QLOG2 frames without renewal. -/
def degradedExit (s : State) : State :=
  if powered s && s.tally.degraded && !s.tally.halted && decide (2 ^ crf s 0xAC 16 5 ≤ s.tally.quiet) then
    let n := satInc 0xFFFF s.tally.exits
    logEv 10 0 0 (BitVec.ofNat 32 n) { s with tally := { s.tally with degraded := false, exits := n } }
  else s

/-- A FAULT_INJECT write (R342, R369): class S, except that a write that sets only CANCEL needs no level. -/
def applyInject (data : Word) (be : ByteEn) (s : State) : State :=
  let m := beMask be
  let cancel := be.getLsbD 2 && data.getLsbD 16
  let only := cancel && ((data &&& m) &&& 0x0000FF1F) == 0
  if !only && !grantsS s then reject 0xA8 0 s
  else
    let s1 := if only then s else regHook 0xA8 m (writeReg 0xA8 data m s)
    if cancel then { s1 with tally := { s1.tally with injLeft := 0, injChk := 0, injDbl := false } } else s1

/-- What a boundary counts for Tally: windows, the pulse, the quiet time, DEGRADED and HALT of the last frame. -/
def tallyBoundary (s : State) : State :=
  let t := s.tally
  let src := t.src.map fun p => (p.1, ({ p.2 with left := p.2.left - 1, inFrame := false } : Source))
  let s1 := { s with tally := { t with
    src := src
    pulseLeft := t.pulseLeft.map (fun n => n - 1)
    quiet := if t.degradeIn then 0 else t.quiet + 1
    degraded := t.degraded || t.degradeIn
    degradeIn := false } }
  let s2 := { s1 with tally := { s1.tally with markEnd := crb s1 0xA4 11 } }
  match t.haltIn with
  | some 2 =>
    let s3 := quiesceCore true (quiesceCore false { s2 with tally := { s2.tally with haltIn := some 1, halted := true } })
    dropWork (fun w => match w with | .hiveTask _ => true | .extension => true | _ => false) s3
  | some _ =>
    haltCore true (haltCore false { s2 with tally := { s2.tally with haltIn := none } })
  | none => s2

/-! One definition per command. -/

def execTallyMessage (src kind : Nat) (addr : Word) (s : State) : Out := .next (tallyMessage src kind addr s)
def execTallyWindowEnd (src : Nat) (s : State) : Out := .next (windowEnd src s)
def execFaultNPulseEnd (s : State) : Out := .next (pulseEnd s)
def execDegradedExit (s : State) : Out := .next (degradedExit s)
def execFaultInjectArm (data : Word) (be : ByteEn) (s : State) : Out := .next (leave ⟨0xA8, data, be⟩ (applyInject data be) s)
def execFaultInjectCancel (be : ByteEn) (s : State) : Out :=
  .next (leave ⟨0xA8, 0x00010000, be⟩ (applyInject 0x00010000 be) s)

end Sys2Proof.Machine
end

