-- ==== Sys2Proof/Machine/Secu.lean ====
section
/-! DEFINITION. Lifecycle commands and key operations (R349, R350, R354, R355, R357): the LIFECYCLE and KEY_CTRL writes and
the ends of what they start. -/

namespace Sys2Proof.Machine

/-! Lifecycle. -/

/-- Why a lifecycle command is refused (R350, Table: Lifecycle commands); 0: it is accepted. -/
def lifeRefuse (s : State) (cmd key : Nat) : Nat :=
  let k := s.sec
  let here := s.top.state = .service && (match cmd with
    | 1 => k.life = .blank && k.level == 3
    | 2 => k.life = .provisioned && decide (2 ≤ k.level)
    | 3 => k.life.inUse && k.level == 3
    | _ => k.life ≠ .scrapped && decide (2 ≤ k.level))
  if key ≠ 0x4C43 ∨ 5 ≤ cmd then 2
  else if !here then 3
  else if cmd = 3 ∧ s.top.combPend then 4
  else if cmd = 1 ∧ (k.ukOwner = [] ∨ k.ukVendor = []) then 5
  else if s.scout.tamperQ then 7
  else 0

/-- A LIFECYCLE write: the bytes that are not enabled count as 0. A busy block drops CMD with REJECT (R41). -/
def applyLife (data : Word) (be : ByteEn) (s : State) : State :=
  let v := data &&& beMask be
  let cmd := fld v 8 4
  if !be.getLsbD 1 then s
  else if s.sec.lcBusy.isSome then reject 0x0C 0 s
  else if cmd = 0 then s
  else
    match lifeRefuse s cmd (fld v 16 16) with
    | 0 => { s with sec := { s.sec with lcBusy := some cmd } }
    | r => { s with sec := { s.sec with lcResult := r } }

/-- Sectors 100–103 of both banks are erased: the slot records and the key check record go with them. -/
def eraseKeys (s : State) : State :=
  let s1 := [100, 101, 102, 103, 228, 229, 230, 231].foldl (fun s x => eraseOk x s) s
  { s1 with sec := { s1.sec with keyRec := none, slots := [], lostAny := false } }

/-- END is in place for every catalog entry that lacked one, DISCARDED for OPEN or SEALED entries and VOID for ARMED ones: the command
programs them before it is done (Table: Lifecycle commands). -/
def endPlaced (s : State) : State :=
  (s.nand.catalog.filter fun e => e.ended == 0).foldl (fun s e =>
    let x := { e with ended := if e.opened || e.sealed then 2 else 3, endEpoch := s.fr.epoch }
    modEntry e.slot (fun _ => x) (setWord (catOff e.slot 15 false / 8) (catWord x 15) s)) s

/-- The effect of a lifecycle command (Table: Lifecycle commands). -/
def lifeEffect (cmd : Nat) (s0 : State) : State :=
  let s := if cmd = 1 then keyAppend 5 s0 else s0
  if cmd = 1 then { s with sec := { s.sec with otpSecret := true, keyRec := some s.sec.epochFuses, life := .provisioned } }
  else if cmd = 2 then { s with sec := { s.sec with life := .deployed } }
  else if cmd = 3 then
    let s1 := eraseKeys s
    { s1 with sec := { s1.sec with life := .rma } }
  else
    let s1 := eraseKeys (endPlaced s)
    { s1 with sec := { s1.sec with epochFuses := 32, life := .scrapped } }

/-- LIFECYCLE_CMD_DONE (R350): RESULT, the LC_CHANGE message, WAKE at the next boundary, and a kill that waited. -/
def lifeDone (ok : Bool) (s : State) : State :=
  match s.sec.lcBusy with
  | some cmd =>
    let s1 := if ok then lifeEffect cmd s else s
    let s2 := { s1 with
      sec := { s1.sec with lcBusy := none, lcResult := if ok then 1 else 6 }
      top := { s1.top with trig := { s1.top.trig with softWake := true } } }
    let s3 := if ok then tally 0x24 3 (BitVec.ofNat 32 s2.sec.life.code) s2 else s2
    if s3.sec.killPend then
      let s4 := kill s3
      { s4 with top := { s4.top with trig := { s4.top.trig with tamper := true } } }
    else s3
  | none => s

/-! Keys. -/

/-- A KEY_CTRL write is refused or an operation fails: ERR with its code. -/
def keyFail (code : Nat) (s : State) : State := { s with sec := { s.sec with keyErr := true, keyCode := code } }

/-- The conditions of R355; 0: they hold. -/
def keyRefuse (s : State) (op : Nat) : Nat :=
  if 7 ≤ op then 1
  else if s.sec.level = 3 then 8
  else if s.top.state ≠ .service ∨ s.sec.level ≠ 2 ∨ s.scout.tamperQ then 2
  else if !s.sec.life.inUse then 3
  else if s.top.combPend || s.dram.imgOpen then 4
  else 0

/-- The 32 staged halfwords in order. -/
def stagedKey (s : State) : List (BitVec 16) := s.sec.staging.map (·.2)

/-- What RAISE_FW and RAISE_EXT set (R357): VERSION[31:24] of the running image, capped at 63; 0 with no running image. -/
def raiseVal (s : State) (fw : Bool) : Nat :=
  if fw then min 63 (fld (s.hive.fwVersion.getD 0) 24 8) else if s.hive.extLoaded then min 63 (fld s.hive.extVersion 24 8) else 0

/-- A halfword enters the staging register. -/
def stageHalf (idx : Nat) (d : BitVec 16) (s : State) : State :=
  let old := s.sec.staging
  { s with sec := { s.sec with
      staging := (old.filter fun p => decide (p.1 < idx)) ++ [(idx, d)] ++ (old.filter fun p => decide (idx < p.1)) } }

/-- An operation that R355 lets through starts, or LOAD is done at once. -/
def keyStart (op slot idx : Nat) (d : BitVec 16) (s : State) : State :=
  let go := { s with sec := { s.sec with keyBusy := some (op, slot) } }
  if op = 2 then stageHalf idx d s
  else if op = 3 then
    if s.sec.staging.length ≠ 32 ∨ (stagedKey s).take 16 = (stagedKey s).drop 16 then keyFail 5 s
    else { go with sec := { go.sec with keyIn := stagedKey s } }
  else if op = 5 then (if raiseVal s true ≤ s.sec.fwMin then keyFail 7 s else go)
  else if op = 6 then (if raiseVal s false ≤ s.sec.extMin then keyFail 7 s else go)
  else go

/-- A KEY_CTRL write (R41, R355): SLOT also selects KEY_STAT.SLOT_STATE, and OP 0 does nothing else; bytes that are not
enabled count as 0, but for SLOT's bits, which keep their value. -/
def applyKeyCtrl (data : Word) (be : ByteEn) (s : State) : State :=
  if s.sec.keyBusy.isSome then reject 0xD0 0 s
  else
    let v := data &&& beMask be
    let slot := fld (mergeBits (BitVec.ofNat 32 (s.sec.keySlot * 16)) data (beMask be)) 4 6
    let s1 := { s with sec := { s.sec with keySlot := slot } }
    let op := fld v 0 4
    if op = 0 then s1
    else match keyRefuse s1 op with
      | 0 => keyStart op slot (fld v 10 5) ((v >>> 16).truncate 16) s1
      | r => keyFail r s1

/-- A slot changes. -/
def putSlot (slot : Nat) (v : Slot) (s : State) : State :=
  let m := Sparse.put (fun _ => Slot.empty) s.sec.slots slot v
  { s with sec := { s.sec with slots := m, lostAny := m.any fun p => p.2 == .lost } }

/-- The effect of a key operation (Table: KEY_CTRL, R354, R357): a slot's change appends its record. -/
def keyEffect (op slot : Nat) (s0 : State) : State :=
  let s := if op = 1 ∨ op = 3 ∨ op = 4 then keyAppend 9 s0 else s0
  if op = 1 then putSlot slot (.generated s.free) { s with free := s.free + 1 }
  else if op = 3 then putSlot slot (.imported s.sec.keyIn) s
  else if op = 4 then putSlot slot .empty s
  else if op = 5 then { s with sec := { s.sec with fwMin := max s.sec.fwMin (raiseVal s true) } }
  else { s with sec := { s.sec with extMin := max s.sec.extMin (raiseVal s false) } }

/-- KEY_OP_DONE (R355): the staging register is cleared after an IMPORT. -/
def keyDone (ok : Bool) (s : State) : State :=
  match s.sec.keyBusy with
  | some (op, slot) =>
    let s1 := if ok then keyEffect op slot s else keyFail 6 s
    { s1 with sec := { s1.sec with
        keyBusy := none, keyIn := [], staging := if op = 3 then [] else s1.sec.staging } }
  | none => s

/-! One definition per command. -/

/-- A LIFECYCLE write of a command leaves the post buffer. -/
def lifeRow (cmd : Nat) (key : BitVec 16) (be : ByteEn) (s : State) : Out :=
  let data := pack [(cmd, 4, 8), (key.toNat, 16, 16)]
  .next (leave ⟨0x0C, data, be⟩ (applyLife data be) s)

/-- A KEY_CTRL write leaves the post buffer. -/
def keyRow (op slot idx : Nat) (d : BitVec 16) (s : State) : Out :=
  let data := pack [(op, 4, 0), (slot, 6, 4), (idx, 5, 10), (d.toNat, 16, 16)]
  .next (leave ⟨0xD0, data, allBe⟩ (applyKeyCtrl data allBe) s)

def execLifecycleProvision (key : BitVec 16) (be : ByteEn) (s : State) : Out := lifeRow 1 key be s
def execLifecycleDeploy (key : BitVec 16) (be : ByteEn) (s : State) : Out := lifeRow 2 key be s
def execLifecycleRma (key : BitVec 16) (be : ByteEn) (s : State) : Out := lifeRow 3 key be s
def execLifecycleScrap (key : BitVec 16) (be : ByteEn) (s : State) : Out := lifeRow 4 key be s
def execLifecycleCmdDone (ok : Bool) (s : State) : Out := .next (lifeDone ok s)
def execKeyGen (slot : Nat) (s : State) : Out := keyRow 1 slot 0 0 s
def execKeyLoad (idx : Nat) (data : BitVec 16) (s : State) : Out := keyRow 2 s.sec.keySlot idx data s
def execKeyImport (slot : Nat) (s : State) : Out := keyRow 3 slot 0 0 s
def execKeyZero (slot : Nat) (s : State) : Out := keyRow 4 slot 0 0 s
def execKeyRaiseFw (s : State) : Out := keyRow 5 s.sec.keySlot 0 0 s
def execKeyRaiseExt (s : State) : Out := keyRow 6 s.sec.keySlot 0 0 s
def execKeyReservedOp (op : Nat) (s : State) : Out :=
  if 7 ≤ op ∧ op ≤ 15 then keyRow op s.sec.keySlot 0 0 s else .next s
def execKeyOpDone (ok : Bool) (s : State) : Out := .next (keyDone ok s)

end Sys2Proof.Machine
end

