-- ==== Sys2Proof/Machine/Weave.lean ====
section
/-! DEFINITION. Weave (18): TICKs and statuses as a member receives them, mastership, the apportionment of a shared store,
the timed disruptions, and what a frame boundary does for the Swarm. -/

namespace Sys2Proof.Machine

/-- The Weave link of a member handles packets: EN, and input in alignment (R381, R382). -/
def linkUp (s : State) : Bool := powered s && wvEn s && s.weave.sync

/-- Eligible to be master (R385). -/
def eligible (s : State) : Bool := wvEn s && crb s 0xB0 6 && !s.fr.refLoss && !s.weave.dupId

/-- The fields whose change sets INT_STAT.WEAVE (R395). -/
def weaveMarks (w : WeaveB) : Nat × List Bool :=
  (w.masterId, [w.ringOk, w.lock, w.joined, w.frozen, w.dupId, w.cfgMis, w.noChg])

/-- s with another Weave state, which sets INT_STAT.WEAVE where a field of R395 changes. -/
def putWeave (w : WeaveB) (s : State) : State :=
  let s1 := { s with weave := w }
  if weaveMarks w = weaveMarks s.weave then s1 else setInt 8 s1

/-- JOINED as R392 defines it; the charge member holds its own STORE. -/
def joinedNow (s : State) (w : WeaveB) : Bool :=
  (match w.frac with | some f => f != 0xFFFF | none => false) && (w.storeWake || wvChg s)

/-- MASTER_ID takes a new value, with its message (R385). -/
def masterChange (id : Option Nat) (s : State) : State :=
  let v := id.getD 0
  if v = s.weave.masterId then s
  else tally 0x39 2 (BitVec.ofNat 32 (id.getD 0x3F)) (putWeave { s.weave with masterId := v } s)

/-- A packet whose CRC fails (R382). -/
def weaveCrc (s : State) : State := tally 0x38 2 (s.fr.epoch.truncate 32) s

/-! Packets (R382, R383): control characters are K28.5 0xBC and K27.7 0xFB. -/

/-- One step of CRC-16 with polynomial 0x1021 over a bit. -/
def crc16Bit (c : BitVec 16) : BitVec 16 := if c.msb then (c <<< 1) ^^^ 0x1021 else c <<< 1

/-- CRC-16 with one byte more. -/
def crc16Byte (c : BitVec 16) (b : BitVec 8) : BitVec 16 :=
  (crc16Bit <| crc16Bit <| crc16Bit <| crc16Bit <| crc16Bit <| crc16Bit <| crc16Bit <| crc16Bit (c ^^^ (b.zeroExtend 16 <<< 8)))

/-- A 16-bit field, little-endian. -/
def le16 (v : BitVec 16) : List (BitVec 8) := [v.truncate 8, (v >>> 8).truncate 8]

/-- A packet with its CRC, which covers every byte after the first. -/
def withCrc (bs : List (BitVec 8)) : List (BitVec 8) := bs ++ le16 ((bs.drop 1).foldl crc16Byte 0xFFFF)

/-- A TICK (Table: Weave packets). -/
def tickPacket (t : TickIn) : List (BitVec 8) :=
  withCrc ([0xBC, BitVec.ofNat 8 (b2n t.ringOk + 2 * b2n t.freeze), BitVec.ofNat 8 (t.masterId % 64), 0] ++ le16 t.swf ++ le16 t.delay ++
    (List.range 4).flatMap fun k => le16 (BitVec.ofNat 16 ((t.frac[k]?).getD 0xFFFF)))

/-- A status packet (Table: Weave packets, Table: Status payloads). -/
def statusPacket (x : StatusIn) : List (BitVec 8) :=
  withCrc ([0xFB, BitVec.ofNat 8 (x.id % 64 + 64 * (x.kind % 4)), BitVec.ofNat 8 (x.state % 16 + 16 * (x.group % 16)),
    BitVec.ofNat 8 (b2n x.chg + 2 * b2n x.tickLock + 4 * b2n x.refLoss)] ++ bytesOf x.p0 ++ bytesOf x.p1 ++ [BitVec.ofNat 8 x.p2])

/-! Status packets. -/

/-- CELLS, VMIN and CRATED as a CONFIG status carries them. -/
def ownCfg (s : State) : Word := pack [(cellsN s, 4, 0), (vmin s, 8, 8), (crated s, 10, 16)]

/-- CHARGE_STAT.MODE and GRADE as a STORE status carries them. -/
def modeGrade (s : State) : Nat :=
  if copiesStore s then (match s.weave.store with | some x => x.2.2 | none => 0) else s.store.mode + 8 * s.store.grade

/-- The status that a member writes into its slot in the round of a Swarm frame (R383, R384). -/
def statusOut (s : State) (swf : BitVec 16) : StatusIn :=
  let r := fld swf 4 2
  let kind := if r = 1 then 1 else if r = 3 then 2 else 0
  let pay : Word × Word × Nat :=
    if kind = 0 then (BitVec.ofNat 32 (min 0xFFFFFFFF s.adm.need), BitVec.ofNat 32 (min 0xFFFFFFFF (eAdmOf s)), 0)
    else if kind = 1 then (BitVec.ofNat 32 (min 0xFFFFFFFF (eStore s)), pack [(sat16 (cUse s), 16, 0), (sat16 (esrT s), 16, 16)], modeGrade s)
    else (ownCfg s, pack [(nT s, 6, 0)], 0)
  ⟨s.weave.myId, kind, s.top.state.code, wvGroup s, wvChg s, s.weave.lock, s.fr.refLoss, pay.1, pay.2.1, pay.2.2, true⟩

/-- The template that carries this member's slot passes: its status is written, unless DUP_ID stops it (R384, R394). -/
def statusSend (swf : BitVec 16) (s : State) : State :=
  if s.weave.myId % 16 = fld swf 0 4 ∧ s.weave.dupId = false then
    let x := statusOut s swf
    { s with weave := { s.weave with sent := some x, slotOut := statusPacket x } }
  else s

/-- A status is recorded in PEER (R384). -/
def peerRecord (x : StatusIn) (s : State) : State :=
  modPeer x.id (fun (p : Peer) => { p with
    live := true, age := 0, state := x.state % 16, group := x.group % 16, chg := x.chg
    last := s.fr.epoch.truncate 32
    need := if x.kind = 0 then x.p0.toNat else p.need
    a := if x.kind = 0 then x.p1.toNat else p.a
    es := if x.kind = 1 then some x.p0 else p.es
    esAge := if x.kind = 1 then 0 else p.esAge
    cfg := if x.kind = 2 then some (x.p0, x.p1) else p.cfg }) s

/-- What a status of the own group's charge member gives (R389, R390, R392, R393). A new MODE or GRADE that CHARGE_STAT copies sets
INT_STAT.CHARGE (R197). -/
def chargeStatus (x : StatusIn) (s : State) : State :=
  if x.chg && x.group == wvGroup s && copiesStore s then
    if x.kind = 1 then
      let w := { s.weave with store := some (x.p0, x.p1, x.p2 % 32), storeAge := 0, storeWake := true, noChg := false }
      let s1 := if modeGrade s = x.p2 % 32 then s else setCharge s
      putWeave { w with joined := joinedNow s w } s1
    else if x.kind = 2 then
      let bad := x.p0 != ownCfg s
      let s1 := putWeave { s.weave with cfgMis := bad } s
      if bad && !s.weave.cfgMis then tally 0x3C 2 (BitVec.ofNat 32 s.weave.myId) s1 else s1
    else s
  else s

/-- The own slot is already filled in the own frame (R394). The master reads its own status in a template that returns. -/
def dupFound (s : State) : State :=
  if s.weave.isMaster || s.weave.dupId then s
  else tally 0x3C 1 (BitVec.ofNat 32 s.weave.myId) (putWeave { s.weave with dupId := true } s)

/-- WEAVE_STATUS_RECEIVE (R382, R384, R394). -/
def statusReceive (x : StatusIn) (s : State) : State :=
  if !linkUp s then s
  else if !x.crcOk then weaveCrc s
  else if x.kind = 3 ∨ 64 ≤ x.id then s
  else if x.id = s.weave.myId then dupFound (spend 14 1 s)
  else chargeStatus x (peerRecord x (spend 14 1 s))

/-! TICK packets. -/

/-- The fractions of a TICK are noted in PEER for the members it serves (Table: PEER entry). -/
def tickFracs (t : TickIn) (s : State) : State :=
  (t.frac.take 4).zipIdx.foldl (fun (s : State) (p : Nat × Nat) =>
    modPeer (fld t.swf 0 4 + 16 * p.2) (fun (q : Peer) => { q with frac := p.1 % 65536 }) s) s

/-- The fraction a TICK brings this member. -/
def ownFrac (t : TickIn) (s : State) : Option Nat :=
  if s.weave.myId % 16 = fld t.swf 0 4 then t.frac[s.weave.myId / 16]? else none

/-- Received fractions are ignored from the trip frame until HARVEST ends (R391). -/
def fracIgnored (s : State) : Bool := s.top.state = .harvest || s.top.trig.trip || tripLevel s || s.weave.dupId

/-- A member takes a TICK that it forwards (R384 to R386, R391, R395). -/
def tickTake (t : TickIn) (s : State) : State :=
  let w := s.weave
  let good := decide (t.err.natAbs ≤ 32)
  let link := fld (cw s 6 w.myId 0) 16 9
  let f := match ownFrac t s with
    | some f => if fracIgnored s then w.nextFrac else some (f % 65536)
    | none => w.nextFrac
  let s1 := putWeave { w with
    tickMaster := some (t.masterId % 64), tickSeen := true, noTick := 0
    lowSeen := w.lowSeen || decide (t.masterId % 64 ≤ w.myId)
    ringOk := t.ringOk
    noRing := if t.ringOk then 0 else w.noRing
    frozen := w.frozen && !t.ringOk
    offset := t.swf - s.fr.epoch.truncate 16
    delayOut := t.delay + BitVec.ofNat 16 (link + t.latency)
    tickOut := tickPacket { t with delay := t.delay + BitVec.ofNat 16 (link + t.latency) }
    err := t.err
    inLock := if s.fr.refLoss then 0 else if good then (if w.tickSeen then w.inLock else w.inLock + 1) else 0
    nextFrac := f } (spend 14 1 s)
  statusSend t.swf (tickFracs t s1)

/-- WEAVE_TICK_RECEIVE (R382, R385, R386). -/
def tickReceive (t : TickIn) (s : State) : State :=
  if !linkUp s then s
  else if !t.crcOk then weaveCrc s
  else if s.weave.isMaster then
    if s.weave.myId < t.masterId % 64 then s
    else if t.masterId % 64 = s.weave.myId then { s with weave := { s.weave with ownBack := 0 } }
    else
      let s1 := tickTake t s
      { s1 with weave := { s1.weave with abdicate := true } }
  else masterChange (some (t.masterId % 64)) (tickTake t s)

/-! Timed events. -/

/-- WEAVE_SYNC_LOSS and WEAVE_SYNC_REALIGN (R382). -/
def syncLoss (s : State) : State :=
  if linkUp s then tally 0x38 1 (s.fr.epoch.truncate 32) { s with weave := { s.weave with sync := false } } else s
def syncRealign (s : State) : State :=
  if powered s && wvEn s then { s with weave := { s.weave with sync := true } } else s

/-- MASTER_ELECTION: 4 frames without a TICK that is not higher (R385). -/
def election (s : State) : State :=
  if powered s && eligible s && !s.weave.isMaster && decide (4 ≤ s.weave.noLower) then
    masterChange (some s.weave.myId) { s with weave := { s.weave with isMaster := true, abdicate := false, ownBack := 9 } }
  else s

/-- TICK_LOCK_SET (R386). -/
def lockSet (s : State) : State :=
  if powered s && wvEn s && !s.weave.lock && !s.fr.refLoss && decide (16 ≤ s.weave.inLock) then
    putWeave { s.weave with lock := true } s
  else s

/-- TICK_LOCK_LOSS (R386): |e| above 40 ns, or 16 frames without a TICK. -/
def lockLoss (s : State) : State :=
  if powered s && wvEn s && s.weave.lock && (decide (64 < s.weave.err.natAbs) || decide (16 ≤ s.weave.noTick)) then
    tally 0x3A 1 (BitVec.ofInt 32 s.weave.err) (putWeave { s.weave with lock := false, inLock := 0 } s)
  else s

/-- WEAVE_FROZEN: 64 frames without a TICK that carries RING_OK (R394). -/
def frozenSet (s : State) : State :=
  if powered s && wvEn s && s.weave.joined && !s.weave.frozen && decide (64 ≤ s.weave.noRing) then
    tally 0x39 1 (BitVec.ofNat 32 s.weave.masterId) (putWeave { s.weave with frozen := true } s)
  else s

/-- PEER_LIVE_TIMEOUT (R394). -/
def peerTimeout (id : Nat) (s : State) : State :=
  if powered s && (peerOf s id).live && !peerLive (peerOf s id) then
    modPeer id (fun (p : Peer) => { p with live := false }) s
  else s

/-- WV_TRIP_LINE_LOW (R388): one message for each such time. -/
def lineLowNow (s : State) : State :=
  if powered s && wvEn s && s.weave.armed && !s.weave.lowSent && decide (2 ^ 18 ≤ s.weave.lowFrames) then
    tally 0x3B 2 (s.fr.epoch.truncate 32) { s with weave := { s.weave with lowSent := true } }
  else s

/-! The master's work (R390, R391). -/

/-- One member as the master sees it: ID, NEED, A, WEIGHT, whether it gets 0, and its group. -/
structure Share where
  id   : Nat
  need : Int
  a    : Int
  w    : Int
  zero : Bool
  deriving DecidableEq, Repr

/-- The charge member's E_S for a group, no older than 256 frames, with its CONFIG. -/
def groupStore (s : State) (g : Nat) : Option (Nat × Option Word) :=
  if wvChg s && wvGroup s == g then some (eStore s, some (ownCfg s))
  else match s.weave.peers.find? (fun p => p.1 != s.weave.myId && p.2.chg && p.2.group == g && p.2.es.isSome && decide (p.2.esAge ≤ 256)) with
    | some p => p.2.es.map fun e => (e.toNat, p.2.cfg.map (·.1))
    | none => none

/-- WEIGHT of a member. -/
def weightOf (s : State) (id : Nat) : Int := Int.ofNat (fld (cw s 6 id 0) 0 8)

/-- The live members of a group. -/
def groupShares (s : State) (g : Nat) (cfg : Option Word) : List Share :=
  let own := if wvGroup s = g then
      [(⟨s.weave.myId, Int.ofNat s.adm.need, Int.ofNat (eAdmOf s), weightOf s s.weave.myId,
        s.weave.dupId || (cfg.isSome && cfg != some (ownCfg s))⟩ : Share)] else []
  let others := (s.weave.peers.filter fun p => p.1 != s.weave.myId && peerLive p.2 && p.2.group == g).map fun p =>
    (⟨p.1, Int.ofNat p.2.need, Int.ofNat p.2.a, weightOf s p.1,
      cfg.isSome && p.2.cfg.isSome && cfg != p.2.cfg.map (·.1)⟩ : Share)
  own ++ others

/-- f_i = ⌊S_i × 64,512 ÷ E_S⌋, exact (R390). -/
def fracOf (e sa sn sw : Int) (x : Share) : Nat :=
  let w := if sw = 0 then 1 else x.w
  if x.zero then 0
  else if e = 0 then Config.shareOfNothing x.id % 65536
  else if sa ≤ e then ((x.a * sw + (e - sa) * w) * 64512 / (sw * e)).toNat
  else if sn ≤ e then ((x.need * (sa - sn) + (e - sn) * (x.a - x.need)) * 64512 / ((sa - sn) * e)).toNat
  else (x.need * 64512 / sn).toNat

/-- The fractions of a group (R390); none when no charge member's STORE is fresh. -/
def apportion (s : State) (g : Nat) : Option (List (Nat × Nat)) :=
  (groupStore s g).map fun (st : Nat × Option Word) =>
    let xs := groupShares s g st.2
    let sum := fun (f : Share → Int) => xs.foldl (fun (a : Int) x => a + f x) 0
    let sw := sum (·.w)
    xs.map fun x => (x.id, fracOf (Int.ofNat st.1) (sum (·.a)) (sum (·.need)) (if sw = 0 then Int.ofNat xs.length else sw)
      (if sw = 0 then { x with w := 1 } else x))

/-- The fraction last sent for a member; 0xFFFF for none. -/
def sentFrac (s : State) (id : Nat) : Nat := (peerOf s id).frac

/-- The group of a member as the master knows it. -/
def groupOf (s : State) (id : Nat) : Nat := if id = s.weave.myId then wvGroup s else (peerOf s id).group

/-- The members whose fractions a master decides: itself and its live peers. -/
def swarm (s : State) : List Nat :=
  insertNat s.weave.myId ((s.weave.peers.filter fun p => peerLive p.2 && p.1 != s.weave.myId).map (·.1))

/-- The fraction sent now, from the new apportionment and that of the round before: one that falls is sent at once, one
that rises in its second round (R391). -/
def nextSent (held : Nat) (prev new : Option Nat) : Nat :=
  match new with
  | none => held
  | some n =>
    if held ≠ 0xFFFF ∧ n < held then n
    else match prev with
      | some p => if held = 0xFFFF ∨ held < min p n then min p n else held
      | none => held

/-- The start of a round: a new apportionment for every shared group (R390, R391). -/
def roundStart (s : State) : State :=
  let plan := (List.range 15).flatMap fun g => (apportion s g).getD []
  let find := fun (m : List (Nat × Nat)) (id : Nat) => (m.find? fun p => p.1 == id).map (·.2)
  let s1 := (swarm s).foldl (fun (s' : State) id =>
    let f := if groupOf s id = 15 then 0xFFFF
      else if s.weave.freeze then (if sentFrac s id = 0xFFFF then 0 else sentFrac s id)
      else nextSent (sentFrac s id) (find s.weave.plan id) (find plan id)
    modPeer id (fun (p : Peer) => { p with frac := f }) s') s
  { s1 with weave := { s1.weave with plan := plan } }

/-- The master's template of a frame (R383, R385, R390, R391). -/
def masterSend (s : State) : State :=
  let swf : BitVec 16 := s.fr.epoch.truncate 16
  let frz := s.top.state = .harvest || s.weave.peers.any (fun p => peerLive p.2 && p.2.state == 5)
  let s1 := putWeave { s.weave with
    freeze := frz, ringOk := decide (s.weave.ownBack ≤ 8), delayOut := 0, offset := 0
    noRing := if s.weave.ownBack ≤ 8 then 0 else s.weave.noRing } s
  let s2 := if fld swf 0 4 = 0 then roundStart s1 else s1
  let s3 := if s2.weave.myId % 16 = fld swf 0 4 ∧ fracIgnored s2 = false then
      { s2 with weave := { s2.weave with nextFrac := some (sentFrac s2 s2.weave.myId) } } else s2
  let own : TickIn := ⟨s3.weave.ringOk, frz, s3.weave.myId, swf, 0,
    (List.range 4).map fun k => sentFrac s3 (fld swf 0 4 + 16 * k), 0, 0, true⟩
  statusSend swf { s3 with weave := { s3.weave with tickOut := tickPacket own } }

/-! The boundary. -/

/-- What a boundary counts. -/
def weaveCount (s : State) : State :=
  let w := s.weave
  { s with weave := { w with
      peers := w.peers.map fun p => (p.1, ({ p.2 with age := p.2.age + 1, esAge := p.2.esAge + 1 } : Peer))
      storeAge := w.storeAge + 1
      noTick := if w.tickSeen then w.noTick else w.noTick + 1
      inLock := if w.tickSeen && !s.fr.refLoss then w.inLock else 0
      noLower := if w.lowSeen then 0 else w.noLower + 1
      noRing := w.noRing + 1
      ownBack := w.ownBack + 1
      lowFrames := if w.armed && w.lineLow then w.lowFrames + 1 else 0
      tickSeen := false
      lowSeen := false } }

/-- A master steps down: a lower TICK came, or it is no longer eligible (R385). -/
def stepDown (s : State) : State :=
  if s.weave.isMaster && (s.weave.abdicate || !eligible s) then
    masterChange s.weave.tickMaster { s with weave := { s.weave with isMaster := false, abdicate := false } }
  else s

/-- A received fraction is applied, but not in HARVEST (R391, R394). -/
def fracApply (s : State) : State :=
  let w := s.weave
  let frac := if s.top.state = .harvest then w.frac
    else if w.dupId then some 0
    else match w.nextFrac with | some f => some f | none => w.frac
  let w1 := { w with frac := frac, nextFrac := none }
  let j := joinedNow s w1
  putWeave { w1 with joined := j, frozen := w1.frozen && j } s

/-- NO_CHG (R390): no charge member's STORE status for 256 frames. -/
def noChgCheck (s : State) : State :=
  if copiesStore s && decide (256 < s.weave.storeAge) && !s.weave.noChg then
    tally 0x3C 3 (BitVec.ofNat 32 s.weave.myId) (putWeave { s.weave with noChg := true } s)
  else s

/-- What a boundary does for the Swarm; with EN = 0 every field reads its Reset value (R381). -/
def weaveBoundary (s : State) : State :=
  if !wvEn s then { s with weave := { myId := s.weave.myId } }
  else
    let s1 := noChgCheck (fracApply (stepDown (weaveCount s)))
    if s1.weave.isMaster then masterSend s1 else s1

/-! One definition per command. -/

def execWeaveTickReceive (t : TickIn) (s : State) : Out := .next (tickReceive t s)
def execWeaveStatusReceive (x : StatusIn) (s : State) : Out := .next (statusReceive x s)
def execWeaveSyncLoss (s : State) : Out := .next (syncLoss s)
def execWeaveSyncRealign (s : State) : Out := .next (syncRealign s)
def execMasterElection (s : State) : Out := .next (election s)
def execTickLockSet (s : State) : Out := .next (lockSet s)
def execTickLockLoss (s : State) : Out := .next (lockLoss s)
def execWeaveFrozen (s : State) : Out := .next (frozenSet s)
def execPeerLiveTimeout (id : Nat) (s : State) : Out := .next (peerTimeout id s)
def execWvTripLineLow (s : State) : Out := .next (lineLowNow s)

end Sys2Proof.Machine
end

