-- ==== Sys2Proof/Machine/Host.lean ====
section
/-! DEFINITION. The host interface (04): what a write does at each register as it leaves the post buffer, the post buffer
itself, HRST_N, interrupts, and the reads that have side effects. -/

namespace Sys2Proof.Machine

/-! W1C bits and command bits of registers that also hold RW fields. -/

/-- The sticky bits of a FAULT_STICKY_SEL group clear, but for sources whose message came in this frame (R334). -/
def clearSticky (g : Nat) (v : Word) (s : State) : State :=
  (List.range 32).foldl (fun (s : State) i =>
    if v.getLsbD i && decide (32 * g + i ≤ 0x6F) then modSrc (32 * g + i) (fun (o : Source) => { o with sticky := o.inFrame }) s
    else s) s

/-- A W1C write to INT_STAT (R87, R88). -/
def clearInt (v : Word) (s : State) : State :=
  let h := s.host
  let keep := h.intFrame ||| (if h.watch then h.watchSet else 0)
  let left := h.intStat &&& ~~~(v.truncate 15 &&& ~~~keep)
  let s1 := { s with host := { h with intStat := left, watch := false, watchSet := 0 } }
  if crb s 0x18 2 && (left &&& intEn s) != 0 && h.hint then { s1 with host := { s1.host with hintEdges := h.hintEdges + 1 } }
  else hintFollow s1

/-- The W1C bits that a write of value v to a register clears. -/
def clearBits (off : Nat) (v : Word) (s : State) : State :=
  let b := fun (i : Nat) => v.getLsbD i
  if off = 0x18 then { s with host := { s.host with mboxOvf := s.host.mboxOvf && !b 10, partErr := s.host.partErr && !b 11 } }
  else if off = 0x40 then { s with ring := { s.ring with portErr := s.ring.portErr && !b 24, dbErr := s.ring.dbErr && !b 27 } }
  else if off = 0x50 then { s with adm := { s.adm with polOvr := s.adm.polOvr && !b 3 } }
  else if off = 0x58 then
    { s with scout := { s.scout with
        warnSeen := s.scout.warnSeen && !b 9, tripSeen := s.scout.tripSeen && !b 10, backup := s.scout.backup && !b 11 } }
  else if off = 0x60 then
    { s with scout := { s.scout with
        talarm := s.scout.talarm && !b 0, adcChk := s.scout.adcChk && !b 3, rtcStop := s.scout.rtcStop && !b 4
        wetSeen := s.scout.wetSeen && !b 5, tamperSeen := s.scout.tamperSeen && !b 6 } }
  else if off = 0x68 then { s with fr := { s.fr with polOvr := s.fr.polOvr && !b 8 } }
  else if off = 0x70 then
    { s with store := { s.store with
        polOvr := s.store.polOvr && !b 3, chgFault := s.store.chgFault && !b 8, testFail := s.store.testFail && !b 12 } }
  else if off = 0x84 then { s with ret := { s.ret with tailErr := s.ret.tailErr && !b 6 } }
  else if off = 0x9C then { s with tally := { s.tally with tripped := s.tally.tripped && !b 8, logDrop := s.tally.logDrop && !b 9 } }
  else if off = 0xA0 then clearSticky (crf s 0x9C 4 2) v s
  else if off = 0xC4 then { s with host := { s.host with dbC2h := s.host.dbC2h &&& ~~~(v &&& 0xFFFF0003) } }
  else if off = 0xD4 then { s with sec := { s.sec with keyErr := s.sec.keyErr && !b 1 } }
  else if off = 0xDC then
    { s with top := { s.top with
        reject := s.top.reject && !b 0, reqErr := s.top.reqErr && !b 1, ueWrite := s.top.ueWrite && !b 2, postRej := s.top.postRej && !b 3 } }
  else s

/-- INT_FORCE: each bit written with 1 is a setting (R88). -/
def forceInt (v : Word) (s : State) : State :=
  (List.range 15).foldl (fun (s : State) i => if v.getLsbD i then setInt i s else s) s

/-- CHARGE_CTRL: its RW fields, and STEP and REFCAP, which a running test or bleed drops, and REFCAP outside SERVICE (R41,
R182). -/
def applyCharge (data mask : Word) (s : State) : State :=
  let v := data &&& mask
  let r := putPieces false 0 (piecesOf s 0 0 (0x6C / 4) data mask) s
  let step := v.getLsbD 24
  let ref := v.getLsbD 25
  let dropS := step && testBusy s
  let dropR := ref && (testBusy s || s.top.state ≠ .service)
  let s1 := if step && !dropS then testRequest false r.1 else r.1
  let s2 := if ref && !dropR then testRequest true s1 else s1
  if r.2 || dropS || dropR then reject 0x6C 0 s2 else s2

/-- MBOX_H2C (R95). -/
def applyMbox (data : Word) (s : State) : State :=
  if s.host.h2cFull then { s with host := { s.host with mboxOvf := true } }
  else { s with host := { s.host with h2c := data, h2cFull := true } }

/-- RTC_SEC takes the enabled bytes (R196). -/
def applyRtc (data mask : Word) (s : State) : State := setRtc (mergeBits s.scout.rtcSec data mask) s

/-- A write to a direct register, as it leaves the post buffer, field by field under the fields' classes (R39 to R43). -/
def applyReg (off : Nat) (data : Word) (be : ByteEn) (s : State) : State :=
  let m := beMask be
  let v := data &&& m
  if off = 0x0C then applyLife data be s
  else if off = 0x14 then evalReq data s
  else if off = 0x1C then clearInt v s
  else if off = 0x24 then forceInt v s
  else if off = 0x28 then applyTblAddr data s
  else if off = 0x2C then applyTblData data be s
  else if off = 0x30 then applyTblCtrl data be s
  else if off = 0x34 then applyRingSel data be s
  else if off = 0x38 then applyRingPort data s
  else if off = 0x3C then applyDoorbell data s
  else if off = 0x64 then testDemand (writeReg off data m s)
  else if off = 0x6C then applyCharge data m s
  else if off = 0x78 then applyRtc data m s
  else if off = 0x90 then arrCmdWord .host data be s
  else if off = 0x94 then { s with arr := { s.arr with port := { s.arr.port with addr := mergeBits s.arr.port.addr data m } } }
  else if off = 0xA8 then applyInject data be s
  else if off = 0xB8 then applyMbox data s
  else if off = 0xC0 then { s with host := { s.host with dbH2c := s.host.dbH2c ||| v } }
  else if off = 0xD0 then applyKeyCtrl data be s
  else if off = 0xD8 then applyOverlaySel data be s
  else if off = 0xFC then applyUnlock data s
  else clearBits off v (regHook off m (writeReg off data m s))

/-! The post buffer (R78 to R80). -/

/-- A direct register's offset. -/
def regOff (off : Nat) : Bool := off % 4 == 0 && decide (off < 256)

/-- POST_BUFFER_ENTER (R78, R79): with 8 entries occupied the write waits, and nothing else may be written meanwhile. -/
def postEnter (e : PostEntry) (s : State) : State :=
  if !accessUp s || !regOff e.off || s.host.waiting.isSome then s
  else if s.host.post.length < 8 then { s with host := { s.host with post := s.host.post ++ [e] } }
  else { s with host := { s.host with waiting := some e } }

/-- A write leaves the post buffer for its register; a TBL_DATA write waits while the table fetch runs (R90). -/
def registerWrite (e : PostEntry) (s : State) : State :=
  if !regOff e.off then s
  else if e.off = 0x2C then leaveTblData e.data e.be s
  else leave e (applyReg e.off e.data e.be) s

/-! HRST_N (R83, R84, R99). -/

/-- HRST_N_ASSERT. -/
def hrstAssert (s : State) : State :=
  let drop := fun (m : List (Nat × Word)) => m.filter fun p => p.1 != ckey 0 0 (0x18 / 4) && p.1 != ckey 0 0 (0x20 / 4)
  let s1 := { s with
    conf := { s.conf with cur := drop s.conf.cur, shadow := drop s.conf.shadow }
    host := { s.host with
      hrst := true, sync := false, syncWait := false, post := [], waiting := none, mboxOvf := false, partErr := false
      tblTid := 0, tblIdx := 0, tblWord := 0, tblInc := false, tblBusy := false, tblErr := false
      latch := [], stagedBe := [], latchUe := false } }
  hintFollow (cancelExchange s1)

/-- HRST_N_RELEASE. -/
def hrstRelease (s : State) : State :=
  if s.host.hrst then hintFollow { s with host := { s.host with hrst := false } } else s

/-- SYNC_MODE_START (R72). -/
def syncStart (s : State) : State :=
  if busUp s && s.host.syncWait then { s with host := { s.host with sync := true, syncWait := false } } else s

/-! Reads with side effects (R81). -/

/-- INT_STAT: a watch opens (R87). -/
def readInt (s : State) : Word × State :=
  (s.host.intStat.zeroExtend 32, { s with host := { s.host with watch := true, watchSet := 0 } })

/-- VIN_NOW and VSTORE_NOW: MIN is cleared. -/
def readVin (s : State) : Word × State := (vinReg s, { s with scout := { s.scout with vinMin := none } })
def readVstore (s : State) : Word × State := (vstoreReg s, { s with scout := { s.scout with vstMin := none } })

/-- THROTTLE_STAT: OVR_COUNT is cleared. -/
def readThrottle (s : State) : Word × State := (throttleReg s, { s with fr := { s.fr with ovrCount := 0 } })

/-- FAULT_PIN_CTRL: PULSES is cleared. -/
def readFaultPin (s : State) : Word × State := (faultPinReg s, { s with tally := { s.tally with pulses := 0 } })

/-- RTC_SEC: RTC_SUB is latched (R169). -/
def readRtc (s : State) : Word × State := (s.scout.rtcSec, { s with scout := { s.scout with rtcLatch := s.scout.rtcTick } })

/-- MBOX_C2H: the word is cleared with C2H_FULL (R95). -/
def readC2h (s : State) : Word × State := (s.host.c2h, { s with host := { s.host with c2h := 0, c2hFull := false } })

/-! One definition per command. -/

def execPostBufferEnter (e : PostEntry) (s : State) : Out := .next (postEnter e s)
def execRegisterWrite (e : PostEntry) (s : State) : Out := .next (registerWrite e s)
def execHostcfgSyncWrite (data : Word) (be : ByteEn) (s : State) : Out := .next (leave ⟨0x18, data, be⟩ (applyReg 0x18 data be) s)
def execSyncModeStart (s : State) : Out := .next (syncStart s)
def execHrstNAssert (s : State) : Out := .next (hrstAssert s)
def execHrstNRelease (s : State) : Out := .next (hrstRelease s)
def execIntStatRead (s : State) : Out := .next (busRead readInt s)
def execIntStatW1c (data : Word) (be : ByteEn) (s : State) : Out := .next (leave ⟨0x1C, data, be⟩ (clearInt (data &&& beMask be)) s)
def execIntForceWrite (data : Word) (be : ByteEn) (s : State) : Out := .next (leave ⟨0x24, data, be⟩ (forceInt (data &&& beMask be)) s)
def execVinNowRead (s : State) : Out := .next (busRead readVin s)
def execVstoreNowRead (s : State) : Out := .next (busRead readVstore s)
def execThrottleStatRead (s : State) : Out := .next (busRead readThrottle s)
def execFaultPinCtrlRead (s : State) : Out := .next (busRead readFaultPin s)
def execRtcSecRead (s : State) : Out := .next (busRead readRtc s)
def execRtcSecWrite (data : Word) (be : ByteEn) (s : State) : Out := .next (leave ⟨0x78, data, be⟩ (applyRtc data (beMask be)) s)
def execMboxH2cWrite (data : Word) (be : ByteEn) (s : State) : Out := .next (leave ⟨0xB8, data, be⟩ (applyMbox data) s)
def execMboxC2hRead (s : State) : Out := .next (busRead readC2h s)
def execChargeCtrlStep (be : ByteEn) (data : Word) (s : State) : Out :=
  .next (if data.getLsbD 24 then leave ⟨0x6C, data, be⟩ (applyCharge data (beMask be)) s else s)
def execChargeCtrlRefcap (be : ByteEn) (data : Word) (s : State) : Out :=
  .next (if data.getLsbD 25 then leave ⟨0x6C, data, be⟩ (applyCharge data (beMask be)) s else s)

end Sys2Proof.Machine
end

