-- ==== Sys2Proof/Machine/Orfort.lean ====
section
/-! DEFINITION. The Orfort monitor (17): when it answers, its line, and its commands. A command's row is the execution of
the line that has ended; what it prints is held as the words printed and its status code (0 ok, n for En). -/

namespace Sys2Proof.Machine

/-- Orfort answers (R371). -/
def orfUp (s : State) : Bool := powered s && !(s.top.state = .wake && s.top.inState = 0) && !channelOff s 1

/-! The line (R372 to R374). -/

/-- The arguments of a line: runs of characters between spaces. -/
def tokens : List Nat → List (List Nat)
  | [] => []
  | c :: cs =>
    if c = 0x20 then tokens cs
    else match cs, tokens cs with
      | d :: _, t :: ts => if d = 0x20 then [c] :: t :: ts else (c :: t) :: ts
      | d :: _, [] => if d = 0x20 then [[c]] else [[c]]
      | [], _ => [[c]]

/-- The commands, in the order of Table: Commands. -/
def orfNames : List (List Nat) :=
  [[0x68, 0x65], [0x73, 0x74], [0x72, 0x64], [0x77, 0x72], [0x74, 0x62], [0x74, 0x6C], [0x61, 0x72], [0x63, 0x62], [0x6C, 0x67], [0x75, 0x6C], [0x6F, 0x76], [0x74, 0x78]]

/-- Words of the arguments of `ov` and `tx`: off, disarm, laneout, spoil, and the banks and images of `tx spoil`. -/
def wOff : List Nat := [0x6F, 0x66, 0x66]
def wDisarm : List Nat := [0x64, 0x69, 0x73, 0x61, 0x72, 0x6D]
def wLaneout : List Nat := [0x6C, 0x61, 0x6E, 0x65, 0x6F, 0x75, 0x74]
def wSpoil : List Nat := [0x73, 0x70, 0x6F, 0x69, 0x6C]
def wBank (bankB : Bool) : List Nat := if bankB then [0x62] else [0x61]
def wImage (ovl : Bool) : List Nat := if ovl then [0x6F, 0x76, 0x6C] else [0x62, 0x61, 0x73, 0x65]

/-- The channels of `ov` by their numbers in the model: vin 0, vst 1, ct0–ct12 2–14, die 15, th0 16, th1 17, vaon 18, pg 20, wet 21,
tam 22 (R379). -/
def ovNames : List (List Nat × Nat) :=
  [([0x76, 0x69, 0x6E], 0), ([0x76, 0x73, 0x74], 1), ([0x64, 0x69, 0x65], 15), ([0x74, 0x68, 0x30], 16), ([0x74, 0x68, 0x31], 17), ([0x76, 0x61, 0x6F, 0x6E], 18), ([0x70, 0x67], 20),
   ([0x77, 0x65, 0x74], 21), ([0x74, 0x61, 0x6D], 22)] ++
  ((List.range 10).map fun i => ([0x63, 0x74, 0x30 + i], 2 + i)) ++ ((List.range 3).map fun i => ([0x63, 0x74, 0x31, 0x30 + i], 12 + i))

/-- The channel that a word names. -/
def ovNumber (t : List Nat) : Option Nat := (ovNames.find? fun p => p.1 == t).map (·.2)

def isDec (c : Nat) : Bool := decide (0x30 ≤ c) && decide (c ≤ 0x39)
def isHex (c : Nat) : Bool := isDec c || (decide (0x41 ≤ c) && decide (c ≤ 0x46)) || (decide (0x61 ≤ c) && decide (c ≤ 0x66))

/-- The value of digits of a base. -/
def digits (base : Nat) (d : List Nat) : Nat :=
  d.foldl (fun a c => base * a + (if c ≤ 0x39 then c - 0x30 else if c ≤ 0x46 then c - 0x37 else c - 0x57)) 0

/-- A hexadecimal number of 1 to 8 digits, its underscores ignored. -/
def hexVal (t : List Nat) : Option Int :=
  let d := t.filter (· != 0x5F)
  if d.all isHex && decide (1 ≤ d.length) && decide (d.length ≤ 8) then some (digits 16 d) else none

/-- A decimal number. -/
def decVal (d : List Nat) : Option Int := if !d.isEmpty && d.all isDec then some (digits 10 d) else none

/-- A number as it is typed (R374); none: it is none. -/
def numVal (t : List Nat) : Option Int :=
  match t with
  | 0x23 :: 0x2D :: d => (decVal d).map fun n => -n
  | 0x23 :: d => decVal d
  | 0x30 :: 0x78 :: d => hexVal d
  | _ => hexVal t

/-- The arguments are exactly these numbers. -/
def numsAre (xs : List Int) (args : List (List Nat)) : Bool := args.map numVal == xs.map some

/-- From lo to hi arguments, all numbers. -/
def numArgs (lo hi : Nat) (args : List (List Nat)) : Bool :=
  args.all (fun t => (numVal t).isSome) && decide (lo ≤ args.length) && decide (args.length ≤ hi)

/-- The arguments have a form of Table: Commands; how many words `tl` needs its table says. -/
def argForm (name : List Nat) (args : List (List Nat)) : Bool :=
  match orfNames.findIdx? (· == name) with
  | some 0 | some 1 => args.isEmpty
  | some 2 | some 6 => numArgs 1 2 args
  | some 3 | some 4 => numArgs 2 2 args
  | some 5 => numArgs 2 18 args
  | some 7 => numArgs 0 1 args
  | some 8 => numArgs 0 2 args
  | some 9 => numArgs 1 2 args
  | some 10 =>
    match args with
    | [] => true
    | [a] => a == wOff
    | a :: rest => (ovNumber a).isSome && (rest == [wOff] || numArgs 1 2 rest)
  | some _ =>
    match args with
    | [a] => a == wDisarm
    | [a, b, c] => (a == wLaneout && numArgs 2 2 [b, c]) ||
        (a == wSpoil && (b == wBank false || b == wBank true) && (c == wImage false || c == wImage true))
    | _ => false
  | none => false

/-- What a line that has ended is before its command runs: 0 a command with well-formed arguments, 2 or 3 its error. -/
def lineCheck (line : List Nat) : Nat :=
  match tokens line with
  | [] => 0
  | c :: args => if !orfNames.contains c then 2 else if argForm c args then 0 else 3

/-- The status of a line that Orfort answers. -/
def orfEnd (code : Nat) (out : List Word) (s : State) : State :=
  { s with orf := { s.orf with ready := false, line := [], tooLong := false, out := out, status := code } }

/-- A line ends. -/
def lineEnd (s : State) : State :=
  let l := s.orf.line.map (·.toNat)
  if s.orf.tooLong then orfEnd 1 [] s
  else if l.all (· == 0x20) then { s with orf := { s.orf with line := [] } }
  else match lineCheck l with
    | 0 => { s with orf := { s.orf with ready := true, out := [] } }
    | e => orfEnd e [] s

/-- ORFORT_CHAR_RX (R372, R373). timing is the measured length of one bit in nanoseconds; a CR whose rate lies outside DIV's
range is discarded. -/
def charRx (c : BitVec 8) (timing : Nat) (s : State) : State :=
  let o := s.orf
  if !orfUp s then s
  else if o.autobaud then
    let d := (timing + 5) / 10
    if c = 0x0D ∧ 33 ≤ d ∧ d ≤ 10417 then { s with orf := { o with div := d, autobaud := false, line := [], tooLong := false } } else s
  else if o.ready then (if c = 0x03 then orfEnd 11 o.out s else s)
  else
    let s1 := { s with orf := { o with echo := [c] } }
    if c = 0x0D then lineEnd s1
    else if c = 0x0A ∨ c = 0x03 then s1
    else if c = 0x08 ∨ c = 0x7F then { s1 with orf := { s1.orf with line := o.line.dropLast } }
    else if 120 ≤ o.line.length then { s1 with orf := { s1.orf with tooLong := true } }
    else { s1 with orf := { s1.orf with line := o.line ++ [c] } }

/-- ORFORT_BREAK (R372). -/
def orfBreak (s : State) : State :=
  if orfUp s then { s with orf := { s.orf with div := 868, autobaud := true } } else s

/-! Running a command (R375). -/

/-- The line that has ended calls this command with arguments of which p holds. -/
def calls (s : State) (name : List Nat) (p : List (List Nat) → Bool) : Bool :=
  orfUp s && s.orf.ready && (match tokens (s.orf.line.map (·.toNat)) with | c :: args => c == name && p args | [] => false)

/-- A command runs if its line has ended: E04 without its class, else its effect. -/
def orfRun (name : List Nat) (p : List (List Nat) → Bool) (granted : State → Bool) (f : State → State) (s : State) : State :=
  if calls s name p then (if granted s then f s else orfEnd 4 [] s) else s

/-! The arguments that a row's operands stand for (Table: Commands). -/

/-- `rd off [n]` and `ar off [n]`: n is 1 by default. -/
def argsRd (off n : Nat) (args : List (List Nat)) : Bool := numsAre [off, n] args || (n == 1 && numsAre [off] args)

/-- `cb [slot]`. -/
def argsCb (slot : Option Nat) : List (List Nat) → Bool := numsAre (slot.toList.map Int.ofNat)

/-- `lg [seq] [n]`: n is 16 by default. -/
def argsLg (seq : Option Nat) (n : Nat) (args : List (List Nat)) : Bool :=
  match seq with
  | some q => numsAre [q, n] args || (n == 16 && numsAre [q] args)
  | none => n == 16 && args.isEmpty

/-- `ul hhhh hhhh`: the first group is the upper one (R378). -/
def argsUl (data : Word) : List (List Nat) → Bool := numsAre [fld data 16 16, fld data 0 16]

/-- `ov ch start [ramp]`: no ramp by default (R379). -/
def argsOv (ch : Nat) (start ramp : Int) (args : List (List Nat)) : Bool :=
  match args with
  | c :: rest => ovNumber c == some ch && (numsAre [start, ramp] rest || (ramp == 0 && numsAre [start] rest))
  | [] => false

/-- `ov ch off`. -/
def argsOvOff (ch : Nat) (args : List (List Nat)) : Bool :=
  match args with
  | [c, o] => ovNumber c == some ch && o == wOff
  | _ => false

/-- `tx laneout l f`. -/
def argsLaneout (lane frame : Nat) (args : List (List Nat)) : Bool :=
  match args with
  | c :: rest => c == wLaneout && numsAre [lane, frame] rest
  | [] => false

/-- The commands granted now, by their place in Table: Commands. -/
def grantedNow (s : State) : List Word :=
  let p := grantsP s; let o := grantsO s; let g := grantsS s; let x := grantsX s
  ([p, p, o, g, o, g, o, o, o, p, o || g, x].zipIdx.filter (·.1)).map fun q => BitVec.ofNat 32 q.2

/-- `st`. -/
def orfSt (s : State) : State :=
  let id : List Word := [0x4E576400, 0x00020001, stateReg s, BitVec.ofNat 32 s.sec.life.code, BitVec.ofNat 32 s.sec.level]
  let more : List Word := if grantsO s then [regPeek s 0x44, regPeek s 0x48, regPeek s 0x4C] else []
  orfEnd 0 (id ++ more) s

/-- A read takes an instant of its own: the model's counter moves on. -/
def freshen (s : State) : State := { s with free := s.free + 1 }

/-- `rd`. -/
def orfRd (off n : Nat) (s : State) : State :=
  if off % 4 ≠ 0 ∨ n < 1 ∨ 64 < n ∨ 0x100 < off + 4 * n then orfEnd 3 [] s
  else freshen (orfEnd 0 ((List.range n).map fun i => regPeek s (off + 4 * i)) s)

/-- Whether a write left a refusal behind: a CONFIG_STAT bit, or a refusal code of the array, the key or lifecycle block,
or a discarded message (R377). -/
def refusedIn (off : Nat) (s : State) : Bool :=
  s.top.reject || s.top.reqErr || s.top.postRej || s.top.ueWrite || (off == 0xD0 && s.sec.keyErr) ||
  (off == 0x0C && decide (2 ≤ s.sec.lcResult)) || (off == 0x90 && s.arr.port.hstate == 6) || (off == 0xB8 && s.host.mboxOvf)

/-- s with the marks of earlier refusals set aside. -/
def quiet (off : Nat) (s : State) : State :=
  { s with
    top := { s.top with reject := false, reqErr := false, postRej := false, ueWrite := false }
    sec := { s.sec with keyErr := s.sec.keyErr && off != 0xD0, lcResult := if off = 0x0C then 0 else s.sec.lcResult }
    host := { s.host with mboxOvf := s.host.mboxOvf && off != 0xB8 } }

/-- The marks of earlier refusals that the write itself did not clear. -/
def unquiet (off : Nat) (data : Word) (old s : State) : State :=
  let w := off == 0xDC
  { s with
    top := { s.top with
      reject := s.top.reject || (old.top.reject && !(w && data.getLsbD 0))
      reqErr := s.top.reqErr || (old.top.reqErr && !(w && data.getLsbD 1))
      ueWrite := s.top.ueWrite || (old.top.ueWrite && !(w && data.getLsbD 2))
      postRej := s.top.postRej || (old.top.postRej && !(w && data.getLsbD 3)) }
    sec := { s.sec with
      keyErr := s.sec.keyErr || (off == 0xD0 && old.sec.keyErr)
      lcResult := if off = 0x0C ∧ s.sec.lcResult = 0 then old.sec.lcResult else s.sec.lcResult }
    host := { s.host with mboxOvf := s.host.mboxOvf || (off == 0xB8 && old.host.mboxOvf) } }

/-- A write that comes by another path than the host bus, as a host write that leaves the post buffer now (R377, R369): the
state, and whether it was refused. -/
def sideWrite (off : Nat) (data : Word) (f : State → State) (s : State) : State × Bool :=
  let r := gate ⟨off, data, allBe⟩ f (quiet off s)
  (unquiet off data s r, refusedIn off r)

/-- `wr`. -/
def orfWr (off : Nat) (val : Word) (s : State) : State :=
  if !regOff off || (decide (0x28 ≤ off) && decide (off ≤ 0x38)) then orfEnd 3 [] s
  else
    let r := sideWrite off val (applyReg off val allBe) s
    if r.2 then orfEnd 6 [] r.1 else freshen (orfEnd 0 [regPeek r.1 off] r.1)

/-- An entry is read whole through Orfort's own latch: an index-0 TIME read latches the upper half of EPOCH (R51, R376). -/
def ownEntry (tid idx : Nat) (s : State) : Option (List Word) × State :=
  let s1 := if tid = 9 ∧ idx = 0 then { s with fr := { s.fr with orfHi := (s.fr.epoch >>> 32).truncate 16 } } else s
  entryFetch s1.fr.orfHi tid idx s1

/-- `tb`. -/
def orfTb (tid idx : Nat) (s : State) : State :=
  if tid = 13 ∧ idx < 16384 ∧ (heldRecord s idx).isNone then orfEnd 10 [] s
  else if tblCode s tid idx ≠ 0 then orfEnd 3 [] s
  else match ownEntry tid idx s with
    | (some ws, s1) => orfEnd 0 ws s1
    | (none, s1) => orfEnd 10 [] s1

/-- A whole entry is committed as R92 has a host commit it; true when it is refused. -/
def entryWrite (tid idx : Nat) (ws : List Word) (s : State) : State × Bool :=
  let ro := fun (w : Nat) => roWord tid idx w
  if roTable tid || ws.zipIdx.any (fun p => ro p.2 && p.1 != 0) then (s, true)
  else sideWrite 0x2C 0 (fun s =>
    if tid = 5 ∧ s.top.state ≠ .service then reject 0x2C 5 s
    else commitEntry tid idx (ws.zipIdx.map fun p => (p.1, if ro p.2 then 0 else allBe)) s) s

/-- `tl`. -/
def orfTl (tid idx : Nat) (ws : List Word) (s : State) : State :=
  if tblCode s tid idx ≠ 0 ∨ ws.length ≠ tblWords tid then orfEnd 3 [] s
  else
    let r := entryWrite tid idx ws s
    orfEnd (if r.2 then 6 else 0) [] r.1

/-- Array words from word w on, as many as can be read: the words printed, and whether all could be. -/
def arrPrint (w : Nat) : Nat → State → List Word × Bool × State
  | 0, s => ([], true, s)
  | n + 1, s =>
    if busyFor s (8 * w) = 2 then ([], false, s)
    else match readWord w s with
      | (some d, s1) =>
        let r := arrPrint (w + 1) n s1
        ([(d >>> 32).truncate 32, d.truncate 32] ++ r.1, r.2)
      | (none, s1) => ([], false, s1)

/-- `ar` (R290, R298, R376): a running erase of the bank is suspended for it, and while the bank cannot be read the command goes on. -/
def orfAr (off n : Nat) (s0 : State) : State :=
  let s := if busyFor s0 off = 1 ∧ s0.arr.autoMin = 0 ∧ regionForbids s0 .host 5 off = false then suspendRun 1 s0 else s0
  if off % 8 ≠ 0 ∨ n < 1 ∨ 16 < n ∨ 0x400000 < off + 8 * n then orfEnd 3 [] s
  else if regionForbids s .host 5 off || regionForbids s .host 5 (off + 8 * n - 8) then orfEnd 6 [] s
  else if busyFor s off = 1 ∨ busyFor s off = 3 then s
  else
    let r := arrPrint (off / 8) n (touchBank off s)
    orfEnd (if r.2.1 then 0 else 10) r.1 r.2.2

/-- The state that a catalog entry shows: 1 ARMED, 2 OPEN, 3 SEALED, 4 RETURNED, 5 DISCARDED, 6 VOID. -/
def catState (e : CatEntry) : Nat := if e.ended ≠ 0 then 3 + e.ended else if e.sealed then 3 else if e.opened then 2 else 1

/-- `cb`. -/
def orfCb (slot : Option Nat) (s : State) : State :=
  match slot with
  | some k => if 256 ≤ k then orfEnd 3 [] s else orfEnd 0 (show' (s.nand.catalog.filter fun e => e.slot == k)) s
  | none => orfEnd 0 (show' s.nand.catalog) s
where
  show' (es : List CatEntry) : List Word :=
    es.flatMap fun e => [BitVec.ofNat 32 e.slot, BitVec.ofNat 32 e.combId, BitVec.ofNat 32 (catState e),
      BitVec.ofNat 32 e.saved, BitVec.ofNat 32 e.lost]

/-- Records from SEQ q on, as many as are held and can be read. -/
def logPrint (q : Nat) : Nat → State → List Word × Bool × State
  | 0, s => ([], true, s)
  | n + 1, s =>
    match logFetch (q % 16384) s with
    | (some ws, s1) =>
      let r := logPrint (q + 1) n s1
      (ws ++ r.1, r.2)
    | (none, s1) => ([], false, s1)

/-- `lg`: by default the newest n. -/
def orfLg (seq : Option Nat) (n : Nat) (s : State) : State :=
  if n < 1 ∨ 256 < n ∨ 16384 ≤ seq.getD 0 then orfEnd 3 [] s
  else
    let m := min n s.tally.held.length
    let first := match seq with | some q => q | none => s.tally.next + 16384 - m
    let r := logPrint first (if seq.isSome then n else m) s
    orfEnd (if r.2.1 then 0 else 10) r.1 r.2.2

/-! `ul` (R378). -/

/-- `ul L`. -/
def orfUlRequest (lvl : Nat) (s : State) : State :=
  if 3 < lvl then orfEnd 3 [] s
  else
    let s1 := unlockAsk 1 lvl s
    match s1.sec.chal with
    | some c => orfEnd 0 [c] s1
    | none => orfEnd 8 [BitVec.ofNat 32 s1.sec.result] s1

/-- `ul hhhh hhhh`. -/
def orfUlResponse (data : Word) (s : State) : State :=
  if s.sec.chal.isSome && s.sec.channel == 1 then
    let s1 := unlockAnswer data s
    if s1.sec.result = 1 then orfEnd 0 [BitVec.ofNat 32 s1.sec.level] s1 else orfEnd 9 [BitVec.ofNat 32 s1.sec.fails] s1
  else orfEnd 5 [] s

/-! `ov` (R171, R379). -/

/-- A channel that can be overridden: 0 vin, 1 vst, 2–14 ct0–ct12, 15 die, 16 th0, 17 th1, 18 vaon, 20 pg, 21 wet, 22 tam. -/
def ovChannel (ch : Nat) : Bool := decide (ch ≤ 18) || (decide (20 ≤ ch) && decide (ch ≤ 22))

/-- A logic channel takes a level. -/
def ovArgOk (ch : Nat) (start ramp : Int) : Bool :=
  ovChannel ch && (decide (ch ≤ 18) || ((start == 0 || start == 1) && ramp == 0))

/-- The start value of an override in the model's units: a temperature channel is given in °C and held in m°C. Its ramp in °C/ms is one
in m°C/µs (R379). -/
def ovStart (ch : Nat) (start : Int) : Int := if 15 ≤ ch ∧ ch ≤ 17 then 1000 * start else start

/-- An override is set; it replaces the raw sample from the next sample on. -/
def ovPut (ch : Nat) (start ramp : Int) (s : State) : State :=
  let m := s.scout.ovr
  { s with scout := { s.scout with
      ovr := (m.filter fun p => decide (p.1 < ch)) ++ [(ch, (ovStart ch start, ramp))] ++ (m.filter fun p => decide (ch < p.1)) } }

/-- An override is taken back. -/
def ovDrop (ch : Nat) (s : State) : State := { s with scout := { s.scout with ovr := s.scout.ovr.filter fun p => p.1 != ch } }

/-- An `ov` that changes something: E05 in HARVEST, E04 without class S. -/
def orfOv (p : List (List Nat) → Bool) (f : State → State) (s : State) : State :=
  if !calls s [0x6F, 0x76] p then s
  else if s.top.state = .harvest then orfEnd 5 [] s
  else if grantsS s then f s else orfEnd 4 [] s

/-! `tx` (R380). -/

/-- `tx disarm`. -/
def orfDisarm (s : State) : State :=
  if s.nand.armed then
    let s1 := armLoss s
    orfEnd 0 [] { s1 with nand := { s1.nand with prep := false, prepHeld := true, prepEntry := none, prepLeft := [], prepDone := [] } }
  else orfEnd 6 [] s

/-- `tx laneout`. -/
def orfLaneout (lane frame : Nat) (s : State) : State :=
  if Config.productionBuild then orfEnd 7 [] s
  else if 8 ≤ lane then orfEnd 3 [] s
  else orfEnd 0 [] { s with nand := { s.nand with laneOut := s.nand.laneOut ++ [(lane, frame)] } }

/-- The erase of `tx spoil` is under way. -/
def spoiling (s : State) : Bool :=
  (s.arr.queue ++ s.arr.run.toList ++ (s.arr.susp.map fun z => z.op).toList).any fun o => o.tag == 5

/-- `tx spoil`: answered when the erase ends. -/
def orfSpoil (bankB ovl : Bool) (s : State) : State :=
  if spoiling s then s
  else submit { req := .engine, erase := true, off := (if bankB then 0x200000 else 0) + (if ovl then 0x184000 else 0x180000), tag := 5 } s

/-! One definition per command. -/

def execOrfortCharRx (c : BitVec 8) (timing : Nat) (s : State) : Out := .next (charRx c timing s)
def execOrfortBreak (s : State) : Out := .next (orfBreak s)
def execOrfortHe (s : State) : Out := .next (orfRun [0x68, 0x65] List.isEmpty grantsP (fun s => orfEnd 0 (grantedNow s) s) s)
def execOrfortSt (s : State) : Out := .next (orfRun [0x73, 0x74] List.isEmpty grantsP orfSt s)
def execOrfortRd (off n : Nat) (s : State) : Out := .next (orfRun [0x72, 0x64] (argsRd off n) grantsO (orfRd off n) s)
def execOrfortWr (off : Nat) (val : Word) (s : State) : Out := .next (orfRun [0x77, 0x72] (numsAre [off, val.toNat]) grantsS (orfWr off val) s)
def execOrfortTb (tid idx : Nat) (s : State) : Out := .next (orfRun [0x74, 0x62] (numsAre [tid, idx]) grantsO (orfTb tid idx) s)
def execOrfortTl (tid idx : Nat) (ws : List Word) (s : State) : Out := .next (orfRun [0x74, 0x6C] (numsAre ([Int.ofNat tid, Int.ofNat idx] ++ ws.map fun w => Int.ofNat w.toNat)) grantsS (orfTl tid idx ws) s)
def execOrfortAr (off n : Nat) (s : State) : Out := .next (orfRun [0x61, 0x72] (argsRd off n) grantsO (orfAr off n) s)
def execOrfortCb (slot : Option Nat) (s : State) : Out := .next (orfRun [0x63, 0x62] (argsCb slot) grantsO (orfCb slot) s)
def execOrfortLg (seq : Option Nat) (n : Nat) (s : State) : Out := .next (orfRun [0x6C, 0x67] (argsLg seq n) grantsO (orfLg seq n) s)
def execOrfortUlRequest (level : Nat) (s : State) : Out := .next (orfRun [0x75, 0x6C] (fun a => level != 0 && numsAre [level] a) grantsP (orfUlRequest level) s)
def execOrfortUlResponse (data : Word) (s : State) : Out := .next (orfRun [0x75, 0x6C] (argsUl data) grantsP (orfUlResponse data) s)
def execOrfortUlRelock (s : State) : Out := .next (orfRun [0x75, 0x6C] (numsAre [0]) grantsP (fun s => orfEnd 0 [] (relock 1 s)) s)
def execOrfortOvSet (ch : Nat) (start ramp : Int) (s : State) : Out :=
  .next (orfOv (argsOv ch start ramp) (fun s => if ovArgOk ch start ramp then orfEnd 0 [] (ovPut ch start ramp s) else orfEnd 3 [] s) s)
def execOrfortOvClear (ch : Nat) (s : State) : Out :=
  .next (orfOv (argsOvOff ch) (fun s => if ovChannel ch then orfEnd 0 [] (ovDrop ch s) else orfEnd 3 [] s) s)
def execOrfortOvOff (s : State) : Out :=
  .next (orfOv (· == [wOff]) (fun s => orfEnd 0 [] { s with scout := { s.scout with ovr := [] } }) s)
def execOrfortOvList (s : State) : Out :=
  .next (orfRun [0x6F, 0x76] List.isEmpty grantsO (fun s => orfEnd 0 (s.scout.ovr.flatMap fun p => [BitVec.ofNat 32 p.1, BitVec.ofInt 32 p.2.1, BitVec.ofInt 32 p.2.2]) s) s)
def execOrfortTxDisarm (s : State) : Out := .next (orfRun [0x74, 0x78] (· == [wDisarm]) grantsX orfDisarm s)
def execOrfortTxLaneout (lane frame : Nat) (s : State) : Out := .next (orfRun [0x74, 0x78] (argsLaneout lane frame) grantsX (orfLaneout lane frame) s)
def execOrfortTxSpoil (bankB ovl : Bool) (s : State) : Out := .next (orfRun [0x74, 0x78] (· == [wSpoil, wBank bankB, wImage ovl]) grantsX (orfSpoil bankB ovl) s)

end Sys2Proof.Machine
end

