-- ==== Sys2Proof/Machine/Jtag.lean ====
section
/-! DEFINITION. The JTAG instructions (R368, R369): what each selects and does, and BYPASS where it is not permitted. -/

namespace Sys2Proof.Machine

/-- The TAP responds: the TEST island is powered from WAKE frame g+1. -/
def tapUp (s : State) : Bool := powered s && !(s.top.state = .wake && s.top.inState = 0)

/-- An instruction is selected; the pins follow the boundary register only under EXTEST (1), CLAMP (2) and HIGHZ (3). -/
def irSelect (code : BitVec 8) (drive : Nat) (tdo : List Word) (s : State) : State :=
  { s with jtag := { s.jtag with ir := code, driving := drive, tdo := tdo } }

/-- BYPASS. -/
def irBypass (s : State) : State := irSelect 0xFF 0 [] s

/-- A private instruction's class is granted and JTAG_PRIV_OFF does not remove it. -/
def privGrants (c : State → Bool) (s : State) : Bool := c s && !channelOff s 2

/-- An instruction that its cell permits is selected and acts; else BYPASS. -/
def irRun (code : BitVec 8) (ok : State → Bool) (f : State → State) (s : State) : State :=
  if tapUp s then (if ok s then f (irSelect code 0 [] s) else irBypass s) else s

/-- The data that the instruction shifts out. -/
def shiftOut (ws : List Word) (s : State) : State := { s with jtag := { s.jtag with tdo := ws } }

/-- EXTEST, CLAMP and HIGHZ. -/
def irDrive (code : BitVec 8) (drive : Nat) (s : State) : State :=
  if tapUp s then (if grantsE s then irSelect code drive [] s else irBypass s) else s

/-- UNLOCK on channel JTAG (R98, R363). -/
def jtagExchange (data : Word) (s : State) : State :=
  if data = 0x554C0000 then relock 2 s
  else
    let isReq := data = 0x554C0001 || data = 0x554C0002 || data = 0x554C0003
    let s1 := match s.sec.chal with
      | some _ => if isReq && s.sec.channel != 2 then unlockAsk 2 (fld data 0 2) s else unlockAnswer data s
      | none => if isReq then unlockAsk 2 (fld data 0 2) s else s
    shiftOut [s1.sec.chal.getD 0] s1

/-- OBSERVE: a register, or an entry of a table or of the log, without read side effects (R368, R369). -/
def observeOp (op : ObsOp) (s : State) : State :=
  match op with
  | .reg off => if regOff off then freshen (shiftOut [regPeek s off] s) else s
  | .entry tid idx =>
    if tblCode s tid idx = 0 then
      match entryFetch ((s.fr.epoch >>> 32).truncate 16) tid idx s with
      | (some ws, s1) => shiftOut ws s1
      | (none, s1) => s1
    else s

/-- SERVICE: writes as the host could make them now, and overrides (R171, R369). -/
def serviceOp (op : SvcOp) (s : State) : State :=
  match op with
  | .reg off val => if regOff off then (sideWrite off val (applyReg off val allBe) s).1 else s
  | .entry tid idx ws => if tblCode s tid idx = 0 ∧ ws.length = tblWords tid then (entryWrite tid idx ws s).1 else s
  | .override ch start ramp => if ovArgOk ch start ramp then ovPut ch start ramp s else s

/-- An address of TCM or shared SRAM. -/
def ramAddr (a : Word) : Bool := a.toNat % 4 == 0 && (decide (a.toNat < 0x10000) || (decide (0x10000000 ≤ a.toNat) && decide (a.toNat < 0x10080000)))

/-- HIVEDBG. A single step lets the halted core execute one instruction, which arrives as that core's own command. -/
def debugOp (op : DbgOp) (s : State) : State :=
  match op with
  | .halt b => setCore b { coreOf s b with halted := true } s
  | .resume b => setCore b { coreOf s b with halted := false, stepping := false } s
  | .stepInsn b => setCore b { coreOf s b with stepping := (coreOf s b).halted } s
  | .breakpoint b a => setCore b { coreOf s b with bkpts := (coreOf s b).bkpts ++ [a] } s
  | .readMem b a =>
    if ramAddr a then
      let r := ramRead b a.toNat 4 s
      shiftOut (match r.1 with | some w => [w] | none => []) r.2
    else s
  | .writeMem b a d => if ramAddr a then (ramWrite b a.toNat 4 d s).2 else s

/-- OTP_PROG: row 0 UK_OWNER, 1 UK_VENDOR, 2 EXT_PUB; a programmed row stays as it is. -/
def otpProg (row : Nat) (val : List Word) (s : State) : State :=
  let k := s.sec
  if row = 0 ∧ k.ukOwner = [] then { s with sec := { k with ukOwner := val } }
  else if row = 1 ∧ k.ukVendor = [] then { s with sec := { k with ukVendor := val } }
  else if row = 2 ∧ k.extPub = [] then { s with sec := { k with extPub := val } }
  else s

/-- Codes of Table: JTAG instructions. -/
def jtagCodes : List Nat := [0xFF, 0x01, 0x02, 0x03, 0x04, 0x05, 0x10, 0x20, 0x21, 0x30, 0x31, 0x40]

/-- A cell that no longer permits a driving instruction selects BYPASS. -/
def jtagBoundary (s : State) : State := if s.jtag.driving ≠ 0 ∧ grantsE s = false then irBypass s else s

/-! One definition per command. -/

def execJtagBypass (s : State) : Out := .next (if tapUp s then irBypass s else s)
def execJtagIdcode (s : State) : Out := .next (irRun 0x01 (fun _ => true) (shiftOut [0x264001A3]) s)
def execJtagSamplePreload (bits : List Bool) (s : State) : Out :=
  .next (irRun 0x02 (fun _ => true) (fun s => { s with jtag := { s.jtag with boundary := bits } }) s)
def execJtagExtest (s : State) : Out := .next (irDrive 0x03 1 s)
def execJtagClamp (s : State) : Out := .next (irDrive 0x04 2 s)
def execJtagHighz (s : State) : Out := .next (irDrive 0x05 3 s)
def execJtagUnlock (data : Word) (s : State) : Out := .next (irRun 0x10 (privGrants grantsP) (jtagExchange data) s)
def execJtagObserve (op : ObsOp) (s : State) : Out :=
  .next (irRun 0x20 (privGrants grantsO) (observeOp op) s)
def execJtagService (op : SvcOp) (s : State) : Out := .next (irRun 0x21 (privGrants grantsS) (serviceOp op) s)
def execJtagHivedbg (op : DbgOp) (s : State) : Out := .next (irRun 0x30 (privGrants grantsX) (debugOp op) s)
def execJtagScan (s : State) : Out := .next (irRun 0x31 (privGrants grantsX) (fun s => s) s)
def execJtagOtpProg (row : Nat) (val : List Word) (s : State) : Out :=
  .next (irRun 0x40 (fun s => privGrants grantsX s && decide (s.sec.life = .blank)) (otpProg row val) s)
def execJtagReserved (code : Nat) (s : State) : Out :=
  .next (if tapUp s && decide (code < 256) && !jtagCodes.contains code then irBypass s else s)

end Sys2Proof.Machine
end

