-- ==== Sys2Proof/Machine/Boundary.lean ====
section
/-! DEFINITION. FRAME_BOUNDARY: the fixed order of work at every frame boundary (R47) and everything that the chapters
make the first act of a frame. -/

namespace Sys2Proof.Machine

/-! The frame that ends. -/

/-- A TRIP, wet-trip, PG_FAIL or TAMPER that qualified before isolation was under way closes an open interval (R190). -/
def endsClose (s : State) : Bool := s.top.trig.ends && !(s.top.state = .harvest && s.top.phase != .hDecide)

/-- A trip that qualified in the frame before H-DECIDE was left writes its TRIP record (R195, R347, R388). -/
def tripClose (s : State) : Bool :=
  s.top.trig.causes != 0 && !(s.top.state = .harvest && s.top.phase != .hDecide)

/-- The blocks' work at the end of a frame: what it reports still belongs to that frame. -/
def blocksClose (f : FrameIn) (s : State) : State :=
  let s1 := lanesClose s
  let s2 := if (s1.top.state = .ret || s1.top.state = .early) && s1.top.phase = .bulk && bulkOver (dramBoundary f.gnt s1) then
      bulkClose s1 else s1
  secBoundary (hiveBoundary (arrBoundary (dramBoundary f.gnt s2)))

/-- The records of the frame that ends, all under its stamp: the trip decision's, then the interval's, then the window's (R17, R195);
and what the header takes of a trip's frame (R255). -/
def recordsClose (f : FrameIn) (s : State) : State :=
  let s1 := if tripClose s then
      logEv 1 s.top.trig.causes (BitVec.ofNat 16 (dyNat (pubd s 0))) (BitVec.ofNat 32 s.adm.dirtyTotal)
        { s with harv := { s.harv with trip := some (headerNow s) } }
    else s
  storeFrameEnd f.iMeas (endsClose s) s1

/-- The frame that ends: the blocks' work, the records, the ledger's account, and its unsolicited events. -/
def frameClose (f : FrameIn) (s : State) : State :=
  ledgerClose s.top.state (unsolClose (throttleCount (recordsClose f (blocksClose f s))))

/-- Step 1 of R47: EPOCH counts and every F-class shadow comes into force (R40, R48). -/
def frameOpen (s : State) : State :=
  { s with
    fr := { s.fr with epoch := s.fr.epoch + 1 }
    conf := { s.conf with cur := s.conf.shadow }
    host := { s.host with intFrame := 0 }
    top := { s.top with inState := s.top.inState + 1, inPhase := s.top.inPhase + 1 }
    ret := { s.ret with endRetry := s.ret.endRetry.map (fun n => n - 1) } }

/-! The new frame. -/

/-- Rings: a reset asked for in the ended frame takes effect (R106), and entries published in it move on: DIRTY ones to the
pending list, the others to where they are considered (R112, R113). -/
def ringBoundary (s : State) : State :=
  (List.range 256).foldl (fun s r =>
    let g := ringOf s r
    if g.fresh.isEmpty then s
    else if r % 4 = 0 then
      modTenant (r / 4) (fun x => { x with pend := x.pend ++ g.fresh.map fun e => ({ e := e } : Pend) })
        (modRing r (fun x => { x with fresh := [], doneCnt := min 65535 (x.doneCnt + g.fresh.length) }) s)
    else modRing r (fun x => { x with fresh := [], pub := x.pub ++ x.fresh }) s) (resetsDue s)

/-- The grade that R142 reads: in a shared group the charge member's (R390). -/
def gradeUsed (s : State) : Nat := if copiesStore s then modeGrade s / 8 else s.store.grade

/-- The die and the thermistors in use are above 0 °C (R142). -/
def warm (s : State) : Bool :=
  dyGt (pubd s 15) 0 && (!thUsed s 0 || dyGt (thTemp s 0) 0) && (!thUsed s 1 || dyGt (thTemp s 1) 0)

/-- An overcommit override episode (R144). -/
def ocEpisode (s : State) : State :=
  if crb s 0x50 1 && !s.adm.ocActive then
    if s.adm.ocEpisode then s
    else tally 0x16 2 (BitVec.ofNat 32 (b2n (gradeUsed s == 1) + 2 * b2n (!warm s) + 16 * (kT s % 4096)))
      { s with adm := { s.adm with ocEpisode := true, polOvr := true } }
  else { s with adm := { s.adm with ocEpisode := false } }

/-- CREDIT at or above the threshold re-arms ADMIT_LOW in its 256th frame (R149). -/
def lowCount (s : State) : State :=
  if lowThr s ≤ s.adm.credit then
    { s with adm := { s.adm with lowCnt := min 256 (s.adm.lowCnt + 1), lowArmed := s.adm.lowArmed || decide (255 ≤ s.adm.lowCnt) } }
  else { s with adm := { s.adm with lowCnt := 0 } }

/-- The energy model (R131 to R136, R142, R144, R145). In WAKE its registers follow, with SHORT and ADMIT_LOW; the override
episodes begin with the first frame after it (06, the cold start at Tarnbeck). A fall of the model is a frame that lowers
ENERGY_NOW, raises ENERGY_NEED or ends OC_ACTIVE; while the store is short after it, nothing with n > 0 is admitted. -/
def energyBoundary (s : State) : State :=
  let now := energyNow s
  let need := needOf s s.adm.dirtyTotal
  let oc := s.top.state != .wake && crb s 0x50 1 && gradeUsed s == 1 && warm s
  let less := decide (now < s.adm.now) || decide (s.adm.need < need) || (s.adm.ocActive && !oc)
  let s1 := lowCount (refresh { s with adm := { s.adm with
    now := now, ocActive := oc, fell := (s.adm.fell || less) && decide (now < need) } })
  if s.top.state = .wake then s1 else ocEpisode s1

/-- t's DIRTY head at the opening of a frame (R115, R123, R139). A held head is tested again: while it still fails for energy the
frame counts towards its wait, and an expired wait is left to ADMIT_WAIT_EXPIRY; one that only lacks room counts no frame
(05 Edges). -/
def serveTenant (t : Nat) (s : State) : State :=
  match (tenOf s t).pend with
  | p :: _ =>
    match p.stage with
    | .waiting => dirtyServe t s
    | .ready => servedLast t (decideDirty t s)
    | .held =>
      let q : Pend := { p with n := newCells s p.e, wait := p.wait + 1 }
      match dirtyVerdict s t q with
      | none => servedLast t (setHead t { q with byNeed := !energyFits s t q.n } s)
      | some (.refuse 1) => servedLast t (setHead t q s)
      | _ => servedLast t (decideDirty t s)
    | .decided _ => answerDirty t s
    | _ => s
  | [] => s

/-- The entries of a DEMAND ring that are answered at once, up to n of them. -/
def demandAll (r : Nat) : Nat → State → State
  | 0, s => s
  | n + 1, s => demandAll r n (demandNow r s)

/-- The CLEAN and the DEMAND ring of t at the opening of a frame (R123, R281). -/
def serveClean (t : Nat) (s : State) : State :=
  let s1 := answerClean t (decideClean t (if cleanDecides s then cleanServe t s else s))
  answerServed (4 * t + 2) (demandAll (4 * t + 2) (ringOf s1 (4 * t + 2)).pub.length s1)

/-- A recount that an error asked for in HARVEST is queued afterwards (R130). -/
def recountMaybe (s : State) : State :=
  if s.adm.recount && s.top.state != .harvest && !hasWork s .recount then queueItem ⟨13, 131072, 1, 0, .recount⟩ s else s

/-- Producer entries at the opening of a frame: the deferred RINGS work, then CLEAN and DEMAND rings in ascending order, then
DIRTY heads in descending rank (R56, R123, R139, R281). -/
def serveBoundary (s : State) : State :=
  let s1 := (List.range 64).foldl (fun s t => serveClean t (answerKept t s)) (recountMaybe (ringsOpen s))
  if dirtyDecides s1 then
    [7, 6, 5, 4, 3, 2, 1, 0].foldl (fun s k => (turnOf s k).foldl (fun s t => serveTenant t s) s) s1
  else (List.range 64).foldl (fun s t => answerDirty t s) s1

/-- The work of HARVEST at the opening of a frame (R229 to R237). -/
def harvestFrame (s : State) : State :=
  if s.top.state = .harvest then
    if s.top.phase = .hDecide || s.top.phase = .hIsolate then planRebuild s
    else if s.top.phase = .hDrain then drainFrame s
    else if s.top.phase = .hSeal then sealFrame s
    else s
  else s

/-- SCAN resolves unfinished erases after its 2,560 frames (R28, R310). -/
def scanResolve (s : State) : State :=
  if s.top.state = .wake && s.top.phase = .scan && decide (2560 ≤ s.top.inState) then
    { s with arr := { s.arr with resolve := (toResolve s).head? } }
  else s

/-- Everything a frame in a state with its islands powered begins with: the publication, step 3 of R47, then what its
state does, and step 4; was: the device owned the DRAM in the frame that ended. -/
def frameWork (f : FrameIn) (was : Bool) (s : State) : State :=
  let s1 := throttleBoundary (scoutBoundary s)
  let s2 := if s1.top.state = .wake && s1.top.inState == 1 then wakeSecond s1 else s1
  let s3 := weaveBoundary (jtagBoundary (ringBoundary s2))
  let s4 := dramFrameStart was (storeFrameStart (energyBoundary (imageClose (cryptBoundary s3))))
  let s5 := trickleOpen (harvestFrame (arrCharge s4))
  let s6 := if s5.top.state = .ret || s5.top.state = .early then returnFrame s5 else s5
  let s7 := prepMaybe (if compactDue s6 then compact s6 else s6)
  logBoundary (readyCheck (scanResolve (serveBoundary (reapTasks (submitTasks f.tasks (ledgerOpen s7))))))

/-- FRAME_BOUNDARY (R47): the frame is closed, step 1, the transition of step 2, and the new frame where the islands stay
powered. The generator stands in OFF, DORMANT, HOLD and while a Core BOR lasts (R46). -/
def frameBoundary (f : FrameIn) (s : State) : State :=
  if powered s then
    let iso := isoDone s
    let take := takeoverDone s
    let s1 := tallyBoundary (frameOpen (frameClose f s))
    let s2 := transition f.wk iso take { s1 with fr := { s1.fr with vdd := f.vdd } }
    if powered s2 then frameWork f s.dram.owned s2 else s2
  else s

/-! One definition per command. -/

def execFrameBoundary (f : FrameIn) (s : State) : Out := .next (frameBoundary f s)

end Sys2Proof.Machine
end

