-- ==== Sys2Proof/Machine/Dispatch.lean ====
section
/-! DEFINITION. One arm per command: the command's effect on everything but the queue. -/

namespace Sys2Proof.Machine

/-- The effect of a command. -/
def exec (i : Instr) (s : State) : Host.Outcome State Fault Refusal :=
  match i with
  | .aonPor => Sys2Proof.Machine.execAonPor s
  | .aonPorRelease => Sys2Proof.Machine.execAonPorRelease s
  | .coreBor => Sys2Proof.Machine.execCoreBor s
  | .coreBorRelease w => Sys2Proof.Machine.execCoreBorRelease w s
  | .hrstNAssert => Sys2Proof.Machine.execHrstNAssert s
  | .frameBoundary f => Sys2Proof.Machine.execFrameBoundary f s
  | .refLoss => Sys2Proof.Machine.execRefLoss s
  | .vddCoreDroop level tick => Sys2Proof.Machine.execVddCoreDroop level tick s
  | .throttleRelease => Sys2Proof.Machine.execThrottleRelease s
  | .scoutVinSample x => Sys2Proof.Machine.execScoutVinSample x s
  | .scoutMuxConversion raw => Sys2Proof.Machine.execScoutMuxConversion raw s
  | .holdSample x => Sys2Proof.Machine.execHoldSample x s
  | .dormantWakeup x => Sys2Proof.Machine.execDormantWakeup x s
  | .wakeQualified w => Sys2Proof.Machine.execWakeQualified w s
  | .wakeQualifierAbandon => Sys2Proof.Machine.execWakeQualifierAbandon s
  | .shipComparatorFire vin => Sys2Proof.Machine.execShipComparatorFire vin s
  | .tamperEdgeLatch => Sys2Proof.Machine.execTamperEdgeLatch s
  | .tamperClear => Sys2Proof.Machine.execTamperClear s
  | .wetClear => Sys2Proof.Machine.execWetClear s
  | .rtcTick => Sys2Proof.Machine.execRtcTick s
  | .rtcStop => Sys2Proof.Machine.execRtcStop s
  | .rtcOscOk => Sys2Proof.Machine.execRtcOscOk s
  | .watchExit => Sys2Proof.Machine.execWatchExit s
  | .hdecideLimit => Sys2Proof.Machine.execHdecideLimit s
  | .wakeScanDone failed => Sys2Proof.Machine.execWakeScanDone failed s
  | .wakeImageLoad im => Sys2Proof.Machine.execWakeImageLoad im s
  | .wakeCatalogScan headers => Sys2Proof.Machine.execWakeCatalogScan headers s
  | .wakeDecision => Sys2Proof.Machine.execWakeDecision s
  | .stateReqNop key be => Sys2Proof.Machine.execStateReqNop key be s
  | .stateReqServiceEnter key be => Sys2Proof.Machine.execStateReqServiceEnter key be s
  | .stateReqServiceLeave key be => Sys2Proof.Machine.execStateReqServiceLeave key be s
  | .stateReqEarly key be => Sys2Proof.Machine.execStateReqEarly key be s
  | .stateReqDiscardComb key be => Sys2Proof.Machine.execStateReqDiscardComb key be s
  | .stateReqDormant key be => Sys2Proof.Machine.execStateReqDormant key be s
  | .stateReqShip key be => Sys2Proof.Machine.execStateReqShip key be s
  | .stateReqSoftReset key be => Sys2Proof.Machine.execStateReqSoftReset key be s
  | .stateReqReserved cmd key be => Sys2Proof.Machine.execStateReqReserved cmd key be s
  | .postBufferEnter e => Sys2Proof.Machine.execPostBufferEnter e s
  | .registerWrite e => Sys2Proof.Machine.execRegisterWrite e s
  | .hostcfgSyncWrite data be => Sys2Proof.Machine.execHostcfgSyncWrite data be s
  | .syncModeStart => Sys2Proof.Machine.execSyncModeStart s
  | .intStatRead => Sys2Proof.Machine.execIntStatRead s
  | .intStatW1c data be => Sys2Proof.Machine.execIntStatW1c data be s
  | .intForceWrite data be => Sys2Proof.Machine.execIntForceWrite data be s
  | .tblAddrWrite data be => Sys2Proof.Machine.execTblAddrWrite data be s
  | .tableFetchDone => Sys2Proof.Machine.execTableFetchDone s
  | .tblDataRead => Sys2Proof.Machine.execTblDataRead s
  | .tblDataWrite data be => Sys2Proof.Machine.execTblDataWrite data be s
  | .vinNowRead => Sys2Proof.Machine.execVinNowRead s
  | .vstoreNowRead => Sys2Proof.Machine.execVstoreNowRead s
  | .throttleStatRead => Sys2Proof.Machine.execThrottleStatRead s
  | .faultPinCtrlRead => Sys2Proof.Machine.execFaultPinCtrlRead s
  | .rtcSecRead => Sys2Proof.Machine.execRtcSecRead s
  | .rtcSecWrite data be => Sys2Proof.Machine.execRtcSecWrite data be s
  | .mboxH2cWrite data be => Sys2Proof.Machine.execMboxH2cWrite data be s
  | .mboxC2hRead => Sys2Proof.Machine.execMboxC2hRead s
  | .mboxPing => Sys2Proof.Machine.execMboxPing s
  | .mboxFwVersion => Sys2Proof.Machine.execMboxFwVersion s
  | .mboxLogMark => Sys2Proof.Machine.execMboxLogMark s
  | .mboxExtension result => Sys2Proof.Machine.execMboxExtension result s
  | .mboxUnknown => Sys2Proof.Machine.execMboxUnknown s
  | .unlockRequest data be => Sys2Proof.Machine.execUnlockRequest data be s
  | .unlockResponse data be => Sys2Proof.Machine.execUnlockResponse data be s
  | .unlockRelock be => Sys2Proof.Machine.execUnlockRelock be s
  | .unlockTimeout => Sys2Proof.Machine.execUnlockTimeout s
  | .relockExpiry => Sys2Proof.Machine.execRelockExpiry s
  | .lockoutEnd => Sys2Proof.Machine.execLockoutEnd s
  | .ringSelWrite data be => Sys2Proof.Machine.execRingSelWrite data be s
  | .ringPortWrite data be => Sys2Proof.Machine.execRingPortWrite data be s
  | .ringPortRead => Sys2Proof.Machine.execRingPortRead s
  | .ringDoorbellWrite data be => Sys2Proof.Machine.execRingDoorbellWrite data be s
  | .ringReset ring => Sys2Proof.Machine.execRingReset ring s
  | .admitScanDone t => Sys2Proof.Machine.execAdmitScanDone t s
  | .mapRecountDone => Sys2Proof.Machine.execMapRecountDone s
  | .admitWaitExpiry t => Sys2Proof.Machine.execAdmitWaitExpiry t s
  | .admitMapWriteDone t => Sys2Proof.Machine.execAdmitMapWriteDone t s
  | .cleanScanDone t => Sys2Proof.Machine.execCleanScanDone t s
  | .cleanWriteDone t => Sys2Proof.Machine.execCleanWriteDone t s
  | .answerPostDeferred t => Sys2Proof.Machine.execAnswerPostDeferred t s
  | .reserveRelease => Sys2Proof.Machine.execReserveRelease s
  | .chargeCtrlStep be data => Sys2Proof.Machine.execChargeCtrlStep be data s
  | .chargeCtrlRefcap be data => Sys2Proof.Machine.execChargeCtrlRefcap be data s
  | .stepTestStep => Sys2Proof.Machine.execStepTestStep s
  | .stepTestResult => Sys2Proof.Machine.execStepTestResult s
  | .stepTestDueAgain => Sys2Proof.Machine.execStepTestDueAgain s
  | .intervalEnd => Sys2Proof.Machine.execIntervalEnd s
  | .ownGntIsolate tick => Sys2Proof.Machine.execOwnGntIsolate tick s
  | .forcedIsolation => Sys2Proof.Machine.execForcedIsolation s
  | .refreshDue rank => Sys2Proof.Machine.execRefreshDue rank s
  | .zqcsDue => Sys2Proof.Machine.execZqcsDue s
  | .trainStart be => Sys2Proof.Machine.execTrainStart be s
  | .trainDone okHost ok2400 => Sys2Proof.Machine.execTrainDone okHost ok2400 s
  | .trickleGo be => Sys2Proof.Machine.execTrickleGo be s
  | .trickleCancel be => Sys2Proof.Machine.execTrickleCancel be s
  | .trickleCellCopied c => Sys2Proof.Machine.execTrickleCellCopied c s
  | .tricklePassEnd => Sys2Proof.Machine.execTricklePassEnd s
  | .cellSaved lane => Sys2Proof.Machine.execCellSaved lane s
  | .nandProgramStatus target page pass => Sys2Proof.Machine.execNandProgramStatus target page pass s
  | .targetTimeout target => Sys2Proof.Machine.execTargetTimeout target s
  | .hSealEnd => Sys2Proof.Machine.execHSealEnd s
  | .nandEraseDone target stripe pass => Sys2Proof.Machine.execNandEraseDone target stripe pass s
  | .verifyCombDone v => Sys2Proof.Machine.execVerifyCombDone v s
  | .sweepUnitDone lane fs => Sys2Proof.Machine.execSweepUnitDone lane fs s
  | .demandLookupDone ring => Sys2Proof.Machine.execDemandLookupDone ring s
  | .restorePageRead p => Sys2Proof.Machine.execRestorePageRead p s
  | .cellRestored lane => Sys2Proof.Machine.execCellRestored lane s
  | .endWordRetry okA okB => Sys2Proof.Machine.execEndWordRetry okA okB s
  | .arrayNop arg be => Sys2Proof.Machine.execArrayNop arg be s
  | .arrayLdlo be => Sys2Proof.Machine.execArrayLdlo be s
  | .arrayLdhi be => Sys2Proof.Machine.execArrayLdhi be s
  | .arrayGetlo be => Sys2Proof.Machine.execArrayGetlo be s
  | .arrayGethi be => Sys2Proof.Machine.execArrayGethi be s
  | .arrayRead req be => Sys2Proof.Machine.execArrayRead req be s
  | .arrayProgram req key arg be => Sys2Proof.Machine.execArrayProgram req key arg be s
  | .arrayErase req key be => Sys2Proof.Machine.execArrayErase req key be s
  | .arrayBlank req be => Sys2Proof.Machine.execArrayBlank req be s
  | .arraySuspend req be => Sys2Proof.Machine.execArraySuspend req be s
  | .arrayResume req be => Sys2Proof.Machine.execArrayResume req be s
  | .arrayReserved req op be => Sys2Proof.Machine.execArrayReserved req op be s
  | .arrayProgramEnd pulses ok => Sys2Proof.Machine.execArrayProgramEnd pulses ok s
  | .arrayEraseEnd pulses ok => Sys2Proof.Machine.execArrayEraseEnd pulses ok s
  | .eraseSuspendEffect => Sys2Proof.Machine.execEraseSuspendEffect s
  | .arrayFetch core addr isFetch => Sys2Proof.Machine.execArrayFetch core addr isFetch s
  | .autoResume => Sys2Proof.Machine.execAutoResume s
  | .overlayCommit be => Sys2Proof.Machine.execOverlayCommit be s
  | .overlayRevert be => Sys2Proof.Machine.execOverlayRevert be s
  | .coreStore core addr size data => Sys2Proof.Machine.execCoreStore core addr size data s
  | .coreLoad core addr size => Sys2Proof.Machine.execCoreLoad core addr size s
  | .storePerformed core => Sys2Proof.Machine.execStorePerformed core s
  | .coreFence core => Sys2Proof.Machine.execCoreFence core s
  | .syncException core cause addr => Sys2Proof.Machine.execSyncException core cause addr s
  | .coreInterrupt core => Sys2Proof.Machine.execCoreInterrupt core s
  | .h2cTake core => Sys2Proof.Machine.execH2cTake core s
  | .c2hPost core data => Sys2Proof.Machine.execC2hPost core data s
  | .dbH2cClear core data => Sys2Proof.Machine.execDbH2cClear core data s
  | .dbC2hSet core data => Sys2Proof.Machine.execDbC2hSet core data s
  | .wdogKick core data => Sys2Proof.Machine.execWdogKick core data s
  | .watchdogExpiry core => Sys2Proof.Machine.execWatchdogExpiry core s
  | .extensionActivation k => Sys2Proof.Machine.execExtensionActivation k s
  | .extensionSliceExpiry => Sys2Proof.Machine.execExtensionSliceExpiry s
  | .tallyMessage src kind addr => Sys2Proof.Machine.execTallyMessage src kind addr s
  | .tallyWindowEnd src => Sys2Proof.Machine.execTallyWindowEnd src s
  | .faultNPulseEnd => Sys2Proof.Machine.execFaultNPulseEnd s
  | .degradedExit => Sys2Proof.Machine.execDegradedExit s
  | .faultInjectArm data be => Sys2Proof.Machine.execFaultInjectArm data be s
  | .faultInjectCancel be => Sys2Proof.Machine.execFaultInjectCancel be s
  | .dropRecordWrite => Sys2Proof.Machine.execDropRecordWrite s
  | .snapRecordWrite => Sys2Proof.Machine.execSnapRecordWrite s
  | .lifecycleProvision key be => Sys2Proof.Machine.execLifecycleProvision key be s
  | .lifecycleDeploy key be => Sys2Proof.Machine.execLifecycleDeploy key be s
  | .lifecycleRma key be => Sys2Proof.Machine.execLifecycleRma key be s
  | .lifecycleScrap key be => Sys2Proof.Machine.execLifecycleScrap key be s
  | .lifecycleCmdDone ok => Sys2Proof.Machine.execLifecycleCmdDone ok s
  | .keyGen slot => Sys2Proof.Machine.execKeyGen slot s
  | .keyLoad idx data => Sys2Proof.Machine.execKeyLoad idx data s
  | .keyImport slot => Sys2Proof.Machine.execKeyImport slot s
  | .keyZero slot => Sys2Proof.Machine.execKeyZero slot s
  | .keyRaiseFw => Sys2Proof.Machine.execKeyRaiseFw s
  | .keyRaiseExt => Sys2Proof.Machine.execKeyRaiseExt s
  | .keyReservedOp op => Sys2Proof.Machine.execKeyReservedOp op s
  | .keyOpDone ok => Sys2Proof.Machine.execKeyOpDone ok s
  | .jtagBypass => Sys2Proof.Machine.execJtagBypass s
  | .jtagIdcode => Sys2Proof.Machine.execJtagIdcode s
  | .jtagSamplePreload bits => Sys2Proof.Machine.execJtagSamplePreload bits s
  | .jtagExtest => Sys2Proof.Machine.execJtagExtest s
  | .jtagClamp => Sys2Proof.Machine.execJtagClamp s
  | .jtagHighz => Sys2Proof.Machine.execJtagHighz s
  | .jtagUnlock data => Sys2Proof.Machine.execJtagUnlock data s
  | .jtagObserve op => Sys2Proof.Machine.execJtagObserve op s
  | .jtagService op => Sys2Proof.Machine.execJtagService op s
  | .jtagHivedbg op => Sys2Proof.Machine.execJtagHivedbg op s
  | .jtagScan => Sys2Proof.Machine.execJtagScan s
  | .jtagOtpProg row val => Sys2Proof.Machine.execJtagOtpProg row val s
  | .jtagReserved code => Sys2Proof.Machine.execJtagReserved code s
  | .orfortCharRx c timing => Sys2Proof.Machine.execOrfortCharRx c timing s
  | .orfortBreak => Sys2Proof.Machine.execOrfortBreak s
  | .orfortHe => Sys2Proof.Machine.execOrfortHe s
  | .orfortSt => Sys2Proof.Machine.execOrfortSt s
  | .orfortRd off n => Sys2Proof.Machine.execOrfortRd off n s
  | .orfortWr off val => Sys2Proof.Machine.execOrfortWr off val s
  | .orfortTb tid idx => Sys2Proof.Machine.execOrfortTb tid idx s
  | .orfortTl tid idx ws => Sys2Proof.Machine.execOrfortTl tid idx ws s
  | .orfortAr off n => Sys2Proof.Machine.execOrfortAr off n s
  | .orfortCb slot => Sys2Proof.Machine.execOrfortCb slot s
  | .orfortLg seq n => Sys2Proof.Machine.execOrfortLg seq n s
  | .orfortUlRequest level => Sys2Proof.Machine.execOrfortUlRequest level s
  | .orfortUlResponse data => Sys2Proof.Machine.execOrfortUlResponse data s
  | .orfortUlRelock => Sys2Proof.Machine.execOrfortUlRelock s
  | .orfortOvSet ch start ramp => Sys2Proof.Machine.execOrfortOvSet ch start ramp s
  | .orfortOvClear ch => Sys2Proof.Machine.execOrfortOvClear ch s
  | .orfortOvOff => Sys2Proof.Machine.execOrfortOvOff s
  | .orfortOvList => Sys2Proof.Machine.execOrfortOvList s
  | .orfortTxDisarm => Sys2Proof.Machine.execOrfortTxDisarm s
  | .orfortTxLaneout lane frame => Sys2Proof.Machine.execOrfortTxLaneout lane frame s
  | .orfortTxSpoil bankB ovl => Sys2Proof.Machine.execOrfortTxSpoil bankB ovl s
  | .weaveTickReceive t => Sys2Proof.Machine.execWeaveTickReceive t s
  | .weaveStatusReceive x => Sys2Proof.Machine.execWeaveStatusReceive x s
  | .weaveSyncLoss => Sys2Proof.Machine.execWeaveSyncLoss s
  | .masterElection => Sys2Proof.Machine.execMasterElection s
  | .tickLockSet => Sys2Proof.Machine.execTickLockSet s
  | .tickLockLoss => Sys2Proof.Machine.execTickLockLoss s
  | .weaveFrozen => Sys2Proof.Machine.execWeaveFrozen s
  | .peerLiveTimeout id => Sys2Proof.Machine.execPeerLiveTimeout id s
  | .wvTripLineLow => Sys2Proof.Machine.execWvTripLineLow s
  | .hrstNRelease => Sys2Proof.Machine.execHrstNRelease s
  | .gntDrop => Sys2Proof.Machine.execGntDrop s
  | .weaveSyncRealign => Sys2Proof.Machine.execWeaveSyncRealign s
  | .nandBringUpDone b => Sys2Proof.Machine.execNandBringUpDone b s
  | .coreRestart core => Sys2Proof.Machine.execCoreRestart core s

end Sys2Proof.Machine
end

