-- ==== Sys2Proof/WellFormed.lean ====
section
/-! DEFINITION. When a command's operands are values that its row of the table can carry: register offsets, table and
tenant numbers, lanes, targets, codes and levels within the ranges the chapters give them. The meanings take any operand;
one outside these ranges names nothing that exists, and its command changes nothing or acts on nothing. -/

namespace Sys2Proof

/-- A post buffer entry names one of the 64 words of the register window (R71). -/
def PostEntry.wf (e : PostEntry) : Bool := decide (e.off < 256 ∧ e.off % 4 = 0)

/-- A run of cells of a tenant within the largest cache (R12, R258). -/
def CellRun.wf (r : CellRun) : Bool := decide (0 < r.count ∧ r.first + r.count ≤ 2097152 ∧ r.tenant < 64)

/-- A tenant of a header's snapshot (R255). -/
def HdrTenant.wf (t : HdrTenant) : Bool := decide (t.tenant < 64 ∧ t.keySlot < 64 ∧ t.base ≤ t.last ∧ t.last < 2097152)

/-- What VERIFY reads (R255, R257): at most 64 tenants, at most 8 lanes. -/
def VerifyIn.wf (v : VerifyIn) : Bool :=
  (match v.hdr with | some h => h.tenants.all HdrTenant.wf && decide (h.tenants.length ≤ 64) | none => true) &&
  (match v.sealCopy with | some c => c.runs.all CellRun.wf && decide (c.lastLseq.length ≤ 8) | none => true)

/-- A page footer (R250). -/
def Footer.wf (f : Footer) : Bool := decide (f.cell < 2097152 ∧ f.quarter < 4)

/-- A TICK: a 6-bit MASTER_ID and at most 4 fractions of 16 bits (R383, R391). -/
def TickIn.wf (t : TickIn) : Bool := decide (t.masterId < 64 ∧ t.frac.length ≤ 4 ∧ ∀ f ∈ t.frac, f < 65536)

/-- A status slot (R383). -/
def StatusIn.wf (x : StatusIn) : Bool := decide (x.id < 64 ∧ x.kind < 4 ∧ x.state < 16 ∧ x.group < 16)

/-- A slow-rate sample: the thermistors' codes have 12 bits (R150). -/
def SlowSample.wf (x : SlowSample) : Bool := decide (0 ≤ x.th0 ∧ x.th0 < 4096 ∧ 0 ≤ x.th1 ∧ x.th1 < 4096)

/-- A bring-up: one parameter page and one ID for each of the 32 targets, and stripes of those targets (R244). -/
def BringUp.wf (b : BringUp) : Bool :=
  decide (b.pages.length = 32 ∧ b.ids.length = 32 ∧ (∀ m ∈ b.marks, m.1 < 32) ∧ ∀ m ∈ b.unerased, m.1 < 32)

/-- The command's operands are values that its row can carry. -/
def Instr.wf : Instr → Bool
  | .aonPor => true
  | .aonPorRelease => true
  | .coreBor => true
  | .coreBorRelease _ => true
  | .hrstNAssert => true
  | .frameBoundary f => decide (f.vdd ≤ 3)
  | .refLoss => true
  | .vddCoreDroop level tick => decide (1 ≤ level ∧ level ≤ 3 ∧ tick < 100)
  | .throttleRelease => true
  | .scoutVinSample _ => true
  | .scoutMuxConversion _ => true
  | .holdSample x => x.wf
  | .dormantWakeup x => x.wf
  | .wakeQualified _ => true
  | .wakeQualifierAbandon => true
  | .shipComparatorFire _ => true
  | .tamperEdgeLatch => true
  | .tamperClear => true
  | .wetClear => true
  | .rtcTick => true
  | .rtcStop => true
  | .rtcOscOk => true
  | .watchExit => true
  | .hdecideLimit => true
  | .wakeScanDone failed => decide (∀ x ∈ failed, x < 256)
  | .wakeImageLoad i => decide (∀ x ∈ i.lostSlots, x < 64)
  | .wakeCatalogScan headers => decide (∀ x ∈ headers, x < 2 ^ 32)
  | .wakeDecision => true
  | .stateReqNop _ _ => true
  | .stateReqServiceEnter _ _ => true
  | .stateReqServiceLeave _ _ => true
  | .stateReqEarly _ _ => true
  | .stateReqDiscardComb _ _ => true
  | .stateReqDormant _ _ => true
  | .stateReqShip _ _ => true
  | .stateReqSoftReset _ _ => true
  | .stateReqReserved cmd _ _ => decide (8 ≤ cmd ∧ cmd ≤ 15)
  | .postBufferEnter e => e.wf
  | .registerWrite e => e.wf
  | .hostcfgSyncWrite _ _ => true
  | .syncModeStart => true
  | .intStatRead => true
  | .intStatW1c _ _ => true
  | .intForceWrite _ _ => true
  | .tblAddrWrite _ _ => true
  | .tableFetchDone => true
  | .tblDataRead => true
  | .tblDataWrite _ _ => true
  | .vinNowRead => true
  | .vstoreNowRead => true
  | .throttleStatRead => true
  | .faultPinCtrlRead => true
  | .rtcSecRead => true
  | .rtcSecWrite _ _ => true
  | .mboxH2cWrite _ _ => true
  | .mboxC2hRead => true
  | .mboxPing => true
  | .mboxFwVersion => true
  | .mboxLogMark => true
  | .mboxExtension _ => true
  | .mboxUnknown => true
  | .unlockRequest _ _ => true
  | .unlockResponse _ _ => true
  | .unlockRelock _ => true
  | .unlockTimeout => true
  | .relockExpiry => true
  | .lockoutEnd => true
  | .ringSelWrite _ _ => true
  | .ringPortWrite _ _ => true
  | .ringPortRead => true
  | .ringDoorbellWrite _ _ => true
  | .ringReset ring => decide (ring < 256)
  | .admitScanDone t => decide (t < 64)
  | .mapRecountDone => true
  | .admitWaitExpiry t => decide (t < 64)
  | .admitMapWriteDone t => decide (t < 64)
  | .cleanScanDone t => decide (t < 64)
  | .cleanWriteDone t => decide (t < 64)
  | .answerPostDeferred t => decide (t < 64)
  | .reserveRelease => true
  | .chargeCtrlStep _ _ => true
  | .chargeCtrlRefcap _ _ => true
  | .stepTestStep => true
  | .stepTestResult => true
  | .stepTestDueAgain => true
  | .intervalEnd => true
  | .ownGntIsolate tick => decide (tick < 100)
  | .forcedIsolation => true
  | .refreshDue rank => decide (rank < 4)
  | .zqcsDue => true
  | .trainStart _ => true
  | .trainDone _ _ => true
  | .trickleGo _ => true
  | .trickleCancel _ => true
  | .trickleCellCopied c => decide (c < 2097152)
  | .tricklePassEnd => true
  | .cellSaved lane => decide (lane < 8)
  | .nandProgramStatus target page _ => decide (target < 32 ∧ page < 65536)
  | .targetTimeout target => decide (target < 32)
  | .hSealEnd => true
  | .nandEraseDone target stripe _ => decide (target < 32 ∧ stripe < 65536)
  | .verifyCombDone v => v.wf
  | .sweepUnitDone lane fs => decide (lane < 8 ∧ ∀ x ∈ fs, x.wf = true)
  | .demandLookupDone ring => decide (ring < 256 ∧ ring % 4 = 2)
  | .restorePageRead p => decide (p.lane < 8 ∧ p.quarter < 4 ∧ p.cell < 2097152)
  | .cellRestored lane => decide (lane < 8)
  | .endWordRetry _ _ => true
  | .arrayNop arg _ => decide (arg < 256)
  | .arrayLdlo _ => true
  | .arrayLdhi _ => true
  | .arrayGetlo _ => true
  | .arrayGethi _ => true
  | .arrayRead _ _ => true
  | .arrayProgram _ _ _ _ => true
  | .arrayErase _ _ _ => true
  | .arrayBlank _ _ => true
  | .arraySuspend _ _ => true
  | .arrayResume _ _ => true
  | .arrayReserved _ op _ => decide (11 ≤ op ∧ op ≤ 15)
  | .arrayProgramEnd pulses _ => decide (1 ≤ pulses ∧ pulses ≤ 16)
  | .arrayEraseEnd pulses _ => decide (1 ≤ pulses ∧ pulses ≤ 48)
  | .eraseSuspendEffect => true
  | .arrayFetch _ _ _ => true
  | .autoResume => true
  | .overlayCommit _ => true
  | .overlayRevert _ => true
  | .coreStore _ _ size _ => decide (size ∈ [1, 2, 4])
  | .coreLoad _ _ size => decide (size ∈ [1, 2, 4])
  | .storePerformed _ => true
  | .coreFence _ => true
  | .syncException _ _ _ => true
  | .coreInterrupt _ => true
  | .h2cTake _ => true
  | .c2hPost _ _ => true
  | .dbH2cClear _ _ => true
  | .dbC2hSet _ _ => true
  | .wdogKick _ _ => true
  | .watchdogExpiry _ => true
  | .extensionActivation _ => true
  | .extensionSliceExpiry => true
  | .tallyMessage src kind _ => decide (src < 128 ∧ kind < 32)
  | .tallyWindowEnd src => decide (src < 128)
  | .faultNPulseEnd => true
  | .degradedExit => true
  | .faultInjectArm _ _ => true
  | .faultInjectCancel _ => true
  | .dropRecordWrite => true
  | .snapRecordWrite => true
  | .lifecycleProvision _ _ => true
  | .lifecycleDeploy _ _ => true
  | .lifecycleRma _ _ => true
  | .lifecycleScrap _ _ => true
  | .lifecycleCmdDone _ => true
  | .keyGen slot => decide (slot < 64)
  | .keyLoad idx _ => decide (idx < 16)
  | .keyImport slot => decide (slot < 64)
  | .keyZero slot => decide (slot < 64)
  | .keyRaiseFw => true
  | .keyRaiseExt => true
  | .keyReservedOp op => decide (7 ≤ op ∧ op ≤ 15)
  | .keyOpDone _ => true
  | .jtagBypass => true
  | .jtagIdcode => true
  | .jtagSamplePreload bits => decide (bits ≠ [])
  | .jtagExtest => true
  | .jtagClamp => true
  | .jtagHighz => true
  | .jtagUnlock _ => true
  | .jtagObserve op => (match op with | .reg off => decide (off < 256 ∧ off % 4 = 0) | .entry tid idx => decide (tid < 256 ∧ idx < 65536))
  | .jtagService _ => true
  | .jtagHivedbg _ => true
  | .jtagScan => true
  | .jtagOtpProg row _ => decide (row < 256)
  | .jtagReserved code => decide (code < 256)
  | .orfortCharRx _ _ => true
  | .orfortBreak => true
  | .orfortHe => true
  | .orfortSt => true
  | .orfortRd off n => decide (off < 256 ∧ off % 4 = 0 ∧ 1 ≤ n ∧ n ≤ 64)
  | .orfortWr off _ => decide (off < 256 ∧ off % 4 = 0)
  | .orfortTb tid idx => decide (tid < 256 ∧ idx < 65536)
  | .orfortTl tid idx ws => decide (tid < 256 ∧ idx < 65536 ∧ 1 ≤ ws.length ∧ ws.length ≤ 16)
  | .orfortAr off n => decide (off < 0x400000 ∧ off % 8 = 0 ∧ 1 ≤ n ∧ n ≤ 16)
  | .orfortCb slot => decide (∀ x ∈ slot, x < 256)
  | .orfortLg seq n => decide ((∀ x ∈ seq, x < 16384) ∧ 1 ≤ n ∧ n ≤ 256)
  | .orfortUlRequest level => decide (level < 16)
  | .orfortUlResponse _ => true
  | .orfortUlRelock => true
  | .orfortOvSet ch _ _ => decide (ch < 23)
  | .orfortOvClear ch => decide (ch < 23)
  | .orfortOvOff => true
  | .orfortOvList => true
  | .orfortTxDisarm => true
  | .orfortTxLaneout lane _ => decide (lane < 8)
  | .orfortTxSpoil _ _ => true
  | .weaveTickReceive t => t.wf
  | .weaveStatusReceive x => x.wf
  | .weaveSyncLoss => true
  | .masterElection => true
  | .tickLockSet => true
  | .tickLockLoss => true
  | .weaveFrozen => true
  | .peerLiveTimeout id => decide (id < 64)
  | .wvTripLineLow => true
  | .hrstNRelease => true
  | .gntDrop => true
  | .weaveSyncRealign => true
  | .nandBringUpDone b => b.wf
  | .coreRestart _ => true

end Sys2Proof
end

