-- ==== Sys2Proof/Safety.lean ====
section
/-! DEFINITION. The terms that claims use: what a safe run is, when a host write reaches its register, and the invariants
of the block. -/

namespace Sys2Proof.Machine

/-- A step of a safe run: the command takes effect and its operands are values that its row can carry. -/
def safeStep (s : State) : Bool :=
  s.pending.all (fun c => c.wf) && (match step s with | .next _ => true | .fault _ => false | .refused _ => false)

/-- The admission guarantee: the store covers what is dirty (R136). -/
def covered (s : State) : Bool := decide (s.adm.need ≤ s.adm.now)

/-- A write that leaves the post buffer reaches its register: the bus exists, no post-TRIP window closes it, its bytes are
enabled as the register needs, and the state accepts it (R30, R43, R69, R72, R77, R82). -/
def reaches (e : PostEntry) (s : State) : Bool :=
  busUp s && !(s.host.post.isEmpty && s.host.syncWait) && !(s.top.window && e.off != 0x3C && e.off != 0x14) &&
    !(wordAtomic e.off && e.be != allBe) && e.off != 0xF8 && (e.be != 0 || (e.off == 0x2C && s.top.state != .wake)) && (s.top.state != .wake || wakeAccepts e.off)

/-- The oldest entry of the post buffer is e, or e comes by a path without a buffer. -/
def oldest (e : PostEntry) (s : State) : Bool := s.host.post.isEmpty || s.host.post.head? == some e

/-- The machine after the oldest entry has left the post buffer, and a waiting write has entered it. -/
def popped (s : State) : State :=
  if s.host.post.isEmpty then s
  else { s with host := { s.host with post := s.host.post.tail ++ s.host.waiting.toList, waiting := none } }

/-- t is s but for what an interrupt, an event, a record, a Tally message or a ledger charge shows: the interface, the rings,
the ledger, Tally, Scout's Tally trip, the line driver and the triggers of the frame. -/
def onlyReports (s t : State) : Prop :=
  t.conf = s.conf ∧ t.adm = s.adm ∧ t.store = s.store ∧ t.dram = s.dram ∧ t.harv = s.harv ∧ t.nand = s.nand ∧ t.ret = s.ret ∧
  t.arr = s.arr ∧ t.hive = s.hive ∧ t.sec = s.sec ∧ t.jtag = s.jtag ∧ t.orf = s.orf ∧ t.top.state = s.top.state ∧
  t.fr.epoch = s.fr.epoch ∧ t.pending = s.pending

/-- The frame generator runs in exactly the states with powered islands (R46). -/
def framesRun (s : State) : Bool := s.fr.running == powered s

/-- Every addressed memory and sparse table is in its canonical form. -/
def canonical (s : State) : Bool :=
  Sparse.wf (fun _ => erasedWord) s.arr.mem && Sparse.wf (fun _ => 0) s.adm.map && Sparse.wf resetWord s.conf.cur &&
    Sparse.wf resetWord s.conf.shadow && Sparse.wf (fun _ => 0) s.hive.a.tcm && Sparse.wf (fun _ => 0) s.hive.b.tcm &&
    Sparse.wf (fun _ => 0) s.hive.sram

end Sys2Proof.Machine
end

