-- ==== Sys2Proof/Certificates/Slice0/Obligations.lean ====
section
/-! DEFINITION. The statements for the provers: what the rules of the spec say a command does, and what every step keeps.
A statement's first clauses say where the command completes with its own effect; the last ones what stays. -/

open Sys2Proof Sys2Proof.Machine

/-! Steps, the frame generator and the power states. -/

/-- A step gives the oldest waiting command its effect on the state with the rest of the queue; with none waiting it idles
(the model's choice, log entry 3). -/
def Obligations.StepRunsOldestCommand : Prop :=
  (∀ (c : Instr) (cs : List Instr) (s : State), s.pending = c :: cs → step s = exec c { s with pending := cs }) ∧
  (∀ s : State, s.pending = [] → step s = .next s)

/-- A step that goes on has consumed exactly one command, and no command sends another. -/
def Obligations.StepConsumesOneCommand : Prop :=
  ∀ s t : State, step s = .next t → t.pending = s.pending.tail

/-- Right after AON POR: OFF, EPOCH 0, no interrupt, nothing waiting, and direct registers at their Reset columns. -/
def Obligations.ResetRegisters : Prop :=
  State.reset.top.state = .off ∧ State.reset.fr.epoch = 0 ∧ State.reset.host.intStat = 0 ∧ State.reset.pending = [] ∧
  regPeek State.reset 0x50 = 0x37100700 ∧ regPeek State.reset 0x64 = 0x00000430 ∧ regPeek State.reset 0x44 = 0 ∧
  regPeek State.reset 0x20 = 0 ∧ regPeek State.reset 0x3C = 0 ∧ regPeek State.reset 0x1C = 0

/-- The two invariants hold right after AON POR: no frame runs in OFF, and every memory is in its canonical form. -/
def Obligations.ResetInvariants : Prop := framesRun State.reset = true ∧ canonical State.reset = true

/-- Every step keeps this: the frame generator runs exactly while an island other than AON is powered, so it stands in
DORMANT, in HOLD and while Core BOR is asserted (R46). -/
def Obligations.StepKeepsFramesRun : Prop :=
  ∀ s t : State, framesRun s = true → step s = .next t → framesRun t = true

/-- EPOCH under every command (R48, R49): a boundary that begins a frame adds one; a restart adds one and the stopped time on
the RTC tick counter; only AON POR clears it; nothing else moves it. A boundary at which frames end counts with the restart
(log entry 20). -/
def Obligations.EpochUnderEveryCommand : Prop :=
  ∀ (c : Instr) (s t : State), exec c s = .next t →
    let restart := s.fr.epoch + BitVec.ofNat 48 (1 + ((s.scout.freeTicks - s.fr.stopTick) * 250000 + s.fr.rem) / 32768)
    t.fr.epoch = match c with
      | .aonPor => 0
      | .frameBoundary _ => if powered s = true ∧ t.top.state.runs = true then s.fr.epoch + 1 else s.fr.epoch
      | .wakeQualified _ => if s.top.state ≠ .wake ∧ t.top.state = .wake then restart else s.fr.epoch
      | .coreBorRelease _ => if s.top.coreBor = true ∧ t.top.state = .wake then restart else s.fr.epoch
      | _ => s.fr.epoch

/-- DEVID, DEVREV and CAPS read their fixed words in every state (R3, R85), by a register read and through Orfort's `rd`;
FRAME_COUNT reads EPOCH[31:0]. -/
def Obligations.FixedWordsAndFrameCount : Prop :=
  (∀ s : State, regPeek s 0x00 = 0x4E576400 ∧ regPeek s 0x04 = 0x00020001 ∧ regPeek s 0x08 = 0x0071EE3F ∧
    regPeek s 0xEC = s.fr.epoch.truncate 32) ∧
  (∀ s : State, calls s [0x72, 0x64] (argsRd 0x00 3) = true → grantsO s = true → ∃ t, exec (.orfortRd 0x00 3) s = .next t ∧
    t.orf.out = [0x4E576400, 0x00020001, 0x0071EE3F])

/-- Where no frame runs a boundary does nothing; where frames run it completes, and what the queue holds and a Core BOR stay.
Where nothing happens outside a condition, that is the model's choice (log entry 1). -/
def Obligations.FrameBoundaryCompletes : Prop :=
  (∀ (f : FrameIn) (s : State), powered s = false → exec (.frameBoundary f) s = .next s) ∧
  (∀ (f : FrameIn) (s : State), powered s = true → ∃ t, exec (.frameBoundary f) s = .next t ∧
    (t.top.state.runs = true → t.fr.epoch = s.fr.epoch + 1) ∧ t.top.coreBor = s.top.coreBor ∧ t.pending = s.pending)

/-- Step 1 of a boundary: every F-class shadow comes into force and the words of other classes stay (R40, R47). -/
def Obligations.BoundaryLatchesShadows : Prop :=
  ∀ (s : State) (tid idx w : Nat), cw (frameOpen s) tid idx w = cwShadow s tid idx w ∧
    cwShadow (frameOpen s) tid idx w = cwShadow s tid idx w

/-- AON POR clears EPOCH and every volatile block and keeps the array, but for the word of a program that it interrupts; OFF
passes to DORMANT at its release (R31). Where nothing happens outside a condition, that is the model's choice (log entry 1). -/
def Obligations.AonPorClears : Prop :=
  (∀ s : State, ∃ t, exec .aonPor s = .next t ∧ t.top.state = .off ∧ t.fr.epoch = 0 ∧ t.fr.running = false ∧
    t.scout = {} ∧ t.ring = {} ∧ t.adm = {} ∧ t.host.intStat = 0 ∧ t.weave = {} ∧ t.conf = {} ∧ t.hive = {} ∧
    (∀ w, (∀ o, s.arr.run = some o → o.erase = false → w ≠ o.off / 8) → arrWord t w = arrWord s w) ∧
    t.arr.retired = s.arr.retired ∧ t.arr.ufe = s.arr.ufe ∧ t.sec.level = 0 ∧ t.sec.life = s.sec.life ∧ t.sec.slots = s.sec.slots ∧
    t.dram.setHost = s.dram.setHost ∧ t.dram.set2400 = s.dram.set2400 ∧ t.pending = s.pending) ∧
  (∀ s : State, s.top.state = .off → ∃ t, exec .aonPorRelease s = .next t ∧ t.top.state = .dormant ∧
    t.fr.epoch = s.fr.epoch ∧ t.fr.running = false ∧ t.fr.stopTick = s.scout.freeTicks ∧
    t.scout = s.scout ∧ t.arr = s.arr ∧ t.conf = s.conf ∧ t.sec = s.sec ∧ t.dram = s.dram) ∧
  (∀ s : State, s.top.state ≠ .off → exec .aonPorRelease s = .next s)

/-- Core BOR clears every island but AON; EPOCH, RTC_SEC and the DSW pads survive, and the generator stops (R31, R46). Where
nothing happens outside a condition, that is the model's choice (log entry 1). -/
def Obligations.CoreBorKeepsAon : Prop :=
  (∀ s : State, s.top.state ≠ .off → s.top.coreBor = false →
    ∃ t, exec .coreBor s = .next t ∧ t.top.coreBor = true ∧ t.top.state = s.top.state ∧
      t.fr.running = (s.fr.running && !s.top.state.runs) ∧ t.fr.epoch = s.fr.epoch ∧ t.scout.rtcSec = s.scout.rtcSec ∧
      t.scout.rtcTick = s.scout.rtcTick ∧ t.scout.filt = s.scout.filt ∧ t.dram.dswDev = s.dram.dswDev ∧
      t.dram.dswOeHigh = s.dram.dswOeHigh ∧ t.tally.exits = s.tally.exits ∧ t.ring = {} ∧ t.adm = {} ∧ t.host.intStat = 0 ∧
      t.sec.level = 0 ∧ t.hive = {} ∧ t.weave = {} ∧ t.harv = {} ∧ t.ret = {} ∧ t.arr.run = none ∧ t.arr.queue = [] ∧
      t.arr.retired = s.arr.retired ∧
      (∀ w, (∀ o, s.arr.run = some o → o.erase = false → w ≠ o.off / 8) → arrWord t w = arrWord s w) ∧ t.pending = s.pending) ∧
  (∀ s : State, s.top.state = .off ∨ s.top.coreBor = true → exec .coreBor s = .next s)

/-- The release of Core BOR: WAKE with cause 3 while VIN is above WARN + hysteresis, else DORMANT (R23), where the pads keep
their levels and no frame begins: the model's reading (log entry 30). Where nothing happens outside a condition, that is the
model's choice (log entry 1). -/
def Obligations.CoreBorReleaseByVin : Prop :=
  (∀ (s : State) (w : WakeIn), s.top.coreBor = true →
    ∃ t, exec (.coreBorRelease w) s = .next t ∧ t.top.coreBor = false ∧ t.arr = s.arr ∧ t.pending = s.pending ∧
      (dyGt (filt s 0) (goodMv s) = true → t.top.state = .wake ∧ t.top.phase = .scan ∧ t.top.cause = 3 ∧ t.fr.running = true ∧
        t.fr.refLoss = !w.xtalOk ∧ t.scout.pwrEn = true) ∧
      (dyGt (filt s 0) (goodMv s) = false → t.top.state = .dormant ∧ t.fr = s.fr ∧ t.dram = s.dram ∧ t.scout.pwrEn = false)) ∧
  (∀ (s : State) (w : WakeIn), s.top.coreBor = false → exec (.coreBorRelease w) s = .next s)

/-- HRST_N clears the HBI configuration, the post buffer and the table port and releases HINT_N; INT_STAT, TBL_CTRL.ERR_CODE and
every other block stay (R31, R83, R84). Its release lets HINT_N follow INT_STAT again. Where nothing happens outside a condition,
that is the model's choice (log entry 1). -/
def Obligations.HostReset : Prop :=
  (∀ s : State, ∃ t, exec .hrstNAssert s = .next t ∧ t.host.hrst = true ∧ t.host.post = [] ∧ t.host.waiting = none ∧
    t.host.sync = false ∧ t.host.syncWait = false ∧ t.host.mboxOvf = false ∧ t.host.partErr = false ∧ t.host.tblErr = false ∧
    t.host.tblBusy = false ∧ t.host.tblCode = s.host.tblCode ∧ t.host.hint = false ∧
    cr t 0x18 = 0 ∧ cr t 0x20 = 0 ∧ t.sec.chal = none ∧ t.sec.level = s.sec.level ∧ t.host.intStat = s.host.intStat ∧
    (∀ k, k ≠ ckey 0 0 6 → k ≠ ckey 0 0 8 → Sparse.get resetWord t.conf.cur k = Sparse.get resetWord s.conf.cur k) ∧
    t.top = s.top ∧ t.fr = s.fr ∧ t.ring = s.ring ∧ t.adm = s.adm ∧ t.scout = s.scout ∧ t.store = s.store ∧ t.dram = s.dram ∧
    t.nand = s.nand ∧ t.ret = s.ret ∧ t.arr = s.arr ∧ t.hive = s.hive ∧ t.tally = s.tally ∧ t.weave = s.weave ∧ t.pending = s.pending) ∧
  (∀ s : State, s.host.hrst = true → ∃ t, exec .hrstNRelease s = .next t ∧ t.host.hrst = false ∧
    t.host.hint = ((s.host.intStat &&& intEn s) != 0 && busUp t) ∧ t.host.intStat = s.host.intStat ∧ t = { s with host := t.host }) ∧
  (∀ s : State, s.host.hrst = false → exec .hrstNRelease s = .next s)

/-- The loss of the frame reference: REF_LOSS sets, its count rises and a REF_LOSS message of source 0x09 follows, once (R52).
Where nothing happens outside a condition, that is the model's choice (log entry 1). -/
def Obligations.ReferenceLoss : Prop :=
  (∀ s : State, powered s = true → s.fr.refLoss = false → ∃ t, exec .refLoss s = .next t ∧ t.fr.refLoss = true ∧
    t.fr.refLossCnt = satInc 255 s.fr.refLossCnt ∧ (srcOf t 0x09).lastKind = 1 ∧ (srcOf t 0x09).sticky = true ∧
    onlyReports s t) ∧
  (∀ s : State, powered s = false ∨ s.fr.refLoss = true → exec .refLoss s = .next s)

/-- The sag throttle: a droop raises D at once to what its rule gives and never lowers it, and lengthens only what the Hive
resources run (R57); the end of a condition's 256th frame of absence is marked, and the condition stays in force until the
boundary (R64 to R66). Where nothing happens outside a condition, that is the model's choice (log entry 1). -/
def Obligations.SagThrottle : Prop :=
  (∀ (level tick : Nat) (s : State), powered s = true → ∃ t, exec (.vddCoreDroop level tick) s = .next t ∧
    t.fr.vdd = max s.fr.vdd level ∧
    t.fr.div = max s.fr.div (divRule (holdConds { s with fr := { s.fr with vdd := max s.fr.vdd level } })) ∧
    (∀ r, r ≠ 9 → r ≠ 10 → acctOf t r = acctOf s r) ∧ (∀ r, (acctOf s r).usedNow ≤ (acctOf t r).usedNow) ∧ onlyReports s t) ∧
  (∀ (level tick : Nat) (s : State), powered s = false → exec (.vddCoreDroop level tick) s = .next s) ∧
  (∀ s : State, ∃ t, exec .throttleRelease s = .next t ∧ t = { s with fr := { s.fr with held := t.fr.held } } ∧
    (∀ i, (i, 256) ∈ s.fr.held → i ∉ condsNow s → (i, releasedMark) ∈ t.fr.held) ∧
    (∀ p, p ∈ s.fr.held → p.2 ≠ 256 ∨ p.1 ∈ condsNow s → p ∈ t.fr.held) ∧ heldConds t = heldConds s) ∧
  (∀ s : State, (∀ p, p ∈ s.fr.held → p.2 ≠ 256 ∨ p.1 ∈ condsNow s) → exec .throttleRelease s = .next s)

/-! Scout: samples, latches, the wake qualifier and the clock. -/

/-- A VIN sample enters its filter, the first one loading it (R156), takes VIN_NOW.MIN along (R168) and moves no other filter;
at the raised rate of DORMANT and HOLD it counts. Below that rate there is no such sample. Filters are exact fractions (log
entry 6). Where nothing happens outside a condition, that is the model's choice (log entry 1). -/
def Obligations.VinSampleFilters : Prop :=
  (∀ (x : VinSample) (s : State), s.top.state.runs = true ∨ s.scout.raised = true →
    ∃ t, exec (.scoutVinSample x) s = .next t ∧
      filt t 0 = (if 0 ∈ s.scout.loaded then dyFilter (vinIir s) (filt s 0) (rawOf s 0 x.vin) else dy (rawOf s 0 x.vin)) ∧
      (∀ ch, ch ≠ 0 → filt t ch = filt s ch) ∧
      t.scout.vinMin = some (match s.scout.vinMin with | some m => min m (dyNat (filt t 0)) | none => dyNat (filt t 0)) ∧
      onlyReports s { t with harv := s.harv, sec := s.sec }) ∧
  (∀ (x : VinSample) (s : State), s.top.state.runs = false → s.scout.raised = false → exec (.scoutVinSample x) s = .next s)

/-- A multiplexed conversion takes the next place of the cycle (R151) and moves only its own channel's filter; in OFF, DORMANT
and HOLD the multiplexer stands. Where nothing happens outside a condition, that is the model's choice (log entry 1). -/
def Obligations.MuxConversionCycles : Prop :=
  (∀ (raw : Int) (s : State), s.top.state.runs = true → ∃ t, exec (.scoutMuxConversion raw) s = .next t ∧
    t.scout.muxPos = (if s.scout.muxPos = 19 then 0 else s.scout.muxPos + 1) ∧
    t.scout.muxAlt = (if s.scout.muxPos = 19 then !s.scout.muxAlt else s.scout.muxAlt) ∧
    (∀ ch, ch ≠ muxChannel (cellsN s) s.scout.muxPos s.scout.muxAlt → filt t ch = filt s ch) ∧
    onlyReports s { t with store := s.store }) ∧
  (∀ (raw : Int) (s : State), s.top.state.runs = false → exec (.scoutMuxConversion raw) s = .next s)

/-- Slow samples: HOLD stays HOLD until the store is low, which ends it in DORMANT (R23, R161), where only the DORMANT overlay's
records of AON come into force; a DORMANT wakeup counts, filters VIN and leaves the state; elsewhere neither happens (R152, R153).
The pass to DORMANT without a boundary is the model's reading (log entry 30). Where nothing happens outside a condition, that is
the model's choice (log entry 1). -/
def Obligations.SlowSamples : Prop :=
  (∀ (x : SlowSample) (s : State), s.top.state = .hold → s.top.coreBor = false → ∃ t, exec (.holdSample x) s = .next t ∧
    t.top.state = (if t.scout.storeLow then .dormant else .hold) ∧
    filt t 0 = (if s.scout.raised then filt s 0
      else if 0 ∈ s.scout.loaded then dyFilter (vinIir s) (filt s 0) (rawOf s 0 x.vin) else dy (rawOf s 0 x.vin)) ∧
    (t.scout.storeLow = false → t.conf = s.conf) ∧ t.fr.epoch = s.fr.epoch ∧ t.arr = s.arr ∧
    t.nand = s.nand ∧ t.adm = s.adm ∧ t.dram = s.dram ∧ t.store = s.store ∧ t.pending = s.pending) ∧
  (∀ (x : SlowSample) (s : State), s.top.state = .dormant → s.top.ship = false → s.scout.raised = false →
    ∃ t, exec (.dormantWakeup x) s = .next t ∧ t.scout.dormCnt = s.scout.dormCnt + 1 ∧
    filt t 0 = (if 0 ∈ s.scout.loaded then dyFilter (vinIir s) (filt s 0) (rawOf s 0 x.vin) else dy (rawOf s 0 x.vin)) ∧
    onlyReports s { t with harv := s.harv, sec := s.sec }) ∧
  (∀ (x : SlowSample) (s : State), s.top.state ≠ .hold → exec (.holdSample x) s = .next s) ∧
  (∀ (x : SlowSample) (s : State), s.top.state ≠ .dormant → exec (.dormantWakeup x) s = .next s)

/-- The wake qualifier ends in WAKE phase SCAN, with WAKE_CAUSE 2 from HOLD, 0 at the first start and 1 otherwise, frames
running and PWR_EN high; it is abandoned after 65,536 samples; VIN at 9.0 V leaves the ship sub-mode (R49, R154, R155, R400).
Which cause is recorded, and that WAKE begins at once, are the model's reading (log entries 14 and 30). Where nothing happens
outside a condition, that is the model's choice (log entry 1). -/
def Obligations.WakeQualifier : Prop :=
  (∀ (w : WakeIn) (s : State), s.top.state = .dormant ∨ s.top.state = .hold → s.top.coreBor = false → s.scout.qualDone = true →
    s.scout.tamperQ = false → ¬(s.top.state = .hold ∧ s.scout.wetQ = true) → ∃ t, exec (.wakeQualified w) s = .next t ∧
    t.top.state = .wake ∧ t.top.phase = .scan ∧ t.top.cause = (if s.top.state = .hold then 2 else if s.fr.wakeEpoch = 0 then 0 else 1) ∧
    t.fr.running = true ∧ t.fr.wakeEpoch = t.fr.epoch ∧ t.scout.pwrEn = true ∧ t.host.io33 = w.io33 ∧ t.weave.myId = w.wvId.toNat ∧
    t.fr.refLoss = !w.xtalOk ∧ (w.xtalOk = true → t.ring = {}) ∧ t.adm = {} ∧ t.sec.level = 0 ∧ t.arr = s.arr ∧
    t.tally.exits = s.tally.exits ∧ t.pending = s.pending) ∧
  (∀ s : State, s.top.state = .dormant ∨ s.top.state = .hold → s.scout.raised = true → s.scout.qualDone = false →
    65536 ≤ s.scout.raisedCnt → exec .wakeQualifierAbandon s =
      .next { s with scout := { s.scout with raised := false, raisedCnt := 0, xtal := false, pwrEn := false } }) ∧
  (∀ (vin : Int) (s : State), s.top.state = .dormant → s.top.ship = true → 9000 ≤ vin → ∃ t,
    exec (.shipComparatorFire vin) s = .next t ∧ t.top = { s.top with ship := false } ∧ t.scout.shipWoke = true ∧
    t = { s with top := t.top, scout := t.scout }) ∧
  (∀ (vin : Int) (s : State), vin < 9000 → exec (.shipComparatorFire vin) s = .next s)

/-- The tamper edge is latched in every state but OFF; the latches clear only after their quiet time (R161, R166, R359). -/
def Obligations.TamperAndWetLatches : Prop :=
  (∀ s : State, s.top.state ≠ .off → ∃ t, exec .tamperEdgeLatch s = .next t ∧ t.scout.edge = true ∧ t.scout.tamHigh = 0 ∧
    onlyReports s { t with harv := s.harv, sec := s.sec }) ∧
  (∀ s : State, exec .tamperClear s = .next (if 32768 ≤ s.scout.tamHigh then
    { s with scout := { s.scout with tamperQ := false, edge := false, killMade := false } } else s)) ∧
  (∀ s : State, exec .wetClear s = .next (if s.scout.wetQ = true ∧ 32768 ≤ s.scout.wetLow ∧
    ¬(s.top.state = .dormant ∧ s.top.ship = true) then { s with scout := { s.scout with wetQ := false } } else s))

/-- An RTC tick counts one; every 2^20 ticks a positive TRIM adds its ticks, and a negative one has as many ticks dropped as it
says, one after the other; a stop of the 32 kHz oscillator sets RTC_STOP and reports it, once (R169, R170). RTC_SEC takes the
enabled bytes of a write (R196). Where nothing happens outside a condition, that is the model's choice (log entry 1). -/
def Obligations.RealTimeClock : Prop :=
  (∀ s : State, s.top.state ≠ .off → ∃ t, exec .rtcTick s = .next t ∧
    (let due : Bool := s.scout.trimTicks + 1 = 2 ^ 20
     let drop := s.scout.trimDrop + (if due then (-rtcTrim s).toNat else 0)
     let d := if 0 < drop then 0 else 1 + (if due then (rtcTrim s).toNat else 0)
     t.scout.rtcSec.toNat * 32768 + t.scout.rtcTick = (s.scout.rtcSec.toNat * 32768 + s.scout.rtcTick + d) % 2 ^ 47 ∧
     t.scout.freeTicks = s.scout.freeTicks + d ∧ t.scout.trimDrop = drop - 1 ∧
     t.scout.trimTicks = (if due then 0 else s.scout.trimTicks + 1)) ∧
    t = { s with sec := { s.sec with blow := t.sec.blow }, scout := t.scout } ∧ t.scout.filt = s.scout.filt) ∧
  (∀ s : State, s.top.state ≠ .off → s.scout.oscOk = true → ∃ t, exec .rtcStop s = .next t ∧ t.scout.rtcStop = true ∧
    t.scout.oscOk = false ∧ t.scout.rtcSec = s.scout.rtcSec ∧ (powered s = true → (srcOf t 0x22).lastKind = 1) ∧ onlyReports s t) ∧
  (∀ s : State, s.scout.oscOk = false → exec .rtcStop s = .next s) ∧
  (∀ s : State, s.top.state ≠ .off → exec .rtcOscOk s = .next { s with scout := { s.scout with oscOk := true } }) ∧
  (∀ (data : Word) (be : ByteEn) (s : State), reaches ⟨0x78, data, be⟩ s = true → oldest ⟨0x78, data, be⟩ s = true →
    ∃ t, exec (.rtcSecWrite data be) s = .next t ∧ t.scout.rtcSec = mergeBe s.scout.rtcSec data be ∧ t.scout.rtcTick = 0 ∧
      t = { s with host := t.host, scout := { s.scout with rtcSec := t.scout.rtcSec, rtcTick := 0 }, store := { s.store with rtcSet := true } })

/-- The timed ends: WATCH after 2,048 good frames, the 16th frame of H-DECIDE, and the fixed length of H-SEAL with its snapshot of
ten registers and INT_STAT.HARVEST (R15, R23, R239, R348). Each row marks its frame, and the boundary that ends it leads to GUARD,
to WATCH, and to RETURN, HOLD or DORMANT. The row of H_SEAL_END marks the frame (log entry 29). Where nothing happens outside a
condition, that is the model's choice (log entry 1). -/
def Obligations.TimedEndsOfStates : Prop :=
  (∀ s : State, s.top.state = .watch → goodFor s 2048 = true →
    exec .watchExit s = .next (modTrig (fun t => { t with watchExit := true }) s)) ∧
  (∀ s : State, s.top.state = .harvest → s.top.phase = .hDecide → 15 ≤ s.top.inPhase →
    exec .hdecideLimit s = .next (modTrig (fun t => { t with limit := true }) s)) ∧
  (∀ s : State, s.top.state = .harvest → s.top.phase = .hSeal → sealLen s ≤ s.top.inPhase + 1 → s.top.trig.phaseEnd = false →
    ∃ t, exec .hSealEnd s = .next t ∧ t.top.trig.phaseEnd = true ∧ t.tally.snap.map (·.1) = snapOffs ∧ t.tally.snapEpoch = s.fr.epoch ∧
      t.harv.phase = (if s.harv.isStop then 7 else 5) ∧ (powered s = true → t.host.intStat.getLsbD 3 = true) ∧
      t.top.state = .harvest ∧ t.fr.epoch = s.fr.epoch ∧ t.pending = s.pending) ∧
  (∀ (w : WakeIn) (iso take : Bool) (s : State), (causesNow s).tamper = false → (causesNow s).wet = false → (causesNow s).pg = false →
    (causesNow s).trip = false →
    (s.top.state = .watch → (causesNow s).pretrip = false → s.top.trig.watchExit = true → goodFor s 2048 = true →
      (transition w iso take s).top.state = .guard) ∧
    (s.top.state = .harvest → s.top.phase = .hDecide → s.top.trig.limit = true → (transition w iso take s).top.state = .watch) ∧
    (s.top.state = .harvest → s.top.phase = .hSeal → s.top.trig.phaseEnd = true → (transition w iso take s).top.state =
      if s.harv.killLater && s.harv.isStop then .dormant
      else if !s.harv.killLater && !s.harv.wasWet && goodFor s 2048 then .ret else .hold)) ∧
  (∀ s : State, s.top.state ≠ .watch ∨ goodFor s 2048 = false → exec .watchExit s = .next s) ∧
  (∀ s : State, s.top.state ≠ .harvest → exec .hdecideLimit s = .next s ∧ exec .hSealEnd s = .next s)

/-! WAKE. -/

/-- Phase SCAN ends once its frames have passed; the failed sectors are retired, the others are blank, and no sector is left
with UFE that is not retired (R28, R310). The frames are log entry 25's. Where nothing happens outside a condition, that is
the model's choice (log entry 1). -/
def Obligations.WakeScan : Prop :=
  (∀ (failed : List Nat) (s : State), s.top.state = .wake → s.top.phase = .scan → s.top.wakeStep = 0 →
    2559 + resolveFrames s failed ≤ s.top.inState → ∃ t, exec (.wakeScanDone failed) s = .next t ∧ t.top.wakeStep = 1 ∧
      t.arr.resolve = none ∧ toResolve t = [] ∧ (∀ x, x ∈ toResolve s → x ∈ failed → x ∈ t.arr.retired) ∧
      (∀ x, x ∈ s.arr.retired → x ∈ t.arr.retired) ∧
      (∀ w, arrWord t w = if secOf (8 * w) ∈ toResolve s ∧ secOf (8 * w) ∉ failed then erasedWord else arrWord s w) ∧
      onlyReports s { t with arr := s.arr }) ∧
  (∀ (failed : List Nat) (s : State), s.top.state ≠ .wake ∨ s.top.inState < 2559 → exec (.wakeScanDone failed) s = .next s)

/-- Phase IMAGE boots the firmware of a valid image or none, and finds the keys killed or not (R356, R358, R360); phase CATALOG's
scan fills the catalog and COMB_PENDING; the decision qualifies 140 frames into CATALOG (R27, R266). Where WAKE leads is log entry
26's reading. Where nothing happens outside a condition, that is the model's choice (log entry 1). -/
def Obligations.WakePhases : Prop :=
  (∀ (i : ImageIn) (s : State), s.top.state = .wake → s.top.phase = .image → s.top.wakeStep = 1 → ∃ t,
    exec (.wakeImageLoad i) s = .next t ∧ t.top.wakeStep = 2 ∧ t.top.state = .wake ∧ t.fr.epoch = s.fr.epoch ∧
    t.hive.fwNone = (!fwValid s false i.fwA && !fwValid s true i.fwB) ∧
    t.sec.killSeen = (s.sec.life.inUse && (s.sec.keyRec != some s.sec.epochFuses || !i.keyRecOk)) ∧
    t.store.cValid = false ∧ t.store.test.due = true ∧ t.nand.valid = false ∧ t.pending = s.pending) ∧
  (∀ (hs : List Nat) (s : State), s.top.state = .wake → s.top.phase = .catalog → s.top.wakeStep = 2 →
    ∃ t, exec (.wakeCatalogScan hs) s = .next t ∧ t.top.wakeStep = 3 ∧ t.nand.catalog = catScan s ∧
    t.top.combPend = !t.ret.pending.isEmpty ∧ (s.sec.life.inUse = false ∨ s.sec.killSeen = true → t.ret.pending = []) ∧
    (s.sec.killSeen = false → t.arr = s.arr) ∧ t.conf = s.conf ∧ t.fr = s.fr ∧ t.tally = s.tally) ∧
  (∀ s : State, s.top.state = .wake → s.top.phase = .catalog → s.top.wakeStep = 3 → 140 ≤ s.top.inPhase →
    exec .wakeDecision s = .next { s with top := { s.top with wakeStep := 4, trig := { s.top.trig with phaseEnd := true } } }) ∧
  (∀ (i : ImageIn) (hs : List Nat) (s : State), s.top.state ≠ .wake →
    exec (.wakeImageLoad i) s = .next s ∧ exec (.wakeCatalogScan hs) s = .next s ∧ exec .wakeDecision s = .next s)

/-! STATE_REQ. -/

/-- A STATE_REQ command that no rule refuses is accepted: it waits for the next boundary in place of one accepted before it in the
frame (R40), and nothing else changes but, for a DISCARD_COMB in RETURN, the request for the DRAM. NOP does nothing (R20, R21).
That a NOP is never refused is the model's reading (log entry 27). -/
def Obligations.StateReqAccepted : Prop :=
  (∀ (key : BitVec 16) (be : ByteEn) (s : State) (c : Instr) (cmd : Nat),
    (c, cmd) ∈ [(Instr.stateReqServiceEnter key be, 1), (.stateReqServiceLeave key be, 2), (.stateReqEarly key be, 3),
      (.stateReqDiscardComb key be, 4), (.stateReqDormant key be, 5), (.stateReqShip key be, 6), (.stateReqSoftReset key be, 7)] →
    let e : PostEntry := ⟨0x14, pack [(cmd, 4, 0), (key.toNat, 16, 16)], be⟩
    reaches e s = true → oldest e s = true → reqReason s cmd key = 0 →
    ∃ t, exec c s = .next t ∧ t.top = { s.top with trig := { s.top.trig with req := some (reqAction cmd) } } ∧
      t = { popped s with top := t.top, dram := { s.dram with ownReq := t.dram.ownReq } } ∧
      t.dram.ownReq = (s.dram.ownReq && !(cmd == 4 && s.top.state = .ret && !s.dram.owned))) ∧
  (∀ (key : BitVec 16) (be : ByteEn) (s : State), let e : PostEntry := ⟨0x14, pack [(0, 4, 0), (key.toNat, 16, 16)], be⟩
    reaches e s = true → oldest e s = true → exec (.stateReqNop key be) s = .next (popped s))

/-- A STATE_REQ command that a rule refuses sets REQ_ERR with its reason and INT_STAT.CONFIG, and leaves what waits (R21, R24).
Every reserved command is refused; in HARVEST every command but NOP is, with reason 6 (R22). -/
def Obligations.StateReqRefused : Prop :=
  (∀ (key : BitVec 16) (be : ByteEn) (s : State) (c : Instr) (cmd : Nat),
    ((c, cmd) ∈ [(Instr.stateReqServiceEnter key be, 1), (.stateReqServiceLeave key be, 2), (.stateReqEarly key be, 3),
      (.stateReqDiscardComb key be, 4), (.stateReqDormant key be, 5), (.stateReqShip key be, 6), (.stateReqSoftReset key be, 7)] ∨
      (8 ≤ cmd ∧ cmd ≤ 15 ∧ c = .stateReqReserved cmd key be)) →
    let e : PostEntry := ⟨0x14, pack [(cmd, 4, 0), (key.toNat, 16, 16)], be⟩
    reaches e s = true → oldest e s = true → reqReason s cmd key ≠ 0 →
    ∃ t, exec c s = .next t ∧ t.top = { s.top with reqErr := true, reqReason := reqReason s cmd key } ∧
      t.host.intStat.getLsbD 14 = true ∧ onlyReports s t) ∧
  (∀ (key : BitVec 16) (s : State) (cmd : Nat), 8 ≤ cmd → reqReason s cmd key ≠ 0) ∧
  (∀ (key : BitVec 16) (s : State) (cmd : Nat), 1 ≤ cmd → s.top.state = .harvest → reqReason s cmd key = 6)

/-! The host interface. -/

/-- A write enters the post buffer (R78); one that finds all 8 entries occupied waits on HRDY until an entry leaves, and then
enters (R79). -/
def Obligations.PostBuffer : Prop :=
  (∀ (e : PostEntry) (s : State), accessUp s = true → e.off % 4 = 0 → e.off < 256 → s.host.waiting = none →
    exec (.postBufferEnter e) s = .next { s with host := { s.host with
      post := if s.host.post.length < 8 then s.host.post ++ [e] else s.host.post
      waiting := if s.host.post.length < 8 then none else some e } }) ∧
  (∀ (x e : PostEntry) (xs : List PostEntry) (s : State), s.host.post = x :: xs → s.host.waiting = some e →
    ∃ u, takePost x s = some u ∧ u.host.post = xs ++ [e] ∧ u.host.waiting = none)

/-- What a write does not get through: the reserved register takes it without an effect (R7), the post-TRIP window sets POST_REJ
(R82), a partial write to a word-atomic register sets PART_ERR with a message of kind 2, writes nothing and leaves REJECT (R77),
no enabled byte writes nothing (R43), WAKE rejects what it does not accept (R30). Nothing starts before synchronous mode does
(R72), and a TBL_DATA write waits while its fetch runs (R90). -/
def Obligations.WriteTurnedAway : Prop :=
  (∀ (e : PostEntry) (s : State), busUp s = true → e.off % 4 = 0 → e.off < 256 → oldest e s = true →
    (s.host.post.isEmpty && s.host.syncWait) = false → (e.off = 0x2C → s.host.tblBusy = false) →
    ∃ t, exec (.registerWrite e) s = .next t ∧
      (e.off = 0xF8 → t = popped s) ∧
      (e.off ≠ 0xF8 → s.top.window = true → e.off ≠ 0x3C → e.off ≠ 0x14 → t.top = { s.top with postRej := true } ∧ onlyReports s t ∧
        t.host.intStat.getLsbD 14 = true) ∧
      (s.top.window = false ∨ e.off = 0x14 ∨ e.off = 0x3C → e.off ∈ [0x14, 0x28, 0x38, 0x3C, 0xB8, 0xFC] → e.be ≠ allBe →
        t.host.partErr = true ∧ (srcOf t 0x0C).lastKind = 2 ∧ (srcOf t 0x0C).lastAddr = BitVec.ofNat 32 e.off ∧
        t.top.reject = s.top.reject ∧ t.top.trig.req = s.top.trig.req ∧ t.host.tblTid = s.host.tblTid ∧
        t.host.tblIdx = s.host.tblIdx ∧ t.host.tblBusy = s.host.tblBusy ∧ t.host.h2c = s.host.h2c ∧
        t.host.h2cFull = s.host.h2cFull ∧ (∀ r, ringOf t r = ringOf s r) ∧ onlyReports s t) ∧
      (s.top.window = false → wordAtomic e.off = false → e.be = 0 → e.off ≠ 0x2C → t = popped s) ∧
      (s.top.window = false → wordAtomic e.off = false → e.off ≠ 0xF8 → e.be ≠ 0 → s.top.state = .wake →
        wakeAccepts e.off = false → t.top.reject = true ∧ t.top.lastRej = e.off ∧ (srcOf t 0x0C).lastKind = 1 ∧
        onlyReports s t)) ∧
  (∀ (e : PostEntry) (s : State), s.host.post = [] → s.host.syncWait = true → exec (.registerWrite e) s = .next s) ∧
  (∀ (e : PostEntry) (s : State), e.off = 0x2C → s.host.tblBusy = true → exec (.registerWrite e) s = .next s)

/-- A write that reaches its register: INT_EN takes it and HINT_N follows, ARRAY_ADDR takes the enabled bytes, DOORBELL_H2C
bits set, HOSTCFG.SYNC asks for or ends synchronous mode, which then starts (R72, R76, R86). The rows that name a register's
write are that register's write, with every byte enable and in every state. -/
def Obligations.WriteReaches : Prop :=
  (∀ (data : Word) (s : State), let e : PostEntry := ⟨0x20, data, allBe⟩
    reaches e s = true → oldest e s = true → ∃ t, exec (.registerWrite e) s = .next t ∧ intEn t = data.truncate 15 ∧
      t.host.hint = ((s.host.intStat &&& data.truncate 15) != 0) ∧ t.host.intStat = s.host.intStat ∧
      (∀ k, k ≠ ckey 0 0 8 → Sparse.get resetWord t.conf.cur k = Sparse.get resetWord s.conf.cur k) ∧
      t = { s with host := t.host, conf := t.conf }) ∧
  (∀ (data : Word) (be : ByteEn) (s : State), let e : PostEntry := ⟨0x94, data, be⟩
    reaches e s = true → oldest e s = true → exec (.registerWrite e) s = .next { popped s with
      arr := { s.arr with port := { s.arr.port with addr := mergeBe s.arr.port.addr data be } } }) ∧
  (∀ (data : Word) (be : ByteEn) (s : State), let e : PostEntry := ⟨0xC0, data, be⟩
    reaches e s = true → oldest e s = true → exec (.registerWrite e) s = .next { popped s with
      host := { (popped s).host with dbH2c := s.host.dbH2c ||| (data &&& beMask be) } }) ∧
  (∀ (data : Word) (be : ByteEn) (s : State), let e : PostEntry := ⟨0x18, data, be⟩
    reaches e s = true → oldest e s = true → ∃ t, exec (.hostcfgSyncWrite data be) s = .next t ∧
      crb t 0x18 0 = (if be.getLsbD 0 then data.getLsbD 0 else crb s 0x18 0) ∧
      t.host.sync = (s.host.sync && crb t 0x18 0) ∧
      (crb t 0x18 0 = true → s.host.sync = false → t.host.syncWait = true) ∧ (crb t 0x18 0 = false → t.host.syncWait = false) ∧
      t = { s with host := t.host, conf := t.conf }) ∧
  (∀ s : State, exec .syncModeStart s = .next (if busUp s = true ∧ s.host.syncWait = true then
    { s with host := { s.host with sync := true, syncWait := false } } else s)) ∧
  (∀ (data : Word) (be : ByteEn) (s : State) (c : Instr) (off : Nat),
    (c, off) ∈ [(Instr.hostcfgSyncWrite data be, 0x18), (.intStatW1c data be, 0x1C), (.intForceWrite data be, 0x24),
      (.tblAddrWrite data be, 0x28), (.tblDataWrite data be, 0x2C), (.ringSelWrite data be, 0x34), (.ringPortWrite data be, 0x38),
      (.ringDoorbellWrite data be, 0x3C), (.rtcSecWrite data be, 0x78), (.faultInjectArm data be, 0xA8),
      (.mboxH2cWrite data be, 0xB8), (.unlockRequest data be, 0xFC)] → exec c s = exec (.registerWrite ⟨off, data, be⟩) s) ∧
  (∀ (key : BitVec 16) (be : ByteEn) (s : State) (c : Instr) (off : Nat) (fields : List (Nat × Nat × Nat)),
    (c, off, fields) ∈ [(Instr.stateReqNop key be, 0x14, [(0, 4, 0)]), (.stateReqServiceEnter key be, 0x14, [(1, 4, 0)]),
      (.stateReqServiceLeave key be, 0x14, [(2, 4, 0)]), (.stateReqEarly key be, 0x14, [(3, 4, 0)]),
      (.stateReqDiscardComb key be, 0x14, [(4, 4, 0)]), (.stateReqDormant key be, 0x14, [(5, 4, 0)]),
      (.stateReqShip key be, 0x14, [(6, 4, 0)]), (.stateReqSoftReset key be, 0x14, [(7, 4, 0)]),
      (.lifecycleProvision key be, 0x0C, [(1, 4, 8)]), (.lifecycleDeploy key be, 0x0C, [(2, 4, 8)]),
      (.lifecycleRma key be, 0x0C, [(3, 4, 8)]), (.lifecycleScrap key be, 0x0C, [(4, 4, 8)]),
      (.arrayProgram .host key 0xFF be, 0x90, [(6, 4, 0), (0xFF, 8, 8)]), (.arrayErase .host key be, 0x90, [(7, 4, 0), (0, 8, 8)])] →
    exec c s = exec (.registerWrite ⟨off, pack (fields ++ [(key.toNat, 16, 16)]), be⟩) s)

/-- Reads with side effects (R81): each drives its register's value and changes only what its rule says: INT_STAT opens a
watch (R87), MIN, OVR_COUNT and PULSES clear, RTC_SUB latches (R169), MBOX_C2H clears (R95). With a write waiting, or no bus,
no read completes (R80). Where nothing happens outside a condition, that is the model's choice (log entry 1). -/
def Obligations.ReadsWithSideEffects : Prop :=
  (∀ s : State, accessUp s = true → s.host.post = [] →
    (let out := fun (v : Word) (t : State) => { t with host := { t.host with hd := v }, free := t.free + 1 }
     exec .intStatRead s = .next (out (s.host.intStat.zeroExtend 32) { s with host := { s.host with watch := true, watchSet := 0 } }) ∧
     exec .vinNowRead s = .next (out (regPeek s 0xE4) { s with scout := { s.scout with vinMin := none } }) ∧
     exec .vstoreNowRead s = .next (out (regPeek s 0xE8) { s with scout := { s.scout with vstMin := none } }) ∧
     exec .throttleStatRead s = .next (out (regPeek s 0x68) { s with fr := { s.fr with ovrCount := 0 } }) ∧
     exec .faultPinCtrlRead s = .next (out (regPeek s 0xA4) { s with tally := { s.tally with pulses := 0 } }) ∧
     exec .rtcSecRead s = .next (out s.scout.rtcSec { s with scout := { s.scout with rtcLatch := s.scout.rtcTick } }) ∧
     exec .mboxC2hRead s = .next (out s.host.c2h { s with host := { s.host with c2h := 0, c2hFull := false } }))) ∧
  (∀ (s : State) (c : Instr), c ∈ [Instr.intStatRead, .vinNowRead, .vstoreNowRead, .throttleStatRead, .faultPinCtrlRead,
      .rtcSecRead, .mboxC2hRead, .tblDataRead, .ringPortRead] → accessUp s = false ∨ s.host.post ≠ [] → exec c s = .next s)

/-- A read of INT_STAT opens a watch in place of any other; a write clears the bits written with 1, but for those set in this
frame or since the read that opened the watch, and ends the watch (R87); INT_FORCE sets the bits written with 1, and a setting
counts for the frame and for an open watch (R88). Nothing but the interface changes. -/
def Obligations.InterruptRegister : Prop :=
  (∀ s : State, accessUp s = true → s.host.post = [] → exec .intStatRead s = .next { s with
    host := { s.host with hd := s.host.intStat.zeroExtend 32, watch := true, watchSet := 0 }, free := s.free + 1 }) ∧
  (∀ (data : Word) (be : ByteEn) (s : State), let e : PostEntry := ⟨0x1C, data, be⟩
    reaches e s = true → oldest e s = true → ∃ t, exec (.intStatW1c data be) s = .next t ∧
      t.host.intStat = s.host.intStat &&& ~~~((data &&& beMask be).truncate 15 &&&
        ~~~(s.host.intFrame ||| (if s.host.watch then s.host.watchSet else 0))) ∧
      t.host.watch = false ∧ t.host.watchSet = 0 ∧ t = { s with host := t.host }) ∧
  (∀ (data : Word) (be : ByteEn) (s : State), let e : PostEntry := ⟨0x24, data, be⟩
    reaches e s = true → oldest e s = true → ∃ t, exec (.intForceWrite data be) s = .next t ∧
      t.host.intStat = s.host.intStat ||| (data &&& beMask be).truncate 15 ∧
      t.host.intFrame = s.host.intFrame ||| (data &&& beMask be).truncate 15 ∧
      t.host.watchSet = (if s.host.watch then s.host.watchSet ||| (data &&& beMask be).truncate 15 else s.host.watchSet) ∧
      t.host.watch = s.host.watch ∧ t = { s with host := t.host })

/-- Indirect access: TBL_ADDR starts a fetch at word 0, whose end latches the entry (R90); a failed access gives its code and
no effect (R94); a read of a latched word gives it; an idle DDRMR field takes a commit, or drops it with REJECT while its
block is busy (R41, R92). Where nothing happens outside a condition, that is the model's choice (log entry 1). -/
def Obligations.TablePort : Prop :=
  (∀ (data : Word) (s : State), let e : PostEntry := ⟨0x28, data, allBe⟩
    reaches e s = true → oldest e s = true → ∃ t, exec (.tblAddrWrite data allBe) s = .next t ∧ t = { s with host := t.host } ∧
      t.host.tblTid = fld data 24 8 ∧ t.host.tblIdx = fld data 0 24 ∧ t.host.tblWord = 0 ∧ t.host.tblBusy = true ∧
      t.host.intStat = s.host.intStat) ∧
  (∀ s : State, s.host.tblBusy = true → ∃ t, exec .tableFetchDone s = .next t ∧ t.host.tblBusy = false ∧
    (tblCode s s.host.tblTid s.host.tblIdx = 0 → s.host.tblTid ≠ 12 → s.host.tblTid ≠ 13 →
      (∀ w, storeKey s s.host.tblTid s.host.tblIdx w ∉ s.conf.tblUe ∧ storeKey s s.host.tblTid s.host.tblIdx w ∉ s.conf.tblCe) →
      t.host.latch = tblEntry s s.fr.latchHi s.host.tblTid s.host.tblIdx ∧ t = { s with host := t.host })) ∧
  (∀ s : State, s.host.tblBusy = false → exec .tableFetchDone s = .next s) ∧
  (∀ s : State, s.host.tblBusy = true → exec .tblDataRead s = .next s) ∧
  (∀ s : State, s.host.tblBusy = false → accessUp s = true → s.host.post = [] → ∃ t, exec .tblDataRead s = .next t ∧
    (accessCode s ≠ 0 → t.host.hd = 0 ∧ t.host.tblErr = true ∧ t.host.tblCode = accessCode s ∧
      t = { s with host := t.host, free := t.free }) ∧
    (accessCode s = 0 → s.host.tblWord ≠ 0 → s.host.latchUe = false →
      rcMask s.host.tblTid s.host.tblIdx s.host.tblWord = 0 → t.host.hd = s.host.latch.getD s.host.tblWord 0)) ∧
  (∀ (data : Word) (s : State), let e : PostEntry := ⟨0x2C, data, allBe⟩
    s.host.tblBusy = false → reaches e s = true → oldest e s = true → ∃ t, exec (.tblDataWrite data allBe) s = .next t ∧
      (accessCode s ≠ 0 → t.host.tblCode = accessCode s ∧ t = { s with host := t.host }) ∧
      (accessCode s = 0 → s.host.tblTid ∈ [8, 9, 12, 13] → t.host.tblCode = 3 ∧ t = { s with host := t.host }) ∧
      (∀ i, i ∈ [0, 1, 2, 3, 4, 5, 6, 8, 13, 14, 16] → accessCode s = 0 → s.host.tblTid = 10 → s.host.tblIdx = i →
        (ddrBusy s = false → fld (cw t 10 i 0) 0 18 = fld data 0 18 ∧ fld (cwShadow t 10 i 0) 0 18 = fld data 0 18) ∧
        (ddrBusy s = true → cw t 10 i 0 = cw s 10 i 0 ∧ t.top.reject = true ∧ t.top.lastRej = 0x2C) ∧
        (∀ k, k ≠ ckey 10 i 0 → Sparse.get resetWord t.conf.cur k = Sparse.get resetWord s.conf.cur k) ∧
        t.arr = s.arr ∧ t.adm = s.adm ∧ t.store = s.store ∧ t.scout.filt = s.scout.filt))

/-- The mailbox: a write fills MBOX_H2C, or sets MBOX_OVF while it is full and leaves the word; a core's take clears H2C_FULL,
its post replaces MBOX_C2H and sets C2H_FULL and INT_STAT.MBOX, and the host's read returns and clears it (R95); firmware
answers PING with 0xA5, FW_VERSION with the byte asked for, LOG_MARK with status 0, an extension command with its result or
status 4, and any other with status 1 (R96, R97). That LOG_MARK sets DOORBELL_C2H.LOG and a bad argument gets status 2 is the
model's reading (R96). Where nothing happens outside a condition, that is the model's choice (log entry 1). -/
def Obligations.Mailbox : Prop :=
  (∀ (data : Word) (s : State), let e : PostEntry := ⟨0xB8, data, allBe⟩
    reaches e s = true → oldest e s = true → exec (.mboxH2cWrite data allBe) s = .next { popped s with
      host := if s.host.h2cFull then { (popped s).host with mboxOvf := true }
        else { (popped s).host with h2c := data, h2cFull := true } }) ∧
  (∀ (b : Bool) (s x : State), coreRuns s b = true → drainAll b (takeAsync b s) = some x → x.hive.winUe.contains 0 = false →
    x.host.h2cFull = true → ∃ t, exec (.h2cTake b) s = .next t ∧ t.host.h2cFull = false ∧ t.host.taken = some x.host.h2c) ∧
  (∀ (b : Bool) (data : Word) (s x : State), coreRuns s b = true → drainAll b (takeAsync b s) = some x →
    ∃ t, exec (.c2hPost b data) s = .next t ∧ t.host.c2h = data ∧ t.host.c2hFull = true ∧ t.host.intStat.getLsbD 9 = true) ∧
  (∀ s : State, accessUp s = true → s.host.post = [] → exec .mboxC2hRead s = .next { s with
    host := { s.host with hd := s.host.c2h, c2h := 0, c2hFull := false }, free := s.free + 1 }) ∧
  (∀ (c : Instr) (s : State) (w : Word) (r : BitVec 8) (status result : Nat), fwServes s = true → mboxMsg s = some w →
    (c, status, result) ∈ [(Instr.mboxPing, 0, 0xA5),
      (.mboxFwVersion, (if mArg w < 4 then 0 else 2), (if mArg w < 4 then fld (s.hive.fwVersion.getD 0) (8 * mArg w) 8 else 0)),
      (.mboxLogMark, 0, 0), (.mboxExtension r, (if extReady s then 0 else 4), (if extReady s then r.toNat else 0)), (.mboxUnknown, 1, 0)] →
    (c = .mboxPing → mCmd w = 1) → (c = .mboxFwVersion → mCmd w = 2) → (c = .mboxLogMark → mCmd w = 3) →
    (c = .mboxExtension r → 0x80 ≤ mCmd w) → (c = .mboxUnknown → mCmd w < 0x80 ∧ mCmd w ∉ [1, 2, 3]) →
    ∃ t, exec c s = .next t ∧ t.host.c2h = pack [(result, 8, 0), (status, 8, 8), (fld w 16 8, 8, 16), (fld w 24 8, 8, 24)] ∧
      t.host.c2hFull = true ∧ t.host.taken = none ∧ t.host.intStat.getLsbD 9 = true ∧
      (c = .mboxLogMark → t.host.dbC2h = s.host.dbC2h ||| 1) ∧ onlyReports s { t with hive := s.hive }) ∧
  (∀ (c : Instr) (s : State) (r : BitVec 8), c ∈ [Instr.mboxPing, .mboxFwVersion, .mboxLogMark, .mboxExtension r, .mboxUnknown] →
    fwServes s = false ∨ mboxMsg s = none → exec c s = .next s)

/-- The unlock exchange: a permitted request starts one with a challenge, a refused one ends with its RESULT; the right
response grants the level, a wrong one counts as a failure and leaves it, the third starting the lockout; a relock, the time
limits and the lockout's end follow their counts (R98, R99, R363 to R365). The order of refusals is log entry 44's. Where
nothing happens outside a condition, that is the model's choice (log entry 1). -/
def Obligations.UnlockExchange : Prop :=
  (∀ (lvl : Nat) (s : State), let data : Word := BitVec.ofNat 32 (0x554C0000 + lvl); let e : PostEntry := ⟨0xFC, data, allBe⟩
    1 ≤ lvl → lvl ≤ 3 → reaches e s = true → oldest e s = true → s.sec.chal = none →
    ∃ t, exec (.unlockRequest data allBe) s = .next t ∧ t.sec.reqLevel = lvl ∧ t.sec.channel = 0 ∧ t.sec.level = s.sec.level ∧
      (refuseUnlock s 0 lvl = 0 → t.sec.chal = some (Config.challenge s.free) ∧ t.sec.chalAge = 0) ∧
      (refuseUnlock s 0 lvl ≠ 0 → t.sec.chal = none ∧ t.sec.result = refuseUnlock s 0 lvl ∧ (srcOf t 0x27).lastKind = 3) ∧
      onlyReports s { t with sec := s.sec }) ∧
  (∀ (data chal : Word) (s : State), let e : PostEntry := ⟨0xFC, data, allBe⟩
    reaches e s = true → oldest e s = true → s.sec.chal = some chal → s.sec.channel = 0 → data ≠ 0x554C0000 →
    ∃ t, exec (.unlockResponse data allBe) s = .next t ∧ t.sec.chal = none ∧
      (data = unlockResp s chal s.sec.reqLevel → t.sec.level = s.sec.reqLevel ∧ t.sec.result = 1 ∧ t.sec.fails = 0 ∧
        (s.sec.reqLevel = 3 → s.sec.life.inUse = true → t.sec.keysClosed = true)) ∧
      (data ≠ unlockResp s chal s.sec.reqLevel → t.sec.level = s.sec.level ∧ t.sec.result = 2 ∧
        t.sec.fails = satInc 3 s.sec.fails ∧ (2 ≤ s.sec.fails → s.sec.fails ≤ 3 → t.sec.fails = 3) ∧
        (t.sec.fails = 3 → t.sec.lockLeft = 2 ^ 28 + 1)) ∧ onlyReports s { t with sec := s.sec }) ∧
  (∀ s : State, let e : PostEntry := ⟨0xFC, 0x554C0000, allBe⟩
    reaches e s = true → oldest e s = true → ∃ t, exec (.unlockRelock allBe) s = .next t ∧ t.sec.level = 0 ∧ t.sec.chal = none ∧
      t.sec.result = 7 ∧ (srcOf t 0x27).lastKind = 4 ∧ t.scout.ovr = [] ∧ onlyReports s { t with sec := s.sec }) ∧
  (∀ s : State, exec .unlockTimeout s = .next (if s.sec.chal.isSome = true ∧ 2 ^ 24 ≤ s.sec.chalAge then
    { s with sec := { s.sec with chal := none, result := 8 } } else s)) ∧
  (∀ s : State, let k := crf s 0xC8 4 4
    (0 < s.sec.level → 0 < k → 2 ^ (k + 20) ≤ s.sec.raisedAge → ∃ t, exec .relockExpiry s = .next t ∧ t.sec.level = 0 ∧
      t.sec.result = 7 ∧ t.sec.chal = none ∧ onlyReports s { t with sec := s.sec }) ∧
    (s.sec.level = 0 ∨ k = 0 ∨ s.sec.raisedAge < 2 ^ (k + 20) → exec .relockExpiry s = .next s)) ∧
  (∀ s : State, exec .lockoutEnd s = .next (if s.sec.lockLeft = 1 then { s with sec := { s.sec with lockLeft := 0 } } else s))

/-! Rings and Admission Guard. -/

/-- The ring registers: RING_SEL selects and discards a part entry with PORT_ERR PARTIAL; RING_PORT takes an entry word by
word while there is credit and gives an event word by word (R110); RING_DOORBELL publishes or removes entries, and what it
asks for too much sets DB_ERR (R112); a RESET waits for the next boundary, whose resets empty the ring and its pending entries
(R106). Other rings stay. A reset's stages are log entry 52's, which cause PORT_CAUSE shows is log entry 53's. Where nothing
happens outside a condition, that is the model's choice (log entry 1). -/
def Obligations.RingRegisters : Prop :=
  (∀ (data : Word) (s : State), let e : PostEntry := ⟨0x34, data, allBe⟩
    reaches e s = true → oldest e s = true → ∃ t, exec (.ringSelWrite data allBe) s = .next t ∧ selRing t = fld data 0 8 ∧
      (selRing s % 4 ≠ 3 → (ringOf s (selRing s)).part ≠ [] →
        t.ring.portErr = true ∧ t.ring.cause = 3 ∧ (ringOf t (selRing s)).part = []) ∧
      (∀ r, (ringOf t r).staged = (ringOf s r).staged ∧ (ringOf t r).pub = (ringOf s r).pub ∧
        (ringOf t r).unread = (ringOf s r).unread) ∧ t = { s with host := t.host, conf := t.conf, ring := t.ring }) ∧
  (∀ (data : Word) (s : State), let e : PostEntry := ⟨0x38, data, allBe⟩; let r := selRing s; let g := ringOf s r
    reaches e s = true → oldest e s = true → ∃ t, exec (.ringPortWrite data allBe) s = .next t ∧ onlyReports s t ∧
      (∀ q, q ≠ r → ringOf t q = ringOf s q) ∧
      (rUsable s r = true → r % 4 ≠ 3 → ¬(g.part = [] ∧ avail s r = 0) →
        (g.part.length < 3 → (ringOf t r).part = g.part ++ [data] ∧ (ringOf t r).staged = g.staged) ∧
        (∀ a b c, g.part = [a, b, c] → (ringOf t r).part = [] ∧
          (ringOf t r).staged.map (fun x => [x.w0, x.w1, x.w2, x.w3]) =
            g.staged.map (fun x => [x.w0, x.w1, x.w2, x.w3]) ++ [[a, b, c, data]])) ∧
      (rUsable s r = true → r % 4 ≠ 3 → g.part = [] → avail s r = 0 →
        t.ring.portErr = true ∧ t.ring.cause = 0 ∧ (ringOf t r).staged = g.staged) ∧
      (rUsable s r = false ∨ r % 4 = 3 → t.ring.portErr = true ∧ t.ring.cause = 1 ∧ ringOf t r = g)) ∧
  (∀ s : State, let r := selRing s; let g := ringOf s r
    accessUp s = true → s.host.post = [] → ∃ t, exec .ringPortRead s = .next t ∧ onlyReports s t ∧
      (∀ q, q ≠ r → (ringOf t q).staged = (ringOf s q).staged) ∧
      (∀ x rest, rUsable s r = true → r % 4 = 3 → g.unread = x :: rest → x.ueW = [] → x.ceW = [] → g.rdWord < 4 →
        t.host.hd = [x.w0, x.w1, x.w2, x.w3].getD g.rdWord 0 ∧
        (g.rdWord = 3 → (ringOf t r).unread = rest ∧ (ringOf t r).rdWord = 0) ∧
        (g.rdWord ≠ 3 → (ringOf t r).unread = g.unread ∧ (ringOf t r).rdWord = g.rdWord + 1)) ∧
      (rUsable s r = true → r % 4 = 3 → g.unread = [] → t.host.hd = 0 ∧ t.ring.portErr = true ∧ t.ring.cause = 2) ∧
      (rUsable s r = false ∨ r % 4 ≠ 3 → t.host.hd = 0 ∧ t.ring.portErr = true ∧ t.ring.cause = 1)) ∧
  (∀ (data : Word) (s : State), let e : PostEntry := ⟨0x3C, data, allBe⟩; let r := fld data 0 8; let n := fld data 8 8
    let g := ringOf s r; let ws := fun (x : Entry) => [x.w0, x.w1, x.w2, x.w3]
    reaches e s = true → oldest e s = true → ∃ t, exec (.ringDoorbellWrite data allBe) s = .next t ∧
      t = { s with host := t.host, ring := t.ring } ∧ (∀ q, q ≠ r → ringOf t q = ringOf s q) ∧ (n = 0 → t.ring = s.ring) ∧
      (n ≠ 0 → rUsable s r = true → r % 4 ≠ 3 → (ringOf t r).staged = g.staged.drop n ∧ (ringOf t r).pub = g.pub ∧
        (ringOf t r).fresh.map ws = g.fresh.map ws ++ (g.staged.take n).map ws ∧
        t.ring.dbErr = (s.ring.dbErr || decide (g.staged.length < n))) ∧
      (n ≠ 0 → rUsable s r = true → r % 4 = 3 → (ringOf t r).unread = g.unread.drop n ∧
        t.ring.dbErr = (s.ring.dbErr || decide (g.unread.length < n))) ∧
      (n ≠ 0 → rUsable s r = false → t.ring.dbErr = true ∧ (ringOf t r).staged = g.staged ∧ (ringOf t r).unread = g.unread)) ∧
  (∀ (r : Nat) (s : State), busUp s = true → s.top.state ≠ .wake → s.top.window = false → ∃ t, exec (.ringReset r) s = .next t ∧
    ringOf t r = { ringOf s r with reset := 1 } ∧ (∀ q, q ≠ r → ringOf t q = ringOf s q) ∧
    t = { s with ring := { s.ring with rings := t.ring.rings } }) ∧
  (∀ (r : Nat) (s : State), busUp s = false ∨ s.top.state = .wake ∨ s.top.window = true → exec (.ringReset r) s = .next s) ∧
  (∀ s : State, (∀ r, r < 256 → (ringOf s r).reset = 1 → (ringOf (resetsDue s) r).staged = [] ∧
      (ringOf (resetsDue s) r).fresh = [] ∧ (ringOf (resetsDue s) r).pub = [] ∧ (ringOf (resetsDue s) r).unread = [] ∧
      (ringOf (resetsDue s) r).part = [] ∧ (ringOf (resetsDue s) r).reset = 0 ∧
      (r % 4 = 0 → (tenOf (resetsDue s) (r / 4)).pend = [])) ∧
    (∀ q, (ringOf s q).reset ≠ 1 → q % 4 ≠ 1 → ringOf (resetsDue s) q = ringOf s q) ∧ (resetsDue s).adm = s.adm)

/-- The decision on a head DIRTY entry whose scan has ended (R115, R137 to R141): held, admitted with its n new cells in the
counts and its map write to come, or refused with its reason; an admission without overcommit leaves ENERGY_NOW at or above
ENERGY_NEED (R136, R139). Where the state decides no DIRTY entry, or its EVENT ring has no room (R116), it stays undecided. The
map itself stays. What an entry with n = 0 writes is log entry 54's, the order of service log entry 45's. -/
def Obligations.AdmissionDecides : Prop :=
  ∀ (t : Nat) (s s0 : State) (p : Pend) (ps : List Pend), (tenOf s t).pend = p :: ps → p.stage = .scanning →
    takeDone (.admitScan t) s = some s0 → s.adm.ueWords = [] → s.adm.ceWords = [] → p.e.ceW = [] →
    badCode s (4 * t) p.e = 0 → namesUnrestored s p.e = false →
    let n := eCount p.e - (cellsIn s (eFirst p.e) (eCount p.e) 1).length
    let free := answerRoom s t && s.ring.late.isEmpty && decide (2 ≤ ledLeft s 12)
    ∃ u, exec (.admitScanDone t) s = .next u ∧ (∀ c, nibble u c = nibble s c) ∧ u.arr = s.arr ∧ u.conf = s.conf ∧
      (dirtyDecides s = false → (tenOf u t).pend = { p with stage := .ready } :: ps ∧ u.adm = s.adm) ∧
      (dirtyDecides s = true → admitCheck s t n p.wait = none →
        (tenOf u t).pend = { p with n := n, stage := .held, byNeed := !energyFits s t n } :: ps ∧ u.adm = s.adm) ∧
      (dirtyDecides s = true → admitCheck s t n p.wait ≠ none → answerRoom s t = false →
        (tenOf u t).pend = { p with n := n, stage := .ready } :: ps ∧ u.adm = s.adm) ∧
      (dirtyDecides s = true → admitCheck s t n p.wait = some .accept → 0 < n → free = true →
        (tenOf u t).pend = { p with n := n, stage := .writing } :: ps ∧
        (tenOf u t).dirtyNow = (tenOf s t).dirtyNow + n ∧ u.adm.dirtyTotal = s.adm.dirtyTotal + n ∧
        (s.adm.ocActive = false → covered u = true)) ∧
      (dirtyDecides s = true → admitCheck s t n p.wait = some .accept → n = 0 → free = true →
        (tenOf u t).admitCnt = satInc 65535 (tenOf s t).admitCnt ∧ (tenOf u t).pend.length = ps.length ∧ u.adm = s.adm) ∧
      (∀ c, dirtyDecides s = true → admitCheck s t n p.wait = some (.refuse c) → free = true → (tenOf u t).lastRefuse = c ∧
        (tenOf u t).refuseCnt = satInc 65535 (tenOf s t).refuseCnt ∧ (tenOf u t).pend.length = ps.length ∧ u.adm = s.adm)

/-- The map writes: an admission's makes its cells DIRTY with the present GEN, but for those that are DIRTY already, and posts
ADMIT; a cleaning's makes them CLEAN and takes them out of the Harvest plan; a CLEAN entry whose scan has ended takes its cells
out of the plan before its write (R115, R127, R141, R228). Every other cell keeps its state. -/
def Obligations.MapWrites : Prop :=
  (∀ (t o first count : Nat) (s s0 : State), endedWrite false t s = some (o, first, count) →
    takeDone (.admitWrite t o first count) s = some s0 → ∃ u, exec (.admitMapWriteDone t) s = .next u ∧
      (∀ c, nibble u c = if first ≤ c ∧ c < first + count ∧ cellState s c ≠ 1 then 1 + 4 * genNow s else nibble s c) ∧
      u.adm.dirtyTotal = s.adm.dirtyTotal ∧ u.conf = s.conf ∧ u.arr = s.arr ∧
      (∀ p ps, (tenOf s t).pend = p :: ps → p.stage = .writing → p.e.ord = o → answersNow s = true → answerRoom s t = true →
        ringsFree s = true → (tenOf u t).admitCnt = satInc 65535 (tenOf s t).admitCnt ∧ (tenOf u t).pend.length = ps.length)) ∧
  (∀ (t o first count : Nat) (s s0 : State), endedWrite true t s = some (o, first, count) →
    takeDone (.cleanWrite t o first count) s = some s0 → ∃ u, exec (.cleanWriteDone t) s = .next u ∧
      (∀ c, first ≤ c → c < first + count → cellState u c = 0) ∧
      (∀ c, c < first ∨ first + count ≤ c → nibble u c = nibble s c) ∧
      (∀ c, c ∈ u.harv.plan ↔ c ∈ s.harv.plan ∧ ¬(first ≤ c ∧ c < first + count)) ∧ u.conf = s.conf ∧ u.arr = s.arr ∧
      (∀ e es, (ringOf s (4 * t + 1)).pub = e :: es → (tenOf s t).clean = .writing → e.ord = o → answersNow s = true →
        answerRoom s t = true → ringsFree s = true → (ringOf u (4 * t + 1)).pub = es)) ∧
  (∀ (t : Nat) (s s0 : State) (e : Entry) (es : List Entry), (ringOf s (4 * t + 1)).pub = e :: es → (tenOf s t).clean = .scanning →
    cleanDecides s = true → takeDone (.cleanScan t) s = some s0 → s.adm.ueWords = [] → s.adm.ceWords = [] → e.ceW = [] →
    badCode s (4 * t + 1) e = 0 → namesReturnSet s e = false → answerRoom s t = true → ringsFree s = true →
    ∃ u, exec (.cleanScanDone t) s = .next u ∧
      (tenOf u t).clean = .writing ∧ (∀ c, c ∈ u.harv.plan ↔ c ∈ s.harv.plan ∧ ¬(eFirst e ≤ c ∧ c < eFirst e + eCount e)) ∧
      u.adm = s.adm ∧ u.conf = s.conf ∧ u.arr = s.arr)

/-- Entries that wait: a held one is refused with reason 1 when its time is over and its EVENT ring has room (R115, R116, R139); a
recount makes the counts exact (R130); what waited for EVENT space is decided and posted when there is space, answers of a ring
that has been reset first (R106, R116); a DEMAND is answered at once in GUARD, WATCH and SERVICE, else its lookup finds the cells
still to restore, or answers the entry when there are none (R124, R283). Where nothing happens outside a condition, that is the
model's choice (log entry 1). -/
def Obligations.WaitingEntries : Prop :=
  (∀ (t : Nat) (s : State) (p : Pend) (ps : List Pend), (tenOf s t).pend = p :: ps → p.stage = .held →
    2 ^ tWait s t ≤ p.wait → dirtyDecides s = true → answerRoom s t = true → s.ring.late = [] → 2 ≤ ledLeft s 12 →
    ∃ u, exec (.admitWaitExpiry t) s = .next u ∧ u.adm = s.adm ∧ u.conf = s.conf ∧ (tenOf u t).lastRefuse = 1 ∧
      (tenOf u t).refuseCnt = satInc 65535 (tenOf s t).refuseCnt ∧ (tenOf u t).pend.length = ps.length) ∧
  (∀ (t : Nat) (s : State) (p : Pend) (ps : List Pend), (tenOf s t).pend = p :: ps →
    p.stage ≠ .held ∨ p.wait < 2 ^ tWait s t ∨ dirtyDecides s = false ∨ answerRoom s t = false →
    exec (.admitWaitExpiry t) s = .next s) ∧
  (∀ s s0 : State, takeDone .recount s = some s0 → ∃ u, exec .mapRecountDone s = .next u ∧ u.adm.recount = false ∧
    u.adm.dirtyTotal = (u.adm.map.filter fun p => p.2 % 4 == 1).length ∧
    (∀ t, t < 64 → (tenOf u t).dirtyNow = (u.adm.map.filter fun p => p.2 % 4 == 1 && tEnable s t && decide (tBase s t ≤ p.1) &&
      decide (p.1 ≤ tLast s t)).length) ∧ (s.adm.ueWords = [] → u.adm.map = s.adm.map) ∧ u.conf = s.conf ∧ u.arr = s.arr) ∧
  (∀ (t : Nat) (s : State) (a : Answer), a.kind < 4 → s.ring.answers.find? (fun a => a.tenant == t && a.ready) = some a → answerRoom s t = true →
    ringsFree s = true → ∃ u, exec (.answerPostDeferred t) s = .next u ∧ u.adm.map = s.adm.map ∧ u.conf = s.conf ∧
      (ringOf s (4 * t + 3)).unread.map (·.w0) ++ [(answerEvent a.e a.v s).w0] <+: (ringOf u (4 * t + 3)).unread.map (·.w0)) ∧
  (∀ (t : Nat) (s : State) (p : Pend) (ps : List Pend) (v : Verdict),
    s.ring.answers.find? (fun a => a.tenant == t && a.ready) = none → (tenOf s t).pend = p :: ps → p.stage = .decided v →
    answersNow s = true → answerRoom s t = true → ringsFree s = true →
    ∃ u, exec (.answerPostDeferred t) s = .next u ∧ (tenOf u t).pend.length = ps.length ∧ u.adm.map = s.adm.map ∧ u.conf = s.conf ∧
      (ringOf s (4 * t + 3)).unread.map (·.w0) ++ [(answerEvent p.e v s).w0] <+: (ringOf u (4 * t + 3)).unread.map (·.w0)) ∧
  (∀ (t : Nat) (s : State), s.ring.answers.find? (fun a => a.tenant == t && a.ready) = none → (tenOf s t).pend = [] →
    (ringOf s (4 * t + 1)).pub = [] → (ringOf s (4 * t + 2)).pub = [] → s.ret.demands.any (fun d => d.ring == 4 * t + 2) = false →
    exec (.answerPostDeferred t) s = .next s) ∧
  (∀ (r st : Nat) (s : State) (e : Entry) (es : List Entry), r % 4 = 2 → (ringOf s r).pub = e :: es →
    s.ret.demands.any (fun d => d.ring == r) = false → demandStatus s = some st → badCode s r e = 0 → answerRoom s (r / 4) = true →
    s.ring.late = [] → 2 ≤ ledLeft s 12 →
    ∃ u, exec (.demandLookupDone r) s = .next u ∧ (ringOf u r).pub = es ∧ u.adm = s.adm ∧ u.conf = s.conf ∧
      (ringOf u (4 * (r / 4) + 3)).unread.map (·.w0) = (ringOf s (4 * (r / 4) + 3)).unread.map (·.w0) ++
        [BitVec.ofNat 32 (0x86 + st * 256 + (eTag e).toNat * 65536)]) ∧
  (∀ (r : Nat) (s s0 : State) (d : Demand), r % 4 = 2 → s.ret.demands.find? (fun d => d.ring == r && !d.looked) = some d →
    takeDone (.demandLookup r) s = some s0 → badCode s r d.e = 0 →
    let named := s.ret.cells.filter fun p => decide (eFirst d.e ≤ p.1) && decide (p.1 < eFirst d.e + eCount d.e)
    let left := (named.filter fun p => p.2.status == 1).map (·.1)
    left ≠ [] → ∃ u, exec (.demandLookupDone r) s = .next u ∧ u.adm = s.adm ∧ u.ret.demands = s.ret.demands.replace d { d with
      looked := true, left := left, tillDone := s.ret.locFull && decide (named.length < eCount d.e) }) ∧
  (∀ (r : Nat) (s s0 : State) (d : Demand), r % 4 = 2 → d.ring = r → d.looked = false → s.ret.demands = [d] →
    takeDone (.demandLookup r) s = some s0 → badCode s r d.e = 0 → s.ret.locFull = false →
    s.ret.cells.any (fun p => decide (eFirst d.e ≤ p.1) && decide (p.1 < eFirst d.e + eCount d.e) && p.2.status == 1) = false →
    answerRoom s (r / 4) = true → s.ring.late = [] → 2 ≤ ledLeft s 12 →
    ∃ u, exec (.demandLookupDone r) s = .next u ∧ u.ret.demands = [] ∧ u.adm = s.adm ∧
      (ringOf u (4 * (r / 4) + 3)).unread.map (·.w0) = (ringOf s (4 * (r / 4) + 3)).unread.map (·.w0) ++
        [BitVec.ofNat 32 (0x86 + servedStatus s d.e * 256 + (eTag d.e).toNat * 65536)])

/-! The store and the Charge Governor. -/

/-- The Charge Governor's commands: RESERVE falls after its margin (R193); CHARGE_CTRL.STEP and REFCAP make a test due, but
while a test or bleed runs they are dropped with REJECT (R41, R182); RAMP begins with the 2.000 A step where the charger may run
and VSTORE is below VFULL (R175, R178); the result is valid within R183's bounds or TEST_FAIL sets with the next try 2^24 frames
later; an aligned end of a demand interval is marked (R190). Roundings are free (log entry 18). Where nothing happens outside a
condition, that is the model's choice (log entry 1). -/
def Obligations.ChargeGovernor : Prop :=
  (∀ s : State, exec .reserveRelease s = .next (if s.store.reserve = true ∧ 256 ≤ s.store.margin then
    { s with store := { s.store with reserve := false } } else s)) ∧
  (∀ (data : Word) (be : ByteEn) (s : State), let e : PostEntry := ⟨0x6C, data, be⟩
    reaches e s = true → oldest e s = true → be.getLsbD 3 = true → data.getLsbD 24 = true → data.getLsbD 25 = false →
    ∃ t, exec (.chargeCtrlStep be data) s = .next t ∧ onlyReports s { t with conf := s.conf, store := s.store } ∧
      (testBusy s = false → t.store = { s.store with test := { s.store.test with due := true, againAt := none } }) ∧
      (testBusy s = true → t.store = s.store ∧ t.top.reject = true ∧ t.top.lastRej = 0x6C)) ∧
  (∀ (data : Word) (be : ByteEn) (s : State), let e : PostEntry := ⟨0x6C, data, be⟩
    reaches e s = true → oldest e s = true → be.getLsbD 3 = true → data.getLsbD 24 = false → data.getLsbD 25 = true →
    ∃ t, exec (.chargeCtrlRefcap be data) s = .next t ∧ onlyReports s { t with conf := s.conf, store := s.store } ∧
      (testBusy s = false → s.top.state = .service →
        t.store = { s.store with test := { s.store.test with due := true, refcap := true, againAt := none } }) ∧
      (testBusy s = true ∨ s.top.state ≠ .service → t.store = s.store ∧ t.top.reject = true ∧ t.top.lastRej = 0x6C)) ∧
  (∀ s : State, s.store.test.stage = 2 → 65536 ≤ s.store.test.frames → ∃ t, exec .stepTestStep s = .next t ∧
    t.store.chgEn = (mayCharge s && dyLt (pubd s 1) (Int.ofNat (vfull s))) ∧
    t.store.duty = (if t.store.chgEn then 16 * 2000 else 0) ∧ t.store.test.stage = 3 ∧ t.store.test.base = s.store.test.fits ∧
    t.store.test.ts = s.store.test.k ∧ t = { s with store := t.store }) ∧
  (∀ s : State, s.store.test.stage ≠ 2 ∨ s.store.test.frames < 65536 → exec .stepTestStep s = .next s) ∧
  (∀ s : State, powered s = true → s.store.test.stage = 3 → 1114368 ≤ s.store.test.frames →
    ∃ t, exec .stepTestResult s = .next t ∧ t.store.test.stage = 0 ∧ t.host.intStat.getLsbD 11 = true ∧
      ((t.store.cValid = true ∧ t.store.testFail = false ∧ t.store.nvEsr25 = some t.store.esr25 ∧
          ratedC s / 4 ≤ t.store.cMeas ∧ t.store.cMeas ≤ 2 * ratedC s) ∨
        (t.store.testFail = true ∧ t.store.test.againAt = some (s.fr.epoch + 0x1000000) ∧ t.store.cMeas = s.store.cMeas ∧
          t.arr = s.arr)) ∧ t.arr.mem = s.arr.mem ∧
      onlyReports s { t with store := s.store, arr := s.arr }) ∧
  (∀ s : State, s.store.test.stage ≠ 3 ∨ s.store.test.frames < 1114368 → exec .stepTestResult s = .next s) ∧
  (∀ (s : State) (e : Epoch), s.store.test.againAt = some e → exec .stepTestDueAgain s = .next (if e.toNat ≤ s.fr.epoch.toNat then
    { s with store := { s.store with test := { s.store.test with due := true, againAt := none } } } else s)) ∧
  (∀ s : State, exec .intervalEnd s = .next (if s.store.intOpen = true ∧ 0 < dintSec s ∧
    alignedIdx s s.scout.rtcSec ≠ alignedIdx s s.store.intStart then { s with store := { s.store with intMark := true } } else s))

/-! DRAM ownership and Trickle. -/

/-- H-ISOLATE opens the switches at a high OWN_GNT sample up to frame T+3, else by force at T+4 with FORCED (R203). A rank of an
owned DRAM that gets its REFRESH owes one less, or none after a takeover's, and a due ZQCS restarts its count; both are charged to
the command bus (R210, costs: log entry 57). A fall of OWN_GNT is reported while the device owns the DRAM and asks for it, which
leaves out the drop R205 asks for (R204, R205; log entry 32). Every data address has one place in the DRAM (R200). Where nothing
happens outside a condition, that is the model's choice (log entry 1). -/
def Obligations.DramOwnership : Prop :=
  (∀ (tick : Nat) (s : State), s.top.state = .harvest → s.top.phase = .hIsolate → s.dram.iso = 0 → s.dram.sinceT ≤ 3 →
    exec (.ownGntIsolate tick) s = .next { s with dram := { s.dram with
      gnt := true, dswOeHigh := true, iso := 1, bus := s.dram.bus ++ [(none, .oe true)] } } ∧
    exec .forcedIsolation s = .next s) ∧
  (∀ (tick : Nat) (s : State), s.top.state = .harvest → s.top.phase = .hIsolate → s.dram.iso = 0 → 4 ≤ s.dram.sinceT →
    exec .forcedIsolation s = .next { s with dram := { s.dram with
      dswOeHigh := true, iso := 1, forced := true, bus := s.dram.bus ++ [(some 0, .oe true)] } } ∧
    exec (.ownGntIsolate tick) s = .next s) ∧
  (∀ (tick : Nat) (s : State), s.top.phase ≠ .hIsolate ∨ s.dram.iso ≠ 0 →
    exec (.ownGntIsolate tick) s = .next s ∧ exec .forcedIsolation s = .next s) ∧
  (∀ (rank : Nat) (s : State), let owed := Sparse.get (fun _ => 0) s.dram.debt rank; let acc := Sparse.get (fun _ => 0) s.dram.refAcc rank
    s.dram.owned = true → s.dram.iso ≠ 2 → rank < ranksN s → 0 < owed ∨ refInterval s ≤ acc + 200 →
    ∃ t, exec (.refreshDue rank) s = .next t ∧ (acctOf t 0).usedNow = (acctOf s 0).usedNow + 1 ∧
      (0 < owed → Sparse.get (fun _ => 0) t.dram.debt rank = (if s.dram.taken = true ∨ s.dram.iso = 3 then 0 else owed - 1) ∧
        t.dram.refAcc = s.dram.refAcc) ∧
      (owed = 0 → t.dram.debt = s.dram.debt ∧ Sparse.get (fun _ => 0) t.dram.refAcc rank = acc - refInterval s) ∧
      (∀ r, r ≠ rank → Sparse.get (fun _ => 0) t.dram.debt r = Sparse.get (fun _ => 0) s.dram.debt r) ∧
      t = { s with dram := { s.dram with debt := t.dram.debt, refAcc := t.dram.refAcc }, fr := { s.fr with acct := t.fr.acct } }) ∧
  (∀ (rank : Nat) (s : State), s.dram.owned = false ∨ s.dram.iso = 2 ∨ ranksN s ≤ rank ∨
    (Sparse.get (fun _ => 0) s.dram.debt rank = 0 ∧ Sparse.get (fun _ => 0) s.dram.refAcc rank + 200 < refInterval s) →
    exec (.refreshDue rank) s = .next s) ∧
  (∀ s : State, s.dram.owned = true → s.dram.iso ≠ 2 → 31999 ≤ s.dram.zqFrames → ∃ t, exec .zqcsDue s = .next t ∧
    t.dram = { s.dram with zqFrames := 0 } ∧ (acctOf t 0).usedNow = (acctOf s 0).usedNow + 1 ∧
    t = { s with dram := t.dram, fr := { s.fr with acct := t.fr.acct } }) ∧
  (∀ s : State, s.dram.owned = false ∨ s.dram.zqFrames < 31999 → exec .zqcsDue s = .next s) ∧
  (∀ s : State, ∃ t, exec .gntDrop s = .next t ∧ t.dram = { s.dram with gnt := false } ∧
    (s.dram.owned = true → s.dram.ownReq = true → powered s = true → (srcOf t 0x28).lastKind = 4) ∧
    (s.dram.owned = false ∨ s.dram.ownReq = false → t.tally = s.tally) ∧
    onlyReports s { t with dram := s.dram }) ∧
  (∀ (a : Nat) (s : State), let x := dramAddr s a; let k := if fld (geomW s) 0 2 = 3 then 4 else 2
    let low := x.byte + 8 * x.col + 2 ^ 13 * x.bg + 2 ^ 15 * x.ba
    x.byte < 8 ∧ x.col < 1024 ∧ x.bg < 4 ∧ x.ba < 4 ∧
    (fld (geomW s) 5 1 = 0 → a = low + 2 ^ 17 * x.row + rankSize s * x.rank) ∧
    (fld (geomW s) 5 1 = 1 → a = low + 2 ^ 17 * x.rank + 2 ^ 17 * k * x.row))

/-- TRAIN starts where R215 allows it, with an exclusive request; elsewhere it sets TRAIN_FAIL, and a busy block drops it with
REJECT (R41, R223). The rates are trained one after the other; the end of the last one gives the DRAM back in SERVICE or keeps it
in WAIT_GNT, and sets TRAIN_FAIL if a rate failed; a set that passed is written to sectors 98–99 of both banks (R215, R216,
R290). The order of the rates and TRAIN_CELL's part are log entry 57's. Where nothing happens outside a condition, that is the
model's choice (log entry 1). -/
def Obligations.DramTraining : Prop :=
  (∀ s : State, let e : PostEntry := ⟨0x2C, 1, allBe⟩
    let may : Prop := mrErr s = 0 ∧ (s.top.state = .service ∨ (s.top.state = .ret ∧ s.top.phase = .waitGnt ∧ ready s = false))
    reaches e s = true → oldest e s = true → s.host.tblBusy = false → atDdr s 20 = true →
    ∃ t, exec (.trainStart allBe) s = .next t ∧ t.conf.cur = s.conf.cur ∧
      (ddrBusy s = false → may → t.dram = { s.dram with
        training := true, train2 := false, trainBad := false, ownReq := true, reqWas := true, readyWas := ready s }) ∧
      (ddrBusy s = false → ¬may → t.dram = { s.dram with trainFail := true, readyWas := ready s } ∧
        (s.dram.readyWas = false ∨ ready s = true → (srcOf t 0x28).lastKind = 3)) ∧
      (ddrBusy s = true → t.dram = { s.dram with readyWas := ready s } ∧ t.top.reject = true ∧ t.top.lastRej = 0x2C) ∧
      onlyReports s { t with dram := s.dram, conf := s.conf }) ∧
  (∀ s : State, atDdr s 20 = false → exec (.trainStart allBe) s = .next s) ∧
  (∀ (okHost ok2400 : Bool) (s : State), s.dram.training = true → s.dram.owned = true →
    let ok := (if s.dram.train2 then ok2400 else okHost) && trainCellOk s
    let more := trainsBoth s && !s.dram.train2
    ∃ t, exec (.trainDone okHost ok2400) s = .next t ∧ t.arr.mem = s.arr.mem ∧ t.dram.setHost = s.dram.setHost ∧
      t.dram.set2400 = s.dram.set2400 ∧ (ok = false → t.arr = s.arr) ∧
      (ok = true → s.arr.run = none → s.arr.queue = [] → s.arr.susp = none → recordSlot s 98 99 < 100 * 2048 →
        ∃ a b, t.arr.run = some a ∧ t.arr.queue = [b] ∧ a.tag = 6 ∧ b.tag = 6 ∧ a.erase = false ∧ a.data = b.data ∧
          b.off = a.off + 0x200000 ∧ 98 ≤ secOf a.off ∧ secOf a.off ≤ 99) ∧
      (more = true → t.dram.training = true ∧ t.dram.train2 = true ∧ t.dram.rate2400 = true ∧
        t.dram.trainBad = (s.dram.trainBad || !ok)) ∧
      (more = false → t.dram.training = false ∧ (s.dram.trainBad = true ∨ ok = false → t.dram.trainFail = true) ∧
        (s.top.state = .service → s.dram.hand = 0 → t.dram.hand = (if s.dram.rate2400 then 1 else 2)) ∧
        (s.top.state = .ret → t.dram.owned = true ∧ t.dram.rate2400 = false)) ∧
      onlyReports s { t with dram := s.dram, arr := s.arr }) ∧
  (∀ (okHost ok2400 : Bool) (s : State), s.dram.training = false ∨ s.dram.owned = false →
    exec (.trainDone okHost ok2400) s = .next s) ∧
  (∀ (second : Bool) (s : State), (second = false → trainHost (setStored second s) = true) ∧
    (second = true → train2400 (setStored second s) = true ∨ speed3200 s = false))

/-- A Trickle pass: GO starts it where R218 and R259 allow it and is dropped with REJECT elsewhere; the pass takes the first cell
in ascending order that is DIRTY and that no pending entry names (R219); a cell whose pages are programmed turns from DIRTY to
TRICKLED, with its GEN, and leaves the counts (R146, R219); the pass ends whole when its window holds no cell to copy, or cut by
CANCEL (R220). Where nothing happens outside a condition, that is the model's choice (log entry 1). -/
def Obligations.TricklePass : Prop :=
  (∀ s : State, let e : PostEntry := ⟨0x2C, 1, allBe⟩
    let may : Prop := s.top.state = .guard ∧ ready s = true ∧ s.dram.active = false ∧ fld (cw s 10 10 0) 0 16 ≠ 0 ∧ 0 < winCount s ∧
      winFirst s + winCount s ≤ cellsCfg s ∧ s.nand.valid = true ∧ s.nand.armed = true ∧
      s.dram.passes.foldl (fun a p => a + p.2) 0 + winCount s ≤ trkRes s ∧ s.dram.passes.length < 32
    reaches e s = true → oldest e s = true → s.host.tblBusy = false → atDdr s 15 = true →
    ∃ t, exec (.trickleGo allBe) s = .next t ∧ t.adm.map = s.adm.map ∧ t.adm.dirtyTotal = s.adm.dirtyTotal ∧ t.arr = s.arr ∧
      t.conf.cur = s.conf.cur ∧
      (may → t.dram.active = true ∧ t.dram.imgOpen = true ∧ t.dram.nextCell = winFirst s ∧ t.dram.copying = [] ∧
        t.dram.passes = s.dram.passes ++ [(winFirst s, winCount s)] ∧ t.nand.power = true ∧ ∀ k, k < 64 → (tenOf t k).trickled = 0) ∧
      (¬may → t.dram = { s.dram with readyWas := ready s } ∧ t.adm = s.adm ∧ t.top.reject = true ∧ t.top.lastRej = 0x2C)) ∧
  (∀ s : State, let e : PostEntry := ⟨0x2C, 2, allBe⟩
    reaches e s = true → oldest e s = true → s.host.tblBusy = false → atDdr s 15 = true →
    ∃ t, exec (.trickleCancel allBe) s = .next t ∧ t.adm = s.adm ∧ t.arr = s.arr ∧ t.dram.active = false ∧
      t.dram.cut = (s.dram.cut || s.dram.active) ∧ t.dram.imgOpen = s.dram.imgOpen ∧ t.dram.passes = s.dram.passes) ∧
  (∀ (s : State) (c : Nat), nextTrickle s = some c → mayTrickle s c = true ∧ s.dram.nextCell ≤ c ∧
    ∀ d, s.dram.nextCell ≤ d → mayTrickle s d = true → c ≤ d) ∧
  (∀ (c : Nat) (s : State), s.dram.active = true → s.top.state = .guard → c ∈ s.dram.copying →
    (s.nand.units.any fun u => u.pages.any fun p => p.cell == c) = false →
    ∃ t, exec (.trickleCellCopied c) s = .next t ∧ c ∉ t.dram.copying ∧ t.dram.nextCell = s.dram.nextCell ∧
      (∀ d, d ≠ c → nibble t d = nibble s d) ∧ (cellState s c ≠ 1 → t.adm = s.adm) ∧
      (∀ o, cellState s c = 1 → ownerOf s c = some o → nibble t c = 2 + 4 * cellGen s c ∧ t.adm.dirtyTotal = s.adm.dirtyTotal - 1 ∧
        (tenOf t o).dirtyNow = (tenOf s o).dirtyNow - 1 ∧ (tenOf t o).trickled = (tenOf s o).trickled + 1) ∧
      onlyReports s { t with adm := s.adm, dram := s.dram }) ∧
  (∀ (c : Nat) (s : State), c ∉ s.dram.copying ∨ s.dram.active = false → exec (.trickleCellCopied c) s = .next s) ∧
  (∀ s : State, s.dram.active = true → nextTrickle s = none → s.dram.copying = [] → (∀ p, p ∈ s.harv.lanes → p.2.cells = []) →
    ∃ t, exec .tricklePassEnd s = .next t ∧ t.dram.active = false ∧ t.dram.cut = s.dram.cut ∧
      t.dram.nextCell = winFirst s + winCount s ∧ t.adm = s.adm ∧ t.conf = s.conf) ∧
  (∀ s : State, s.dram.active = false ∨ (nextTrickle s).isSome = true → exec .tricklePassEnd s = .next s)

/-! Harvest and the Comb on NAND. -/

/-- Harvest saves: the head cell of a lane becomes SAVED with its GEN and leaves the lane, unless its last stripes are used up by
then, which declares the lane out (R126, R233, R254). A program unit that passes is done with; one that fails counts against its
channel and target and loses its stripe, the header's goes to the next page (R253, R254); a seal page that passes leaves the list
of those that wait (R257); a Trickle page that fails ends the arming (R263). A target that has not reported for 8 ms is out and
keeps no unit (R254). The moment a cell counts as saved is log entry 34's reading. Where nothing happens outside a condition,
that is the model's choice (log entry 1). -/
def Obligations.HarvestSaves : Prop :=
  (∀ (l c : Nat) (cs : List Nat) (s : State), (laneOf s l).cells = c :: cs → writing s = true → 65536 ≤ (laneOf s l).moved →
    (∀ w, w ∈ (laneOf s l).pages → w.kind ≠ 3) →
    ∃ t, exec (.cellSaved l) s = .next t ∧ t.conf = s.conf ∧ t.arr = s.arr ∧ t.fr.epoch = s.fr.epoch ∧
      ((laneOf t l).out = false → nibble t c = 3 + 4 * cellGen s c ∧ (∀ d, d ≠ c → nibble t d = nibble s d) ∧
        (laneOf t l).cells = cs ∧ t.harv.saved = s.harv.saved + 1)) ∧
  (∀ (l : Nat) (s : State), writing s = false ∨ (laneOf s l).cells = [] ∨ (laneOf s l).moved < 65536 →
    exec (.cellSaved l) s = .next s) ∧
  (∀ (g page : Nat) (u : ProgUnit) (s : State), writing s = true → s.harv.sealStep ≠ 1 →
    s.nand.units.find? (fun u => u.target == g && decide (page ≤ u.page) && decide (u.page < page + unitRows s false)) = some u →
    (u.page = page → ∃ t, exec (.nandProgramStatus g page true) s = .next t ∧ t.nand.units = s.nand.units.erase u ∧
      t.nand.chans = s.nand.chans ∧ t.nand.targets = s.nand.targets ∧ t.adm = s.adm ∧ t.arr = s.arr ∧ t.tally = s.tally) ∧
    (∃ t, exec (.nandProgramStatus g page false) s = .next t ∧ t.arr = s.arr ∧ t.conf = s.conf ∧
      (chanOf t (g / 4)).progFail = satInc 0xFFFF (chanOf s (g / 4)).progFail ∧ (tgtOf t g).fails = (tgtOf s g).fails + 1 ∧
      (2 ≤ (tgtOf s g).fails → (tgtOf t g).out = true) ∧
      (u.pages.any (fun p => p.kind == 1) = false → (g, u.stripe) ∈ t.nand.badFound) ∧
      (u.pages.any (fun p => p.kind == 1) = true → t.harv.hdrPage = s.harv.hdrPage + 1))) ∧
  (∀ (g page : Nat) (e : CatEntry) (s : State), writing s = true → s.harv.sealStep = 1 → (g, page) ∈ s.harv.sealWait →
    combEntry s = some e → s.harv.sealWait.erase (g, page) ≠ [] → exec (.nandProgramStatus g page true) s = .next { s with
      harv := { s.harv with sealWait := s.harv.sealWait.erase (g, page) } }) ∧
  (∀ (g page : Nat) (u : ProgUnit) (s : State), s.top.state = .guard →
    s.nand.units.find? (fun u => u.target == g && u.page == page) = some u →
    exec (.nandProgramStatus g page true) s = .next { s with nand := { s.nand with units := s.nand.units.erase u } } ∧
    (∃ t, exec (.nandProgramStatus g page false) s = .next t ∧ t.nand.armed = false ∧ t.conf = s.conf ∧ t.arr.mem = s.arr.mem ∧
      (chanOf t (g / 4)).progFail = satInc 0xFFFF (chanOf s (g / 4)).progFail)) ∧
  (∀ (g : Nat) (s : State), tgtOn s g = true → writing s = true → lateUnits g s ≠ [] →
    ∃ t, exec (.targetTimeout g) s = .next t ∧ (tgtOf t g).out = true ∧ (∀ u, u ∈ t.nand.units → u.target ≠ g) ∧
      t.arr = s.arr ∧ t.conf = s.conf) ∧
  (∀ (g : Nat) (s : State), tgtOn s g = true → s.top.state = .ret ∨ s.top.state = .early → s.dram.active = false →
    ∃ t, exec (.targetTimeout g) s = .next t ∧ (tgtOf t g).out = true ∧ t.arr = s.arr ∧ t.conf = s.conf) ∧
  (∀ (g : Nat) (s : State), tgtOn s g = false → s.nand.rewrites = [] → s.top.state ≠ .ret → s.top.state ≠ .early →
    exec (.targetTimeout g) s = .next s)

/-- Preparation and bring-up: an erased stripe is done with, a stripe that fails joins the bad ones and counts, and the map's
sectors take it (R261, R262); bring-up ends with VALID set exactly when no geometry check fails, and shows the enabled chips that
are present (R244, R246). Where nothing happens outside a condition, that is the model's choice (log entry 1). -/
def Obligations.NandUpkeep : Prop :=
  (∀ (g stripe : Nat) (s : State), s.nand.prep = true → (g, stripe) ∈ s.nand.prepLeft →
    (∃ t, exec (.nandEraseDone g stripe true) s = .next t ∧ (g, stripe) ∉ t.nand.prepLeft ∧ t.nand.targets = s.nand.targets ∧
      t.adm = s.adm ∧ t.conf = s.conf ∧ t.arr.mem = s.arr.mem ∧
      (t.nand.prepLeft ≠ [] → t.nand.prepDone = s.nand.prepDone ++ [(g, stripe)] ∧ t.arr = s.arr) ∧
      ((∀ p, p ∈ s.nand.prepLeft → p = (g, stripe)) → s.nand.prepRearm = true → s.nand.prepEntry.isSome = true →
        t.nand.armed = true ∧ t.nand.prep = false) ∧
      (∀ e, (∀ p, p ∈ s.nand.prepLeft → p = (g, stripe)) → s.nand.prepRearm = false → s.nand.prepEntry = some e →
        t.nand.prepEntry = some { e with armEpoch := s.fr.epoch } ∧ t.nand.armed = s.nand.armed)) ∧
    (∃ t, exec (.nandEraseDone g stripe false) s = .next t ∧ stripe ∈ (tgtOf t g).bad ∧
      (chanOf t (g / 4)).erFail = satInc 0xFFFF (chanOf s (g / 4)).erFail ∧
      (t.nand.prepLeft ≠ [] → t.nand.geomErr = s.nand.geomErr) ∧ t.arr.mem = s.arr.mem ∧ t.adm = s.adm ∧ t.conf = s.conf)) ∧
  (∀ (g stripe : Nat) (pass : Bool) (s : State), s.nand.prep = false ∨ (g, stripe) ∉ s.nand.prepLeft →
    exec (.nandEraseDone g stripe pass) s = .next s) ∧
  (∀ (b : BringUp) (s : State), s.nand.bringUp = true → ∃ t, exec (.nandBringUpDone b) s = .next t ∧ t.nand.bringUp = false ∧
    t.nand.broughtUp = true ∧ (t.nand.valid = true ↔ t.nand.geomErr = 0) ∧ t.nand.marks = b.marks ∧
    (∀ c, c < 8 → (chanOf t c).present = fld b.present (4 * c) 4 &&& ceEn s c) ∧
    (∀ g, g < 32 → (tgtOf t g).id = if tgtOn s g && b.present.getLsbD g then b.ids.getD g 0 else 0) ∧
    t.arr.mem = s.arr.mem ∧ t.adm = s.adm ∧ t.conf = s.conf) ∧
  (∀ (b : BringUp) (s : State), s.nand.bringUp = false → exec (.nandBringUpDone b) s = .next s)

/-! Return. -/

/-- VERIFY takes the pending Combs in turn: a usable header with a verified seal keeps its seal and ends the DIRTY state of
the cells its exact runs name, any other outcome leaves the Comb unsealed with COARSE runs (R271, R272); a sweep unit spends
its ticks and counts its pages (R273). COARSE runs and sweep ticks follow log entries 21 and 33. Where nothing happens outside
a condition, that is the model's choice (log entry 1). -/
def Obligations.ReturnFinds : Prop :=
  (∀ (v : VerifyIn) (id : Nat) (s : State), s.top.state = .ret → s.top.phase = .verify → verifyComb s = some id →
    1250 * (s.ret.verified.length + 1) ≤ s.top.inPhase + 1 → ∃ t, exec (.verifyCombDone v) s = .next t ∧
      t.ret.verified = s.ret.verified ++ [id] ∧ t.ret.pending = s.ret.pending ∧ t.arr = s.arr ∧ t.conf = s.conf ∧
      (v.hdr = none → t.ret.unsealed = s.ret.unsealed ++ [id] ∧ t.ret.sealsOf = s.ret.sealsOf) ∧
      (∀ h c, v.hdr = some h → v.sealCopy = some c → combSealed s id = true → t.ret.unsealed = s.ret.unsealed ∧
        (id, c) ∈ t.ret.sealsOf ∧
        ∀ r, r ∈ c.runs → r.coarse = false → ∀ x, r.first ≤ x → x < r.first + r.count → cellState t x ≠ 1) ∧
      (∀ h, v.hdr = some h → v.sealCopy = none ∨ combSealed s id = false → t.ret.unsealed = s.ret.unsealed ++ [id] ∧ t.adm = s.adm)) ∧
  (∀ (v : VerifyIn) (s : State), s.top.phase ≠ .verify ∨ verifyComb s = none → exec (.verifyCombDone v) s = .next s) ∧
  (∀ (l id : Nat) (h : CombHdr) (fs : List Footer) (s : State), s.top.state = .ret → s.top.phase = .waitGnt →
    sweepComb s l = some id → hdrOf s id = some h → l ∈ retLanes s → sweepCost s l ≤ Sparse.get (fun _ => 0) s.ret.ticks l →
    ∃ t, exec (.sweepUnitDone l fs) s = .next t ∧
      Sparse.get (fun _ => 0) t.ret.ticks l = Sparse.get (fun _ => 0) s.ret.ticks l - sweepCost s l ∧
      Sparse.get (fun _ => 0) t.ret.pagesAt (id * 8 + l) = Sparse.get (fun _ => 0) s.ret.pagesAt (id * 8 + l) + hUnit h ∧
      (sealOf s id = none → fs.length < hUnit h ∨ (∃ f, f ∈ fs ∧ f.combId ≠ id) → id * 8 + l ∈ t.ret.swept) ∧
      ((∀ k, slotLost s k = false) → t.adm = s.adm) ∧ t.arr = s.arr ∧ t.conf = s.conf) ∧
  (∀ (l : Nat) (fs : List Footer) (s : State), s.top.phase ≠ .waitGnt → exec (.sweepUnitDone l fs) s = .next s)

/-- Restoring: an accepted page joins its cell's, and codewords count; a page with no copy left makes the cell lost and CLEAN
(R126, R277); a cell with its four quarters becomes SAVED and restored (R278, R126); a failed END word is tried again, and in
place it ends its Comb (R285). The events' frames are log entry 33's. Where nothing happens outside a condition, that is the
model's choice (log entry 1). -/
def Obligations.ReturnRestores : Prop :=
  (∀ (p : PageRead) (x : RCell) (s : State), cellRec s p.cell = some x → restoring s = true → x.lane = p.lane → x.status = 1 →
    mayRead s p.lane p.cell = true → ∃ t, exec (.restorePageRead p) s = .next t ∧ t.arr = s.arr ∧ t.conf = s.conf ∧
      (∀ c, c ≠ p.cell → nibble t c = nibble s c) ∧
      (chanOf t p.lane).cwCorr = min 0xFFFF ((chanOf s p.lane).cwCorr + p.corr) ∧
      (chanOf t p.lane).cwUnc = min 0xFFFF ((chanOf s p.lane).cwUnc + p.unc) ∧
      (p.unc = 0 → p.retries ≤ 8 → p.footerOk = true → p.chainOk = true → nibble t p.cell = nibble s p.cell ∧
        ∃ y, cellRec t p.cell = some y ∧ p.quarter ∈ y.acc ∧ y.status = 1 ∧ p.cell ∈ t.ret.flight) ∧
      (p.unc ≠ 0 ∨ 8 < p.retries ∨ p.footerOk = false ∨ p.chainOk = false → p.quarter ∉ x.acc →
        quarterN p.quarter x.occ ≤ quarterN p.quarter x.bad + 1 →
        ∃ y, cellRec t p.cell = some y ∧ y.status = 3 ∧ p.cell ∉ t.ret.flight ∧ cellState t p.cell = 0 ∧
          s.ret.lost.length ≤ t.ret.lost.length)) ∧
  (∀ (p : PageRead) (s : State), cellRec s p.cell = none ∨ restoring s = false → exec (.restorePageRead p) s = .next s) ∧
  (∀ (l c : Nat) (x : RCell) (s : State), (laneFlight s l).find? (fun c => match cellRec s c with
      | some x => [0, 1, 2, 3].all fun q => x.acc.contains q
      | none => false) = some c → cellRec s c = some x → restoring s = true → 65536 ≤ Sparse.get (fun _ => 0) s.ret.moved l →
    ∃ t, exec (.cellRestored l) s = .next t ∧ nibble t c = 3 + 4 * cellGen s c ∧ (∀ d, d ≠ c → nibble t d = nibble s d) ∧
      (∃ y, cellRec t c = some y ∧ y.status = 2) ∧ c ∉ t.ret.flight ∧ t.arr = s.arr ∧ t.conf = s.conf) ∧
  (∀ (l : Nat) (s : State), restoring s = false → exec (.cellRestored l) s = .next s) ∧
  (∀ (okA okB : Bool) (id : Nat) (ids : List Nat) (e : CatEntry) (s : State), s.ret.endRetry = some 0 → s.ret.endsLeft = id :: ids →
    s.nand.catalog.find? (fun e => e.combId == id && e.ended == 0) = some e →
    ∃ t, exec (.endWordRetry okA okB) s = .next t ∧ t.conf = s.conf ∧
      (okA = true ∨ okB = true → id ∉ t.ret.endsLeft ∧ arrWord t (catOff e.slot 15 (!okA) / 8) =
        catWord { e with ended := 1, endEpoch := s.fr.epoch } 15) ∧
      (okA = false → okB = false → t.ret.endRetry = some 65536 ∧ t.ret.endsLeft = s.ret.endsLeft ∧ t.arr = s.arr ∧
        (powered s = true → (srcOf t 0x30).lastKind = 5))) ∧
  (∀ (okA okB : Bool) (s : State), s.ret.endRetry ≠ some 0 → exec (.endWordRetry okA okB) s = .next s)

/-! The internal array. -/

/-- ARRAY_CMD from a requester that may send one: a command that no rule refuses has its effect, the others leave HSTATE 6
with the lowest code that applies and nothing else (R302, R304 to R306). The host's writes come through the post buffer, a
core's through its window. -/
def Obligations.ArrayCommands : Prop :=
  let sends := fun (r : Requester) (op key arg : Nat) (s : State) => match r with
    | .host => reaches ⟨0x90, pack [(op, 4, 0), (arg, 8, 8), (key, 16, 16)], allBe⟩ s = true ∧
        oldest ⟨0x90, pack [(op, 4, 0), (arg, 8, 8), (key, 16, 16)], allBe⟩ s = true
    | .core b => powered s = true ∧ (coreOf s b).inReset = false
    | .engine => False
  (∀ (arg : Nat) (s : State), sends .host 0 0 arg s → exec (.arrayNop arg allBe) s = .next (popped s)) ∧
  (∀ (c : Instr) (op : Nat) (s : State), (c, op) ∈ [(Instr.arrayLdlo allBe, 1), (.arrayLdhi allBe, 2), (.arrayGetlo allBe, 3),
      (.arrayGethi allBe, 4)] → sends .host op 0 0 s → cmdCode s .host op 0 0 = 0 → ∃ t, exec c s = .next t ∧
      let p := s.arr.port
      t.arr = { s.arr with port := { p with
        hstate := 4
        latch := if op = 1 then (p.latch &&& 0xFFFFFFFF00000000) ||| p.addr.zeroExtend 64
          else if op = 2 then (p.latch &&& 0xFFFFFFFF) ||| (p.addr.zeroExtend 64 <<< 32) else p.latch
        addr := if op = 3 then p.latch.truncate 32 else if op = 4 then (p.latch >>> 32).truncate 32 else p.addr } } ∧
      t.host.intStat.getLsbD 7 = true ∧ t = { s with host := t.host, arr := t.arr }) ∧
  (∀ (c : Instr) (r : Requester) (op key arg : Nat) (k : BitVec 16) (m : BitVec 8) (s : State),
    (c, op, key, arg) ∈ [(Instr.arrayRead r allBe, 5, 0, 0), (.arrayProgram r k m allBe, 6, k.toNat, m.toNat),
      (.arrayErase r k allBe, 7, k.toNat, 0), (.arrayBlank r allBe, 8, 0, 0), (.arraySuspend r allBe, 9, 0, 0),
      (.arrayResume r allBe, 10, 0, 0)] ∨ (11 ≤ op ∧ op ≤ 15 ∧ key = 0 ∧ arg = 0 ∧ c = .arrayReserved r op allBe) →
    sends r op key arg s → let code := cmdCode s r op key arg; let off := (portOf s r).addr.toNat
    ∃ t, exec c s = .next t ∧ t.arr.mem = s.arr.mem ∧ t.arr.retired = s.arr.retired ∧ t.conf = s.conf ∧ t.adm = s.adm ∧
      (code ≠ 0 → (portOf t r).hstate = 6 ∧ (portOf t r).rejCode = code ∧ (portOf t r).addr = (portOf s r).addr ∧
        t.arr.queue = s.arr.queue ∧ t.arr.run = s.arr.run ∧ t.arr.susp = s.arr.susp ∧ t.tally = s.tally) ∧
      (11 ≤ op → code = 1) ∧
      (code = 0 → op = 5 → busyFor s off = 0 → s.arr.retired.contains (secOf off) = false → off / 8 ∉ s.arr.ueMarks →
        (portOf t r).latch = arrWord s (off / 8) ∧ (portOf t r).hstate = 4) ∧
      (code = 0 → op = 6 → s.arr.run = none → s.arr.queue = [] → s.arr.susp = none →
        t.arr.run = some { req := r, erase := false, off := off, data := (portOf s r).latch, mask := m } ∧ (portOf t r).hstate = 2) ∧
      (code = 0 → op = 7 → s.arr.run = none → s.arr.queue = [] →
        t.arr.run = some { req := r, erase := true, off := secOf off * 0x4000 } ∧ secOf off ∈ t.arr.ufe) ∧
      (code = 0 → (op = 6 ∨ op = 7) → s.arr.run.isSome = true → t.arr.run = s.arr.run ∧ t.arr.queue.length = s.arr.queue.length + 1 ∧
        (portOf t r).hstate = 1) ∧
      (code = 0 → op = 8 → busyFor s off = 0 → (portOf t r).hstate = if (firstUsed s (secOf off)).isNone then 4 else 5) ∧
      (code = 0 → op = 9 → (portOf t r).suspReq = true ∧ t.arr.run = s.arr.run) ∧
      (code = 0 → op = 10 → ∀ z, s.arr.susp = some z → t.arr.susp = none ∧ (t.arr.run = some z.op ∨ z.op ∈ t.arr.queue)))

/-- Ends of array operations. A program that succeeds writes the enabled bytes and leaves 0xFF in the others, one that fails
leaves an undefined word with a message (R293); an erase that succeeds leaves its sector blank without UFE, one that fails
retires it (R294). No other word changes. The undefined word is a free value (log entry 17). Where nothing happens outside a
condition, that is the model's choice (log entry 1). -/
def Obligations.ArrayOperationEnds : Prop :=
  (∀ (n : Nat) (ok : Bool) (o : ArrOp) (s : State), s.arr.run = some o → o.erase = false → 1 ≤ n → n ≤ 16 →
    ok = true ∨ n = 16 → 28 + 12 * n ≤ 4 * (o.frames + 1) → ∃ t, exec (.arrayProgramEnd n ok) s = .next t ∧
      arrWord t (o.off / 8) = (if ok then maskData o.data o.mask else Config.undefinedWord s.free) ∧
      (∀ w, w ≠ o.off / 8 → arrWord t w = arrWord s w) ∧ (∀ x, x ∈ s.arr.retired → x ∈ t.arr.retired) ∧
      (o.req = .host → powered s = true → t.host.intStat.getLsbD 7 = true) ∧ t.adm = s.adm ∧ t.fr.epoch = s.fr.epoch) ∧
  (∀ (n : Nat) (ok : Bool) (o : ArrOp) (s : State), s.arr.run = some o → o.erase = true ∨ n = 0 ∨ 16 < n ∨ (ok = false ∧ n < 16) →
    exec (.arrayProgramEnd n ok) s = .next s) ∧
  (∀ (n : Nat) (ok : Bool) (o : ArrOp) (s : State), s.arr.run = some o → o.erase = true → 1 ≤ n → n ≤ 48 →
    ok = true ∨ n = 48 → 200 + 2256 * n ≤ 4 * (o.frames + 1) → ∃ t, exec (.arrayEraseEnd n ok) s = .next t ∧
      (∀ w, arrWord t w = if ok = true ∧ secOf (8 * w) = secOf o.off then erasedWord else arrWord s w) ∧
      (ok = false → secOf o.off ∈ t.arr.retired) ∧ (o.req = .host → powered s = true → t.host.intStat.getLsbD 7 = true) ∧
      t.adm = s.adm ∧ t.fr.epoch = s.fr.epoch) ∧
  (∀ (n : Nat) (ok : Bool) (s : State), s.arr.run = none → exec (.arrayProgramEnd n ok) s = .next s ∧
    exec (.arrayEraseEnd n ok) s = .next s) ∧
  (∀ (o : ArrOp) (s : State), s.arr.run = some o → s.arr.susp = none → o.erase = true → (portOf s o.req).suspReq = true → s.arr.queue = [] →
    o.req ≠ .engine → (∀ r, (portOf s r).waitOp = none) → ∃ t, exec .eraseSuspendEffect s = .next t ∧ t.arr.run = none ∧ t.arr.susp = some ⟨o, 0, 0, 0⟩ ∧ (portOf t o.req).hstate = 3 ∧
      (portOf t o.req).suspReq = false ∧ t.arr.mem = s.arr.mem ∧ t = { s with host := t.host, arr := t.arr }) ∧
  (∀ (z : Susp) (s : State), s.arr.susp = some z → (portOf s z.op.req).suspReq = true → z.op.req ≠ .engine →
    ∃ t, exec .eraseSuspendEffect s = .next t ∧ t.arr.susp = some { z with cause := 0 } ∧ t.arr.run = s.arr.run ∧
      (portOf t z.op.req).hstate = 3 ∧ (portOf t z.op.req).suspReq = false ∧ t.arr.mem = s.arr.mem ∧ t = { s with host := t.host, arr := t.arr }) ∧
  (∀ s : State, s.arr.run = none → s.arr.susp = none → exec .eraseSuspendEffect s = .next s) ∧
  (∀ (z : Susp) (s : State), s.arr.susp = some z → z.cause = 1 → 2 ≤ z.quietFor ∨ 500 ≤ z.since → ∃ t, exec .autoResume s = .next t ∧
    t.arr.susp = none ∧ (t.arr.run = some z.op ∨ z.op ∈ t.arr.queue) ∧ t.arr.mem = s.arr.mem ∧ t = { s with arr := t.arr }) ∧
  (∀ s : State, s.arr.susp = none → exec .autoResume s = .next s) ∧
  (∀ (b isFetch : Bool) (addr : Word) (s x : State), coreRuns s b = true → (coreOf s b).asyncFault = false → 0x40000000 ≤ addr.toNat →
    addr.toNat < 0x40400000 → drainAll b (setStalled b false s) = some x → (∀ w, w ∈ (coreOf s b).buf → fwReg w.addr.toNat = false) →
    let off := addr.toNat - 0x40000000
    ∃ t, exec (.arrayFetch b addr isFetch) s = .next t ∧ t.arr.mem = s.arr.mem ∧ t.arr.retired = s.arr.retired ∧ t.adm = s.adm ∧
      (accessBad s b addr.toNat 4 false = true → (b && extOn x) = false → (coreOf t b).handler = true ∧
        (srcOf t (coreSrc b)).lastKind = 1 ∧ (srcOf t (coreSrc b)).lastAddr = addr) ∧
      (accessBad s b addr.toNat 4 false = true → (b && extOn x) = true → t.hive.extStopped = true ∧ t.hive.extSince = none) ∧
      (accessBad s b addr.toNat 4 false = false → busyFor s off = 0 → s.arr.retired.contains (secOf off) = false → off / 8 ∉ s.arr.ueMarks →
        (coreOf t b).lastLoad = (if off % 8 < 4 then (arrWord s (off / 8)).truncate 32 else (arrWord s (off / 8) >>> 32).truncate 32) ∧
        (coreOf t b).stalled = false) ∧
      (accessBad s b addr.toNat 4 false = false → busyFor s off = 3 → isFetch = true ∨ (portOf s (.core b)).statread = false →
        (coreOf t b).stalled = true)) ∧
  (∀ (b isFetch : Bool) (addr : Word) (s : State), coreRuns s b = false ∨
      ((coreOf s b).stepping = false ∧ (addr.toNat < 0x40000000 ∨ 0x40400000 ≤ addr.toNat)) → exec (.arrayFetch b addr isFetch) s = .next s)

/-- Every step keeps the array's words in their canonical form: in rising order, none of them reading erased. -/
def Obligations.StepKeepsArrayCanonical : Prop :=
  ∀ s t : State, Sparse.wf (fun _ => erasedWord) s.arr.mem = true → step s = .next t →
    Sparse.wf (fun _ => erasedWord) t.arr.mem = true

/-- COMMIT in SERVICE begins to erase and write the image's sector, and is dropped with REJECT elsewhere or beside an
outstanding host operation; REVERT loads the staged copy from the stored image (R38, R41, R306). The other images' staged
words stay. -/
def Obligations.OverlayImages : Prop :=
  (∀ s : State, let e : PostEntry := ⟨0xD8, pack [(ovlSel s, 3, 0), (1, 1, 8)], allBe⟩
    reaches e s = true → oldest e s = true → ∃ t, exec (.overlayCommit allBe) s = .next t ∧ t.arr.mem = s.arr.mem ∧
      t.conf.staged = s.conf.staged ∧ t.adm = s.adm ∧
      (s.top.state = .service → progOut s .host = false → eraseOut s .host = false → eraseSusp s .host = false →
        t.conf.commit = some (ovlSel s)) ∧
      (s.top.state ≠ .service ∨ progOut s .host = true ∨ eraseOut s .host = true ∨ eraseSusp s .host = true →
        t.top.reject = true ∧ t.top.lastRej = 0xD8 ∧ t.arr = s.arr ∧ t.conf.commit = s.conf.commit)) ∧
  (∀ s : State, let img := ovlSel s; let e : PostEntry := ⟨0xD8, pack [(img, 3, 0), (1, 1, 9)], allBe⟩
    reaches e s = true → oldest e s = true → img < 6 → ∃ t, exec (.overlayRevert allBe) s = .next t ∧ t.arr = s.arr ∧
      (∀ i, i < imgLen img → stagedWord t img i = (imgWord s img (imgChoose s img).2 i).getD 0) ∧ img ∉ t.conf.edited ∧
      (∀ k j, k ≠ img → j < 1024 → stagedWord t k j = stagedWord s k j) ∧ t.adm = s.adm)

/-! The Hive. -/

/-- Core stores and loads: a store waits in the buffer, in program order, or stalls while it is full, and reaches RAM byte for byte
when it is performed; a load takes a covering buffered store's bytes, else the RAM word (R312, R315, R316); an access that is
misaligned, outside the map or not the extension's is a bus fault (R312, R319, R327); the buffer drains unless a firmware-side
register is in it, whose store is refused by name (R312), and then a FENCE leaves it empty. The refusal is log entry 49's.
Where nothing happens outside a condition, that is the model's choice (log entry 1). -/
def Obligations.CoreStores : Prop :=
  (∀ (b : Bool) (addr data : Word) (size : Nat) (s : State), let a := addr.toNat
    coreRuns s b = true → (coreOf s b).asyncFault = false → accessBad s b a size true = false →
    a < 0x10000 ∨ (0x10000000 ≤ a ∧ a < 0x10080000) → ∃ t, exec (.coreStore b addr size data) s = .next t ∧
      ((coreOf s b).buf.length < 4 → (coreOf t b).buf = (coreOf s b).buf ++ [⟨addr, size, data⟩] ∧ (coreOf t b).stalled = false) ∧
      (4 ≤ (coreOf s b).buf.length → (coreOf t b).buf = (coreOf s b).buf ∧ (coreOf t b).stalled = true) ∧
      (coreOf t b).tcm = (coreOf s b).tcm ∧ coreOf t (!b) = coreOf s (!b) ∧ t = { s with hive := t.hive } ∧ t.hive.sram = s.hive.sram) ∧
  (∀ (b : Bool) (w : BufStore) (ws : List BufStore) (s : State), let a := w.addr.toNat
    powered s = true → (coreOf s b).buf = w :: ws → a < 0x10000 ∨ (0x10000000 ≤ a ∧ a < 0x10080000) → ramUe s b a = false →
    ∃ t, exec (.storePerformed b) s = .next t ∧ (coreOf t b).buf = ws ∧
      (∀ i, i < w.size → w.size ≤ 4 → a % 4 + w.size ≤ 4 → ramByte t b (a + i) = byteOf w.data i) ∧
      (∀ x, x < a ∨ a + w.size ≤ x → ramByte t b x = ramByte s b x) ∧ t.arr = s.arr ∧ t.conf = s.conf ∧ t.adm = s.adm) ∧
  (∀ (b : Bool) (s : State), (coreOf s b).buf = [] → exec (.storePerformed b) s = .next s) ∧
  (∀ (b : Bool) (addr : Word) (size : Nat) (s : State), let a := addr.toNat
    coreRuns s b = true → (coreOf s b).asyncFault = false → accessBad s b a size false = false →
    a < 0x10000 ∨ (0x10000000 ≤ a ∧ a < 0x10080000) → ramUe s b a = false → ∃ t, exec (.coreLoad b addr size) s = .next t ∧
      (youngest (coreOf s b).buf a size = none → (coreOf t b).lastLoad = ramWord s b a size ∧ (coreOf t b).stalled = false) ∧
      (∀ w, youngest (coreOf s b).buf a size = some w →
        if w.addr.toNat ≤ a ∧ a + size ≤ w.addr.toNat + w.size then
          (coreOf t b).lastLoad = forwarded w a size ∧ (coreOf t b).stalled = false
        else (coreOf t b).stalled = true ∧ (coreOf t b).lastLoad = (coreOf s b).lastLoad) ∧
      (∀ x, ramByte t b x = ramByte s b x) ∧ (coreOf t b).buf = (coreOf s b).buf ∧ t.arr = s.arr) ∧
  (∀ (b : Bool) (addr data : Word) (size : Nat) (s x : State), coreRuns s b = true → drainAll b (setStalled b false s) = some x →
    (b && extOn x) = false →
    (accessBad s b addr.toNat size true = true → ∃ t, exec (.coreStore b addr size data) s = .next t ∧ (coreOf t b).buf = [] ∧
      (coreOf t b).handler = true ∧ (srcOf t (coreSrc b)).lastKind = 1 ∧ (srcOf t (coreSrc b)).lastAddr = addr) ∧
    (accessBad s b addr.toNat size false = true → ∃ t, exec (.coreLoad b addr size) s = .next t ∧ (coreOf t b).buf = [] ∧
      (coreOf t b).handler = true ∧ (srcOf t (coreSrc b)).lastKind = 1 ∧ (srcOf t (coreSrc b)).lastAddr = addr)) ∧
  (∀ (b : Bool) (s : State), drainAll b s = none ↔ ∃ w, w ∈ (coreOf s b).buf ∧ fwReg w.addr.toNat = true) ∧
  (∀ (b : Bool) (s : State), coreRuns s b = true → (∀ w, w ∈ (coreOf s b).buf → fwReg w.addr.toNat = false) →
    ∃ t, exec (.coreFence b) s = .next t ∧ (coreOf t b).buf = [] ∧ t.arr.mem = s.arr.mem) ∧
  (∀ (b : Bool) (s : State), coreRuns s b = true → (∃ w, w ∈ (coreOf s b).buf ∧ fwReg w.addr.toNat = true) →
    exec (.coreFence b) s = .refused .firmwareRegister)

/-- The other commands of a core, after its buffer has drained (R315): an exception enters the handler with its message, or
stops the extension (R319, R328); the window's words take, post, clear and set (R95, R314); WDOG_KICK restarts the count,
whose end resets the core, which starts again with its TCM cleared (R320); the extension runs when called and is stopped at
its return bound (R327, R328). Where nothing happens outside a condition, that is the model's choice (log entry 1). -/
def Obligations.CoreEvents : Prop :=
  (∀ (b : Bool) (s x : State), coreRuns s b = true → drainAll b (takeAsync b s) = some x → let e := b && extOn x
    (∃ t, exec (.h2cTake b) s = .next t ∧ (x.hive.winUe.contains 0 = false → t.host.h2cFull = false ∧
      (coreOf t b).lastLoad = (if x.host.h2cFull then x.host.h2c else 0) ∧
      t.host.taken = (if x.host.h2cFull then some x.host.h2c else x.host.taken))) ∧
    (∀ data, ∃ t, exec (.c2hPost b data) s = .next t ∧ t.host.c2h = data ∧ t.host.c2hFull = true ∧ t.host.intStat.getLsbD 9 = true ∧
      t.arr = x.arr ∧ t.adm = x.adm) ∧
    (∀ data : Word, ∃ t, exec (.dbH2cClear b data) s = .next t ∧
      t.host.dbH2c = x.host.dbH2c &&& ~~~(if e then data &&& 0xFFFF0000 else data) ∧ t.arr = x.arr) ∧
    (∀ data : Word, ∃ t, exec (.dbC2hSet b data) s = .next t ∧
      t.host.dbC2h = x.host.dbC2h ||| ((if e then data &&& 0xFFFF0000 else data) &&& 0xFFFF0003) ∧ t.arr = x.arr) ∧
    (∃ t, exec (.wdogKick b 0xC0DE) s = .next t ∧ (coreOf t b).wdog = 0 ∧ t.arr = x.arr)) ∧
  (∀ (b : Bool) (cause : ExcCause) (addr : Word) (s x : State), coreRuns s b = true → drainAll b s = some x →
    ∃ t, exec (.syncException b cause addr) s = .next t ∧ t.arr = x.arr ∧
      ((b && extOn x) = false → (coreOf t b).handler = true ∧ (srcOf t (coreSrc b)).lastKind = 1 ∧
        (srcOf t (coreSrc b)).lastAddr = addr) ∧
      ((b && extOn x) = true → t.hive.extStopped = true ∧ t.hive.extSince = none ∧ (srcOf t 0x13).lastKind = 2)) ∧
  (∀ (b : Bool) (s : State), coreRuns s b = true → ∃ t, exec (.coreInterrupt b) s = .next t ∧ (coreOf t b).interrupt = true ∧
    t.arr = s.arr ∧ t.conf = s.conf) ∧
  (∀ (b : Bool) (s : State) (data : Word) (cause : ExcCause) (c : Instr), coreRuns s b = false → c ∈ [Instr.h2cTake b, .c2hPost b data,
      .dbH2cClear b data, .dbC2hSet b data, .wdogKick b data, .syncException b cause data, .coreInterrupt b] →
    exec c s = .next s) ∧
  (∀ (b : Bool) (s : State), powered s = false ∨ quiesced s = true ∨ (coreOf s b).inReset = true ∨ (coreOf s b).wdog < 65536 →
    exec (.watchdogExpiry b) s = .next s) ∧
  (∀ (b : Bool) (s : State), powered s = true → quiesced s = false → (coreOf s b).inReset = false → 65536 ≤ (coreOf s b).wdog → ∃ t, exec (.watchdogExpiry b) s = .next t ∧
    (coreOf t b).inReset = true ∧ (coreOf t b).clearing = true ∧ (coreOf t b).buf = [] ∧ (coreOf t b).tcm = [] ∧
    (s.host.takenB = b → t.host.taken = none) ∧ t.arr.mem = s.arr.mem ∧ t.conf = s.conf ∧ t.adm = s.adm) ∧
  (∀ (b : Bool) (s : State), powered s = true → (coreOf s b).clearing = true → 16 ≤ (coreOf s b).clearFrames →
    s.tally.halted = false → exec (.coreRestart b) s =
      .next (setCore b { coreOf s b with inReset := false, clearing := false, clearFrames := 0, wdog := 0 } s)) ∧
  (∀ (b : Bool) (s : State), (coreOf s b).clearing = false → exec (.coreRestart b) s = .next s) ∧
  (∀ (k : ActKind) (s : State), fwServes s = true → extReady s = true → coreRuns s true = true →
    (k = .mailbox → ∃ w, mboxMsg s = some w ∧ 0x80 ≤ mCmd w) → (k = .doorbell → fld s.host.dbH2c 16 16 ≠ 0) →
    exec (.extensionActivation k) s = .next { s with hive := { s.hive with extSince := some 0 } }) ∧
  (∀ (k : ActKind) (s : State), extReady s = false → exec (.extensionActivation k) s = .next s) ∧
  (∀ (n : Nat) (s : State), s.hive.extSince = some n → powered s = true → 4096 ≤ n → ∃ t, exec .extensionSliceExpiry s = .next t ∧
    t.hive.extStopped = true ∧ t.hive.extSince = none ∧ t.host.dbC2h = s.host.dbC2h ||| 2 ∧ (srcOf t 0x13).lastKind = 2 ∧
    onlyReports s { t with hive := s.hive }) ∧
  (∀ s : State, s.hive.extSince = none → exec .extensionSliceExpiry s = .next s)

/-! Tally and the event log. -/

/-- A Tally message opens its source's window or counts in it, never beyond 255, reads SEVERE at the threshold, sets the
sticky bit and latches kind, address and stamp; no other source changes but the log's own (R331 to R337). While TALLY is
unpowered an AON source's message is latched (R343). The window's, the pulse's and DEGRADED's ends (R331, R338, R339). Where
nothing happens outside a condition, that is the model's choice (log entry 1). -/
def Obligations.TallyMessages : Prop :=
  (∀ (src kind : Nat) (addr : Word) (s : State), powered s = true → 1 ≤ kind → kind ≤ kindsOf src →
    let o := srcOf s src; let thresh := fld (cw s 3 src 0) 16 8
    let c := satInc 255 (if o.open_ = false ∨ o.left = 0 then 0 else o.count)
    ∃ t, exec (.tallyMessage src kind addr) s = .next t ∧ (srcOf t src).sticky = true ∧ (srcOf t src).lastKind = kind ∧
      (src ≠ 0x48 → (srcOf t src).open_ = true ∧ (srcOf t src).count = (if forced src kind then max c thresh else c) ∧
        (srcOf t src).severe = decide (thresh ≤ (srcOf t src).count) ∧ (srcOf t src).total = satInc 65535 o.total ∧
        (srcOf t src).lastAddr = addr ∧ (srcOf t src).lastStamp = s.fr.epoch.truncate 24) ∧
      (∀ n, n ≠ src → n ≠ 0x48 → srcOf t n = srcOf s n) ∧ onlyReports s t) ∧
  (∀ (src kind : Nat) (addr : Word) (s : State), powered s = false → s.top.state ≠ .off → 1 ≤ kind → kind ≤ kindsOf src →
    aonSource src = true → ∃ t, exec (.tallyMessage src kind addr) s = .next t ∧ (srcOf t src).sticky = true ∧
      Sparse.get (fun _ => (0, 0)) t.tally.aonLatch src = (kind, addr) ∧ t = { s with tally := t.tally }) ∧
  (∀ (src kind : Nat) (addr : Word) (s : State), kind = 0 ∨ kindsOf src < kind → exec (.tallyMessage src kind addr) s = .next s) ∧
  (∀ (src : Nat) (s : State), powered s = true → (srcOf s src).open_ = true → (srcOf s src).left = 0 →
    ∃ t, exec (.tallyWindowEnd src) s = .next t ∧ srcOf t src = { srcOf s src with open_ := false, count := 0, severe := false, escalated := false } ∧
      (∀ n, n ≠ src → srcOf t n = srcOf s n) ∧ t = { s with tally := { s.tally with src := t.tally.src } }) ∧
  (∀ (src : Nat) (s : State), (srcOf s src).open_ = false ∨ 0 < (srcOf s src).left → exec (.tallyWindowEnd src) s = .next s) ∧
  (∀ s : State, exec .faultNPulseEnd s = .next (if s.tally.pulseLeft = some 0 then { s with tally := { s.tally with pulseLeft := none } } else s)) ∧
  (∀ s : State, powered s = true → s.tally.degraded = true → s.tally.halted = false → 2 ^ crf s 0xAC 16 5 ≤ s.tally.quiet →
    ∃ t, exec .degradedExit s = .next t ∧ t.tally.degraded = false ∧ t.tally.exits = satInc 0xFFFF s.tally.exits ∧ onlyReports s t) ∧
  (∀ s : State, s.tally.degraded = false ∨ s.tally.halted = true ∨ s.tally.quiet < 2 ^ crf s 0xAC 16 5 → exec .degradedExit s = .next s)

/-- FAULT_INJECT arms with class S and is dropped without it, while CANCEL alone needs none (R342, R369); the DROP record
carries the count of what was dropped, which starts again (R345); the SNAP records carry the snapshot, register by register,
under its stamp (R348). Where nothing happens outside a condition, that is the model's choice (log entry 1). -/
def Obligations.InjectionAndRecords : Prop :=
  (∀ (data : Word) (s : State), let e : PostEntry := ⟨0xA8, data, allBe⟩
    reaches e s = true → oldest e s = true → data.getLsbD 16 = false → s.tally.injLeft = 0 → 1 ≤ fld data 0 4 → fld data 0 4 ≤ 9 →
    fld data 8 8 ≠ 0 → ∃ t, exec (.faultInjectArm data allBe) s = .next t ∧
      (grantsS s = true → t.tally.injChk = fld data 0 4 ∧ t.tally.injLeft = fld data 8 8 ∧ t.tally.injDbl = data.getLsbD 4 ∧
        onlyReports s { t with conf := s.conf }) ∧
      (grantsS s = false → t.tally.injLeft = 0 ∧ t.top.reject = true ∧ t.top.lastRej = 0xA8 ∧ onlyReports s t)) ∧
  (∀ (be : ByteEn) (s : State), let e : PostEntry := ⟨0xA8, 0x00010000, be⟩
    reaches e s = true → oldest e s = true → be.getLsbD 2 = true → exec (.faultInjectCancel be) s =
      .next { popped s with tally := { s.tally with injLeft := 0, injChk := 0, injDbl := false } }) ∧
  (∀ s : State, logOpen s = true → 0 < s.tally.drops → s.tally.queue.length < 32 → logBlocked s = false →
    ∃ t, exec .dropRecordWrite s = .next t ∧ t.tally.drops = 0 ∧ t.tally.dropSent = false ∧
      (∃ r, t.tally.queue = s.tally.queue ++ [r] ∧ r.type = 14 ∧ r.arg1 = BitVec.ofNat 32 s.tally.drops ∧ r.epoch = s.fr.epoch) ∧
      t = { s with tally := t.tally }) ∧
  (∀ s : State, s.tally.drops = 0 ∨ logBlocked s = true → exec .dropRecordWrite s = .next s) ∧
  (∀ s : State, logOpen s = true → s.top.state ≠ .harvest → s.tally.snap ≠ [] → ∃ t, exec .snapRecordWrite s = .next t ∧
    t.tally.snap = [] ∧ t = { s with tally := t.tally } ∧
    (s.tally.queue.length + s.tally.snap.length ≤ 32 →
      (t.tally.queue.drop s.tally.queue.length).map (fun r => (r.type, r.x, r.arg1, r.epoch)) =
        s.tally.snap.map (fun p => (6, BitVec.ofNat 8 p.1, p.2, s.tally.snapEpoch)))) ∧
  (∀ s : State, s.tally.snap = [] → exec .snapRecordWrite s = .next s)

/-! Security. -/

/-- A lifecycle command that no rule refuses runs, any other leaves RESULT with its code, and one that finds the block busy is
dropped with REJECT (R41, R350); its end leaves the new lifecycle state, the keys' sectors erased where it says so, WAKE to
come, and LC_CHANGE, or on failure RESULT 6. That WAKE follows a failure too is the model's reading (log entry 38). Where
nothing happens outside a condition, that is the model's choice (log entry 1). -/
def Obligations.LifecycleCommands : Prop :=
  (∀ (c : Instr) (cmd : Nat) (key : BitVec 16) (s : State), (c, cmd) ∈ [(Instr.lifecycleProvision key allBe, 1),
      (.lifecycleDeploy key allBe, 2), (.lifecycleRma key allBe, 3), (.lifecycleScrap key allBe, 4)] →
    let e : PostEntry := ⟨0x0C, pack [(cmd, 4, 8), (key.toNat, 16, 16)], allBe⟩
    reaches e s = true → oldest e s = true → ∃ t, exec c s = .next t ∧ onlyReports s { t with sec := s.sec } ∧
      (s.sec.lcBusy = none → lifeRefuse s cmd key.toNat = 0 → t.sec = { s.sec with lcBusy := some cmd } ∧ t.tally = s.tally) ∧
      (s.sec.lcBusy = none → lifeRefuse s cmd key.toNat ≠ 0 → t.sec = { s.sec with lcResult := lifeRefuse s cmd key.toNat }) ∧
      (s.sec.lcBusy.isSome = true → t.sec = s.sec ∧ t.top.reject = true ∧ t.top.lastRej = 0x0C)) ∧
  (∀ (ok : Bool) (cmd : Nat) (s : State), s.sec.lcBusy = some cmd → 1 ≤ cmd → cmd ≤ 4 → ∃ t, exec (.lifecycleCmdDone ok) s = .next t ∧
    t.sec.lcBusy = none ∧ t.sec.lcResult = (if ok then 1 else 6) ∧ t.top.trig.softWake = true ∧ t.conf = s.conf ∧
    t.sec.life = (if ok then (if cmd = 1 then .provisioned else if cmd = 2 then .deployed else if cmd = 3 then .rma else .scrapped)
      else s.sec.life) ∧
    (ok = true → cmd = 3 → t.sec.slots = [] ∧ ∀ w, secOf (8 * w) % 128 ∈ [100, 101, 102, 103] → secOf (8 * w) < 256 →
      arrWord t w = erasedWord) ∧
    (ok = true → cmd = 4 → t.sec.slots = [] ∧ t.nand.catalog.all (fun e => e.ended != 0) = true) ∧
    (ok = true → powered s = true → (srcOf t 0x24).lastKind = 3) ∧ (ok = false → t.arr = s.arr)) ∧
  (∀ (ok : Bool) (s : State), s.sec.lcBusy = none → exec (.lifecycleCmdDone ok) s = .next s)

/-- KEY_CTRL operations: one that R355 refuses sets ERR with its code, a busy block drops it with REJECT (R41), LOAD stages a
halfword, IMPORT takes a staged key whose halves differ, RAISE goes only upward (R357); the operation's end changes only its
own slot or count, and of the array only the keys' sectors (R354). The order of codes is log entry 38's. Where nothing happens outside a condition, that is the model's choice
(log entry 1). -/
def Obligations.KeyOperations : Prop :=
  (∀ (c : Instr) (op slot idx : Nat) (d : BitVec 16) (s : State),
    (c, op, slot, idx, d) ∈ [(Instr.keyGen slot, 1, slot, 0, 0), (.keyLoad idx d, 2, s.sec.keySlot, idx, d), (.keyImport slot, 3, slot, 0, 0),
      (.keyZero slot, 4, slot, 0, 0), (.keyRaiseFw, 5, s.sec.keySlot, 0, 0), (.keyRaiseExt, 6, s.sec.keySlot, 0, 0)] ∨
      (7 ≤ op ∧ op ≤ 15 ∧ c = .keyReservedOp op ∧ slot = s.sec.keySlot ∧ idx = 0 ∧ d = 0) →
    slot < 64 → idx < 32 → let e : PostEntry := ⟨0xD0, pack [(op, 4, 0), (slot, 6, 4), (idx, 5, 10), (d.toNat, 16, 16)], allBe⟩
    reaches e s = true → oldest e s = true → ∃ t, exec c s = .next t ∧ onlyReports s { t with sec := s.sec } ∧
      (s.sec.keyBusy.isSome = true → t.sec = s.sec ∧ t.top.reject = true ∧ t.top.lastRej = 0xD0) ∧
      (s.sec.keyBusy = none → t.sec.keySlot = slot ∧ t.sec.slots = s.sec.slots ∧ t.sec.level = s.sec.level ∧
        (keyRefuse s op ≠ 0 → t.sec.keyErr = true ∧ t.sec.keyCode = keyRefuse s op ∧ t.sec.keyBusy = none) ∧
        (7 ≤ op → t.sec.keyCode = 1) ∧
        (keyRefuse s op = 0 → op = 1 ∨ op = 4 → t.sec.keyBusy = some (op, slot)) ∧
        (keyRefuse s op = 0 → op = 2 → t.sec.keyBusy = none ∧ (idx, d) ∈ t.sec.staging) ∧
        (keyRefuse s op = 0 → op = 3 → if s.sec.staging.length = 32 ∧ (stagedKey s).take 16 ≠ (stagedKey s).drop 16 then
          t.sec.keyBusy = some (3, slot) ∧ t.sec.keyIn = stagedKey s else t.sec.keyErr = true ∧ t.sec.keyCode = 5) ∧
        (keyRefuse s op = 0 → op = 5 → if raiseVal s true ≤ s.sec.fwMin then t.sec.keyCode = 7 else t.sec.keyBusy = some (5, slot)) ∧
        (keyRefuse s op = 0 → op = 6 → if raiseVal s false ≤ s.sec.extMin then t.sec.keyCode = 7 else t.sec.keyBusy = some (6, slot)))) ∧
  (∀ (ok : Bool) (op slot : Nat) (s : State), s.sec.keyBusy = some (op, slot) → 1 ≤ op → op ≤ 6 → op ≠ 2 →
    let get := fun (t : State) (k : Nat) => Sparse.get (fun _ => Slot.empty) t.sec.slots k
    ∃ t, exec (.keyOpDone ok) s = .next t ∧ t.sec.keyBusy = none ∧ t = { s with sec := t.sec, arr := t.arr, free := t.free } ∧
      (ok = false ∨ 5 ≤ op → t.arr = s.arr) ∧
      (s.sec.slots.length ≤ 64 → ∀ w, secOf (8 * w) % 128 ∉ [100, 101, 102, 103] → arrWord t w = arrWord s w) ∧
      (∀ k, k ≠ slot → get t k = get s k) ∧ t.sec.level = s.sec.level ∧ t.sec.life = s.sec.life ∧
      (ok = false → t.sec.keyErr = true ∧ t.sec.keyCode = 6 ∧ get t slot = get s slot ∧ t.sec.fwMin = s.sec.fwMin ∧ t.sec.extMin = s.sec.extMin) ∧
      (ok = true → (op = 1 → ∃ n, get t slot = .generated n) ∧ (op = 3 → get t slot = .imported s.sec.keyIn ∧ t.sec.staging = []) ∧
        (op = 4 → get t slot = .empty) ∧ (op = 5 → t.sec.fwMin = max s.sec.fwMin (raiseVal s true)) ∧
        (op = 6 → t.sec.extMin = max s.sec.extMin (raiseVal s false)))) ∧
  (∀ (ok : Bool) (s : State), s.sec.keyBusy = none → exec (.keyOpDone ok) s = .next s)

/-! JTAG, Orfort and Weave. -/

/-- The TAP (R368, R369): public instructions always, driving ones with class E, private ones with their class and channel;
where its cell does not permit it an instruction selects BYPASS. Before WAKE frame g+1, and with no power, the TAP does
nothing. The rule for a programmed OTP row is log entry 41's. Where nothing happens outside a condition, that is the model's
choice (log entry 1). -/
def Obligations.JtagInstructions : Prop :=
  let sel := fun (code : BitVec 8) (drive : Nat) (tdo : List Word) (s : State) =>
    ({ s with jtag := { s.jtag with ir := code, driving := drive, tdo := tdo } } : State)
  (∀ (s : State) (c : Instr) (bits : List Bool) (data : Word) (row n : Nat) (ob : ObsOp) (op : SvcOp) (d : DbgOp) (ws : List Word), tapUp s = false →
    c ∈ [Instr.jtagBypass, .jtagIdcode, .jtagSamplePreload bits, .jtagExtest, .jtagClamp, .jtagHighz, .jtagUnlock data, .jtagObserve ob,
      .jtagService op, .jtagHivedbg d, .jtagScan, .jtagOtpProg row ws, .jtagReserved n] → exec c s = .next s) ∧
  (∀ s : State, tapUp s = true → exec .jtagBypass s = .next (sel 0xFF 0 [] s) ∧ exec .jtagIdcode s = .next (sel 0x01 0 [0x264001A3] s) ∧
    (∀ bits, ∃ t, exec (.jtagSamplePreload bits) s = .next t ∧ t.jtag.boundary = bits ∧ t.jtag.ir = 0x02 ∧ t.jtag.driving = 0 ∧
      t = { s with jtag := t.jtag }) ∧
    exec .jtagExtest s = .next (if grantsE s then sel 0x03 1 [] s else sel 0xFF 0 [] s) ∧
    exec .jtagClamp s = .next (if grantsE s then sel 0x04 2 [] s else sel 0xFF 0 [] s) ∧
    exec .jtagHighz s = .next (if grantsE s then sel 0x05 3 [] s else sel 0xFF 0 [] s) ∧
    exec .jtagScan s = .next (if privGrants grantsX s then sel 0x31 0 [] s else sel 0xFF 0 [] s) ∧
    (∀ n, n < 256 → n ∉ [0xFF, 0x01, 0x02, 0x03, 0x04, 0x05, 0x10, 0x20, 0x21, 0x30, 0x31, 0x40] →
      exec (.jtagReserved n) s = .next (sel 0xFF 0 [] s)) ∧
    (∀ off, off % 4 = 0 → off < 256 → exec (.jtagObserve (.reg off)) s = .next (if privGrants grantsO s then
      { sel 0x20 0 [regPeek s off] s with free := s.free + 1 } else sel 0xFF 0 [] s)) ∧
    (∀ tid idx, tblCode s tid idx = 0 → tid ∉ [12, 13] → (∀ w, storeKey s tid idx w ∉ s.conf.tblUe ∧ storeKey s tid idx w ∉ s.conf.tblCe) →
      exec (.jtagObserve (.entry tid idx)) s = .next (if privGrants grantsO s then
        sel 0x20 0 (tblEntry s ((s.fr.epoch >>> 32).truncate 16) tid idx) s else sel 0xFF 0 [] s)) ∧
    (∀ lvl, 1 ≤ lvl → lvl ≤ 3 → s.sec.chal = none → ∃ t, exec (.jtagUnlock (BitVec.ofNat 32 (0x554C0000 + lvl))) s = .next t ∧
      (privGrants grantsP s = true → t.sec.reqLevel = lvl ∧ t.sec.channel = 2 ∧ t.sec.level = s.sec.level ∧
        (refuseUnlock s 2 lvl = 0 → t.sec.chal = some (Config.challenge s.free) ∧ t.jtag.tdo = [Config.challenge s.free]) ∧
        (refuseUnlock s 2 lvl ≠ 0 → t.sec.chal = none ∧ t.sec.result = refuseUnlock s 2 lvl ∧ t.jtag.tdo = [0])) ∧
      (privGrants grantsP s = false → t = sel 0xFF 0 [] s)) ∧
    (∀ (ch : Nat) (start ramp : Int), ovArgOk ch start ramp = true → exec (.jtagService (.override ch start ramp)) s =
      .next (if privGrants grantsS s then ovPut ch start ramp (sel 0x21 0 [] s) else sel 0xFF 0 [] s)) ∧
    (∀ val : Word, s.host.hrst = false → s.top.window = false → exec (.jtagService (.reg 0x94 val)) s =
      .next (if privGrants grantsS s then { sel 0x21 0 [] s with arr := { s.arr with port := { s.arr.port with addr := val } } }
        else sel 0xFF 0 [] s)) ∧
    (∀ (b : Bool) (a : Word), ramAddr a = true → ramUe s b a.toNat = false → ramCe s b a.toNat = false →
      exec (.jtagHivedbg (.readMem b a)) s =
        .next (if privGrants grantsX s then sel 0x30 0 [ramWord s b a.toNat 4] s else sel 0xFF 0 [] s)) ∧
    (∀ b, exec (.jtagHivedbg (.halt b)) s = .next (if privGrants grantsX s then
        setCore b { coreOf s b with halted := true } (sel 0x30 0 [] s) else sel 0xFF 0 [] s) ∧
      exec (.jtagHivedbg (.resume b)) s = .next (if privGrants grantsX s then
        setCore b { coreOf s b with halted := false, stepping := false } (sel 0x30 0 [] s) else sel 0xFF 0 [] s) ∧
      exec (.jtagHivedbg (.stepInsn b)) s = .next (if privGrants grantsX s then
        setCore b { coreOf s b with stepping := (coreOf s b).halted } (sel 0x30 0 [] s) else sel 0xFF 0 [] s)) ∧
    (∀ val, ∃ t, exec (.jtagOtpProg 0 val) s = .next t ∧ (privGrants grantsX s = true → s.sec.life = .blank →
        t.sec = { s.sec with ukOwner := if s.sec.ukOwner = [] then val else s.sec.ukOwner } ∧ t.jtag.ir = 0x40) ∧
      (privGrants grantsX s = false ∨ s.sec.life ≠ .blank → t = sel 0xFF 0 [] s) ∧ t = { s with sec := t.sec, jtag := t.jtag }))

/-- Orfort's line: at the right rate characters join the line and are echoed, CR ends it, and its words decide whether a
command waits (R372 to R374); BREAK returns to autobaud at the rate of reset; a CR measures the rate. Where nothing happens
outside a condition, that is the model's choice (log entry 1). -/
def Obligations.OrfortLine : Prop :=
  (∀ (c : BitVec 8) (timing : Nat) (s : State), orfUp s = true → s.orf.autobaud = false → s.orf.ready = false →
    ∃ t, exec (.orfortCharRx c timing) s = .next t ∧ t = { s with orf := t.orf } ∧ t.orf.div = s.orf.div ∧ t.orf.echo = [c] ∧
      (c ∉ [0x0D, 0x0A, 0x03, 0x08, 0x7F] → s.orf.line.length < 120 → t.orf.line = s.orf.line ++ [c]) ∧
      (c ∉ [0x0D, 0x0A, 0x03, 0x08, 0x7F] → 120 ≤ s.orf.line.length → t.orf.line = s.orf.line ∧ t.orf.tooLong = true) ∧
      (c = 0x08 ∨ c = 0x7F → t.orf.line = s.orf.line.dropLast) ∧
      (c = 0x0D → s.orf.tooLong = true → t.orf.status = 1 ∧ t.orf.ready = false ∧ t.orf.line = []) ∧
      (c = 0x0D → s.orf.tooLong = false → (tokens (s.orf.line.map (·.toNat))) ≠ [] → (∃ x, x ∈ s.orf.line ∧ x ≠ 0x20) →
        if lineCheck (s.orf.line.map (·.toNat)) = 0 then t.orf.ready = true ∧ t.orf.line = s.orf.line
        else t.orf.ready = false ∧ t.orf.line = [] ∧ t.orf.status = lineCheck (s.orf.line.map (·.toNat)))) ∧
  (∀ (timing : Nat) (s : State), orfUp s = true → s.orf.autobaud = true → 33 ≤ (timing + 5) / 10 → (timing + 5) / 10 ≤ 10417 →
    ∃ t, exec (.orfortCharRx 0x0D timing) s = .next t ∧ t.orf.div = (timing + 5) / 10 ∧ t.orf.autobaud = false ∧ t.orf.line = [] ∧
      t = { s with orf := t.orf }) ∧
  (∀ (c : BitVec 8) (timing : Nat) (s : State), orfUp s = true → s.orf.autobaud = true → c ≠ 0x0D → exec (.orfortCharRx c timing) s = .next s) ∧
  (∀ s : State, orfUp s = true → exec .orfortBreak s = .next { s with orf := { s.orf with div := 868, autobaud := true } }) ∧
  (∀ (c : BitVec 8) (timing : Nat) (s : State), orfUp s = false → exec (.orfortCharRx c timing) s = .next s ∧ exec .orfortBreak s = .next s)

/-- Orfort's commands, once a line that spells them with their arguments has ended (R374), are answered: without their class with E04, in HARVEST `ov` with E05, else
with their effect (R375 to R380). Reads leave everything but the answer; what a command writes it writes as a host write would
(R377). The printed words, and E05 before E04, are the model's reading (log entry 40). Where nothing happens outside a
condition, that is the model's choice (log entry 1). -/
def Obligations.OrfortCommands : Prop :=
  let ends := fun (code : Nat) (out : List Word) (t : State) => t.orf.ready = false ∧ t.orf.line = [] ∧ t.orf.status = code ∧ t.orf.out = out
  (∀ s : State, calls s [0x68, 0x65] List.isEmpty = true → grantsP s = true → ∃ t, exec .orfortHe s = .next t ∧ ends 0 (grantedNow s) t ∧ t = { s with orf := t.orf }) ∧
  (∀ s : State, calls s [0x73, 0x74] List.isEmpty = true → grantsP s = true → ∃ t, exec .orfortSt s = .next t ∧ t.orf.status = 0 ∧ t.orf.ready = false ∧
    t.orf.out.take 5 = [regPeek s 0x00, regPeek s 0x04, regPeek s 0x10, BitVec.ofNat 32 s.sec.life.code, BitVec.ofNat 32 s.sec.level] ∧
    t = { s with orf := t.orf }) ∧
  (∀ (off n : Nat) (s : State), calls s [0x72, 0x64] (argsRd off n) = true → grantsO s = true → off % 4 = 0 → 1 ≤ n → n ≤ 64 → off + 4 * n ≤ 0x100 →
    ∃ t, exec (.orfortRd off n) s = .next t ∧ ends 0 ((List.range n).map fun i => regPeek s (off + 4 * i)) t ∧
      t = { s with orf := t.orf, free := t.free }) ∧
  (∀ (val : Word) (s : State), calls s [0x77, 0x72] (numsAre [0x94, val.toNat]) = true → grantsS s = true → s.host.hrst = false → s.top.window = false →
    ∃ t, exec (.orfortWr 0x94 val) s = .next t ∧ ends 0 [val] t ∧
      t = { s with arr := { s.arr with port := { s.arr.port with addr := val } }, orf := t.orf, free := t.free }) ∧
  (∀ (tid idx : Nat) (s : State), calls s [0x74, 0x62] (numsAre [tid, idx]) = true → grantsO s = true → tblCode s tid idx = 0 → tid ∉ [9, 12, 13] →
    (∀ w, storeKey s tid idx w ∉ s.conf.tblUe ∧ storeKey s tid idx w ∉ s.conf.tblCe) →
    ∃ t, exec (.orfortTb tid idx) s = .next t ∧ ends 0 (tblEntry s s.fr.orfHi tid idx) t ∧ t = { s with orf := t.orf }) ∧
  (∀ (val : Word) (s : State), calls s [0x74, 0x6C] (numsAre [10, 16, val.toNat]) = true → grantsS s = true → s.host.hrst = false →
    s.top.window = false → ddrBusy s = false → (s.dram.readyWas = true → ready s = true) →
    ∃ t, exec (.orfortTl 10 16 [val]) s = .next t ∧ ends 0 [] t ∧ fld (cw t 10 16 0) 0 21 = fld val 0 21 ∧ t.top = s.top ∧
      (∀ k, k ≠ ckey 10 16 0 → Sparse.get resetWord t.conf.cur k = Sparse.get resetWord s.conf.cur k) ∧ t.arr = s.arr ∧ t.adm = s.adm) ∧
  (∀ (off : Nat) (s : State), calls s [0x61, 0x72] (argsRd off 1) = true → grantsO s = true → off % 8 = 0 → off < 0x400000 →
    regionForbids s .host 5 off = false → s.arr.retired.contains (secOf off) = false → off / 8 ∉ s.arr.ueMarks →
    let words := [(arrWord s (off / 8) >>> 32).truncate 32, (arrWord s (off / 8)).truncate 32]
    (busyFor s off = 0 → ∃ t, exec (.orfortAr off 1) s = .next t ∧ ends 0 words t ∧ t.arr.mem = s.arr.mem ∧ t.arr.run = s.arr.run) ∧
    (∀ o, busyFor s off = 1 → s.arr.autoMin = 0 → s.arr.run = some o → s.arr.queue = [] → ∃ t, exec (.orfortAr off 1) s = .next t ∧
      ends 0 words t ∧ t.arr.mem = s.arr.mem ∧ t.arr.run = none ∧ t.arr.susp = some ⟨o, 1, 0, 0⟩) ∧
    (busyFor s off = 3 ∨ (busyFor s off = 1 ∧ s.arr.autoMin ≠ 0) → exec (.orfortAr off 1) s = .next s)) ∧
  (∀ s : State, calls s [0x63, 0x62] (argsCb none) = true → grantsO s = true → ∃ t, exec (.orfortCb none) s = .next t ∧ t.orf.status = 0 ∧ t.orf.ready = false ∧
    t.orf.out.length = 5 * s.nand.catalog.length ∧ t = { s with orf := t.orf }) ∧
  (∀ (q : Nat) (ws : List Word) (s : State), calls s [0x6C, 0x67] (argsLg (some q) 1) = true → grantsO s = true → q < 16384 → (logFetch q s).1 = some ws →
    ∃ t, exec (.orfortLg (some q) 1) s = .next t ∧ ends 0 ws t ∧ t.arr = s.arr ∧ t.tally.held = s.tally.held) ∧
  (∀ (lvl : Nat) (s : State), calls s [0x75, 0x6C] (fun a => lvl != 0 && numsAre [lvl] a) = true → grantsP s = true → 1 ≤ lvl → lvl ≤ 3 → s.sec.chal = none →
    ∃ t, exec (.orfortUlRequest lvl) s = .next t ∧ t.sec.reqLevel = lvl ∧ t.sec.channel = 1 ∧ t.sec.level = s.sec.level ∧
      (refuseUnlock s 1 lvl = 0 → t.sec.chal = some (Config.challenge s.free) ∧ ends 0 [Config.challenge s.free] t) ∧
      (refuseUnlock s 1 lvl ≠ 0 → t.sec.chal = none ∧ ends 8 [BitVec.ofNat 32 (refuseUnlock s 1 lvl)] t)) ∧
  (∀ (data chal : Word) (s : State), calls s [0x75, 0x6C] (argsUl data) = true → grantsP s = true → s.sec.chal = some chal → s.sec.channel = 1 →
    ∃ t, exec (.orfortUlResponse data) s = .next t ∧ t.sec.chal = none ∧
      (data = unlockResp s chal s.sec.reqLevel → t.sec.level = s.sec.reqLevel ∧ t.orf.status = 0) ∧
      (data ≠ unlockResp s chal s.sec.reqLevel → t.sec.level = s.sec.level ∧ t.orf.status = 9)) ∧
  (∀ s : State, calls s [0x75, 0x6C] (numsAre [0]) = true → grantsP s = true → ∃ t, exec .orfortUlRelock s = .next t ∧ t.sec.level = 0 ∧ t.sec.chal = none ∧
    ends 0 [] t ∧ onlyReports s { t with sec := s.sec, orf := s.orf }) ∧
  (∀ (ch : Nat) (start ramp : Int) (s : State), s.top.state ≠ .harvest → grantsS s = true →
    (calls s [0x6F, 0x76] (argsOv ch start ramp) = true → ovArgOk ch start ramp = true → ∃ t, exec (.orfortOvSet ch start ramp) s = .next t ∧
      ends 0 [] t ∧ (ch, (ovStart ch start, ramp)) ∈ t.scout.ovr ∧ (∀ p, p.1 ≠ ch → (p ∈ t.scout.ovr ↔ p ∈ s.scout.ovr)) ∧
      t = { s with orf := t.orf, scout := { s.scout with ovr := t.scout.ovr } }) ∧
    (calls s [0x6F, 0x76] (argsOvOff ch) = true → ovChannel ch = true → ∃ t, exec (.orfortOvClear ch) s = .next t ∧ ends 0 [] t ∧
      (∀ p, p ∈ t.scout.ovr ↔ p ∈ s.scout.ovr ∧ p.1 ≠ ch) ∧ t = { s with orf := t.orf, scout := { s.scout with ovr := t.scout.ovr } }) ∧
    (calls s [0x6F, 0x76] (· == [wOff]) = true → ∃ t, exec .orfortOvOff s = .next t ∧ ends 0 [] t ∧
      t = { s with orf := t.orf, scout := { s.scout with ovr := [] } })) ∧
  (∀ (ch : Nat) (start ramp : Int) (s : State) (c : Instr) (p : List (List Nat) → Bool), calls s [0x6F, 0x76] p = true → s.top.state = .harvest →
    (c, p) ∈ [(Instr.orfortOvSet ch start ramp, argsOv ch start ramp), (.orfortOvClear ch, argsOvOff ch), (.orfortOvOff, (· == [wOff]))] →
    ∃ t, exec c s = .next t ∧ ends 5 [] t ∧ t = { s with orf := t.orf }) ∧
  (∀ s : State, calls s [0x6F, 0x76] List.isEmpty = true → grantsO s = true → ∃ t, exec .orfortOvList s = .next t ∧ t.orf.status = 0 ∧ t.orf.ready = false ∧
    t.orf.out.length = 3 * s.scout.ovr.length ∧ t = { s with orf := t.orf }) ∧
  (∀ s : State, grantsX s = true →
    (calls s [0x74, 0x78] (· == [wDisarm]) = true →
      (s.nand.armed = true → ∃ t, exec .orfortTxDisarm s = .next t ∧ t.orf.status = 0 ∧ t.nand.armed = false ∧ t.nand.prepHeld = true ∧ t.arr.mem = s.arr.mem) ∧
      (s.nand.armed = false → ∃ t, exec .orfortTxDisarm s = .next t ∧ ends 6 [] t ∧ t = { s with orf := t.orf })) ∧
    (∀ lane frame, lane < 8 → calls s [0x74, 0x78] (argsLaneout lane frame) = true → ∃ t, exec (.orfortTxLaneout lane frame) s = .next t ∧
      t.orf.ready = false ∧ (t.orf.status = 7 ∧ t.nand = s.nand ∨ t.orf.status = 0 ∧ t.nand.laneOut = s.nand.laneOut ++ [(lane, frame)])) ∧
    (∀ bankB ovl, calls s [0x74, 0x78] (· == [wSpoil, wBank bankB, wImage ovl]) = true → s.arr.run = none → s.arr.queue = [] → s.arr.susp = none →
      ∃ t o, exec (.orfortTxSpoil bankB ovl) s = .next t ∧ t.arr.run = some o ∧ o.erase = true ∧
        secOf o.off = (if bankB then 128 else 0) + (if ovl then 97 else 96) ∧ t.arr.mem = s.arr.mem)) ∧
  (∀ (s : State) (c : Instr) (name : List Nat) (p : List (List Nat) → Bool) (off n tid : Nat) (val : Word) (ws : List Word) (b o : Bool)
    (q : Option Nat) (st ra : Int),
    (c, name, p) ∈ [(Instr.orfortHe, [0x68, 0x65], List.isEmpty), (.orfortSt, [0x73, 0x74], List.isEmpty),
      (.orfortRd off n, [0x72, 0x64], argsRd off n), (.orfortWr off val, [0x77, 0x72], numsAre [off, val.toNat]),
      (.orfortTb tid n, [0x74, 0x62], numsAre [tid, n]),
      (.orfortTl tid n ws, [0x74, 0x6C], numsAre ([Int.ofNat tid, Int.ofNat n] ++ ws.map fun w => Int.ofNat w.toNat)),
      (.orfortAr off n, [0x61, 0x72], argsRd off n), (.orfortCb q, [0x63, 0x62], argsCb q), (.orfortLg q n, [0x6C, 0x67], argsLg q n),
      (.orfortUlRequest n, [0x75, 0x6C], fun a => n != 0 && numsAre [n] a), (.orfortUlResponse val, [0x75, 0x6C], argsUl val),
      (.orfortUlRelock, [0x75, 0x6C], numsAre [0]), (.orfortOvSet n st ra, [0x6F, 0x76], argsOv n st ra),
      (.orfortOvClear n, [0x6F, 0x76], argsOvOff n), (.orfortOvOff, [0x6F, 0x76], (· == [wOff])), (.orfortOvList, [0x6F, 0x76], List.isEmpty),
      (.orfortTxDisarm, [0x74, 0x78], (· == [wDisarm])), (.orfortTxLaneout off n, [0x74, 0x78], argsLaneout off n),
      (.orfortTxSpoil b o, [0x74, 0x78], (· == [wSpoil, wBank b, wImage o]))] → calls s name p = false → exec c s = .next s)

/-- Weave as a member: a TICK gives the ring's master, offset and delays and goes on with its delay, the member's status in its
slot, a status its peer; a master whose own TICK returns notes it, and steps down on a lower one; a packet whose CRC fails only
its message (R382 to R386); the timed disruptions take effect when their count has come: loss of sync and lock, the election,
FROZEN, a peer's silence and a line that stays low (R385, R386, R388, R394). The election's row and the order of IDs are the
model's reading (log entries 16 and 39). Where nothing happens outside a condition, that is the model's choice (log entry 1).
-/
def Obligations.WeaveEvents : Prop :=
  (∀ (x : TickIn) (s : State), linkUp s = true → x.crcOk = true → s.weave.isMaster = false → ∃ t, exec (.weaveTickReceive x) s = .next t ∧
    t.weave.masterId = x.masterId % 64 ∧ t.weave.ringOk = x.ringOk ∧ t.weave.tickMaster = some (x.masterId % 64) ∧ t.weave.noTick = 0 ∧
    t.weave.offset = x.swf - s.fr.epoch.truncate 16 ∧ t.weave.err = x.err ∧
    t.weave.delayOut = x.delay + BitVec.ofNat 16 (fld (cw s 6 s.weave.myId 0) 16 9 + x.latency) ∧ t.weave.isMaster = false ∧
    t.weave.tickOut = tickPacket { x with delay := t.weave.delayOut } ∧
    (s.weave.myId % 16 = fld x.swf 0 4 → s.weave.dupId = false → ∃ y, t.weave.sent = some y ∧ t.weave.slotOut = statusPacket y ∧
      y.id = s.weave.myId ∧ y.state = s.top.state.code ∧ y.group = wvGroup s ∧ y.chg = wvChg s) ∧
    (s.weave.myId % 16 ≠ fld x.swf 0 4 → t.weave.sent = s.weave.sent ∧ t.weave.slotOut = s.weave.slotOut) ∧ onlyReports s t) ∧
  (∀ (x : TickIn) (s : State), linkUp s = true → x.crcOk = true → s.weave.isMaster = true →
    (s.weave.myId < x.masterId % 64 → exec (.weaveTickReceive x) s = .next s) ∧
    (x.masterId % 64 = s.weave.myId → exec (.weaveTickReceive x) s = .next { s with weave := { s.weave with ownBack := 0 } }) ∧
    (x.masterId % 64 < s.weave.myId → ∃ t, exec (.weaveTickReceive x) s = .next t ∧ t.weave.abdicate = true ∧
      t.weave.masterId = s.weave.masterId ∧ t.weave.tickMaster = some (x.masterId % 64) ∧ onlyReports s t)) ∧
  (∀ (x : TickIn) (y : StatusIn) (s : State), linkUp s = true → x.crcOk = false → y.crcOk = false →
    (∃ t, exec (.weaveTickReceive x) s = .next t ∧ t.weave = { s.weave with drive := t.weave.drive } ∧ (srcOf t 0x38).lastKind = 2 ∧ onlyReports s t) ∧
    (∃ t, exec (.weaveStatusReceive y) s = .next t ∧ t.weave = { s.weave with drive := t.weave.drive } ∧ (srcOf t 0x38).lastKind = 2 ∧ onlyReports s t)) ∧
  (∀ (x : TickIn) (y : StatusIn) (s : State), linkUp s = false → exec (.weaveTickReceive x) s = .next s ∧ exec (.weaveStatusReceive y) s = .next s) ∧
  (∀ (x : StatusIn) (s : State), linkUp s = true → x.crcOk = true → x.kind < 3 → x.id < 64 → ∃ t, exec (.weaveStatusReceive x) s = .next t ∧
    onlyReports s t ∧ t.weave.masterId = s.weave.masterId ∧
    (x.id ≠ s.weave.myId → (peerOf t x.id).live = true ∧ (peerOf t x.id).age = 0 ∧ (peerOf t x.id).state = x.state % 16 ∧
      (peerOf t x.id).group = x.group % 16 ∧ (peerOf t x.id).last = s.fr.epoch.truncate 32 ∧
      (x.kind = 0 → (peerOf t x.id).need = x.p0.toNat ∧ (peerOf t x.id).a = x.p1.toNat) ∧ (∀ n, n ≠ x.id → peerOf t n = peerOf s n)) ∧
    (x.id = s.weave.myId → s.weave.isMaster = false → s.weave.dupId = false → t.weave.dupId = true ∧ (srcOf t 0x3C).lastKind = 1)) ∧
  (∀ s : State, linkUp s = true → ∃ t, exec .weaveSyncLoss s = .next t ∧ t.weave.sync = false ∧ (srcOf t 0x38).lastKind = 1 ∧ onlyReports s t) ∧
  (∀ s : State, powered s = true → wvEn s = true → exec .weaveSyncRealign s = .next { s with weave := { s.weave with sync := true } }) ∧
  (∀ s : State, powered s = true → eligible s = true → s.weave.isMaster = false → 4 ≤ s.weave.noLower → ∃ t, exec .masterElection s = .next t ∧
    t.weave.isMaster = true ∧ t.weave.masterId = s.weave.myId ∧ onlyReports s t) ∧
  (∀ s : State, powered s = true → wvEn s = true → s.weave.lock = false → s.fr.refLoss = false → 16 ≤ s.weave.inLock →
    ∃ t, exec .tickLockSet s = .next t ∧ t.weave = { s.weave with lock := true } ∧ t.host.intStat.getLsbD 8 = true ∧ t = { s with host := t.host, weave := t.weave }) ∧
  (∀ s : State, powered s = true → wvEn s = true → s.weave.lock = true → 64 < s.weave.err.natAbs ∨ 16 ≤ s.weave.noTick →
    ∃ t, exec .tickLockLoss s = .next t ∧ t.weave.lock = false ∧ t.weave.inLock = 0 ∧ (srcOf t 0x3A).lastKind = 1 ∧ onlyReports s t) ∧
  (∀ s : State, powered s = true → wvEn s = true → s.weave.joined = true → s.weave.frozen = false → 64 ≤ s.weave.noRing →
    ∃ t, exec .weaveFrozen s = .next t ∧ t.weave.frozen = true ∧ (srcOf t 0x39).lastKind = 1 ∧ t.host.intStat.getLsbD 8 = true ∧ onlyReports s t) ∧
  (∀ (id : Nat) (s : State), powered s = true → (peerOf s id).live = true → 64 ≤ (peerOf s id).age → ∃ t, exec (.peerLiveTimeout id) s = .next t ∧
    peerOf t id = { peerOf s id with live := false } ∧ (∀ n, n ≠ id → peerOf t n = peerOf s n) ∧ t = { s with weave := { s.weave with peers := t.weave.peers } }) ∧
  (∀ s : State, powered s = true → wvEn s = true → s.weave.armed = true → s.weave.lowSent = false → 2 ^ 18 ≤ s.weave.lowFrames →
    ∃ t, exec .wvTripLineLow s = .next t ∧ t.weave.lowSent = true ∧ (srcOf t 0x3B).lastKind = 2 ∧ onlyReports s t) ∧
  (∀ (id : Nat) (s : State) (c : Instr), powered s = false → c ∈ [Instr.weaveSyncLoss, .weaveSyncRealign, .masterElection, .tickLockSet,
    .tickLockLoss, .weaveFrozen, .peerLiveTimeout id, .wvTripLineLow] → exec c s = .next s)
end

