-- ==== Sys2Proof/Laws/Keeps.lean ====
section
/-! SUPPORT. How the five values that few commands change pass through conditionals and folds: the state, a Core BOR, whether
the frame generator runs, EPOCH and the queue of waiting commands. The Keeps files give one lemma per operation over them. -/

namespace Sys2Proof.Machine

section
variable (c : Prop) [Decidable c]

@[simp] theorem top_ite (a b : State) : (if c then a else b).top = if c then a.top else b.top := apply_ite _ _ _ _
@[simp] theorem fr_ite (a b : State) : (if c then a else b).fr = if c then a.fr else b.fr := apply_ite _ _ _ _
@[simp] theorem pending_ite (a b : State) : (if c then a else b).pending = if c then a.pending else b.pending := apply_ite _ _ _ _
@[simp] theorem state_ite (a b : Top) : (if c then a else b).state = if c then a.state else b.state := apply_ite _ _ _ _
@[simp] theorem coreBor_ite (a b : Top) : (if c then a else b).coreBor = if c then a.coreBor else b.coreBor := apply_ite _ _ _ _
@[simp] theorem running_ite (a b : FrameB) : (if c then a else b).running = if c then a.running else b.running := apply_ite _ _ _ _
@[simp] theorem epoch_ite (a b : FrameB) : (if c then a else b).epoch = if c then a.epoch else b.epoch := apply_ite _ _ _ _
@[simp] theorem fst_ite {α : Type} (a b : State × α) : (if c then a else b).1 = if c then a.1 else b.1 := apply_ite _ _ _ _
@[simp] theorem snd_ite {α : Type} (a b : α × State) : (if c then a else b).2 = if c then a.2 else b.2 := apply_ite _ _ _ _

end

section
variable {β : Type} (f : State → β → State)

/-- A value that every step of a fold keeps, the fold keeps. -/
theorem foldl_proj {γ : Type} (p : State → γ) (h : ∀ s x, p (f s x) = p s) : ∀ (l : List β) (s : State), p (l.foldl f s) = p s
  | [], _ => rfl
  | x :: l, s => (foldl_proj p h l (f s x)).trans (h s x)

@[simp] theorem foldl_state (h : ∀ s x, (f s x).top.state = s.top.state) (l : List β) (s : State) :
    (l.foldl f s).top.state = s.top.state := foldl_proj f (·.top.state) h l s
@[simp] theorem foldl_coreBor (h : ∀ s x, (f s x).top.coreBor = s.top.coreBor) (l : List β) (s : State) :
    (l.foldl f s).top.coreBor = s.top.coreBor := foldl_proj f (·.top.coreBor) h l s
@[simp] theorem foldl_running (h : ∀ s x, (f s x).fr.running = s.fr.running) (l : List β) (s : State) :
    (l.foldl f s).fr.running = s.fr.running := foldl_proj f (·.fr.running) h l s
@[simp] theorem foldl_epoch (h : ∀ s x, (f s x).fr.epoch = s.fr.epoch) (l : List β) (s : State) :
    (l.foldl f s).fr.epoch = s.fr.epoch := foldl_proj f (·.fr.epoch) h l s
@[simp] theorem foldl_pending (h : ∀ s x, (f s x).pending = s.pending) (l : List β) (s : State) :
    (l.foldl f s).pending = s.pending := foldl_proj f (·.pending) h l s

end

end Sys2Proof.Machine
end

