-- ==== Sys2Proof/Laws/Sparse.lean ====
section
/-! SUPPORT. Sparse lists: a read after a write, other keys unchanged, and every operation keeps the canonical form; and
with them the laws of each addressed memory of the block. -/

namespace Sys2Proof.Machine

section
variable {α : Type} (d : Nat → α)

theorem Sparse.above_mono {m : List (Nat × α)} {a b : Nat} (hab : a ≤ b) (h : Sparse.above b m = true) :
    Sparse.above a m = true := by
  cases m with
  | nil => rfl
  | cons p m => simp only [Sparse.above, decide_eq_true_eq] at *; omega

theorem Sparse.get_filter_self (k : Nat) : ∀ m : List (Nat × α), Sparse.get d (m.filter fun p => p.1 != k) k = d k
  | [] => rfl
  | (j, w) :: m => by
    rw [List.filter_cons]
    split
    · have : j ≠ k := by simp_all
      simp [Sparse.get, this, Sparse.get_filter_self k m]
    · exact Sparse.get_filter_self k m

theorem Sparse.get_filter_ne {j k : Nat} (h : j ≠ k) : ∀ m : List (Nat × α),
    Sparse.get d (m.filter fun p => p.1 != k) j = Sparse.get d m j
  | [] => rfl
  | (i, w) :: m => by
    rw [List.filter_cons]
    split
    · simp [Sparse.get, Sparse.get_filter_ne h m]
    · have : i ≠ j := by simp_all; omega
      simp [Sparse.get, this, Sparse.get_filter_ne h m]

theorem Sparse.get_insert_self (k : Nat) (v : α) : ∀ m : List (Nat × α), Sparse.get d (Sparse.insert m k v) k = v
  | [] => by simp [Sparse.insert, Sparse.get]
  | (j, w) :: m => by
    unfold Sparse.insert
    split
    · simp [Sparse.get]
    · split <;> simp [Sparse.get, *, Sparse.get_insert_self k v m]

theorem Sparse.get_insert_ne {j k : Nat} (v : α) (h : j ≠ k) : ∀ m : List (Nat × α),
    Sparse.get d (Sparse.insert m k v) j = Sparse.get d m j
  | [] => by simp [Sparse.insert, Sparse.get, Ne.symm h]
  | (i, w) :: m => by
    unfold Sparse.insert
    split
    · simp_all [Sparse.get, Ne.symm h]
    · split <;> simp [Sparse.get, Ne.symm h, Sparse.get_insert_ne v h m]

section
variable [DecidableEq α]

/-- A key reads after a write as written. -/
@[simp] theorem Sparse.get_put (m : List (Nat × α)) (k : Nat) (v : α) : Sparse.get d (Sparse.put d m k v) k = v := by
  unfold Sparse.put
  split
  · next h => rw [Sparse.get_filter_self, h]
  · exact Sparse.get_insert_self d k v m

/-- A write leaves every other key alone. -/
@[simp] theorem Sparse.get_put_ne (m : List (Nat × α)) {j k : Nat} (v : α) (h : j ≠ k) :
    Sparse.get d (Sparse.put d m k v) j = Sparse.get d m j := by
  unfold Sparse.put
  split
  · exact Sparse.get_filter_ne d h m
  · exact Sparse.get_insert_ne d v h m

/-- A changed entry reads as changed, and every other key as before. -/
@[simp] theorem Sparse.get_modify (m : List (Nat × α)) (k : Nat) (f : α → α) :
    Sparse.get d (Sparse.modify d m k f) k = f (Sparse.get d m k) := Sparse.get_put d m k _
@[simp] theorem Sparse.get_modify_ne (m : List (Nat × α)) {j k : Nat} (f : α → α) (h : j ≠ k) :
    Sparse.get d (Sparse.modify d m k f) j = Sparse.get d m j := Sparse.get_put_ne d m _ h

theorem Sparse.above_filter (p : Nat × α → Bool) : ∀ {m : List (Nat × α)} {b : Nat}, Sparse.wf d m = true →
    Sparse.above b m = true → Sparse.above b (m.filter p) = true
  | [], _, _, _ => rfl
  | (j, w) :: m, b, hw, h => by
    simp only [Sparse.wf, Bool.and_eq_true] at hw
    simp only [Sparse.above, decide_eq_true_eq] at h
    rw [List.filter_cons]
    split
    · simp [Sparse.above, h]
    · exact Sparse.above_filter p hw.2 (Sparse.above_mono (by omega) hw.1.2)

/-- A removal of entries keeps the canonical form. -/
theorem Sparse.filter_wf (p : Nat × α → Bool) : ∀ {m : List (Nat × α)}, Sparse.wf d m = true → Sparse.wf d (m.filter p) = true
  | [], _ => rfl
  | (j, w) :: m, hw => by
    simp only [Sparse.wf, Bool.and_eq_true] at hw
    rw [List.filter_cons]
    split
    · simp only [Sparse.wf, Bool.and_eq_true]
      exact ⟨⟨hw.1.1, Sparse.above_filter d p hw.2 hw.1.2⟩, Sparse.filter_wf p hw.2⟩
    · exact Sparse.filter_wf p hw.2

omit [DecidableEq α] in
theorem Sparse.insert_above {m : List (Nat × α)} {b k : Nat} {v : α} (hk : b < k) (hm : Sparse.above b m = true) :
    Sparse.above b (Sparse.insert m k v) = true := by
  cases m with
  | nil => simp [Sparse.insert, Sparse.above, hk]
  | cons p m =>
    obtain ⟨j, w⟩ := p
    simp only [Sparse.above, decide_eq_true_eq] at hm
    unfold Sparse.insert
    split
    · simp [Sparse.above, hk]
    · split <;> simp [Sparse.above, hk, hm]

theorem Sparse.insert_wf {k : Nat} {v : α} (hv : v ≠ d k) : ∀ {m : List (Nat × α)}, Sparse.wf d m = true →
    Sparse.wf d (Sparse.insert m k v) = true
  | [], _ => by simp [Sparse.insert, Sparse.wf, Sparse.above, hv]
  | (j, w) :: m, hw => by
    have h0 := hw
    simp only [Sparse.wf, Bool.and_eq_true] at hw
    unfold Sparse.insert
    split
    · next h => subst h; simp_all [Sparse.wf]
    · split
      · simp_all [Sparse.wf, Sparse.above]
      · simp only [Sparse.wf, Bool.and_eq_true]
        exact ⟨⟨hw.1.1, Sparse.insert_above (by omega) hw.1.2⟩, Sparse.insert_wf hv hw.2⟩

/-- A write keeps the canonical form. -/
theorem Sparse.put_wf (k : Nat) (v : α) {m : List (Nat × α)} (h : Sparse.wf d m = true) :
    Sparse.wf d (Sparse.put d m k v) = true := by
  unfold Sparse.put
  split
  · exact Sparse.filter_wf d _ h
  · next hv => exact Sparse.insert_wf d hv h

/-- A change of one entry keeps the canonical form. -/
theorem Sparse.modify_wf (k : Nat) (f : α → α) {m : List (Nat × α)} (h : Sparse.wf d m = true) :
    Sparse.wf d (Sparse.modify d m k f) = true := Sparse.put_wf d k _ h

end
end

/-! The memories of the block. -/

/-- The internal array: a written word reads as written, every other word is unchanged, and the form is kept. -/
theorem setWord_laws (w : Nat) (x : DWord) (s : State) :
    arrWord (setWord w x s) w = x ∧ (∀ v, v ≠ w → arrWord (setWord w x s) v = arrWord s v) ∧
      (Sparse.wf (fun _ => erasedWord) s.arr.mem = true → Sparse.wf (fun _ => erasedWord) (setWord w x s).arr.mem = true) :=
  ⟨Sparse.get_put _ _ _ _, fun _ hv => Sparse.get_put_ne _ _ _ hv, Sparse.put_wf _ _ _⟩

/-- The dirty map: the same for a cell's nibble. -/
theorem writeCell_laws (c st gen : Nat) (s : State) :
    nibble (writeCell c st gen s) c = st + 4 * gen ∧ (∀ b, b ≠ c → nibble (writeCell c st gen s) b = nibble s b) ∧
      (Sparse.wf (fun _ => 0) s.adm.map = true → Sparse.wf (fun _ => 0) (writeCell c st gen s).adm.map = true) :=
  ⟨Sparse.get_put _ _ _ _, fun _ hv => Sparse.get_put_ne _ _ _ hv, Sparse.put_wf _ _ _⟩

/-- A core's memories: the same for one byte. -/
theorem setRamByte_laws (b : Bool) (a : Nat) (v : BitVec 8) (s : State) :
    ramByte (setRamByte b a v s) b a = v ∧ (∀ c, c ≠ a → ramByte (setRamByte b a v s) b c = ramByte s b c) ∧
      (Sparse.wf (fun _ => 0) (coreOf s b).tcm = true → Sparse.wf (fun _ => 0) (coreOf (setRamByte b a v s) b).tcm = true) ∧
      (Sparse.wf (fun _ => 0) s.hive.sram = true → Sparse.wf (fun _ => 0) (setRamByte b a v s).hive.sram = true) := by
  by_cases ha : a < 0x10000
  · refine ⟨?_, fun c hc => ?_, fun h => ?_, fun h => ?_⟩
    · cases b <;> simp [ramByte, setRamByte, ha, coreOf, setCore]
    · by_cases hl : c < 0x10000 <;> cases b <;> simp [ramByte, setRamByte, ha, hl, coreOf, setCore, hc]
    · cases b <;> simpa [setRamByte, ha, coreOf, setCore] using Sparse.put_wf _ _ _ h
    · cases b <;> simpa [setRamByte, ha, coreOf, setCore] using h
  · refine ⟨?_, fun c hc => ?_, fun h => ?_, fun h => ?_⟩
    · cases b <;> simp [ramByte, setRamByte, ha]
    · by_cases hl : c < 0x10000 <;> cases b <;> simp [ramByte, setRamByte, ha, hl, coreOf, hc]
    · cases b <;> simpa [setRamByte, ha, coreOf] using h
    · cases b <;> simpa [setRamByte, ha, coreOf] using Sparse.put_wf _ _ _ h

/-- The machine right after reset has every memory and table in the canonical form. -/
theorem reset_canonical : canonical State.reset = true := by decide

end Sys2Proof.Machine
end

