-- ==== Sys2Proof/Laws/State.lean ====
section
/-! SUPPORT. What each named update of a table of State gives and what it leaves alone: one lemma per update and field.
A proof written (rfl) is used by simp as an equation only, so that it also serves where simp discharges a hypothesis. -/

namespace Sys2Proof.Machine

/-! modTenant. -/

@[simp] theorem modTenant_tenOf (k : Nat) (f : Tenant → Tenant) (s : State) : tenOf (modTenant k f s) k = f (tenOf s k) :=
  Sparse.get_modify _ _ _ _
@[simp] theorem modTenant_tenOf_ne {j k : Nat} (f : Tenant → Tenant) (s : State) (h : j ≠ k) : tenOf (modTenant k f s) j = tenOf s j :=
  Sparse.get_modify_ne _ _ _ h
@[simp] theorem modTenant_top (k : Nat) (f : Tenant → Tenant) (s : State) : (modTenant k f s).top = s.top := (rfl)
@[simp] theorem modTenant_conf (k : Nat) (f : Tenant → Tenant) (s : State) : (modTenant k f s).conf = s.conf := (rfl)
@[simp] theorem modTenant_fr (k : Nat) (f : Tenant → Tenant) (s : State) : (modTenant k f s).fr = s.fr := (rfl)
@[simp] theorem modTenant_host (k : Nat) (f : Tenant → Tenant) (s : State) : (modTenant k f s).host = s.host := (rfl)
@[simp] theorem modTenant_adm (k : Nat) (f : Tenant → Tenant) (s : State) : (modTenant k f s).adm = s.adm := (rfl)
@[simp] theorem modTenant_scout (k : Nat) (f : Tenant → Tenant) (s : State) : (modTenant k f s).scout = s.scout := (rfl)
@[simp] theorem modTenant_store (k : Nat) (f : Tenant → Tenant) (s : State) : (modTenant k f s).store = s.store := (rfl)
@[simp] theorem modTenant_dram (k : Nat) (f : Tenant → Tenant) (s : State) : (modTenant k f s).dram = s.dram := (rfl)
@[simp] theorem modTenant_harv (k : Nat) (f : Tenant → Tenant) (s : State) : (modTenant k f s).harv = s.harv := (rfl)
@[simp] theorem modTenant_nand (k : Nat) (f : Tenant → Tenant) (s : State) : (modTenant k f s).nand = s.nand := (rfl)
@[simp] theorem modTenant_ret (k : Nat) (f : Tenant → Tenant) (s : State) : (modTenant k f s).ret = s.ret := (rfl)
@[simp] theorem modTenant_arr (k : Nat) (f : Tenant → Tenant) (s : State) : (modTenant k f s).arr = s.arr := (rfl)
@[simp] theorem modTenant_hive (k : Nat) (f : Tenant → Tenant) (s : State) : (modTenant k f s).hive = s.hive := (rfl)
@[simp] theorem modTenant_tally (k : Nat) (f : Tenant → Tenant) (s : State) : (modTenant k f s).tally = s.tally := (rfl)
@[simp] theorem modTenant_sec (k : Nat) (f : Tenant → Tenant) (s : State) : (modTenant k f s).sec = s.sec := (rfl)
@[simp] theorem modTenant_jtag (k : Nat) (f : Tenant → Tenant) (s : State) : (modTenant k f s).jtag = s.jtag := (rfl)
@[simp] theorem modTenant_orf (k : Nat) (f : Tenant → Tenant) (s : State) : (modTenant k f s).orf = s.orf := (rfl)
@[simp] theorem modTenant_weave (k : Nat) (f : Tenant → Tenant) (s : State) : (modTenant k f s).weave = s.weave := (rfl)
@[simp] theorem modTenant_pending (k : Nat) (f : Tenant → Tenant) (s : State) : (modTenant k f s).pending = s.pending := (rfl)
@[simp] theorem modTenant_free (k : Nat) (f : Tenant → Tenant) (s : State) : (modTenant k f s).free = s.free := (rfl)
@[simp] theorem modTenant_ring_rings (k : Nat) (f : Tenant → Tenant) (s : State) : (modTenant k f s).ring.rings = s.ring.rings := (rfl)
@[simp] theorem modTenant_ring_portErr (k : Nat) (f : Tenant → Tenant) (s : State) : (modTenant k f s).ring.portErr = s.ring.portErr := (rfl)
@[simp] theorem modTenant_ring_cause (k : Nat) (f : Tenant → Tenant) (s : State) : (modTenant k f s).ring.cause = s.ring.cause := (rfl)
@[simp] theorem modTenant_ring_dbErr (k : Nat) (f : Tenant → Tenant) (s : State) : (modTenant k f s).ring.dbErr = s.ring.dbErr := (rfl)
@[simp] theorem modTenant_ring_answers (k : Nat) (f : Tenant → Tenant) (s : State) : (modTenant k f s).ring.answers = s.ring.answers := (rfl)
@[simp] theorem modTenant_ring_pubSeq (k : Nat) (f : Tenant → Tenant) (s : State) : (modTenant k f s).ring.pubSeq = s.ring.pubSeq := (rfl)
@[simp] theorem modTenant_ring_lastServ (k : Nat) (f : Tenant → Tenant) (s : State) : (modTenant k f s).ring.lastServ = s.ring.lastServ := (rfl)
@[simp] theorem modTenant_ring_unsol (k : Nat) (f : Tenant → Tenant) (s : State) : (modTenant k f s).ring.unsol = s.ring.unsol := (rfl)
@[simp] theorem modTenant_ring_late (k : Nat) (f : Tenant → Tenant) (s : State) : (modTenant k f s).ring.late = s.ring.late := (rfl)

/-! modRing. -/

@[simp] theorem modRing_ringOf (k : Nat) (f : Ring → Ring) (s : State) : ringOf (modRing k f s) k = f (ringOf s k) :=
  Sparse.get_modify _ _ _ _
@[simp] theorem modRing_ringOf_ne {j k : Nat} (f : Ring → Ring) (s : State) (h : j ≠ k) : ringOf (modRing k f s) j = ringOf s j :=
  Sparse.get_modify_ne _ _ _ h
@[simp] theorem modRing_top (k : Nat) (f : Ring → Ring) (s : State) : (modRing k f s).top = s.top := (rfl)
@[simp] theorem modRing_conf (k : Nat) (f : Ring → Ring) (s : State) : (modRing k f s).conf = s.conf := (rfl)
@[simp] theorem modRing_fr (k : Nat) (f : Ring → Ring) (s : State) : (modRing k f s).fr = s.fr := (rfl)
@[simp] theorem modRing_host (k : Nat) (f : Ring → Ring) (s : State) : (modRing k f s).host = s.host := (rfl)
@[simp] theorem modRing_adm (k : Nat) (f : Ring → Ring) (s : State) : (modRing k f s).adm = s.adm := (rfl)
@[simp] theorem modRing_scout (k : Nat) (f : Ring → Ring) (s : State) : (modRing k f s).scout = s.scout := (rfl)
@[simp] theorem modRing_store (k : Nat) (f : Ring → Ring) (s : State) : (modRing k f s).store = s.store := (rfl)
@[simp] theorem modRing_dram (k : Nat) (f : Ring → Ring) (s : State) : (modRing k f s).dram = s.dram := (rfl)
@[simp] theorem modRing_harv (k : Nat) (f : Ring → Ring) (s : State) : (modRing k f s).harv = s.harv := (rfl)
@[simp] theorem modRing_nand (k : Nat) (f : Ring → Ring) (s : State) : (modRing k f s).nand = s.nand := (rfl)
@[simp] theorem modRing_ret (k : Nat) (f : Ring → Ring) (s : State) : (modRing k f s).ret = s.ret := (rfl)
@[simp] theorem modRing_arr (k : Nat) (f : Ring → Ring) (s : State) : (modRing k f s).arr = s.arr := (rfl)
@[simp] theorem modRing_hive (k : Nat) (f : Ring → Ring) (s : State) : (modRing k f s).hive = s.hive := (rfl)
@[simp] theorem modRing_tally (k : Nat) (f : Ring → Ring) (s : State) : (modRing k f s).tally = s.tally := (rfl)
@[simp] theorem modRing_sec (k : Nat) (f : Ring → Ring) (s : State) : (modRing k f s).sec = s.sec := (rfl)
@[simp] theorem modRing_jtag (k : Nat) (f : Ring → Ring) (s : State) : (modRing k f s).jtag = s.jtag := (rfl)
@[simp] theorem modRing_orf (k : Nat) (f : Ring → Ring) (s : State) : (modRing k f s).orf = s.orf := (rfl)
@[simp] theorem modRing_weave (k : Nat) (f : Ring → Ring) (s : State) : (modRing k f s).weave = s.weave := (rfl)
@[simp] theorem modRing_pending (k : Nat) (f : Ring → Ring) (s : State) : (modRing k f s).pending = s.pending := (rfl)
@[simp] theorem modRing_free (k : Nat) (f : Ring → Ring) (s : State) : (modRing k f s).free = s.free := (rfl)
@[simp] theorem modRing_ring_tenants (k : Nat) (f : Ring → Ring) (s : State) : (modRing k f s).ring.tenants = s.ring.tenants := (rfl)
@[simp] theorem modRing_ring_portErr (k : Nat) (f : Ring → Ring) (s : State) : (modRing k f s).ring.portErr = s.ring.portErr := (rfl)
@[simp] theorem modRing_ring_cause (k : Nat) (f : Ring → Ring) (s : State) : (modRing k f s).ring.cause = s.ring.cause := (rfl)
@[simp] theorem modRing_ring_dbErr (k : Nat) (f : Ring → Ring) (s : State) : (modRing k f s).ring.dbErr = s.ring.dbErr := (rfl)
@[simp] theorem modRing_ring_answers (k : Nat) (f : Ring → Ring) (s : State) : (modRing k f s).ring.answers = s.ring.answers := (rfl)
@[simp] theorem modRing_ring_pubSeq (k : Nat) (f : Ring → Ring) (s : State) : (modRing k f s).ring.pubSeq = s.ring.pubSeq := (rfl)
@[simp] theorem modRing_ring_lastServ (k : Nat) (f : Ring → Ring) (s : State) : (modRing k f s).ring.lastServ = s.ring.lastServ := (rfl)
@[simp] theorem modRing_ring_unsol (k : Nat) (f : Ring → Ring) (s : State) : (modRing k f s).ring.unsol = s.ring.unsol := (rfl)
@[simp] theorem modRing_ring_late (k : Nat) (f : Ring → Ring) (s : State) : (modRing k f s).ring.late = s.ring.late := (rfl)

/-! modSrc. -/

@[simp] theorem modSrc_srcOf (k : Nat) (f : Source → Source) (s : State) : srcOf (modSrc k f s) k = f (srcOf s k) :=
  Sparse.get_modify _ _ _ _
@[simp] theorem modSrc_srcOf_ne {j k : Nat} (f : Source → Source) (s : State) (h : j ≠ k) : srcOf (modSrc k f s) j = srcOf s j :=
  Sparse.get_modify_ne _ _ _ h
@[simp] theorem modSrc_top (k : Nat) (f : Source → Source) (s : State) : (modSrc k f s).top = s.top := (rfl)
@[simp] theorem modSrc_conf (k : Nat) (f : Source → Source) (s : State) : (modSrc k f s).conf = s.conf := (rfl)
@[simp] theorem modSrc_fr (k : Nat) (f : Source → Source) (s : State) : (modSrc k f s).fr = s.fr := (rfl)
@[simp] theorem modSrc_host (k : Nat) (f : Source → Source) (s : State) : (modSrc k f s).host = s.host := (rfl)
@[simp] theorem modSrc_ring (k : Nat) (f : Source → Source) (s : State) : (modSrc k f s).ring = s.ring := (rfl)
@[simp] theorem modSrc_adm (k : Nat) (f : Source → Source) (s : State) : (modSrc k f s).adm = s.adm := (rfl)
@[simp] theorem modSrc_scout (k : Nat) (f : Source → Source) (s : State) : (modSrc k f s).scout = s.scout := (rfl)
@[simp] theorem modSrc_store (k : Nat) (f : Source → Source) (s : State) : (modSrc k f s).store = s.store := (rfl)
@[simp] theorem modSrc_dram (k : Nat) (f : Source → Source) (s : State) : (modSrc k f s).dram = s.dram := (rfl)
@[simp] theorem modSrc_harv (k : Nat) (f : Source → Source) (s : State) : (modSrc k f s).harv = s.harv := (rfl)
@[simp] theorem modSrc_nand (k : Nat) (f : Source → Source) (s : State) : (modSrc k f s).nand = s.nand := (rfl)
@[simp] theorem modSrc_ret (k : Nat) (f : Source → Source) (s : State) : (modSrc k f s).ret = s.ret := (rfl)
@[simp] theorem modSrc_arr (k : Nat) (f : Source → Source) (s : State) : (modSrc k f s).arr = s.arr := (rfl)
@[simp] theorem modSrc_hive (k : Nat) (f : Source → Source) (s : State) : (modSrc k f s).hive = s.hive := (rfl)
@[simp] theorem modSrc_sec (k : Nat) (f : Source → Source) (s : State) : (modSrc k f s).sec = s.sec := (rfl)
@[simp] theorem modSrc_jtag (k : Nat) (f : Source → Source) (s : State) : (modSrc k f s).jtag = s.jtag := (rfl)
@[simp] theorem modSrc_orf (k : Nat) (f : Source → Source) (s : State) : (modSrc k f s).orf = s.orf := (rfl)
@[simp] theorem modSrc_weave (k : Nat) (f : Source → Source) (s : State) : (modSrc k f s).weave = s.weave := (rfl)
@[simp] theorem modSrc_pending (k : Nat) (f : Source → Source) (s : State) : (modSrc k f s).pending = s.pending := (rfl)
@[simp] theorem modSrc_free (k : Nat) (f : Source → Source) (s : State) : (modSrc k f s).free = s.free := (rfl)
@[simp] theorem modSrc_tally_aonLatch (k : Nat) (f : Source → Source) (s : State) : (modSrc k f s).tally.aonLatch = s.tally.aonLatch := (rfl)
@[simp] theorem modSrc_tally_halted (k : Nat) (f : Source → Source) (s : State) : (modSrc k f s).tally.halted = s.tally.halted := (rfl)
@[simp] theorem modSrc_tally_haltIn (k : Nat) (f : Source → Source) (s : State) : (modSrc k f s).tally.haltIn = s.tally.haltIn := (rfl)
@[simp] theorem modSrc_tally_tripped (k : Nat) (f : Source → Source) (s : State) : (modSrc k f s).tally.tripped = s.tally.tripped := (rfl)
@[simp] theorem modSrc_tally_logDrop (k : Nat) (f : Source → Source) (s : State) : (modSrc k f s).tally.logDrop = s.tally.logDrop := (rfl)
@[simp] theorem modSrc_tally_lastSrc (k : Nat) (f : Source → Source) (s : State) : (modSrc k f s).tally.lastSrc = s.tally.lastSrc := (rfl)
@[simp] theorem modSrc_tally_pulseLeft (k : Nat) (f : Source → Source) (s : State) : (modSrc k f s).tally.pulseLeft = s.tally.pulseLeft := (rfl)
@[simp] theorem modSrc_tally_pulses (k : Nat) (f : Source → Source) (s : State) : (modSrc k f s).tally.pulses = s.tally.pulses := (rfl)
@[simp] theorem modSrc_tally_markEnd (k : Nat) (f : Source → Source) (s : State) : (modSrc k f s).tally.markEnd = s.tally.markEnd := (rfl)
@[simp] theorem modSrc_tally_degraded (k : Nat) (f : Source → Source) (s : State) : (modSrc k f s).tally.degraded = s.tally.degraded := (rfl)
@[simp] theorem modSrc_tally_degradeIn (k : Nat) (f : Source → Source) (s : State) : (modSrc k f s).tally.degradeIn = s.tally.degradeIn := (rfl)
@[simp] theorem modSrc_tally_quiet (k : Nat) (f : Source → Source) (s : State) : (modSrc k f s).tally.quiet = s.tally.quiet := (rfl)
@[simp] theorem modSrc_tally_exits (k : Nat) (f : Source → Source) (s : State) : (modSrc k f s).tally.exits = s.tally.exits := (rfl)
@[simp] theorem modSrc_tally_injChk (k : Nat) (f : Source → Source) (s : State) : (modSrc k f s).tally.injChk = s.tally.injChk := (rfl)
@[simp] theorem modSrc_tally_injDbl (k : Nat) (f : Source → Source) (s : State) : (modSrc k f s).tally.injDbl = s.tally.injDbl := (rfl)
@[simp] theorem modSrc_tally_injLeft (k : Nat) (f : Source → Source) (s : State) : (modSrc k f s).tally.injLeft = s.tally.injLeft := (rfl)
@[simp] theorem modSrc_tally_queue (k : Nat) (f : Source → Source) (s : State) : (modSrc k f s).tally.queue = s.tally.queue := (rfl)
@[simp] theorem modSrc_tally_cur (k : Nat) (f : Source → Source) (s : State) : (modSrc k f s).tally.cur = s.tally.cur := (rfl)
@[simp] theorem modSrc_tally_curStep (k : Nat) (f : Source → Source) (s : State) : (modSrc k f s).tally.curStep = s.tally.curStep := (rfl)
@[simp] theorem modSrc_tally_curFail (k : Nat) (f : Source → Source) (s : State) : (modSrc k f s).tally.curFail = s.tally.curFail := (rfl)
@[simp] theorem modSrc_tally_held (k : Nat) (f : Source → Source) (s : State) : (modSrc k f s).tally.held = s.tally.held := (rfl)
@[simp] theorem modSrc_tally_slot (k : Nat) (f : Source → Source) (s : State) : (modSrc k f s).tally.slot = s.tally.slot := (rfl)
@[simp] theorem modSrc_tally_curX (k : Nat) (f : Source → Source) (s : State) : (modSrc k f s).tally.curX = s.tally.curX := (rfl)
@[simp] theorem modSrc_tally_next (k : Nat) (f : Source → Source) (s : State) : (modSrc k f s).tally.next = s.tally.next := (rfl)
@[simp] theorem modSrc_tally_drops (k : Nat) (f : Source → Source) (s : State) : (modSrc k f s).tally.drops = s.tally.drops := (rfl)
@[simp] theorem modSrc_tally_dropSent (k : Nat) (f : Source → Source) (s : State) : (modSrc k f s).tally.dropSent = s.tally.dropSent := (rfl)
@[simp] theorem modSrc_tally_snap (k : Nat) (f : Source → Source) (s : State) : (modSrc k f s).tally.snap = s.tally.snap := (rfl)
@[simp] theorem modSrc_tally_snapEpoch (k : Nat) (f : Source → Source) (s : State) : (modSrc k f s).tally.snapEpoch = s.tally.snapEpoch := (rfl)
@[simp] theorem modSrc_tally_subStamp (k : Nat) (f : Source → Source) (s : State) : (modSrc k f s).tally.subStamp = s.tally.subStamp := (rfl)
@[simp] theorem modSrc_tally_subCount (k : Nat) (f : Source → Source) (s : State) : (modSrc k f s).tally.subCount = s.tally.subCount := (rfl)
@[simp] theorem modSrc_tally_eraseAhead (k : Nat) (f : Source → Source) (s : State) : (modSrc k f s).tally.eraseAhead = s.tally.eraseAhead := (rfl)

/-! modTgt. -/

@[simp] theorem modTgt_tgtOf (k : Nat) (f : Target → Target) (s : State) : tgtOf (modTgt k f s) k = f (tgtOf s k) :=
  Sparse.get_modify _ _ _ _
@[simp] theorem modTgt_tgtOf_ne {j k : Nat} (f : Target → Target) (s : State) (h : j ≠ k) : tgtOf (modTgt k f s) j = tgtOf s j :=
  Sparse.get_modify_ne _ _ _ h
@[simp] theorem modTgt_top (k : Nat) (f : Target → Target) (s : State) : (modTgt k f s).top = s.top := (rfl)
@[simp] theorem modTgt_conf (k : Nat) (f : Target → Target) (s : State) : (modTgt k f s).conf = s.conf := (rfl)
@[simp] theorem modTgt_fr (k : Nat) (f : Target → Target) (s : State) : (modTgt k f s).fr = s.fr := (rfl)
@[simp] theorem modTgt_host (k : Nat) (f : Target → Target) (s : State) : (modTgt k f s).host = s.host := (rfl)
@[simp] theorem modTgt_ring (k : Nat) (f : Target → Target) (s : State) : (modTgt k f s).ring = s.ring := (rfl)
@[simp] theorem modTgt_adm (k : Nat) (f : Target → Target) (s : State) : (modTgt k f s).adm = s.adm := (rfl)
@[simp] theorem modTgt_scout (k : Nat) (f : Target → Target) (s : State) : (modTgt k f s).scout = s.scout := (rfl)
@[simp] theorem modTgt_store (k : Nat) (f : Target → Target) (s : State) : (modTgt k f s).store = s.store := (rfl)
@[simp] theorem modTgt_dram (k : Nat) (f : Target → Target) (s : State) : (modTgt k f s).dram = s.dram := (rfl)
@[simp] theorem modTgt_harv (k : Nat) (f : Target → Target) (s : State) : (modTgt k f s).harv = s.harv := (rfl)
@[simp] theorem modTgt_ret (k : Nat) (f : Target → Target) (s : State) : (modTgt k f s).ret = s.ret := (rfl)
@[simp] theorem modTgt_arr (k : Nat) (f : Target → Target) (s : State) : (modTgt k f s).arr = s.arr := (rfl)
@[simp] theorem modTgt_hive (k : Nat) (f : Target → Target) (s : State) : (modTgt k f s).hive = s.hive := (rfl)
@[simp] theorem modTgt_tally (k : Nat) (f : Target → Target) (s : State) : (modTgt k f s).tally = s.tally := (rfl)
@[simp] theorem modTgt_sec (k : Nat) (f : Target → Target) (s : State) : (modTgt k f s).sec = s.sec := (rfl)
@[simp] theorem modTgt_jtag (k : Nat) (f : Target → Target) (s : State) : (modTgt k f s).jtag = s.jtag := (rfl)
@[simp] theorem modTgt_orf (k : Nat) (f : Target → Target) (s : State) : (modTgt k f s).orf = s.orf := (rfl)
@[simp] theorem modTgt_weave (k : Nat) (f : Target → Target) (s : State) : (modTgt k f s).weave = s.weave := (rfl)
@[simp] theorem modTgt_pending (k : Nat) (f : Target → Target) (s : State) : (modTgt k f s).pending = s.pending := (rfl)
@[simp] theorem modTgt_free (k : Nat) (f : Target → Target) (s : State) : (modTgt k f s).free = s.free := (rfl)
@[simp] theorem modTgt_nand_valid (k : Nat) (f : Target → Target) (s : State) : (modTgt k f s).nand.valid = s.nand.valid := (rfl)
@[simp] theorem modTgt_nand_geomErr (k : Nat) (f : Target → Target) (s : State) : (modTgt k f s).nand.geomErr = s.nand.geomErr := (rfl)
@[simp] theorem modTgt_nand_seq (k : Nat) (f : Target → Target) (s : State) : (modTgt k f s).nand.seq = s.nand.seq := (rfl)
@[simp] theorem modTgt_nand_kept (k : Nat) (f : Target → Target) (s : State) : (modTgt k f s).nand.kept = s.nand.kept := (rfl)
@[simp] theorem modTgt_nand_chans (k : Nat) (f : Target → Target) (s : State) : (modTgt k f s).nand.chans = s.nand.chans := (rfl)
@[simp] theorem modTgt_nand_broughtUp (k : Nat) (f : Target → Target) (s : State) : (modTgt k f s).nand.broughtUp = s.nand.broughtUp := (rfl)
@[simp] theorem modTgt_nand_bringUp (k : Nat) (f : Target → Target) (s : State) : (modTgt k f s).nand.bringUp = s.nand.bringUp := (rfl)
@[simp] theorem modTgt_nand_power (k : Nat) (f : Target → Target) (s : State) : (modTgt k f s).nand.power = s.nand.power := (rfl)
@[simp] theorem modTgt_nand_armed (k : Nat) (f : Target → Target) (s : State) : (modTgt k f s).nand.armed = s.nand.armed := (rfl)
@[simp] theorem modTgt_nand_prep (k : Nat) (f : Target → Target) (s : State) : (modTgt k f s).nand.prep = s.nand.prep := (rfl)
@[simp] theorem modTgt_nand_prepHeld (k : Nat) (f : Target → Target) (s : State) : (modTgt k f s).nand.prepHeld = s.nand.prepHeld := (rfl)
@[simp] theorem modTgt_nand_prepEntry (k : Nat) (f : Target → Target) (s : State) : (modTgt k f s).nand.prepEntry = s.nand.prepEntry := (rfl)
@[simp] theorem modTgt_nand_prepLeft (k : Nat) (f : Target → Target) (s : State) : (modTgt k f s).nand.prepLeft = s.nand.prepLeft := (rfl)
@[simp] theorem modTgt_nand_prepDone (k : Nat) (f : Target → Target) (s : State) : (modTgt k f s).nand.prepDone = s.nand.prepDone := (rfl)
@[simp] theorem modTgt_nand_catAlt (k : Nat) (f : Target → Target) (s : State) : (modTgt k f s).nand.catAlt = s.nand.catAlt := (rfl)
@[simp] theorem modTgt_nand_bbmScan (k : Nat) (f : Target → Target) (s : State) : (modTgt k f s).nand.bbmScan = s.nand.bbmScan := (rfl)
@[simp] theorem modTgt_nand_bbmSeq (k : Nat) (f : Target → Target) (s : State) : (modTgt k f s).nand.bbmSeq = s.nand.bbmSeq := (rfl)
@[simp] theorem modTgt_nand_units (k : Nat) (f : Target → Target) (s : State) : (modTgt k f s).nand.units = s.nand.units := (rfl)
@[simp] theorem modTgt_nand_pageAt (k : Nat) (f : Target → Target) (s : State) : (modTgt k f s).nand.pageAt = s.nand.pageAt := (rfl)
@[simp] theorem modTgt_nand_rewrites (k : Nat) (f : Target → Target) (s : State) : (modTgt k f s).nand.rewrites = s.nand.rewrites := (rfl)
@[simp] theorem modTgt_nand_catalog (k : Nat) (f : Target → Target) (s : State) : (modTgt k f s).nand.catalog = s.nand.catalog := (rfl)
@[simp] theorem modTgt_nand_laneOut (k : Nat) (f : Target → Target) (s : State) : (modTgt k f s).nand.laneOut = s.nand.laneOut := (rfl)
@[simp] theorem modTgt_nand_prepRearm (k : Nat) (f : Target → Target) (s : State) : (modTgt k f s).nand.prepRearm = s.nand.prepRearm := (rfl)
@[simp] theorem modTgt_nand_marks (k : Nat) (f : Target → Target) (s : State) : (modTgt k f s).nand.marks = s.nand.marks := (rfl)
@[simp] theorem modTgt_nand_fill (k : Nat) (f : Target → Target) (s : State) : (modTgt k f s).nand.fill = s.nand.fill := (rfl)
@[simp] theorem modTgt_nand_trkFill (k : Nat) (f : Target → Target) (s : State) : (modTgt k f s).nand.trkFill = s.nand.trkFill := (rfl)
@[simp] theorem modTgt_nand_trkAt (k : Nat) (f : Target → Target) (s : State) : (modTgt k f s).nand.trkAt = s.nand.trkAt := (rfl)
@[simp] theorem modTgt_nand_chains (k : Nat) (f : Target → Target) (s : State) : (modTgt k f s).nand.chains = s.nand.chains := (rfl)
@[simp] theorem modTgt_nand_badFound (k : Nat) (f : Target → Target) (s : State) : (modTgt k f s).nand.badFound = s.nand.badFound := (rfl)

/-! modChan. -/

@[simp] theorem modChan_chanOf (k : Nat) (f : Channel → Channel) (s : State) : chanOf (modChan k f s) k = f (chanOf s k) :=
  Sparse.get_modify _ _ _ _
@[simp] theorem modChan_chanOf_ne {j k : Nat} (f : Channel → Channel) (s : State) (h : j ≠ k) : chanOf (modChan k f s) j = chanOf s j :=
  Sparse.get_modify_ne _ _ _ h
@[simp] theorem modChan_top (k : Nat) (f : Channel → Channel) (s : State) : (modChan k f s).top = s.top := (rfl)
@[simp] theorem modChan_conf (k : Nat) (f : Channel → Channel) (s : State) : (modChan k f s).conf = s.conf := (rfl)
@[simp] theorem modChan_fr (k : Nat) (f : Channel → Channel) (s : State) : (modChan k f s).fr = s.fr := (rfl)
@[simp] theorem modChan_host (k : Nat) (f : Channel → Channel) (s : State) : (modChan k f s).host = s.host := (rfl)
@[simp] theorem modChan_ring (k : Nat) (f : Channel → Channel) (s : State) : (modChan k f s).ring = s.ring := (rfl)
@[simp] theorem modChan_adm (k : Nat) (f : Channel → Channel) (s : State) : (modChan k f s).adm = s.adm := (rfl)
@[simp] theorem modChan_scout (k : Nat) (f : Channel → Channel) (s : State) : (modChan k f s).scout = s.scout := (rfl)
@[simp] theorem modChan_store (k : Nat) (f : Channel → Channel) (s : State) : (modChan k f s).store = s.store := (rfl)
@[simp] theorem modChan_dram (k : Nat) (f : Channel → Channel) (s : State) : (modChan k f s).dram = s.dram := (rfl)
@[simp] theorem modChan_harv (k : Nat) (f : Channel → Channel) (s : State) : (modChan k f s).harv = s.harv := (rfl)
@[simp] theorem modChan_ret (k : Nat) (f : Channel → Channel) (s : State) : (modChan k f s).ret = s.ret := (rfl)
@[simp] theorem modChan_arr (k : Nat) (f : Channel → Channel) (s : State) : (modChan k f s).arr = s.arr := (rfl)
@[simp] theorem modChan_hive (k : Nat) (f : Channel → Channel) (s : State) : (modChan k f s).hive = s.hive := (rfl)
@[simp] theorem modChan_tally (k : Nat) (f : Channel → Channel) (s : State) : (modChan k f s).tally = s.tally := (rfl)
@[simp] theorem modChan_sec (k : Nat) (f : Channel → Channel) (s : State) : (modChan k f s).sec = s.sec := (rfl)
@[simp] theorem modChan_jtag (k : Nat) (f : Channel → Channel) (s : State) : (modChan k f s).jtag = s.jtag := (rfl)
@[simp] theorem modChan_orf (k : Nat) (f : Channel → Channel) (s : State) : (modChan k f s).orf = s.orf := (rfl)
@[simp] theorem modChan_weave (k : Nat) (f : Channel → Channel) (s : State) : (modChan k f s).weave = s.weave := (rfl)
@[simp] theorem modChan_pending (k : Nat) (f : Channel → Channel) (s : State) : (modChan k f s).pending = s.pending := (rfl)
@[simp] theorem modChan_free (k : Nat) (f : Channel → Channel) (s : State) : (modChan k f s).free = s.free := (rfl)
@[simp] theorem modChan_nand_valid (k : Nat) (f : Channel → Channel) (s : State) : (modChan k f s).nand.valid = s.nand.valid := (rfl)
@[simp] theorem modChan_nand_geomErr (k : Nat) (f : Channel → Channel) (s : State) : (modChan k f s).nand.geomErr = s.nand.geomErr := (rfl)
@[simp] theorem modChan_nand_seq (k : Nat) (f : Channel → Channel) (s : State) : (modChan k f s).nand.seq = s.nand.seq := (rfl)
@[simp] theorem modChan_nand_kept (k : Nat) (f : Channel → Channel) (s : State) : (modChan k f s).nand.kept = s.nand.kept := (rfl)
@[simp] theorem modChan_nand_targets (k : Nat) (f : Channel → Channel) (s : State) : (modChan k f s).nand.targets = s.nand.targets := (rfl)
@[simp] theorem modChan_nand_broughtUp (k : Nat) (f : Channel → Channel) (s : State) : (modChan k f s).nand.broughtUp = s.nand.broughtUp := (rfl)
@[simp] theorem modChan_nand_bringUp (k : Nat) (f : Channel → Channel) (s : State) : (modChan k f s).nand.bringUp = s.nand.bringUp := (rfl)
@[simp] theorem modChan_nand_power (k : Nat) (f : Channel → Channel) (s : State) : (modChan k f s).nand.power = s.nand.power := (rfl)
@[simp] theorem modChan_nand_armed (k : Nat) (f : Channel → Channel) (s : State) : (modChan k f s).nand.armed = s.nand.armed := (rfl)
@[simp] theorem modChan_nand_prep (k : Nat) (f : Channel → Channel) (s : State) : (modChan k f s).nand.prep = s.nand.prep := (rfl)
@[simp] theorem modChan_nand_prepHeld (k : Nat) (f : Channel → Channel) (s : State) : (modChan k f s).nand.prepHeld = s.nand.prepHeld := (rfl)
@[simp] theorem modChan_nand_prepEntry (k : Nat) (f : Channel → Channel) (s : State) : (modChan k f s).nand.prepEntry = s.nand.prepEntry := (rfl)
@[simp] theorem modChan_nand_prepLeft (k : Nat) (f : Channel → Channel) (s : State) : (modChan k f s).nand.prepLeft = s.nand.prepLeft := (rfl)
@[simp] theorem modChan_nand_prepDone (k : Nat) (f : Channel → Channel) (s : State) : (modChan k f s).nand.prepDone = s.nand.prepDone := (rfl)
@[simp] theorem modChan_nand_catAlt (k : Nat) (f : Channel → Channel) (s : State) : (modChan k f s).nand.catAlt = s.nand.catAlt := (rfl)
@[simp] theorem modChan_nand_bbmScan (k : Nat) (f : Channel → Channel) (s : State) : (modChan k f s).nand.bbmScan = s.nand.bbmScan := (rfl)
@[simp] theorem modChan_nand_bbmSeq (k : Nat) (f : Channel → Channel) (s : State) : (modChan k f s).nand.bbmSeq = s.nand.bbmSeq := (rfl)
@[simp] theorem modChan_nand_units (k : Nat) (f : Channel → Channel) (s : State) : (modChan k f s).nand.units = s.nand.units := (rfl)
@[simp] theorem modChan_nand_pageAt (k : Nat) (f : Channel → Channel) (s : State) : (modChan k f s).nand.pageAt = s.nand.pageAt := (rfl)
@[simp] theorem modChan_nand_rewrites (k : Nat) (f : Channel → Channel) (s : State) : (modChan k f s).nand.rewrites = s.nand.rewrites := (rfl)
@[simp] theorem modChan_nand_catalog (k : Nat) (f : Channel → Channel) (s : State) : (modChan k f s).nand.catalog = s.nand.catalog := (rfl)
@[simp] theorem modChan_nand_laneOut (k : Nat) (f : Channel → Channel) (s : State) : (modChan k f s).nand.laneOut = s.nand.laneOut := (rfl)
@[simp] theorem modChan_nand_prepRearm (k : Nat) (f : Channel → Channel) (s : State) : (modChan k f s).nand.prepRearm = s.nand.prepRearm := (rfl)
@[simp] theorem modChan_nand_marks (k : Nat) (f : Channel → Channel) (s : State) : (modChan k f s).nand.marks = s.nand.marks := (rfl)
@[simp] theorem modChan_nand_fill (k : Nat) (f : Channel → Channel) (s : State) : (modChan k f s).nand.fill = s.nand.fill := (rfl)
@[simp] theorem modChan_nand_trkFill (k : Nat) (f : Channel → Channel) (s : State) : (modChan k f s).nand.trkFill = s.nand.trkFill := (rfl)
@[simp] theorem modChan_nand_trkAt (k : Nat) (f : Channel → Channel) (s : State) : (modChan k f s).nand.trkAt = s.nand.trkAt := (rfl)
@[simp] theorem modChan_nand_chains (k : Nat) (f : Channel → Channel) (s : State) : (modChan k f s).nand.chains = s.nand.chains := (rfl)
@[simp] theorem modChan_nand_badFound (k : Nat) (f : Channel → Channel) (s : State) : (modChan k f s).nand.badFound = s.nand.badFound := (rfl)

/-! modAcct. -/

@[simp] theorem modAcct_acctOf (k : Nat) (f : Acct → Acct) (s : State) : acctOf (modAcct k f s) k = f (acctOf s k) :=
  Sparse.get_modify _ _ _ _
@[simp] theorem modAcct_acctOf_ne {j k : Nat} (f : Acct → Acct) (s : State) (h : j ≠ k) : acctOf (modAcct k f s) j = acctOf s j :=
  Sparse.get_modify_ne _ _ _ h
@[simp] theorem modAcct_top (k : Nat) (f : Acct → Acct) (s : State) : (modAcct k f s).top = s.top := (rfl)
@[simp] theorem modAcct_conf (k : Nat) (f : Acct → Acct) (s : State) : (modAcct k f s).conf = s.conf := (rfl)
@[simp] theorem modAcct_host (k : Nat) (f : Acct → Acct) (s : State) : (modAcct k f s).host = s.host := (rfl)
@[simp] theorem modAcct_ring (k : Nat) (f : Acct → Acct) (s : State) : (modAcct k f s).ring = s.ring := (rfl)
@[simp] theorem modAcct_adm (k : Nat) (f : Acct → Acct) (s : State) : (modAcct k f s).adm = s.adm := (rfl)
@[simp] theorem modAcct_scout (k : Nat) (f : Acct → Acct) (s : State) : (modAcct k f s).scout = s.scout := (rfl)
@[simp] theorem modAcct_store (k : Nat) (f : Acct → Acct) (s : State) : (modAcct k f s).store = s.store := (rfl)
@[simp] theorem modAcct_dram (k : Nat) (f : Acct → Acct) (s : State) : (modAcct k f s).dram = s.dram := (rfl)
@[simp] theorem modAcct_harv (k : Nat) (f : Acct → Acct) (s : State) : (modAcct k f s).harv = s.harv := (rfl)
@[simp] theorem modAcct_nand (k : Nat) (f : Acct → Acct) (s : State) : (modAcct k f s).nand = s.nand := (rfl)
@[simp] theorem modAcct_ret (k : Nat) (f : Acct → Acct) (s : State) : (modAcct k f s).ret = s.ret := (rfl)
@[simp] theorem modAcct_arr (k : Nat) (f : Acct → Acct) (s : State) : (modAcct k f s).arr = s.arr := (rfl)
@[simp] theorem modAcct_hive (k : Nat) (f : Acct → Acct) (s : State) : (modAcct k f s).hive = s.hive := (rfl)
@[simp] theorem modAcct_tally (k : Nat) (f : Acct → Acct) (s : State) : (modAcct k f s).tally = s.tally := (rfl)
@[simp] theorem modAcct_sec (k : Nat) (f : Acct → Acct) (s : State) : (modAcct k f s).sec = s.sec := (rfl)
@[simp] theorem modAcct_jtag (k : Nat) (f : Acct → Acct) (s : State) : (modAcct k f s).jtag = s.jtag := (rfl)
@[simp] theorem modAcct_orf (k : Nat) (f : Acct → Acct) (s : State) : (modAcct k f s).orf = s.orf := (rfl)
@[simp] theorem modAcct_weave (k : Nat) (f : Acct → Acct) (s : State) : (modAcct k f s).weave = s.weave := (rfl)
@[simp] theorem modAcct_pending (k : Nat) (f : Acct → Acct) (s : State) : (modAcct k f s).pending = s.pending := (rfl)
@[simp] theorem modAcct_free (k : Nat) (f : Acct → Acct) (s : State) : (modAcct k f s).free = s.free := (rfl)
@[simp] theorem modAcct_fr_epoch (k : Nat) (f : Acct → Acct) (s : State) : (modAcct k f s).fr.epoch = s.fr.epoch := (rfl)
@[simp] theorem modAcct_fr_running (k : Nat) (f : Acct → Acct) (s : State) : (modAcct k f s).fr.running = s.fr.running := (rfl)
@[simp] theorem modAcct_fr_rem (k : Nat) (f : Acct → Acct) (s : State) : (modAcct k f s).fr.rem = s.fr.rem := (rfl)
@[simp] theorem modAcct_fr_stopTick (k : Nat) (f : Acct → Acct) (s : State) : (modAcct k f s).fr.stopTick = s.fr.stopTick := (rfl)
@[simp] theorem modAcct_fr_wakeEpoch (k : Nat) (f : Acct → Acct) (s : State) : (modAcct k f s).fr.wakeEpoch = s.fr.wakeEpoch := (rfl)
@[simp] theorem modAcct_fr_gapSec (k : Nat) (f : Acct → Acct) (s : State) : (modAcct k f s).fr.gapSec = s.fr.gapSec := (rfl)
@[simp] theorem modAcct_fr_refLoss (k : Nat) (f : Acct → Acct) (s : State) : (modAcct k f s).fr.refLoss = s.fr.refLoss := (rfl)
@[simp] theorem modAcct_fr_refLossCnt (k : Nat) (f : Acct → Acct) (s : State) : (modAcct k f s).fr.refLossCnt = s.fr.refLossCnt := (rfl)
@[simp] theorem modAcct_fr_latchHi (k : Nat) (f : Acct → Acct) (s : State) : (modAcct k f s).fr.latchHi = s.fr.latchHi := (rfl)
@[simp] theorem modAcct_fr_orfHi (k : Nat) (f : Acct → Acct) (s : State) : (modAcct k f s).fr.orfHi = s.fr.orfHi := (rfl)
@[simp] theorem modAcct_fr_div (k : Nat) (f : Acct → Acct) (s : State) : (modAcct k f s).fr.div = s.fr.div := (rfl)
@[simp] theorem modAcct_fr_vdd (k : Nat) (f : Acct → Acct) (s : State) : (modAcct k f s).fr.vdd = s.fr.vdd := (rfl)
@[simp] theorem modAcct_fr_held (k : Nat) (f : Acct → Acct) (s : State) : (modAcct k f s).fr.held = s.fr.held := (rfl)
@[simp] theorem modAcct_fr_polOvr (k : Nat) (f : Acct → Acct) (s : State) : (modAcct k f s).fr.polOvr = s.fr.polOvr := (rfl)
@[simp] theorem modAcct_fr_ovrCount (k : Nat) (f : Acct → Acct) (s : State) : (modAcct k f s).fr.ovrCount = s.fr.ovrCount := (rfl)
@[simp] theorem modAcct_fr_inEpisode (k : Nat) (f : Acct → Acct) (s : State) : (modAcct k f s).fr.inEpisode = s.fr.inEpisode := (rfl)
@[simp] theorem modAcct_fr_queue (k : Nat) (f : Acct → Acct) (s : State) : (modAcct k f s).fr.queue = s.fr.queue := (rfl)
@[simp] theorem modAcct_fr_done (k : Nat) (f : Acct → Acct) (s : State) : (modAcct k f s).fr.done = s.fr.done := (rfl)

/-! modLane. -/

@[simp] theorem modLane_laneOf (k : Nat) (f : Lane → Lane) (s : State) : laneOf (modLane k f s) k = f (laneOf s k) :=
  Sparse.get_modify _ _ _ _
@[simp] theorem modLane_laneOf_ne {j k : Nat} (f : Lane → Lane) (s : State) (h : j ≠ k) : laneOf (modLane k f s) j = laneOf s j :=
  Sparse.get_modify_ne _ _ _ h
@[simp] theorem modLane_top (k : Nat) (f : Lane → Lane) (s : State) : (modLane k f s).top = s.top := (rfl)
@[simp] theorem modLane_conf (k : Nat) (f : Lane → Lane) (s : State) : (modLane k f s).conf = s.conf := (rfl)
@[simp] theorem modLane_fr (k : Nat) (f : Lane → Lane) (s : State) : (modLane k f s).fr = s.fr := (rfl)
@[simp] theorem modLane_host (k : Nat) (f : Lane → Lane) (s : State) : (modLane k f s).host = s.host := (rfl)
@[simp] theorem modLane_ring (k : Nat) (f : Lane → Lane) (s : State) : (modLane k f s).ring = s.ring := (rfl)
@[simp] theorem modLane_adm (k : Nat) (f : Lane → Lane) (s : State) : (modLane k f s).adm = s.adm := (rfl)
@[simp] theorem modLane_scout (k : Nat) (f : Lane → Lane) (s : State) : (modLane k f s).scout = s.scout := (rfl)
@[simp] theorem modLane_store (k : Nat) (f : Lane → Lane) (s : State) : (modLane k f s).store = s.store := (rfl)
@[simp] theorem modLane_dram (k : Nat) (f : Lane → Lane) (s : State) : (modLane k f s).dram = s.dram := (rfl)
@[simp] theorem modLane_nand (k : Nat) (f : Lane → Lane) (s : State) : (modLane k f s).nand = s.nand := (rfl)
@[simp] theorem modLane_ret (k : Nat) (f : Lane → Lane) (s : State) : (modLane k f s).ret = s.ret := (rfl)
@[simp] theorem modLane_arr (k : Nat) (f : Lane → Lane) (s : State) : (modLane k f s).arr = s.arr := (rfl)
@[simp] theorem modLane_hive (k : Nat) (f : Lane → Lane) (s : State) : (modLane k f s).hive = s.hive := (rfl)
@[simp] theorem modLane_tally (k : Nat) (f : Lane → Lane) (s : State) : (modLane k f s).tally = s.tally := (rfl)
@[simp] theorem modLane_sec (k : Nat) (f : Lane → Lane) (s : State) : (modLane k f s).sec = s.sec := (rfl)
@[simp] theorem modLane_jtag (k : Nat) (f : Lane → Lane) (s : State) : (modLane k f s).jtag = s.jtag := (rfl)
@[simp] theorem modLane_orf (k : Nat) (f : Lane → Lane) (s : State) : (modLane k f s).orf = s.orf := (rfl)
@[simp] theorem modLane_weave (k : Nat) (f : Lane → Lane) (s : State) : (modLane k f s).weave = s.weave := (rfl)
@[simp] theorem modLane_pending (k : Nat) (f : Lane → Lane) (s : State) : (modLane k f s).pending = s.pending := (rfl)
@[simp] theorem modLane_free (k : Nat) (f : Lane → Lane) (s : State) : (modLane k f s).free = s.free := (rfl)
@[simp] theorem modLane_harv_phase (k : Nat) (f : Lane → Lane) (s : State) : (modLane k f s).harv.phase = s.harv.phase := (rfl)
@[simp] theorem modLane_harv_cutoff (k : Nat) (f : Lane → Lane) (s : State) : (modLane k f s).harv.cutoff = s.harv.cutoff := (rfl)
@[simp] theorem modLane_harv_loss (k : Nat) (f : Lane → Lane) (s : State) : (modLane k f s).harv.loss = s.harv.loss := (rfl)
@[simp] theorem modLane_harv_wet (k : Nat) (f : Lane → Lane) (s : State) : (modLane k f s).harv.wet = s.harv.wet := (rfl)
@[simp] theorem modLane_harv_trickle (k : Nat) (f : Lane → Lane) (s : State) : (modLane k f s).harv.trickle = s.harv.trickle := (rfl)
@[simp] theorem modLane_harv_catFail (k : Nat) (f : Lane → Lane) (s : State) : (modLane k f s).harv.catFail = s.harv.catFail := (rfl)
@[simp] theorem modLane_harv_saved (k : Nat) (f : Lane → Lane) (s : State) : (modLane k f s).harv.saved = s.harv.saved := (rfl)
@[simp] theorem modLane_harv_lost (k : Nat) (f : Lane → Lane) (s : State) : (modLane k f s).harv.lost = s.harv.lost := (rfl)
@[simp] theorem modLane_harv_atRisk (k : Nat) (f : Lane → Lane) (s : State) : (modLane k f s).harv.atRisk = s.harv.atRisk := (rfl)
@[simp] theorem modLane_harv_combId (k : Nat) (f : Lane → Lane) (s : State) : (modLane k f s).harv.combId = s.harv.combId := (rfl)
@[simp] theorem modLane_harv_plan (k : Nat) (f : Lane → Lane) (s : State) : (modLane k f s).harv.plan = s.harv.plan := (rfl)
@[simp] theorem modLane_harv_lastLane (k : Nat) (f : Lane → Lane) (s : State) : (modLane k f s).harv.lastLane = s.harv.lastLane := (rfl)
@[simp] theorem modLane_harv_lossList (k : Nat) (f : Lane → Lane) (s : State) : (modLane k f s).harv.lossList = s.harv.lossList := (rfl)
@[simp] theorem modLane_harv_caps (k : Nat) (f : Lane → Lane) (s : State) : (modLane k f s).harv.caps = s.harv.caps := (rfl)
@[simp] theorem modLane_harv_causes (k : Nat) (f : Lane → Lane) (s : State) : (modLane k f s).harv.causes = s.harv.causes := (rfl)
@[simp] theorem modLane_harv_tripEpoch (k : Nat) (f : Lane → Lane) (s : State) : (modLane k f s).harv.tripEpoch = s.harv.tripEpoch := (rfl)
@[simp] theorem modLane_harv_sealStep (k : Nat) (f : Lane → Lane) (s : State) : (modLane k f s).harv.sealStep = s.harv.sealStep := (rfl)
@[simp] theorem modLane_harv_sealWait (k : Nat) (f : Lane → Lane) (s : State) : (modLane k f s).harv.sealWait = s.harv.sealWait := (rfl)
@[simp] theorem modLane_harv_sealOk (k : Nat) (f : Lane → Lane) (s : State) : (modLane k f s).harv.sealOk = s.harv.sealOk := (rfl)
@[simp] theorem modLane_harv_isStop (k : Nat) (f : Lane → Lane) (s : State) : (modLane k f s).harv.isStop = s.harv.isStop := (rfl)
@[simp] theorem modLane_harv_killLater (k : Nat) (f : Lane → Lane) (s : State) : (modLane k f s).harv.killLater = s.harv.killLater := (rfl)
@[simp] theorem modLane_harv_wasWet (k : Nat) (f : Lane → Lane) (s : State) : (modLane k f s).harv.wasWet = s.harv.wasWet := (rfl)
@[simp] theorem modLane_harv_back (k : Nat) (f : Lane → Lane) (s : State) : (modLane k f s).harv.back = s.harv.back := (rfl)
@[simp] theorem modLane_harv_scanKey (k : Nat) (f : Lane → Lane) (s : State) : (modLane k f s).harv.scanKey = s.harv.scanKey := (rfl)
@[simp] theorem modLane_harv_scanCell (k : Nat) (f : Lane → Lane) (s : State) : (modLane k f s).harv.scanCell = s.harv.scanCell := (rfl)
@[simp] theorem modLane_harv_scanned (k : Nat) (f : Lane → Lane) (s : State) : (modLane k f s).harv.scanned = s.harv.scanned := (rfl)
@[simp] theorem modLane_harv_keyFrames (k : Nat) (f : Lane → Lane) (s : State) : (modLane k f s).harv.keyFrames = s.harv.keyFrames := (rfl)
@[simp] theorem modLane_harv_trip (k : Nat) (f : Lane → Lane) (s : State) : (modLane k f s).harv.trip = s.harv.trip := (rfl)
@[simp] theorem modLane_harv_header (k : Nat) (f : Lane → Lane) (s : State) : (modLane k f s).harv.header = s.harv.header := (rfl)
@[simp] theorem modLane_harv_hdrPage (k : Nat) (f : Lane → Lane) (s : State) : (modLane k f s).harv.hdrPage = s.harv.hdrPage := (rfl)
@[simp] theorem modLane_harv_bitmap (k : Nat) (f : Lane → Lane) (s : State) : (modLane k f s).harv.bitmap = s.harv.bitmap := (rfl)
@[simp] theorem modLane_harv_trkScan (k : Nat) (f : Lane → Lane) (s : State) : (modLane k f s).harv.trkScan = s.harv.trkScan := (rfl)
@[simp] theorem modLane_harv_sealFail (k : Nat) (f : Lane → Lane) (s : State) : (modLane k f s).harv.sealFail = s.harv.sealFail := (rfl)
@[simp] theorem modLane_harv_sealBytes (k : Nat) (f : Lane → Lane) (s : State) : (modLane k f s).harv.sealBytes = s.harv.sealBytes := (rfl)

/-! modPeer. -/

@[simp] theorem modPeer_peerOf (k : Nat) (f : Peer → Peer) (s : State) : peerOf (modPeer k f s) k = f (peerOf s k) :=
  Sparse.get_modify _ _ _ _
@[simp] theorem modPeer_peerOf_ne {j k : Nat} (f : Peer → Peer) (s : State) (h : j ≠ k) : peerOf (modPeer k f s) j = peerOf s j :=
  Sparse.get_modify_ne _ _ _ h
@[simp] theorem modPeer_top (k : Nat) (f : Peer → Peer) (s : State) : (modPeer k f s).top = s.top := (rfl)
@[simp] theorem modPeer_conf (k : Nat) (f : Peer → Peer) (s : State) : (modPeer k f s).conf = s.conf := (rfl)
@[simp] theorem modPeer_fr (k : Nat) (f : Peer → Peer) (s : State) : (modPeer k f s).fr = s.fr := (rfl)
@[simp] theorem modPeer_host (k : Nat) (f : Peer → Peer) (s : State) : (modPeer k f s).host = s.host := (rfl)
@[simp] theorem modPeer_ring (k : Nat) (f : Peer → Peer) (s : State) : (modPeer k f s).ring = s.ring := (rfl)
@[simp] theorem modPeer_adm (k : Nat) (f : Peer → Peer) (s : State) : (modPeer k f s).adm = s.adm := (rfl)
@[simp] theorem modPeer_scout (k : Nat) (f : Peer → Peer) (s : State) : (modPeer k f s).scout = s.scout := (rfl)
@[simp] theorem modPeer_store (k : Nat) (f : Peer → Peer) (s : State) : (modPeer k f s).store = s.store := (rfl)
@[simp] theorem modPeer_dram (k : Nat) (f : Peer → Peer) (s : State) : (modPeer k f s).dram = s.dram := (rfl)
@[simp] theorem modPeer_harv (k : Nat) (f : Peer → Peer) (s : State) : (modPeer k f s).harv = s.harv := (rfl)
@[simp] theorem modPeer_nand (k : Nat) (f : Peer → Peer) (s : State) : (modPeer k f s).nand = s.nand := (rfl)
@[simp] theorem modPeer_ret (k : Nat) (f : Peer → Peer) (s : State) : (modPeer k f s).ret = s.ret := (rfl)
@[simp] theorem modPeer_arr (k : Nat) (f : Peer → Peer) (s : State) : (modPeer k f s).arr = s.arr := (rfl)
@[simp] theorem modPeer_hive (k : Nat) (f : Peer → Peer) (s : State) : (modPeer k f s).hive = s.hive := (rfl)
@[simp] theorem modPeer_tally (k : Nat) (f : Peer → Peer) (s : State) : (modPeer k f s).tally = s.tally := (rfl)
@[simp] theorem modPeer_sec (k : Nat) (f : Peer → Peer) (s : State) : (modPeer k f s).sec = s.sec := (rfl)
@[simp] theorem modPeer_jtag (k : Nat) (f : Peer → Peer) (s : State) : (modPeer k f s).jtag = s.jtag := (rfl)
@[simp] theorem modPeer_orf (k : Nat) (f : Peer → Peer) (s : State) : (modPeer k f s).orf = s.orf := (rfl)
@[simp] theorem modPeer_pending (k : Nat) (f : Peer → Peer) (s : State) : (modPeer k f s).pending = s.pending := (rfl)
@[simp] theorem modPeer_free (k : Nat) (f : Peer → Peer) (s : State) : (modPeer k f s).free = s.free := (rfl)
@[simp] theorem modPeer_weave_myId (k : Nat) (f : Peer → Peer) (s : State) : (modPeer k f s).weave.myId = s.weave.myId := (rfl)
@[simp] theorem modPeer_weave_masterId (k : Nat) (f : Peer → Peer) (s : State) : (modPeer k f s).weave.masterId = s.weave.masterId := (rfl)
@[simp] theorem modPeer_weave_isMaster (k : Nat) (f : Peer → Peer) (s : State) : (modPeer k f s).weave.isMaster = s.weave.isMaster := (rfl)
@[simp] theorem modPeer_weave_ringOk (k : Nat) (f : Peer → Peer) (s : State) : (modPeer k f s).weave.ringOk = s.weave.ringOk := (rfl)
@[simp] theorem modPeer_weave_lock (k : Nat) (f : Peer → Peer) (s : State) : (modPeer k f s).weave.lock = s.weave.lock := (rfl)
@[simp] theorem modPeer_weave_joined (k : Nat) (f : Peer → Peer) (s : State) : (modPeer k f s).weave.joined = s.weave.joined := (rfl)
@[simp] theorem modPeer_weave_frozen (k : Nat) (f : Peer → Peer) (s : State) : (modPeer k f s).weave.frozen = s.weave.frozen := (rfl)
@[simp] theorem modPeer_weave_armed (k : Nat) (f : Peer → Peer) (s : State) : (modPeer k f s).weave.armed = s.weave.armed := (rfl)
@[simp] theorem modPeer_weave_lineLow (k : Nat) (f : Peer → Peer) (s : State) : (modPeer k f s).weave.lineLow = s.weave.lineLow := (rfl)
@[simp] theorem modPeer_weave_drive (k : Nat) (f : Peer → Peer) (s : State) : (modPeer k f s).weave.drive = s.weave.drive := (rfl)
@[simp] theorem modPeer_weave_dupId (k : Nat) (f : Peer → Peer) (s : State) : (modPeer k f s).weave.dupId = s.weave.dupId := (rfl)
@[simp] theorem modPeer_weave_cfgMis (k : Nat) (f : Peer → Peer) (s : State) : (modPeer k f s).weave.cfgMis = s.weave.cfgMis := (rfl)
@[simp] theorem modPeer_weave_noChg (k : Nat) (f : Peer → Peer) (s : State) : (modPeer k f s).weave.noChg = s.weave.noChg := (rfl)
@[simp] theorem modPeer_weave_frac (k : Nat) (f : Peer → Peer) (s : State) : (modPeer k f s).weave.frac = s.weave.frac := (rfl)
@[simp] theorem modPeer_weave_nextFrac (k : Nat) (f : Peer → Peer) (s : State) : (modPeer k f s).weave.nextFrac = s.weave.nextFrac := (rfl)
@[simp] theorem modPeer_weave_store (k : Nat) (f : Peer → Peer) (s : State) : (modPeer k f s).weave.store = s.weave.store := (rfl)
@[simp] theorem modPeer_weave_storeAge (k : Nat) (f : Peer → Peer) (s : State) : (modPeer k f s).weave.storeAge = s.weave.storeAge := (rfl)
@[simp] theorem modPeer_weave_storeWake (k : Nat) (f : Peer → Peer) (s : State) : (modPeer k f s).weave.storeWake = s.weave.storeWake := (rfl)
@[simp] theorem modPeer_weave_err (k : Nat) (f : Peer → Peer) (s : State) : (modPeer k f s).weave.err = s.weave.err := (rfl)
@[simp] theorem modPeer_weave_inLock (k : Nat) (f : Peer → Peer) (s : State) : (modPeer k f s).weave.inLock = s.weave.inLock := (rfl)
@[simp] theorem modPeer_weave_noTick (k : Nat) (f : Peer → Peer) (s : State) : (modPeer k f s).weave.noTick = s.weave.noTick := (rfl)
@[simp] theorem modPeer_weave_noLower (k : Nat) (f : Peer → Peer) (s : State) : (modPeer k f s).weave.noLower = s.weave.noLower := (rfl)
@[simp] theorem modPeer_weave_noRing (k : Nat) (f : Peer → Peer) (s : State) : (modPeer k f s).weave.noRing = s.weave.noRing := (rfl)
@[simp] theorem modPeer_weave_ownBack (k : Nat) (f : Peer → Peer) (s : State) : (modPeer k f s).weave.ownBack = s.weave.ownBack := (rfl)
@[simp] theorem modPeer_weave_offset (k : Nat) (f : Peer → Peer) (s : State) : (modPeer k f s).weave.offset = s.weave.offset := (rfl)
@[simp] theorem modPeer_weave_delayOut (k : Nat) (f : Peer → Peer) (s : State) : (modPeer k f s).weave.delayOut = s.weave.delayOut := (rfl)
@[simp] theorem modPeer_weave_sync (k : Nat) (f : Peer → Peer) (s : State) : (modPeer k f s).weave.sync = s.weave.sync := (rfl)
@[simp] theorem modPeer_weave_handled (k : Nat) (f : Peer → Peer) (s : State) : (modPeer k f s).weave.handled = s.weave.handled := (rfl)
@[simp] theorem modPeer_weave_highs (k : Nat) (f : Peer → Peer) (s : State) : (modPeer k f s).weave.highs = s.weave.highs := (rfl)
@[simp] theorem modPeer_weave_lows (k : Nat) (f : Peer → Peer) (s : State) : (modPeer k f s).weave.lows = s.weave.lows := (rfl)
@[simp] theorem modPeer_weave_lowFrames (k : Nat) (f : Peer → Peer) (s : State) : (modPeer k f s).weave.lowFrames = s.weave.lowFrames := (rfl)
@[simp] theorem modPeer_weave_lowSent (k : Nat) (f : Peer → Peer) (s : State) : (modPeer k f s).weave.lowSent = s.weave.lowSent := (rfl)
@[simp] theorem modPeer_weave_tickMaster (k : Nat) (f : Peer → Peer) (s : State) : (modPeer k f s).weave.tickMaster = s.weave.tickMaster := (rfl)
@[simp] theorem modPeer_weave_tickSeen (k : Nat) (f : Peer → Peer) (s : State) : (modPeer k f s).weave.tickSeen = s.weave.tickSeen := (rfl)
@[simp] theorem modPeer_weave_lowSeen (k : Nat) (f : Peer → Peer) (s : State) : (modPeer k f s).weave.lowSeen = s.weave.lowSeen := (rfl)
@[simp] theorem modPeer_weave_abdicate (k : Nat) (f : Peer → Peer) (s : State) : (modPeer k f s).weave.abdicate = s.weave.abdicate := (rfl)
@[simp] theorem modPeer_weave_freeze (k : Nat) (f : Peer → Peer) (s : State) : (modPeer k f s).weave.freeze = s.weave.freeze := (rfl)
@[simp] theorem modPeer_weave_plan (k : Nat) (f : Peer → Peer) (s : State) : (modPeer k f s).weave.plan = s.weave.plan := (rfl)
@[simp] theorem modPeer_weave_sent (k : Nat) (f : Peer → Peer) (s : State) : (modPeer k f s).weave.sent = s.weave.sent := (rfl)
@[simp] theorem modPeer_weave_slotOut (k : Nat) (f : Peer → Peer) (s : State) : (modPeer k f s).weave.slotOut = s.weave.slotOut := (rfl)
@[simp] theorem modPeer_weave_tickOut (k : Nat) (f : Peer → Peer) (s : State) : (modPeer k f s).weave.tickOut = s.weave.tickOut := (rfl)

/-! setCore. -/

@[simp] theorem setCore_top (b : Bool) (c : Core) (s : State) : (setCore b c s).top = s.top := by cases b <;> rfl
@[simp] theorem setCore_conf (b : Bool) (c : Core) (s : State) : (setCore b c s).conf = s.conf := by cases b <;> rfl
@[simp] theorem setCore_fr (b : Bool) (c : Core) (s : State) : (setCore b c s).fr = s.fr := by cases b <;> rfl
@[simp] theorem setCore_host (b : Bool) (c : Core) (s : State) : (setCore b c s).host = s.host := by cases b <;> rfl
@[simp] theorem setCore_ring (b : Bool) (c : Core) (s : State) : (setCore b c s).ring = s.ring := by cases b <;> rfl
@[simp] theorem setCore_adm (b : Bool) (c : Core) (s : State) : (setCore b c s).adm = s.adm := by cases b <;> rfl
@[simp] theorem setCore_scout (b : Bool) (c : Core) (s : State) : (setCore b c s).scout = s.scout := by cases b <;> rfl
@[simp] theorem setCore_store (b : Bool) (c : Core) (s : State) : (setCore b c s).store = s.store := by cases b <;> rfl
@[simp] theorem setCore_dram (b : Bool) (c : Core) (s : State) : (setCore b c s).dram = s.dram := by cases b <;> rfl
@[simp] theorem setCore_harv (b : Bool) (c : Core) (s : State) : (setCore b c s).harv = s.harv := by cases b <;> rfl
@[simp] theorem setCore_nand (b : Bool) (c : Core) (s : State) : (setCore b c s).nand = s.nand := by cases b <;> rfl
@[simp] theorem setCore_ret (b : Bool) (c : Core) (s : State) : (setCore b c s).ret = s.ret := by cases b <;> rfl
@[simp] theorem setCore_arr (b : Bool) (c : Core) (s : State) : (setCore b c s).arr = s.arr := by cases b <;> rfl
@[simp] theorem setCore_tally (b : Bool) (c : Core) (s : State) : (setCore b c s).tally = s.tally := by cases b <;> rfl
@[simp] theorem setCore_sec (b : Bool) (c : Core) (s : State) : (setCore b c s).sec = s.sec := by cases b <;> rfl
@[simp] theorem setCore_jtag (b : Bool) (c : Core) (s : State) : (setCore b c s).jtag = s.jtag := by cases b <;> rfl
@[simp] theorem setCore_orf (b : Bool) (c : Core) (s : State) : (setCore b c s).orf = s.orf := by cases b <;> rfl
@[simp] theorem setCore_weave (b : Bool) (c : Core) (s : State) : (setCore b c s).weave = s.weave := by cases b <;> rfl
@[simp] theorem setCore_pending (b : Bool) (c : Core) (s : State) : (setCore b c s).pending = s.pending := by cases b <;> rfl
@[simp] theorem setCore_free (b : Bool) (c : Core) (s : State) : (setCore b c s).free = s.free := by cases b <;> rfl
@[simp] theorem coreOf_setCore (b : Bool) (c : Core) (s : State) : coreOf (setCore b c s) b = c := by cases b <;> rfl
@[simp] theorem coreOf_setCore_other (b : Bool) (c : Core) (s : State) : coreOf (setCore b c s) (!b) = coreOf s (!b) := by
  cases b <;> rfl

end Sys2Proof.Machine
end

