-- ==== Sys2Proof/Laws/Ops.lean ====
section
/-! SUPPORT. What the shared operations of Machine/Ops.lean can never change: an interrupt, a record, an event, a Tally message
and a rejection leave every block but the interface, the rings, the ledger, Tally, Scout's Tally trip and the line driver. -/

namespace Sys2Proof.Machine

section
variable (c : Prop) [Decidable c] (a b : State)

@[simp] theorem conf_ite : (if c then a else b).conf = if c then a.conf else b.conf := apply_ite _ _ _ _
@[simp] theorem adm_ite : (if c then a else b).adm = if c then a.adm else b.adm := apply_ite _ _ _ _
@[simp] theorem store_ite : (if c then a else b).store = if c then a.store else b.store := apply_ite _ _ _ _
@[simp] theorem dram_ite : (if c then a else b).dram = if c then a.dram else b.dram := apply_ite _ _ _ _
@[simp] theorem harv_ite : (if c then a else b).harv = if c then a.harv else b.harv := apply_ite _ _ _ _
@[simp] theorem nand_ite : (if c then a else b).nand = if c then a.nand else b.nand := apply_ite _ _ _ _
@[simp] theorem ret_ite : (if c then a else b).ret = if c then a.ret else b.ret := apply_ite _ _ _ _
@[simp] theorem arr_ite : (if c then a else b).arr = if c then a.arr else b.arr := apply_ite _ _ _ _
@[simp] theorem hive_ite : (if c then a else b).hive = if c then a.hive else b.hive := apply_ite _ _ _ _
@[simp] theorem sec_ite : (if c then a else b).sec = if c then a.sec else b.sec := apply_ite _ _ _ _
@[simp] theorem jtag_ite : (if c then a else b).jtag = if c then a.jtag else b.jtag := apply_ite _ _ _ _
@[simp] theorem orf_ite : (if c then a else b).orf = if c then a.orf else b.orf := apply_ite _ _ _ _
@[simp] theorem free_ite : (if c then a else b).free = if c then a.free else b.free := apply_ite _ _ _ _
@[simp] theorem scout_ite : (if c then a else b).scout = if c then a.scout else b.scout := apply_ite _ _ _ _
@[simp] theorem host_ite : (if c then a else b).host = if c then a.host else b.host := apply_ite _ _ _ _
@[simp] theorem ring_ite : (if c then a else b).ring = if c then a.ring else b.ring := apply_ite _ _ _ _
@[simp] theorem tally_ite : (if c then a else b).tally = if c then a.tally else b.tally := apply_ite _ _ _ _
@[simp] theorem weave_ite : (if c then a else b).weave = if c then a.weave else b.weave := apply_ite _ _ _ _

end

section
variable {β : Type} (f : State → β → State)

@[simp] theorem foldl_conf (h : ∀ s x, (f s x).conf = s.conf) (l : List β) (s : State) :
    (l.foldl f s).conf = s.conf := foldl_proj f (·.conf) h l s
@[simp] theorem foldl_adm (h : ∀ s x, (f s x).adm = s.adm) (l : List β) (s : State) :
    (l.foldl f s).adm = s.adm := foldl_proj f (·.adm) h l s
@[simp] theorem foldl_store (h : ∀ s x, (f s x).store = s.store) (l : List β) (s : State) :
    (l.foldl f s).store = s.store := foldl_proj f (·.store) h l s
@[simp] theorem foldl_dram (h : ∀ s x, (f s x).dram = s.dram) (l : List β) (s : State) :
    (l.foldl f s).dram = s.dram := foldl_proj f (·.dram) h l s
@[simp] theorem foldl_harv (h : ∀ s x, (f s x).harv = s.harv) (l : List β) (s : State) :
    (l.foldl f s).harv = s.harv := foldl_proj f (·.harv) h l s
@[simp] theorem foldl_nand (h : ∀ s x, (f s x).nand = s.nand) (l : List β) (s : State) :
    (l.foldl f s).nand = s.nand := foldl_proj f (·.nand) h l s
@[simp] theorem foldl_ret (h : ∀ s x, (f s x).ret = s.ret) (l : List β) (s : State) :
    (l.foldl f s).ret = s.ret := foldl_proj f (·.ret) h l s
@[simp] theorem foldl_arr (h : ∀ s x, (f s x).arr = s.arr) (l : List β) (s : State) :
    (l.foldl f s).arr = s.arr := foldl_proj f (·.arr) h l s
@[simp] theorem foldl_hive (h : ∀ s x, (f s x).hive = s.hive) (l : List β) (s : State) :
    (l.foldl f s).hive = s.hive := foldl_proj f (·.hive) h l s
@[simp] theorem foldl_sec (h : ∀ s x, (f s x).sec = s.sec) (l : List β) (s : State) :
    (l.foldl f s).sec = s.sec := foldl_proj f (·.sec) h l s
@[simp] theorem foldl_jtag (h : ∀ s x, (f s x).jtag = s.jtag) (l : List β) (s : State) :
    (l.foldl f s).jtag = s.jtag := foldl_proj f (·.jtag) h l s
@[simp] theorem foldl_orf (h : ∀ s x, (f s x).orf = s.orf) (l : List β) (s : State) :
    (l.foldl f s).orf = s.orf := foldl_proj f (·.orf) h l s
@[simp] theorem foldl_free (h : ∀ s x, (f s x).free = s.free) (l : List β) (s : State) :
    (l.foldl f s).free = s.free := foldl_proj f (·.free) h l s
@[simp] theorem foldl_top (h : ∀ s x, (f s x).top = s.top) (l : List β) (s : State) :
    (l.foldl f s).top = s.top := foldl_proj f (·.top) h l s
@[simp] theorem foldl_fr (h : ∀ s x, (f s x).fr = s.fr) (l : List β) (s : State) :
    (l.foldl f s).fr = s.fr := foldl_proj f (·.fr) h l s
@[simp] theorem foldl_scout (h : ∀ s x, (f s x).scout = s.scout) (l : List β) (s : State) :
    (l.foldl f s).scout = s.scout := foldl_proj f (·.scout) h l s
@[simp] theorem foldl_host (h : ∀ s x, (f s x).host = s.host) (l : List β) (s : State) :
    (l.foldl f s).host = s.host := foldl_proj f (·.host) h l s
@[simp] theorem foldl_ring (h : ∀ s x, (f s x).ring = s.ring) (l : List β) (s : State) :
    (l.foldl f s).ring = s.ring := foldl_proj f (·.ring) h l s
@[simp] theorem foldl_tally (h : ∀ s x, (f s x).tally = s.tally) (l : List β) (s : State) :
    (l.foldl f s).tally = s.tally := foldl_proj f (·.tally) h l s
@[simp] theorem foldl_weave (h : ∀ s x, (f s x).weave = s.weave) (l : List β) (s : State) :
    (l.foldl f s).weave = s.weave := foldl_proj f (·.weave) h l s

end

theorem injectMany_blocks (chk : Nat) : ∀ (n : Nat) (s : State),
    (injectMany chk n s).1.conf = s.conf ∧ (injectMany chk n s).1.adm = s.adm ∧ (injectMany chk n s).1.store = s.store ∧
    (injectMany chk n s).1.dram = s.dram ∧ (injectMany chk n s).1.harv = s.harv ∧ (injectMany chk n s).1.nand = s.nand ∧
    (injectMany chk n s).1.ret = s.ret ∧ (injectMany chk n s).1.arr = s.arr ∧ (injectMany chk n s).1.hive = s.hive ∧
    (injectMany chk n s).1.sec = s.sec ∧ (injectMany chk n s).1.jtag = s.jtag ∧ (injectMany chk n s).1.orf = s.orf ∧
    (injectMany chk n s).1.pending = s.pending ∧ (injectMany chk n s).1.free = s.free
  | 0, s => by simp [injectMany]
  | n + 1, s => by
    have h := injectMany_blocks chk n s
    simp only [injectMany, injectUse]
    split <;> simp [h]

@[simp] theorem setInt_blocks (i : Nat) (s : State) :
    (setInt i s).conf = s.conf ∧ (setInt i s).adm = s.adm ∧ (setInt i s).store = s.store ∧
    (setInt i s).dram = s.dram ∧ (setInt i s).harv = s.harv ∧ (setInt i s).nand = s.nand ∧
    (setInt i s).ret = s.ret ∧ (setInt i s).arr = s.arr ∧ (setInt i s).hive = s.hive ∧
    (setInt i s).sec = s.sec ∧ (setInt i s).jtag = s.jtag ∧ (setInt i s).orf = s.orf ∧
    (setInt i s).pending = s.pending ∧ (setInt i s).free = s.free := by
  simp [setInt]

@[simp] theorem hintFollow_blocks (s : State) :
    (hintFollow s).conf = s.conf ∧ (hintFollow s).adm = s.adm ∧ (hintFollow s).store = s.store ∧
    (hintFollow s).dram = s.dram ∧ (hintFollow s).harv = s.harv ∧ (hintFollow s).nand = s.nand ∧
    (hintFollow s).ret = s.ret ∧ (hintFollow s).arr = s.arr ∧ (hintFollow s).hive = s.hive ∧
    (hintFollow s).sec = s.sec ∧ (hintFollow s).jtag = s.jtag ∧ (hintFollow s).orf = s.orf ∧
    (hintFollow s).pending = s.pending ∧ (hintFollow s).free = s.free := by
  simp [hintFollow]

@[simp] theorem logAt_blocks (ep : Epoch) (type : Nat) (x : BitVec 8) (arg0 : BitVec 16) (arg1 : Word) (s : State) :
    (logAt ep type x arg0 arg1 s).conf = s.conf ∧ (logAt ep type x arg0 arg1 s).adm = s.adm ∧ (logAt ep type x arg0 arg1 s).store = s.store ∧
    (logAt ep type x arg0 arg1 s).dram = s.dram ∧ (logAt ep type x arg0 arg1 s).harv = s.harv ∧ (logAt ep type x arg0 arg1 s).nand = s.nand ∧
    (logAt ep type x arg0 arg1 s).ret = s.ret ∧ (logAt ep type x arg0 arg1 s).arr = s.arr ∧ (logAt ep type x arg0 arg1 s).hive = s.hive ∧
    (logAt ep type x arg0 arg1 s).sec = s.sec ∧ (logAt ep type x arg0 arg1 s).jtag = s.jtag ∧ (logAt ep type x arg0 arg1 s).orf = s.orf ∧
    (logAt ep type x arg0 arg1 s).pending = s.pending ∧ (logAt ep type x arg0 arg1 s).free = s.free := by
  simp [logAt]

@[simp] theorem logRec_blocks (type : Nat) (x : BitVec 8) (arg0 : BitVec 16) (arg1 : Word) (s : State) :
    (logRec type x arg0 arg1 s).conf = s.conf ∧ (logRec type x arg0 arg1 s).adm = s.adm ∧ (logRec type x arg0 arg1 s).store = s.store ∧
    (logRec type x arg0 arg1 s).dram = s.dram ∧ (logRec type x arg0 arg1 s).harv = s.harv ∧ (logRec type x arg0 arg1 s).nand = s.nand ∧
    (logRec type x arg0 arg1 s).ret = s.ret ∧ (logRec type x arg0 arg1 s).arr = s.arr ∧ (logRec type x arg0 arg1 s).hive = s.hive ∧
    (logRec type x arg0 arg1 s).sec = s.sec ∧ (logRec type x arg0 arg1 s).jtag = s.jtag ∧ (logRec type x arg0 arg1 s).orf = s.orf ∧
    (logRec type x arg0 arg1 s).pending = s.pending ∧ (logRec type x arg0 arg1 s).free = s.free := by
  simp [logRec]

@[simp] theorem spend_blocks (res : Nat) (n : Nat) (s : State) :
    (spend res n s).conf = s.conf ∧ (spend res n s).adm = s.adm ∧ (spend res n s).store = s.store ∧
    (spend res n s).dram = s.dram ∧ (spend res n s).harv = s.harv ∧ (spend res n s).nand = s.nand ∧
    (spend res n s).ret = s.ret ∧ (spend res n s).arr = s.arr ∧ (spend res n s).hive = s.hive ∧
    (spend res n s).sec = s.sec ∧ (spend res n s).jtag = s.jtag ∧ (spend res n s).orf = s.orf ∧
    (spend res n s).pending = s.pending ∧ (spend res n s).free = s.free := by
  simp [spend]

@[simp] theorem injectUse_blocks (chk : Nat) (s : State) :
    (injectUse chk s).1.conf = s.conf ∧ (injectUse chk s).1.adm = s.adm ∧ (injectUse chk s).1.store = s.store ∧
    (injectUse chk s).1.dram = s.dram ∧ (injectUse chk s).1.harv = s.harv ∧ (injectUse chk s).1.nand = s.nand ∧
    (injectUse chk s).1.ret = s.ret ∧ (injectUse chk s).1.arr = s.arr ∧ (injectUse chk s).1.hive = s.hive ∧
    (injectUse chk s).1.sec = s.sec ∧ (injectUse chk s).1.jtag = s.jtag ∧ (injectUse chk s).1.orf = s.orf ∧
    (injectUse chk s).1.pending = s.pending ∧ (injectUse chk s).1.free = s.free := by
  simp [injectUse]

@[simp] theorem putEvent_blocks (r : Nat) (e : Entry) (unsol : Bool) (notify : Bool) (s : State) :
    (putEvent r e unsol notify s).conf = s.conf ∧ (putEvent r e unsol notify s).adm = s.adm ∧ (putEvent r e unsol notify s).store = s.store ∧
    (putEvent r e unsol notify s).dram = s.dram ∧ (putEvent r e unsol notify s).harv = s.harv ∧ (putEvent r e unsol notify s).nand = s.nand ∧
    (putEvent r e unsol notify s).ret = s.ret ∧ (putEvent r e unsol notify s).arr = s.arr ∧ (putEvent r e unsol notify s).hive = s.hive ∧
    (putEvent r e unsol notify s).sec = s.sec ∧ (putEvent r e unsol notify s).jtag = s.jtag ∧ (putEvent r e unsol notify s).orf = s.orf ∧
    (putEvent r e unsol notify s).pending = s.pending ∧ (putEvent r e unsol notify s).free = s.free := by
  simp [putEvent, injectMany_blocks]

@[simp] theorem postEvent_blocks (u : Unsol) (s : State) :
    (postEvent u s).conf = s.conf ∧ (postEvent u s).adm = s.adm ∧ (postEvent u s).store = s.store ∧
    (postEvent u s).dram = s.dram ∧ (postEvent u s).harv = s.harv ∧ (postEvent u s).nand = s.nand ∧
    (postEvent u s).ret = s.ret ∧ (postEvent u s).arr = s.arr ∧ (postEvent u s).hive = s.hive ∧
    (postEvent u s).sec = s.sec ∧ (postEvent u s).jtag = s.jtag ∧ (postEvent u s).orf = s.orf ∧
    (postEvent u s).pending = s.pending ∧ (postEvent u s).free = s.free := by
  simp only [postEvent]; (repeat' split) <;> simp

@[simp] theorem postOrWait_blocks (u : Unsol) (s : State) :
    (postOrWait u s).conf = s.conf ∧ (postOrWait u s).adm = s.adm ∧ (postOrWait u s).store = s.store ∧
    (postOrWait u s).dram = s.dram ∧ (postOrWait u s).harv = s.harv ∧ (postOrWait u s).nand = s.nand ∧
    (postOrWait u s).ret = s.ret ∧ (postOrWait u s).arr = s.arr ∧ (postOrWait u s).hive = s.hive ∧
    (postOrWait u s).sec = s.sec ∧ (postOrWait u s).jtag = s.jtag ∧ (postOrWait u s).orf = s.orf ∧
    (postOrWait u s).pending = s.pending ∧ (postOrWait u s).free = s.free := by
  simp only [postOrWait]; (repeat' split) <;> simp

@[simp] theorem broadcast_blocks (op : Nat) (flags : Nat) (w1 : Nat → Word) (s : State) :
    (broadcast op flags w1 s).conf = s.conf ∧ (broadcast op flags w1 s).adm = s.adm ∧
    (broadcast op flags w1 s).store = s.store ∧ (broadcast op flags w1 s).dram = s.dram ∧
    (broadcast op flags w1 s).harv = s.harv ∧ (broadcast op flags w1 s).nand = s.nand ∧
    (broadcast op flags w1 s).ret = s.ret ∧ (broadcast op flags w1 s).arr = s.arr ∧
    (broadcast op flags w1 s).hive = s.hive ∧ (broadcast op flags w1 s).sec = s.sec ∧
    (broadcast op flags w1 s).jtag = s.jtag ∧ (broadcast op flags w1 s).orf = s.orf ∧
    (broadcast op flags w1 s).pending = s.pending ∧ (broadcast op flags w1 s).free = s.free := by
  simp [broadcast]

@[simp] theorem postUnsol_blocks (t : Nat) (op : Nat) (flags : Nat) (tag : BitVec 16) (w1 : Word) (w2 : Word) (s : State) :
    (postUnsol t op flags tag w1 w2 s).conf = s.conf ∧ (postUnsol t op flags tag w1 w2 s).adm = s.adm ∧ (postUnsol t op flags tag w1 w2 s).store = s.store ∧
    (postUnsol t op flags tag w1 w2 s).dram = s.dram ∧ (postUnsol t op flags tag w1 w2 s).harv = s.harv ∧ (postUnsol t op flags tag w1 w2 s).nand = s.nand ∧
    (postUnsol t op flags tag w1 w2 s).ret = s.ret ∧ (postUnsol t op flags tag w1 w2 s).arr = s.arr ∧ (postUnsol t op flags tag w1 w2 s).hive = s.hive ∧
    (postUnsol t op flags tag w1 w2 s).sec = s.sec ∧ (postUnsol t op flags tag w1 w2 s).jtag = s.jtag ∧ (postUnsol t op flags tag w1 w2 s).orf = s.orf ∧
    (postUnsol t op flags tag w1 w2 s).pending = s.pending ∧ (postUnsol t op flags tag w1 w2 s).free = s.free := by
  simp [postUnsol]

@[simp] theorem postAll_blocks (ts : List Nat) (op : Nat) (flags : Nat) (tag : BitVec 16) (w1 : Word) (w2 : Nat → Word) (s : State) :
    (postAll ts op flags tag w1 w2 s).conf = s.conf ∧ (postAll ts op flags tag w1 w2 s).adm = s.adm ∧ (postAll ts op flags tag w1 w2 s).store = s.store ∧
    (postAll ts op flags tag w1 w2 s).dram = s.dram ∧ (postAll ts op flags tag w1 w2 s).harv = s.harv ∧ (postAll ts op flags tag w1 w2 s).nand = s.nand ∧
    (postAll ts op flags tag w1 w2 s).ret = s.ret ∧ (postAll ts op flags tag w1 w2 s).arr = s.arr ∧ (postAll ts op flags tag w1 w2 s).hive = s.hive ∧
    (postAll ts op flags tag w1 w2 s).sec = s.sec ∧ (postAll ts op flags tag w1 w2 s).jtag = s.jtag ∧ (postAll ts op flags tag w1 w2 s).orf = s.orf ∧
    (postAll ts op flags tag w1 w2 s).pending = s.pending ∧ (postAll ts op flags tag w1 w2 s).free = s.free := by
  simp [postAll]

@[simp] theorem markEnds_blocks (s : State) :
    (markEnds s).conf = s.conf ∧ (markEnds s).fr = s.fr ∧ (markEnds s).host = s.host ∧ (markEnds s).ring = s.ring ∧
    (markEnds s).adm = s.adm ∧ (markEnds s).scout = s.scout ∧ (markEnds s).store = s.store ∧ (markEnds s).dram = s.dram ∧
    (markEnds s).harv = s.harv ∧ (markEnds s).nand = s.nand ∧ (markEnds s).ret = s.ret ∧ (markEnds s).arr = s.arr ∧
    (markEnds s).hive = s.hive ∧ (markEnds s).tally = s.tally ∧ (markEnds s).sec = s.sec ∧ (markEnds s).jtag = s.jtag ∧
    (markEnds s).orf = s.orf ∧ (markEnds s).weave = s.weave ∧ (markEnds s).pending = s.pending ∧ (markEnds s).free = s.free := by
  simp [markEnds]

@[simp] theorem tripCause_blocks (x : BitVec 8) (drive : Bool) (s : State) :
    (tripCause x drive s).conf = s.conf ∧ (tripCause x drive s).adm = s.adm ∧ (tripCause x drive s).store = s.store ∧
    (tripCause x drive s).dram = s.dram ∧ (tripCause x drive s).harv = s.harv ∧ (tripCause x drive s).nand = s.nand ∧
    (tripCause x drive s).ret = s.ret ∧ (tripCause x drive s).arr = s.arr ∧ (tripCause x drive s).hive = s.hive ∧
    (tripCause x drive s).sec = s.sec ∧ (tripCause x drive s).jtag = s.jtag ∧ (tripCause x drive s).orf = s.orf ∧
    (tripCause x drive s).pending = s.pending ∧ (tripCause x drive s).free = s.free := by
  simp [tripCause]

@[simp] theorem pinAction_blocks (s : State) :
    (pinAction s).conf = s.conf ∧ (pinAction s).adm = s.adm ∧ (pinAction s).store = s.store ∧
    (pinAction s).dram = s.dram ∧ (pinAction s).harv = s.harv ∧ (pinAction s).nand = s.nand ∧
    (pinAction s).ret = s.ret ∧ (pinAction s).arr = s.arr ∧ (pinAction s).hive = s.hive ∧
    (pinAction s).sec = s.sec ∧ (pinAction s).jtag = s.jtag ∧ (pinAction s).orf = s.orf ∧
    (pinAction s).pending = s.pending ∧ (pinAction s).free = s.free := by
  simp [pinAction]

@[simp] theorem degradeAct_blocks (src : Nat) (acts : BitVec 8) (s : State) :
    (degradeAct src acts s).conf = s.conf ∧ (degradeAct src acts s).adm = s.adm ∧ (degradeAct src acts s).store = s.store ∧
    (degradeAct src acts s).dram = s.dram ∧ (degradeAct src acts s).harv = s.harv ∧ (degradeAct src acts s).nand = s.nand ∧
    (degradeAct src acts s).ret = s.ret ∧ (degradeAct src acts s).arr = s.arr ∧ (degradeAct src acts s).hive = s.hive ∧
    (degradeAct src acts s).sec = s.sec ∧ (degradeAct src acts s).jtag = s.jtag ∧ (degradeAct src acts s).orf = s.orf ∧
    (degradeAct src acts s).pending = s.pending ∧ (degradeAct src acts s).free = s.free := by
  simp [degradeAct]

@[simp] theorem haltAct_blocks (src : Nat) (s : State) :
    (haltAct src s).conf = s.conf ∧ (haltAct src s).adm = s.adm ∧ (haltAct src s).store = s.store ∧
    (haltAct src s).dram = s.dram ∧ (haltAct src s).harv = s.harv ∧ (haltAct src s).nand = s.nand ∧
    (haltAct src s).ret = s.ret ∧ (haltAct src s).arr = s.arr ∧ (haltAct src s).hive = s.hive ∧
    (haltAct src s).sec = s.sec ∧ (haltAct src s).jtag = s.jtag ∧ (haltAct src s).orf = s.orf ∧
    (haltAct src s).pending = s.pending ∧ (haltAct src s).free = s.free := by
  simp [haltAct]

@[simp] theorem harvestAct_blocks (src : Nat) (acts : BitVec 8) (s : State) :
    (harvestAct src acts s).conf = s.conf ∧ (harvestAct src acts s).adm = s.adm ∧ (harvestAct src acts s).store = s.store ∧
    (harvestAct src acts s).dram = s.dram ∧ (harvestAct src acts s).harv = s.harv ∧ (harvestAct src acts s).nand = s.nand ∧
    (harvestAct src acts s).ret = s.ret ∧ (harvestAct src acts s).arr = s.arr ∧ (harvestAct src acts s).hive = s.hive ∧
    (harvestAct src acts s).sec = s.sec ∧ (harvestAct src acts s).jtag = s.jtag ∧ (harvestAct src acts s).orf = s.orf ∧
    (harvestAct src acts s).pending = s.pending ∧ (harvestAct src acts s).free = s.free := by
  simp [harvestAct]

@[simp] theorem actions_blocks (src : Nat) (kind : Nat) (addr : Word) (m : BitVec 8) (sev : Bool) (opens : Bool) (esc : Bool) (count : Nat) (s : State) :
    (actions src kind addr m sev opens esc count s).conf = s.conf ∧ (actions src kind addr m sev opens esc count s).adm = s.adm ∧ (actions src kind addr m sev opens esc count s).store = s.store ∧
    (actions src kind addr m sev opens esc count s).dram = s.dram ∧ (actions src kind addr m sev opens esc count s).harv = s.harv ∧ (actions src kind addr m sev opens esc count s).nand = s.nand ∧
    (actions src kind addr m sev opens esc count s).ret = s.ret ∧ (actions src kind addr m sev opens esc count s).arr = s.arr ∧ (actions src kind addr m sev opens esc count s).hive = s.hive ∧
    (actions src kind addr m sev opens esc count s).sec = s.sec ∧ (actions src kind addr m sev opens esc count s).jtag = s.jtag ∧ (actions src kind addr m sev opens esc count s).orf = s.orf ∧
    (actions src kind addr m sev opens esc count s).pending = s.pending ∧ (actions src kind addr m sev opens esc count s).free = s.free := by
  simp [actions]

@[simp] theorem tallyProcess_blocks (src : Nat) (kind : Nat) (addr : Word) (s : State) :
    (tallyProcess src kind addr s).conf = s.conf ∧ (tallyProcess src kind addr s).adm = s.adm ∧ (tallyProcess src kind addr s).store = s.store ∧
    (tallyProcess src kind addr s).dram = s.dram ∧ (tallyProcess src kind addr s).harv = s.harv ∧ (tallyProcess src kind addr s).nand = s.nand ∧
    (tallyProcess src kind addr s).ret = s.ret ∧ (tallyProcess src kind addr s).arr = s.arr ∧ (tallyProcess src kind addr s).hive = s.hive ∧
    (tallyProcess src kind addr s).sec = s.sec ∧ (tallyProcess src kind addr s).jtag = s.jtag ∧ (tallyProcess src kind addr s).orf = s.orf ∧
    (tallyProcess src kind addr s).pending = s.pending ∧ (tallyProcess src kind addr s).free = s.free := by
  simp [tallyProcess]

@[simp] theorem tally_blocks (src : Nat) (kind : Nat) (addr : Word) (s : State) :
    (tally src kind addr s).conf = s.conf ∧ (tally src kind addr s).adm = s.adm ∧ (tally src kind addr s).store = s.store ∧
    (tally src kind addr s).dram = s.dram ∧ (tally src kind addr s).harv = s.harv ∧ (tally src kind addr s).nand = s.nand ∧
    (tally src kind addr s).ret = s.ret ∧ (tally src kind addr s).arr = s.arr ∧ (tally src kind addr s).hive = s.hive ∧
    (tally src kind addr s).sec = s.sec ∧ (tally src kind addr s).jtag = s.jtag ∧ (tally src kind addr s).orf = s.orf ∧
    (tally src kind addr s).pending = s.pending ∧ (tally src kind addr s).free = s.free := by
  simp [tally]

@[simp] theorem logEv_blocks (type : Nat) (x : BitVec 8) (arg0 : BitVec 16) (arg1 : Word) (s : State) :
    (logEv type x arg0 arg1 s).conf = s.conf ∧ (logEv type x arg0 arg1 s).adm = s.adm ∧ (logEv type x arg0 arg1 s).store = s.store ∧
    (logEv type x arg0 arg1 s).dram = s.dram ∧ (logEv type x arg0 arg1 s).harv = s.harv ∧ (logEv type x arg0 arg1 s).nand = s.nand ∧
    (logEv type x arg0 arg1 s).ret = s.ret ∧ (logEv type x arg0 arg1 s).arr = s.arr ∧ (logEv type x arg0 arg1 s).hive = s.hive ∧
    (logEv type x arg0 arg1 s).sec = s.sec ∧ (logEv type x arg0 arg1 s).jtag = s.jtag ∧ (logEv type x arg0 arg1 s).orf = s.orf ∧
    (logEv type x arg0 arg1 s).pending = s.pending ∧ (logEv type x arg0 arg1 s).free = s.free := by
  simp [logEv]

@[simp] theorem reject_blocks (off : Nat) (tid : Nat) (s : State) :
    (reject off tid s).conf = s.conf ∧ (reject off tid s).adm = s.adm ∧ (reject off tid s).store = s.store ∧
    (reject off tid s).dram = s.dram ∧ (reject off tid s).harv = s.harv ∧ (reject off tid s).nand = s.nand ∧
    (reject off tid s).ret = s.ret ∧ (reject off tid s).arr = s.arr ∧ (reject off tid s).hive = s.hive ∧
    (reject off tid s).sec = s.sec ∧ (reject off tid s).jtag = s.jtag ∧ (reject off tid s).orf = s.orf ∧
    (reject off tid s).pending = s.pending ∧ (reject off tid s).free = s.free := by
  simp [reject]

@[simp] theorem ueWriteSet_blocks (s : State) :
    (ueWriteSet s).conf = s.conf ∧ (ueWriteSet s).adm = s.adm ∧ (ueWriteSet s).store = s.store ∧
    (ueWriteSet s).dram = s.dram ∧ (ueWriteSet s).harv = s.harv ∧ (ueWriteSet s).nand = s.nand ∧
    (ueWriteSet s).ret = s.ret ∧ (ueWriteSet s).arr = s.arr ∧ (ueWriteSet s).hive = s.hive ∧
    (ueWriteSet s).sec = s.sec ∧ (ueWriteSet s).jtag = s.jtag ∧ (ueWriteSet s).orf = s.orf ∧
    (ueWriteSet s).pending = s.pending ∧ (ueWriteSet s).free = s.free := by
  simp [ueWriteSet]

@[simp] theorem postRejSet_blocks (s : State) :
    (postRejSet s).conf = s.conf ∧ (postRejSet s).adm = s.adm ∧ (postRejSet s).store = s.store ∧
    (postRejSet s).dram = s.dram ∧ (postRejSet s).harv = s.harv ∧ (postRejSet s).nand = s.nand ∧
    (postRejSet s).ret = s.ret ∧ (postRejSet s).arr = s.arr ∧ (postRejSet s).hive = s.hive ∧
    (postRejSet s).sec = s.sec ∧ (postRejSet s).jtag = s.jtag ∧ (postRejSet s).orf = s.orf ∧
    (postRejSet s).pending = s.pending ∧ (postRejSet s).free = s.free := by
  simp [postRejSet]

@[simp] theorem refuseReq_blocks (reason : Nat) (s : State) :
    (refuseReq reason s).conf = s.conf ∧ (refuseReq reason s).adm = s.adm ∧ (refuseReq reason s).store = s.store ∧
    (refuseReq reason s).dram = s.dram ∧ (refuseReq reason s).harv = s.harv ∧ (refuseReq reason s).nand = s.nand ∧
    (refuseReq reason s).ret = s.ret ∧ (refuseReq reason s).arr = s.arr ∧ (refuseReq reason s).hive = s.hive ∧
    (refuseReq reason s).sec = s.sec ∧ (refuseReq reason s).jtag = s.jtag ∧ (refuseReq reason s).orf = s.orf ∧
    (refuseReq reason s).pending = s.pending ∧ (refuseReq reason s).free = s.free := by
  simp [refuseReq]

end Sys2Proof.Machine
end

