-- ==== Sys2Proof/Laws/BlocksOperands.lean ====
section
/-! SUPPORT. Which blocks of State each operation of Machine/Operands.lean leaves alone. -/

namespace Sys2Proof.Machine

@[simp] theorem modTenant_blocks (t : Nat) (f : Tenant → Tenant) (s : State) :
    (modTenant t f s).top = s.top ∧ (modTenant t f s).conf = s.conf ∧ (modTenant t f s).fr = s.fr ∧
    (modTenant t f s).host = s.host ∧ (modTenant t f s).adm = s.adm ∧ (modTenant t f s).scout = s.scout ∧
    (modTenant t f s).store = s.store ∧ (modTenant t f s).dram = s.dram ∧ (modTenant t f s).harv = s.harv ∧
    (modTenant t f s).nand = s.nand ∧ (modTenant t f s).ret = s.ret ∧ (modTenant t f s).arr = s.arr ∧
    (modTenant t f s).hive = s.hive ∧ (modTenant t f s).tally = s.tally ∧ (modTenant t f s).sec = s.sec ∧
    (modTenant t f s).jtag = s.jtag ∧ (modTenant t f s).orf = s.orf ∧ (modTenant t f s).weave = s.weave ∧
    (modTenant t f s).pending = s.pending ∧ (modTenant t f s).free = s.free := by
  simp [modTenant]

@[simp] theorem modRing_blocks (r : Nat) (f : Ring → Ring) (s : State) :
    (modRing r f s).top = s.top ∧ (modRing r f s).conf = s.conf ∧ (modRing r f s).fr = s.fr ∧
    (modRing r f s).host = s.host ∧ (modRing r f s).adm = s.adm ∧ (modRing r f s).scout = s.scout ∧
    (modRing r f s).store = s.store ∧ (modRing r f s).dram = s.dram ∧ (modRing r f s).harv = s.harv ∧
    (modRing r f s).nand = s.nand ∧ (modRing r f s).ret = s.ret ∧ (modRing r f s).arr = s.arr ∧
    (modRing r f s).hive = s.hive ∧ (modRing r f s).tally = s.tally ∧ (modRing r f s).sec = s.sec ∧
    (modRing r f s).jtag = s.jtag ∧ (modRing r f s).orf = s.orf ∧ (modRing r f s).weave = s.weave ∧
    (modRing r f s).pending = s.pending ∧ (modRing r f s).free = s.free := by
  simp [modRing]

@[simp] theorem modTgt_blocks (t : Nat) (f : Target → Target) (s : State) :
    (modTgt t f s).top = s.top ∧ (modTgt t f s).conf = s.conf ∧ (modTgt t f s).fr = s.fr ∧
    (modTgt t f s).host = s.host ∧ (modTgt t f s).ring = s.ring ∧ (modTgt t f s).adm = s.adm ∧
    (modTgt t f s).scout = s.scout ∧ (modTgt t f s).store = s.store ∧ (modTgt t f s).dram = s.dram ∧
    (modTgt t f s).harv = s.harv ∧ (modTgt t f s).ret = s.ret ∧ (modTgt t f s).arr = s.arr ∧
    (modTgt t f s).hive = s.hive ∧ (modTgt t f s).tally = s.tally ∧ (modTgt t f s).sec = s.sec ∧
    (modTgt t f s).jtag = s.jtag ∧ (modTgt t f s).orf = s.orf ∧ (modTgt t f s).weave = s.weave ∧
    (modTgt t f s).pending = s.pending ∧ (modTgt t f s).free = s.free := by
  simp [modTgt]

@[simp] theorem modChan_blocks (c : Nat) (f : Channel → Channel) (s : State) :
    (modChan c f s).top = s.top ∧ (modChan c f s).conf = s.conf ∧ (modChan c f s).fr = s.fr ∧
    (modChan c f s).host = s.host ∧ (modChan c f s).ring = s.ring ∧ (modChan c f s).adm = s.adm ∧
    (modChan c f s).scout = s.scout ∧ (modChan c f s).store = s.store ∧ (modChan c f s).dram = s.dram ∧
    (modChan c f s).harv = s.harv ∧ (modChan c f s).ret = s.ret ∧ (modChan c f s).arr = s.arr ∧
    (modChan c f s).hive = s.hive ∧ (modChan c f s).tally = s.tally ∧ (modChan c f s).sec = s.sec ∧
    (modChan c f s).jtag = s.jtag ∧ (modChan c f s).orf = s.orf ∧ (modChan c f s).weave = s.weave ∧
    (modChan c f s).pending = s.pending ∧ (modChan c f s).free = s.free := by
  simp [modChan]

@[simp] theorem modAcct_blocks (r : Nat) (f : Acct → Acct) (s : State) :
    (modAcct r f s).top = s.top ∧ (modAcct r f s).conf = s.conf ∧ (modAcct r f s).host = s.host ∧
    (modAcct r f s).ring = s.ring ∧ (modAcct r f s).adm = s.adm ∧ (modAcct r f s).scout = s.scout ∧
    (modAcct r f s).store = s.store ∧ (modAcct r f s).dram = s.dram ∧ (modAcct r f s).harv = s.harv ∧
    (modAcct r f s).nand = s.nand ∧ (modAcct r f s).ret = s.ret ∧ (modAcct r f s).arr = s.arr ∧
    (modAcct r f s).hive = s.hive ∧ (modAcct r f s).tally = s.tally ∧ (modAcct r f s).sec = s.sec ∧
    (modAcct r f s).jtag = s.jtag ∧ (modAcct r f s).orf = s.orf ∧ (modAcct r f s).weave = s.weave ∧
    (modAcct r f s).pending = s.pending ∧ (modAcct r f s).free = s.free := by
  simp [modAcct]

@[simp] theorem modLane_blocks (l : Nat) (f : Lane → Lane) (s : State) :
    (modLane l f s).top = s.top ∧ (modLane l f s).conf = s.conf ∧ (modLane l f s).fr = s.fr ∧
    (modLane l f s).host = s.host ∧ (modLane l f s).ring = s.ring ∧ (modLane l f s).adm = s.adm ∧
    (modLane l f s).scout = s.scout ∧ (modLane l f s).store = s.store ∧ (modLane l f s).dram = s.dram ∧
    (modLane l f s).nand = s.nand ∧ (modLane l f s).ret = s.ret ∧ (modLane l f s).arr = s.arr ∧
    (modLane l f s).hive = s.hive ∧ (modLane l f s).tally = s.tally ∧ (modLane l f s).sec = s.sec ∧
    (modLane l f s).jtag = s.jtag ∧ (modLane l f s).orf = s.orf ∧ (modLane l f s).weave = s.weave ∧
    (modLane l f s).pending = s.pending ∧ (modLane l f s).free = s.free := by
  simp [modLane]

@[simp] theorem modPeer_blocks (p : Nat) (f : Peer → Peer) (s : State) :
    (modPeer p f s).top = s.top ∧ (modPeer p f s).conf = s.conf ∧ (modPeer p f s).fr = s.fr ∧
    (modPeer p f s).host = s.host ∧ (modPeer p f s).ring = s.ring ∧ (modPeer p f s).adm = s.adm ∧
    (modPeer p f s).scout = s.scout ∧ (modPeer p f s).store = s.store ∧ (modPeer p f s).dram = s.dram ∧
    (modPeer p f s).harv = s.harv ∧ (modPeer p f s).nand = s.nand ∧ (modPeer p f s).ret = s.ret ∧
    (modPeer p f s).arr = s.arr ∧ (modPeer p f s).hive = s.hive ∧ (modPeer p f s).tally = s.tally ∧
    (modPeer p f s).sec = s.sec ∧ (modPeer p f s).jtag = s.jtag ∧ (modPeer p f s).orf = s.orf ∧
    (modPeer p f s).pending = s.pending ∧ (modPeer p f s).free = s.free := by
  simp [modPeer]

end Sys2Proof.Machine
end

