-- ==== Sys2Proof/Laws/BlocksOps.lean ====
section
/-! SUPPORT. Which blocks of State each operation of Machine/Ops.lean leaves alone. -/

namespace Sys2Proof.Machine



end Sys2Proof.Machine
end

