-- ==== Sys2Proof/Laws/BlocksFlags.lean ====
section
/-! SUPPORT. Which blocks of State each operation of Machine/Flags.lean leaves alone. -/

namespace Sys2Proof.Machine

@[simp] theorem convert_blocks (ch : Nat) (a : Nat) (x : Int) (s : State) :
    (convert ch a x s).top = s.top ∧ (convert ch a x s).conf = s.conf ∧ (convert ch a x s).fr = s.fr ∧
    (convert ch a x s).host = s.host ∧ (convert ch a x s).ring = s.ring ∧ (convert ch a x s).adm = s.adm ∧
    (convert ch a x s).store = s.store ∧ (convert ch a x s).dram = s.dram ∧ (convert ch a x s).harv = s.harv ∧
    (convert ch a x s).nand = s.nand ∧ (convert ch a x s).ret = s.ret ∧ (convert ch a x s).arr = s.arr ∧
    (convert ch a x s).hive = s.hive ∧ (convert ch a x s).tally = s.tally ∧ (convert ch a x s).sec = s.sec ∧
    (convert ch a x s).jtag = s.jtag ∧ (convert ch a x s).orf = s.orf ∧ (convert ch a x s).weave = s.weave ∧
    (convert ch a x s).pending = s.pending ∧ (convert ch a x s).free = s.free := by
  simp [convert]

@[simp] theorem publish_blocks (s : State) :
    (publish s).top = s.top ∧ (publish s).conf = s.conf ∧ (publish s).fr = s.fr ∧ (publish s).host = s.host ∧
    (publish s).ring = s.ring ∧ (publish s).adm = s.adm ∧ (publish s).store = s.store ∧ (publish s).dram = s.dram ∧
    (publish s).harv = s.harv ∧ (publish s).nand = s.nand ∧ (publish s).ret = s.ret ∧ (publish s).arr = s.arr ∧
    (publish s).hive = s.hive ∧ (publish s).tally = s.tally ∧ (publish s).sec = s.sec ∧ (publish s).jtag = s.jtag ∧
    (publish s).orf = s.orf ∧ (publish s).weave = s.weave ∧ (publish s).pending = s.pending ∧ (publish s).free = s.free := by
  simp [publish]

@[simp] theorem rampAll_blocks (s : State) :
    (rampAll s).top = s.top ∧ (rampAll s).conf = s.conf ∧ (rampAll s).fr = s.fr ∧
    (rampAll s).host = s.host ∧ (rampAll s).ring = s.ring ∧ (rampAll s).adm = s.adm ∧
    (rampAll s).store = s.store ∧ (rampAll s).dram = s.dram ∧ (rampAll s).harv = s.harv ∧
    (rampAll s).nand = s.nand ∧ (rampAll s).ret = s.ret ∧ (rampAll s).arr = s.arr ∧
    (rampAll s).hive = s.hive ∧ (rampAll s).tally = s.tally ∧ (rampAll s).sec = s.sec ∧
    (rampAll s).jtag = s.jtag ∧ (rampAll s).orf = s.orf ∧ (rampAll s).weave = s.weave ∧
    (rampAll s).pending = s.pending ∧ (rampAll s).free = s.free := by
  simp [rampAll]

@[simp] theorem bump_blocks (i : Nat) (c : Bool) (s : State) :
    (bump i c s).top = s.top ∧ (bump i c s).conf = s.conf ∧ (bump i c s).fr = s.fr ∧
    (bump i c s).host = s.host ∧ (bump i c s).ring = s.ring ∧ (bump i c s).adm = s.adm ∧
    (bump i c s).store = s.store ∧ (bump i c s).dram = s.dram ∧ (bump i c s).harv = s.harv ∧
    (bump i c s).nand = s.nand ∧ (bump i c s).ret = s.ret ∧ (bump i c s).arr = s.arr ∧
    (bump i c s).hive = s.hive ∧ (bump i c s).tally = s.tally ∧ (bump i c s).sec = s.sec ∧
    (bump i c s).jtag = s.jtag ∧ (bump i c s).orf = s.orf ∧ (bump i c s).weave = s.weave ∧
    (bump i c s).pending = s.pending ∧ (bump i c s).free = s.free := by
  simp [bump]

end Sys2Proof.Machine
end

