-- ==== Sys2Proof/Laws/BlocksFrame.lean ====
section
/-! SUPPORT. Which blocks of State each operation of Machine/Frame.lean leaves alone. -/

namespace Sys2Proof.Machine

@[simp] theorem holdConds_blocks (s : State) :
    (holdConds s).top = s.top ∧ (holdConds s).conf = s.conf ∧ (holdConds s).host = s.host ∧
    (holdConds s).ring = s.ring ∧ (holdConds s).adm = s.adm ∧ (holdConds s).scout = s.scout ∧
    (holdConds s).store = s.store ∧ (holdConds s).dram = s.dram ∧ (holdConds s).harv = s.harv ∧
    (holdConds s).nand = s.nand ∧ (holdConds s).ret = s.ret ∧ (holdConds s).arr = s.arr ∧
    (holdConds s).hive = s.hive ∧ (holdConds s).tally = s.tally ∧ (holdConds s).sec = s.sec ∧
    (holdConds s).jtag = s.jtag ∧ (holdConds s).orf = s.orf ∧ (holdConds s).weave = s.weave ∧
    (holdConds s).pending = s.pending ∧ (holdConds s).free = s.free := by
  simp [holdConds]

@[simp] theorem overrideEpisode_blocks (s : State) :
    (overrideEpisode s).conf = s.conf ∧ (overrideEpisode s).adm = s.adm ∧ (overrideEpisode s).store = s.store ∧
    (overrideEpisode s).dram = s.dram ∧ (overrideEpisode s).harv = s.harv ∧ (overrideEpisode s).nand = s.nand ∧
    (overrideEpisode s).ret = s.ret ∧ (overrideEpisode s).arr = s.arr ∧ (overrideEpisode s).hive = s.hive ∧
    (overrideEpisode s).sec = s.sec ∧ (overrideEpisode s).jtag = s.jtag ∧ (overrideEpisode s).orf = s.orf ∧
    (overrideEpisode s).pending = s.pending ∧ (overrideEpisode s).free = s.free := by
  simp [overrideEpisode]

@[simp] theorem stretch_blocks (res : Nat) (tick : Nat) (d0 : Nat) (d1 : Nat) (s : State) :
    (stretch res tick d0 d1 s).conf = s.conf ∧ (stretch res tick d0 d1 s).adm = s.adm ∧ (stretch res tick d0 d1 s).store = s.store ∧
    (stretch res tick d0 d1 s).dram = s.dram ∧ (stretch res tick d0 d1 s).harv = s.harv ∧ (stretch res tick d0 d1 s).nand = s.nand ∧
    (stretch res tick d0 d1 s).ret = s.ret ∧ (stretch res tick d0 d1 s).arr = s.arr ∧ (stretch res tick d0 d1 s).hive = s.hive ∧
    (stretch res tick d0 d1 s).sec = s.sec ∧ (stretch res tick d0 d1 s).jtag = s.jtag ∧ (stretch res tick d0 d1 s).orf = s.orf ∧
    (stretch res tick d0 d1 s).pending = s.pending ∧ (stretch res tick d0 d1 s).free = s.free := by
  simp [stretch]

@[simp] theorem riseNow_blocks (tick : Nat) (s : State) :
    (riseNow tick s).conf = s.conf ∧ (riseNow tick s).adm = s.adm ∧ (riseNow tick s).store = s.store ∧
    (riseNow tick s).dram = s.dram ∧ (riseNow tick s).harv = s.harv ∧ (riseNow tick s).nand = s.nand ∧
    (riseNow tick s).ret = s.ret ∧ (riseNow tick s).arr = s.arr ∧ (riseNow tick s).hive = s.hive ∧
    (riseNow tick s).sec = s.sec ∧ (riseNow tick s).jtag = s.jtag ∧ (riseNow tick s).orf = s.orf ∧
    (riseNow tick s).pending = s.pending ∧ (riseNow tick s).free = s.free := by
  simp [riseNow]

@[simp] theorem vddDroop_blocks (level : Nat) (tick : Nat) (s : State) :
    (vddDroop level tick s).conf = s.conf ∧ (vddDroop level tick s).adm = s.adm ∧ (vddDroop level tick s).store = s.store ∧
    (vddDroop level tick s).dram = s.dram ∧ (vddDroop level tick s).harv = s.harv ∧ (vddDroop level tick s).nand = s.nand ∧
    (vddDroop level tick s).ret = s.ret ∧ (vddDroop level tick s).arr = s.arr ∧ (vddDroop level tick s).hive = s.hive ∧
    (vddDroop level tick s).sec = s.sec ∧ (vddDroop level tick s).jtag = s.jtag ∧ (vddDroop level tick s).orf = s.orf ∧
    (vddDroop level tick s).pending = s.pending ∧ (vddDroop level tick s).free = s.free := by
  simp [vddDroop]

@[simp] theorem testDemand_blocks (s : State) :
    (testDemand s).conf = s.conf ∧ (testDemand s).adm = s.adm ∧ (testDemand s).store = s.store ∧
    (testDemand s).dram = s.dram ∧ (testDemand s).harv = s.harv ∧ (testDemand s).nand = s.nand ∧
    (testDemand s).ret = s.ret ∧ (testDemand s).arr = s.arr ∧ (testDemand s).hive = s.hive ∧ (testDemand s).sec = s.sec ∧
    (testDemand s).jtag = s.jtag ∧ (testDemand s).orf = s.orf ∧ (testDemand s).pending = s.pending := by
  simp [testDemand]

@[simp] theorem throttleRelease_blocks (s : State) :
    (throttleRelease s).top = s.top ∧ (throttleRelease s).conf = s.conf ∧ (throttleRelease s).host = s.host ∧
    (throttleRelease s).ring = s.ring ∧ (throttleRelease s).adm = s.adm ∧ (throttleRelease s).scout = s.scout ∧
    (throttleRelease s).store = s.store ∧ (throttleRelease s).dram = s.dram ∧ (throttleRelease s).harv = s.harv ∧
    (throttleRelease s).nand = s.nand ∧ (throttleRelease s).ret = s.ret ∧ (throttleRelease s).arr = s.arr ∧
    (throttleRelease s).hive = s.hive ∧ (throttleRelease s).tally = s.tally ∧ (throttleRelease s).sec = s.sec ∧
    (throttleRelease s).jtag = s.jtag ∧ (throttleRelease s).orf = s.orf ∧ (throttleRelease s).weave = s.weave ∧
    (throttleRelease s).pending = s.pending ∧ (throttleRelease s).free = s.free := by
  simp [throttleRelease]

@[simp] theorem throttleCount_blocks (s : State) :
    (throttleCount s).top = s.top ∧ (throttleCount s).conf = s.conf ∧ (throttleCount s).host = s.host ∧
    (throttleCount s).ring = s.ring ∧ (throttleCount s).adm = s.adm ∧ (throttleCount s).scout = s.scout ∧
    (throttleCount s).store = s.store ∧ (throttleCount s).dram = s.dram ∧ (throttleCount s).harv = s.harv ∧
    (throttleCount s).nand = s.nand ∧ (throttleCount s).ret = s.ret ∧ (throttleCount s).arr = s.arr ∧
    (throttleCount s).hive = s.hive ∧ (throttleCount s).tally = s.tally ∧ (throttleCount s).sec = s.sec ∧
    (throttleCount s).jtag = s.jtag ∧ (throttleCount s).orf = s.orf ∧ (throttleCount s).weave = s.weave ∧
    (throttleCount s).pending = s.pending ∧ (throttleCount s).free = s.free := by
  simp [throttleCount]

@[simp] theorem carryStretch_blocks (res : Nat) (d0 : Nat) (d1 : Nat) (s : State) :
    (carryStretch res d0 d1 s).conf = s.conf ∧ (carryStretch res d0 d1 s).adm = s.adm ∧
    (carryStretch res d0 d1 s).store = s.store ∧ (carryStretch res d0 d1 s).dram = s.dram ∧
    (carryStretch res d0 d1 s).harv = s.harv ∧ (carryStretch res d0 d1 s).nand = s.nand ∧
    (carryStretch res d0 d1 s).ret = s.ret ∧ (carryStretch res d0 d1 s).arr = s.arr ∧
    (carryStretch res d0 d1 s).hive = s.hive ∧ (carryStretch res d0 d1 s).sec = s.sec ∧
    (carryStretch res d0 d1 s).jtag = s.jtag ∧ (carryStretch res d0 d1 s).orf = s.orf ∧
    (carryStretch res d0 d1 s).pending = s.pending ∧ (carryStretch res d0 d1 s).free = s.free := by
  simp [carryStretch]

@[simp] theorem throttleBoundary_blocks (s : State) :
    (throttleBoundary s).conf = s.conf ∧ (throttleBoundary s).adm = s.adm ∧ (throttleBoundary s).store = s.store ∧
    (throttleBoundary s).dram = s.dram ∧ (throttleBoundary s).harv = s.harv ∧ (throttleBoundary s).nand = s.nand ∧
    (throttleBoundary s).ret = s.ret ∧ (throttleBoundary s).arr = s.arr ∧ (throttleBoundary s).hive = s.hive ∧
    (throttleBoundary s).sec = s.sec ∧ (throttleBoundary s).jtag = s.jtag ∧ (throttleBoundary s).orf = s.orf ∧
    (throttleBoundary s).pending = s.pending ∧ (throttleBoundary s).free = s.free := by
  simp [throttleBoundary]

@[simp] theorem bumpAcct_blocks (res : Nat) (f : Acct → Acct) (s : State) :
    (bumpAcct res f s).top = s.top ∧ (bumpAcct res f s).conf = s.conf ∧ (bumpAcct res f s).host = s.host ∧
    (bumpAcct res f s).ring = s.ring ∧ (bumpAcct res f s).adm = s.adm ∧ (bumpAcct res f s).scout = s.scout ∧
    (bumpAcct res f s).store = s.store ∧ (bumpAcct res f s).dram = s.dram ∧ (bumpAcct res f s).harv = s.harv ∧
    (bumpAcct res f s).nand = s.nand ∧ (bumpAcct res f s).ret = s.ret ∧ (bumpAcct res f s).arr = s.arr ∧
    (bumpAcct res f s).hive = s.hive ∧ (bumpAcct res f s).tally = s.tally ∧ (bumpAcct res f s).sec = s.sec ∧
    (bumpAcct res f s).jtag = s.jtag ∧ (bumpAcct res f s).orf = s.orf ∧ (bumpAcct res f s).weave = s.weave ∧
    (bumpAcct res f s).pending = s.pending ∧ (bumpAcct res f s).free = s.free := by
  simp [bumpAcct]

@[simp] theorem consider_blocks (it : Item) (s : State) :
    (consider it s).1.conf = s.conf ∧ (consider it s).1.adm = s.adm ∧ (consider it s).1.store = s.store ∧
    (consider it s).1.dram = s.dram ∧ (consider it s).1.harv = s.harv ∧ (consider it s).1.nand = s.nand ∧
    (consider it s).1.ret = s.ret ∧ (consider it s).1.arr = s.arr ∧ (consider it s).1.hive = s.hive ∧
    (consider it s).1.sec = s.sec ∧ (consider it s).1.jtag = s.jtag ∧ (consider it s).1.orf = s.orf ∧
    (consider it s).1.pending = s.pending ∧ (consider it s).1.free = s.free := by
  simp only [consider]; split <;> simp

@[simp] theorem queueItem_blocks (it : Item) (s : State) :
    (queueItem it s).conf = s.conf ∧ (queueItem it s).adm = s.adm ∧ (queueItem it s).store = s.store ∧
    (queueItem it s).dram = s.dram ∧ (queueItem it s).harv = s.harv ∧ (queueItem it s).nand = s.nand ∧
    (queueItem it s).ret = s.ret ∧ (queueItem it s).arr = s.arr ∧ (queueItem it s).hive = s.hive ∧
    (queueItem it s).sec = s.sec ∧ (queueItem it s).jtag = s.jtag ∧ (queueItem it s).orf = s.orf ∧
    (queueItem it s).pending = s.pending ∧ (queueItem it s).free = s.free := by
  unfold queueItem
  split
  · simp
  · have h := consider_blocks it s
    split <;> rename_i heq <;> rw [heq] at h <;> simp_all

theorem takeDone_blocks (w : Work) (s t : State) (h : takeDone w s = some t) :
    t.top = s.top ∧ t.conf = s.conf ∧ t.host = s.host ∧ t.ring = s.ring ∧ t.adm = s.adm ∧ t.scout = s.scout ∧
    t.store = s.store ∧ t.dram = s.dram ∧ t.harv = s.harv ∧ t.nand = s.nand ∧ t.ret = s.ret ∧ t.arr = s.arr ∧
    t.hive = s.hive ∧ t.tally = s.tally ∧ t.sec = s.sec ∧ t.jtag = s.jtag ∧ t.orf = s.orf ∧ t.weave = s.weave ∧
    t.pending = s.pending ∧ t.free = s.free := by
  unfold takeDone at h
  (repeat' split at h) <;> cases h <;> simp

@[simp] theorem dropWork_blocks (p : Work → Bool) (s : State) :
    (dropWork p s).top = s.top ∧ (dropWork p s).conf = s.conf ∧ (dropWork p s).host = s.host ∧
    (dropWork p s).ring = s.ring ∧ (dropWork p s).adm = s.adm ∧ (dropWork p s).scout = s.scout ∧
    (dropWork p s).store = s.store ∧ (dropWork p s).dram = s.dram ∧ (dropWork p s).harv = s.harv ∧
    (dropWork p s).nand = s.nand ∧ (dropWork p s).ret = s.ret ∧ (dropWork p s).arr = s.arr ∧
    (dropWork p s).hive = s.hive ∧ (dropWork p s).tally = s.tally ∧ (dropWork p s).sec = s.sec ∧
    (dropWork p s).jtag = s.jtag ∧ (dropWork p s).orf = s.orf ∧ (dropWork p s).weave = s.weave ∧
    (dropWork p s).pending = s.pending ∧ (dropWork p s).free = s.free := by
  simp [dropWork]

@[simp] theorem submitTask_blocks (s : State) (t : HiveTask) :
    (submitTask s t).conf = s.conf ∧ (submitTask s t).adm = s.adm ∧ (submitTask s t).store = s.store ∧
    (submitTask s t).dram = s.dram ∧ (submitTask s t).harv = s.harv ∧ (submitTask s t).nand = s.nand ∧
    (submitTask s t).ret = s.ret ∧ (submitTask s t).arr = s.arr ∧ (submitTask s t).hive = s.hive ∧
    (submitTask s t).sec = s.sec ∧ (submitTask s t).jtag = s.jtag ∧ (submitTask s t).orf = s.orf ∧
    (submitTask s t).pending = s.pending ∧ (submitTask s t).free = s.free := by
  simp [submitTask]

@[simp] theorem submitTasks_blocks (ts : List HiveTask) (s : State) :
    (submitTasks ts s).conf = s.conf ∧ (submitTasks ts s).adm = s.adm ∧ (submitTasks ts s).store = s.store ∧
    (submitTasks ts s).dram = s.dram ∧ (submitTasks ts s).harv = s.harv ∧ (submitTasks ts s).nand = s.nand ∧
    (submitTasks ts s).ret = s.ret ∧ (submitTasks ts s).arr = s.arr ∧ (submitTasks ts s).hive = s.hive ∧
    (submitTasks ts s).sec = s.sec ∧ (submitTasks ts s).jtag = s.jtag ∧ (submitTasks ts s).orf = s.orf ∧
    (submitTasks ts s).pending = s.pending ∧ (submitTasks ts s).free = s.free := by
  simp [submitTasks]

@[simp] theorem reapTasks_blocks (s : State) :
    (reapTasks s).top = s.top ∧ (reapTasks s).conf = s.conf ∧ (reapTasks s).host = s.host ∧ (reapTasks s).ring = s.ring ∧
    (reapTasks s).adm = s.adm ∧ (reapTasks s).scout = s.scout ∧ (reapTasks s).store = s.store ∧
    (reapTasks s).dram = s.dram ∧ (reapTasks s).harv = s.harv ∧ (reapTasks s).nand = s.nand ∧ (reapTasks s).ret = s.ret ∧
    (reapTasks s).arr = s.arr ∧ (reapTasks s).hive = s.hive ∧ (reapTasks s).tally = s.tally ∧ (reapTasks s).sec = s.sec ∧
    (reapTasks s).jtag = s.jtag ∧ (reapTasks s).orf = s.orf ∧ (reapTasks s).weave = s.weave ∧
    (reapTasks s).pending = s.pending ∧ (reapTasks s).free = s.free := by
  simp [reapTasks]

@[simp] theorem dropHiveItems_blocks (s : State) :
    (dropHiveItems s).top = s.top ∧ (dropHiveItems s).conf = s.conf ∧ (dropHiveItems s).host = s.host ∧
    (dropHiveItems s).ring = s.ring ∧ (dropHiveItems s).adm = s.adm ∧ (dropHiveItems s).scout = s.scout ∧
    (dropHiveItems s).store = s.store ∧ (dropHiveItems s).dram = s.dram ∧ (dropHiveItems s).harv = s.harv ∧
    (dropHiveItems s).nand = s.nand ∧ (dropHiveItems s).ret = s.ret ∧ (dropHiveItems s).arr = s.arr ∧
    (dropHiveItems s).hive = s.hive ∧ (dropHiveItems s).tally = s.tally ∧ (dropHiveItems s).sec = s.sec ∧
    (dropHiveItems s).jtag = s.jtag ∧ (dropHiveItems s).orf = s.orf ∧ (dropHiveItems s).weave = s.weave ∧
    (dropHiveItems s).pending = s.pending ∧ (dropHiveItems s).free = s.free := by
  simp [dropHiveItems]

@[simp] theorem stopFrames_blocks (s : State) :
    (stopFrames s).top = s.top ∧ (stopFrames s).conf = s.conf ∧ (stopFrames s).host = s.host ∧
    (stopFrames s).ring = s.ring ∧ (stopFrames s).adm = s.adm ∧ (stopFrames s).scout = s.scout ∧
    (stopFrames s).store = s.store ∧ (stopFrames s).dram = s.dram ∧ (stopFrames s).harv = s.harv ∧
    (stopFrames s).nand = s.nand ∧ (stopFrames s).ret = s.ret ∧ (stopFrames s).arr = s.arr ∧
    (stopFrames s).hive = s.hive ∧ (stopFrames s).tally = s.tally ∧ (stopFrames s).sec = s.sec ∧
    (stopFrames s).jtag = s.jtag ∧ (stopFrames s).orf = s.orf ∧ (stopFrames s).weave = s.weave ∧
    (stopFrames s).pending = s.pending ∧ (stopFrames s).free = s.free := by
  simp [stopFrames]

@[simp] theorem startFrames_blocks (s : State) :
    (startFrames s).top = s.top ∧ (startFrames s).host = s.host ∧ (startFrames s).ring = s.ring ∧
    (startFrames s).adm = s.adm ∧ (startFrames s).store = s.store ∧ (startFrames s).dram = s.dram ∧
    (startFrames s).harv = s.harv ∧ (startFrames s).nand = s.nand ∧ (startFrames s).ret = s.ret ∧
    (startFrames s).arr = s.arr ∧ (startFrames s).hive = s.hive ∧ (startFrames s).tally = s.tally ∧
    (startFrames s).sec = s.sec ∧ (startFrames s).jtag = s.jtag ∧ (startFrames s).orf = s.orf ∧
    (startFrames s).weave = s.weave ∧ (startFrames s).pending = s.pending ∧ (startFrames s).free = s.free := by
  simp [startFrames]

@[simp] theorem refLossNow_blocks (s : State) :
    (refLossNow s).conf = s.conf ∧ (refLossNow s).adm = s.adm ∧ (refLossNow s).store = s.store ∧
    (refLossNow s).dram = s.dram ∧ (refLossNow s).harv = s.harv ∧ (refLossNow s).nand = s.nand ∧
    (refLossNow s).ret = s.ret ∧ (refLossNow s).arr = s.arr ∧ (refLossNow s).hive = s.hive ∧
    (refLossNow s).sec = s.sec ∧ (refLossNow s).jtag = s.jtag ∧ (refLossNow s).orf = s.orf ∧
    (refLossNow s).pending = s.pending ∧ (refLossNow s).free = s.free := by
  simp [refLossNow]

end Sys2Proof.Machine
end

