-- ==== Sys2Proof/Laws/BlocksAdmit.lean ====
section
/-! SUPPORT. Which blocks of State each operation of Machine/Admit.lean leaves alone. -/

namespace Sys2Proof.Machine

@[simp] theorem mapWrites_blocks (first : Nat) (count : Nat) (s : State) :
    (mapWrites first count s).conf = s.conf ∧ (mapWrites first count s).store = s.store ∧ (mapWrites first count s).dram = s.dram ∧
    (mapWrites first count s).harv = s.harv ∧ (mapWrites first count s).nand = s.nand ∧ (mapWrites first count s).ret = s.ret ∧
    (mapWrites first count s).arr = s.arr ∧ (mapWrites first count s).hive = s.hive ∧ (mapWrites first count s).sec = s.sec ∧
    (mapWrites first count s).jtag = s.jtag ∧ (mapWrites first count s).orf = s.orf ∧ (mapWrites first count s).pending = s.pending ∧
    (mapWrites first count s).free = s.free := by
  simp [mapWrites]

@[simp] theorem writeCell_blocks (c : Nat) (st : Nat) (gen : Nat) (s : State) :
    (writeCell c st gen s).top = s.top ∧ (writeCell c st gen s).conf = s.conf ∧ (writeCell c st gen s).fr = s.fr ∧
    (writeCell c st gen s).host = s.host ∧ (writeCell c st gen s).ring = s.ring ∧ (writeCell c st gen s).scout = s.scout ∧
    (writeCell c st gen s).store = s.store ∧ (writeCell c st gen s).dram = s.dram ∧ (writeCell c st gen s).harv = s.harv ∧
    (writeCell c st gen s).nand = s.nand ∧ (writeCell c st gen s).ret = s.ret ∧ (writeCell c st gen s).arr = s.arr ∧
    (writeCell c st gen s).hive = s.hive ∧ (writeCell c st gen s).tally = s.tally ∧ (writeCell c st gen s).sec = s.sec ∧
    (writeCell c st gen s).jtag = s.jtag ∧ (writeCell c st gen s).orf = s.orf ∧ (writeCell c st gen s).weave = s.weave ∧
    (writeCell c st gen s).pending = s.pending ∧ (writeCell c st gen s).free = s.free := by
  simp [writeCell]

@[simp] theorem addDirty_blocks (t : Nat) (n : Nat) (s : State) :
    (addDirty t n s).top = s.top ∧ (addDirty t n s).conf = s.conf ∧ (addDirty t n s).fr = s.fr ∧
    (addDirty t n s).host = s.host ∧ (addDirty t n s).scout = s.scout ∧ (addDirty t n s).store = s.store ∧
    (addDirty t n s).dram = s.dram ∧ (addDirty t n s).harv = s.harv ∧ (addDirty t n s).nand = s.nand ∧
    (addDirty t n s).ret = s.ret ∧ (addDirty t n s).arr = s.arr ∧ (addDirty t n s).hive = s.hive ∧
    (addDirty t n s).tally = s.tally ∧ (addDirty t n s).sec = s.sec ∧ (addDirty t n s).jtag = s.jtag ∧
    (addDirty t n s).orf = s.orf ∧ (addDirty t n s).weave = s.weave ∧ (addDirty t n s).pending = s.pending ∧
    (addDirty t n s).free = s.free := by
  simp [addDirty]

@[simp] theorem subDirty_blocks (t : Nat) (n : Nat) (s : State) :
    (subDirty t n s).top = s.top ∧ (subDirty t n s).conf = s.conf ∧ (subDirty t n s).fr = s.fr ∧
    (subDirty t n s).host = s.host ∧ (subDirty t n s).scout = s.scout ∧ (subDirty t n s).store = s.store ∧
    (subDirty t n s).dram = s.dram ∧ (subDirty t n s).harv = s.harv ∧ (subDirty t n s).nand = s.nand ∧
    (subDirty t n s).ret = s.ret ∧ (subDirty t n s).arr = s.arr ∧ (subDirty t n s).hive = s.hive ∧
    (subDirty t n s).tally = s.tally ∧ (subDirty t n s).sec = s.sec ∧ (subDirty t n s).jtag = s.jtag ∧
    (subDirty t n s).orf = s.orf ∧ (subDirty t n s).weave = s.weave ∧ (subDirty t n s).pending = s.pending ∧
    (subDirty t n s).free = s.free := by
  simp [subDirty]

@[simp] theorem undirty_blocks (c : Nat) (st : Nat) (s : State) :
    (undirty c st s).top = s.top ∧ (undirty c st s).conf = s.conf ∧ (undirty c st s).fr = s.fr ∧
    (undirty c st s).host = s.host ∧ (undirty c st s).scout = s.scout ∧ (undirty c st s).store = s.store ∧
    (undirty c st s).dram = s.dram ∧ (undirty c st s).harv = s.harv ∧ (undirty c st s).nand = s.nand ∧
    (undirty c st s).ret = s.ret ∧ (undirty c st s).arr = s.arr ∧ (undirty c st s).hive = s.hive ∧
    (undirty c st s).tally = s.tally ∧ (undirty c st s).sec = s.sec ∧ (undirty c st s).jtag = s.jtag ∧
    (undirty c st s).orf = s.orf ∧ (undirty c st s).weave = s.weave ∧ (undirty c st s).pending = s.pending ∧
    (undirty c st s).free = s.free := by
  unfold undirty; (repeat' split) <;> simp

@[simp] theorem refresh_blocks (s : State) :
    (refresh s).conf = s.conf ∧ (refresh s).store = s.store ∧ (refresh s).dram = s.dram ∧
    (refresh s).harv = s.harv ∧ (refresh s).nand = s.nand ∧ (refresh s).ret = s.ret ∧
    (refresh s).arr = s.arr ∧ (refresh s).hive = s.hive ∧ (refresh s).sec = s.sec ∧
    (refresh s).jtag = s.jtag ∧ (refresh s).orf = s.orf ∧ (refresh s).pending = s.pending ∧
    (refresh s).free = s.free := by
  simp [refresh]

@[simp] theorem entryRead_blocks (r : Nat) (e : Entry) (s : State) :
    (entryRead r e s).conf = s.conf ∧ (entryRead r e s).adm = s.adm ∧ (entryRead r e s).store = s.store ∧
    (entryRead r e s).dram = s.dram ∧ (entryRead r e s).harv = s.harv ∧ (entryRead r e s).nand = s.nand ∧
    (entryRead r e s).ret = s.ret ∧ (entryRead r e s).arr = s.arr ∧ (entryRead r e s).hive = s.hive ∧
    (entryRead r e s).sec = s.sec ∧ (entryRead r e s).jtag = s.jtag ∧ (entryRead r e s).orf = s.orf ∧
    (entryRead r e s).pending = s.pending ∧ (entryRead r e s).free = s.free := by
  simp [entryRead]

@[simp] theorem ringsWait_blocks (r : Nat) (s : State) :
    (ringsWait r s).top = s.top ∧ (ringsWait r s).conf = s.conf ∧ (ringsWait r s).fr = s.fr ∧
    (ringsWait r s).host = s.host ∧ (ringsWait r s).adm = s.adm ∧ (ringsWait r s).scout = s.scout ∧
    (ringsWait r s).store = s.store ∧ (ringsWait r s).dram = s.dram ∧ (ringsWait r s).harv = s.harv ∧
    (ringsWait r s).nand = s.nand ∧ (ringsWait r s).ret = s.ret ∧ (ringsWait r s).arr = s.arr ∧
    (ringsWait r s).hive = s.hive ∧ (ringsWait r s).tally = s.tally ∧ (ringsWait r s).sec = s.sec ∧
    (ringsWait r s).jtag = s.jtag ∧ (ringsWait r s).orf = s.orf ∧ (ringsWait r s).weave = s.weave ∧
    (ringsWait r s).pending = s.pending ∧ (ringsWait r s).free = s.free := by
  simp [ringsWait]

@[simp] theorem postAnswer_blocks (r : Nat) (e : Entry) (v : Verdict) (s : State) :
    (postAnswer r e v s).conf = s.conf ∧ (postAnswer r e v s).adm = s.adm ∧ (postAnswer r e v s).store = s.store ∧
    (postAnswer r e v s).dram = s.dram ∧ (postAnswer r e v s).harv = s.harv ∧ (postAnswer r e v s).nand = s.nand ∧
    (postAnswer r e v s).ret = s.ret ∧ (postAnswer r e v s).arr = s.arr ∧ (postAnswer r e v s).hive = s.hive ∧
    (postAnswer r e v s).sec = s.sec ∧ (postAnswer r e v s).jtag = s.jtag ∧ (postAnswer r e v s).orf = s.orf ∧
    (postAnswer r e v s).pending = s.pending := by
  unfold postAnswer; (repeat' split) <;> simp

@[simp] theorem setHead_blocks (t : Nat) (p : Pend) (s : State) :
    (setHead t p s).top = s.top ∧ (setHead t p s).conf = s.conf ∧ (setHead t p s).fr = s.fr ∧
    (setHead t p s).host = s.host ∧ (setHead t p s).adm = s.adm ∧ (setHead t p s).scout = s.scout ∧
    (setHead t p s).store = s.store ∧ (setHead t p s).dram = s.dram ∧ (setHead t p s).harv = s.harv ∧
    (setHead t p s).nand = s.nand ∧ (setHead t p s).ret = s.ret ∧ (setHead t p s).arr = s.arr ∧
    (setHead t p s).hive = s.hive ∧ (setHead t p s).tally = s.tally ∧ (setHead t p s).sec = s.sec ∧
    (setHead t p s).jtag = s.jtag ∧ (setHead t p s).orf = s.orf ∧ (setHead t p s).weave = s.weave ∧
    (setHead t p s).pending = s.pending ∧ (setHead t p s).free = s.free := by
  simp [setHead]

@[simp] theorem setClean_blocks (t : Nat) (st : Stage) (s : State) :
    (setClean t st s).top = s.top ∧ (setClean t st s).conf = s.conf ∧ (setClean t st s).fr = s.fr ∧
    (setClean t st s).host = s.host ∧ (setClean t st s).adm = s.adm ∧ (setClean t st s).scout = s.scout ∧
    (setClean t st s).store = s.store ∧ (setClean t st s).dram = s.dram ∧ (setClean t st s).harv = s.harv ∧
    (setClean t st s).nand = s.nand ∧ (setClean t st s).ret = s.ret ∧ (setClean t st s).arr = s.arr ∧
    (setClean t st s).hive = s.hive ∧ (setClean t st s).tally = s.tally ∧ (setClean t st s).sec = s.sec ∧
    (setClean t st s).jtag = s.jtag ∧ (setClean t st s).orf = s.orf ∧ (setClean t st s).weave = s.weave ∧
    (setClean t st s).pending = s.pending ∧ (setClean t st s).free = s.free := by
  simp [setClean]

@[simp] theorem cleanServe_blocks (t : Nat) (s : State) :
    (cleanServe t s).conf = s.conf ∧ (cleanServe t s).adm = s.adm ∧ (cleanServe t s).store = s.store ∧
    (cleanServe t s).dram = s.dram ∧ (cleanServe t s).harv = s.harv ∧ (cleanServe t s).nand = s.nand ∧
    (cleanServe t s).ret = s.ret ∧ (cleanServe t s).arr = s.arr ∧ (cleanServe t s).hive = s.hive ∧
    (cleanServe t s).sec = s.sec ∧ (cleanServe t s).jtag = s.jtag ∧ (cleanServe t s).orf = s.orf ∧
    (cleanServe t s).pending = s.pending ∧ (cleanServe t s).free = s.free := by
  unfold cleanServe; split <;> simp

@[simp] theorem servedLast_blocks (t : Nat) (s : State) :
    (servedLast t s).top = s.top ∧ (servedLast t s).conf = s.conf ∧ (servedLast t s).fr = s.fr ∧
    (servedLast t s).host = s.host ∧ (servedLast t s).adm = s.adm ∧ (servedLast t s).scout = s.scout ∧
    (servedLast t s).store = s.store ∧ (servedLast t s).dram = s.dram ∧ (servedLast t s).harv = s.harv ∧
    (servedLast t s).nand = s.nand ∧ (servedLast t s).ret = s.ret ∧ (servedLast t s).arr = s.arr ∧
    (servedLast t s).hive = s.hive ∧ (servedLast t s).tally = s.tally ∧ (servedLast t s).sec = s.sec ∧
    (servedLast t s).jtag = s.jtag ∧ (servedLast t s).orf = s.orf ∧ (servedLast t s).weave = s.weave ∧
    (servedLast t s).pending = s.pending ∧ (servedLast t s).free = s.free := by
  simp [servedLast]

@[simp] theorem dirtyServe_blocks (t : Nat) (s : State) :
    (dirtyServe t s).conf = s.conf ∧ (dirtyServe t s).adm = s.adm ∧ (dirtyServe t s).store = s.store ∧
    (dirtyServe t s).dram = s.dram ∧ (dirtyServe t s).harv = s.harv ∧ (dirtyServe t s).nand = s.nand ∧
    (dirtyServe t s).ret = s.ret ∧ (dirtyServe t s).arr = s.arr ∧ (dirtyServe t s).hive = s.hive ∧
    (dirtyServe t s).sec = s.sec ∧ (dirtyServe t s).jtag = s.jtag ∧ (dirtyServe t s).orf = s.orf ∧
    (dirtyServe t s).pending = s.pending ∧ (dirtyServe t s).free = s.free := by
  unfold dirtyServe; split <;> simp

@[simp] theorem serveHeads_blocks (s : State) :
    (serveHeads s).conf = s.conf ∧ (serveHeads s).adm = s.adm ∧ (serveHeads s).store = s.store ∧
    (serveHeads s).dram = s.dram ∧ (serveHeads s).harv = s.harv ∧ (serveHeads s).nand = s.nand ∧
    (serveHeads s).ret = s.ret ∧ (serveHeads s).arr = s.arr ∧ (serveHeads s).hive = s.hive ∧
    (serveHeads s).sec = s.sec ∧ (serveHeads s).jtag = s.jtag ∧ (serveHeads s).orf = s.orf ∧
    (serveHeads s).pending = s.pending ∧ (serveHeads s).free = s.free := by
  simp [serveHeads]

@[simp] theorem answerDirty_blocks (t : Nat) (s : State) :
    (answerDirty t s).conf = s.conf ∧ (answerDirty t s).adm = s.adm ∧ (answerDirty t s).store = s.store ∧
    (answerDirty t s).dram = s.dram ∧ (answerDirty t s).harv = s.harv ∧ (answerDirty t s).nand = s.nand ∧
    (answerDirty t s).ret = s.ret ∧ (answerDirty t s).arr = s.arr ∧ (answerDirty t s).hive = s.hive ∧
    (answerDirty t s).sec = s.sec ∧ (answerDirty t s).jtag = s.jtag ∧ (answerDirty t s).orf = s.orf ∧
    (answerDirty t s).pending = s.pending := by
  unfold answerDirty; (repeat' split) <;> simp

@[simp] theorem answerClean_blocks (t : Nat) (s : State) :
    (answerClean t s).conf = s.conf ∧ (answerClean t s).adm = s.adm ∧ (answerClean t s).store = s.store ∧
    (answerClean t s).dram = s.dram ∧ (answerClean t s).harv = s.harv ∧ (answerClean t s).nand = s.nand ∧
    (answerClean t s).ret = s.ret ∧ (answerClean t s).arr = s.arr ∧ (answerClean t s).hive = s.hive ∧
    (answerClean t s).sec = s.sec ∧ (answerClean t s).jtag = s.jtag ∧ (answerClean t s).orf = s.orf ∧
    (answerClean t s).pending = s.pending := by
  unfold answerClean; split <;> simp

@[simp] theorem answerKept_blocks (t : Nat) (s : State) :
    (answerKept t s).conf = s.conf ∧ (answerKept t s).adm = s.adm ∧ (answerKept t s).store = s.store ∧
    (answerKept t s).dram = s.dram ∧ (answerKept t s).harv = s.harv ∧ (answerKept t s).nand = s.nand ∧
    (answerKept t s).ret = s.ret ∧ (answerKept t s).arr = s.arr ∧ (answerKept t s).hive = s.hive ∧
    (answerKept t s).sec = s.sec ∧ (answerKept t s).jtag = s.jtag ∧ (answerKept t s).orf = s.orf ∧
    (answerKept t s).pending = s.pending := by
  unfold answerKept; split <;> simp

@[simp] theorem decideHead_blocks (t : Nat) (p0 : Pend) (s : State) :
    (decideHead t p0 s).conf = s.conf ∧ (decideHead t p0 s).store = s.store ∧ (decideHead t p0 s).dram = s.dram ∧
    (decideHead t p0 s).harv = s.harv ∧ (decideHead t p0 s).nand = s.nand ∧ (decideHead t p0 s).ret = s.ret ∧
    (decideHead t p0 s).arr = s.arr ∧ (decideHead t p0 s).hive = s.hive ∧ (decideHead t p0 s).sec = s.sec ∧
    (decideHead t p0 s).jtag = s.jtag ∧ (decideHead t p0 s).orf = s.orf ∧ (decideHead t p0 s).pending = s.pending := by
  simp only [decideHead]; split <;> simp

@[simp] theorem decideDirty_blocks (t : Nat) (s : State) :
    (decideDirty t s).conf = s.conf ∧ (decideDirty t s).store = s.store ∧ (decideDirty t s).dram = s.dram ∧
    (decideDirty t s).harv = s.harv ∧ (decideDirty t s).nand = s.nand ∧ (decideDirty t s).ret = s.ret ∧
    (decideDirty t s).arr = s.arr ∧ (decideDirty t s).hive = s.hive ∧ (decideDirty t s).sec = s.sec ∧
    (decideDirty t s).jtag = s.jtag ∧ (decideDirty t s).orf = s.orf ∧ (decideDirty t s).pending = s.pending := by
  unfold decideDirty; split <;> simp

@[simp] theorem decideCleanHead_blocks (t : Nat) (e : Entry) (s : State) :
    (decideCleanHead t e s).conf = s.conf ∧ (decideCleanHead t e s).adm = s.adm ∧ (decideCleanHead t e s).store = s.store ∧
    (decideCleanHead t e s).dram = s.dram ∧ (decideCleanHead t e s).nand = s.nand ∧ (decideCleanHead t e s).ret = s.ret ∧
    (decideCleanHead t e s).arr = s.arr ∧ (decideCleanHead t e s).hive = s.hive ∧ (decideCleanHead t e s).sec = s.sec ∧
    (decideCleanHead t e s).jtag = s.jtag ∧ (decideCleanHead t e s).orf = s.orf ∧
    (decideCleanHead t e s).pending = s.pending := by
  simp [decideCleanHead]

@[simp] theorem decideClean_blocks (t : Nat) (s : State) :
    (decideClean t s).conf = s.conf ∧ (decideClean t s).adm = s.adm ∧ (decideClean t s).store = s.store ∧
    (decideClean t s).dram = s.dram ∧ (decideClean t s).nand = s.nand ∧ (decideClean t s).ret = s.ret ∧
    (decideClean t s).arr = s.arr ∧ (decideClean t s).hive = s.hive ∧ (decideClean t s).sec = s.sec ∧
    (decideClean t s).jtag = s.jtag ∧ (decideClean t s).orf = s.orf ∧ (decideClean t s).pending = s.pending := by
  unfold decideClean; split <;> simp

@[simp] theorem repairWord_blocks (w : Nat) (s : State) :
    (repairWord w s).conf = s.conf ∧ (repairWord w s).store = s.store ∧ (repairWord w s).dram = s.dram ∧
    (repairWord w s).harv = s.harv ∧ (repairWord w s).nand = s.nand ∧ (repairWord w s).ret = s.ret ∧
    (repairWord w s).arr = s.arr ∧ (repairWord w s).hive = s.hive ∧ (repairWord w s).sec = s.sec ∧
    (repairWord w s).jtag = s.jtag ∧ (repairWord w s).orf = s.orf ∧ (repairWord w s).pending = s.pending ∧
    (repairWord w s).free = s.free := by
  simp (disch := (intros; (repeat' split) <;> try simp)) [repairWord]

@[simp] theorem correctWord_blocks (w : Nat) (s : State) :
    (correctWord w s).conf = s.conf ∧ (correctWord w s).store = s.store ∧ (correctWord w s).dram = s.dram ∧
    (correctWord w s).harv = s.harv ∧ (correctWord w s).nand = s.nand ∧ (correctWord w s).ret = s.ret ∧
    (correctWord w s).arr = s.arr ∧ (correctWord w s).hive = s.hive ∧ (correctWord w s).sec = s.sec ∧
    (correctWord w s).jtag = s.jtag ∧ (correctWord w s).orf = s.orf ∧ (correctWord w s).pending = s.pending ∧
    (correctWord w s).free = s.free := by
  simp [correctWord]

@[simp] theorem readWords_blocks (p : Nat → Bool) (s : State) :
    (readWords p s).conf = s.conf ∧ (readWords p s).store = s.store ∧ (readWords p s).dram = s.dram ∧
    (readWords p s).harv = s.harv ∧ (readWords p s).nand = s.nand ∧ (readWords p s).ret = s.ret ∧
    (readWords p s).arr = s.arr ∧ (readWords p s).hive = s.hive ∧ (readWords p s).sec = s.sec ∧
    (readWords p s).jtag = s.jtag ∧ (readWords p s).orf = s.orf ∧ (readWords p s).pending = s.pending ∧
    (readWords p s).free = s.free := by
  simp [readWords]

@[simp] theorem scanWords_blocks (first : Nat) (count : Nat) (s : State) :
    (scanWords first count s).conf = s.conf ∧ (scanWords first count s).store = s.store ∧ (scanWords first count s).dram = s.dram ∧
    (scanWords first count s).harv = s.harv ∧ (scanWords first count s).nand = s.nand ∧ (scanWords first count s).ret = s.ret ∧
    (scanWords first count s).arr = s.arr ∧ (scanWords first count s).hive = s.hive ∧ (scanWords first count s).sec = s.sec ∧
    (scanWords first count s).jtag = s.jtag ∧ (scanWords first count s).orf = s.orf ∧ (scanWords first count s).pending = s.pending ∧
    (scanWords first count s).free = s.free := by
  simp [scanWords]

@[simp] theorem admitWaitExpiry_blocks (t : Nat) (s : State) :
    (admitWaitExpiry t s).conf = s.conf ∧ (admitWaitExpiry t s).adm = s.adm ∧ (admitWaitExpiry t s).store = s.store ∧
    (admitWaitExpiry t s).dram = s.dram ∧ (admitWaitExpiry t s).harv = s.harv ∧ (admitWaitExpiry t s).nand = s.nand ∧
    (admitWaitExpiry t s).ret = s.ret ∧ (admitWaitExpiry t s).arr = s.arr ∧ (admitWaitExpiry t s).hive = s.hive ∧
    (admitWaitExpiry t s).sec = s.sec ∧ (admitWaitExpiry t s).jtag = s.jtag ∧ (admitWaitExpiry t s).orf = s.orf ∧
    (admitWaitExpiry t s).pending = s.pending := by
  unfold admitWaitExpiry; split <;> simp

@[simp] theorem keptReady_blocks (o : Nat) (s : State) :
    (keptReady o s).top = s.top ∧ (keptReady o s).conf = s.conf ∧ (keptReady o s).fr = s.fr ∧
    (keptReady o s).host = s.host ∧ (keptReady o s).adm = s.adm ∧ (keptReady o s).scout = s.scout ∧
    (keptReady o s).store = s.store ∧ (keptReady o s).dram = s.dram ∧ (keptReady o s).harv = s.harv ∧
    (keptReady o s).nand = s.nand ∧ (keptReady o s).ret = s.ret ∧ (keptReady o s).arr = s.arr ∧
    (keptReady o s).hive = s.hive ∧ (keptReady o s).tally = s.tally ∧ (keptReady o s).sec = s.sec ∧
    (keptReady o s).jtag = s.jtag ∧ (keptReady o s).orf = s.orf ∧ (keptReady o s).weave = s.weave ∧
    (keptReady o s).pending = s.pending ∧ (keptReady o s).free = s.free := by
  simp [keptReady]

@[simp] theorem writeDirty_blocks (first : Nat) (count : Nat) (s : State) :
    (writeDirty first count s).conf = s.conf ∧ (writeDirty first count s).store = s.store ∧
    (writeDirty first count s).dram = s.dram ∧ (writeDirty first count s).harv = s.harv ∧
    (writeDirty first count s).nand = s.nand ∧ (writeDirty first count s).ret = s.ret ∧
    (writeDirty first count s).arr = s.arr ∧ (writeDirty first count s).hive = s.hive ∧
    (writeDirty first count s).sec = s.sec ∧ (writeDirty first count s).jtag = s.jtag ∧
    (writeDirty first count s).orf = s.orf ∧ (writeDirty first count s).pending = s.pending ∧
    (writeDirty first count s).free = s.free := by
  simp [writeDirty]

@[simp] theorem writeClean_blocks (first : Nat) (count : Nat) (s : State) :
    (writeClean first count s).conf = s.conf ∧ (writeClean first count s).store = s.store ∧
    (writeClean first count s).dram = s.dram ∧ (writeClean first count s).nand = s.nand ∧
    (writeClean first count s).ret = s.ret ∧ (writeClean first count s).arr = s.arr ∧
    (writeClean first count s).hive = s.hive ∧ (writeClean first count s).sec = s.sec ∧
    (writeClean first count s).jtag = s.jtag ∧ (writeClean first count s).orf = s.orf ∧
    (writeClean first count s).pending = s.pending ∧ (writeClean first count s).free = s.free := by
  simp [writeClean]

@[simp] theorem demandAnswer_blocks (r : Nat) (e : Entry) (v : Verdict) (s : State) :
    (demandAnswer r e v s).conf = s.conf ∧ (demandAnswer r e v s).adm = s.adm ∧ (demandAnswer r e v s).store = s.store ∧
    (demandAnswer r e v s).dram = s.dram ∧ (demandAnswer r e v s).harv = s.harv ∧ (demandAnswer r e v s).nand = s.nand ∧
    (demandAnswer r e v s).ret = s.ret ∧ (demandAnswer r e v s).arr = s.arr ∧ (demandAnswer r e v s).hive = s.hive ∧
    (demandAnswer r e v s).sec = s.sec ∧ (demandAnswer r e v s).jtag = s.jtag ∧ (demandAnswer r e v s).orf = s.orf ∧
    (demandAnswer r e v s).pending = s.pending := by
  simp [demandAnswer]

@[simp] theorem demandNow_blocks (r : Nat) (s : State) :
    (demandNow r s).conf = s.conf ∧ (demandNow r s).adm = s.adm ∧ (demandNow r s).store = s.store ∧
    (demandNow r s).dram = s.dram ∧ (demandNow r s).harv = s.harv ∧ (demandNow r s).nand = s.nand ∧
    (demandNow r s).ret = s.ret ∧ (demandNow r s).arr = s.arr ∧ (demandNow r s).hive = s.hive ∧
    (demandNow r s).sec = s.sec ∧ (demandNow r s).jtag = s.jtag ∧ (demandNow r s).orf = s.orf ∧
    (demandNow r s).pending = s.pending := by
  unfold demandNow; split <;> simp

@[simp] theorem answerServed_blocks (r : Nat) (s : State) :
    (answerServed r s).conf = s.conf ∧ (answerServed r s).adm = s.adm ∧ (answerServed r s).store = s.store ∧
    (answerServed r s).dram = s.dram ∧ (answerServed r s).harv = s.harv ∧ (answerServed r s).nand = s.nand ∧
    (answerServed r s).arr = s.arr ∧ (answerServed r s).hive = s.hive ∧ (answerServed r s).sec = s.sec ∧
    (answerServed r s).jtag = s.jtag ∧ (answerServed r s).orf = s.orf ∧ (answerServed r s).pending = s.pending := by
  unfold answerServed; split <;> simp

@[simp] theorem finishServed_blocks (s : State) :
    (finishServed s).conf = s.conf ∧ (finishServed s).adm = s.adm ∧ (finishServed s).store = s.store ∧
    (finishServed s).dram = s.dram ∧ (finishServed s).harv = s.harv ∧ (finishServed s).nand = s.nand ∧
    (finishServed s).arr = s.arr ∧ (finishServed s).hive = s.hive ∧ (finishServed s).sec = s.sec ∧
    (finishServed s).jtag = s.jtag ∧ (finishServed s).orf = s.orf ∧ (finishServed s).pending = s.pending := by
  simp [finishServed]

@[simp] theorem lookUp_blocks (d : Demand) (s : State) :
    (lookUp d s).conf = s.conf ∧ (lookUp d s).adm = s.adm ∧ (lookUp d s).store = s.store ∧ (lookUp d s).dram = s.dram ∧
    (lookUp d s).harv = s.harv ∧ (lookUp d s).nand = s.nand ∧ (lookUp d s).arr = s.arr ∧ (lookUp d s).hive = s.hive ∧
    (lookUp d s).sec = s.sec ∧ (lookUp d s).jtag = s.jtag ∧ (lookUp d s).orf = s.orf ∧ (lookUp d s).pending = s.pending := by
  simp [lookUp]

@[simp] theorem serveRing_blocks (r : Nat) (s : State) :
    (serveRing r s).conf = s.conf ∧ (serveRing r s).store = s.store ∧ (serveRing r s).dram = s.dram ∧
    (serveRing r s).nand = s.nand ∧ (serveRing r s).arr = s.arr ∧ (serveRing r s).hive = s.hive ∧
    (serveRing r s).sec = s.sec ∧ (serveRing r s).jtag = s.jtag ∧ (serveRing r s).orf = s.orf ∧
    (serveRing r s).pending = s.pending := by
  simp [serveRing]

@[simp] theorem answerPostDeferred_blocks (t : Nat) (s : State) :
    (answerPostDeferred t s).conf = s.conf ∧ (answerPostDeferred t s).store = s.store ∧
    (answerPostDeferred t s).dram = s.dram ∧ (answerPostDeferred t s).nand = s.nand ∧ (answerPostDeferred t s).arr = s.arr ∧
    (answerPostDeferred t s).hive = s.hive ∧ (answerPostDeferred t s).sec = s.sec ∧ (answerPostDeferred t s).jtag = s.jtag ∧
    (answerPostDeferred t s).orf = s.orf ∧ (answerPostDeferred t s).pending = s.pending := by
  simp [answerPostDeferred]

@[simp] theorem ringsPump_blocks : ∀ (ws : List RingWork) (s : State),
    (ringsPump ws s).conf = s.conf ∧ (ringsPump ws s).store = s.store ∧ (ringsPump ws s).dram = s.dram ∧
    (ringsPump ws s).nand = s.nand ∧ (ringsPump ws s).arr = s.arr ∧ (ringsPump ws s).hive = s.hive ∧
    (ringsPump ws s).sec = s.sec ∧ (ringsPump ws s).jtag = s.jtag ∧ (ringsPump ws s).orf = s.orf ∧
    (ringsPump ws s).pending = s.pending
  | [], _ => by simp [ringsPump]
  | w :: ws, s => by
    have h := fun t => ringsPump_blocks ws t
    unfold ringsPump
    split
    · simp
    · simp only [h]; split <;> simp

@[simp] theorem ringsOpen_blocks (s : State) :
    (ringsOpen s).conf = s.conf ∧ (ringsOpen s).store = s.store ∧ (ringsOpen s).dram = s.dram ∧
    (ringsOpen s).nand = s.nand ∧ (ringsOpen s).arr = s.arr ∧ (ringsOpen s).hive = s.hive ∧ (ringsOpen s).sec = s.sec ∧
    (ringsOpen s).jtag = s.jtag ∧ (ringsOpen s).orf = s.orf ∧ (ringsOpen s).pending = s.pending := by
  simp [ringsOpen]

@[simp] theorem unsolClose_blocks (s : State) :
    (unsolClose s).conf = s.conf ∧ (unsolClose s).adm = s.adm ∧ (unsolClose s).store = s.store ∧
    (unsolClose s).dram = s.dram ∧ (unsolClose s).harv = s.harv ∧ (unsolClose s).nand = s.nand ∧
    (unsolClose s).ret = s.ret ∧ (unsolClose s).arr = s.arr ∧ (unsolClose s).hive = s.hive ∧ (unsolClose s).sec = s.sec ∧
    (unsolClose s).jtag = s.jtag ∧ (unsolClose s).orf = s.orf ∧ (unsolClose s).pending = s.pending ∧
    (unsolClose s).free = s.free := by
  simp [unsolClose]

@[simp] theorem portErr_blocks (c : Nat) (s : State) :
    (portErr c s).top = s.top ∧ (portErr c s).conf = s.conf ∧ (portErr c s).fr = s.fr ∧
    (portErr c s).host = s.host ∧ (portErr c s).adm = s.adm ∧ (portErr c s).scout = s.scout ∧
    (portErr c s).store = s.store ∧ (portErr c s).dram = s.dram ∧ (portErr c s).harv = s.harv ∧
    (portErr c s).nand = s.nand ∧ (portErr c s).ret = s.ret ∧ (portErr c s).arr = s.arr ∧
    (portErr c s).hive = s.hive ∧ (portErr c s).tally = s.tally ∧ (portErr c s).sec = s.sec ∧
    (portErr c s).jtag = s.jtag ∧ (portErr c s).orf = s.orf ∧ (portErr c s).weave = s.weave ∧
    (portErr c s).pending = s.pending ∧ (portErr c s).free = s.free := by
  simp [portErr]

@[simp] theorem applyRingSel_blocks (data : Word) (be : ByteEn) (s : State) :
    (applyRingSel data be s).top = s.top ∧ (applyRingSel data be s).fr = s.fr ∧ (applyRingSel data be s).host = s.host ∧
    (applyRingSel data be s).adm = s.adm ∧ (applyRingSel data be s).scout = s.scout ∧ (applyRingSel data be s).store = s.store ∧
    (applyRingSel data be s).dram = s.dram ∧ (applyRingSel data be s).harv = s.harv ∧ (applyRingSel data be s).nand = s.nand ∧
    (applyRingSel data be s).ret = s.ret ∧ (applyRingSel data be s).arr = s.arr ∧ (applyRingSel data be s).hive = s.hive ∧
    (applyRingSel data be s).tally = s.tally ∧ (applyRingSel data be s).sec = s.sec ∧ (applyRingSel data be s).jtag = s.jtag ∧
    (applyRingSel data be s).orf = s.orf ∧ (applyRingSel data be s).weave = s.weave ∧ (applyRingSel data be s).pending = s.pending ∧
    (applyRingSel data be s).free = s.free := by
  simp [applyRingSel]

@[simp] theorem applyRingPort_blocks (data : Word) (s : State) :
    (applyRingPort data s).conf = s.conf ∧ (applyRingPort data s).adm = s.adm ∧ (applyRingPort data s).store = s.store ∧
    (applyRingPort data s).dram = s.dram ∧ (applyRingPort data s).harv = s.harv ∧ (applyRingPort data s).nand = s.nand ∧
    (applyRingPort data s).ret = s.ret ∧ (applyRingPort data s).arr = s.arr ∧ (applyRingPort data s).hive = s.hive ∧
    (applyRingPort data s).sec = s.sec ∧ (applyRingPort data s).jtag = s.jtag ∧ (applyRingPort data s).orf = s.orf ∧
    (applyRingPort data s).pending = s.pending ∧ (applyRingPort data s).free = s.free := by
  simp only [applyRingPort]; (repeat' split) <;> simp

@[simp] theorem readRingPort_blocks (s : State) :
    (readRingPort s).2.conf = s.conf ∧ (readRingPort s).2.adm = s.adm ∧ (readRingPort s).2.store = s.store ∧
    (readRingPort s).2.dram = s.dram ∧ (readRingPort s).2.harv = s.harv ∧ (readRingPort s).2.nand = s.nand ∧
    (readRingPort s).2.ret = s.ret ∧ (readRingPort s).2.arr = s.arr ∧ (readRingPort s).2.hive = s.hive ∧
    (readRingPort s).2.sec = s.sec ∧ (readRingPort s).2.jtag = s.jtag ∧ (readRingPort s).2.orf = s.orf ∧
    (readRingPort s).2.pending = s.pending ∧ (readRingPort s).2.free = s.free := by
  simp only [readRingPort]; (repeat' split) <;> simp

@[simp] theorem applyDoorbell_blocks (data : Word) (s : State) :
    (applyDoorbell data s).top = s.top ∧ (applyDoorbell data s).conf = s.conf ∧ (applyDoorbell data s).fr = s.fr ∧
    (applyDoorbell data s).host = s.host ∧ (applyDoorbell data s).adm = s.adm ∧ (applyDoorbell data s).scout = s.scout ∧
    (applyDoorbell data s).store = s.store ∧ (applyDoorbell data s).dram = s.dram ∧ (applyDoorbell data s).harv = s.harv ∧
    (applyDoorbell data s).nand = s.nand ∧ (applyDoorbell data s).ret = s.ret ∧ (applyDoorbell data s).arr = s.arr ∧
    (applyDoorbell data s).hive = s.hive ∧ (applyDoorbell data s).tally = s.tally ∧ (applyDoorbell data s).sec = s.sec ∧
    (applyDoorbell data s).jtag = s.jtag ∧ (applyDoorbell data s).orf = s.orf ∧ (applyDoorbell data s).weave = s.weave ∧
    (applyDoorbell data s).pending = s.pending ∧ (applyDoorbell data s).free = s.free := by
  simp [applyDoorbell]

@[simp] theorem emptyRing_blocks (r : Nat) (keepAnswers : Bool) (s : State) :
    (emptyRing r keepAnswers s).top = s.top ∧ (emptyRing r keepAnswers s).conf = s.conf ∧
    (emptyRing r keepAnswers s).host = s.host ∧ (emptyRing r keepAnswers s).adm = s.adm ∧ (emptyRing r keepAnswers s).scout = s.scout ∧
    (emptyRing r keepAnswers s).store = s.store ∧ (emptyRing r keepAnswers s).dram = s.dram ∧ (emptyRing r keepAnswers s).harv = s.harv ∧
    (emptyRing r keepAnswers s).nand = s.nand ∧ (emptyRing r keepAnswers s).arr = s.arr ∧ (emptyRing r keepAnswers s).hive = s.hive ∧
    (emptyRing r keepAnswers s).tally = s.tally ∧ (emptyRing r keepAnswers s).sec = s.sec ∧ (emptyRing r keepAnswers s).jtag = s.jtag ∧
    (emptyRing r keepAnswers s).orf = s.orf ∧ (emptyRing r keepAnswers s).weave = s.weave ∧ (emptyRing r keepAnswers s).pending = s.pending ∧
    (emptyRing r keepAnswers s).free = s.free := by
  simp [emptyRing]

@[simp] theorem dropAnswers_blocks (t : Nat) (s : State) :
    (dropAnswers t s).top = s.top ∧ (dropAnswers t s).conf = s.conf ∧ (dropAnswers t s).fr = s.fr ∧
    (dropAnswers t s).host = s.host ∧ (dropAnswers t s).adm = s.adm ∧ (dropAnswers t s).scout = s.scout ∧
    (dropAnswers t s).store = s.store ∧ (dropAnswers t s).dram = s.dram ∧ (dropAnswers t s).harv = s.harv ∧
    (dropAnswers t s).nand = s.nand ∧ (dropAnswers t s).ret = s.ret ∧ (dropAnswers t s).arr = s.arr ∧
    (dropAnswers t s).hive = s.hive ∧ (dropAnswers t s).tally = s.tally ∧ (dropAnswers t s).sec = s.sec ∧
    (dropAnswers t s).jtag = s.jtag ∧ (dropAnswers t s).orf = s.orf ∧ (dropAnswers t s).weave = s.weave ∧
    (dropAnswers t s).pending = s.pending ∧ (dropAnswers t s).free = s.free := by
  simp [dropAnswers]

@[simp] theorem askReset_blocks (r : Nat) (s : State) :
    (askReset r s).top = s.top ∧ (askReset r s).conf = s.conf ∧ (askReset r s).fr = s.fr ∧ (askReset r s).host = s.host ∧
    (askReset r s).adm = s.adm ∧ (askReset r s).scout = s.scout ∧ (askReset r s).store = s.store ∧
    (askReset r s).dram = s.dram ∧ (askReset r s).harv = s.harv ∧ (askReset r s).nand = s.nand ∧
    (askReset r s).ret = s.ret ∧ (askReset r s).arr = s.arr ∧ (askReset r s).hive = s.hive ∧
    (askReset r s).tally = s.tally ∧ (askReset r s).sec = s.sec ∧ (askReset r s).jtag = s.jtag ∧
    (askReset r s).orf = s.orf ∧ (askReset r s).weave = s.weave ∧ (askReset r s).pending = s.pending ∧
    (askReset r s).free = s.free := by
  simp [askReset]

@[simp] theorem ringReset_blocks (r : Nat) (s : State) :
    (ringReset r s).top = s.top ∧ (ringReset r s).conf = s.conf ∧
    (ringReset r s).host = s.host ∧ (ringReset r s).scout = s.scout ∧ (ringReset r s).store = s.store ∧
    (ringReset r s).dram = s.dram ∧ (ringReset r s).harv = s.harv ∧ (ringReset r s).nand = s.nand ∧
    (ringReset r s).arr = s.arr ∧ (ringReset r s).hive = s.hive ∧ (ringReset r s).tally = s.tally ∧
    (ringReset r s).sec = s.sec ∧ (ringReset r s).jtag = s.jtag ∧ (ringReset r s).orf = s.orf ∧
    (ringReset r s).weave = s.weave ∧ (ringReset r s).pending = s.pending ∧ (ringReset r s).free = s.free := by
  unfold ringReset; (repeat' split) <;> simp

@[simp] theorem resetsDue_blocks (s : State) :
    (resetsDue s).top = s.top ∧ (resetsDue s).conf = s.conf ∧ (resetsDue s).host = s.host ∧ (resetsDue s).adm = s.adm ∧
    (resetsDue s).scout = s.scout ∧ (resetsDue s).store = s.store ∧ (resetsDue s).dram = s.dram ∧
    (resetsDue s).harv = s.harv ∧ (resetsDue s).nand = s.nand ∧ (resetsDue s).arr = s.arr ∧ (resetsDue s).hive = s.hive ∧
    (resetsDue s).tally = s.tally ∧ (resetsDue s).sec = s.sec ∧ (resetsDue s).jtag = s.jtag ∧ (resetsDue s).orf = s.orf ∧
    (resetsDue s).weave = s.weave ∧ (resetsDue s).pending = s.pending ∧ (resetsDue s).free = s.free := by
  simp [resetsDue]

end Sys2Proof.Machine
end

