-- ==== Sys2Proof/Laws/BlocksKeys.lean ====
section
/-! SUPPORT. Which blocks of State each operation of Machine/Keys.lean leaves alone. -/

namespace Sys2Proof.Machine

@[simp] theorem unlockMsg_blocks (kind : Nat) (lvl : Nat) (ch : Nat) (res : Nat) (s : State) :
    (unlockMsg kind lvl ch res s).conf = s.conf ∧ (unlockMsg kind lvl ch res s).adm = s.adm ∧ (unlockMsg kind lvl ch res s).store = s.store ∧
    (unlockMsg kind lvl ch res s).dram = s.dram ∧ (unlockMsg kind lvl ch res s).harv = s.harv ∧ (unlockMsg kind lvl ch res s).nand = s.nand ∧
    (unlockMsg kind lvl ch res s).ret = s.ret ∧ (unlockMsg kind lvl ch res s).arr = s.arr ∧ (unlockMsg kind lvl ch res s).hive = s.hive ∧
    (unlockMsg kind lvl ch res s).sec = s.sec ∧ (unlockMsg kind lvl ch res s).jtag = s.jtag ∧ (unlockMsg kind lvl ch res s).orf = s.orf ∧
    (unlockMsg kind lvl ch res s).pending = s.pending ∧ (unlockMsg kind lvl ch res s).free = s.free := by
  simp [unlockMsg]

@[simp] theorem cancelExchange_blocks (s : State) :
    (cancelExchange s).top = s.top ∧ (cancelExchange s).conf = s.conf ∧ (cancelExchange s).fr = s.fr ∧
    (cancelExchange s).host = s.host ∧ (cancelExchange s).ring = s.ring ∧ (cancelExchange s).adm = s.adm ∧
    (cancelExchange s).scout = s.scout ∧ (cancelExchange s).store = s.store ∧ (cancelExchange s).dram = s.dram ∧
    (cancelExchange s).harv = s.harv ∧ (cancelExchange s).nand = s.nand ∧ (cancelExchange s).ret = s.ret ∧
    (cancelExchange s).arr = s.arr ∧ (cancelExchange s).hive = s.hive ∧ (cancelExchange s).tally = s.tally ∧
    (cancelExchange s).jtag = s.jtag ∧ (cancelExchange s).orf = s.orf ∧ (cancelExchange s).weave = s.weave ∧
    (cancelExchange s).pending = s.pending ∧ (cancelExchange s).free = s.free := by
  simp [cancelExchange]

@[simp] theorem closeLevel_blocks (s : State) :
    (closeLevel s).top = s.top ∧ (closeLevel s).conf = s.conf ∧ (closeLevel s).fr = s.fr ∧
    (closeLevel s).host = s.host ∧ (closeLevel s).ring = s.ring ∧ (closeLevel s).adm = s.adm ∧
    (closeLevel s).store = s.store ∧ (closeLevel s).dram = s.dram ∧ (closeLevel s).harv = s.harv ∧
    (closeLevel s).nand = s.nand ∧ (closeLevel s).ret = s.ret ∧ (closeLevel s).arr = s.arr ∧
    (closeLevel s).hive = s.hive ∧ (closeLevel s).tally = s.tally ∧ (closeLevel s).jtag = s.jtag ∧
    (closeLevel s).orf = s.orf ∧ (closeLevel s).weave = s.weave ∧ (closeLevel s).pending = s.pending ∧
    (closeLevel s).free = s.free := by
  simp [closeLevel]

@[simp] theorem clearKeys_blocks (s : State) :
    (clearKeys s).top = s.top ∧ (clearKeys s).conf = s.conf ∧ (clearKeys s).fr = s.fr ∧
    (clearKeys s).host = s.host ∧ (clearKeys s).ring = s.ring ∧ (clearKeys s).adm = s.adm ∧
    (clearKeys s).scout = s.scout ∧ (clearKeys s).store = s.store ∧ (clearKeys s).dram = s.dram ∧
    (clearKeys s).harv = s.harv ∧ (clearKeys s).nand = s.nand ∧ (clearKeys s).ret = s.ret ∧
    (clearKeys s).arr = s.arr ∧ (clearKeys s).hive = s.hive ∧ (clearKeys s).tally = s.tally ∧
    (clearKeys s).jtag = s.jtag ∧ (clearKeys s).orf = s.orf ∧ (clearKeys s).weave = s.weave ∧
    (clearKeys s).pending = s.pending ∧ (clearKeys s).free = s.free := by
  simp [clearKeys]

@[simp] theorem relock_blocks (ch : Nat) (s : State) :
    (relock ch s).conf = s.conf ∧ (relock ch s).adm = s.adm ∧ (relock ch s).store = s.store ∧
    (relock ch s).dram = s.dram ∧ (relock ch s).harv = s.harv ∧ (relock ch s).nand = s.nand ∧
    (relock ch s).ret = s.ret ∧ (relock ch s).arr = s.arr ∧ (relock ch s).hive = s.hive ∧
    (relock ch s).jtag = s.jtag ∧ (relock ch s).orf = s.orf ∧ (relock ch s).pending = s.pending ∧
    (relock ch s).free = s.free := by
  simp [relock]

@[simp] theorem unlockAsk_blocks (ch : Nat) (lvl : Nat) (s : State) :
    (unlockAsk ch lvl s).conf = s.conf ∧ (unlockAsk ch lvl s).adm = s.adm ∧ (unlockAsk ch lvl s).store = s.store ∧
    (unlockAsk ch lvl s).dram = s.dram ∧ (unlockAsk ch lvl s).harv = s.harv ∧ (unlockAsk ch lvl s).nand = s.nand ∧
    (unlockAsk ch lvl s).ret = s.ret ∧ (unlockAsk ch lvl s).arr = s.arr ∧ (unlockAsk ch lvl s).hive = s.hive ∧
    (unlockAsk ch lvl s).jtag = s.jtag ∧ (unlockAsk ch lvl s).orf = s.orf ∧ (unlockAsk ch lvl s).pending = s.pending := by
  simp [unlockAsk]

@[simp] theorem openEntry_blocks (lvl : Nat) (s : State) :
    (openEntry lvl s).top = s.top ∧ (openEntry lvl s).conf = s.conf ∧ (openEntry lvl s).fr = s.fr ∧
    (openEntry lvl s).host = s.host ∧ (openEntry lvl s).ring = s.ring ∧ (openEntry lvl s).adm = s.adm ∧
    (openEntry lvl s).scout = s.scout ∧ (openEntry lvl s).store = s.store ∧ (openEntry lvl s).dram = s.dram ∧
    (openEntry lvl s).harv = s.harv ∧ (openEntry lvl s).nand = s.nand ∧ (openEntry lvl s).ret = s.ret ∧
    (openEntry lvl s).arr = s.arr ∧ (openEntry lvl s).hive = s.hive ∧ (openEntry lvl s).tally = s.tally ∧
    (openEntry lvl s).jtag = s.jtag ∧ (openEntry lvl s).orf = s.orf ∧ (openEntry lvl s).weave = s.weave ∧
    (openEntry lvl s).pending = s.pending ∧ (openEntry lvl s).free = s.free := by
  simp [openEntry]

@[simp] theorem unlockAnswer_blocks (data : Word) (s : State) :
    (unlockAnswer data s).conf = s.conf ∧ (unlockAnswer data s).adm = s.adm ∧ (unlockAnswer data s).store = s.store ∧
    (unlockAnswer data s).dram = s.dram ∧ (unlockAnswer data s).harv = s.harv ∧ (unlockAnswer data s).nand = s.nand ∧
    (unlockAnswer data s).ret = s.ret ∧ (unlockAnswer data s).arr = s.arr ∧ (unlockAnswer data s).hive = s.hive ∧
    (unlockAnswer data s).jtag = s.jtag ∧ (unlockAnswer data s).orf = s.orf ∧ (unlockAnswer data s).pending = s.pending ∧
    (unlockAnswer data s).free = s.free := by
  unfold unlockAnswer; split <;> simp

@[simp] theorem applyUnlock_blocks (data : Word) (s : State) :
    (applyUnlock data s).conf = s.conf ∧ (applyUnlock data s).adm = s.adm ∧ (applyUnlock data s).store = s.store ∧
    (applyUnlock data s).dram = s.dram ∧ (applyUnlock data s).harv = s.harv ∧ (applyUnlock data s).nand = s.nand ∧
    (applyUnlock data s).ret = s.ret ∧ (applyUnlock data s).arr = s.arr ∧ (applyUnlock data s).hive = s.hive ∧
    (applyUnlock data s).jtag = s.jtag ∧ (applyUnlock data s).orf = s.orf ∧ (applyUnlock data s).pending = s.pending := by
  unfold applyUnlock; (repeat' split) <;> simp

@[simp] theorem kill_blocks (s : State) :
    (kill s).conf = s.conf ∧ (kill s).adm = s.adm ∧ (kill s).store = s.store ∧
    (kill s).dram = s.dram ∧ (kill s).harv = s.harv ∧ (kill s).nand = s.nand ∧
    (kill s).ret = s.ret ∧ (kill s).arr = s.arr ∧ (kill s).hive = s.hive ∧
    (kill s).jtag = s.jtag ∧ (kill s).orf = s.orf ∧ (kill s).pending = s.pending ∧
    (kill s).free = s.free := by
  simp [kill]

@[simp] theorem killWaiting_blocks (s : State) :
    (killWaiting s).conf = s.conf ∧ (killWaiting s).adm = s.adm ∧ (killWaiting s).store = s.store ∧
    (killWaiting s).dram = s.dram ∧ (killWaiting s).harv = s.harv ∧ (killWaiting s).nand = s.nand ∧
    (killWaiting s).ret = s.ret ∧ (killWaiting s).arr = s.arr ∧ (killWaiting s).hive = s.hive ∧
    (killWaiting s).jtag = s.jtag ∧ (killWaiting s).orf = s.orf ∧ (killWaiting s).pending = s.pending ∧
    (killWaiting s).free = s.free := by
  simp [killWaiting]

@[simp] theorem tamperQualify_blocks (s : State) :
    (tamperQualify s).conf = s.conf ∧ (tamperQualify s).adm = s.adm ∧ (tamperQualify s).store = s.store ∧
    (tamperQualify s).dram = s.dram ∧ (tamperQualify s).nand = s.nand ∧ (tamperQualify s).ret = s.ret ∧
    (tamperQualify s).arr = s.arr ∧ (tamperQualify s).hive = s.hive ∧ (tamperQualify s).jtag = s.jtag ∧
    (tamperQualify s).orf = s.orf ∧ (tamperQualify s).pending = s.pending ∧ (tamperQualify s).free = s.free := by
  unfold tamperQualify; split <;> simp

@[simp] theorem unlockTimeout_blocks (s : State) :
    (unlockTimeout s).top = s.top ∧ (unlockTimeout s).conf = s.conf ∧ (unlockTimeout s).fr = s.fr ∧
    (unlockTimeout s).host = s.host ∧ (unlockTimeout s).ring = s.ring ∧ (unlockTimeout s).adm = s.adm ∧
    (unlockTimeout s).scout = s.scout ∧ (unlockTimeout s).store = s.store ∧ (unlockTimeout s).dram = s.dram ∧
    (unlockTimeout s).harv = s.harv ∧ (unlockTimeout s).nand = s.nand ∧ (unlockTimeout s).ret = s.ret ∧
    (unlockTimeout s).arr = s.arr ∧ (unlockTimeout s).hive = s.hive ∧ (unlockTimeout s).tally = s.tally ∧
    (unlockTimeout s).jtag = s.jtag ∧ (unlockTimeout s).orf = s.orf ∧ (unlockTimeout s).weave = s.weave ∧
    (unlockTimeout s).pending = s.pending ∧ (unlockTimeout s).free = s.free := by
  simp [unlockTimeout]

@[simp] theorem relockExpiry_blocks (s : State) :
    (relockExpiry s).conf = s.conf ∧ (relockExpiry s).adm = s.adm ∧ (relockExpiry s).store = s.store ∧
    (relockExpiry s).dram = s.dram ∧ (relockExpiry s).harv = s.harv ∧ (relockExpiry s).nand = s.nand ∧
    (relockExpiry s).ret = s.ret ∧ (relockExpiry s).arr = s.arr ∧ (relockExpiry s).hive = s.hive ∧
    (relockExpiry s).jtag = s.jtag ∧ (relockExpiry s).orf = s.orf ∧ (relockExpiry s).pending = s.pending ∧
    (relockExpiry s).free = s.free := by
  simp [relockExpiry]

@[simp] theorem lockoutEnd_blocks (s : State) :
    (lockoutEnd s).top = s.top ∧ (lockoutEnd s).conf = s.conf ∧ (lockoutEnd s).fr = s.fr ∧
    (lockoutEnd s).host = s.host ∧ (lockoutEnd s).ring = s.ring ∧ (lockoutEnd s).adm = s.adm ∧
    (lockoutEnd s).scout = s.scout ∧ (lockoutEnd s).store = s.store ∧ (lockoutEnd s).dram = s.dram ∧
    (lockoutEnd s).harv = s.harv ∧ (lockoutEnd s).nand = s.nand ∧ (lockoutEnd s).ret = s.ret ∧
    (lockoutEnd s).arr = s.arr ∧ (lockoutEnd s).hive = s.hive ∧ (lockoutEnd s).tally = s.tally ∧
    (lockoutEnd s).jtag = s.jtag ∧ (lockoutEnd s).orf = s.orf ∧ (lockoutEnd s).weave = s.weave ∧
    (lockoutEnd s).pending = s.pending ∧ (lockoutEnd s).free = s.free := by
  simp [lockoutEnd]

@[simp] theorem secBoundary_blocks (s : State) :
    (secBoundary s).top = s.top ∧ (secBoundary s).conf = s.conf ∧ (secBoundary s).fr = s.fr ∧
    (secBoundary s).host = s.host ∧ (secBoundary s).ring = s.ring ∧ (secBoundary s).adm = s.adm ∧
    (secBoundary s).scout = s.scout ∧ (secBoundary s).store = s.store ∧ (secBoundary s).dram = s.dram ∧
    (secBoundary s).harv = s.harv ∧ (secBoundary s).nand = s.nand ∧ (secBoundary s).ret = s.ret ∧
    (secBoundary s).arr = s.arr ∧ (secBoundary s).hive = s.hive ∧ (secBoundary s).tally = s.tally ∧
    (secBoundary s).jtag = s.jtag ∧ (secBoundary s).orf = s.orf ∧ (secBoundary s).weave = s.weave ∧
    (secBoundary s).pending = s.pending ∧ (secBoundary s).free = s.free := by
  simp [secBoundary]

end Sys2Proof.Machine
end

