-- ==== Sys2Proof/Laws/BlocksArray.lean ====
section
/-! SUPPORT. Which blocks of State each operation of Machine/Array.lean leaves alone. -/

namespace Sys2Proof.Machine

@[simp] theorem setWord_blocks (w : Nat) (d : DWord) (s : State) :
    (setWord w d s).top = s.top ∧ (setWord w d s).conf = s.conf ∧ (setWord w d s).fr = s.fr ∧
    (setWord w d s).host = s.host ∧ (setWord w d s).ring = s.ring ∧ (setWord w d s).adm = s.adm ∧
    (setWord w d s).scout = s.scout ∧ (setWord w d s).store = s.store ∧ (setWord w d s).dram = s.dram ∧
    (setWord w d s).harv = s.harv ∧ (setWord w d s).nand = s.nand ∧ (setWord w d s).ret = s.ret ∧
    (setWord w d s).hive = s.hive ∧ (setWord w d s).tally = s.tally ∧ (setWord w d s).sec = s.sec ∧
    (setWord w d s).jtag = s.jtag ∧ (setWord w d s).orf = s.orf ∧ (setWord w d s).weave = s.weave ∧
    (setWord w d s).pending = s.pending ∧ (setWord w d s).free = s.free := by
  simp [setWord]

@[simp] theorem readWord_blocks (w : Nat) (s : State) :
    (readWord w s).2.conf = s.conf ∧ (readWord w s).2.adm = s.adm ∧ (readWord w s).2.store = s.store ∧
    (readWord w s).2.dram = s.dram ∧ (readWord w s).2.harv = s.harv ∧ (readWord w s).2.nand = s.nand ∧
    (readWord w s).2.ret = s.ret ∧ (readWord w s).2.arr = s.arr ∧ (readWord w s).2.hive = s.hive ∧
    (readWord w s).2.sec = s.sec ∧ (readWord w s).2.jtag = s.jtag ∧ (readWord w s).2.orf = s.orf ∧
    (readWord w s).2.pending = s.pending ∧ (readWord w s).2.free = s.free := by
  simp [readWord]

@[simp] theorem blankSector_blocks (sec : Nat) (s : State) :
    (blankSector sec s).top = s.top ∧ (blankSector sec s).conf = s.conf ∧ (blankSector sec s).fr = s.fr ∧
    (blankSector sec s).host = s.host ∧ (blankSector sec s).ring = s.ring ∧ (blankSector sec s).adm = s.adm ∧
    (blankSector sec s).scout = s.scout ∧ (blankSector sec s).store = s.store ∧ (blankSector sec s).dram = s.dram ∧
    (blankSector sec s).harv = s.harv ∧ (blankSector sec s).nand = s.nand ∧ (blankSector sec s).ret = s.ret ∧
    (blankSector sec s).hive = s.hive ∧ (blankSector sec s).tally = s.tally ∧ (blankSector sec s).sec = s.sec ∧
    (blankSector sec s).jtag = s.jtag ∧ (blankSector sec s).orf = s.orf ∧ (blankSector sec s).weave = s.weave ∧
    (blankSector sec s).pending = s.pending ∧ (blankSector sec s).free = s.free := by
  simp [blankSector]

@[simp] theorem setPort_blocks (r : Requester) (p : ArrPort) (s : State) :
    (setPort r p s).top = s.top ∧ (setPort r p s).conf = s.conf ∧ (setPort r p s).fr = s.fr ∧
    (setPort r p s).host = s.host ∧ (setPort r p s).ring = s.ring ∧ (setPort r p s).adm = s.adm ∧
    (setPort r p s).scout = s.scout ∧ (setPort r p s).store = s.store ∧ (setPort r p s).dram = s.dram ∧
    (setPort r p s).harv = s.harv ∧ (setPort r p s).nand = s.nand ∧ (setPort r p s).ret = s.ret ∧
    (setPort r p s).hive = s.hive ∧ (setPort r p s).tally = s.tally ∧ (setPort r p s).sec = s.sec ∧
    (setPort r p s).jtag = s.jtag ∧ (setPort r p s).orf = s.orf ∧ (setPort r p s).weave = s.weave ∧
    (setPort r p s).pending = s.pending ∧ (setPort r p s).free = s.free := by
  unfold setPort; split <;> simp

@[simp] theorem setHstate_blocks (r : Requester) (h : Nat) (s : State) :
    (setHstate r h s).top = s.top ∧ (setHstate r h s).conf = s.conf ∧ (setHstate r h s).fr = s.fr ∧
    (setHstate r h s).host = s.host ∧ (setHstate r h s).ring = s.ring ∧ (setHstate r h s).adm = s.adm ∧
    (setHstate r h s).scout = s.scout ∧ (setHstate r h s).store = s.store ∧ (setHstate r h s).dram = s.dram ∧
    (setHstate r h s).harv = s.harv ∧ (setHstate r h s).nand = s.nand ∧ (setHstate r h s).ret = s.ret ∧
    (setHstate r h s).hive = s.hive ∧ (setHstate r h s).tally = s.tally ∧ (setHstate r h s).sec = s.sec ∧
    (setHstate r h s).jtag = s.jtag ∧ (setHstate r h s).orf = s.orf ∧ (setHstate r h s).weave = s.weave ∧
    (setHstate r h s).pending = s.pending ∧ (setHstate r h s).free = s.free := by
  simp [setHstate]

@[simp] theorem endCmd_blocks (r : Requester) (h : Nat) (s : State) :
    (endCmd r h s).conf = s.conf ∧ (endCmd r h s).adm = s.adm ∧ (endCmd r h s).store = s.store ∧
    (endCmd r h s).dram = s.dram ∧ (endCmd r h s).harv = s.harv ∧ (endCmd r h s).nand = s.nand ∧
    (endCmd r h s).ret = s.ret ∧ (endCmd r h s).hive = s.hive ∧ (endCmd r h s).sec = s.sec ∧
    (endCmd r h s).jtag = s.jtag ∧ (endCmd r h s).orf = s.orf ∧ (endCmd r h s).pending = s.pending ∧
    (endCmd r h s).free = s.free := by
  simp [endCmd]

@[simp] theorem rejCmd_blocks (r : Requester) (code : Nat) (s : State) :
    (rejCmd r code s).conf = s.conf ∧ (rejCmd r code s).adm = s.adm ∧ (rejCmd r code s).store = s.store ∧
    (rejCmd r code s).dram = s.dram ∧ (rejCmd r code s).harv = s.harv ∧ (rejCmd r code s).nand = s.nand ∧
    (rejCmd r code s).ret = s.ret ∧ (rejCmd r code s).hive = s.hive ∧ (rejCmd r code s).sec = s.sec ∧
    (rejCmd r code s).jtag = s.jtag ∧ (rejCmd r code s).orf = s.orf ∧ (rejCmd r code s).pending = s.pending ∧
    (rejCmd r code s).free = s.free := by
  simp [rejCmd]

@[simp] theorem resumeSusp_blocks (minRun : Nat) (s : State) :
    (resumeSusp minRun s).top = s.top ∧ (resumeSusp minRun s).conf = s.conf ∧ (resumeSusp minRun s).fr = s.fr ∧
    (resumeSusp minRun s).host = s.host ∧ (resumeSusp minRun s).ring = s.ring ∧ (resumeSusp minRun s).adm = s.adm ∧
    (resumeSusp minRun s).scout = s.scout ∧ (resumeSusp minRun s).store = s.store ∧ (resumeSusp minRun s).dram = s.dram ∧
    (resumeSusp minRun s).harv = s.harv ∧ (resumeSusp minRun s).nand = s.nand ∧ (resumeSusp minRun s).ret = s.ret ∧
    (resumeSusp minRun s).hive = s.hive ∧ (resumeSusp minRun s).tally = s.tally ∧ (resumeSusp minRun s).sec = s.sec ∧
    (resumeSusp minRun s).jtag = s.jtag ∧ (resumeSusp minRun s).orf = s.orf ∧ (resumeSusp minRun s).weave = s.weave ∧
    (resumeSusp minRun s).pending = s.pending ∧ (resumeSusp minRun s).free = s.free := by
  unfold resumeSusp; split <;> simp

@[simp] theorem startNext_blocks (s : State) :
    (startNext s).top = s.top ∧ (startNext s).conf = s.conf ∧ (startNext s).fr = s.fr ∧
    (startNext s).host = s.host ∧ (startNext s).ring = s.ring ∧ (startNext s).adm = s.adm ∧
    (startNext s).scout = s.scout ∧ (startNext s).store = s.store ∧ (startNext s).dram = s.dram ∧
    (startNext s).harv = s.harv ∧ (startNext s).nand = s.nand ∧ (startNext s).ret = s.ret ∧
    (startNext s).hive = s.hive ∧ (startNext s).tally = s.tally ∧ (startNext s).sec = s.sec ∧
    (startNext s).jtag = s.jtag ∧ (startNext s).orf = s.orf ∧ (startNext s).weave = s.weave ∧
    (startNext s).pending = s.pending ∧ (startNext s).free = s.free := by
  unfold startNext; (repeat' split) <;> simp

@[simp] theorem submit_blocks (o : ArrOp) (s : State) :
    (submit o s).top = s.top ∧ (submit o s).conf = s.conf ∧ (submit o s).fr = s.fr ∧
    (submit o s).host = s.host ∧ (submit o s).ring = s.ring ∧ (submit o s).adm = s.adm ∧
    (submit o s).scout = s.scout ∧ (submit o s).store = s.store ∧ (submit o s).dram = s.dram ∧
    (submit o s).harv = s.harv ∧ (submit o s).nand = s.nand ∧ (submit o s).ret = s.ret ∧
    (submit o s).hive = s.hive ∧ (submit o s).tally = s.tally ∧ (submit o s).sec = s.sec ∧
    (submit o s).jtag = s.jtag ∧ (submit o s).orf = s.orf ∧ (submit o s).weave = s.weave ∧
    (submit o s).pending = s.pending ∧ (submit o s).free = s.free := by
  simp [submit]

@[simp] theorem keepRecord_blocks (lo : Nat) (hi : Nat) (tag : Nat) (arg : Nat) (d : DWord) (s : State) :
    (keepRecord lo hi tag arg d s).top = s.top ∧ (keepRecord lo hi tag arg d s).conf = s.conf ∧
    (keepRecord lo hi tag arg d s).fr = s.fr ∧ (keepRecord lo hi tag arg d s).host = s.host ∧
    (keepRecord lo hi tag arg d s).ring = s.ring ∧ (keepRecord lo hi tag arg d s).adm = s.adm ∧
    (keepRecord lo hi tag arg d s).scout = s.scout ∧ (keepRecord lo hi tag arg d s).store = s.store ∧
    (keepRecord lo hi tag arg d s).dram = s.dram ∧ (keepRecord lo hi tag arg d s).harv = s.harv ∧
    (keepRecord lo hi tag arg d s).nand = s.nand ∧ (keepRecord lo hi tag arg d s).ret = s.ret ∧
    (keepRecord lo hi tag arg d s).hive = s.hive ∧ (keepRecord lo hi tag arg d s).tally = s.tally ∧
    (keepRecord lo hi tag arg d s).sec = s.sec ∧ (keepRecord lo hi tag arg d s).jtag = s.jtag ∧
    (keepRecord lo hi tag arg d s).orf = s.orf ∧ (keepRecord lo hi tag arg d s).weave = s.weave ∧
    (keepRecord lo hi tag arg d s).pending = s.pending ∧ (keepRecord lo hi tag arg d s).free = s.free := by
  simp [keepRecord]

@[simp] theorem suspendRun_blocks (cause : Nat) (s : State) :
    (suspendRun cause s).top = s.top ∧ (suspendRun cause s).conf = s.conf ∧ (suspendRun cause s).fr = s.fr ∧
    (suspendRun cause s).host = s.host ∧ (suspendRun cause s).ring = s.ring ∧ (suspendRun cause s).adm = s.adm ∧
    (suspendRun cause s).scout = s.scout ∧ (suspendRun cause s).store = s.store ∧ (suspendRun cause s).dram = s.dram ∧
    (suspendRun cause s).harv = s.harv ∧ (suspendRun cause s).nand = s.nand ∧ (suspendRun cause s).ret = s.ret ∧
    (suspendRun cause s).hive = s.hive ∧ (suspendRun cause s).tally = s.tally ∧ (suspendRun cause s).sec = s.sec ∧
    (suspendRun cause s).jtag = s.jtag ∧ (suspendRun cause s).orf = s.orf ∧ (suspendRun cause s).weave = s.weave ∧
    (suspendRun cause s).pending = s.pending ∧ (suspendRun cause s).free = s.free := by
  unfold suspendRun; split <;> simp

@[simp] theorem touchBank_blocks (off : Nat) (s : State) :
    (touchBank off s).top = s.top ∧ (touchBank off s).conf = s.conf ∧ (touchBank off s).fr = s.fr ∧
    (touchBank off s).host = s.host ∧ (touchBank off s).ring = s.ring ∧ (touchBank off s).adm = s.adm ∧
    (touchBank off s).scout = s.scout ∧ (touchBank off s).store = s.store ∧ (touchBank off s).dram = s.dram ∧
    (touchBank off s).harv = s.harv ∧ (touchBank off s).nand = s.nand ∧ (touchBank off s).ret = s.ret ∧
    (touchBank off s).hive = s.hive ∧ (touchBank off s).tally = s.tally ∧ (touchBank off s).sec = s.sec ∧
    (touchBank off s).jtag = s.jtag ∧ (touchBank off s).orf = s.orf ∧ (touchBank off s).weave = s.weave ∧
    (touchBank off s).pending = s.pending ∧ (touchBank off s).free = s.free := by
  unfold touchBank; split <;> simp

@[simp] theorem serveRead_blocks (r : Requester) (off : Nat) (s : State) :
    (serveRead r off s).conf = s.conf ∧ (serveRead r off s).adm = s.adm ∧ (serveRead r off s).store = s.store ∧
    (serveRead r off s).dram = s.dram ∧ (serveRead r off s).harv = s.harv ∧ (serveRead r off s).nand = s.nand ∧
    (serveRead r off s).ret = s.ret ∧ (serveRead r off s).hive = s.hive ∧ (serveRead r off s).sec = s.sec ∧
    (serveRead r off s).jtag = s.jtag ∧ (serveRead r off s).orf = s.orf ∧ (serveRead r off s).pending = s.pending ∧
    (serveRead r off s).free = s.free := by
  have hk := readWord_blocks (off / 8) (touchBank off s)
  unfold serveRead
  split <;> rename_i heq <;> rw [heq] at hk <;> simp_all

@[simp] theorem serveBlank_blocks (r : Requester) (off : Nat) (s : State) :
    (serveBlank r off s).conf = s.conf ∧ (serveBlank r off s).adm = s.adm ∧ (serveBlank r off s).store = s.store ∧
    (serveBlank r off s).dram = s.dram ∧ (serveBlank r off s).harv = s.harv ∧ (serveBlank r off s).nand = s.nand ∧
    (serveBlank r off s).ret = s.ret ∧ (serveBlank r off s).hive = s.hive ∧ (serveBlank r off s).sec = s.sec ∧
    (serveBlank r off s).jtag = s.jtag ∧ (serveBlank r off s).orf = s.orf ∧ (serveBlank r off s).pending = s.pending ∧
    (serveBlank r off s).free = s.free := by
  simp only [serveBlank]; split <;> simp

@[simp] theorem stallRead_blocks (r : Requester) (blank : Bool) (off : Nat) (erase : Bool) (s : State) :
    (stallRead r blank off erase s).conf = s.conf ∧ (stallRead r blank off erase s).adm = s.adm ∧
    (stallRead r blank off erase s).store = s.store ∧ (stallRead r blank off erase s).dram = s.dram ∧
    (stallRead r blank off erase s).harv = s.harv ∧ (stallRead r blank off erase s).nand = s.nand ∧
    (stallRead r blank off erase s).ret = s.ret ∧ (stallRead r blank off erase s).hive = s.hive ∧
    (stallRead r blank off erase s).sec = s.sec ∧ (stallRead r blank off erase s).jtag = s.jtag ∧
    (stallRead r blank off erase s).orf = s.orf ∧ (stallRead r blank off erase s).pending = s.pending ∧
    (stallRead r blank off erase s).free = s.free := by
  simp [stallRead]

@[simp] theorem tryRead_blocks (r : Requester) (blank : Bool) (off : Nat) (s : State) :
    (tryRead r blank off s).conf = s.conf ∧ (tryRead r blank off s).adm = s.adm ∧ (tryRead r blank off s).store = s.store ∧
    (tryRead r blank off s).dram = s.dram ∧ (tryRead r blank off s).harv = s.harv ∧ (tryRead r blank off s).nand = s.nand ∧
    (tryRead r blank off s).ret = s.ret ∧ (tryRead r blank off s).hive = s.hive ∧ (tryRead r blank off s).sec = s.sec ∧
    (tryRead r blank off s).jtag = s.jtag ∧ (tryRead r blank off s).orf = s.orf ∧
    (tryRead r blank off s).pending = s.pending ∧ (tryRead r blank off s).free = s.free := by
  unfold tryRead; (repeat' split) <;> simp

@[simp] theorem serveWaits_blocks (s : State) :
    (serveWaits s).conf = s.conf ∧ (serveWaits s).adm = s.adm ∧ (serveWaits s).store = s.store ∧
    (serveWaits s).dram = s.dram ∧ (serveWaits s).harv = s.harv ∧ (serveWaits s).nand = s.nand ∧
    (serveWaits s).ret = s.ret ∧ (serveWaits s).hive = s.hive ∧ (serveWaits s).sec = s.sec ∧ (serveWaits s).jtag = s.jtag ∧
    (serveWaits s).orf = s.orf ∧ (serveWaits s).pending = s.pending ∧ (serveWaits s).free = s.free := by
  unfold serveWaits
  refine ⟨foldl_conf _ ?_ _ _, foldl_adm _ ?_ _ _, foldl_store _ ?_ _ _, foldl_dram _ ?_ _ _, foldl_harv _ ?_ _ _, foldl_nand _ ?_ _ _,
    foldl_ret _ ?_ _ _, foldl_hive _ ?_ _ _, foldl_sec _ ?_ _ _, foldl_jtag _ ?_ _ _, foldl_orf _ ?_ _ _, foldl_pending _ ?_ _ _, foldl_free _ ?_ _ _⟩ <;>
    intros <;> (repeat' split) <;> simp

@[simp] theorem suspended_blocks (r : Requester) (s : State) :
    (suspended r s).conf = s.conf ∧ (suspended r s).adm = s.adm ∧ (suspended r s).store = s.store ∧
    (suspended r s).dram = s.dram ∧ (suspended r s).harv = s.harv ∧ (suspended r s).nand = s.nand ∧
    (suspended r s).ret = s.ret ∧ (suspended r s).hive = s.hive ∧ (suspended r s).sec = s.sec ∧
    (suspended r s).jtag = s.jtag ∧ (suspended r s).orf = s.orf ∧ (suspended r s).pending = s.pending ∧
    (suspended r s).free = s.free := by
  simp [suspended]

@[simp] theorem suspendEffect_blocks (s : State) :
    (suspendEffect s).conf = s.conf ∧ (suspendEffect s).adm = s.adm ∧ (suspendEffect s).store = s.store ∧
    (suspendEffect s).dram = s.dram ∧ (suspendEffect s).harv = s.harv ∧ (suspendEffect s).nand = s.nand ∧
    (suspendEffect s).ret = s.ret ∧ (suspendEffect s).hive = s.hive ∧ (suspendEffect s).sec = s.sec ∧
    (suspendEffect s).jtag = s.jtag ∧ (suspendEffect s).orf = s.orf ∧ (suspendEffect s).pending = s.pending ∧
    (suspendEffect s).free = s.free := by
  unfold suspendEffect; split <;> simp

@[simp] theorem autoResume_blocks (s : State) :
    (autoResume s).top = s.top ∧ (autoResume s).conf = s.conf ∧ (autoResume s).fr = s.fr ∧
    (autoResume s).host = s.host ∧ (autoResume s).ring = s.ring ∧ (autoResume s).adm = s.adm ∧
    (autoResume s).scout = s.scout ∧ (autoResume s).store = s.store ∧ (autoResume s).dram = s.dram ∧
    (autoResume s).harv = s.harv ∧ (autoResume s).nand = s.nand ∧ (autoResume s).ret = s.ret ∧
    (autoResume s).hive = s.hive ∧ (autoResume s).tally = s.tally ∧ (autoResume s).sec = s.sec ∧
    (autoResume s).jtag = s.jtag ∧ (autoResume s).orf = s.orf ∧ (autoResume s).weave = s.weave ∧
    (autoResume s).pending = s.pending ∧ (autoResume s).free = s.free := by
  unfold autoResume; split <;> simp

@[simp] theorem arrBoundary_blocks (s : State) :
    (arrBoundary s).conf = s.conf ∧ (arrBoundary s).adm = s.adm ∧ (arrBoundary s).store = s.store ∧
    (arrBoundary s).dram = s.dram ∧ (arrBoundary s).harv = s.harv ∧ (arrBoundary s).nand = s.nand ∧
    (arrBoundary s).ret = s.ret ∧ (arrBoundary s).hive = s.hive ∧ (arrBoundary s).sec = s.sec ∧
    (arrBoundary s).jtag = s.jtag ∧ (arrBoundary s).orf = s.orf ∧ (arrBoundary s).pending = s.pending ∧
    (arrBoundary s).free = s.free := by
  simp [arrBoundary]

@[simp] theorem arrCharge_blocks (s : State) :
    (arrCharge s).conf = s.conf ∧ (arrCharge s).adm = s.adm ∧ (arrCharge s).store = s.store ∧
    (arrCharge s).dram = s.dram ∧ (arrCharge s).harv = s.harv ∧ (arrCharge s).nand = s.nand ∧
    (arrCharge s).ret = s.ret ∧ (arrCharge s).arr = s.arr ∧ (arrCharge s).hive = s.hive ∧
    (arrCharge s).sec = s.sec ∧ (arrCharge s).jtag = s.jtag ∧ (arrCharge s).orf = s.orf ∧
    (arrCharge s).pending = s.pending ∧ (arrCharge s).free = s.free := by
  unfold arrCharge; split <;> simp

@[simp] theorem harvestFlush_blocks (s : State) :
    (harvestFlush s).conf = s.conf ∧ (harvestFlush s).adm = s.adm ∧ (harvestFlush s).store = s.store ∧
    (harvestFlush s).dram = s.dram ∧ (harvestFlush s).harv = s.harv ∧ (harvestFlush s).nand = s.nand ∧
    (harvestFlush s).ret = s.ret ∧ (harvestFlush s).hive = s.hive ∧ (harvestFlush s).sec = s.sec ∧
    (harvestFlush s).jtag = s.jtag ∧ (harvestFlush s).orf = s.orf ∧ (harvestFlush s).pending = s.pending ∧
    (harvestFlush s).free = s.free := by
  simp [harvestFlush]

@[simp] theorem arrCut_blocks (s : State) :
    (arrCut s).top = s.top ∧ (arrCut s).conf = s.conf ∧ (arrCut s).fr = s.fr ∧
    (arrCut s).host = s.host ∧ (arrCut s).ring = s.ring ∧ (arrCut s).adm = s.adm ∧
    (arrCut s).scout = s.scout ∧ (arrCut s).store = s.store ∧ (arrCut s).dram = s.dram ∧
    (arrCut s).harv = s.harv ∧ (arrCut s).nand = s.nand ∧ (arrCut s).ret = s.ret ∧
    (arrCut s).hive = s.hive ∧ (arrCut s).tally = s.tally ∧ (arrCut s).sec = s.sec ∧
    (arrCut s).jtag = s.jtag ∧ (arrCut s).orf = s.orf ∧ (arrCut s).weave = s.weave ∧
    (arrCut s).pending = s.pending := by
  unfold arrCut; split <;> simp

@[simp] theorem arrSoft_blocks (s : State) :
    (arrSoft s).top = s.top ∧ (arrSoft s).conf = s.conf ∧ (arrSoft s).fr = s.fr ∧
    (arrSoft s).host = s.host ∧ (arrSoft s).ring = s.ring ∧ (arrSoft s).adm = s.adm ∧
    (arrSoft s).scout = s.scout ∧ (arrSoft s).store = s.store ∧ (arrSoft s).dram = s.dram ∧
    (arrSoft s).harv = s.harv ∧ (arrSoft s).nand = s.nand ∧ (arrSoft s).ret = s.ret ∧
    (arrSoft s).hive = s.hive ∧ (arrSoft s).tally = s.tally ∧ (arrSoft s).sec = s.sec ∧
    (arrSoft s).jtag = s.jtag ∧ (arrSoft s).orf = s.orf ∧ (arrSoft s).weave = s.weave ∧
    (arrSoft s).pending = s.pending ∧ (arrSoft s).free = s.free := by
  simp [arrSoft]

@[simp] theorem arrWatchdog_blocks (b : Bool) (s : State) :
    (arrWatchdog b s).top = s.top ∧ (arrWatchdog b s).conf = s.conf ∧ (arrWatchdog b s).fr = s.fr ∧
    (arrWatchdog b s).host = s.host ∧ (arrWatchdog b s).ring = s.ring ∧ (arrWatchdog b s).adm = s.adm ∧
    (arrWatchdog b s).scout = s.scout ∧ (arrWatchdog b s).store = s.store ∧ (arrWatchdog b s).dram = s.dram ∧
    (arrWatchdog b s).harv = s.harv ∧ (arrWatchdog b s).nand = s.nand ∧ (arrWatchdog b s).ret = s.ret ∧
    (arrWatchdog b s).hive = s.hive ∧ (arrWatchdog b s).tally = s.tally ∧ (arrWatchdog b s).sec = s.sec ∧
    (arrWatchdog b s).jtag = s.jtag ∧ (arrWatchdog b s).orf = s.orf ∧ (arrWatchdog b s).weave = s.weave ∧
    (arrWatchdog b s).pending = s.pending ∧ (arrWatchdog b s).free = s.free := by
  simp [arrWatchdog]

@[simp] theorem setCore_blocks (b : Bool) (c : Core) (s : State) :
    (setCore b c s).top = s.top ∧ (setCore b c s).conf = s.conf ∧ (setCore b c s).fr = s.fr ∧
    (setCore b c s).host = s.host ∧ (setCore b c s).ring = s.ring ∧ (setCore b c s).adm = s.adm ∧
    (setCore b c s).scout = s.scout ∧ (setCore b c s).store = s.store ∧ (setCore b c s).dram = s.dram ∧
    (setCore b c s).harv = s.harv ∧ (setCore b c s).nand = s.nand ∧ (setCore b c s).ret = s.ret ∧
    (setCore b c s).arr = s.arr ∧ (setCore b c s).tally = s.tally ∧ (setCore b c s).sec = s.sec ∧
    (setCore b c s).jtag = s.jtag ∧ (setCore b c s).orf = s.orf ∧ (setCore b c s).weave = s.weave ∧
    (setCore b c s).pending = s.pending ∧ (setCore b c s).free = s.free := by
  simp [setCore]

@[simp] theorem markAccess_blocks (b : Bool) (a : ArrAccess) (s : State) :
    (markAccess b a s).top = s.top ∧ (markAccess b a s).conf = s.conf ∧ (markAccess b a s).fr = s.fr ∧
    (markAccess b a s).host = s.host ∧ (markAccess b a s).ring = s.ring ∧ (markAccess b a s).adm = s.adm ∧
    (markAccess b a s).scout = s.scout ∧ (markAccess b a s).store = s.store ∧ (markAccess b a s).dram = s.dram ∧
    (markAccess b a s).harv = s.harv ∧ (markAccess b a s).nand = s.nand ∧ (markAccess b a s).ret = s.ret ∧
    (markAccess b a s).hive = s.hive ∧ (markAccess b a s).tally = s.tally ∧ (markAccess b a s).sec = s.sec ∧
    (markAccess b a s).jtag = s.jtag ∧ (markAccess b a s).orf = s.orf ∧ (markAccess b a s).weave = s.weave ∧
    (markAccess b a s).pending = s.pending ∧ (markAccess b a s).free = s.free := by
  unfold markAccess; split <;> simp

end Sys2Proof.Machine
end

