-- ==== Sys2Proof/Laws/BlocksHive.lean ====
section
/-! SUPPORT. Which blocks of State each operation of Machine/Hive.lean leaves alone. -/

namespace Sys2Proof.Machine

@[simp] theorem setRamByte_blocks (b : Bool) (addr : Nat) (v : BitVec 8) (s : State) :
    (setRamByte b addr v s).top = s.top ∧ (setRamByte b addr v s).conf = s.conf ∧ (setRamByte b addr v s).fr = s.fr ∧
    (setRamByte b addr v s).host = s.host ∧ (setRamByte b addr v s).ring = s.ring ∧ (setRamByte b addr v s).adm = s.adm ∧
    (setRamByte b addr v s).scout = s.scout ∧ (setRamByte b addr v s).store = s.store ∧ (setRamByte b addr v s).dram = s.dram ∧
    (setRamByte b addr v s).harv = s.harv ∧ (setRamByte b addr v s).nand = s.nand ∧ (setRamByte b addr v s).ret = s.ret ∧
    (setRamByte b addr v s).arr = s.arr ∧ (setRamByte b addr v s).tally = s.tally ∧ (setRamByte b addr v s).sec = s.sec ∧
    (setRamByte b addr v s).jtag = s.jtag ∧ (setRamByte b addr v s).orf = s.orf ∧ (setRamByte b addr v s).weave = s.weave ∧
    (setRamByte b addr v s).pending = s.pending ∧ (setRamByte b addr v s).free = s.free := by
  simp [setRamByte]

@[simp] theorem ramMark_blocks (b : Bool) (addr : Nat) (m : Nat) (s : State) :
    (ramMark b addr m s).top = s.top ∧ (ramMark b addr m s).conf = s.conf ∧ (ramMark b addr m s).fr = s.fr ∧
    (ramMark b addr m s).host = s.host ∧ (ramMark b addr m s).ring = s.ring ∧ (ramMark b addr m s).adm = s.adm ∧
    (ramMark b addr m s).scout = s.scout ∧ (ramMark b addr m s).store = s.store ∧ (ramMark b addr m s).dram = s.dram ∧
    (ramMark b addr m s).harv = s.harv ∧ (ramMark b addr m s).nand = s.nand ∧ (ramMark b addr m s).ret = s.ret ∧
    (ramMark b addr m s).arr = s.arr ∧ (ramMark b addr m s).tally = s.tally ∧ (ramMark b addr m s).sec = s.sec ∧
    (ramMark b addr m s).jtag = s.jtag ∧ (ramMark b addr m s).orf = s.orf ∧ (ramMark b addr m s).weave = s.weave ∧
    (ramMark b addr m s).pending = s.pending ∧ (ramMark b addr m s).free = s.free := by
  simp [ramMark]

@[simp] theorem ramRead_blocks (b : Bool) (addr : Nat) (size : Nat) (s : State) :
    (ramRead b addr size s).2.conf = s.conf ∧ (ramRead b addr size s).2.adm = s.adm ∧ (ramRead b addr size s).2.store = s.store ∧
    (ramRead b addr size s).2.dram = s.dram ∧ (ramRead b addr size s).2.harv = s.harv ∧ (ramRead b addr size s).2.nand = s.nand ∧
    (ramRead b addr size s).2.ret = s.ret ∧ (ramRead b addr size s).2.arr = s.arr ∧ (ramRead b addr size s).2.sec = s.sec ∧
    (ramRead b addr size s).2.jtag = s.jtag ∧ (ramRead b addr size s).2.orf = s.orf ∧ (ramRead b addr size s).2.pending = s.pending ∧
    (ramRead b addr size s).2.free = s.free := by
  simp [ramRead]

@[simp] theorem ramWrite_blocks (b : Bool) (addr : Nat) (size : Nat) (data : Word) (s : State) :
    (ramWrite b addr size data s).2.conf = s.conf ∧ (ramWrite b addr size data s).2.adm = s.adm ∧ (ramWrite b addr size data s).2.store = s.store ∧
    (ramWrite b addr size data s).2.dram = s.dram ∧ (ramWrite b addr size data s).2.harv = s.harv ∧ (ramWrite b addr size data s).2.nand = s.nand ∧
    (ramWrite b addr size data s).2.ret = s.ret ∧ (ramWrite b addr size data s).2.arr = s.arr ∧ (ramWrite b addr size data s).2.sec = s.sec ∧
    (ramWrite b addr size data s).2.jtag = s.jtag ∧ (ramWrite b addr size data s).2.orf = s.orf ∧ (ramWrite b addr size data s).2.pending = s.pending ∧
    (ramWrite b addr size data s).2.free = s.free := by
  simp [ramWrite]

@[simp] theorem ringC2h_blocks (bits : Word) (s : State) :
    (ringC2h bits s).conf = s.conf ∧ (ringC2h bits s).adm = s.adm ∧ (ringC2h bits s).store = s.store ∧
    (ringC2h bits s).dram = s.dram ∧ (ringC2h bits s).harv = s.harv ∧ (ringC2h bits s).nand = s.nand ∧
    (ringC2h bits s).ret = s.ret ∧ (ringC2h bits s).arr = s.arr ∧ (ringC2h bits s).hive = s.hive ∧
    (ringC2h bits s).sec = s.sec ∧ (ringC2h bits s).jtag = s.jtag ∧ (ringC2h bits s).orf = s.orf ∧
    (ringC2h bits s).pending = s.pending ∧ (ringC2h bits s).free = s.free := by
  simp [ringC2h]

@[simp] theorem extStop_blocks (addr : Word) (s : State) :
    (extStop addr s).conf = s.conf ∧ (extStop addr s).adm = s.adm ∧ (extStop addr s).store = s.store ∧
    (extStop addr s).dram = s.dram ∧ (extStop addr s).harv = s.harv ∧ (extStop addr s).nand = s.nand ∧
    (extStop addr s).ret = s.ret ∧ (extStop addr s).arr = s.arr ∧ (extStop addr s).sec = s.sec ∧
    (extStop addr s).jtag = s.jtag ∧ (extStop addr s).orf = s.orf ∧ (extStop addr s).pending = s.pending ∧
    (extStop addr s).free = s.free := by
  simp [extStop]

@[simp] theorem extReturn_blocks (b : Bool) (s : State) :
    (extReturn b s).top = s.top ∧ (extReturn b s).conf = s.conf ∧ (extReturn b s).fr = s.fr ∧
    (extReturn b s).host = s.host ∧ (extReturn b s).ring = s.ring ∧ (extReturn b s).adm = s.adm ∧
    (extReturn b s).scout = s.scout ∧ (extReturn b s).store = s.store ∧ (extReturn b s).dram = s.dram ∧
    (extReturn b s).harv = s.harv ∧ (extReturn b s).nand = s.nand ∧ (extReturn b s).ret = s.ret ∧
    (extReturn b s).arr = s.arr ∧ (extReturn b s).tally = s.tally ∧ (extReturn b s).sec = s.sec ∧
    (extReturn b s).jtag = s.jtag ∧ (extReturn b s).orf = s.orf ∧ (extReturn b s).weave = s.weave ∧
    (extReturn b s).pending = s.pending ∧ (extReturn b s).free = s.free := by
  simp [extReturn]

@[simp] theorem excEntry_blocks (b : Bool) (addr : Word) (s : State) :
    (excEntry b addr s).conf = s.conf ∧ (excEntry b addr s).adm = s.adm ∧ (excEntry b addr s).store = s.store ∧
    (excEntry b addr s).dram = s.dram ∧ (excEntry b addr s).harv = s.harv ∧ (excEntry b addr s).nand = s.nand ∧
    (excEntry b addr s).ret = s.ret ∧ (excEntry b addr s).arr = s.arr ∧ (excEntry b addr s).sec = s.sec ∧
    (excEntry b addr s).jtag = s.jtag ∧ (excEntry b addr s).orf = s.orf ∧ (excEntry b addr s).pending = s.pending ∧
    (excEntry b addr s).free = s.free := by
  simp [excEntry]

@[simp] theorem takeH2c_blocks (b : Bool) (s : State) :
    (takeH2c b s).conf = s.conf ∧ (takeH2c b s).adm = s.adm ∧ (takeH2c b s).store = s.store ∧
    (takeH2c b s).dram = s.dram ∧ (takeH2c b s).harv = s.harv ∧ (takeH2c b s).nand = s.nand ∧
    (takeH2c b s).ret = s.ret ∧ (takeH2c b s).arr = s.arr ∧ (takeH2c b s).sec = s.sec ∧
    (takeH2c b s).jtag = s.jtag ∧ (takeH2c b s).orf = s.orf ∧ (takeH2c b s).pending = s.pending ∧
    (takeH2c b s).free = s.free := by
  simp [takeH2c]

@[simp] theorem winMark_blocks (off : Nat) (s : State) :
    (winMark off s).conf = s.conf ∧ (winMark off s).adm = s.adm ∧ (winMark off s).store = s.store ∧
    (winMark off s).dram = s.dram ∧ (winMark off s).harv = s.harv ∧ (winMark off s).nand = s.nand ∧
    (winMark off s).ret = s.ret ∧ (winMark off s).arr = s.arr ∧ (winMark off s).sec = s.sec ∧
    (winMark off s).jtag = s.jtag ∧ (winMark off s).orf = s.orf ∧ (winMark off s).pending = s.pending ∧
    (winMark off s).free = s.free := by
  simp [winMark]

@[simp] theorem postC2h_blocks (w : Word) (s : State) :
    (postC2h w s).conf = s.conf ∧ (postC2h w s).adm = s.adm ∧ (postC2h w s).store = s.store ∧
    (postC2h w s).dram = s.dram ∧ (postC2h w s).harv = s.harv ∧ (postC2h w s).nand = s.nand ∧
    (postC2h w s).ret = s.ret ∧ (postC2h w s).arr = s.arr ∧ (postC2h w s).sec = s.sec ∧
    (postC2h w s).jtag = s.jtag ∧ (postC2h w s).orf = s.orf ∧ (postC2h w s).pending = s.pending ∧
    (postC2h w s).free = s.free := by
  simp [postC2h]

@[simp] theorem clearDbH2c_blocks (w : Word) (s : State) :
    (clearDbH2c w s).top = s.top ∧ (clearDbH2c w s).conf = s.conf ∧ (clearDbH2c w s).fr = s.fr ∧
    (clearDbH2c w s).ring = s.ring ∧ (clearDbH2c w s).adm = s.adm ∧ (clearDbH2c w s).scout = s.scout ∧
    (clearDbH2c w s).store = s.store ∧ (clearDbH2c w s).dram = s.dram ∧ (clearDbH2c w s).harv = s.harv ∧
    (clearDbH2c w s).nand = s.nand ∧ (clearDbH2c w s).ret = s.ret ∧ (clearDbH2c w s).arr = s.arr ∧
    (clearDbH2c w s).hive = s.hive ∧ (clearDbH2c w s).tally = s.tally ∧ (clearDbH2c w s).sec = s.sec ∧
    (clearDbH2c w s).jtag = s.jtag ∧ (clearDbH2c w s).orf = s.orf ∧ (clearDbH2c w s).weave = s.weave ∧
    (clearDbH2c w s).pending = s.pending ∧ (clearDbH2c w s).free = s.free := by
  simp [clearDbH2c]

@[simp] theorem kickWdog_blocks (b : Bool) (w : Word) (s : State) :
    (kickWdog b w s).top = s.top ∧ (kickWdog b w s).conf = s.conf ∧ (kickWdog b w s).fr = s.fr ∧
    (kickWdog b w s).host = s.host ∧ (kickWdog b w s).ring = s.ring ∧ (kickWdog b w s).adm = s.adm ∧
    (kickWdog b w s).scout = s.scout ∧ (kickWdog b w s).store = s.store ∧ (kickWdog b w s).dram = s.dram ∧
    (kickWdog b w s).harv = s.harv ∧ (kickWdog b w s).nand = s.nand ∧ (kickWdog b w s).ret = s.ret ∧
    (kickWdog b w s).arr = s.arr ∧ (kickWdog b w s).tally = s.tally ∧ (kickWdog b w s).sec = s.sec ∧
    (kickWdog b w s).jtag = s.jtag ∧ (kickWdog b w s).orf = s.orf ∧ (kickWdog b w s).weave = s.weave ∧
    (kickWdog b w s).pending = s.pending ∧ (kickWdog b w s).free = s.free := by
  simp [kickWdog]

@[simp] theorem storeFlag_blocks (off : Nat) (size : Nat) (lo : Nat) (data : Word) (s : State) :
    (storeFlag off size lo data s).2.conf = s.conf ∧ (storeFlag off size lo data s).2.adm = s.adm ∧ (storeFlag off size lo data s).2.store = s.store ∧
    (storeFlag off size lo data s).2.dram = s.dram ∧ (storeFlag off size lo data s).2.harv = s.harv ∧ (storeFlag off size lo data s).2.nand = s.nand ∧
    (storeFlag off size lo data s).2.ret = s.ret ∧ (storeFlag off size lo data s).2.arr = s.arr ∧ (storeFlag off size lo data s).2.sec = s.sec ∧
    (storeFlag off size lo data s).2.jtag = s.jtag ∧ (storeFlag off size lo data s).2.orf = s.orf ∧ (storeFlag off size lo data s).2.pending = s.pending ∧
    (storeFlag off size lo data s).2.free = s.free := by
  simp [storeFlag]

@[simp] theorem loadWindow_blocks (b : Bool) (off : Nat) (size : Nat) (s : State) :
    (loadWindow b off size s).conf = s.conf ∧ (loadWindow b off size s).adm = s.adm ∧ (loadWindow b off size s).store = s.store ∧
    (loadWindow b off size s).dram = s.dram ∧ (loadWindow b off size s).harv = s.harv ∧ (loadWindow b off size s).nand = s.nand ∧
    (loadWindow b off size s).ret = s.ret ∧ (loadWindow b off size s).arr = s.arr ∧ (loadWindow b off size s).sec = s.sec ∧
    (loadWindow b off size s).jtag = s.jtag ∧ (loadWindow b off size s).orf = s.orf ∧ (loadWindow b off size s).pending = s.pending ∧
    (loadWindow b off size s).free = s.free := by
  simp [loadWindow]

@[simp] theorem loadArrWin_blocks (b : Bool) (off : Nat) (size : Nat) (s : State) :
    (loadArrWin b off size s).top = s.top ∧ (loadArrWin b off size s).conf = s.conf ∧ (loadArrWin b off size s).fr = s.fr ∧
    (loadArrWin b off size s).host = s.host ∧ (loadArrWin b off size s).ring = s.ring ∧ (loadArrWin b off size s).adm = s.adm ∧
    (loadArrWin b off size s).scout = s.scout ∧ (loadArrWin b off size s).store = s.store ∧ (loadArrWin b off size s).dram = s.dram ∧
    (loadArrWin b off size s).harv = s.harv ∧ (loadArrWin b off size s).nand = s.nand ∧ (loadArrWin b off size s).ret = s.ret ∧
    (loadArrWin b off size s).tally = s.tally ∧ (loadArrWin b off size s).sec = s.sec ∧ (loadArrWin b off size s).jtag = s.jtag ∧
    (loadArrWin b off size s).orf = s.orf ∧ (loadArrWin b off size s).weave = s.weave ∧ (loadArrWin b off size s).pending = s.pending ∧
    (loadArrWin b off size s).free = s.free := by
  simp [loadArrWin]

@[simp] theorem takeAsync_blocks (b : Bool) (s : State) :
    (takeAsync b s).conf = s.conf ∧ (takeAsync b s).adm = s.adm ∧ (takeAsync b s).store = s.store ∧
    (takeAsync b s).dram = s.dram ∧ (takeAsync b s).harv = s.harv ∧ (takeAsync b s).nand = s.nand ∧
    (takeAsync b s).ret = s.ret ∧ (takeAsync b s).arr = s.arr ∧ (takeAsync b s).sec = s.sec ∧
    (takeAsync b s).jtag = s.jtag ∧ (takeAsync b s).orf = s.orf ∧ (takeAsync b s).pending = s.pending ∧
    (takeAsync b s).free = s.free := by
  simp [takeAsync]

@[simp] theorem setStalled_blocks (b : Bool) (v : Bool) (s : State) :
    (setStalled b v s).top = s.top ∧ (setStalled b v s).conf = s.conf ∧ (setStalled b v s).fr = s.fr ∧
    (setStalled b v s).host = s.host ∧ (setStalled b v s).ring = s.ring ∧ (setStalled b v s).adm = s.adm ∧
    (setStalled b v s).scout = s.scout ∧ (setStalled b v s).store = s.store ∧ (setStalled b v s).dram = s.dram ∧
    (setStalled b v s).harv = s.harv ∧ (setStalled b v s).nand = s.nand ∧ (setStalled b v s).ret = s.ret ∧
    (setStalled b v s).arr = s.arr ∧ (setStalled b v s).tally = s.tally ∧ (setStalled b v s).sec = s.sec ∧
    (setStalled b v s).jtag = s.jtag ∧ (setStalled b v s).orf = s.orf ∧ (setStalled b v s).weave = s.weave ∧
    (setStalled b v s).pending = s.pending ∧ (setStalled b v s).free = s.free := by
  simp [setStalled]

@[simp] theorem watchdogReset_blocks (b : Bool) (s : State) :
    (watchdogReset b s).conf = s.conf ∧ (watchdogReset b s).adm = s.adm ∧ (watchdogReset b s).store = s.store ∧
    (watchdogReset b s).dram = s.dram ∧ (watchdogReset b s).harv = s.harv ∧ (watchdogReset b s).nand = s.nand ∧
    (watchdogReset b s).ret = s.ret ∧ (watchdogReset b s).sec = s.sec ∧ (watchdogReset b s).jtag = s.jtag ∧
    (watchdogReset b s).orf = s.orf ∧ (watchdogReset b s).pending = s.pending ∧ (watchdogReset b s).free = s.free := by
  simp [watchdogReset]

@[simp] theorem haltCore_blocks (b : Bool) (s : State) :
    (haltCore b s).top = s.top ∧ (haltCore b s).conf = s.conf ∧ (haltCore b s).fr = s.fr ∧ (haltCore b s).ring = s.ring ∧
    (haltCore b s).adm = s.adm ∧ (haltCore b s).scout = s.scout ∧ (haltCore b s).store = s.store ∧
    (haltCore b s).dram = s.dram ∧ (haltCore b s).harv = s.harv ∧ (haltCore b s).nand = s.nand ∧
    (haltCore b s).ret = s.ret ∧ (haltCore b s).tally = s.tally ∧ (haltCore b s).sec = s.sec ∧
    (haltCore b s).jtag = s.jtag ∧ (haltCore b s).orf = s.orf ∧ (haltCore b s).weave = s.weave ∧
    (haltCore b s).pending = s.pending ∧ (haltCore b s).free = s.free := by
  simp [haltCore]

@[simp] theorem coreRestart_blocks (b : Bool) (s : State) :
    (coreRestart b s).top = s.top ∧ (coreRestart b s).conf = s.conf ∧ (coreRestart b s).fr = s.fr ∧
    (coreRestart b s).host = s.host ∧ (coreRestart b s).ring = s.ring ∧ (coreRestart b s).adm = s.adm ∧
    (coreRestart b s).scout = s.scout ∧ (coreRestart b s).store = s.store ∧ (coreRestart b s).dram = s.dram ∧
    (coreRestart b s).harv = s.harv ∧ (coreRestart b s).nand = s.nand ∧ (coreRestart b s).ret = s.ret ∧
    (coreRestart b s).arr = s.arr ∧ (coreRestart b s).tally = s.tally ∧ (coreRestart b s).sec = s.sec ∧
    (coreRestart b s).jtag = s.jtag ∧ (coreRestart b s).orf = s.orf ∧ (coreRestart b s).weave = s.weave ∧
    (coreRestart b s).pending = s.pending ∧ (coreRestart b s).free = s.free := by
  simp [coreRestart]

@[simp] theorem hiveBoundary_blocks (s : State) :
    (hiveBoundary s).top = s.top ∧ (hiveBoundary s).conf = s.conf ∧ (hiveBoundary s).fr = s.fr ∧
    (hiveBoundary s).ring = s.ring ∧ (hiveBoundary s).adm = s.adm ∧ (hiveBoundary s).scout = s.scout ∧
    (hiveBoundary s).store = s.store ∧ (hiveBoundary s).dram = s.dram ∧ (hiveBoundary s).harv = s.harv ∧
    (hiveBoundary s).nand = s.nand ∧ (hiveBoundary s).ret = s.ret ∧ (hiveBoundary s).arr = s.arr ∧
    (hiveBoundary s).tally = s.tally ∧ (hiveBoundary s).sec = s.sec ∧ (hiveBoundary s).jtag = s.jtag ∧
    (hiveBoundary s).orf = s.orf ∧ (hiveBoundary s).weave = s.weave ∧ (hiveBoundary s).pending = s.pending ∧
    (hiveBoundary s).free = s.free := by
  simp [hiveBoundary]

@[simp] theorem extActivate_blocks (k : ActKind) (s : State) :
    (extActivate k s).top = s.top ∧ (extActivate k s).conf = s.conf ∧ (extActivate k s).fr = s.fr ∧
    (extActivate k s).host = s.host ∧ (extActivate k s).ring = s.ring ∧ (extActivate k s).adm = s.adm ∧
    (extActivate k s).scout = s.scout ∧ (extActivate k s).store = s.store ∧ (extActivate k s).dram = s.dram ∧
    (extActivate k s).harv = s.harv ∧ (extActivate k s).nand = s.nand ∧ (extActivate k s).ret = s.ret ∧
    (extActivate k s).arr = s.arr ∧ (extActivate k s).tally = s.tally ∧ (extActivate k s).sec = s.sec ∧
    (extActivate k s).jtag = s.jtag ∧ (extActivate k s).orf = s.orf ∧ (extActivate k s).weave = s.weave ∧
    (extActivate k s).pending = s.pending ∧ (extActivate k s).free = s.free := by
  simp [extActivate]

@[simp] theorem extSlice_blocks (s : State) :
    (extSlice s).conf = s.conf ∧ (extSlice s).adm = s.adm ∧ (extSlice s).store = s.store ∧
    (extSlice s).dram = s.dram ∧ (extSlice s).harv = s.harv ∧ (extSlice s).nand = s.nand ∧
    (extSlice s).ret = s.ret ∧ (extSlice s).arr = s.arr ∧ (extSlice s).sec = s.sec ∧
    (extSlice s).jtag = s.jtag ∧ (extSlice s).orf = s.orf ∧ (extSlice s).pending = s.pending ∧
    (extSlice s).free = s.free := by
  unfold extSlice; split <;> simp

@[simp] theorem answerMbox_blocks (p : Word → Bool) (f : Word → Nat × Nat) (s : State) :
    (answerMbox p f s).conf = s.conf ∧ (answerMbox p f s).adm = s.adm ∧ (answerMbox p f s).store = s.store ∧
    (answerMbox p f s).dram = s.dram ∧ (answerMbox p f s).harv = s.harv ∧ (answerMbox p f s).nand = s.nand ∧
    (answerMbox p f s).ret = s.ret ∧ (answerMbox p f s).arr = s.arr ∧ (answerMbox p f s).sec = s.sec ∧
    (answerMbox p f s).jtag = s.jtag ∧ (answerMbox p f s).orf = s.orf ∧ (answerMbox p f s).pending = s.pending ∧
    (answerMbox p f s).free = s.free := by
  unfold answerMbox; split <;> simp

@[simp] theorem logMark_blocks (s : State) :
    (logMark s).conf = s.conf ∧ (logMark s).adm = s.adm ∧ (logMark s).store = s.store ∧
    (logMark s).dram = s.dram ∧ (logMark s).harv = s.harv ∧ (logMark s).nand = s.nand ∧
    (logMark s).ret = s.ret ∧ (logMark s).arr = s.arr ∧ (logMark s).hive = s.hive ∧
    (logMark s).sec = s.sec ∧ (logMark s).jtag = s.jtag ∧ (logMark s).orf = s.orf ∧
    (logMark s).pending = s.pending ∧ (logMark s).free = s.free := by
  unfold logMark; split <;> simp

end Sys2Proof.Machine
end

