-- ==== Sys2Proof/Laws/BlocksScout.lean ====
section
/-! SUPPORT. Which blocks of State each operation of Machine/Scout.lean leaves alone. -/

namespace Sys2Proof.Machine

@[simp] theorem modTrig_blocks (f : Trig → Trig) (s : State) :
    (modTrig f s).conf = s.conf ∧ (modTrig f s).fr = s.fr ∧ (modTrig f s).host = s.host ∧
    (modTrig f s).ring = s.ring ∧ (modTrig f s).adm = s.adm ∧ (modTrig f s).scout = s.scout ∧
    (modTrig f s).store = s.store ∧ (modTrig f s).dram = s.dram ∧ (modTrig f s).harv = s.harv ∧
    (modTrig f s).nand = s.nand ∧ (modTrig f s).ret = s.ret ∧ (modTrig f s).arr = s.arr ∧
    (modTrig f s).hive = s.hive ∧ (modTrig f s).tally = s.tally ∧ (modTrig f s).sec = s.sec ∧
    (modTrig f s).jtag = s.jtag ∧ (modTrig f s).orf = s.orf ∧ (modTrig f s).weave = s.weave ∧
    (modTrig f s).pending = s.pending ∧ (modTrig f s).free = s.free := by
  simp [modTrig]

@[simp] theorem markLevels_blocks (s : State) :
    (markLevels s).conf = s.conf ∧ (markLevels s).fr = s.fr ∧ (markLevels s).host = s.host ∧
    (markLevels s).ring = s.ring ∧ (markLevels s).adm = s.adm ∧ (markLevels s).scout = s.scout ∧
    (markLevels s).store = s.store ∧ (markLevels s).dram = s.dram ∧ (markLevels s).harv = s.harv ∧
    (markLevels s).nand = s.nand ∧ (markLevels s).ret = s.ret ∧ (markLevels s).arr = s.arr ∧
    (markLevels s).hive = s.hive ∧ (markLevels s).tally = s.tally ∧ (markLevels s).sec = s.sec ∧
    (markLevels s).jtag = s.jtag ∧ (markLevels s).orf = s.orf ∧ (markLevels s).weave = s.weave ∧
    (markLevels s).pending = s.pending ∧ (markLevels s).free = s.free := by
  simp [markLevels]

@[simp] theorem vinConvert_blocks (vin : Int) (s : State) :
    (vinConvert vin s).top = s.top ∧ (vinConvert vin s).conf = s.conf ∧ (vinConvert vin s).fr = s.fr ∧
    (vinConvert vin s).host = s.host ∧ (vinConvert vin s).ring = s.ring ∧ (vinConvert vin s).adm = s.adm ∧
    (vinConvert vin s).store = s.store ∧ (vinConvert vin s).dram = s.dram ∧ (vinConvert vin s).harv = s.harv ∧
    (vinConvert vin s).nand = s.nand ∧ (vinConvert vin s).ret = s.ret ∧ (vinConvert vin s).arr = s.arr ∧
    (vinConvert vin s).hive = s.hive ∧ (vinConvert vin s).tally = s.tally ∧ (vinConvert vin s).sec = s.sec ∧
    (vinConvert vin s).jtag = s.jtag ∧ (vinConvert vin s).orf = s.orf ∧ (vinConvert vin s).weave = s.weave ∧
    (vinConvert vin s).pending = s.pending ∧ (vinConvert vin s).free = s.free := by
  simp [vinConvert]

@[simp] theorem warnStep_blocks (s : State) :
    (warnStep s).top = s.top ∧ (warnStep s).conf = s.conf ∧ (warnStep s).fr = s.fr ∧
    (warnStep s).host = s.host ∧ (warnStep s).ring = s.ring ∧ (warnStep s).adm = s.adm ∧
    (warnStep s).store = s.store ∧ (warnStep s).dram = s.dram ∧ (warnStep s).harv = s.harv ∧
    (warnStep s).nand = s.nand ∧ (warnStep s).ret = s.ret ∧ (warnStep s).arr = s.arr ∧
    (warnStep s).hive = s.hive ∧ (warnStep s).tally = s.tally ∧ (warnStep s).sec = s.sec ∧
    (warnStep s).jtag = s.jtag ∧ (warnStep s).orf = s.orf ∧ (warnStep s).weave = s.weave ∧
    (warnStep s).pending = s.pending ∧ (warnStep s).free = s.free := by
  simp [warnStep]

@[simp] theorem tripStep_blocks (sns : Int) (low : Nat) (s : State) :
    (tripStep sns low s).conf = s.conf ∧ (tripStep sns low s).adm = s.adm ∧ (tripStep sns low s).store = s.store ∧
    (tripStep sns low s).dram = s.dram ∧ (tripStep sns low s).harv = s.harv ∧ (tripStep sns low s).nand = s.nand ∧
    (tripStep sns low s).ret = s.ret ∧ (tripStep sns low s).arr = s.arr ∧ (tripStep sns low s).hive = s.hive ∧
    (tripStep sns low s).sec = s.sec ∧ (tripStep sns low s).jtag = s.jtag ∧ (tripStep sns low s).orf = s.orf ∧
    (tripStep sns low s).pending = s.pending ∧ (tripStep sns low s).free = s.free := by
  simp [tripStep]

@[simp] theorem pretripStep_blocks (s : State) :
    (pretripStep s).top = s.top ∧ (pretripStep s).conf = s.conf ∧ (pretripStep s).fr = s.fr ∧
    (pretripStep s).host = s.host ∧ (pretripStep s).ring = s.ring ∧ (pretripStep s).adm = s.adm ∧
    (pretripStep s).store = s.store ∧ (pretripStep s).dram = s.dram ∧ (pretripStep s).harv = s.harv ∧
    (pretripStep s).nand = s.nand ∧ (pretripStep s).ret = s.ret ∧ (pretripStep s).arr = s.arr ∧
    (pretripStep s).hive = s.hive ∧ (pretripStep s).tally = s.tally ∧ (pretripStep s).sec = s.sec ∧
    (pretripStep s).jtag = s.jtag ∧ (pretripStep s).orf = s.orf ∧ (pretripStep s).weave = s.weave ∧
    (pretripStep s).pending = s.pending ∧ (pretripStep s).free = s.free := by
  simp [pretripStep]

@[simp] theorem pgStep_blocks (pgHigh : Bool) (s : State) :
    (pgStep pgHigh s).conf = s.conf ∧ (pgStep pgHigh s).adm = s.adm ∧ (pgStep pgHigh s).store = s.store ∧
    (pgStep pgHigh s).dram = s.dram ∧ (pgStep pgHigh s).harv = s.harv ∧ (pgStep pgHigh s).nand = s.nand ∧
    (pgStep pgHigh s).ret = s.ret ∧ (pgStep pgHigh s).arr = s.arr ∧ (pgStep pgHigh s).hive = s.hive ∧
    (pgStep pgHigh s).sec = s.sec ∧ (pgStep pgHigh s).jtag = s.jtag ∧ (pgStep pgHigh s).orf = s.orf ∧
    (pgStep pgHigh s).pending = s.pending ∧ (pgStep pgHigh s).free = s.free := by
  simp [pgStep]

@[simp] theorem wetStep_blocks (high : Bool) (s : State) :
    (wetStep high s).conf = s.conf ∧ (wetStep high s).adm = s.adm ∧ (wetStep high s).store = s.store ∧
    (wetStep high s).dram = s.dram ∧ (wetStep high s).harv = s.harv ∧ (wetStep high s).nand = s.nand ∧
    (wetStep high s).ret = s.ret ∧ (wetStep high s).arr = s.arr ∧ (wetStep high s).hive = s.hive ∧
    (wetStep high s).sec = s.sec ∧ (wetStep high s).jtag = s.jtag ∧ (wetStep high s).orf = s.orf ∧
    (wetStep high s).pending = s.pending ∧ (wetStep high s).free = s.free := by
  simp [wetStep]

@[simp] theorem tamperStep_blocks (low : Bool) (s : State) :
    (tamperStep low s).conf = s.conf ∧ (tamperStep low s).adm = s.adm ∧ (tamperStep low s).store = s.store ∧
    (tamperStep low s).dram = s.dram ∧ (tamperStep low s).nand = s.nand ∧ (tamperStep low s).ret = s.ret ∧
    (tamperStep low s).arr = s.arr ∧ (tamperStep low s).hive = s.hive ∧ (tamperStep low s).jtag = s.jtag ∧
    (tamperStep low s).orf = s.orf ∧ (tamperStep low s).pending = s.pending ∧ (tamperStep low s).free = s.free := by
  simp [tamperStep]

@[simp] theorem vgoodStep_blocks (s : State) :
    (vgoodStep s).top = s.top ∧ (vgoodStep s).conf = s.conf ∧ (vgoodStep s).fr = s.fr ∧
    (vgoodStep s).host = s.host ∧ (vgoodStep s).ring = s.ring ∧ (vgoodStep s).adm = s.adm ∧
    (vgoodStep s).store = s.store ∧ (vgoodStep s).dram = s.dram ∧ (vgoodStep s).harv = s.harv ∧
    (vgoodStep s).nand = s.nand ∧ (vgoodStep s).ret = s.ret ∧ (vgoodStep s).arr = s.arr ∧
    (vgoodStep s).hive = s.hive ∧ (vgoodStep s).tally = s.tally ∧ (vgoodStep s).sec = s.sec ∧
    (vgoodStep s).jtag = s.jtag ∧ (vgoodStep s).orf = s.orf ∧ (vgoodStep s).weave = s.weave ∧
    (vgoodStep s).pending = s.pending ∧ (vgoodStep s).free = s.free := by
  simp [vgoodStep]

@[simp] theorem abortStep_blocks (s : State) :
    (abortStep s).conf = s.conf ∧ (abortStep s).fr = s.fr ∧ (abortStep s).host = s.host ∧
    (abortStep s).ring = s.ring ∧ (abortStep s).adm = s.adm ∧ (abortStep s).scout = s.scout ∧
    (abortStep s).store = s.store ∧ (abortStep s).dram = s.dram ∧ (abortStep s).harv = s.harv ∧
    (abortStep s).nand = s.nand ∧ (abortStep s).ret = s.ret ∧ (abortStep s).arr = s.arr ∧
    (abortStep s).hive = s.hive ∧ (abortStep s).tally = s.tally ∧ (abortStep s).sec = s.sec ∧
    (abortStep s).jtag = s.jtag ∧ (abortStep s).orf = s.orf ∧ (abortStep s).weave = s.weave ∧
    (abortStep s).pending = s.pending ∧ (abortStep s).free = s.free := by
  simp [abortStep]

@[simp] theorem lineStep_blocks (low : Bool) (s : State) :
    (lineStep low s).conf = s.conf ∧ (lineStep low s).adm = s.adm ∧ (lineStep low s).store = s.store ∧
    (lineStep low s).dram = s.dram ∧ (lineStep low s).harv = s.harv ∧ (lineStep low s).nand = s.nand ∧
    (lineStep low s).ret = s.ret ∧ (lineStep low s).arr = s.arr ∧ (lineStep low s).hive = s.hive ∧
    (lineStep low s).sec = s.sec ∧ (lineStep low s).jtag = s.jtag ∧ (lineStep low s).orf = s.orf ∧
    (lineStep low s).pending = s.pending ∧ (lineStep low s).free = s.free := by
  simp [lineStep]

@[simp] theorem driveStep_blocks (s : State) :
    (driveStep s).top = s.top ∧ (driveStep s).conf = s.conf ∧ (driveStep s).fr = s.fr ∧
    (driveStep s).host = s.host ∧ (driveStep s).ring = s.ring ∧ (driveStep s).adm = s.adm ∧
    (driveStep s).scout = s.scout ∧ (driveStep s).store = s.store ∧ (driveStep s).dram = s.dram ∧
    (driveStep s).harv = s.harv ∧ (driveStep s).nand = s.nand ∧ (driveStep s).ret = s.ret ∧
    (driveStep s).arr = s.arr ∧ (driveStep s).hive = s.hive ∧ (driveStep s).tally = s.tally ∧
    (driveStep s).sec = s.sec ∧ (driveStep s).jtag = s.jtag ∧ (driveStep s).orf = s.orf ∧
    (driveStep s).pending = s.pending ∧ (driveStep s).free = s.free := by
  simp [driveStep]

@[simp] theorem raisedStep_blocks (s : State) :
    (raisedStep s).top = s.top ∧ (raisedStep s).conf = s.conf ∧ (raisedStep s).fr = s.fr ∧
    (raisedStep s).host = s.host ∧ (raisedStep s).ring = s.ring ∧ (raisedStep s).adm = s.adm ∧
    (raisedStep s).store = s.store ∧ (raisedStep s).dram = s.dram ∧ (raisedStep s).harv = s.harv ∧
    (raisedStep s).nand = s.nand ∧ (raisedStep s).ret = s.ret ∧ (raisedStep s).arr = s.arr ∧
    (raisedStep s).hive = s.hive ∧ (raisedStep s).tally = s.tally ∧ (raisedStep s).sec = s.sec ∧
    (raisedStep s).jtag = s.jtag ∧ (raisedStep s).orf = s.orf ∧ (raisedStep s).weave = s.weave ∧
    (raisedStep s).pending = s.pending ∧ (raisedStep s).free = s.free := by
  simp [raisedStep]

@[simp] theorem vinSample_blocks (x : VinSample) (s : State) :
    (vinSample x s).conf = s.conf ∧ (vinSample x s).adm = s.adm ∧ (vinSample x s).store = s.store ∧
    (vinSample x s).dram = s.dram ∧ (vinSample x s).nand = s.nand ∧ (vinSample x s).ret = s.ret ∧
    (vinSample x s).arr = s.arr ∧ (vinSample x s).hive = s.hive ∧ (vinSample x s).jtag = s.jtag ∧
    (vinSample x s).orf = s.orf ∧ (vinSample x s).pending = s.pending ∧ (vinSample x s).free = s.free := by
  simp [vinSample]

@[simp] theorem vstConvert_blocks (x : Int) (s : State) :
    (vstConvert x s).top = s.top ∧ (vstConvert x s).conf = s.conf ∧ (vstConvert x s).fr = s.fr ∧
    (vstConvert x s).host = s.host ∧ (vstConvert x s).ring = s.ring ∧ (vstConvert x s).adm = s.adm ∧
    (vstConvert x s).store = s.store ∧ (vstConvert x s).dram = s.dram ∧ (vstConvert x s).harv = s.harv ∧
    (vstConvert x s).nand = s.nand ∧ (vstConvert x s).ret = s.ret ∧ (vstConvert x s).arr = s.arr ∧
    (vstConvert x s).hive = s.hive ∧ (vstConvert x s).tally = s.tally ∧ (vstConvert x s).sec = s.sec ∧
    (vstConvert x s).jtag = s.jtag ∧ (vstConvert x s).orf = s.orf ∧ (vstConvert x s).weave = s.weave ∧
    (vstConvert x s).pending = s.pending ∧ (vstConvert x s).free = s.free := by
  simp [vstConvert]

@[simp] theorem thFaultStep_blocks (i : Nat) (s : State) :
    (thFaultStep i s).conf = s.conf ∧ (thFaultStep i s).adm = s.adm ∧ (thFaultStep i s).store = s.store ∧
    (thFaultStep i s).dram = s.dram ∧ (thFaultStep i s).harv = s.harv ∧ (thFaultStep i s).nand = s.nand ∧
    (thFaultStep i s).ret = s.ret ∧ (thFaultStep i s).arr = s.arr ∧ (thFaultStep i s).hive = s.hive ∧
    (thFaultStep i s).sec = s.sec ∧ (thFaultStep i s).jtag = s.jtag ∧ (thFaultStep i s).orf = s.orf ∧
    (thFaultStep i s).pending = s.pending ∧ (thFaultStep i s).free = s.free := by
  simp [thFaultStep]

@[simp] theorem talarmStep_blocks (i : Nat) (s : State) :
    (talarmStep i s).conf = s.conf ∧ (talarmStep i s).adm = s.adm ∧ (talarmStep i s).store = s.store ∧
    (talarmStep i s).dram = s.dram ∧ (talarmStep i s).harv = s.harv ∧ (talarmStep i s).nand = s.nand ∧
    (talarmStep i s).ret = s.ret ∧ (talarmStep i s).arr = s.arr ∧ (talarmStep i s).hive = s.hive ∧
    (talarmStep i s).sec = s.sec ∧ (talarmStep i s).jtag = s.jtag ∧ (talarmStep i s).orf = s.orf ∧
    (talarmStep i s).pending = s.pending ∧ (talarmStep i s).free = s.free := by
  simp [talarmStep]

@[simp] theorem adcStep_blocks (s : State) :
    (adcStep s).conf = s.conf ∧ (adcStep s).adm = s.adm ∧ (adcStep s).store = s.store ∧
    (adcStep s).dram = s.dram ∧ (adcStep s).harv = s.harv ∧ (adcStep s).nand = s.nand ∧
    (adcStep s).ret = s.ret ∧ (adcStep s).arr = s.arr ∧ (adcStep s).hive = s.hive ∧
    (adcStep s).sec = s.sec ∧ (adcStep s).jtag = s.jtag ∧ (adcStep s).orf = s.orf ∧
    (adcStep s).pending = s.pending ∧ (adcStep s).free = s.free := by
  simp [adcStep]

@[simp] theorem thFilter_blocks (i : Nat) (code : Int) (s : State) :
    (thFilter i code s).top = s.top ∧ (thFilter i code s).conf = s.conf ∧ (thFilter i code s).fr = s.fr ∧
    (thFilter i code s).host = s.host ∧ (thFilter i code s).ring = s.ring ∧ (thFilter i code s).adm = s.adm ∧
    (thFilter i code s).store = s.store ∧ (thFilter i code s).dram = s.dram ∧ (thFilter i code s).harv = s.harv ∧
    (thFilter i code s).nand = s.nand ∧ (thFilter i code s).ret = s.ret ∧ (thFilter i code s).arr = s.arr ∧
    (thFilter i code s).hive = s.hive ∧ (thFilter i code s).tally = s.tally ∧ (thFilter i code s).sec = s.sec ∧
    (thFilter i code s).jtag = s.jtag ∧ (thFilter i code s).orf = s.orf ∧ (thFilter i code s).weave = s.weave ∧
    (thFilter i code s).pending = s.pending ∧ (thFilter i code s).free = s.free := by
  simp [thFilter]

@[simp] theorem thConvert_blocks (i : Nat) (x : Int) (s : State) :
    (thConvert i x s).conf = s.conf ∧ (thConvert i x s).adm = s.adm ∧ (thConvert i x s).store = s.store ∧
    (thConvert i x s).dram = s.dram ∧ (thConvert i x s).harv = s.harv ∧ (thConvert i x s).nand = s.nand ∧
    (thConvert i x s).ret = s.ret ∧ (thConvert i x s).arr = s.arr ∧ (thConvert i x s).hive = s.hive ∧
    (thConvert i x s).sec = s.sec ∧ (thConvert i x s).jtag = s.jtag ∧ (thConvert i x s).orf = s.orf ∧
    (thConvert i x s).pending = s.pending ∧ (thConvert i x s).free = s.free := by
  simp [thConvert]

@[simp] theorem thReload_blocks (used0 : Bool) (used1 : Bool) (s : State) :
    (thReload used0 used1 s).top = s.top ∧ (thReload used0 used1 s).conf = s.conf ∧ (thReload used0 used1 s).fr = s.fr ∧
    (thReload used0 used1 s).host = s.host ∧ (thReload used0 used1 s).ring = s.ring ∧ (thReload used0 used1 s).adm = s.adm ∧
    (thReload used0 used1 s).store = s.store ∧ (thReload used0 used1 s).dram = s.dram ∧
    (thReload used0 used1 s).harv = s.harv ∧ (thReload used0 used1 s).nand = s.nand ∧ (thReload used0 used1 s).ret = s.ret ∧
    (thReload used0 used1 s).arr = s.arr ∧ (thReload used0 used1 s).hive = s.hive ∧
    (thReload used0 used1 s).tally = s.tally ∧ (thReload used0 used1 s).sec = s.sec ∧
    (thReload used0 used1 s).jtag = s.jtag ∧ (thReload used0 used1 s).orf = s.orf ∧
    (thReload used0 used1 s).weave = s.weave ∧ (thReload used0 used1 s).pending = s.pending ∧
    (thReload used0 used1 s).free = s.free := by
  simp [thReload]

@[simp] theorem muxConvert_blocks (raw : Int) (s : State) :
    (muxConvert raw s).1.conf = s.conf ∧ (muxConvert raw s).1.adm = s.adm ∧ (muxConvert raw s).1.store = s.store ∧
    (muxConvert raw s).1.dram = s.dram ∧ (muxConvert raw s).1.harv = s.harv ∧ (muxConvert raw s).1.nand = s.nand ∧
    (muxConvert raw s).1.ret = s.ret ∧ (muxConvert raw s).1.arr = s.arr ∧ (muxConvert raw s).1.hive = s.hive ∧
    (muxConvert raw s).1.sec = s.sec ∧ (muxConvert raw s).1.jtag = s.jtag ∧ (muxConvert raw s).1.orf = s.orf ∧
    (muxConvert raw s).1.pending = s.pending ∧ (muxConvert raw s).1.free = s.free := by
  simp [muxConvert]

@[simp] theorem storeLowStep_blocks (s : State) :
    (storeLowStep s).top = s.top ∧ (storeLowStep s).conf = s.conf ∧ (storeLowStep s).fr = s.fr ∧
    (storeLowStep s).host = s.host ∧ (storeLowStep s).ring = s.ring ∧ (storeLowStep s).adm = s.adm ∧
    (storeLowStep s).store = s.store ∧ (storeLowStep s).dram = s.dram ∧ (storeLowStep s).harv = s.harv ∧
    (storeLowStep s).nand = s.nand ∧ (storeLowStep s).ret = s.ret ∧ (storeLowStep s).arr = s.arr ∧
    (storeLowStep s).hive = s.hive ∧ (storeLowStep s).tally = s.tally ∧ (storeLowStep s).sec = s.sec ∧
    (storeLowStep s).jtag = s.jtag ∧ (storeLowStep s).orf = s.orf ∧ (storeLowStep s).weave = s.weave ∧
    (storeLowStep s).pending = s.pending ∧ (storeLowStep s).free = s.free := by
  simp [storeLowStep]

@[simp] theorem tempsConvert_blocks (x : SlowSample) (s : State) :
    (tempsConvert x s).top = s.top ∧ (tempsConvert x s).conf = s.conf ∧ (tempsConvert x s).fr = s.fr ∧
    (tempsConvert x s).host = s.host ∧ (tempsConvert x s).ring = s.ring ∧ (tempsConvert x s).adm = s.adm ∧
    (tempsConvert x s).store = s.store ∧ (tempsConvert x s).dram = s.dram ∧ (tempsConvert x s).harv = s.harv ∧
    (tempsConvert x s).nand = s.nand ∧ (tempsConvert x s).ret = s.ret ∧ (tempsConvert x s).arr = s.arr ∧
    (tempsConvert x s).hive = s.hive ∧ (tempsConvert x s).tally = s.tally ∧ (tempsConvert x s).sec = s.sec ∧
    (tempsConvert x s).jtag = s.jtag ∧ (tempsConvert x s).orf = s.orf ∧ (tempsConvert x s).weave = s.weave ∧
    (tempsConvert x s).pending = s.pending ∧ (tempsConvert x s).free = s.free := by
  simp [tempsConvert]

@[simp] theorem raiseStep_blocks (s : State) :
    (raiseStep s).top = s.top ∧ (raiseStep s).conf = s.conf ∧ (raiseStep s).fr = s.fr ∧
    (raiseStep s).host = s.host ∧ (raiseStep s).ring = s.ring ∧ (raiseStep s).adm = s.adm ∧
    (raiseStep s).store = s.store ∧ (raiseStep s).dram = s.dram ∧ (raiseStep s).harv = s.harv ∧
    (raiseStep s).nand = s.nand ∧ (raiseStep s).ret = s.ret ∧ (raiseStep s).arr = s.arr ∧
    (raiseStep s).hive = s.hive ∧ (raiseStep s).tally = s.tally ∧ (raiseStep s).sec = s.sec ∧
    (raiseStep s).jtag = s.jtag ∧ (raiseStep s).orf = s.orf ∧ (raiseStep s).weave = s.weave ∧
    (raiseStep s).pending = s.pending ∧ (raiseStep s).free = s.free := by
  simp [raiseStep]

@[simp] theorem lowSample_blocks (x : SlowSample) (s : State) :
    (lowSample x s).conf = s.conf ∧ (lowSample x s).adm = s.adm ∧ (lowSample x s).store = s.store ∧
    (lowSample x s).dram = s.dram ∧ (lowSample x s).nand = s.nand ∧ (lowSample x s).ret = s.ret ∧
    (lowSample x s).arr = s.arr ∧ (lowSample x s).hive = s.hive ∧ (lowSample x s).jtag = s.jtag ∧
    (lowSample x s).orf = s.orf ∧ (lowSample x s).pending = s.pending ∧ (lowSample x s).free = s.free := by
  simp [lowSample]

@[simp] theorem holdConvert_blocks (x : SlowSample) (s : State) :
    (holdConvert x s).conf = s.conf ∧ (holdConvert x s).adm = s.adm ∧ (holdConvert x s).store = s.store ∧
    (holdConvert x s).dram = s.dram ∧ (holdConvert x s).nand = s.nand ∧ (holdConvert x s).ret = s.ret ∧
    (holdConvert x s).arr = s.arr ∧ (holdConvert x s).hive = s.hive ∧ (holdConvert x s).jtag = s.jtag ∧
    (holdConvert x s).orf = s.orf ∧ (holdConvert x s).pending = s.pending ∧ (holdConvert x s).free = s.free := by
  simp [holdConvert]

@[simp] theorem dormantWakeup_blocks (x : SlowSample) (s : State) :
    (dormantWakeup x s).conf = s.conf ∧ (dormantWakeup x s).adm = s.adm ∧ (dormantWakeup x s).store = s.store ∧
    (dormantWakeup x s).dram = s.dram ∧ (dormantWakeup x s).nand = s.nand ∧ (dormantWakeup x s).ret = s.ret ∧
    (dormantWakeup x s).arr = s.arr ∧ (dormantWakeup x s).hive = s.hive ∧ (dormantWakeup x s).jtag = s.jtag ∧
    (dormantWakeup x s).orf = s.orf ∧ (dormantWakeup x s).pending = s.pending ∧ (dormantWakeup x s).free = s.free := by
  simp [dormantWakeup]

@[simp] theorem shipFire_blocks (vin : Int) (s : State) :
    (shipFire vin s).conf = s.conf ∧ (shipFire vin s).fr = s.fr ∧ (shipFire vin s).host = s.host ∧
    (shipFire vin s).ring = s.ring ∧ (shipFire vin s).adm = s.adm ∧ (shipFire vin s).store = s.store ∧
    (shipFire vin s).dram = s.dram ∧ (shipFire vin s).harv = s.harv ∧ (shipFire vin s).nand = s.nand ∧
    (shipFire vin s).ret = s.ret ∧ (shipFire vin s).arr = s.arr ∧ (shipFire vin s).hive = s.hive ∧
    (shipFire vin s).tally = s.tally ∧ (shipFire vin s).sec = s.sec ∧ (shipFire vin s).jtag = s.jtag ∧
    (shipFire vin s).orf = s.orf ∧ (shipFire vin s).weave = s.weave ∧ (shipFire vin s).pending = s.pending ∧
    (shipFire vin s).free = s.free := by
  simp [shipFire]

@[simp] theorem qualAbandon_blocks (s : State) :
    (qualAbandon s).top = s.top ∧ (qualAbandon s).conf = s.conf ∧ (qualAbandon s).fr = s.fr ∧
    (qualAbandon s).host = s.host ∧ (qualAbandon s).ring = s.ring ∧ (qualAbandon s).adm = s.adm ∧
    (qualAbandon s).store = s.store ∧ (qualAbandon s).dram = s.dram ∧ (qualAbandon s).harv = s.harv ∧
    (qualAbandon s).nand = s.nand ∧ (qualAbandon s).ret = s.ret ∧ (qualAbandon s).arr = s.arr ∧
    (qualAbandon s).hive = s.hive ∧ (qualAbandon s).tally = s.tally ∧ (qualAbandon s).sec = s.sec ∧
    (qualAbandon s).jtag = s.jtag ∧ (qualAbandon s).orf = s.orf ∧ (qualAbandon s).weave = s.weave ∧
    (qualAbandon s).pending = s.pending ∧ (qualAbandon s).free = s.free := by
  simp [qualAbandon]

@[simp] theorem edgeLatch_blocks (s : State) :
    (edgeLatch s).conf = s.conf ∧ (edgeLatch s).adm = s.adm ∧ (edgeLatch s).store = s.store ∧
    (edgeLatch s).dram = s.dram ∧ (edgeLatch s).nand = s.nand ∧ (edgeLatch s).ret = s.ret ∧
    (edgeLatch s).arr = s.arr ∧ (edgeLatch s).hive = s.hive ∧ (edgeLatch s).jtag = s.jtag ∧
    (edgeLatch s).orf = s.orf ∧ (edgeLatch s).pending = s.pending ∧ (edgeLatch s).free = s.free := by
  simp [edgeLatch]

@[simp] theorem tamperClear_blocks (s : State) :
    (tamperClear s).top = s.top ∧ (tamperClear s).conf = s.conf ∧ (tamperClear s).fr = s.fr ∧
    (tamperClear s).host = s.host ∧ (tamperClear s).ring = s.ring ∧ (tamperClear s).adm = s.adm ∧
    (tamperClear s).store = s.store ∧ (tamperClear s).dram = s.dram ∧ (tamperClear s).harv = s.harv ∧
    (tamperClear s).nand = s.nand ∧ (tamperClear s).ret = s.ret ∧ (tamperClear s).arr = s.arr ∧
    (tamperClear s).hive = s.hive ∧ (tamperClear s).tally = s.tally ∧ (tamperClear s).sec = s.sec ∧
    (tamperClear s).jtag = s.jtag ∧ (tamperClear s).orf = s.orf ∧ (tamperClear s).weave = s.weave ∧
    (tamperClear s).pending = s.pending ∧ (tamperClear s).free = s.free := by
  simp [tamperClear]

@[simp] theorem wetClear_blocks (s : State) :
    (wetClear s).top = s.top ∧ (wetClear s).conf = s.conf ∧ (wetClear s).fr = s.fr ∧
    (wetClear s).host = s.host ∧ (wetClear s).ring = s.ring ∧ (wetClear s).adm = s.adm ∧
    (wetClear s).store = s.store ∧ (wetClear s).dram = s.dram ∧ (wetClear s).harv = s.harv ∧
    (wetClear s).nand = s.nand ∧ (wetClear s).ret = s.ret ∧ (wetClear s).arr = s.arr ∧
    (wetClear s).hive = s.hive ∧ (wetClear s).tally = s.tally ∧ (wetClear s).sec = s.sec ∧
    (wetClear s).jtag = s.jtag ∧ (wetClear s).orf = s.orf ∧ (wetClear s).weave = s.weave ∧
    (wetClear s).pending = s.pending ∧ (wetClear s).free = s.free := by
  simp [wetClear]

@[simp] theorem rtcAdvance_blocks (s : State) :
    (rtcAdvance s).top = s.top ∧ (rtcAdvance s).conf = s.conf ∧ (rtcAdvance s).fr = s.fr ∧
    (rtcAdvance s).host = s.host ∧ (rtcAdvance s).ring = s.ring ∧ (rtcAdvance s).adm = s.adm ∧
    (rtcAdvance s).store = s.store ∧ (rtcAdvance s).dram = s.dram ∧ (rtcAdvance s).harv = s.harv ∧
    (rtcAdvance s).nand = s.nand ∧ (rtcAdvance s).ret = s.ret ∧ (rtcAdvance s).arr = s.arr ∧
    (rtcAdvance s).hive = s.hive ∧ (rtcAdvance s).tally = s.tally ∧ (rtcAdvance s).jtag = s.jtag ∧
    (rtcAdvance s).orf = s.orf ∧ (rtcAdvance s).weave = s.weave ∧ (rtcAdvance s).pending = s.pending ∧
    (rtcAdvance s).free = s.free := by
  simp [rtcAdvance]

@[simp] theorem rtcStops_blocks (s : State) :
    (rtcStops s).conf = s.conf ∧ (rtcStops s).adm = s.adm ∧ (rtcStops s).store = s.store ∧
    (rtcStops s).dram = s.dram ∧ (rtcStops s).harv = s.harv ∧ (rtcStops s).nand = s.nand ∧
    (rtcStops s).ret = s.ret ∧ (rtcStops s).arr = s.arr ∧ (rtcStops s).hive = s.hive ∧
    (rtcStops s).sec = s.sec ∧ (rtcStops s).jtag = s.jtag ∧ (rtcStops s).orf = s.orf ∧
    (rtcStops s).pending = s.pending ∧ (rtcStops s).free = s.free := by
  simp [rtcStops]

@[simp] theorem rtcOsc_blocks (s : State) :
    (rtcOsc s).top = s.top ∧ (rtcOsc s).conf = s.conf ∧ (rtcOsc s).fr = s.fr ∧
    (rtcOsc s).host = s.host ∧ (rtcOsc s).ring = s.ring ∧ (rtcOsc s).adm = s.adm ∧
    (rtcOsc s).store = s.store ∧ (rtcOsc s).dram = s.dram ∧ (rtcOsc s).harv = s.harv ∧
    (rtcOsc s).nand = s.nand ∧ (rtcOsc s).ret = s.ret ∧ (rtcOsc s).arr = s.arr ∧
    (rtcOsc s).hive = s.hive ∧ (rtcOsc s).tally = s.tally ∧ (rtcOsc s).sec = s.sec ∧
    (rtcOsc s).jtag = s.jtag ∧ (rtcOsc s).orf = s.orf ∧ (rtcOsc s).weave = s.weave ∧
    (rtcOsc s).pending = s.pending ∧ (rtcOsc s).free = s.free := by
  simp [rtcOsc]

@[simp] theorem scoutBoundary_blocks (s : State) :
    (scoutBoundary s).top = s.top ∧ (scoutBoundary s).conf = s.conf ∧ (scoutBoundary s).fr = s.fr ∧
    (scoutBoundary s).host = s.host ∧ (scoutBoundary s).ring = s.ring ∧ (scoutBoundary s).adm = s.adm ∧
    (scoutBoundary s).store = s.store ∧ (scoutBoundary s).dram = s.dram ∧ (scoutBoundary s).harv = s.harv ∧
    (scoutBoundary s).nand = s.nand ∧ (scoutBoundary s).ret = s.ret ∧ (scoutBoundary s).arr = s.arr ∧
    (scoutBoundary s).hive = s.hive ∧ (scoutBoundary s).tally = s.tally ∧ (scoutBoundary s).sec = s.sec ∧
    (scoutBoundary s).jtag = s.jtag ∧ (scoutBoundary s).orf = s.orf ∧ (scoutBoundary s).weave = s.weave ∧
    (scoutBoundary s).pending = s.pending ∧ (scoutBoundary s).free = s.free := by
  simp [scoutBoundary]

@[simp] theorem scoutSleep_blocks (s : State) :
    (scoutSleep s).top = s.top ∧ (scoutSleep s).conf = s.conf ∧ (scoutSleep s).fr = s.fr ∧
    (scoutSleep s).host = s.host ∧ (scoutSleep s).ring = s.ring ∧ (scoutSleep s).adm = s.adm ∧
    (scoutSleep s).store = s.store ∧ (scoutSleep s).dram = s.dram ∧ (scoutSleep s).harv = s.harv ∧
    (scoutSleep s).nand = s.nand ∧ (scoutSleep s).ret = s.ret ∧ (scoutSleep s).arr = s.arr ∧
    (scoutSleep s).hive = s.hive ∧ (scoutSleep s).tally = s.tally ∧ (scoutSleep s).sec = s.sec ∧
    (scoutSleep s).jtag = s.jtag ∧ (scoutSleep s).orf = s.orf ∧ (scoutSleep s).weave = s.weave ∧
    (scoutSleep s).pending = s.pending ∧ (scoutSleep s).free = s.free := by
  simp [scoutSleep]

@[simp] theorem watchExit_blocks (s : State) :
    (watchExit s).conf = s.conf ∧ (watchExit s).fr = s.fr ∧ (watchExit s).host = s.host ∧
    (watchExit s).ring = s.ring ∧ (watchExit s).adm = s.adm ∧ (watchExit s).scout = s.scout ∧
    (watchExit s).store = s.store ∧ (watchExit s).dram = s.dram ∧ (watchExit s).harv = s.harv ∧
    (watchExit s).nand = s.nand ∧ (watchExit s).ret = s.ret ∧ (watchExit s).arr = s.arr ∧
    (watchExit s).hive = s.hive ∧ (watchExit s).tally = s.tally ∧ (watchExit s).sec = s.sec ∧
    (watchExit s).jtag = s.jtag ∧ (watchExit s).orf = s.orf ∧ (watchExit s).weave = s.weave ∧
    (watchExit s).pending = s.pending ∧ (watchExit s).free = s.free := by
  simp [watchExit]

@[simp] theorem hdecideLimit_blocks (s : State) :
    (hdecideLimit s).conf = s.conf ∧ (hdecideLimit s).fr = s.fr ∧ (hdecideLimit s).host = s.host ∧
    (hdecideLimit s).ring = s.ring ∧ (hdecideLimit s).adm = s.adm ∧ (hdecideLimit s).scout = s.scout ∧
    (hdecideLimit s).store = s.store ∧ (hdecideLimit s).dram = s.dram ∧ (hdecideLimit s).harv = s.harv ∧
    (hdecideLimit s).nand = s.nand ∧ (hdecideLimit s).ret = s.ret ∧ (hdecideLimit s).arr = s.arr ∧
    (hdecideLimit s).hive = s.hive ∧ (hdecideLimit s).tally = s.tally ∧ (hdecideLimit s).sec = s.sec ∧
    (hdecideLimit s).jtag = s.jtag ∧ (hdecideLimit s).orf = s.orf ∧ (hdecideLimit s).weave = s.weave ∧
    (hdecideLimit s).pending = s.pending ∧ (hdecideLimit s).free = s.free := by
  simp [hdecideLimit]

end Sys2Proof.Machine
end

