-- ==== Sys2Proof/Laws/BlocksStore.lean ====
section
/-! SUPPORT. Which blocks of State each operation of Machine/Store.lean leaves alone. -/

namespace Sys2Proof.Machine

@[simp] theorem setCharge_blocks (s : State) :
    (setCharge s).conf = s.conf ∧ (setCharge s).adm = s.adm ∧ (setCharge s).store = s.store ∧
    (setCharge s).dram = s.dram ∧ (setCharge s).harv = s.harv ∧ (setCharge s).nand = s.nand ∧
    (setCharge s).ret = s.ret ∧ (setCharge s).arr = s.arr ∧ (setCharge s).hive = s.hive ∧
    (setCharge s).sec = s.sec ∧ (setCharge s).jtag = s.jtag ∧ (setCharge s).orf = s.orf ∧
    (setCharge s).pending = s.pending ∧ (setCharge s).free = s.free := by
  simp [setCharge]

@[simp] theorem regrade_blocks (s : State) :
    (regrade s).conf = s.conf ∧ (regrade s).adm = s.adm ∧ (regrade s).dram = s.dram ∧
    (regrade s).harv = s.harv ∧ (regrade s).nand = s.nand ∧ (regrade s).ret = s.ret ∧
    (regrade s).arr = s.arr ∧ (regrade s).hive = s.hive ∧ (regrade s).sec = s.sec ∧
    (regrade s).jtag = s.jtag ∧ (regrade s).orf = s.orf ∧ (regrade s).pending = s.pending ∧
    (regrade s).free = s.free := by
  simp [regrade]

@[simp] theorem cellFails_blocks (cell : Nat) (s : State) :
    (cellFails cell s).conf = s.conf ∧ (cellFails cell s).adm = s.adm ∧ (cellFails cell s).dram = s.dram ∧
    (cellFails cell s).harv = s.harv ∧ (cellFails cell s).nand = s.nand ∧ (cellFails cell s).ret = s.ret ∧
    (cellFails cell s).arr = s.arr ∧ (cellFails cell s).hive = s.hive ∧ (cellFails cell s).sec = s.sec ∧
    (cellFails cell s).jtag = s.jtag ∧ (cellFails cell s).orf = s.orf ∧ (cellFails cell s).pending = s.pending ∧
    (cellFails cell s).free = s.free := by
  simp [cellFails]

@[simp] theorem chargerTrip_blocks (kind : Nat) (v : Nat) (s : State) :
    (chargerTrip kind v s).conf = s.conf ∧ (chargerTrip kind v s).adm = s.adm ∧ (chargerTrip kind v s).dram = s.dram ∧
    (chargerTrip kind v s).harv = s.harv ∧ (chargerTrip kind v s).nand = s.nand ∧ (chargerTrip kind v s).ret = s.ret ∧
    (chargerTrip kind v s).arr = s.arr ∧ (chargerTrip kind v s).hive = s.hive ∧ (chargerTrip kind v s).sec = s.sec ∧
    (chargerTrip kind v s).jtag = s.jtag ∧ (chargerTrip kind v s).orf = s.orf ∧ (chargerTrip kind v s).pending = s.pending ∧
    (chargerTrip kind v s).free = s.free := by
  simp [chargerTrip]

@[simp] theorem ovStep_blocks (s : State) :
    (ovStep s).conf = s.conf ∧ (ovStep s).adm = s.adm ∧ (ovStep s).dram = s.dram ∧
    (ovStep s).harv = s.harv ∧ (ovStep s).nand = s.nand ∧ (ovStep s).ret = s.ret ∧
    (ovStep s).arr = s.arr ∧ (ovStep s).hive = s.hive ∧ (ovStep s).sec = s.sec ∧
    (ovStep s).jtag = s.jtag ∧ (ovStep s).orf = s.orf ∧ (ovStep s).pending = s.pending ∧
    (ovStep s).free = s.free := by
  simp [ovStep]

@[simp] theorem cellStep_blocks (i : Nat) (s : State) :
    (cellStep i s).conf = s.conf ∧ (cellStep i s).adm = s.adm ∧ (cellStep i s).dram = s.dram ∧
    (cellStep i s).harv = s.harv ∧ (cellStep i s).nand = s.nand ∧ (cellStep i s).ret = s.ret ∧
    (cellStep i s).arr = s.arr ∧ (cellStep i s).hive = s.hive ∧ (cellStep i s).sec = s.sec ∧
    (cellStep i s).jtag = s.jtag ∧ (cellStep i s).orf = s.orf ∧ (cellStep i s).pending = s.pending ∧
    (cellStep i s).free = s.free := by
  simp [cellStep]

@[simp] theorem ct0Step_blocks (s : State) :
    (ct0Step s).conf = s.conf ∧ (ct0Step s).adm = s.adm ∧ (ct0Step s).dram = s.dram ∧
    (ct0Step s).harv = s.harv ∧ (ct0Step s).nand = s.nand ∧ (ct0Step s).ret = s.ret ∧
    (ct0Step s).arr = s.arr ∧ (ct0Step s).hive = s.hive ∧ (ct0Step s).sec = s.sec ∧
    (ct0Step s).jtag = s.jtag ∧ (ct0Step s).orf = s.orf ∧ (ct0Step s).pending = s.pending ∧
    (ct0Step s).free = s.free := by
  simp [ct0Step]

@[simp] theorem topStep_blocks (s : State) :
    (topStep s).conf = s.conf ∧ (topStep s).adm = s.adm ∧ (topStep s).dram = s.dram ∧
    (topStep s).harv = s.harv ∧ (topStep s).nand = s.nand ∧ (topStep s).ret = s.ret ∧
    (topStep s).arr = s.arr ∧ (topStep s).hive = s.hive ∧ (topStep s).sec = s.sec ∧
    (topStep s).jtag = s.jtag ∧ (topStep s).orf = s.orf ∧ (topStep s).pending = s.pending ∧
    (topStep s).free = s.free := by
  simp [topStep]

@[simp] theorem fitSample_blocks (ch : Nat) (raw : Int) (s : State) :
    (fitSample ch raw s).top = s.top ∧ (fitSample ch raw s).conf = s.conf ∧ (fitSample ch raw s).fr = s.fr ∧
    (fitSample ch raw s).host = s.host ∧ (fitSample ch raw s).ring = s.ring ∧ (fitSample ch raw s).adm = s.adm ∧
    (fitSample ch raw s).scout = s.scout ∧ (fitSample ch raw s).dram = s.dram ∧ (fitSample ch raw s).harv = s.harv ∧
    (fitSample ch raw s).nand = s.nand ∧ (fitSample ch raw s).ret = s.ret ∧ (fitSample ch raw s).arr = s.arr ∧
    (fitSample ch raw s).hive = s.hive ∧ (fitSample ch raw s).tally = s.tally ∧ (fitSample ch raw s).sec = s.sec ∧
    (fitSample ch raw s).jtag = s.jtag ∧ (fitSample ch raw s).orf = s.orf ∧ (fitSample ch raw s).weave = s.weave ∧
    (fitSample ch raw s).pending = s.pending ∧ (fitSample ch raw s).free = s.free := by
  simp [fitSample]

@[simp] theorem muxStep_blocks (raw : Int) (s : State) :
    (muxStep raw s).conf = s.conf ∧ (muxStep raw s).adm = s.adm ∧ (muxStep raw s).dram = s.dram ∧
    (muxStep raw s).harv = s.harv ∧ (muxStep raw s).nand = s.nand ∧ (muxStep raw s).ret = s.ret ∧
    (muxStep raw s).arr = s.arr ∧ (muxStep raw s).hive = s.hive ∧ (muxStep raw s).sec = s.sec ∧
    (muxStep raw s).jtag = s.jtag ∧ (muxStep raw s).orf = s.orf ∧ (muxStep raw s).pending = s.pending ∧
    (muxStep raw s).free = s.free := by
  simp [muxStep]

@[simp] theorem tariffSwitch_blocks (s : State) :
    (tariffSwitch s).conf = s.conf ∧ (tariffSwitch s).adm = s.adm ∧ (tariffSwitch s).dram = s.dram ∧
    (tariffSwitch s).harv = s.harv ∧ (tariffSwitch s).nand = s.nand ∧ (tariffSwitch s).ret = s.ret ∧
    (tariffSwitch s).arr = s.arr ∧ (tariffSwitch s).hive = s.hive ∧ (tariffSwitch s).sec = s.sec ∧
    (tariffSwitch s).jtag = s.jtag ∧ (tariffSwitch s).orf = s.orf ∧ (tariffSwitch s).pending = s.pending ∧
    (tariffSwitch s).free = s.free := by
  simp [tariffSwitch]

@[simp] theorem closeInterval_blocks (trunc : Bool) (ep : Epoch) (s : State) :
    (closeInterval trunc ep s).conf = s.conf ∧ (closeInterval trunc ep s).adm = s.adm ∧ (closeInterval trunc ep s).dram = s.dram ∧
    (closeInterval trunc ep s).harv = s.harv ∧ (closeInterval trunc ep s).nand = s.nand ∧ (closeInterval trunc ep s).ret = s.ret ∧
    (closeInterval trunc ep s).arr = s.arr ∧ (closeInterval trunc ep s).hive = s.hive ∧ (closeInterval trunc ep s).sec = s.sec ∧
    (closeInterval trunc ep s).jtag = s.jtag ∧ (closeInterval trunc ep s).orf = s.orf ∧ (closeInterval trunc ep s).pending = s.pending ∧
    (closeInterval trunc ep s).free = s.free := by
  simp [closeInterval]

@[simp] theorem openInterval_blocks (s : State) :
    (openInterval s).top = s.top ∧ (openInterval s).conf = s.conf ∧ (openInterval s).fr = s.fr ∧
    (openInterval s).host = s.host ∧ (openInterval s).ring = s.ring ∧ (openInterval s).adm = s.adm ∧
    (openInterval s).scout = s.scout ∧ (openInterval s).dram = s.dram ∧ (openInterval s).harv = s.harv ∧
    (openInterval s).nand = s.nand ∧ (openInterval s).ret = s.ret ∧ (openInterval s).arr = s.arr ∧
    (openInterval s).hive = s.hive ∧ (openInterval s).tally = s.tally ∧ (openInterval s).sec = s.sec ∧
    (openInterval s).jtag = s.jtag ∧ (openInterval s).orf = s.orf ∧ (openInterval s).weave = s.weave ∧
    (openInterval s).pending = s.pending ∧ (openInterval s).free = s.free := by
  simp [openInterval]

@[simp] theorem intervalEnd_blocks (s : State) :
    (intervalEnd s).top = s.top ∧ (intervalEnd s).conf = s.conf ∧ (intervalEnd s).fr = s.fr ∧
    (intervalEnd s).host = s.host ∧ (intervalEnd s).ring = s.ring ∧ (intervalEnd s).adm = s.adm ∧
    (intervalEnd s).scout = s.scout ∧ (intervalEnd s).dram = s.dram ∧ (intervalEnd s).harv = s.harv ∧
    (intervalEnd s).nand = s.nand ∧ (intervalEnd s).ret = s.ret ∧ (intervalEnd s).arr = s.arr ∧
    (intervalEnd s).hive = s.hive ∧ (intervalEnd s).tally = s.tally ∧ (intervalEnd s).sec = s.sec ∧
    (intervalEnd s).jtag = s.jtag ∧ (intervalEnd s).orf = s.orf ∧ (intervalEnd s).weave = s.weave ∧
    (intervalEnd s).pending = s.pending ∧ (intervalEnd s).free = s.free := by
  simp [intervalEnd]

@[simp] theorem storeFrameEnd_blocks (iMeas : Nat) (trip : Bool) (s : State) :
    (storeFrameEnd iMeas trip s).conf = s.conf ∧ (storeFrameEnd iMeas trip s).adm = s.adm ∧ (storeFrameEnd iMeas trip s).dram = s.dram ∧
    (storeFrameEnd iMeas trip s).harv = s.harv ∧ (storeFrameEnd iMeas trip s).nand = s.nand ∧ (storeFrameEnd iMeas trip s).ret = s.ret ∧
    (storeFrameEnd iMeas trip s).arr = s.arr ∧ (storeFrameEnd iMeas trip s).hive = s.hive ∧ (storeFrameEnd iMeas trip s).sec = s.sec ∧
    (storeFrameEnd iMeas trip s).jtag = s.jtag ∧ (storeFrameEnd iMeas trip s).orf = s.orf ∧ (storeFrameEnd iMeas trip s).pending = s.pending ∧
    (storeFrameEnd iMeas trip s).free = s.free := by
  simp [storeFrameEnd]

@[simp] theorem reserveStep_blocks (s : State) :
    (reserveStep s).top = s.top ∧ (reserveStep s).conf = s.conf ∧ (reserveStep s).fr = s.fr ∧
    (reserveStep s).host = s.host ∧ (reserveStep s).ring = s.ring ∧ (reserveStep s).adm = s.adm ∧
    (reserveStep s).scout = s.scout ∧ (reserveStep s).dram = s.dram ∧ (reserveStep s).harv = s.harv ∧
    (reserveStep s).nand = s.nand ∧ (reserveStep s).ret = s.ret ∧ (reserveStep s).arr = s.arr ∧
    (reserveStep s).hive = s.hive ∧ (reserveStep s).tally = s.tally ∧ (reserveStep s).sec = s.sec ∧
    (reserveStep s).jtag = s.jtag ∧ (reserveStep s).orf = s.orf ∧ (reserveStep s).weave = s.weave ∧
    (reserveStep s).pending = s.pending ∧ (reserveStep s).free = s.free := by
  simp [reserveStep]

@[simp] theorem marginStep_blocks (s : State) :
    (marginStep s).top = s.top ∧ (marginStep s).conf = s.conf ∧ (marginStep s).fr = s.fr ∧
    (marginStep s).host = s.host ∧ (marginStep s).ring = s.ring ∧ (marginStep s).adm = s.adm ∧
    (marginStep s).scout = s.scout ∧ (marginStep s).dram = s.dram ∧ (marginStep s).harv = s.harv ∧
    (marginStep s).nand = s.nand ∧ (marginStep s).ret = s.ret ∧ (marginStep s).arr = s.arr ∧
    (marginStep s).hive = s.hive ∧ (marginStep s).tally = s.tally ∧ (marginStep s).sec = s.sec ∧
    (marginStep s).jtag = s.jtag ∧ (marginStep s).orf = s.orf ∧ (marginStep s).weave = s.weave ∧
    (marginStep s).pending = s.pending ∧ (marginStep s).free = s.free := by
  simp [marginStep]

@[simp] theorem reserveRelease_blocks (s : State) :
    (reserveRelease s).top = s.top ∧ (reserveRelease s).conf = s.conf ∧ (reserveRelease s).fr = s.fr ∧
    (reserveRelease s).host = s.host ∧ (reserveRelease s).ring = s.ring ∧ (reserveRelease s).adm = s.adm ∧
    (reserveRelease s).scout = s.scout ∧ (reserveRelease s).dram = s.dram ∧ (reserveRelease s).harv = s.harv ∧
    (reserveRelease s).nand = s.nand ∧ (reserveRelease s).ret = s.ret ∧ (reserveRelease s).arr = s.arr ∧
    (reserveRelease s).hive = s.hive ∧ (reserveRelease s).tally = s.tally ∧ (reserveRelease s).sec = s.sec ∧
    (reserveRelease s).jtag = s.jtag ∧ (reserveRelease s).orf = s.orf ∧ (reserveRelease s).weave = s.weave ∧
    (reserveRelease s).pending = s.pending ∧ (reserveRelease s).free = s.free := by
  simp [reserveRelease]

@[simp] theorem testInvalid_blocks (s : State) :
    (testInvalid s).conf = s.conf ∧ (testInvalid s).adm = s.adm ∧ (testInvalid s).dram = s.dram ∧
    (testInvalid s).harv = s.harv ∧ (testInvalid s).nand = s.nand ∧ (testInvalid s).ret = s.ret ∧
    (testInvalid s).arr = s.arr ∧ (testInvalid s).hive = s.hive ∧ (testInvalid s).sec = s.sec ∧
    (testInvalid s).jtag = s.jtag ∧ (testInvalid s).orf = s.orf ∧ (testInvalid s).pending = s.pending ∧
    (testInvalid s).free = s.free := by
  simp [testInvalid]

@[simp] theorem testStep_blocks (s : State) :
    (testStep s).conf = s.conf ∧ (testStep s).adm = s.adm ∧ (testStep s).dram = s.dram ∧
    (testStep s).harv = s.harv ∧ (testStep s).nand = s.nand ∧ (testStep s).ret = s.ret ∧
    (testStep s).arr = s.arr ∧ (testStep s).hive = s.hive ∧ (testStep s).sec = s.sec ∧
    (testStep s).jtag = s.jtag ∧ (testStep s).orf = s.orf ∧ (testStep s).pending = s.pending ∧
    (testStep s).free = s.free := by
  simp [testStep]

@[simp] theorem stepTestStep_blocks (s : State) :
    (stepTestStep s).top = s.top ∧ (stepTestStep s).conf = s.conf ∧ (stepTestStep s).fr = s.fr ∧
    (stepTestStep s).host = s.host ∧ (stepTestStep s).ring = s.ring ∧ (stepTestStep s).adm = s.adm ∧
    (stepTestStep s).scout = s.scout ∧ (stepTestStep s).dram = s.dram ∧ (stepTestStep s).harv = s.harv ∧
    (stepTestStep s).nand = s.nand ∧ (stepTestStep s).ret = s.ret ∧ (stepTestStep s).arr = s.arr ∧
    (stepTestStep s).hive = s.hive ∧ (stepTestStep s).tally = s.tally ∧ (stepTestStep s).sec = s.sec ∧
    (stepTestStep s).jtag = s.jtag ∧ (stepTestStep s).orf = s.orf ∧ (stepTestStep s).weave = s.weave ∧
    (stepTestStep s).pending = s.pending ∧ (stepTestStep s).free = s.free := by
  simp [stepTestStep]

@[simp] theorem esrKeep_blocks (refcap : Bool) (e25 : Nat) (s : State) :
    (esrKeep refcap e25 s).top = s.top ∧ (esrKeep refcap e25 s).conf = s.conf ∧ (esrKeep refcap e25 s).fr = s.fr ∧
    (esrKeep refcap e25 s).host = s.host ∧ (esrKeep refcap e25 s).ring = s.ring ∧ (esrKeep refcap e25 s).adm = s.adm ∧
    (esrKeep refcap e25 s).scout = s.scout ∧ (esrKeep refcap e25 s).store = s.store ∧ (esrKeep refcap e25 s).dram = s.dram ∧
    (esrKeep refcap e25 s).harv = s.harv ∧ (esrKeep refcap e25 s).nand = s.nand ∧ (esrKeep refcap e25 s).ret = s.ret ∧
    (esrKeep refcap e25 s).hive = s.hive ∧ (esrKeep refcap e25 s).tally = s.tally ∧ (esrKeep refcap e25 s).sec = s.sec ∧
    (esrKeep refcap e25 s).jtag = s.jtag ∧ (esrKeep refcap e25 s).orf = s.orf ∧ (esrKeep refcap e25 s).weave = s.weave ∧
    (esrKeep refcap e25 s).pending = s.pending ∧ (esrKeep refcap e25 s).free = s.free := by
  simp [esrKeep]

@[simp] theorem stepTestResult_blocks (s : State) :
    (stepTestResult s).conf = s.conf ∧ (stepTestResult s).adm = s.adm ∧ (stepTestResult s).dram = s.dram ∧
    (stepTestResult s).harv = s.harv ∧ (stepTestResult s).nand = s.nand ∧ (stepTestResult s).ret = s.ret ∧
    (stepTestResult s).hive = s.hive ∧ (stepTestResult s).sec = s.sec ∧ (stepTestResult s).jtag = s.jtag ∧
    (stepTestResult s).orf = s.orf ∧ (stepTestResult s).pending = s.pending ∧ (stepTestResult s).free = s.free := by
  simp only [stepTestResult]; (repeat' split) <;> simp

@[simp] theorem testDueAgain_blocks (s : State) :
    (testDueAgain s).top = s.top ∧ (testDueAgain s).conf = s.conf ∧ (testDueAgain s).fr = s.fr ∧
    (testDueAgain s).host = s.host ∧ (testDueAgain s).ring = s.ring ∧ (testDueAgain s).adm = s.adm ∧
    (testDueAgain s).scout = s.scout ∧ (testDueAgain s).dram = s.dram ∧ (testDueAgain s).harv = s.harv ∧
    (testDueAgain s).nand = s.nand ∧ (testDueAgain s).ret = s.ret ∧ (testDueAgain s).arr = s.arr ∧
    (testDueAgain s).hive = s.hive ∧ (testDueAgain s).tally = s.tally ∧ (testDueAgain s).sec = s.sec ∧
    (testDueAgain s).jtag = s.jtag ∧ (testDueAgain s).orf = s.orf ∧ (testDueAgain s).weave = s.weave ∧
    (testDueAgain s).pending = s.pending ∧ (testDueAgain s).free = s.free := by
  unfold testDueAgain; split <;> simp

@[simp] theorem testRequest_blocks (refcap : Bool) (s : State) :
    (testRequest refcap s).top = s.top ∧ (testRequest refcap s).conf = s.conf ∧ (testRequest refcap s).fr = s.fr ∧
    (testRequest refcap s).host = s.host ∧ (testRequest refcap s).ring = s.ring ∧ (testRequest refcap s).adm = s.adm ∧
    (testRequest refcap s).scout = s.scout ∧ (testRequest refcap s).dram = s.dram ∧ (testRequest refcap s).harv = s.harv ∧
    (testRequest refcap s).nand = s.nand ∧ (testRequest refcap s).ret = s.ret ∧ (testRequest refcap s).arr = s.arr ∧
    (testRequest refcap s).hive = s.hive ∧ (testRequest refcap s).tally = s.tally ∧ (testRequest refcap s).sec = s.sec ∧
    (testRequest refcap s).jtag = s.jtag ∧ (testRequest refcap s).orf = s.orf ∧ (testRequest refcap s).weave = s.weave ∧
    (testRequest refcap s).pending = s.pending ∧ (testRequest refcap s).free = s.free := by
  simp [testRequest]

@[simp] theorem ocStep_blocks (s : State) :
    (ocStep s).conf = s.conf ∧ (ocStep s).adm = s.adm ∧ (ocStep s).dram = s.dram ∧
    (ocStep s).harv = s.harv ∧ (ocStep s).nand = s.nand ∧ (ocStep s).ret = s.ret ∧
    (ocStep s).arr = s.arr ∧ (ocStep s).hive = s.hive ∧ (ocStep s).sec = s.sec ∧
    (ocStep s).jtag = s.jtag ∧ (ocStep s).orf = s.orf ∧ (ocStep s).pending = s.pending ∧
    (ocStep s).free = s.free := by
  simp [ocStep]

@[simp] theorem holdEnds_blocks (s : State) :
    (holdEnds s).top = s.top ∧ (holdEnds s).conf = s.conf ∧ (holdEnds s).fr = s.fr ∧
    (holdEnds s).host = s.host ∧ (holdEnds s).ring = s.ring ∧ (holdEnds s).adm = s.adm ∧
    (holdEnds s).scout = s.scout ∧ (holdEnds s).dram = s.dram ∧ (holdEnds s).harv = s.harv ∧
    (holdEnds s).nand = s.nand ∧ (holdEnds s).ret = s.ret ∧ (holdEnds s).arr = s.arr ∧
    (holdEnds s).hive = s.hive ∧ (holdEnds s).tally = s.tally ∧ (holdEnds s).sec = s.sec ∧
    (holdEnds s).jtag = s.jtag ∧ (holdEnds s).orf = s.orf ∧ (holdEnds s).weave = s.weave ∧
    (holdEnds s).pending = s.pending ∧ (holdEnds s).free = s.free := by
  simp [holdEnds]

@[simp] theorem chargeEpisode_blocks (s : State) :
    (chargeEpisode s).conf = s.conf ∧ (chargeEpisode s).adm = s.adm ∧ (chargeEpisode s).dram = s.dram ∧
    (chargeEpisode s).harv = s.harv ∧ (chargeEpisode s).nand = s.nand ∧ (chargeEpisode s).ret = s.ret ∧
    (chargeEpisode s).arr = s.arr ∧ (chargeEpisode s).hive = s.hive ∧ (chargeEpisode s).sec = s.sec ∧
    (chargeEpisode s).jtag = s.jtag ∧ (chargeEpisode s).orf = s.orf ∧ (chargeEpisode s).pending = s.pending ∧
    (chargeEpisode s).free = s.free := by
  simp [chargeEpisode]

@[simp] theorem chargerLoop_blocks (s : State) :
    (chargerLoop s).conf = s.conf ∧ (chargerLoop s).adm = s.adm ∧ (chargerLoop s).dram = s.dram ∧
    (chargerLoop s).harv = s.harv ∧ (chargerLoop s).nand = s.nand ∧ (chargerLoop s).ret = s.ret ∧
    (chargerLoop s).arr = s.arr ∧ (chargerLoop s).hive = s.hive ∧ (chargerLoop s).sec = s.sec ∧
    (chargerLoop s).jtag = s.jtag ∧ (chargerLoop s).orf = s.orf ∧ (chargerLoop s).pending = s.pending ∧
    (chargerLoop s).free = s.free := by
  simp [chargerLoop]

@[simp] theorem storeFrameStart_blocks (s : State) :
    (storeFrameStart s).conf = s.conf ∧ (storeFrameStart s).adm = s.adm ∧ (storeFrameStart s).dram = s.dram ∧
    (storeFrameStart s).harv = s.harv ∧ (storeFrameStart s).nand = s.nand ∧ (storeFrameStart s).ret = s.ret ∧
    (storeFrameStart s).arr = s.arr ∧ (storeFrameStart s).hive = s.hive ∧ (storeFrameStart s).sec = s.sec ∧
    (storeFrameStart s).jtag = s.jtag ∧ (storeFrameStart s).orf = s.orf ∧ (storeFrameStart s).pending = s.pending ∧
    (storeFrameStart s).free = s.free := by
  simp [storeFrameStart]

@[simp] theorem storeWake_blocks (s : State) :
    (storeWake s).conf = s.conf ∧ (storeWake s).adm = s.adm ∧ (storeWake s).dram = s.dram ∧
    (storeWake s).harv = s.harv ∧ (storeWake s).nand = s.nand ∧ (storeWake s).ret = s.ret ∧
    (storeWake s).arr = s.arr ∧ (storeWake s).hive = s.hive ∧ (storeWake s).sec = s.sec ∧
    (storeWake s).jtag = s.jtag ∧ (storeWake s).orf = s.orf ∧ (storeWake s).pending = s.pending ∧
    (storeWake s).free = s.free := by
  simp [storeWake]

end Sys2Proof.Machine
end

