-- ==== Sys2Proof/Laws/BlocksDram.lean ====
section
/-! SUPPORT. Which blocks of State each operation of Machine/Dram.lean leaves alone. -/

namespace Sys2Proof.Machine

@[simp] theorem ddrSpend_blocks (n : Nat) (s : State) :
    (ddrSpend n s).conf = s.conf ∧ (ddrSpend n s).adm = s.adm ∧ (ddrSpend n s).store = s.store ∧
    (ddrSpend n s).dram = s.dram ∧ (ddrSpend n s).harv = s.harv ∧ (ddrSpend n s).nand = s.nand ∧
    (ddrSpend n s).ret = s.ret ∧ (ddrSpend n s).arr = s.arr ∧ (ddrSpend n s).hive = s.hive ∧ (ddrSpend n s).sec = s.sec ∧
    (ddrSpend n s).jtag = s.jtag ∧ (ddrSpend n s).orf = s.orf ∧ (ddrSpend n s).pending = s.pending ∧
    (ddrSpend n s).free = s.free := by
  simp [ddrSpend]

@[simp] theorem refreshRank_blocks (i : Int) (r : Nat) (s : State) :
    (refreshRank i r s).top = s.top ∧ (refreshRank i r s).conf = s.conf ∧ (refreshRank i r s).fr = s.fr ∧
    (refreshRank i r s).host = s.host ∧ (refreshRank i r s).ring = s.ring ∧ (refreshRank i r s).adm = s.adm ∧
    (refreshRank i r s).scout = s.scout ∧ (refreshRank i r s).store = s.store ∧ (refreshRank i r s).harv = s.harv ∧
    (refreshRank i r s).nand = s.nand ∧ (refreshRank i r s).ret = s.ret ∧ (refreshRank i r s).arr = s.arr ∧
    (refreshRank i r s).hive = s.hive ∧ (refreshRank i r s).tally = s.tally ∧ (refreshRank i r s).sec = s.sec ∧
    (refreshRank i r s).jtag = s.jtag ∧ (refreshRank i r s).orf = s.orf ∧ (refreshRank i r s).weave = s.weave ∧
    (refreshRank i r s).pending = s.pending ∧ (refreshRank i r s).free = s.free := by
  simp [refreshRank]

@[simp] theorem refreshEnd_blocks (s : State) :
    (refreshEnd s).top = s.top ∧ (refreshEnd s).conf = s.conf ∧ (refreshEnd s).fr = s.fr ∧ (refreshEnd s).host = s.host ∧
    (refreshEnd s).ring = s.ring ∧ (refreshEnd s).adm = s.adm ∧ (refreshEnd s).scout = s.scout ∧
    (refreshEnd s).store = s.store ∧ (refreshEnd s).harv = s.harv ∧ (refreshEnd s).nand = s.nand ∧
    (refreshEnd s).ret = s.ret ∧ (refreshEnd s).arr = s.arr ∧ (refreshEnd s).hive = s.hive ∧
    (refreshEnd s).tally = s.tally ∧ (refreshEnd s).sec = s.sec ∧ (refreshEnd s).jtag = s.jtag ∧
    (refreshEnd s).orf = s.orf ∧ (refreshEnd s).weave = s.weave ∧ (refreshEnd s).pending = s.pending ∧
    (refreshEnd s).free = s.free := by
  simp [refreshEnd]

@[simp] theorem refreshDue_blocks (rank : Nat) (s : State) :
    (refreshDue rank s).conf = s.conf ∧ (refreshDue rank s).adm = s.adm ∧ (refreshDue rank s).store = s.store ∧
    (refreshDue rank s).harv = s.harv ∧ (refreshDue rank s).nand = s.nand ∧ (refreshDue rank s).ret = s.ret ∧
    (refreshDue rank s).arr = s.arr ∧ (refreshDue rank s).hive = s.hive ∧ (refreshDue rank s).sec = s.sec ∧
    (refreshDue rank s).jtag = s.jtag ∧ (refreshDue rank s).orf = s.orf ∧ (refreshDue rank s).pending = s.pending ∧
    (refreshDue rank s).free = s.free := by
  simp [refreshDue]

@[simp] theorem zqcsDue_blocks (s : State) :
    (zqcsDue s).conf = s.conf ∧ (zqcsDue s).adm = s.adm ∧ (zqcsDue s).store = s.store ∧ (zqcsDue s).harv = s.harv ∧
    (zqcsDue s).nand = s.nand ∧ (zqcsDue s).ret = s.ret ∧ (zqcsDue s).arr = s.arr ∧ (zqcsDue s).hive = s.hive ∧
    (zqcsDue s).sec = s.sec ∧ (zqcsDue s).jtag = s.jtag ∧ (zqcsDue s).orf = s.orf ∧ (zqcsDue s).pending = s.pending ∧
    (zqcsDue s).free = s.free := by
  simp [zqcsDue]

@[simp] theorem dramTake_blocks (s : State) :
    (dramTake s).top = s.top ∧ (dramTake s).conf = s.conf ∧ (dramTake s).fr = s.fr ∧
    (dramTake s).host = s.host ∧ (dramTake s).ring = s.ring ∧ (dramTake s).adm = s.adm ∧
    (dramTake s).scout = s.scout ∧ (dramTake s).store = s.store ∧ (dramTake s).harv = s.harv ∧
    (dramTake s).nand = s.nand ∧ (dramTake s).ret = s.ret ∧ (dramTake s).arr = s.arr ∧
    (dramTake s).hive = s.hive ∧ (dramTake s).tally = s.tally ∧ (dramTake s).sec = s.sec ∧
    (dramTake s).jtag = s.jtag ∧ (dramTake s).orf = s.orf ∧ (dramTake s).weave = s.weave ∧
    (dramTake s).pending = s.pending ∧ (dramTake s).free = s.free := by
  simp [dramTake]

@[simp] theorem dramGive_blocks (s : State) :
    (dramGive s).top = s.top ∧ (dramGive s).conf = s.conf ∧ (dramGive s).fr = s.fr ∧
    (dramGive s).host = s.host ∧ (dramGive s).ring = s.ring ∧ (dramGive s).adm = s.adm ∧
    (dramGive s).scout = s.scout ∧ (dramGive s).store = s.store ∧ (dramGive s).harv = s.harv ∧
    (dramGive s).nand = s.nand ∧ (dramGive s).ret = s.ret ∧ (dramGive s).arr = s.arr ∧
    (dramGive s).hive = s.hive ∧ (dramGive s).tally = s.tally ∧ (dramGive s).sec = s.sec ∧
    (dramGive s).jtag = s.jtag ∧ (dramGive s).orf = s.orf ∧ (dramGive s).weave = s.weave ∧
    (dramGive s).pending = s.pending ∧ (dramGive s).free = s.free := by
  simp [dramGive]

@[simp] theorem gntIgnored_blocks (s : State) :
    (gntIgnored s).conf = s.conf ∧ (gntIgnored s).adm = s.adm ∧ (gntIgnored s).store = s.store ∧
    (gntIgnored s).harv = s.harv ∧ (gntIgnored s).nand = s.nand ∧ (gntIgnored s).ret = s.ret ∧
    (gntIgnored s).arr = s.arr ∧ (gntIgnored s).hive = s.hive ∧ (gntIgnored s).sec = s.sec ∧
    (gntIgnored s).jtag = s.jtag ∧ (gntIgnored s).orf = s.orf ∧ (gntIgnored s).pending = s.pending ∧
    (gntIgnored s).free = s.free := by
  simp [gntIgnored]

@[simp] theorem isoStep_blocks (s : State) :
    (isoStep s).top = s.top ∧ (isoStep s).conf = s.conf ∧ (isoStep s).fr = s.fr ∧
    (isoStep s).host = s.host ∧ (isoStep s).ring = s.ring ∧ (isoStep s).adm = s.adm ∧
    (isoStep s).scout = s.scout ∧ (isoStep s).store = s.store ∧ (isoStep s).harv = s.harv ∧
    (isoStep s).nand = s.nand ∧ (isoStep s).ret = s.ret ∧ (isoStep s).arr = s.arr ∧
    (isoStep s).hive = s.hive ∧ (isoStep s).tally = s.tally ∧ (isoStep s).sec = s.sec ∧
    (isoStep s).jtag = s.jtag ∧ (isoStep s).orf = s.orf ∧ (isoStep s).weave = s.weave ∧
    (isoStep s).pending = s.pending ∧ (isoStep s).free = s.free := by
  unfold isoStep; split <;> simp

@[simp] theorem exclusiveStep_blocks (gnt : Bool) (s : State) :
    (exclusiveStep gnt s).conf = s.conf ∧ (exclusiveStep gnt s).adm = s.adm ∧ (exclusiveStep gnt s).store = s.store ∧
    (exclusiveStep gnt s).harv = s.harv ∧ (exclusiveStep gnt s).nand = s.nand ∧ (exclusiveStep gnt s).ret = s.ret ∧
    (exclusiveStep gnt s).arr = s.arr ∧ (exclusiveStep gnt s).hive = s.hive ∧ (exclusiveStep gnt s).sec = s.sec ∧
    (exclusiveStep gnt s).jtag = s.jtag ∧ (exclusiveStep gnt s).orf = s.orf ∧ (exclusiveStep gnt s).pending = s.pending ∧
    (exclusiveStep gnt s).free = s.free := by
  simp [exclusiveStep]

@[simp] theorem slotStep_blocks (gnt : Bool) (s : State) :
    (slotStep gnt s).conf = s.conf ∧ (slotStep gnt s).adm = s.adm ∧ (slotStep gnt s).store = s.store ∧
    (slotStep gnt s).harv = s.harv ∧ (slotStep gnt s).nand = s.nand ∧ (slotStep gnt s).ret = s.ret ∧
    (slotStep gnt s).arr = s.arr ∧ (slotStep gnt s).hive = s.hive ∧ (slotStep gnt s).sec = s.sec ∧
    (slotStep gnt s).jtag = s.jtag ∧ (slotStep gnt s).orf = s.orf ∧ (slotStep gnt s).pending = s.pending ∧
    (slotStep gnt s).free = s.free := by
  simp [slotStep]

@[simp] theorem dramBoundary_blocks (gnt : Bool) (s : State) :
    (dramBoundary gnt s).conf = s.conf ∧ (dramBoundary gnt s).adm = s.adm ∧ (dramBoundary gnt s).store = s.store ∧
    (dramBoundary gnt s).harv = s.harv ∧ (dramBoundary gnt s).nand = s.nand ∧ (dramBoundary gnt s).ret = s.ret ∧
    (dramBoundary gnt s).arr = s.arr ∧ (dramBoundary gnt s).hive = s.hive ∧ (dramBoundary gnt s).sec = s.sec ∧
    (dramBoundary gnt s).jtag = s.jtag ∧ (dramBoundary gnt s).orf = s.orf ∧ (dramBoundary gnt s).pending = s.pending ∧
    (dramBoundary gnt s).free = s.free := by
  simp [dramBoundary]

@[simp] theorem dramRequest_blocks (s : State) :
    (dramRequest s).top = s.top ∧ (dramRequest s).conf = s.conf ∧ (dramRequest s).fr = s.fr ∧
    (dramRequest s).host = s.host ∧ (dramRequest s).ring = s.ring ∧ (dramRequest s).adm = s.adm ∧
    (dramRequest s).scout = s.scout ∧ (dramRequest s).store = s.store ∧ (dramRequest s).harv = s.harv ∧
    (dramRequest s).nand = s.nand ∧ (dramRequest s).ret = s.ret ∧ (dramRequest s).arr = s.arr ∧
    (dramRequest s).hive = s.hive ∧ (dramRequest s).tally = s.tally ∧ (dramRequest s).sec = s.sec ∧
    (dramRequest s).jtag = s.jtag ∧ (dramRequest s).orf = s.orf ∧ (dramRequest s).weave = s.weave ∧
    (dramRequest s).pending = s.pending ∧ (dramRequest s).free = s.free := by
  simp [dramRequest]

@[simp] theorem dramFrameStart_blocks (was : Bool) (s : State) :
    (dramFrameStart was s).top = s.top ∧ (dramFrameStart was s).conf = s.conf ∧ (dramFrameStart was s).fr = s.fr ∧
    (dramFrameStart was s).host = s.host ∧ (dramFrameStart was s).ring = s.ring ∧ (dramFrameStart was s).adm = s.adm ∧
    (dramFrameStart was s).scout = s.scout ∧ (dramFrameStart was s).store = s.store ∧ (dramFrameStart was s).harv = s.harv ∧
    (dramFrameStart was s).nand = s.nand ∧ (dramFrameStart was s).ret = s.ret ∧ (dramFrameStart was s).arr = s.arr ∧
    (dramFrameStart was s).hive = s.hive ∧ (dramFrameStart was s).tally = s.tally ∧ (dramFrameStart was s).sec = s.sec ∧
    (dramFrameStart was s).jtag = s.jtag ∧ (dramFrameStart was s).orf = s.orf ∧ (dramFrameStart was s).weave = s.weave ∧
    (dramFrameStart was s).pending = s.pending ∧ (dramFrameStart was s).free = s.free := by
  simp [dramFrameStart]

@[simp] theorem readyCheck_blocks (s : State) :
    (readyCheck s).conf = s.conf ∧ (readyCheck s).adm = s.adm ∧ (readyCheck s).store = s.store ∧
    (readyCheck s).harv = s.harv ∧ (readyCheck s).nand = s.nand ∧ (readyCheck s).ret = s.ret ∧
    (readyCheck s).arr = s.arr ∧ (readyCheck s).hive = s.hive ∧ (readyCheck s).sec = s.sec ∧
    (readyCheck s).jtag = s.jtag ∧ (readyCheck s).orf = s.orf ∧ (readyCheck s).pending = s.pending ∧
    (readyCheck s).free = s.free := by
  simp [readyCheck]

@[simp] theorem handBack_blocks (s : State) :
    (handBack s).top = s.top ∧ (handBack s).conf = s.conf ∧ (handBack s).fr = s.fr ∧
    (handBack s).host = s.host ∧ (handBack s).ring = s.ring ∧ (handBack s).adm = s.adm ∧
    (handBack s).scout = s.scout ∧ (handBack s).store = s.store ∧ (handBack s).harv = s.harv ∧
    (handBack s).nand = s.nand ∧ (handBack s).ret = s.ret ∧ (handBack s).arr = s.arr ∧
    (handBack s).hive = s.hive ∧ (handBack s).tally = s.tally ∧ (handBack s).sec = s.sec ∧
    (handBack s).jtag = s.jtag ∧ (handBack s).orf = s.orf ∧ (handBack s).weave = s.weave ∧
    (handBack s).pending = s.pending ∧ (handBack s).free = s.free := by
  simp [handBack]

@[simp] theorem ownGntIsolate_blocks (s : State) :
    (ownGntIsolate s).top = s.top ∧ (ownGntIsolate s).conf = s.conf ∧ (ownGntIsolate s).fr = s.fr ∧
    (ownGntIsolate s).host = s.host ∧ (ownGntIsolate s).ring = s.ring ∧ (ownGntIsolate s).adm = s.adm ∧
    (ownGntIsolate s).scout = s.scout ∧ (ownGntIsolate s).store = s.store ∧ (ownGntIsolate s).harv = s.harv ∧
    (ownGntIsolate s).nand = s.nand ∧ (ownGntIsolate s).ret = s.ret ∧ (ownGntIsolate s).arr = s.arr ∧
    (ownGntIsolate s).hive = s.hive ∧ (ownGntIsolate s).tally = s.tally ∧ (ownGntIsolate s).sec = s.sec ∧
    (ownGntIsolate s).jtag = s.jtag ∧ (ownGntIsolate s).orf = s.orf ∧ (ownGntIsolate s).weave = s.weave ∧
    (ownGntIsolate s).pending = s.pending ∧ (ownGntIsolate s).free = s.free := by
  simp [ownGntIsolate]

@[simp] theorem forcedIsolation_blocks (s : State) :
    (forcedIsolation s).top = s.top ∧ (forcedIsolation s).conf = s.conf ∧ (forcedIsolation s).fr = s.fr ∧
    (forcedIsolation s).host = s.host ∧ (forcedIsolation s).ring = s.ring ∧ (forcedIsolation s).adm = s.adm ∧
    (forcedIsolation s).scout = s.scout ∧ (forcedIsolation s).store = s.store ∧ (forcedIsolation s).harv = s.harv ∧
    (forcedIsolation s).nand = s.nand ∧ (forcedIsolation s).ret = s.ret ∧ (forcedIsolation s).arr = s.arr ∧
    (forcedIsolation s).hive = s.hive ∧ (forcedIsolation s).tally = s.tally ∧ (forcedIsolation s).sec = s.sec ∧
    (forcedIsolation s).jtag = s.jtag ∧ (forcedIsolation s).orf = s.orf ∧ (forcedIsolation s).weave = s.weave ∧
    (forcedIsolation s).pending = s.pending ∧ (forcedIsolation s).free = s.free := by
  simp [forcedIsolation]

@[simp] theorem gntDrop_blocks (s : State) :
    (gntDrop s).conf = s.conf ∧ (gntDrop s).adm = s.adm ∧ (gntDrop s).store = s.store ∧
    (gntDrop s).harv = s.harv ∧ (gntDrop s).nand = s.nand ∧ (gntDrop s).ret = s.ret ∧
    (gntDrop s).arr = s.arr ∧ (gntDrop s).hive = s.hive ∧ (gntDrop s).sec = s.sec ∧
    (gntDrop s).jtag = s.jtag ∧ (gntDrop s).orf = s.orf ∧ (gntDrop s).pending = s.pending ∧
    (gntDrop s).free = s.free := by
  simp [gntDrop]

@[simp] theorem trainFails_blocks (s : State) :
    (trainFails s).conf = s.conf ∧ (trainFails s).adm = s.adm ∧ (trainFails s).store = s.store ∧
    (trainFails s).harv = s.harv ∧ (trainFails s).nand = s.nand ∧ (trainFails s).ret = s.ret ∧
    (trainFails s).arr = s.arr ∧ (trainFails s).hive = s.hive ∧ (trainFails s).sec = s.sec ∧
    (trainFails s).jtag = s.jtag ∧ (trainFails s).orf = s.orf ∧ (trainFails s).pending = s.pending ∧
    (trainFails s).free = s.free := by
  simp [trainFails]

@[simp] theorem trainStart_blocks (s : State) :
    (trainStart s).conf = s.conf ∧ (trainStart s).adm = s.adm ∧ (trainStart s).store = s.store ∧
    (trainStart s).harv = s.harv ∧ (trainStart s).nand = s.nand ∧ (trainStart s).ret = s.ret ∧
    (trainStart s).arr = s.arr ∧ (trainStart s).hive = s.hive ∧ (trainStart s).sec = s.sec ∧
    (trainStart s).jtag = s.jtag ∧ (trainStart s).orf = s.orf ∧ (trainStart s).pending = s.pending ∧
    (trainStart s).free = s.free := by
  simp [trainStart]

@[simp] theorem trainEnds_blocks (s : State) :
    (trainEnds s).conf = s.conf ∧ (trainEnds s).adm = s.adm ∧ (trainEnds s).store = s.store ∧ (trainEnds s).harv = s.harv ∧
    (trainEnds s).nand = s.nand ∧ (trainEnds s).ret = s.ret ∧ (trainEnds s).arr = s.arr ∧ (trainEnds s).hive = s.hive ∧
    (trainEnds s).sec = s.sec ∧ (trainEnds s).jtag = s.jtag ∧ (trainEnds s).orf = s.orf ∧
    (trainEnds s).pending = s.pending ∧ (trainEnds s).free = s.free := by
  simp [trainEnds]

@[simp] theorem storeSet_blocks (second : Bool) (s : State) :
    (storeSet second s).top = s.top ∧ (storeSet second s).conf = s.conf ∧ (storeSet second s).fr = s.fr ∧
    (storeSet second s).host = s.host ∧ (storeSet second s).ring = s.ring ∧ (storeSet second s).adm = s.adm ∧
    (storeSet second s).scout = s.scout ∧ (storeSet second s).store = s.store ∧ (storeSet second s).dram = s.dram ∧
    (storeSet second s).harv = s.harv ∧ (storeSet second s).nand = s.nand ∧ (storeSet second s).ret = s.ret ∧
    (storeSet second s).hive = s.hive ∧ (storeSet second s).tally = s.tally ∧ (storeSet second s).sec = s.sec ∧
    (storeSet second s).jtag = s.jtag ∧ (storeSet second s).orf = s.orf ∧ (storeSet second s).weave = s.weave ∧
    (storeSet second s).pending = s.pending := by
  simp [storeSet]

@[simp] theorem trainDone_blocks (okHost : Bool) (ok2400 : Bool) (s : State) :
    (trainDone okHost ok2400 s).conf = s.conf ∧ (trainDone okHost ok2400 s).adm = s.adm ∧
    (trainDone okHost ok2400 s).store = s.store ∧ (trainDone okHost ok2400 s).harv = s.harv ∧
    (trainDone okHost ok2400 s).nand = s.nand ∧ (trainDone okHost ok2400 s).ret = s.ret ∧
    (trainDone okHost ok2400 s).hive = s.hive ∧ (trainDone okHost ok2400 s).sec = s.sec ∧
    (trainDone okHost ok2400 s).jtag = s.jtag ∧ (trainDone okHost ok2400 s).orf = s.orf ∧
    (trainDone okHost ok2400 s).pending = s.pending := by
  simp [trainDone]

@[simp] theorem setStored_blocks (second : Bool) (s : State) :
    (setStored second s).conf = s.conf ∧ (setStored second s).adm = s.adm ∧ (setStored second s).store = s.store ∧
    (setStored second s).harv = s.harv ∧ (setStored second s).nand = s.nand ∧ (setStored second s).ret = s.ret ∧
    (setStored second s).arr = s.arr ∧ (setStored second s).hive = s.hive ∧ (setStored second s).sec = s.sec ∧
    (setStored second s).jtag = s.jtag ∧ (setStored second s).orf = s.orf ∧ (setStored second s).pending = s.pending ∧
    (setStored second s).free = s.free := by
  simp [setStored]

@[simp] theorem endPass_blocks (cut : Bool) (s : State) :
    (endPass cut s).conf = s.conf ∧ (endPass cut s).adm = s.adm ∧ (endPass cut s).store = s.store ∧
    (endPass cut s).ret = s.ret ∧ (endPass cut s).arr = s.arr ∧ (endPass cut s).hive = s.hive ∧
    (endPass cut s).sec = s.sec ∧ (endPass cut s).jtag = s.jtag ∧ (endPass cut s).orf = s.orf ∧
    (endPass cut s).pending = s.pending ∧ (endPass cut s).free = s.free := by
  simp [endPass]

@[simp] theorem trickleCopied_blocks (c : Nat) (s : State) :
    (trickleCopied c s).conf = s.conf ∧ (trickleCopied c s).store = s.store ∧ (trickleCopied c s).harv = s.harv ∧
    (trickleCopied c s).nand = s.nand ∧ (trickleCopied c s).ret = s.ret ∧ (trickleCopied c s).arr = s.arr ∧
    (trickleCopied c s).hive = s.hive ∧ (trickleCopied c s).sec = s.sec ∧ (trickleCopied c s).jtag = s.jtag ∧
    (trickleCopied c s).orf = s.orf ∧ (trickleCopied c s).pending = s.pending ∧ (trickleCopied c s).free = s.free := by
  unfold trickleCopied; (repeat' split) <;> simp

@[simp] theorem tricklePassEnd_blocks (s : State) :
    (tricklePassEnd s).conf = s.conf ∧ (tricklePassEnd s).adm = s.adm ∧ (tricklePassEnd s).store = s.store ∧
    (tricklePassEnd s).ret = s.ret ∧ (tricklePassEnd s).arr = s.arr ∧ (tricklePassEnd s).hive = s.hive ∧
    (tricklePassEnd s).sec = s.sec ∧ (tricklePassEnd s).jtag = s.jtag ∧ (tricklePassEnd s).orf = s.orf ∧
    (tricklePassEnd s).pending = s.pending ∧ (tricklePassEnd s).free = s.free := by
  simp [tricklePassEnd]

@[simp] theorem imageClose_blocks (s : State) :
    (imageClose s).conf = s.conf ∧ (imageClose s).store = s.store ∧ (imageClose s).harv = s.harv ∧
    (imageClose s).nand = s.nand ∧ (imageClose s).ret = s.ret ∧ (imageClose s).arr = s.arr ∧ (imageClose s).hive = s.hive ∧
    (imageClose s).sec = s.sec ∧ (imageClose s).jtag = s.jtag ∧ (imageClose s).orf = s.orf ∧
    (imageClose s).pending = s.pending ∧ (imageClose s).free = s.free := by
  simp [imageClose]

end Sys2Proof.Machine
end

