-- ==== Sys2Proof/Laws/BlocksComb.lean ====
section
/-! SUPPORT. Which blocks of State each operation of Machine/Comb.lean leaves alone. -/

namespace Sys2Proof.Machine

@[simp] theorem linkPage_blocks (id : Nat) (l : Nat) (p : PageOut) (s : State) :
    (linkPage id l p s).2.top = s.top ∧ (linkPage id l p s).2.conf = s.conf ∧ (linkPage id l p s).2.fr = s.fr ∧
    (linkPage id l p s).2.host = s.host ∧ (linkPage id l p s).2.ring = s.ring ∧ (linkPage id l p s).2.adm = s.adm ∧
    (linkPage id l p s).2.scout = s.scout ∧ (linkPage id l p s).2.store = s.store ∧ (linkPage id l p s).2.dram = s.dram ∧
    (linkPage id l p s).2.harv = s.harv ∧ (linkPage id l p s).2.ret = s.ret ∧ (linkPage id l p s).2.arr = s.arr ∧
    (linkPage id l p s).2.hive = s.hive ∧ (linkPage id l p s).2.tally = s.tally ∧ (linkPage id l p s).2.sec = s.sec ∧
    (linkPage id l p s).2.jtag = s.jtag ∧ (linkPage id l p s).2.orf = s.orf ∧ (linkPage id l p s).2.weave = s.weave ∧
    (linkPage id l p s).2.pending = s.pending ∧ (linkPage id l p s).2.free = s.free := by
  simp [linkPage]

@[simp] theorem addLost_blocks (cs : List Nat) (s : State) :
    (addLost cs s).top = s.top ∧ (addLost cs s).conf = s.conf ∧ (addLost cs s).fr = s.fr ∧ (addLost cs s).host = s.host ∧
    (addLost cs s).ring = s.ring ∧ (addLost cs s).adm = s.adm ∧ (addLost cs s).scout = s.scout ∧
    (addLost cs s).store = s.store ∧ (addLost cs s).dram = s.dram ∧ (addLost cs s).nand = s.nand ∧
    (addLost cs s).ret = s.ret ∧ (addLost cs s).arr = s.arr ∧ (addLost cs s).hive = s.hive ∧
    (addLost cs s).tally = s.tally ∧ (addLost cs s).sec = s.sec ∧ (addLost cs s).jtag = s.jtag ∧
    (addLost cs s).orf = s.orf ∧ (addLost cs s).weave = s.weave ∧ (addLost cs s).pending = s.pending ∧
    (addLost cs s).free = s.free := by
  simp [addLost]

end Sys2Proof.Machine
end

