-- ==== Sys2Proof/Laws/BlocksNand.lean ====
section
/-! SUPPORT. Which blocks of State each operation of Machine/Nand.lean leaves alone. -/

namespace Sys2Proof.Machine

@[simp] theorem keepGeom_blocks (kind : Nat) (val : Nat) (s : State) :
    (keepGeom kind val s).top = s.top ∧ (keepGeom kind val s).conf = s.conf ∧ (keepGeom kind val s).fr = s.fr ∧
    (keepGeom kind val s).host = s.host ∧ (keepGeom kind val s).ring = s.ring ∧ (keepGeom kind val s).adm = s.adm ∧
    (keepGeom kind val s).scout = s.scout ∧ (keepGeom kind val s).store = s.store ∧ (keepGeom kind val s).dram = s.dram ∧
    (keepGeom kind val s).harv = s.harv ∧ (keepGeom kind val s).nand = s.nand ∧ (keepGeom kind val s).ret = s.ret ∧
    (keepGeom kind val s).hive = s.hive ∧ (keepGeom kind val s).tally = s.tally ∧ (keepGeom kind val s).sec = s.sec ∧
    (keepGeom kind val s).jtag = s.jtag ∧ (keepGeom kind val s).orf = s.orf ∧ (keepGeom kind val s).weave = s.weave ∧
    (keepGeom kind val s).pending = s.pending ∧ (keepGeom kind val s).free = s.free := by
  simp [keepGeom]

@[simp] theorem geomWake_blocks (s : State) :
    (geomWake s).top = s.top ∧ (geomWake s).conf = s.conf ∧ (geomWake s).fr = s.fr ∧ (geomWake s).host = s.host ∧
    (geomWake s).ring = s.ring ∧ (geomWake s).adm = s.adm ∧ (geomWake s).scout = s.scout ∧ (geomWake s).store = s.store ∧
    (geomWake s).dram = s.dram ∧ (geomWake s).harv = s.harv ∧ (geomWake s).ret = s.ret ∧ (geomWake s).hive = s.hive ∧
    (geomWake s).tally = s.tally ∧ (geomWake s).sec = s.sec ∧ (geomWake s).jtag = s.jtag ∧ (geomWake s).orf = s.orf ∧
    (geomWake s).weave = s.weave ∧ (geomWake s).pending = s.pending ∧ (geomWake s).free = s.free := by
  simp [geomWake]

@[simp] theorem markBad_blocks (t : Nat) (x : Nat) (s : State) :
    (markBad t x s).top = s.top ∧ (markBad t x s).conf = s.conf ∧ (markBad t x s).fr = s.fr ∧
    (markBad t x s).host = s.host ∧ (markBad t x s).ring = s.ring ∧ (markBad t x s).adm = s.adm ∧
    (markBad t x s).scout = s.scout ∧ (markBad t x s).store = s.store ∧ (markBad t x s).dram = s.dram ∧
    (markBad t x s).harv = s.harv ∧ (markBad t x s).ret = s.ret ∧ (markBad t x s).hive = s.hive ∧
    (markBad t x s).tally = s.tally ∧ (markBad t x s).sec = s.sec ∧ (markBad t x s).jtag = s.jtag ∧
    (markBad t x s).orf = s.orf ∧ (markBad t x s).weave = s.weave ∧ (markBad t x s).pending = s.pending ∧
    (markBad t x s).free = s.free := by
  simp [markBad]

@[simp] theorem catProgram_blocks (e : CatEntry) (w : Nat) (s : State) :
    (catProgram e w s).top = s.top ∧ (catProgram e w s).conf = s.conf ∧ (catProgram e w s).fr = s.fr ∧
    (catProgram e w s).host = s.host ∧ (catProgram e w s).ring = s.ring ∧ (catProgram e w s).adm = s.adm ∧
    (catProgram e w s).scout = s.scout ∧ (catProgram e w s).store = s.store ∧ (catProgram e w s).dram = s.dram ∧
    (catProgram e w s).harv = s.harv ∧ (catProgram e w s).nand = s.nand ∧ (catProgram e w s).ret = s.ret ∧
    (catProgram e w s).hive = s.hive ∧ (catProgram e w s).tally = s.tally ∧ (catProgram e w s).sec = s.sec ∧
    (catProgram e w s).jtag = s.jtag ∧ (catProgram e w s).orf = s.orf ∧ (catProgram e w s).weave = s.weave ∧
    (catProgram e w s).pending = s.pending ∧ (catProgram e w s).free = s.free := by
  simp [catProgram]

@[simp] theorem modEntry_blocks (slot : Nat) (f : CatEntry → CatEntry) (s : State) :
    (modEntry slot f s).top = s.top ∧ (modEntry slot f s).conf = s.conf ∧ (modEntry slot f s).fr = s.fr ∧
    (modEntry slot f s).host = s.host ∧ (modEntry slot f s).ring = s.ring ∧ (modEntry slot f s).adm = s.adm ∧
    (modEntry slot f s).scout = s.scout ∧ (modEntry slot f s).store = s.store ∧ (modEntry slot f s).dram = s.dram ∧
    (modEntry slot f s).harv = s.harv ∧ (modEntry slot f s).ret = s.ret ∧ (modEntry slot f s).arr = s.arr ∧
    (modEntry slot f s).hive = s.hive ∧ (modEntry slot f s).tally = s.tally ∧ (modEntry slot f s).sec = s.sec ∧
    (modEntry slot f s).jtag = s.jtag ∧ (modEntry slot f s).orf = s.orf ∧ (modEntry slot f s).weave = s.weave ∧
    (modEntry slot f s).pending = s.pending ∧ (modEntry slot f s).free = s.free := by
  simp [modEntry]

@[simp] theorem endEntry_blocks (kind : Nat) (id : Nat) (s : State) :
    (endEntry kind id s).top = s.top ∧ (endEntry kind id s).conf = s.conf ∧ (endEntry kind id s).fr = s.fr ∧
    (endEntry kind id s).host = s.host ∧ (endEntry kind id s).ring = s.ring ∧ (endEntry kind id s).adm = s.adm ∧
    (endEntry kind id s).scout = s.scout ∧ (endEntry kind id s).store = s.store ∧ (endEntry kind id s).dram = s.dram ∧
    (endEntry kind id s).harv = s.harv ∧ (endEntry kind id s).nand = s.nand ∧ (endEntry kind id s).ret = s.ret ∧
    (endEntry kind id s).hive = s.hive ∧ (endEntry kind id s).tally = s.tally ∧ (endEntry kind id s).sec = s.sec ∧
    (endEntry kind id s).jtag = s.jtag ∧ (endEntry kind id s).orf = s.orf ∧ (endEntry kind id s).weave = s.weave ∧
    (endEntry kind id s).pending = s.pending ∧ (endEntry kind id s).free = s.free := by
  unfold endEntry; split <;> simp

@[simp] theorem setFill_blocks (sA : Nat) (sB : Nat) (run : Nat → List Nat) (s : State) :
    (setFill sA sB run s).top = s.top ∧ (setFill sA sB run s).conf = s.conf ∧ (setFill sA sB run s).fr = s.fr ∧
    (setFill sA sB run s).host = s.host ∧ (setFill sA sB run s).ring = s.ring ∧ (setFill sA sB run s).adm = s.adm ∧
    (setFill sA sB run s).scout = s.scout ∧ (setFill sA sB run s).store = s.store ∧ (setFill sA sB run s).dram = s.dram ∧
    (setFill sA sB run s).harv = s.harv ∧ (setFill sA sB run s).ret = s.ret ∧ (setFill sA sB run s).arr = s.arr ∧
    (setFill sA sB run s).hive = s.hive ∧ (setFill sA sB run s).tally = s.tally ∧ (setFill sA sB run s).sec = s.sec ∧
    (setFill sA sB run s).jtag = s.jtag ∧ (setFill sA sB run s).orf = s.orf ∧ (setFill sA sB run s).weave = s.weave ∧
    (setFill sA sB run s).pending = s.pending ∧ (setFill sA sB run s).free = s.free := by
  simp [setFill]

@[simp] theorem factoryScan_blocks (s : State) :
    (factoryScan s).top = s.top ∧ (factoryScan s).conf = s.conf ∧ (factoryScan s).fr = s.fr ∧
    (factoryScan s).host = s.host ∧ (factoryScan s).ring = s.ring ∧ (factoryScan s).adm = s.adm ∧
    (factoryScan s).scout = s.scout ∧ (factoryScan s).store = s.store ∧ (factoryScan s).dram = s.dram ∧
    (factoryScan s).harv = s.harv ∧ (factoryScan s).ret = s.ret ∧ (factoryScan s).hive = s.hive ∧
    (factoryScan s).tally = s.tally ∧ (factoryScan s).sec = s.sec ∧ (factoryScan s).jtag = s.jtag ∧
    (factoryScan s).orf = s.orf ∧ (factoryScan s).weave = s.weave ∧ (factoryScan s).pending = s.pending ∧
    (factoryScan s).free = s.free := by
  simp [factoryScan]

@[simp] theorem geomShort_blocks (s : State) :
    (geomShort s).top = s.top ∧ (geomShort s).conf = s.conf ∧ (geomShort s).fr = s.fr ∧ (geomShort s).host = s.host ∧
    (geomShort s).ring = s.ring ∧ (geomShort s).adm = s.adm ∧ (geomShort s).scout = s.scout ∧
    (geomShort s).store = s.store ∧ (geomShort s).dram = s.dram ∧ (geomShort s).harv = s.harv ∧ (geomShort s).ret = s.ret ∧
    (geomShort s).arr = s.arr ∧ (geomShort s).hive = s.hive ∧ (geomShort s).tally = s.tally ∧ (geomShort s).sec = s.sec ∧
    (geomShort s).jtag = s.jtag ∧ (geomShort s).orf = s.orf ∧ (geomShort s).weave = s.weave ∧
    (geomShort s).pending = s.pending ∧ (geomShort s).free = s.free := by
  simp [geomShort]

@[simp] theorem prepStart_blocks (s : State) :
    (prepStart s).top = s.top ∧ (prepStart s).conf = s.conf ∧ (prepStart s).fr = s.fr ∧ (prepStart s).host = s.host ∧
    (prepStart s).ring = s.ring ∧ (prepStart s).adm = s.adm ∧ (prepStart s).scout = s.scout ∧
    (prepStart s).store = s.store ∧ (prepStart s).dram = s.dram ∧ (prepStart s).harv = s.harv ∧ (prepStart s).ret = s.ret ∧
    (prepStart s).hive = s.hive ∧ (prepStart s).tally = s.tally ∧ (prepStart s).sec = s.sec ∧ (prepStart s).jtag = s.jtag ∧
    (prepStart s).orf = s.orf ∧ (prepStart s).weave = s.weave ∧ (prepStart s).pending = s.pending ∧
    (prepStart s).free = s.free := by
  simp (disch := (intros; (repeat' split) <;> try simp)) [prepStart]

@[simp] theorem prepMaybe_blocks (s : State) :
    (prepMaybe s).top = s.top ∧ (prepMaybe s).conf = s.conf ∧ (prepMaybe s).fr = s.fr ∧ (prepMaybe s).host = s.host ∧
    (prepMaybe s).ring = s.ring ∧ (prepMaybe s).adm = s.adm ∧ (prepMaybe s).scout = s.scout ∧
    (prepMaybe s).store = s.store ∧ (prepMaybe s).dram = s.dram ∧ (prepMaybe s).harv = s.harv ∧ (prepMaybe s).ret = s.ret ∧
    (prepMaybe s).hive = s.hive ∧ (prepMaybe s).tally = s.tally ∧ (prepMaybe s).sec = s.sec ∧ (prepMaybe s).jtag = s.jtag ∧
    (prepMaybe s).orf = s.orf ∧ (prepMaybe s).weave = s.weave ∧ (prepMaybe s).pending = s.pending ∧
    (prepMaybe s).free = s.free := by
  simp [prepMaybe]

@[simp] theorem prepArm_blocks (s : State) :
    (prepArm s).top = s.top ∧ (prepArm s).conf = s.conf ∧ (prepArm s).fr = s.fr ∧
    (prepArm s).host = s.host ∧ (prepArm s).ring = s.ring ∧ (prepArm s).adm = s.adm ∧
    (prepArm s).scout = s.scout ∧ (prepArm s).store = s.store ∧ (prepArm s).dram = s.dram ∧
    (prepArm s).harv = s.harv ∧ (prepArm s).ret = s.ret ∧ (prepArm s).hive = s.hive ∧
    (prepArm s).tally = s.tally ∧ (prepArm s).sec = s.sec ∧ (prepArm s).jtag = s.jtag ∧
    (prepArm s).orf = s.orf ∧ (prepArm s).weave = s.weave ∧ (prepArm s).pending = s.pending ∧
    (prepArm s).free = s.free := by
  unfold prepArm; split <;> simp

@[simp] theorem armComb_blocks (e : CatEntry) (s : State) :
    (armComb e s).top = s.top ∧ (armComb e s).conf = s.conf ∧ (armComb e s).fr = s.fr ∧ (armComb e s).host = s.host ∧
    (armComb e s).ring = s.ring ∧ (armComb e s).adm = s.adm ∧ (armComb e s).scout = s.scout ∧
    (armComb e s).store = s.store ∧ (armComb e s).harv = s.harv ∧ (armComb e s).ret = s.ret ∧ (armComb e s).arr = s.arr ∧
    (armComb e s).hive = s.hive ∧ (armComb e s).tally = s.tally ∧ (armComb e s).sec = s.sec ∧ (armComb e s).jtag = s.jtag ∧
    (armComb e s).orf = s.orf ∧ (armComb e s).weave = s.weave ∧ (armComb e s).pending = s.pending ∧
    (armComb e s).free = s.free := by
  simp [armComb]

@[simp] theorem armed_blocks (e : CatEntry) (s : State) :
    (armed e s).top = s.top ∧ (armed e s).conf = s.conf ∧ (armed e s).fr = s.fr ∧
    (armed e s).host = s.host ∧ (armed e s).ring = s.ring ∧ (armed e s).adm = s.adm ∧
    (armed e s).scout = s.scout ∧ (armed e s).store = s.store ∧ (armed e s).harv = s.harv ∧
    (armed e s).ret = s.ret ∧ (armed e s).arr = s.arr ∧ (armed e s).hive = s.hive ∧
    (armed e s).tally = s.tally ∧ (armed e s).sec = s.sec ∧ (armed e s).jtag = s.jtag ∧
    (armed e s).orf = s.orf ∧ (armed e s).weave = s.weave ∧ (armed e s).pending = s.pending ∧
    (armed e s).free = s.free := by
  simp [armed]

@[simp] theorem prepEnd_blocks (s : State) :
    (prepEnd s).top = s.top ∧ (prepEnd s).conf = s.conf ∧ (prepEnd s).fr = s.fr ∧ (prepEnd s).host = s.host ∧
    (prepEnd s).ring = s.ring ∧ (prepEnd s).adm = s.adm ∧ (prepEnd s).scout = s.scout ∧ (prepEnd s).store = s.store ∧
    (prepEnd s).harv = s.harv ∧ (prepEnd s).ret = s.ret ∧ (prepEnd s).hive = s.hive ∧ (prepEnd s).tally = s.tally ∧
    (prepEnd s).sec = s.sec ∧ (prepEnd s).jtag = s.jtag ∧ (prepEnd s).orf = s.orf ∧ (prepEnd s).weave = s.weave ∧
    (prepEnd s).pending = s.pending ∧ (prepEnd s).free = s.free := by
  unfold prepEnd; (repeat' split) <;> simp

@[simp] theorem eraseDone_blocks (t : Nat) (stripe : Nat) (pass : Bool) (s : State) :
    (eraseDone t stripe pass s).conf = s.conf ∧ (eraseDone t stripe pass s).adm = s.adm ∧
    (eraseDone t stripe pass s).store = s.store ∧ (eraseDone t stripe pass s).harv = s.harv ∧
    (eraseDone t stripe pass s).ret = s.ret ∧ (eraseDone t stripe pass s).hive = s.hive ∧
    (eraseDone t stripe pass s).sec = s.sec ∧ (eraseDone t stripe pass s).jtag = s.jtag ∧
    (eraseDone t stripe pass s).orf = s.orf ∧ (eraseDone t stripe pass s).pending = s.pending ∧
    (eraseDone t stripe pass s).free = s.free := by
  simp only [eraseDone]; (repeat' split) <;> simp

@[simp] theorem armLoss_blocks (s : State) :
    (armLoss s).conf = s.conf ∧ (armLoss s).store = s.store ∧ (armLoss s).ret = s.ret ∧ (armLoss s).hive = s.hive ∧
    (armLoss s).sec = s.sec ∧ (armLoss s).jtag = s.jtag ∧ (armLoss s).orf = s.orf ∧ (armLoss s).pending = s.pending ∧
    (armLoss s).free = s.free := by
  simp (disch := (intros; (repeat' split) <;> try simp)) [armLoss]

@[simp] theorem bringUpStart_blocks (s : State) :
    (bringUpStart s).top = s.top ∧ (bringUpStart s).conf = s.conf ∧ (bringUpStart s).fr = s.fr ∧
    (bringUpStart s).host = s.host ∧ (bringUpStart s).ring = s.ring ∧ (bringUpStart s).adm = s.adm ∧
    (bringUpStart s).scout = s.scout ∧ (bringUpStart s).store = s.store ∧ (bringUpStart s).dram = s.dram ∧
    (bringUpStart s).harv = s.harv ∧ (bringUpStart s).ret = s.ret ∧ (bringUpStart s).arr = s.arr ∧
    (bringUpStart s).hive = s.hive ∧ (bringUpStart s).tally = s.tally ∧ (bringUpStart s).sec = s.sec ∧
    (bringUpStart s).jtag = s.jtag ∧ (bringUpStart s).orf = s.orf ∧ (bringUpStart s).weave = s.weave ∧
    (bringUpStart s).pending = s.pending ∧ (bringUpStart s).free = s.free := by
  simp [bringUpStart]

@[simp] theorem rearm_blocks (unerased : List (Nat × Nat)) (s : State) :
    (rearm unerased s).top = s.top ∧ (rearm unerased s).conf = s.conf ∧ (rearm unerased s).fr = s.fr ∧
    (rearm unerased s).host = s.host ∧ (rearm unerased s).ring = s.ring ∧ (rearm unerased s).adm = s.adm ∧
    (rearm unerased s).scout = s.scout ∧ (rearm unerased s).store = s.store ∧ (rearm unerased s).harv = s.harv ∧
    (rearm unerased s).ret = s.ret ∧ (rearm unerased s).arr = s.arr ∧ (rearm unerased s).hive = s.hive ∧
    (rearm unerased s).tally = s.tally ∧ (rearm unerased s).sec = s.sec ∧ (rearm unerased s).jtag = s.jtag ∧
    (rearm unerased s).orf = s.orf ∧ (rearm unerased s).weave = s.weave ∧ (rearm unerased s).pending = s.pending ∧
    (rearm unerased s).free = s.free := by
  unfold rearm; split <;> simp

@[simp] theorem putFill_blocks (trk : Bool) (t : Nat) (xs : List Nat) (row : Nat) (s : State) :
    (putFill trk t xs row s).top = s.top ∧ (putFill trk t xs row s).conf = s.conf ∧ (putFill trk t xs row s).fr = s.fr ∧
    (putFill trk t xs row s).host = s.host ∧ (putFill trk t xs row s).ring = s.ring ∧ (putFill trk t xs row s).adm = s.adm ∧
    (putFill trk t xs row s).scout = s.scout ∧ (putFill trk t xs row s).store = s.store ∧
    (putFill trk t xs row s).dram = s.dram ∧ (putFill trk t xs row s).harv = s.harv ∧ (putFill trk t xs row s).ret = s.ret ∧
    (putFill trk t xs row s).arr = s.arr ∧ (putFill trk t xs row s).hive = s.hive ∧
    (putFill trk t xs row s).tally = s.tally ∧ (putFill trk t xs row s).sec = s.sec ∧
    (putFill trk t xs row s).jtag = s.jtag ∧ (putFill trk t xs row s).orf = s.orf ∧
    (putFill trk t xs row s).weave = s.weave ∧ (putFill trk t xs row s).pending = s.pending ∧
    (putFill trk t xs row s).free = s.free := by
  simp [putFill]

@[simp] theorem linkAll_blocks (id l : Nat) : ∀ (ps : List PageOut) (s : State),
    (linkAll id l ps s).2.top = s.top ∧ (linkAll id l ps s).2.conf = s.conf ∧ (linkAll id l ps s).2.fr = s.fr ∧
    (linkAll id l ps s).2.host = s.host ∧ (linkAll id l ps s).2.ring = s.ring ∧ (linkAll id l ps s).2.adm = s.adm ∧
    (linkAll id l ps s).2.scout = s.scout ∧ (linkAll id l ps s).2.store = s.store ∧ (linkAll id l ps s).2.dram = s.dram ∧
    (linkAll id l ps s).2.harv = s.harv ∧ (linkAll id l ps s).2.ret = s.ret ∧ (linkAll id l ps s).2.arr = s.arr ∧
    (linkAll id l ps s).2.hive = s.hive ∧ (linkAll id l ps s).2.tally = s.tally ∧ (linkAll id l ps s).2.sec = s.sec ∧
    (linkAll id l ps s).2.jtag = s.jtag ∧ (linkAll id l ps s).2.orf = s.orf ∧ (linkAll id l ps s).2.weave = s.weave ∧
    (linkAll id l ps s).2.pending = s.pending ∧ (linkAll id l ps s).2.free = s.free
  | [], _ => by simp [linkAll]
  | p :: ps, s => by simp [linkAll, linkAll_blocks id l ps]

@[simp] theorem unsave_blocks (c : Nat) (s : State) :
    (unsave c s).top = s.top ∧ (unsave c s).conf = s.conf ∧ (unsave c s).fr = s.fr ∧ (unsave c s).host = s.host ∧
    (unsave c s).scout = s.scout ∧ (unsave c s).store = s.store ∧ (unsave c s).dram = s.dram ∧ (unsave c s).nand = s.nand ∧
    (unsave c s).ret = s.ret ∧ (unsave c s).arr = s.arr ∧ (unsave c s).hive = s.hive ∧ (unsave c s).tally = s.tally ∧
    (unsave c s).sec = s.sec ∧ (unsave c s).jtag = s.jtag ∧ (unsave c s).orf = s.orf ∧ (unsave c s).weave = s.weave ∧
    (unsave c s).pending = s.pending ∧ (unsave c s).free = s.free := by
  unfold unsave; (repeat' split) <;> simp

@[simp] theorem save_blocks (c : Nat) (s : State) :
    (save c s).conf = s.conf ∧ (save c s).store = s.store ∧ (save c s).dram = s.dram ∧ (save c s).nand = s.nand ∧
    (save c s).ret = s.ret ∧ (save c s).arr = s.arr ∧ (save c s).hive = s.hive ∧ (save c s).sec = s.sec ∧
    (save c s).jtag = s.jtag ∧ (save c s).orf = s.orf ∧ (save c s).pending = s.pending ∧ (save c s).free = s.free := by
  unfold save; split <;> simp

@[simp] theorem formUnits_blocks (l : Nat) (all : Bool) : ∀ (n : Nat) (s : State),
    (formUnits l all n s).conf = s.conf ∧ (formUnits l all n s).store = s.store ∧ (formUnits l all n s).dram = s.dram ∧
    (formUnits l all n s).ret = s.ret ∧ (formUnits l all n s).arr = s.arr ∧ (formUnits l all n s).hive = s.hive ∧
    (formUnits l all n s).sec = s.sec ∧ (formUnits l all n s).jtag = s.jtag ∧ (formUnits l all n s).orf = s.orf ∧
    (formUnits l all n s).pending = s.pending ∧ (formUnits l all n s).free = s.free
  | 0, _ => by simp [formUnits]
  | n + 1, s => by
    unfold formUnits
    (repeat' split) <;> simp [formUnits_blocks l all n]

@[simp] theorem giveBack_blocks (cells : List Nat) (s : State) :
    (giveBack cells s).conf = s.conf ∧ (giveBack cells s).store = s.store ∧ (giveBack cells s).dram = s.dram ∧
    (giveBack cells s).ret = s.ret ∧ (giveBack cells s).arr = s.arr ∧ (giveBack cells s).hive = s.hive ∧
    (giveBack cells s).sec = s.sec ∧ (giveBack cells s).jtag = s.jtag ∧ (giveBack cells s).orf = s.orf ∧
    (giveBack cells s).pending = s.pending ∧ (giveBack cells s).free = s.free := by
  simp [giveBack]

@[simp] theorem laneGone_blocks (l : Nat) (s : State) :
    (laneGone l s).conf = s.conf ∧ (laneGone l s).store = s.store ∧ (laneGone l s).dram = s.dram ∧
    (laneGone l s).ret = s.ret ∧ (laneGone l s).arr = s.arr ∧ (laneGone l s).hive = s.hive ∧
    (laneGone l s).sec = s.sec ∧ (laneGone l s).jtag = s.jtag ∧ (laneGone l s).orf = s.orf ∧
    (laneGone l s).pending = s.pending ∧ (laneGone l s).free = s.free := by
  simp [laneGone]

@[simp] theorem pump_blocks (l : Nat) (all : Bool) (s : State) :
    (pump l all s).conf = s.conf ∧ (pump l all s).store = s.store ∧ (pump l all s).dram = s.dram ∧
    (pump l all s).ret = s.ret ∧ (pump l all s).arr = s.arr ∧ (pump l all s).hive = s.hive ∧ (pump l all s).sec = s.sec ∧
    (pump l all s).jtag = s.jtag ∧ (pump l all s).orf = s.orf ∧ (pump l all s).pending = s.pending ∧
    (pump l all s).free = s.free := by
  simp only [pump]; split <;> simp

@[simp] theorem targetGone_blocks (t : Nat) (page : Nat) (s : State) :
    (targetGone t page s).conf = s.conf ∧ (targetGone t page s).store = s.store ∧ (targetGone t page s).dram = s.dram ∧
    (targetGone t page s).ret = s.ret ∧ (targetGone t page s).arr = s.arr ∧ (targetGone t page s).hive = s.hive ∧
    (targetGone t page s).sec = s.sec ∧ (targetGone t page s).jtag = s.jtag ∧ (targetGone t page s).orf = s.orf ∧
    (targetGone t page s).pending = s.pending ∧ (targetGone t page s).free = s.free := by
  simp [targetGone]

@[simp] theorem retireStripe_blocks (t : Nat) (x : Nat) (s : State) :
    (retireStripe t x s).top = s.top ∧ (retireStripe t x s).conf = s.conf ∧ (retireStripe t x s).fr = s.fr ∧
    (retireStripe t x s).host = s.host ∧ (retireStripe t x s).ring = s.ring ∧ (retireStripe t x s).adm = s.adm ∧
    (retireStripe t x s).scout = s.scout ∧ (retireStripe t x s).store = s.store ∧ (retireStripe t x s).dram = s.dram ∧
    (retireStripe t x s).harv = s.harv ∧ (retireStripe t x s).ret = s.ret ∧ (retireStripe t x s).arr = s.arr ∧
    (retireStripe t x s).hive = s.hive ∧ (retireStripe t x s).tally = s.tally ∧ (retireStripe t x s).sec = s.sec ∧
    (retireStripe t x s).jtag = s.jtag ∧ (retireStripe t x s).orf = s.orf ∧ (retireStripe t x s).weave = s.weave ∧
    (retireStripe t x s).pending = s.pending ∧ (retireStripe t x s).free = s.free := by
  simp [retireStripe]

@[simp] theorem settleRewrites_blocks (s : State) :
    (settleRewrites s).top = s.top ∧ (settleRewrites s).conf = s.conf ∧ (settleRewrites s).fr = s.fr ∧
    (settleRewrites s).host = s.host ∧ (settleRewrites s).ring = s.ring ∧ (settleRewrites s).adm = s.adm ∧
    (settleRewrites s).scout = s.scout ∧ (settleRewrites s).store = s.store ∧ (settleRewrites s).dram = s.dram ∧
    (settleRewrites s).harv = s.harv ∧ (settleRewrites s).ret = s.ret ∧ (settleRewrites s).arr = s.arr ∧
    (settleRewrites s).hive = s.hive ∧ (settleRewrites s).tally = s.tally ∧ (settleRewrites s).sec = s.sec ∧
    (settleRewrites s).jtag = s.jtag ∧ (settleRewrites s).orf = s.orf ∧ (settleRewrites s).weave = s.weave ∧
    (settleRewrites s).pending = s.pending ∧ (settleRewrites s).free = s.free := by
  simp [settleRewrites]

@[simp] theorem headerProgram_blocks (sA : Nat) (stripe : Nat) (s : State) :
    (headerProgram sA stripe s).top = s.top ∧ (headerProgram sA stripe s).conf = s.conf ∧
    (headerProgram sA stripe s).fr = s.fr ∧ (headerProgram sA stripe s).host = s.host ∧
    (headerProgram sA stripe s).ring = s.ring ∧ (headerProgram sA stripe s).adm = s.adm ∧
    (headerProgram sA stripe s).scout = s.scout ∧ (headerProgram sA stripe s).store = s.store ∧
    (headerProgram sA stripe s).dram = s.dram ∧ (headerProgram sA stripe s).harv = s.harv ∧
    (headerProgram sA stripe s).ret = s.ret ∧ (headerProgram sA stripe s).arr = s.arr ∧
    (headerProgram sA stripe s).hive = s.hive ∧ (headerProgram sA stripe s).tally = s.tally ∧
    (headerProgram sA stripe s).sec = s.sec ∧ (headerProgram sA stripe s).jtag = s.jtag ∧
    (headerProgram sA stripe s).orf = s.orf ∧ (headerProgram sA stripe s).weave = s.weave ∧
    (headerProgram sA stripe s).pending = s.pending ∧ (headerProgram sA stripe s).free = s.free := by
  simp [headerProgram]

@[simp] theorem headerAgain_blocks (u : ProgUnit) (s : State) :
    (headerAgain u s).top = s.top ∧ (headerAgain u s).conf = s.conf ∧ (headerAgain u s).fr = s.fr ∧
    (headerAgain u s).host = s.host ∧ (headerAgain u s).ring = s.ring ∧ (headerAgain u s).adm = s.adm ∧
    (headerAgain u s).scout = s.scout ∧ (headerAgain u s).store = s.store ∧ (headerAgain u s).dram = s.dram ∧
    (headerAgain u s).ret = s.ret ∧ (headerAgain u s).arr = s.arr ∧ (headerAgain u s).hive = s.hive ∧
    (headerAgain u s).tally = s.tally ∧ (headerAgain u s).sec = s.sec ∧ (headerAgain u s).jtag = s.jtag ∧
    (headerAgain u s).orf = s.orf ∧ (headerAgain u s).weave = s.weave ∧ (headerAgain u s).pending = s.pending ∧
    (headerAgain u s).free = s.free := by
  simp [headerAgain]

@[simp] theorem progFailed_blocks (t : Nat) (page : Nat) (s : State) :
    (progFailed t page s).conf = s.conf ∧ (progFailed t page s).adm = s.adm ∧ (progFailed t page s).store = s.store ∧
    (progFailed t page s).dram = s.dram ∧ (progFailed t page s).harv = s.harv ∧ (progFailed t page s).ret = s.ret ∧
    (progFailed t page s).arr = s.arr ∧ (progFailed t page s).hive = s.hive ∧ (progFailed t page s).sec = s.sec ∧
    (progFailed t page s).jtag = s.jtag ∧ (progFailed t page s).orf = s.orf ∧ (progFailed t page s).pending = s.pending ∧
    (progFailed t page s).free = s.free := by
  simp [progFailed]

@[simp] theorem trickleFails_blocks (t : Nat) (page : Nat) (s : State) :
    (trickleFails t page s).conf = s.conf ∧ (trickleFails t page s).store = s.store ∧ (trickleFails t page s).ret = s.ret ∧
    (trickleFails t page s).hive = s.hive ∧ (trickleFails t page s).sec = s.sec ∧ (trickleFails t page s).jtag = s.jtag ∧
    (trickleFails t page s).orf = s.orf ∧ (trickleFails t page s).pending = s.pending ∧
    (trickleFails t page s).free = s.free := by
  simp [trickleFails]

@[simp] theorem trickleStatus_blocks (t : Nat) (page : Nat) (pass : Bool) (s : State) :
    (trickleStatus t page pass s).conf = s.conf ∧ (trickleStatus t page pass s).store = s.store ∧
    (trickleStatus t page pass s).ret = s.ret ∧ (trickleStatus t page pass s).hive = s.hive ∧
    (trickleStatus t page pass s).sec = s.sec ∧ (trickleStatus t page pass s).jtag = s.jtag ∧
    (trickleStatus t page pass s).orf = s.orf ∧ (trickleStatus t page pass s).pending = s.pending ∧
    (trickleStatus t page pass s).free = s.free := by
  unfold trickleStatus; split <;> simp

@[simp] theorem compact_blocks (s : State) :
    (compact s).top = s.top ∧ (compact s).conf = s.conf ∧ (compact s).fr = s.fr ∧
    (compact s).host = s.host ∧ (compact s).ring = s.ring ∧ (compact s).adm = s.adm ∧
    (compact s).scout = s.scout ∧ (compact s).store = s.store ∧ (compact s).dram = s.dram ∧
    (compact s).harv = s.harv ∧ (compact s).nand = s.nand ∧ (compact s).ret = s.ret ∧
    (compact s).hive = s.hive ∧ (compact s).tally = s.tally ∧ (compact s).jtag = s.jtag ∧
    (compact s).orf = s.orf ∧ (compact s).weave = s.weave ∧ (compact s).pending = s.pending ∧
    (compact s).free = s.free := by
  simp [compact]

@[simp] theorem compactEnd_blocks (s : State) :
    (compactEnd s).top = s.top ∧ (compactEnd s).conf = s.conf ∧ (compactEnd s).fr = s.fr ∧
    (compactEnd s).host = s.host ∧ (compactEnd s).ring = s.ring ∧ (compactEnd s).adm = s.adm ∧
    (compactEnd s).scout = s.scout ∧ (compactEnd s).store = s.store ∧ (compactEnd s).dram = s.dram ∧
    (compactEnd s).harv = s.harv ∧ (compactEnd s).ret = s.ret ∧ (compactEnd s).arr = s.arr ∧
    (compactEnd s).hive = s.hive ∧ (compactEnd s).tally = s.tally ∧ (compactEnd s).sec = s.sec ∧
    (compactEnd s).jtag = s.jtag ∧ (compactEnd s).orf = s.orf ∧ (compactEnd s).weave = s.weave ∧
    (compactEnd s).pending = s.pending ∧ (compactEnd s).free = s.free := by
  simp [compactEnd]

end Sys2Proof.Machine
end

