-- ==== Sys2Proof/Laws/BlocksHarvest.lean ====
section
/-! SUPPORT. Which blocks of State each operation of Machine/Harvest.lean leaves alone. -/

namespace Sys2Proof.Machine

@[simp] theorem planRepair_blocks (s : State) :
    (planRepair s).conf = s.conf ∧ (planRepair s).store = s.store ∧ (planRepair s).dram = s.dram ∧
    (planRepair s).nand = s.nand ∧ (planRepair s).ret = s.ret ∧ (planRepair s).arr = s.arr ∧
    (planRepair s).hive = s.hive ∧ (planRepair s).sec = s.sec ∧ (planRepair s).jtag = s.jtag ∧
    (planRepair s).orf = s.orf ∧ (planRepair s).pending = s.pending ∧ (planRepair s).free = s.free := by
  simp [planRepair]

@[simp] theorem planRebuild_blocks (s : State) :
    (planRebuild s).conf = s.conf ∧ (planRebuild s).store = s.store ∧ (planRebuild s).dram = s.dram ∧
    (planRebuild s).nand = s.nand ∧ (planRebuild s).ret = s.ret ∧ (planRebuild s).arr = s.arr ∧
    (planRebuild s).hive = s.hive ∧ (planRebuild s).sec = s.sec ∧ (planRebuild s).jtag = s.jtag ∧
    (planRebuild s).orf = s.orf ∧ (planRebuild s).pending = s.pending ∧ (planRebuild s).free = s.free := by
  simp [planRebuild]

@[simp] theorem settleItem_blocks (i : Item) (s : State) :
    (settleItem i s).conf = s.conf ∧ (settleItem i s).store = s.store ∧ (settleItem i s).dram = s.dram ∧
    (settleItem i s).nand = s.nand ∧ (settleItem i s).ret = s.ret ∧ (settleItem i s).arr = s.arr ∧
    (settleItem i s).hive = s.hive ∧ (settleItem i s).sec = s.sec ∧ (settleItem i s).jtag = s.jtag ∧
    (settleItem i s).orf = s.orf ∧ (settleItem i s).pending = s.pending ∧ (settleItem i s).free = s.free := by
  unfold settleItem; split <;> simp

@[simp] theorem settleWrites_blocks (s : State) :
    (settleWrites s).conf = s.conf ∧ (settleWrites s).store = s.store ∧ (settleWrites s).dram = s.dram ∧
    (settleWrites s).nand = s.nand ∧ (settleWrites s).ret = s.ret ∧ (settleWrites s).arr = s.arr ∧
    (settleWrites s).hive = s.hive ∧ (settleWrites s).sec = s.sec ∧ (settleWrites s).jtag = s.jtag ∧
    (settleWrites s).orf = s.orf ∧ (settleWrites s).pending = s.pending ∧ (settleWrites s).free = s.free := by
  simp [settleWrites]

@[simp] theorem giveLane_blocks (l : Nat) (c : Nat) (s : State) :
    (giveLane l c s).top = s.top ∧ (giveLane l c s).conf = s.conf ∧ (giveLane l c s).fr = s.fr ∧
    (giveLane l c s).host = s.host ∧ (giveLane l c s).ring = s.ring ∧ (giveLane l c s).adm = s.adm ∧
    (giveLane l c s).scout = s.scout ∧ (giveLane l c s).store = s.store ∧ (giveLane l c s).dram = s.dram ∧
    (giveLane l c s).nand = s.nand ∧ (giveLane l c s).ret = s.ret ∧ (giveLane l c s).arr = s.arr ∧
    (giveLane l c s).hive = s.hive ∧ (giveLane l c s).tally = s.tally ∧ (giveLane l c s).sec = s.sec ∧
    (giveLane l c s).jtag = s.jtag ∧ (giveLane l c s).orf = s.orf ∧ (giveLane l c s).weave = s.weave ∧
    (giveLane l c s).pending = s.pending ∧ (giveLane l c s).free = s.free := by
  simp [giveLane]

@[simp] theorem scanHead_blocks (c : Nat) (s : State) :
    (scanHead c s).2.conf = s.conf ∧ (scanHead c s).2.adm = s.adm ∧ (scanHead c s).2.store = s.store ∧
    (scanHead c s).2.dram = s.dram ∧ (scanHead c s).2.nand = s.nand ∧ (scanHead c s).2.ret = s.ret ∧
    (scanHead c s).2.arr = s.arr ∧ (scanHead c s).2.hive = s.hive ∧ (scanHead c s).2.sec = s.sec ∧
    (scanHead c s).2.jtag = s.jtag ∧ (scanHead c s).2.orf = s.orf ∧ (scanHead c s).2.pending = s.pending ∧
    (scanHead c s).2.free = s.free := by
  simp [scanHead]

@[simp] theorem laneProgress_blocks (s : State) :
    (laneProgress s).top = s.top ∧ (laneProgress s).conf = s.conf ∧ (laneProgress s).fr = s.fr ∧
    (laneProgress s).host = s.host ∧ (laneProgress s).ring = s.ring ∧ (laneProgress s).adm = s.adm ∧
    (laneProgress s).scout = s.scout ∧ (laneProgress s).store = s.store ∧ (laneProgress s).dram = s.dram ∧
    (laneProgress s).nand = s.nand ∧ (laneProgress s).ret = s.ret ∧ (laneProgress s).arr = s.arr ∧
    (laneProgress s).hive = s.hive ∧ (laneProgress s).tally = s.tally ∧ (laneProgress s).sec = s.sec ∧
    (laneProgress s).jtag = s.jtag ∧ (laneProgress s).orf = s.orf ∧ (laneProgress s).weave = s.weave ∧
    (laneProgress s).pending = s.pending ∧ (laneProgress s).free = s.free := by
  simp [laneProgress]

@[simp] theorem laneItem_blocks (l : Nat) (s : State) :
    (laneItem l s).conf = s.conf ∧ (laneItem l s).adm = s.adm ∧ (laneItem l s).store = s.store ∧
    (laneItem l s).dram = s.dram ∧ (laneItem l s).harv = s.harv ∧ (laneItem l s).nand = s.nand ∧
    (laneItem l s).ret = s.ret ∧ (laneItem l s).arr = s.arr ∧ (laneItem l s).hive = s.hive ∧ (laneItem l s).sec = s.sec ∧
    (laneItem l s).jtag = s.jtag ∧ (laneItem l s).orf = s.orf ∧ (laneItem l s).pending = s.pending ∧
    (laneItem l s).free = s.free := by
  simp [laneItem]

@[simp] theorem laneCharge_blocks (s : State) :
    (laneCharge s).conf = s.conf ∧ (laneCharge s).adm = s.adm ∧ (laneCharge s).store = s.store ∧
    (laneCharge s).dram = s.dram ∧ (laneCharge s).harv = s.harv ∧ (laneCharge s).nand = s.nand ∧
    (laneCharge s).ret = s.ret ∧ (laneCharge s).arr = s.arr ∧ (laneCharge s).hive = s.hive ∧
    (laneCharge s).sec = s.sec ∧ (laneCharge s).jtag = s.jtag ∧ (laneCharge s).orf = s.orf ∧
    (laneCharge s).pending = s.pending ∧ (laneCharge s).free = s.free := by
  simp [laneCharge]

@[simp] theorem cutoffStep_blocks (s : State) :
    (cutoffStep s).conf = s.conf ∧ (cutoffStep s).adm = s.adm ∧ (cutoffStep s).store = s.store ∧
    (cutoffStep s).dram = s.dram ∧ (cutoffStep s).nand = s.nand ∧ (cutoffStep s).ret = s.ret ∧
    (cutoffStep s).arr = s.arr ∧ (cutoffStep s).hive = s.hive ∧ (cutoffStep s).sec = s.sec ∧
    (cutoffStep s).jtag = s.jtag ∧ (cutoffStep s).orf = s.orf ∧ (cutoffStep s).pending = s.pending ∧
    (cutoffStep s).free = s.free := by
  simp [cutoffStep]

@[simp] theorem laneOrders_blocks (s : State) :
    (laneOrders s).conf = s.conf ∧ (laneOrders s).store = s.store ∧ (laneOrders s).dram = s.dram ∧
    (laneOrders s).ret = s.ret ∧ (laneOrders s).arr = s.arr ∧ (laneOrders s).hive = s.hive ∧
    (laneOrders s).sec = s.sec ∧ (laneOrders s).jtag = s.jtag ∧ (laneOrders s).orf = s.orf ∧
    (laneOrders s).pending = s.pending ∧ (laneOrders s).free = s.free := by
  simp [laneOrders]

@[simp] theorem isolateEntry_blocks (s : State) :
    (isolateEntry s).conf = s.conf ∧ (isolateEntry s).store = s.store ∧ (isolateEntry s).nand = s.nand ∧
    (isolateEntry s).ret = s.ret ∧ (isolateEntry s).arr = s.arr ∧ (isolateEntry s).hive = s.hive ∧
    (isolateEntry s).sec = s.sec ∧ (isolateEntry s).jtag = s.jtag ∧ (isolateEntry s).orf = s.orf ∧
    (isolateEntry s).pending = s.pending ∧ (isolateEntry s).free = s.free := by
  simp [isolateEntry]

@[simp] theorem openComb_blocks (e : CatEntry) (s : State) :
    (openComb e s).top = s.top ∧ (openComb e s).conf = s.conf ∧ (openComb e s).fr = s.fr ∧ (openComb e s).host = s.host ∧
    (openComb e s).ring = s.ring ∧ (openComb e s).adm = s.adm ∧ (openComb e s).scout = s.scout ∧
    (openComb e s).store = s.store ∧ (openComb e s).dram = s.dram ∧ (openComb e s).ret = s.ret ∧
    (openComb e s).hive = s.hive ∧ (openComb e s).tally = s.tally ∧ (openComb e s).sec = s.sec ∧
    (openComb e s).jtag = s.jtag ∧ (openComb e s).orf = s.orf ∧ (openComb e s).weave = s.weave ∧
    (openComb e s).pending = s.pending ∧ (openComb e s).free = s.free := by
  simp [openComb]

@[simp] theorem drainEntry_blocks (s : State) :
    (drainEntry s).top = s.top ∧ (drainEntry s).conf = s.conf ∧ (drainEntry s).fr = s.fr ∧
    (drainEntry s).host = s.host ∧ (drainEntry s).ring = s.ring ∧ (drainEntry s).adm = s.adm ∧
    (drainEntry s).scout = s.scout ∧ (drainEntry s).store = s.store ∧ (drainEntry s).ret = s.ret ∧
    (drainEntry s).hive = s.hive ∧ (drainEntry s).tally = s.tally ∧ (drainEntry s).sec = s.sec ∧
    (drainEntry s).jtag = s.jtag ∧ (drainEntry s).orf = s.orf ∧ (drainEntry s).weave = s.weave ∧
    (drainEntry s).pending = s.pending ∧ (drainEntry s).free = s.free := by
  unfold drainEntry; (repeat' split) <;> simp

@[simp] theorem sealSuspend_blocks (s : State) :
    (sealSuspend s).top = s.top ∧ (sealSuspend s).conf = s.conf ∧ (sealSuspend s).fr = s.fr ∧
    (sealSuspend s).host = s.host ∧ (sealSuspend s).ring = s.ring ∧ (sealSuspend s).adm = s.adm ∧
    (sealSuspend s).scout = s.scout ∧ (sealSuspend s).store = s.store ∧ (sealSuspend s).dram = s.dram ∧
    (sealSuspend s).harv = s.harv ∧ (sealSuspend s).nand = s.nand ∧ (sealSuspend s).ret = s.ret ∧
    (sealSuspend s).hive = s.hive ∧ (sealSuspend s).tally = s.tally ∧ (sealSuspend s).sec = s.sec ∧
    (sealSuspend s).jtag = s.jtag ∧ (sealSuspend s).orf = s.orf ∧ (sealSuspend s).weave = s.weave ∧
    (sealSuspend s).pending = s.pending ∧ (sealSuspend s).free = s.free := by
  unfold sealSuspend; split <;> simp

@[simp] theorem harvestRecord_blocks (s : State) :
    (harvestRecord s).conf = s.conf ∧ (harvestRecord s).adm = s.adm ∧ (harvestRecord s).store = s.store ∧
    (harvestRecord s).dram = s.dram ∧ (harvestRecord s).harv = s.harv ∧ (harvestRecord s).nand = s.nand ∧
    (harvestRecord s).ret = s.ret ∧ (harvestRecord s).arr = s.arr ∧ (harvestRecord s).hive = s.hive ∧
    (harvestRecord s).sec = s.sec ∧ (harvestRecord s).jtag = s.jtag ∧ (harvestRecord s).orf = s.orf ∧
    (harvestRecord s).pending = s.pending ∧ (harvestRecord s).free = s.free := by
  simp [harvestRecord]

@[simp] theorem sealWord_blocks (s : State) :
    (sealWord s).conf = s.conf ∧ (sealWord s).adm = s.adm ∧ (sealWord s).store = s.store ∧
    (sealWord s).dram = s.dram ∧ (sealWord s).nand = s.nand ∧ (sealWord s).ret = s.ret ∧
    (sealWord s).hive = s.hive ∧ (sealWord s).sec = s.sec ∧ (sealWord s).jtag = s.jtag ∧
    (sealWord s).orf = s.orf ∧ (sealWord s).pending = s.pending ∧ (sealWord s).free = s.free := by
  unfold sealWord; split <;> simp

@[simp] theorem takeTrickle_blocks (s : State) :
    (takeTrickle s).conf = s.conf ∧ (takeTrickle s).store = s.store ∧ (takeTrickle s).nand = s.nand ∧
    (takeTrickle s).ret = s.ret ∧ (takeTrickle s).arr = s.arr ∧ (takeTrickle s).hive = s.hive ∧
    (takeTrickle s).sec = s.sec ∧ (takeTrickle s).jtag = s.jtag ∧ (takeTrickle s).orf = s.orf ∧
    (takeTrickle s).pending = s.pending ∧ (takeTrickle s).free = s.free := by
  simp [takeTrickle]

@[simp] theorem scanOver_blocks (s : State) :
    (scanOver s).1.top = s.top ∧ (scanOver s).1.conf = s.conf ∧ (scanOver s).1.host = s.host ∧
    (scanOver s).1.ring = s.ring ∧ (scanOver s).1.adm = s.adm ∧ (scanOver s).1.scout = s.scout ∧
    (scanOver s).1.store = s.store ∧ (scanOver s).1.dram = s.dram ∧ (scanOver s).1.harv = s.harv ∧
    (scanOver s).1.nand = s.nand ∧ (scanOver s).1.ret = s.ret ∧ (scanOver s).1.arr = s.arr ∧ (scanOver s).1.hive = s.hive ∧
    (scanOver s).1.tally = s.tally ∧ (scanOver s).1.sec = s.sec ∧ (scanOver s).1.jtag = s.jtag ∧
    (scanOver s).1.orf = s.orf ∧ (scanOver s).1.weave = s.weave ∧ (scanOver s).1.pending = s.pending ∧
    (scanOver s).1.free = s.free := by
  unfold scanOver
  (repeat' split) <;> first
    | (simp; done)
    | (have hk := takeDone_blocks _ _ _ ‹_›; simp [hk]; done)

@[simp] theorem sealStatus_blocks (t : Nat) (page : Nat) (pass : Bool) (s : State) :
    (sealStatus t page pass s).conf = s.conf ∧ (sealStatus t page pass s).adm = s.adm ∧
    (sealStatus t page pass s).store = s.store ∧ (sealStatus t page pass s).dram = s.dram ∧
    (sealStatus t page pass s).ret = s.ret ∧ (sealStatus t page pass s).hive = s.hive ∧
    (sealStatus t page pass s).sec = s.sec ∧ (sealStatus t page pass s).jtag = s.jtag ∧
    (sealStatus t page pass s).orf = s.orf ∧ (sealStatus t page pass s).pending = s.pending ∧
    (sealStatus t page pass s).free = s.free := by
  unfold sealStatus; split <;> simp

@[simp] theorem sealFails_blocks (s : State) :
    (sealFails s).conf = s.conf ∧ (sealFails s).adm = s.adm ∧ (sealFails s).store = s.store ∧
    (sealFails s).dram = s.dram ∧ (sealFails s).nand = s.nand ∧ (sealFails s).ret = s.ret ∧
    (sealFails s).arr = s.arr ∧ (sealFails s).hive = s.hive ∧ (sealFails s).sec = s.sec ∧
    (sealFails s).jtag = s.jtag ∧ (sealFails s).orf = s.orf ∧ (sealFails s).pending = s.pending ∧
    (sealFails s).free = s.free := by
  simp [sealFails]

@[simp] theorem sealDone_blocks (s : State) :
    (sealDone s).conf = s.conf ∧ (sealDone s).adm = s.adm ∧ (sealDone s).store = s.store ∧
    (sealDone s).dram = s.dram ∧ (sealDone s).nand = s.nand ∧ (sealDone s).ret = s.ret ∧
    (sealDone s).arr = s.arr ∧ (sealDone s).hive = s.hive ∧ (sealDone s).sec = s.sec ∧
    (sealDone s).jtag = s.jtag ∧ (sealDone s).orf = s.orf ∧ (sealDone s).pending = s.pending ∧
    (sealDone s).free = s.free := by
  simp [sealDone]

@[simp] theorem trickleFill_blocks : ∀ (n : Nat) (s : State),
    (trickleFill n s).conf = s.conf ∧ (trickleFill n s).adm = s.adm ∧ (trickleFill n s).store = s.store ∧
    (trickleFill n s).nand = s.nand ∧ (trickleFill n s).ret = s.ret ∧ (trickleFill n s).arr = s.arr ∧
    (trickleFill n s).hive = s.hive ∧ (trickleFill n s).sec = s.sec ∧ (trickleFill n s).jtag = s.jtag ∧
    (trickleFill n s).orf = s.orf ∧ (trickleFill n s).pending = s.pending ∧ (trickleFill n s).free = s.free
  | 0, _ => by simp [trickleFill]
  | n + 1, s => by
    unfold trickleFill
    split <;> simp [trickleFill_blocks n]

@[simp] theorem trickleOpen_blocks (s : State) :
    (trickleOpen s).conf = s.conf ∧ (trickleOpen s).adm = s.adm ∧ (trickleOpen s).store = s.store ∧
    (trickleOpen s).nand = s.nand ∧ (trickleOpen s).ret = s.ret ∧ (trickleOpen s).arr = s.arr ∧
    (trickleOpen s).hive = s.hive ∧ (trickleOpen s).sec = s.sec ∧ (trickleOpen s).jtag = s.jtag ∧
    (trickleOpen s).orf = s.orf ∧ (trickleOpen s).pending = s.pending ∧ (trickleOpen s).free = s.free := by
  simp [trickleOpen]

@[simp] theorem trickleEnd_blocks (l : Nat) (s : State) :
    (trickleEnd l s).conf = s.conf ∧ (trickleEnd l s).store = s.store ∧ (trickleEnd l s).ret = s.ret ∧
    (trickleEnd l s).arr = s.arr ∧ (trickleEnd l s).hive = s.hive ∧ (trickleEnd l s).sec = s.sec ∧
    (trickleEnd l s).jtag = s.jtag ∧ (trickleEnd l s).orf = s.orf ∧ (trickleEnd l s).pending = s.pending ∧
    (trickleEnd l s).free = s.free := by
  simp only [trickleEnd]; split <;> simp

@[simp] theorem lanesClose_blocks (s : State) :
    (lanesClose s).conf = s.conf ∧ (lanesClose s).store = s.store ∧ (lanesClose s).ret = s.ret ∧
    (lanesClose s).arr = s.arr ∧ (lanesClose s).hive = s.hive ∧ (lanesClose s).sec = s.sec ∧ (lanesClose s).jtag = s.jtag ∧
    (lanesClose s).orf = s.orf ∧ (lanesClose s).pending = s.pending ∧ (lanesClose s).free = s.free := by
  simp [lanesClose]

@[simp] theorem cryptBoundary_blocks (s : State) :
    (cryptBoundary s).top = s.top ∧ (cryptBoundary s).conf = s.conf ∧ (cryptBoundary s).fr = s.fr ∧
    (cryptBoundary s).host = s.host ∧ (cryptBoundary s).ring = s.ring ∧ (cryptBoundary s).adm = s.adm ∧
    (cryptBoundary s).scout = s.scout ∧ (cryptBoundary s).store = s.store ∧ (cryptBoundary s).dram = s.dram ∧
    (cryptBoundary s).nand = s.nand ∧ (cryptBoundary s).ret = s.ret ∧ (cryptBoundary s).arr = s.arr ∧
    (cryptBoundary s).hive = s.hive ∧ (cryptBoundary s).tally = s.tally ∧ (cryptBoundary s).sec = s.sec ∧
    (cryptBoundary s).jtag = s.jtag ∧ (cryptBoundary s).orf = s.orf ∧ (cryptBoundary s).weave = s.weave ∧
    (cryptBoundary s).pending = s.pending ∧ (cryptBoundary s).free = s.free := by
  simp [cryptBoundary]

end Sys2Proof.Machine
end

