-- ==== Sys2Proof/Laws/BlocksReturn.lean ====
section
/-! SUPPORT. Which blocks of State each operation of Machine/Return.lean leaves alone. -/

namespace Sys2Proof.Machine

@[simp] theorem retPhase_blocks (n : Nat) (s : State) :
    (retPhase n s).conf = s.conf ∧ (retPhase n s).adm = s.adm ∧ (retPhase n s).store = s.store ∧
    (retPhase n s).dram = s.dram ∧ (retPhase n s).harv = s.harv ∧ (retPhase n s).nand = s.nand ∧
    (retPhase n s).arr = s.arr ∧ (retPhase n s).hive = s.hive ∧ (retPhase n s).sec = s.sec ∧
    (retPhase n s).jtag = s.jtag ∧ (retPhase n s).orf = s.orf ∧ (retPhase n s).pending = s.pending ∧
    (retPhase n s).free = s.free := by
  simp [retPhase]

@[simp] theorem modCell_blocks (c : Nat) (f : RCell → RCell) (s : State) :
    (modCell c f s).top = s.top ∧ (modCell c f s).conf = s.conf ∧ (modCell c f s).fr = s.fr ∧
    (modCell c f s).host = s.host ∧ (modCell c f s).ring = s.ring ∧ (modCell c f s).adm = s.adm ∧
    (modCell c f s).scout = s.scout ∧ (modCell c f s).store = s.store ∧ (modCell c f s).dram = s.dram ∧
    (modCell c f s).harv = s.harv ∧ (modCell c f s).nand = s.nand ∧ (modCell c f s).arr = s.arr ∧
    (modCell c f s).hive = s.hive ∧ (modCell c f s).tally = s.tally ∧ (modCell c f s).sec = s.sec ∧
    (modCell c f s).jtag = s.jtag ∧ (modCell c f s).orf = s.orf ∧ (modCell c f s).weave = s.weave ∧
    (modCell c f s).pending = s.pending ∧ (modCell c f s).free = s.free := by
  simp [modCell]

@[simp] theorem postRestored_blocks (flags : Nat) (n : Tenant → Nat) (s : State) :
    (postRestored flags n s).conf = s.conf ∧ (postRestored flags n s).adm = s.adm ∧ (postRestored flags n s).store = s.store ∧
    (postRestored flags n s).dram = s.dram ∧ (postRestored flags n s).harv = s.harv ∧ (postRestored flags n s).nand = s.nand ∧
    (postRestored flags n s).ret = s.ret ∧ (postRestored flags n s).arr = s.arr ∧ (postRestored flags n s).hive = s.hive ∧
    (postRestored flags n s).sec = s.sec ∧ (postRestored flags n s).jtag = s.jtag ∧ (postRestored flags n s).orf = s.orf ∧
    (postRestored flags n s).pending = s.pending ∧ (postRestored flags n s).free = s.free := by
  simp [postRestored]

@[simp] theorem criticalCheck_blocks (s : State) :
    (criticalCheck s).conf = s.conf ∧ (criticalCheck s).adm = s.adm ∧ (criticalCheck s).store = s.store ∧
    (criticalCheck s).dram = s.dram ∧ (criticalCheck s).harv = s.harv ∧ (criticalCheck s).nand = s.nand ∧
    (criticalCheck s).arr = s.arr ∧ (criticalCheck s).hive = s.hive ∧ (criticalCheck s).sec = s.sec ∧
    (criticalCheck s).jtag = s.jtag ∧ (criticalCheck s).orf = s.orf ∧ (criticalCheck s).pending = s.pending ∧
    (criticalCheck s).free = s.free := by
  simp [criticalCheck]

@[simp] theorem resolved_blocks (c : Nat) (s : State) :
    (resolved c s).conf = s.conf ∧ (resolved c s).adm = s.adm ∧ (resolved c s).store = s.store ∧
    (resolved c s).dram = s.dram ∧ (resolved c s).harv = s.harv ∧ (resolved c s).nand = s.nand ∧
    (resolved c s).arr = s.arr ∧ (resolved c s).hive = s.hive ∧ (resolved c s).sec = s.sec ∧ (resolved c s).jtag = s.jtag ∧
    (resolved c s).orf = s.orf ∧ (resolved c s).pending = s.pending := by
  simp [resolved]

@[simp] theorem cellRestored_blocks (l : Nat) (s : State) :
    (cellRestored l s).conf = s.conf ∧ (cellRestored l s).store = s.store ∧ (cellRestored l s).dram = s.dram ∧
    (cellRestored l s).harv = s.harv ∧ (cellRestored l s).nand = s.nand ∧ (cellRestored l s).arr = s.arr ∧
    (cellRestored l s).hive = s.hive ∧ (cellRestored l s).sec = s.sec ∧ (cellRestored l s).jtag = s.jtag ∧
    (cellRestored l s).orf = s.orf ∧ (cellRestored l s).pending = s.pending := by
  simp only [cellRestored]; (repeat' split) <;> simp

@[simp] theorem criticalBegin_blocks (s : State) :
    (criticalBegin s).conf = s.conf ∧ (criticalBegin s).adm = s.adm ∧ (criticalBegin s).store = s.store ∧
    (criticalBegin s).dram = s.dram ∧ (criticalBegin s).harv = s.harv ∧ (criticalBegin s).nand = s.nand ∧
    (criticalBegin s).arr = s.arr ∧ (criticalBegin s).hive = s.hive ∧ (criticalBegin s).sec = s.sec ∧
    (criticalBegin s).jtag = s.jtag ∧ (criticalBegin s).orf = s.orf ∧ (criticalBegin s).pending = s.pending ∧
    (criticalBegin s).free = s.free := by
  simp [criticalBegin]

@[simp] theorem bulkClose_blocks (s : State) :
    (bulkClose s).conf = s.conf ∧ (bulkClose s).adm = s.adm ∧ (bulkClose s).store = s.store ∧
    (bulkClose s).dram = s.dram ∧ (bulkClose s).harv = s.harv ∧ (bulkClose s).nand = s.nand ∧
    (bulkClose s).ret = s.ret ∧ (bulkClose s).arr = s.arr ∧ (bulkClose s).hive = s.hive ∧
    (bulkClose s).sec = s.sec ∧ (bulkClose s).jtag = s.jtag ∧ (bulkClose s).orf = s.orf ∧
    (bulkClose s).pending = s.pending ∧ (bulkClose s).free = s.free := by
  simp [bulkClose]

@[simp] theorem postCoarse_blocks (l : Lost) (s : State) :
    (postCoarse l s).conf = s.conf ∧ (postCoarse l s).adm = s.adm ∧ (postCoarse l s).store = s.store ∧
    (postCoarse l s).dram = s.dram ∧ (postCoarse l s).harv = s.harv ∧ (postCoarse l s).nand = s.nand ∧
    (postCoarse l s).ret = s.ret ∧ (postCoarse l s).arr = s.arr ∧ (postCoarse l s).hive = s.hive ∧
    (postCoarse l s).sec = s.sec ∧ (postCoarse l s).jtag = s.jtag ∧ (postCoarse l s).orf = s.orf ∧
    (postCoarse l s).pending = s.pending ∧ (postCoarse l s).free = s.free := by
  simp [postCoarse]

@[simp] theorem coarseClean_blocks (ps : Nat → Bool) (l : Lost) (s : State) :
    (coarseClean ps l s).top = s.top ∧ (coarseClean ps l s).conf = s.conf ∧ (coarseClean ps l s).fr = s.fr ∧
    (coarseClean ps l s).host = s.host ∧ (coarseClean ps l s).scout = s.scout ∧ (coarseClean ps l s).store = s.store ∧
    (coarseClean ps l s).dram = s.dram ∧ (coarseClean ps l s).harv = s.harv ∧ (coarseClean ps l s).nand = s.nand ∧
    (coarseClean ps l s).ret = s.ret ∧ (coarseClean ps l s).arr = s.arr ∧ (coarseClean ps l s).hive = s.hive ∧
    (coarseClean ps l s).tally = s.tally ∧ (coarseClean ps l s).sec = s.sec ∧ (coarseClean ps l s).jtag = s.jtag ∧
    (coarseClean ps l s).orf = s.orf ∧ (coarseClean ps l s).weave = s.weave ∧ (coarseClean ps l s).pending = s.pending ∧
    (coarseClean ps l s).free = s.free := by
  simp [coarseClean]

@[simp] theorem coarseLost_blocks (ps : Nat → Bool) (s : State) :
    (coarseLost ps s).conf = s.conf ∧ (coarseLost ps s).store = s.store ∧ (coarseLost ps s).dram = s.dram ∧
    (coarseLost ps s).harv = s.harv ∧ (coarseLost ps s).nand = s.nand ∧ (coarseLost ps s).ret = s.ret ∧
    (coarseLost ps s).arr = s.arr ∧ (coarseLost ps s).hive = s.hive ∧ (coarseLost ps s).sec = s.sec ∧
    (coarseLost ps s).jtag = s.jtag ∧ (coarseLost ps s).orf = s.orf ∧ (coarseLost ps s).pending = s.pending ∧
    (coarseLost ps s).free = s.free := by
  simp [coarseLost]

@[simp] theorem sealBad_blocks (s : State) :
    (sealBad s).top = s.top ∧ (sealBad s).conf = s.conf ∧ (sealBad s).fr = s.fr ∧ (sealBad s).host = s.host ∧
    (sealBad s).ring = s.ring ∧ (sealBad s).adm = s.adm ∧ (sealBad s).scout = s.scout ∧ (sealBad s).store = s.store ∧
    (sealBad s).dram = s.dram ∧ (sealBad s).harv = s.harv ∧ (sealBad s).ret = s.ret ∧ (sealBad s).hive = s.hive ∧
    (sealBad s).tally = s.tally ∧ (sealBad s).sec = s.sec ∧ (sealBad s).jtag = s.jtag ∧ (sealBad s).orf = s.orf ∧
    (sealBad s).weave = s.weave ∧ (sealBad s).pending = s.pending ∧ (sealBad s).free = s.free := by
  simp [sealBad]

@[simp] theorem demandTake_blocks (s : State) :
    (demandTake s).conf = s.conf ∧ (demandTake s).adm = s.adm ∧ (demandTake s).store = s.store ∧
    (demandTake s).dram = s.dram ∧ (demandTake s).harv = s.harv ∧ (demandTake s).nand = s.nand ∧
    (demandTake s).arr = s.arr ∧ (demandTake s).hive = s.hive ∧ (demandTake s).sec = s.sec ∧
    (demandTake s).jtag = s.jtag ∧ (demandTake s).orf = s.orf ∧ (demandTake s).pending = s.pending ∧
    (demandTake s).free = s.free := by
  simp (disch := (intros; (repeat' split) <;> try simp)) [demandTake]

@[simp] theorem sweepCharge_blocks (s : State) :
    (sweepCharge s).conf = s.conf ∧ (sweepCharge s).adm = s.adm ∧ (sweepCharge s).store = s.store ∧
    (sweepCharge s).dram = s.dram ∧ (sweepCharge s).harv = s.harv ∧ (sweepCharge s).nand = s.nand ∧
    (sweepCharge s).arr = s.arr ∧ (sweepCharge s).hive = s.hive ∧ (sweepCharge s).sec = s.sec ∧
    (sweepCharge s).jtag = s.jtag ∧ (sweepCharge s).orf = s.orf ∧ (sweepCharge s).pending = s.pending ∧
    (sweepCharge s).free = s.free := by
  simp (disch := (intros; (repeat' split) <;> try simp)) [sweepCharge]

@[simp] theorem unserve_blocks (s : State) :
    (unserve s).conf = s.conf ∧ (unserve s).adm = s.adm ∧ (unserve s).store = s.store ∧
    (unserve s).dram = s.dram ∧ (unserve s).harv = s.harv ∧ (unserve s).nand = s.nand ∧
    (unserve s).arr = s.arr ∧ (unserve s).hive = s.hive ∧ (unserve s).sec = s.sec ∧
    (unserve s).jtag = s.jtag ∧ (unserve s).orf = s.orf ∧ (unserve s).pending = s.pending ∧
    (unserve s).free = s.free := by
  unfold unserve
  generalize s.ret.demands = ds
  induction ds with
  | nil => simp
  | cons d ds ih => simpa using ih

@[simp] theorem returnStops_blocks (stop : Bool) (s : State) :
    (returnStops stop s).conf = s.conf ∧ (returnStops stop s).adm = s.adm ∧ (returnStops stop s).store = s.store ∧
    (returnStops stop s).dram = s.dram ∧ (returnStops stop s).harv = s.harv ∧ (returnStops stop s).nand = s.nand ∧
    (returnStops stop s).arr = s.arr ∧ (returnStops stop s).hive = s.hive ∧ (returnStops stop s).sec = s.sec ∧
    (returnStops stop s).jtag = s.jtag ∧ (returnStops stop s).orf = s.orf ∧ (returnStops stop s).pending = s.pending ∧
    (returnStops stop s).free = s.free := by
  simp [returnStops]

@[simp] theorem endDone_blocks (id : Nat) (s : State) :
    (endDone id s).top = s.top ∧ (endDone id s).conf = s.conf ∧ (endDone id s).fr = s.fr ∧
    (endDone id s).host = s.host ∧ (endDone id s).ring = s.ring ∧ (endDone id s).adm = s.adm ∧
    (endDone id s).scout = s.scout ∧ (endDone id s).store = s.store ∧ (endDone id s).dram = s.dram ∧
    (endDone id s).harv = s.harv ∧ (endDone id s).nand = s.nand ∧ (endDone id s).arr = s.arr ∧
    (endDone id s).hive = s.hive ∧ (endDone id s).tally = s.tally ∧ (endDone id s).sec = s.sec ∧
    (endDone id s).jtag = s.jtag ∧ (endDone id s).orf = s.orf ∧ (endDone id s).weave = s.weave ∧
    (endDone id s).pending = s.pending ∧ (endDone id s).free = s.free := by
  simp [endDone]

end Sys2Proof.Machine
end

