-- ==== Sys2Proof/Laws/BlocksRegs.lean ====
section
/-! SUPPORT. Which blocks of State each operation of Machine/Regs.lean leaves alone. -/

namespace Sys2Proof.Machine



end Sys2Proof.Machine
end

