-- ==== Sys2Proof/Laws/BlocksFields.lean ====
section
/-! SUPPORT. Which blocks of State each operation of Machine/Fields.lean leaves alone. -/

namespace Sys2Proof.Machine

@[simp] theorem putField_blocks (image : Bool) (idx : Nat) (s : State) (p : Piece) :
    (putField image idx s p).top = s.top ∧ (putField image idx s p).fr = s.fr ∧ (putField image idx s p).host = s.host ∧
    (putField image idx s p).ring = s.ring ∧ (putField image idx s p).adm = s.adm ∧ (putField image idx s p).scout = s.scout ∧
    (putField image idx s p).store = s.store ∧ (putField image idx s p).dram = s.dram ∧ (putField image idx s p).harv = s.harv ∧
    (putField image idx s p).nand = s.nand ∧ (putField image idx s p).ret = s.ret ∧ (putField image idx s p).arr = s.arr ∧
    (putField image idx s p).hive = s.hive ∧ (putField image idx s p).tally = s.tally ∧ (putField image idx s p).sec = s.sec ∧
    (putField image idx s p).jtag = s.jtag ∧ (putField image idx s p).orf = s.orf ∧ (putField image idx s p).weave = s.weave ∧
    (putField image idx s p).pending = s.pending ∧ (putField image idx s p).free = s.free := by
  simp [putField]

@[simp] theorem putPieces_blocks (image : Bool) (idx : Nat) (ps : List Piece) (s : State) :
    (putPieces image idx ps s).1.top = s.top ∧ (putPieces image idx ps s).1.fr = s.fr ∧ (putPieces image idx ps s).1.host = s.host ∧
    (putPieces image idx ps s).1.ring = s.ring ∧ (putPieces image idx ps s).1.adm = s.adm ∧ (putPieces image idx ps s).1.scout = s.scout ∧
    (putPieces image idx ps s).1.store = s.store ∧ (putPieces image idx ps s).1.dram = s.dram ∧ (putPieces image idx ps s).1.harv = s.harv ∧
    (putPieces image idx ps s).1.nand = s.nand ∧ (putPieces image idx ps s).1.ret = s.ret ∧ (putPieces image idx ps s).1.arr = s.arr ∧
    (putPieces image idx ps s).1.hive = s.hive ∧ (putPieces image idx ps s).1.tally = s.tally ∧ (putPieces image idx ps s).1.sec = s.sec ∧
    (putPieces image idx ps s).1.jtag = s.jtag ∧ (putPieces image idx ps s).1.orf = s.orf ∧ (putPieces image idx ps s).1.weave = s.weave ∧
    (putPieces image idx ps s).1.pending = s.pending ∧ (putPieces image idx ps s).1.free = s.free := by
  simp [putPieces]

@[simp] theorem writeReg_blocks (off : Nat) (data : Word) (mask : Word) (s : State) :
    (writeReg off data mask s).adm = s.adm ∧ (writeReg off data mask s).store = s.store ∧ (writeReg off data mask s).dram = s.dram ∧
    (writeReg off data mask s).harv = s.harv ∧ (writeReg off data mask s).nand = s.nand ∧ (writeReg off data mask s).ret = s.ret ∧
    (writeReg off data mask s).arr = s.arr ∧ (writeReg off data mask s).hive = s.hive ∧ (writeReg off data mask s).sec = s.sec ∧
    (writeReg off data mask s).jtag = s.jtag ∧ (writeReg off data mask s).orf = s.orf ∧ (writeReg off data mask s).pending = s.pending ∧
    (writeReg off data mask s).free = s.free := by
  simp [writeReg]

@[simp] theorem storeMark_blocks (k : Nat) (s : State) :
    (storeMark k s).adm = s.adm ∧ (storeMark k s).store = s.store ∧ (storeMark k s).dram = s.dram ∧
    (storeMark k s).harv = s.harv ∧ (storeMark k s).nand = s.nand ∧ (storeMark k s).ret = s.ret ∧
    (storeMark k s).arr = s.arr ∧ (storeMark k s).hive = s.hive ∧ (storeMark k s).sec = s.sec ∧
    (storeMark k s).jtag = s.jtag ∧ (storeMark k s).orf = s.orf ∧ (storeMark k s).pending = s.pending ∧
    (storeMark k s).free = s.free := by
  simp [storeMark]

@[simp] theorem storeWrite_blocks (tid : Nat) (idx : Nat) (w : Nat) (be : ByteEn) (s : State) :
    (storeWrite tid idx w be s).2.adm = s.adm ∧ (storeWrite tid idx w be s).2.store = s.store ∧ (storeWrite tid idx w be s).2.dram = s.dram ∧
    (storeWrite tid idx w be s).2.harv = s.harv ∧ (storeWrite tid idx w be s).2.nand = s.nand ∧ (storeWrite tid idx w be s).2.ret = s.ret ∧
    (storeWrite tid idx w be s).2.arr = s.arr ∧ (storeWrite tid idx w be s).2.hive = s.hive ∧ (storeWrite tid idx w be s).2.sec = s.sec ∧
    (storeWrite tid idx w be s).2.jtag = s.jtag ∧ (storeWrite tid idx w be s).2.orf = s.orf ∧ (storeWrite tid idx w be s).2.pending = s.pending ∧
    (storeWrite tid idx w be s).2.free = s.free := by
  simp [storeWrite]

@[simp] theorem stageWord_blocks (idx : Nat) (data : Word) (mask : Word) (s : State) :
    (stageWord idx data mask s).top = s.top ∧ (stageWord idx data mask s).fr = s.fr ∧ (stageWord idx data mask s).host = s.host ∧
    (stageWord idx data mask s).ring = s.ring ∧ (stageWord idx data mask s).adm = s.adm ∧ (stageWord idx data mask s).scout = s.scout ∧
    (stageWord idx data mask s).store = s.store ∧ (stageWord idx data mask s).dram = s.dram ∧ (stageWord idx data mask s).harv = s.harv ∧
    (stageWord idx data mask s).nand = s.nand ∧ (stageWord idx data mask s).ret = s.ret ∧ (stageWord idx data mask s).arr = s.arr ∧
    (stageWord idx data mask s).hive = s.hive ∧ (stageWord idx data mask s).tally = s.tally ∧ (stageWord idx data mask s).sec = s.sec ∧
    (stageWord idx data mask s).jtag = s.jtag ∧ (stageWord idx data mask s).orf = s.orf ∧ (stageWord idx data mask s).weave = s.weave ∧
    (stageWord idx data mask s).pending = s.pending ∧ (stageWord idx data mask s).free = s.free := by
  simp [stageWord]

end Sys2Proof.Machine
end

