-- ==== Sys2Proof/Laws/BlocksTables.lean ====
section
/-! SUPPORT. Which blocks of State each operation of Machine/Tables.lean leaves alone. -/

namespace Sys2Proof.Machine

@[simp] theorem logRead_blocks (p : Nat × Record) (y : Bool) (s : State) :
    (logRead p y s).2.conf = s.conf ∧ (logRead p y s).2.adm = s.adm ∧ (logRead p y s).2.store = s.store ∧
    (logRead p y s).2.dram = s.dram ∧ (logRead p y s).2.harv = s.harv ∧ (logRead p y s).2.nand = s.nand ∧
    (logRead p y s).2.ret = s.ret ∧ (logRead p y s).2.arr = s.arr ∧ (logRead p y s).2.hive = s.hive ∧
    (logRead p y s).2.sec = s.sec ∧ (logRead p y s).2.jtag = s.jtag ∧ (logRead p y s).2.orf = s.orf ∧
    (logRead p y s).2.pending = s.pending ∧ (logRead p y s).2.free = s.free := by
  unfold logRead
  extract_lets
  (repeat' split) <;> first
    | (simp; done)
    | (have hq := congrArg Prod.snd ‹_ = (_, _)›; dsimp only at hq; subst hq; simp; done)
    | (have hq := congrArg Prod.fst ‹_ = (_, _)›; dsimp only at hq; subst hq; simp; done)

@[simp] theorem modLost_blocks (i : Nat) (f : Lost → Lost) (s : State) :
    (modLost i f s).top = s.top ∧ (modLost i f s).conf = s.conf ∧ (modLost i f s).fr = s.fr ∧
    (modLost i f s).host = s.host ∧ (modLost i f s).ring = s.ring ∧ (modLost i f s).adm = s.adm ∧
    (modLost i f s).scout = s.scout ∧ (modLost i f s).store = s.store ∧ (modLost i f s).dram = s.dram ∧
    (modLost i f s).harv = s.harv ∧ (modLost i f s).nand = s.nand ∧ (modLost i f s).arr = s.arr ∧
    (modLost i f s).hive = s.hive ∧ (modLost i f s).tally = s.tally ∧ (modLost i f s).sec = s.sec ∧
    (modLost i f s).jtag = s.jtag ∧ (modLost i f s).orf = s.orf ∧ (modLost i f s).weave = s.weave ∧
    (modLost i f s).pending = s.pending ∧ (modLost i f s).free = s.free := by
  simp [modLost]

@[simp] theorem storeRead_blocks (tid : Nat) (idx : Nat) (w : Nat) (s : State) :
    (storeRead tid idx w s).2.adm = s.adm ∧ (storeRead tid idx w s).2.store = s.store ∧ (storeRead tid idx w s).2.dram = s.dram ∧
    (storeRead tid idx w s).2.harv = s.harv ∧ (storeRead tid idx w s).2.nand = s.nand ∧ (storeRead tid idx w s).2.arr = s.arr ∧
    (storeRead tid idx w s).2.hive = s.hive ∧ (storeRead tid idx w s).2.sec = s.sec ∧ (storeRead tid idx w s).2.jtag = s.jtag ∧
    (storeRead tid idx w s).2.orf = s.orf ∧ (storeRead tid idx w s).2.pending = s.pending ∧ (storeRead tid idx w s).2.free = s.free := by
  unfold storeRead; (repeat' split) <;> simp

@[simp] theorem tblFail_blocks (code : Nat) (s : State) :
    (tblFail code s).top = s.top ∧ (tblFail code s).conf = s.conf ∧ (tblFail code s).fr = s.fr ∧
    (tblFail code s).ring = s.ring ∧ (tblFail code s).adm = s.adm ∧ (tblFail code s).scout = s.scout ∧
    (tblFail code s).store = s.store ∧ (tblFail code s).dram = s.dram ∧ (tblFail code s).harv = s.harv ∧
    (tblFail code s).nand = s.nand ∧ (tblFail code s).ret = s.ret ∧ (tblFail code s).arr = s.arr ∧
    (tblFail code s).hive = s.hive ∧ (tblFail code s).tally = s.tally ∧ (tblFail code s).sec = s.sec ∧
    (tblFail code s).jtag = s.jtag ∧ (tblFail code s).orf = s.orf ∧ (tblFail code s).weave = s.weave ∧
    (tblFail code s).pending = s.pending ∧ (tblFail code s).free = s.free := by
  simp [tblFail]

@[simp] theorem applyTblAddr_blocks (data : Word) (s : State) :
    (applyTblAddr data s).top = s.top ∧ (applyTblAddr data s).conf = s.conf ∧ (applyTblAddr data s).fr = s.fr ∧
    (applyTblAddr data s).ring = s.ring ∧ (applyTblAddr data s).adm = s.adm ∧ (applyTblAddr data s).scout = s.scout ∧
    (applyTblAddr data s).store = s.store ∧ (applyTblAddr data s).dram = s.dram ∧ (applyTblAddr data s).harv = s.harv ∧
    (applyTblAddr data s).nand = s.nand ∧ (applyTblAddr data s).ret = s.ret ∧ (applyTblAddr data s).arr = s.arr ∧
    (applyTblAddr data s).hive = s.hive ∧ (applyTblAddr data s).tally = s.tally ∧ (applyTblAddr data s).sec = s.sec ∧
    (applyTblAddr data s).jtag = s.jtag ∧ (applyTblAddr data s).orf = s.orf ∧ (applyTblAddr data s).weave = s.weave ∧
    (applyTblAddr data s).pending = s.pending ∧ (applyTblAddr data s).free = s.free := by
  simp [applyTblAddr]

@[simp] theorem tblAdvance_blocks (s : State) :
    (tblAdvance s).top = s.top ∧ (tblAdvance s).conf = s.conf ∧ (tblAdvance s).fr = s.fr ∧
    (tblAdvance s).ring = s.ring ∧ (tblAdvance s).adm = s.adm ∧ (tblAdvance s).scout = s.scout ∧
    (tblAdvance s).store = s.store ∧ (tblAdvance s).dram = s.dram ∧ (tblAdvance s).harv = s.harv ∧
    (tblAdvance s).nand = s.nand ∧ (tblAdvance s).ret = s.ret ∧ (tblAdvance s).arr = s.arr ∧
    (tblAdvance s).hive = s.hive ∧ (tblAdvance s).tally = s.tally ∧ (tblAdvance s).sec = s.sec ∧
    (tblAdvance s).jtag = s.jtag ∧ (tblAdvance s).orf = s.orf ∧ (tblAdvance s).weave = s.weave ∧
    (tblAdvance s).pending = s.pending ∧ (tblAdvance s).free = s.free := by
  simp [tblAdvance]

@[simp] theorem applyTblCtrl_blocks (data : Word) (be : ByteEn) (s : State) :
    (applyTblCtrl data be s).top = s.top ∧ (applyTblCtrl data be s).conf = s.conf ∧ (applyTblCtrl data be s).fr = s.fr ∧
    (applyTblCtrl data be s).ring = s.ring ∧ (applyTblCtrl data be s).adm = s.adm ∧ (applyTblCtrl data be s).scout = s.scout ∧
    (applyTblCtrl data be s).store = s.store ∧ (applyTblCtrl data be s).dram = s.dram ∧ (applyTblCtrl data be s).harv = s.harv ∧
    (applyTblCtrl data be s).nand = s.nand ∧ (applyTblCtrl data be s).ret = s.ret ∧ (applyTblCtrl data be s).arr = s.arr ∧
    (applyTblCtrl data be s).hive = s.hive ∧ (applyTblCtrl data be s).tally = s.tally ∧ (applyTblCtrl data be s).sec = s.sec ∧
    (applyTblCtrl data be s).jtag = s.jtag ∧ (applyTblCtrl data be s).orf = s.orf ∧ (applyTblCtrl data be s).weave = s.weave ∧
    (applyTblCtrl data be s).pending = s.pending ∧ (applyTblCtrl data be s).free = s.free := by
  simp [applyTblCtrl]

end Sys2Proof.Machine
end

