-- ==== Sys2Proof/Laws/BlocksOverlay.lean ====
section
/-! SUPPORT. Which blocks of State each operation of Machine/Overlay.lean leaves alone. -/

namespace Sys2Proof.Machine

@[simp] theorem setRtc_blocks (v : Word) (s : State) :
    (setRtc v s).top = s.top ∧ (setRtc v s).conf = s.conf ∧ (setRtc v s).fr = s.fr ∧
    (setRtc v s).host = s.host ∧ (setRtc v s).ring = s.ring ∧ (setRtc v s).adm = s.adm ∧
    (setRtc v s).dram = s.dram ∧ (setRtc v s).harv = s.harv ∧ (setRtc v s).nand = s.nand ∧
    (setRtc v s).ret = s.ret ∧ (setRtc v s).arr = s.arr ∧ (setRtc v s).hive = s.hive ∧
    (setRtc v s).tally = s.tally ∧ (setRtc v s).sec = s.sec ∧ (setRtc v s).jtag = s.jtag ∧
    (setRtc v s).orf = s.orf ∧ (setRtc v s).weave = s.weave ∧ (setRtc v s).pending = s.pending ∧
    (setRtc v s).free = s.free := by
  simp [setRtc]

@[simp] theorem areaErrors_blocks (img : Nat) (bankB : Bool) (s : State) :
    (areaErrors img bankB s).conf = s.conf ∧ (areaErrors img bankB s).adm = s.adm ∧ (areaErrors img bankB s).store = s.store ∧
    (areaErrors img bankB s).dram = s.dram ∧ (areaErrors img bankB s).harv = s.harv ∧ (areaErrors img bankB s).nand = s.nand ∧
    (areaErrors img bankB s).ret = s.ret ∧ (areaErrors img bankB s).arr = s.arr ∧ (areaErrors img bankB s).hive = s.hive ∧
    (areaErrors img bankB s).sec = s.sec ∧ (areaErrors img bankB s).jtag = s.jtag ∧ (areaErrors img bankB s).orf = s.orf ∧
    (areaErrors img bankB s).pending = s.pending ∧ (areaErrors img bankB s).free = s.free := by
  simp [areaErrors]

@[simp] theorem stageLoad_blocks (img : Nat) (s : State) :
    (stageLoad img s).top = s.top ∧ (stageLoad img s).fr = s.fr ∧ (stageLoad img s).host = s.host ∧
    (stageLoad img s).ring = s.ring ∧ (stageLoad img s).adm = s.adm ∧ (stageLoad img s).scout = s.scout ∧
    (stageLoad img s).store = s.store ∧ (stageLoad img s).dram = s.dram ∧ (stageLoad img s).harv = s.harv ∧
    (stageLoad img s).nand = s.nand ∧ (stageLoad img s).ret = s.ret ∧ (stageLoad img s).arr = s.arr ∧
    (stageLoad img s).hive = s.hive ∧ (stageLoad img s).tally = s.tally ∧ (stageLoad img s).sec = s.sec ∧
    (stageLoad img s).jtag = s.jtag ∧ (stageLoad img s).orf = s.orf ∧ (stageLoad img s).weave = s.weave ∧
    (stageLoad img s).pending = s.pending ∧ (stageLoad img s).free = s.free := by
  simp [stageLoad]

@[simp] theorem imgNote_blocks (img : Nat) (s : State) :
    (imgNote img s).adm = s.adm ∧ (imgNote img s).store = s.store ∧ (imgNote img s).dram = s.dram ∧
    (imgNote img s).harv = s.harv ∧ (imgNote img s).nand = s.nand ∧ (imgNote img s).ret = s.ret ∧
    (imgNote img s).arr = s.arr ∧ (imgNote img s).hive = s.hive ∧ (imgNote img s).sec = s.sec ∧
    (imgNote img s).jtag = s.jtag ∧ (imgNote img s).orf = s.orf ∧ (imgNote img s).pending = s.pending ∧
    (imgNote img s).free = s.free := by
  simp [imgNote]

@[simp] theorem regHook_blocks (off : Nat) (mask : Word) (s : State) :
    (regHook off mask s).conf = s.conf ∧ (regHook off mask s).adm = s.adm ∧ (regHook off mask s).store = s.store ∧
    (regHook off mask s).dram = s.dram ∧ (regHook off mask s).harv = s.harv ∧ (regHook off mask s).nand = s.nand ∧
    (regHook off mask s).ret = s.ret ∧ (regHook off mask s).arr = s.arr ∧ (regHook off mask s).hive = s.hive ∧
    (regHook off mask s).sec = s.sec ∧ (regHook off mask s).jtag = s.jtag ∧ (regHook off mask s).orf = s.orf ∧
    (regHook off mask s).pending = s.pending ∧ (regHook off mask s).free = s.free := by
  simp [regHook]

@[simp] theorem aonOverlay_blocks (s : State) :
    (aonOverlay s).fr = s.fr ∧ (aonOverlay s).ret = s.ret ∧ (aonOverlay s).hive = s.hive ∧ (aonOverlay s).sec = s.sec ∧
    (aonOverlay s).jtag = s.jtag ∧ (aonOverlay s).orf = s.orf ∧ (aonOverlay s).pending = s.pending ∧
    (aonOverlay s).free = s.free := by
  simp [aonOverlay]

@[simp] theorem confReset_blocks (s : State) :
    (confReset s).top = s.top ∧ (confReset s).fr = s.fr ∧ (confReset s).host = s.host ∧
    (confReset s).ring = s.ring ∧ (confReset s).adm = s.adm ∧ (confReset s).scout = s.scout ∧
    (confReset s).store = s.store ∧ (confReset s).dram = s.dram ∧ (confReset s).harv = s.harv ∧
    (confReset s).nand = s.nand ∧ (confReset s).ret = s.ret ∧ (confReset s).arr = s.arr ∧
    (confReset s).hive = s.hive ∧ (confReset s).tally = s.tally ∧ (confReset s).sec = s.sec ∧
    (confReset s).jtag = s.jtag ∧ (confReset s).orf = s.orf ∧ (confReset s).weave = s.weave ∧
    (confReset s).pending = s.pending ∧ (confReset s).free = s.free := by
  simp [confReset]

@[simp] theorem pfCheck_blocks (s : State) :
    (pfCheck s).adm = s.adm ∧ (pfCheck s).store = s.store ∧ (pfCheck s).dram = s.dram ∧
    (pfCheck s).harv = s.harv ∧ (pfCheck s).nand = s.nand ∧ (pfCheck s).ret = s.ret ∧
    (pfCheck s).arr = s.arr ∧ (pfCheck s).hive = s.hive ∧ (pfCheck s).sec = s.sec ∧
    (pfCheck s).jtag = s.jtag ∧ (pfCheck s).orf = s.orf ∧ (pfCheck s).pending = s.pending ∧
    (pfCheck s).free = s.free := by
  simp [pfCheck]

@[simp] theorem ringCheck_blocks (s : State) :
    (ringCheck s).conf = s.conf ∧ (ringCheck s).adm = s.adm ∧ (ringCheck s).store = s.store ∧
    (ringCheck s).dram = s.dram ∧ (ringCheck s).harv = s.harv ∧ (ringCheck s).nand = s.nand ∧
    (ringCheck s).ret = s.ret ∧ (ringCheck s).arr = s.arr ∧ (ringCheck s).hive = s.hive ∧
    (ringCheck s).sec = s.sec ∧ (ringCheck s).jtag = s.jtag ∧ (ringCheck s).orf = s.orf ∧
    (ringCheck s).pending = s.pending ∧ (ringCheck s).free = s.free := by
  unfold ringCheck; (repeat' split) <;> simp

@[simp] theorem commitStart_blocks (s : State) :
    (commitStart s).top = s.top ∧ (commitStart s).fr = s.fr ∧ (commitStart s).host = s.host ∧
    (commitStart s).ring = s.ring ∧ (commitStart s).adm = s.adm ∧ (commitStart s).scout = s.scout ∧
    (commitStart s).store = s.store ∧ (commitStart s).dram = s.dram ∧ (commitStart s).harv = s.harv ∧
    (commitStart s).nand = s.nand ∧ (commitStart s).ret = s.ret ∧ (commitStart s).hive = s.hive ∧
    (commitStart s).tally = s.tally ∧ (commitStart s).jtag = s.jtag ∧ (commitStart s).orf = s.orf ∧
    (commitStart s).weave = s.weave ∧ (commitStart s).pending = s.pending ∧ (commitStart s).free = s.free := by
  simp [commitStart]

@[simp] theorem commitEnd_blocks (img : Nat) (s : State) :
    (commitEnd img s).adm = s.adm ∧ (commitEnd img s).store = s.store ∧ (commitEnd img s).dram = s.dram ∧
    (commitEnd img s).harv = s.harv ∧ (commitEnd img s).nand = s.nand ∧ (commitEnd img s).ret = s.ret ∧
    (commitEnd img s).arr = s.arr ∧ (commitEnd img s).hive = s.hive ∧ (commitEnd img s).sec = s.sec ∧
    (commitEnd img s).jtag = s.jtag ∧ (commitEnd img s).orf = s.orf ∧ (commitEnd img s).pending = s.pending ∧
    (commitEnd img s).free = s.free := by
  simp [commitEnd]

@[simp] theorem overlayCommit_blocks (s : State) :
    (overlayCommit s).adm = s.adm ∧ (overlayCommit s).store = s.store ∧ (overlayCommit s).dram = s.dram ∧
    (overlayCommit s).harv = s.harv ∧ (overlayCommit s).nand = s.nand ∧ (overlayCommit s).ret = s.ret ∧
    (overlayCommit s).hive = s.hive ∧ (overlayCommit s).jtag = s.jtag ∧ (overlayCommit s).orf = s.orf ∧
    (overlayCommit s).pending = s.pending ∧ (overlayCommit s).free = s.free := by
  simp [overlayCommit]

@[simp] theorem applyOverlaySel_blocks (data : Word) (be : ByteEn) (s : State) :
    (applyOverlaySel data be s).adm = s.adm ∧ (applyOverlaySel data be s).store = s.store ∧ (applyOverlaySel data be s).dram = s.dram ∧
    (applyOverlaySel data be s).harv = s.harv ∧ (applyOverlaySel data be s).nand = s.nand ∧ (applyOverlaySel data be s).ret = s.ret ∧
    (applyOverlaySel data be s).hive = s.hive ∧ (applyOverlaySel data be s).jtag = s.jtag ∧ (applyOverlaySel data be s).orf = s.orf ∧
    (applyOverlaySel data be s).pending = s.pending ∧ (applyOverlaySel data be s).free = s.free := by
  simp [applyOverlaySel]

end Sys2Proof.Machine
end

