-- ==== Sys2Proof/Laws/BlocksWake.lean ====
section
/-! SUPPORT. Which blocks of State each operation of Machine/Wake.lean leaves alone. -/

namespace Sys2Proof.Machine

@[simp] theorem retire_blocks (sec : Nat) (s : State) :
    (retire sec s).conf = s.conf ∧ (retire sec s).adm = s.adm ∧ (retire sec s).store = s.store ∧
    (retire sec s).dram = s.dram ∧ (retire sec s).harv = s.harv ∧ (retire sec s).nand = s.nand ∧
    (retire sec s).ret = s.ret ∧ (retire sec s).hive = s.hive ∧ (retire sec s).sec = s.sec ∧
    (retire sec s).jtag = s.jtag ∧ (retire sec s).orf = s.orf ∧ (retire sec s).pending = s.pending ∧
    (retire sec s).free = s.free := by
  simp [retire]

@[simp] theorem eraseOk_blocks (sec : Nat) (s : State) :
    (eraseOk sec s).top = s.top ∧ (eraseOk sec s).conf = s.conf ∧ (eraseOk sec s).fr = s.fr ∧
    (eraseOk sec s).host = s.host ∧ (eraseOk sec s).ring = s.ring ∧ (eraseOk sec s).adm = s.adm ∧
    (eraseOk sec s).scout = s.scout ∧ (eraseOk sec s).store = s.store ∧ (eraseOk sec s).dram = s.dram ∧
    (eraseOk sec s).harv = s.harv ∧ (eraseOk sec s).nand = s.nand ∧ (eraseOk sec s).ret = s.ret ∧
    (eraseOk sec s).hive = s.hive ∧ (eraseOk sec s).tally = s.tally ∧ (eraseOk sec s).sec = s.sec ∧
    (eraseOk sec s).jtag = s.jtag ∧ (eraseOk sec s).orf = s.orf ∧ (eraseOk sec s).weave = s.weave ∧
    (eraseOk sec s).pending = s.pending ∧ (eraseOk sec s).free = s.free := by
  simp [eraseOk]

@[simp] theorem eraseFail_blocks (sec : Nat) (s : State) :
    (eraseFail sec s).conf = s.conf ∧ (eraseFail sec s).adm = s.adm ∧ (eraseFail sec s).store = s.store ∧
    (eraseFail sec s).dram = s.dram ∧ (eraseFail sec s).harv = s.harv ∧ (eraseFail sec s).nand = s.nand ∧
    (eraseFail sec s).ret = s.ret ∧ (eraseFail sec s).hive = s.hive ∧ (eraseFail sec s).sec = s.sec ∧
    (eraseFail sec s).jtag = s.jtag ∧ (eraseFail sec s).orf = s.orf ∧ (eraseFail sec s).pending = s.pending ∧
    (eraseFail sec s).free = s.free := by
  simp [eraseFail]

@[simp] theorem scanDone_blocks (failed : List Nat) (s : State) :
    (scanDone failed s).conf = s.conf ∧ (scanDone failed s).adm = s.adm ∧ (scanDone failed s).store = s.store ∧
    (scanDone failed s).dram = s.dram ∧ (scanDone failed s).harv = s.harv ∧ (scanDone failed s).nand = s.nand ∧
    (scanDone failed s).ret = s.ret ∧ (scanDone failed s).hive = s.hive ∧ (scanDone failed s).sec = s.sec ∧
    (scanDone failed s).jtag = s.jtag ∧ (scanDone failed s).orf = s.orf ∧ (scanDone failed s).pending = s.pending ∧
    (scanDone failed s).free = s.free := by
  simp [scanDone]

@[simp] theorem fwBoot_blocks (i : ImageIn) (s : State) :
    (fwBoot i s).conf = s.conf ∧ (fwBoot i s).adm = s.adm ∧ (fwBoot i s).store = s.store ∧
    (fwBoot i s).dram = s.dram ∧ (fwBoot i s).harv = s.harv ∧ (fwBoot i s).nand = s.nand ∧
    (fwBoot i s).ret = s.ret ∧ (fwBoot i s).arr = s.arr ∧ (fwBoot i s).sec = s.sec ∧
    (fwBoot i s).jtag = s.jtag ∧ (fwBoot i s).orf = s.orf ∧ (fwBoot i s).pending = s.pending ∧
    (fwBoot i s).free = s.free := by
  simp [fwBoot]

@[simp] theorem extCheck_blocks (c : ImageCheck) (s : State) :
    (extCheck c s).conf = s.conf ∧ (extCheck c s).adm = s.adm ∧ (extCheck c s).store = s.store ∧
    (extCheck c s).dram = s.dram ∧ (extCheck c s).harv = s.harv ∧ (extCheck c s).nand = s.nand ∧
    (extCheck c s).ret = s.ret ∧ (extCheck c s).arr = s.arr ∧ (extCheck c s).sec = s.sec ∧
    (extCheck c s).jtag = s.jtag ∧ (extCheck c s).orf = s.orf ∧ (extCheck c s).pending = s.pending ∧
    (extCheck c s).free = s.free := by
  simp [extCheck]

@[simp] theorem keyWords_blocks (sec : Nat) (first : Nat) (n : Nat) (s : State) :
    (keyWords sec first n s).top = s.top ∧ (keyWords sec first n s).conf = s.conf ∧ (keyWords sec first n s).fr = s.fr ∧
    (keyWords sec first n s).host = s.host ∧ (keyWords sec first n s).ring = s.ring ∧ (keyWords sec first n s).adm = s.adm ∧
    (keyWords sec first n s).scout = s.scout ∧ (keyWords sec first n s).store = s.store ∧
    (keyWords sec first n s).dram = s.dram ∧ (keyWords sec first n s).harv = s.harv ∧
    (keyWords sec first n s).nand = s.nand ∧ (keyWords sec first n s).ret = s.ret ∧ (keyWords sec first n s).hive = s.hive ∧
    (keyWords sec first n s).tally = s.tally ∧ (keyWords sec first n s).sec = s.sec ∧
    (keyWords sec first n s).jtag = s.jtag ∧ (keyWords sec first n s).orf = s.orf ∧
    (keyWords sec first n s).weave = s.weave ∧ (keyWords sec first n s).pending = s.pending := by
  simp [keyWords]

@[simp] theorem keyAppend_blocks (n : Nat) (s : State) :
    (keyAppend n s).top = s.top ∧ (keyAppend n s).conf = s.conf ∧ (keyAppend n s).fr = s.fr ∧
    (keyAppend n s).host = s.host ∧ (keyAppend n s).ring = s.ring ∧ (keyAppend n s).adm = s.adm ∧
    (keyAppend n s).scout = s.scout ∧ (keyAppend n s).store = s.store ∧ (keyAppend n s).dram = s.dram ∧
    (keyAppend n s).harv = s.harv ∧ (keyAppend n s).nand = s.nand ∧ (keyAppend n s).ret = s.ret ∧
    (keyAppend n s).hive = s.hive ∧ (keyAppend n s).tally = s.tally ∧ (keyAppend n s).sec = s.sec ∧
    (keyAppend n s).jtag = s.jtag ∧ (keyAppend n s).orf = s.orf ∧ (keyAppend n s).weave = s.weave ∧
    (keyAppend n s).pending = s.pending := by
  simp [keyAppend]

@[simp] theorem keyWake_blocks (i : ImageIn) (s : State) :
    (keyWake i s).conf = s.conf ∧ (keyWake i s).adm = s.adm ∧ (keyWake i s).store = s.store ∧ (keyWake i s).dram = s.dram ∧
    (keyWake i s).harv = s.harv ∧ (keyWake i s).nand = s.nand ∧ (keyWake i s).ret = s.ret ∧ (keyWake i s).hive = s.hive ∧
    (keyWake i s).jtag = s.jtag ∧ (keyWake i s).orf = s.orf ∧ (keyWake i s).pending = s.pending := by
  simp [keyWake]

@[simp] theorem epochEnd_blocks (s : State) :
    (epochEnd s).conf = s.conf ∧ (epochEnd s).adm = s.adm ∧ (epochEnd s).store = s.store ∧
    (epochEnd s).dram = s.dram ∧ (epochEnd s).harv = s.harv ∧ (epochEnd s).nand = s.nand ∧
    (epochEnd s).ret = s.ret ∧ (epochEnd s).arr = s.arr ∧ (epochEnd s).hive = s.hive ∧
    (epochEnd s).jtag = s.jtag ∧ (epochEnd s).orf = s.orf ∧ (epochEnd s).pending = s.pending ∧
    (epochEnd s).free = s.free := by
  simp [epochEnd]

@[simp] theorem logRecover_blocks (s : State) :
    (logRecover s).conf = s.conf ∧ (logRecover s).adm = s.adm ∧ (logRecover s).store = s.store ∧
    (logRecover s).dram = s.dram ∧ (logRecover s).harv = s.harv ∧ (logRecover s).nand = s.nand ∧
    (logRecover s).ret = s.ret ∧ (logRecover s).arr = s.arr ∧ (logRecover s).hive = s.hive ∧
    (logRecover s).sec = s.sec ∧ (logRecover s).jtag = s.jtag ∧ (logRecover s).orf = s.orf ∧
    (logRecover s).pending = s.pending ∧ (logRecover s).free = s.free := by
  simp [logRecover]

@[simp] theorem harvReload_blocks (headers : List Nat) (s : State) :
    (harvReload headers s).top = s.top ∧ (harvReload headers s).conf = s.conf ∧ (harvReload headers s).fr = s.fr ∧
    (harvReload headers s).host = s.host ∧ (harvReload headers s).ring = s.ring ∧ (harvReload headers s).adm = s.adm ∧
    (harvReload headers s).scout = s.scout ∧ (harvReload headers s).store = s.store ∧ (harvReload headers s).dram = s.dram ∧
    (harvReload headers s).nand = s.nand ∧ (harvReload headers s).ret = s.ret ∧ (harvReload headers s).arr = s.arr ∧
    (harvReload headers s).hive = s.hive ∧ (harvReload headers s).tally = s.tally ∧ (harvReload headers s).sec = s.sec ∧
    (harvReload headers s).jtag = s.jtag ∧ (harvReload headers s).orf = s.orf ∧ (harvReload headers s).weave = s.weave ∧
    (harvReload headers s).pending = s.pending ∧ (harvReload headers s).free = s.free := by
  unfold harvReload; split <;> simp

@[simp] theorem endAll_blocks (s : State) :
    (endAll s).top = s.top ∧ (endAll s).conf = s.conf ∧ (endAll s).fr = s.fr ∧
    (endAll s).host = s.host ∧ (endAll s).ring = s.ring ∧ (endAll s).adm = s.adm ∧
    (endAll s).scout = s.scout ∧ (endAll s).store = s.store ∧ (endAll s).dram = s.dram ∧
    (endAll s).harv = s.harv ∧ (endAll s).nand = s.nand ∧ (endAll s).ret = s.ret ∧
    (endAll s).hive = s.hive ∧ (endAll s).tally = s.tally ∧ (endAll s).sec = s.sec ∧
    (endAll s).jtag = s.jtag ∧ (endAll s).orf = s.orf ∧ (endAll s).weave = s.weave ∧
    (endAll s).pending = s.pending ∧ (endAll s).free = s.free := by
  simp [endAll]

@[simp] theorem catalogScan_blocks (headers : List Nat) (s : State) :
    (catalogScan headers s).conf = s.conf ∧ (catalogScan headers s).fr = s.fr ∧ (catalogScan headers s).host = s.host ∧
    (catalogScan headers s).ring = s.ring ∧ (catalogScan headers s).adm = s.adm ∧ (catalogScan headers s).scout = s.scout ∧
    (catalogScan headers s).store = s.store ∧ (catalogScan headers s).dram = s.dram ∧ (catalogScan headers s).hive = s.hive ∧
    (catalogScan headers s).tally = s.tally ∧ (catalogScan headers s).sec = s.sec ∧ (catalogScan headers s).jtag = s.jtag ∧
    (catalogScan headers s).orf = s.orf ∧ (catalogScan headers s).weave = s.weave ∧ (catalogScan headers s).free = s.free := by
  simp [catalogScan]

@[simp] theorem wakeDecision_blocks (s : State) :
    (wakeDecision s).conf = s.conf ∧ (wakeDecision s).fr = s.fr ∧ (wakeDecision s).host = s.host ∧
    (wakeDecision s).ring = s.ring ∧ (wakeDecision s).adm = s.adm ∧ (wakeDecision s).scout = s.scout ∧
    (wakeDecision s).store = s.store ∧ (wakeDecision s).dram = s.dram ∧ (wakeDecision s).harv = s.harv ∧
    (wakeDecision s).nand = s.nand ∧ (wakeDecision s).ret = s.ret ∧ (wakeDecision s).arr = s.arr ∧
    (wakeDecision s).hive = s.hive ∧ (wakeDecision s).tally = s.tally ∧ (wakeDecision s).sec = s.sec ∧
    (wakeDecision s).jtag = s.jtag ∧ (wakeDecision s).orf = s.orf ∧ (wakeDecision s).weave = s.weave ∧
    (wakeDecision s).pending = s.pending ∧ (wakeDecision s).free = s.free := by
  simp [wakeDecision]

end Sys2Proof.Machine
end

