-- ==== Sys2Proof/Laws/BlocksTrans.lean ====
section
/-! SUPPORT. Which blocks of State each operation of Machine/Trans.lean leaves alone. -/

namespace Sys2Proof.Machine

@[simp] theorem logCut_blocks (s : State) :
    (logCut s).conf = s.conf ∧ (logCut s).adm = s.adm ∧ (logCut s).store = s.store ∧
    (logCut s).dram = s.dram ∧ (logCut s).harv = s.harv ∧ (logCut s).nand = s.nand ∧
    (logCut s).ret = s.ret ∧ (logCut s).arr = s.arr ∧ (logCut s).hive = s.hive ∧
    (logCut s).sec = s.sec ∧ (logCut s).jtag = s.jtag ∧ (logCut s).orf = s.orf ∧
    (logCut s).pending = s.pending ∧ (logCut s).free = s.free := by
  simp only [logCut]; split <;> simp

@[simp] theorem softClear_blocks (s : State) :
    (softClear s).conf = s.conf ∧ (softClear s).ring = s.ring ∧ (softClear s).adm = s.adm ∧ (softClear s).scout = s.scout ∧
    (softClear s).dram = s.dram ∧ (softClear s).harv = s.harv ∧ (softClear s).jtag = s.jtag ∧ (softClear s).orf = s.orf ∧
    (softClear s).weave = s.weave ∧ (softClear s).pending = s.pending ∧ (softClear s).free = s.free := by
  simp [softClear]

@[simp] theorem setState_blocks (st : DevState) (ph : Phase) (s : State) :
    (setState st ph s).conf = s.conf ∧ (setState st ph s).fr = s.fr ∧ (setState st ph s).host = s.host ∧
    (setState st ph s).ring = s.ring ∧ (setState st ph s).adm = s.adm ∧ (setState st ph s).scout = s.scout ∧
    (setState st ph s).store = s.store ∧ (setState st ph s).dram = s.dram ∧ (setState st ph s).harv = s.harv ∧
    (setState st ph s).nand = s.nand ∧ (setState st ph s).ret = s.ret ∧ (setState st ph s).arr = s.arr ∧
    (setState st ph s).hive = s.hive ∧ (setState st ph s).tally = s.tally ∧ (setState st ph s).sec = s.sec ∧
    (setState st ph s).jtag = s.jtag ∧ (setState st ph s).orf = s.orf ∧ (setState st ph s).weave = s.weave ∧
    (setState st ph s).pending = s.pending ∧ (setState st ph s).free = s.free := by
  simp [setState]

@[simp] theorem leaveState_blocks (s : State) :
    (leaveState s).adm = s.adm ∧ (leaveState s).ret = s.ret ∧ (leaveState s).arr = s.arr ∧ (leaveState s).hive = s.hive ∧
    (leaveState s).jtag = s.jtag ∧ (leaveState s).orf = s.orf ∧ (leaveState s).pending = s.pending ∧
    (leaveState s).free = s.free := by
  simp [leaveState]

@[simp] theorem closeWindow_blocks (s : State) :
    (closeWindow s).conf = s.conf ∧ (closeWindow s).fr = s.fr ∧ (closeWindow s).host = s.host ∧
    (closeWindow s).ring = s.ring ∧ (closeWindow s).adm = s.adm ∧ (closeWindow s).scout = s.scout ∧
    (closeWindow s).store = s.store ∧ (closeWindow s).dram = s.dram ∧ (closeWindow s).harv = s.harv ∧
    (closeWindow s).nand = s.nand ∧ (closeWindow s).ret = s.ret ∧ (closeWindow s).arr = s.arr ∧
    (closeWindow s).hive = s.hive ∧ (closeWindow s).tally = s.tally ∧ (closeWindow s).sec = s.sec ∧
    (closeWindow s).jtag = s.jtag ∧ (closeWindow s).orf = s.orf ∧ (closeWindow s).weave = s.weave ∧
    (closeWindow s).pending = s.pending ∧ (closeWindow s).free = s.free := by
  simp [closeWindow]

@[simp] theorem openWindow_blocks (wet : Bool) (pg : Bool) (tam : Bool) (s : State) :
    (openWindow wet pg tam s).conf = s.conf ∧ (openWindow wet pg tam s).adm = s.adm ∧ (openWindow wet pg tam s).store = s.store ∧
    (openWindow wet pg tam s).dram = s.dram ∧ (openWindow wet pg tam s).harv = s.harv ∧ (openWindow wet pg tam s).nand = s.nand ∧
    (openWindow wet pg tam s).ret = s.ret ∧ (openWindow wet pg tam s).arr = s.arr ∧ (openWindow wet pg tam s).hive = s.hive ∧
    (openWindow wet pg tam s).sec = s.sec ∧ (openWindow wet pg tam s).jtag = s.jtag ∧ (openWindow wet pg tam s).orf = s.orf ∧
    (openWindow wet pg tam s).pending = s.pending ∧ (openWindow wet pg tam s).free = s.free := by
  simp [openWindow]

@[simp] theorem afterWake_blocks (was : DevState) (s : State) :
    (afterWake was s).top = s.top ∧ (afterWake was s).conf = s.conf ∧ (afterWake was s).fr = s.fr ∧
    (afterWake was s).host = s.host ∧ (afterWake was s).ring = s.ring ∧ (afterWake was s).adm = s.adm ∧
    (afterWake was s).scout = s.scout ∧ (afterWake was s).store = s.store ∧ (afterWake was s).dram = s.dram ∧
    (afterWake was s).harv = s.harv ∧ (afterWake was s).ret = s.ret ∧ (afterWake was s).arr = s.arr ∧
    (afterWake was s).hive = s.hive ∧ (afterWake was s).tally = s.tally ∧ (afterWake was s).sec = s.sec ∧
    (afterWake was s).jtag = s.jtag ∧ (afterWake was s).orf = s.orf ∧ (afterWake was s).weave = s.weave ∧
    (afterWake was s).pending = s.pending ∧ (afterWake was s).free = s.free := by
  simp [afterWake]

@[simp] theorem dramPark_blocks (s : State) :
    (dramPark s).top = s.top ∧ (dramPark s).conf = s.conf ∧ (dramPark s).fr = s.fr ∧
    (dramPark s).host = s.host ∧ (dramPark s).ring = s.ring ∧ (dramPark s).adm = s.adm ∧
    (dramPark s).scout = s.scout ∧ (dramPark s).store = s.store ∧ (dramPark s).harv = s.harv ∧
    (dramPark s).nand = s.nand ∧ (dramPark s).ret = s.ret ∧ (dramPark s).arr = s.arr ∧
    (dramPark s).hive = s.hive ∧ (dramPark s).tally = s.tally ∧ (dramPark s).sec = s.sec ∧
    (dramPark s).jtag = s.jtag ∧ (dramPark s).orf = s.orf ∧ (dramPark s).weave = s.weave ∧
    (dramPark s).pending = s.pending ∧ (dramPark s).free = s.free := by
  simp [dramPark]

@[simp] theorem wakeEntry_blocks (cause : Nat) (w : WakeIn) (s : State) :
    (wakeEntry cause w s).arr = s.arr ∧ (wakeEntry cause w s).hive = s.hive ∧ (wakeEntry cause w s).jtag = s.jtag ∧
    (wakeEntry cause w s).orf = s.orf ∧ (wakeEntry cause w s).pending = s.pending ∧ (wakeEntry cause w s).free = s.free := by
  simp [wakeEntry]

@[simp] theorem wakeSecond_blocks (s : State) :
    (wakeSecond s).conf = s.conf ∧ (wakeSecond s).adm = s.adm ∧ (wakeSecond s).store = s.store ∧
    (wakeSecond s).harv = s.harv ∧ (wakeSecond s).nand = s.nand ∧ (wakeSecond s).ret = s.ret ∧
    (wakeSecond s).arr = s.arr ∧ (wakeSecond s).hive = s.hive ∧ (wakeSecond s).sec = s.sec ∧
    (wakeSecond s).jtag = s.jtag ∧ (wakeSecond s).orf = s.orf ∧ (wakeSecond s).pending = s.pending ∧
    (wakeSecond s).free = s.free := by
  simp [wakeSecond]

@[simp] theorem evalReq_blocks (data : Word) (s : State) :
    (evalReq data s).conf = s.conf ∧ (evalReq data s).adm = s.adm ∧ (evalReq data s).store = s.store ∧
    (evalReq data s).harv = s.harv ∧ (evalReq data s).nand = s.nand ∧ (evalReq data s).ret = s.ret ∧
    (evalReq data s).arr = s.arr ∧ (evalReq data s).hive = s.hive ∧ (evalReq data s).sec = s.sec ∧
    (evalReq data s).jtag = s.jtag ∧ (evalReq data s).orf = s.orf ∧ (evalReq data s).pending = s.pending ∧
    (evalReq data s).free = s.free := by
  simp only [evalReq]; split <;> simp

@[simp] theorem discardNow_blocks (s : State) :
    (discardNow s).conf = s.conf ∧ (discardNow s).adm = s.adm ∧ (discardNow s).store = s.store ∧
    (discardNow s).dram = s.dram ∧ (discardNow s).harv = s.harv ∧ (discardNow s).nand = s.nand ∧
    (discardNow s).hive = s.hive ∧ (discardNow s).sec = s.sec ∧ (discardNow s).jtag = s.jtag ∧
    (discardNow s).orf = s.orf ∧ (discardNow s).free = s.free := by
  simp [discardNow]

@[simp] theorem holdSample_blocks (x : SlowSample) (s : State) :
    (holdSample x s).ret = s.ret ∧ (holdSample x s).hive = s.hive ∧ (holdSample x s).jtag = s.jtag ∧
    (holdSample x s).orf = s.orf ∧ (holdSample x s).pending = s.pending ∧ (holdSample x s).free = s.free := by
  simp [holdSample]

@[simp] theorem wakeQualified_blocks (w : WakeIn) (s : State) :
    (wakeQualified w s).arr = s.arr ∧ (wakeQualified w s).hive = s.hive ∧ (wakeQualified w s).jtag = s.jtag ∧
    (wakeQualified w s).orf = s.orf ∧ (wakeQualified w s).pending = s.pending ∧ (wakeQualified w s).free = s.free := by
  simp [wakeQualified]

@[simp] theorem aonPorRelease_blocks (s : State) :
    (aonPorRelease s).conf = s.conf ∧ (aonPorRelease s).host = s.host ∧ (aonPorRelease s).ring = s.ring ∧
    (aonPorRelease s).adm = s.adm ∧ (aonPorRelease s).scout = s.scout ∧ (aonPorRelease s).store = s.store ∧
    (aonPorRelease s).dram = s.dram ∧ (aonPorRelease s).harv = s.harv ∧ (aonPorRelease s).nand = s.nand ∧
    (aonPorRelease s).ret = s.ret ∧ (aonPorRelease s).arr = s.arr ∧ (aonPorRelease s).hive = s.hive ∧
    (aonPorRelease s).tally = s.tally ∧ (aonPorRelease s).sec = s.sec ∧ (aonPorRelease s).jtag = s.jtag ∧
    (aonPorRelease s).orf = s.orf ∧ (aonPorRelease s).weave = s.weave ∧ (aonPorRelease s).pending = s.pending ∧
    (aonPorRelease s).free = s.free := by
  simp [aonPorRelease]

@[simp] theorem sealPark_blocks (s : State) :
    (sealPark s).top = s.top ∧ (sealPark s).conf = s.conf ∧ (sealPark s).fr = s.fr ∧ (sealPark s).host = s.host ∧
    (sealPark s).ring = s.ring ∧ (sealPark s).adm = s.adm ∧ (sealPark s).scout = s.scout ∧ (sealPark s).store = s.store ∧
    (sealPark s).harv = s.harv ∧ (sealPark s).nand = s.nand ∧ (sealPark s).ret = s.ret ∧ (sealPark s).arr = s.arr ∧
    (sealPark s).hive = s.hive ∧ (sealPark s).tally = s.tally ∧ (sealPark s).sec = s.sec ∧ (sealPark s).jtag = s.jtag ∧
    (sealPark s).orf = s.orf ∧ (sealPark s).weave = s.weave ∧ (sealPark s).pending = s.pending ∧ (sealPark s).free = s.free := by
  simp [sealPark]

end Sys2Proof.Machine
end

