-- ==== Sys2Proof/Laws/BlocksEngine.lean ====
section
/-! SUPPORT. Which blocks of State each operation of Machine/Engine.lean leaves alone. -/

namespace Sys2Proof.Machine

@[simp] theorem logErase_blocks (k : Nat) (bankB : Bool) (s : State) :
    (logErase k bankB s).conf = s.conf ∧ (logErase k bankB s).adm = s.adm ∧ (logErase k bankB s).store = s.store ∧
    (logErase k bankB s).dram = s.dram ∧ (logErase k bankB s).harv = s.harv ∧ (logErase k bankB s).nand = s.nand ∧
    (logErase k bankB s).ret = s.ret ∧ (logErase k bankB s).hive = s.hive ∧ (logErase k bankB s).sec = s.sec ∧
    (logErase k bankB s).jtag = s.jtag ∧ (logErase k bankB s).orf = s.orf ∧ (logErase k bankB s).pending = s.pending ∧
    (logErase k bankB s).free = s.free := by
  simp [logErase]

@[simp] theorem logProgram_blocks (i : Nat) (r : Record) (s : State) :
    (logProgram i r s).top = s.top ∧ (logProgram i r s).conf = s.conf ∧ (logProgram i r s).fr = s.fr ∧
    (logProgram i r s).host = s.host ∧ (logProgram i r s).ring = s.ring ∧ (logProgram i r s).adm = s.adm ∧
    (logProgram i r s).scout = s.scout ∧ (logProgram i r s).store = s.store ∧ (logProgram i r s).dram = s.dram ∧
    (logProgram i r s).harv = s.harv ∧ (logProgram i r s).nand = s.nand ∧ (logProgram i r s).ret = s.ret ∧
    (logProgram i r s).hive = s.hive ∧ (logProgram i r s).tally = s.tally ∧ (logProgram i r s).sec = s.sec ∧
    (logProgram i r s).jtag = s.jtag ∧ (logProgram i r s).orf = s.orf ∧ (logProgram i r s).weave = s.weave ∧
    (logProgram i r s).pending = s.pending ∧ (logProgram i r s).free = s.free := by
  simp [logProgram]

@[simp] theorem logUnhold_blocks (s : State) :
    (logUnhold s).conf = s.conf ∧ (logUnhold s).adm = s.adm ∧ (logUnhold s).store = s.store ∧
    (logUnhold s).dram = s.dram ∧ (logUnhold s).harv = s.harv ∧ (logUnhold s).nand = s.nand ∧
    (logUnhold s).ret = s.ret ∧ (logUnhold s).arr = s.arr ∧ (logUnhold s).hive = s.hive ∧
    (logUnhold s).sec = s.sec ∧ (logUnhold s).jtag = s.jtag ∧ (logUnhold s).orf = s.orf ∧
    (logUnhold s).pending = s.pending ∧ (logUnhold s).free = s.free := by
  simp [logUnhold]

@[simp] theorem logStart_blocks (s : State) :
    (logStart s).conf = s.conf ∧ (logStart s).adm = s.adm ∧ (logStart s).store = s.store ∧
    (logStart s).dram = s.dram ∧ (logStart s).harv = s.harv ∧ (logStart s).nand = s.nand ∧
    (logStart s).ret = s.ret ∧ (logStart s).hive = s.hive ∧ (logStart s).sec = s.sec ∧
    (logStart s).jtag = s.jtag ∧ (logStart s).orf = s.orf ∧ (logStart s).pending = s.pending ∧
    (logStart s).free = s.free := by
  unfold logStart; split <;> simp

@[simp] theorem logPrepare_blocks (s : State) :
    (logPrepare s).conf = s.conf ∧ (logPrepare s).adm = s.adm ∧ (logPrepare s).store = s.store ∧
    (logPrepare s).dram = s.dram ∧ (logPrepare s).harv = s.harv ∧ (logPrepare s).nand = s.nand ∧
    (logPrepare s).ret = s.ret ∧ (logPrepare s).hive = s.hive ∧ (logPrepare s).sec = s.sec ∧
    (logPrepare s).jtag = s.jtag ∧ (logPrepare s).orf = s.orf ∧ (logPrepare s).pending = s.pending ∧
    (logPrepare s).free = s.free := by
  simp [logPrepare]

@[simp] theorem logYield_blocks (s : State) :
    (logYield s).top = s.top ∧ (logYield s).conf = s.conf ∧ (logYield s).fr = s.fr ∧
    (logYield s).host = s.host ∧ (logYield s).ring = s.ring ∧ (logYield s).adm = s.adm ∧
    (logYield s).scout = s.scout ∧ (logYield s).store = s.store ∧ (logYield s).dram = s.dram ∧
    (logYield s).harv = s.harv ∧ (logYield s).nand = s.nand ∧ (logYield s).ret = s.ret ∧
    (logYield s).hive = s.hive ∧ (logYield s).tally = s.tally ∧ (logYield s).sec = s.sec ∧
    (logYield s).jtag = s.jtag ∧ (logYield s).orf = s.orf ∧ (logYield s).weave = s.weave ∧
    (logYield s).pending = s.pending ∧ (logYield s).free = s.free := by
  unfold logYield; split <;> simp

@[simp] theorem logBoundary_blocks (s : State) :
    (logBoundary s).conf = s.conf ∧ (logBoundary s).adm = s.adm ∧ (logBoundary s).store = s.store ∧
    (logBoundary s).dram = s.dram ∧ (logBoundary s).harv = s.harv ∧ (logBoundary s).nand = s.nand ∧
    (logBoundary s).ret = s.ret ∧ (logBoundary s).hive = s.hive ∧ (logBoundary s).sec = s.sec ∧
    (logBoundary s).jtag = s.jtag ∧ (logBoundary s).orf = s.orf ∧ (logBoundary s).pending = s.pending ∧
    (logBoundary s).free = s.free := by
  simp only [logBoundary]; split <;> simp

@[simp] theorem logStep_blocks (i : Nat) (ok : Bool) (s : State) :
    (logStep i ok s).conf = s.conf ∧ (logStep i ok s).adm = s.adm ∧ (logStep i ok s).store = s.store ∧
    (logStep i ok s).dram = s.dram ∧ (logStep i ok s).harv = s.harv ∧ (logStep i ok s).nand = s.nand ∧
    (logStep i ok s).ret = s.ret ∧ (logStep i ok s).hive = s.hive ∧ (logStep i ok s).sec = s.sec ∧
    (logStep i ok s).jtag = s.jtag ∧ (logStep i ok s).orf = s.orf ∧ (logStep i ok s).pending = s.pending ∧
    (logStep i ok s).free = s.free := by
  unfold logStep; split <;> simp

@[simp] theorem logErased_blocks (arg : Nat) (s : State) :
    (logErased arg s).conf = s.conf ∧ (logErased arg s).adm = s.adm ∧ (logErased arg s).store = s.store ∧
    (logErased arg s).dram = s.dram ∧ (logErased arg s).harv = s.harv ∧ (logErased arg s).nand = s.nand ∧
    (logErased arg s).ret = s.ret ∧ (logErased arg s).hive = s.hive ∧ (logErased arg s).sec = s.sec ∧
    (logErased arg s).jtag = s.jtag ∧ (logErased arg s).orf = s.orf ∧ (logErased arg s).pending = s.pending ∧
    (logErased arg s).free = s.free := by
  simp [logErased]

@[simp] theorem catDone_blocks (arg : Nat) (s : State) :
    (catDone arg s).conf = s.conf ∧ (catDone arg s).adm = s.adm ∧ (catDone arg s).store = s.store ∧
    (catDone arg s).arr = s.arr ∧ (catDone arg s).hive = s.hive ∧ (catDone arg s).sec = s.sec ∧
    (catDone arg s).jtag = s.jtag ∧ (catDone arg s).orf = s.orf ∧ (catDone arg s).pending = s.pending ∧
    (catDone arg s).free = s.free := by
  simp only [catDone]; (repeat' split) <;> simp

@[simp] theorem compactStep_blocks (s : State) :
    (compactStep s).top = s.top ∧ (compactStep s).conf = s.conf ∧ (compactStep s).fr = s.fr ∧
    (compactStep s).host = s.host ∧ (compactStep s).ring = s.ring ∧ (compactStep s).adm = s.adm ∧
    (compactStep s).scout = s.scout ∧ (compactStep s).store = s.store ∧ (compactStep s).dram = s.dram ∧
    (compactStep s).harv = s.harv ∧ (compactStep s).ret = s.ret ∧ (compactStep s).arr = s.arr ∧
    (compactStep s).hive = s.hive ∧ (compactStep s).tally = s.tally ∧ (compactStep s).sec = s.sec ∧
    (compactStep s).jtag = s.jtag ∧ (compactStep s).orf = s.orf ∧ (compactStep s).weave = s.weave ∧
    (compactStep s).pending = s.pending ∧ (compactStep s).free = s.free := by
  simp [compactStep]

@[simp] theorem setEnd_blocks (arg : Nat) (ok : Bool) (s : State) :
    (setEnd arg ok s).conf = s.conf ∧ (setEnd arg ok s).adm = s.adm ∧ (setEnd arg ok s).store = s.store ∧
    (setEnd arg ok s).harv = s.harv ∧ (setEnd arg ok s).nand = s.nand ∧ (setEnd arg ok s).ret = s.ret ∧
    (setEnd arg ok s).arr = s.arr ∧ (setEnd arg ok s).hive = s.hive ∧ (setEnd arg ok s).sec = s.sec ∧
    (setEnd arg ok s).jtag = s.jtag ∧ (setEnd arg ok s).orf = s.orf ∧ (setEnd arg ok s).pending = s.pending ∧
    (setEnd arg ok s).free = s.free := by
  simp [setEnd]

@[simp] theorem notePulses_blocks (r : Requester) (n : Nat) (s : State) :
    (notePulses r n s).top = s.top ∧ (notePulses r n s).conf = s.conf ∧ (notePulses r n s).fr = s.fr ∧
    (notePulses r n s).host = s.host ∧ (notePulses r n s).ring = s.ring ∧ (notePulses r n s).adm = s.adm ∧
    (notePulses r n s).scout = s.scout ∧ (notePulses r n s).store = s.store ∧ (notePulses r n s).dram = s.dram ∧
    (notePulses r n s).harv = s.harv ∧ (notePulses r n s).nand = s.nand ∧ (notePulses r n s).ret = s.ret ∧
    (notePulses r n s).hive = s.hive ∧ (notePulses r n s).tally = s.tally ∧ (notePulses r n s).sec = s.sec ∧
    (notePulses r n s).jtag = s.jtag ∧ (notePulses r n s).orf = s.orf ∧ (notePulses r n s).weave = s.weave ∧
    (notePulses r n s).pending = s.pending ∧ (notePulses r n s).free = s.free := by
  simp [notePulses]

@[simp] theorem orfSpoilt_blocks (ok : Bool) (s : State) :
    (orfSpoilt ok s).top = s.top ∧ (orfSpoilt ok s).conf = s.conf ∧ (orfSpoilt ok s).fr = s.fr ∧
    (orfSpoilt ok s).host = s.host ∧ (orfSpoilt ok s).ring = s.ring ∧ (orfSpoilt ok s).adm = s.adm ∧
    (orfSpoilt ok s).scout = s.scout ∧ (orfSpoilt ok s).store = s.store ∧ (orfSpoilt ok s).dram = s.dram ∧
    (orfSpoilt ok s).harv = s.harv ∧ (orfSpoilt ok s).nand = s.nand ∧ (orfSpoilt ok s).ret = s.ret ∧
    (orfSpoilt ok s).arr = s.arr ∧ (orfSpoilt ok s).hive = s.hive ∧ (orfSpoilt ok s).tally = s.tally ∧
    (orfSpoilt ok s).sec = s.sec ∧ (orfSpoilt ok s).jtag = s.jtag ∧ (orfSpoilt ok s).weave = s.weave ∧
    (orfSpoilt ok s).pending = s.pending ∧ (orfSpoilt ok s).free = s.free := by
  simp [orfSpoilt]

@[simp] theorem dropWrite_blocks (s : State) :
    (dropWrite s).conf = s.conf ∧ (dropWrite s).adm = s.adm ∧ (dropWrite s).store = s.store ∧
    (dropWrite s).dram = s.dram ∧ (dropWrite s).harv = s.harv ∧ (dropWrite s).nand = s.nand ∧
    (dropWrite s).ret = s.ret ∧ (dropWrite s).arr = s.arr ∧ (dropWrite s).hive = s.hive ∧
    (dropWrite s).sec = s.sec ∧ (dropWrite s).jtag = s.jtag ∧ (dropWrite s).orf = s.orf ∧
    (dropWrite s).pending = s.pending ∧ (dropWrite s).free = s.free := by
  simp [dropWrite]

@[simp] theorem snapWrite_blocks (s : State) :
    (snapWrite s).conf = s.conf ∧ (snapWrite s).adm = s.adm ∧ (snapWrite s).store = s.store ∧
    (snapWrite s).dram = s.dram ∧ (snapWrite s).harv = s.harv ∧ (snapWrite s).nand = s.nand ∧
    (snapWrite s).ret = s.ret ∧ (snapWrite s).arr = s.arr ∧ (snapWrite s).hive = s.hive ∧
    (snapWrite s).sec = s.sec ∧ (snapWrite s).jtag = s.jtag ∧ (snapWrite s).orf = s.orf ∧
    (snapWrite s).pending = s.pending ∧ (snapWrite s).free = s.free := by
  simp [snapWrite]

end Sys2Proof.Machine
end

