-- ==== Sys2Proof/Laws/BlocksFaults.lean ====
section
/-! SUPPORT. Which blocks of State each operation of Machine/Faults.lean leaves alone. -/

namespace Sys2Proof.Machine

@[simp] theorem tallyMessage_blocks (src : Nat) (kind : Nat) (addr : Word) (s : State) :
    (tallyMessage src kind addr s).conf = s.conf ∧ (tallyMessage src kind addr s).adm = s.adm ∧ (tallyMessage src kind addr s).store = s.store ∧
    (tallyMessage src kind addr s).dram = s.dram ∧ (tallyMessage src kind addr s).harv = s.harv ∧ (tallyMessage src kind addr s).nand = s.nand ∧
    (tallyMessage src kind addr s).ret = s.ret ∧ (tallyMessage src kind addr s).arr = s.arr ∧ (tallyMessage src kind addr s).hive = s.hive ∧
    (tallyMessage src kind addr s).sec = s.sec ∧ (tallyMessage src kind addr s).jtag = s.jtag ∧ (tallyMessage src kind addr s).orf = s.orf ∧
    (tallyMessage src kind addr s).pending = s.pending ∧ (tallyMessage src kind addr s).free = s.free := by
  simp [tallyMessage]

@[simp] theorem pulseEnd_blocks (s : State) :
    (pulseEnd s).conf = s.conf ∧ (pulseEnd s).adm = s.adm ∧ (pulseEnd s).store = s.store ∧
    (pulseEnd s).dram = s.dram ∧ (pulseEnd s).harv = s.harv ∧ (pulseEnd s).nand = s.nand ∧
    (pulseEnd s).ret = s.ret ∧ (pulseEnd s).arr = s.arr ∧ (pulseEnd s).hive = s.hive ∧
    (pulseEnd s).sec = s.sec ∧ (pulseEnd s).jtag = s.jtag ∧ (pulseEnd s).orf = s.orf ∧
    (pulseEnd s).pending = s.pending ∧ (pulseEnd s).free = s.free := by
  simp [pulseEnd]

@[simp] theorem degradedExit_blocks (s : State) :
    (degradedExit s).conf = s.conf ∧ (degradedExit s).adm = s.adm ∧ (degradedExit s).store = s.store ∧
    (degradedExit s).dram = s.dram ∧ (degradedExit s).harv = s.harv ∧ (degradedExit s).nand = s.nand ∧
    (degradedExit s).ret = s.ret ∧ (degradedExit s).arr = s.arr ∧ (degradedExit s).hive = s.hive ∧
    (degradedExit s).sec = s.sec ∧ (degradedExit s).jtag = s.jtag ∧ (degradedExit s).orf = s.orf ∧
    (degradedExit s).pending = s.pending ∧ (degradedExit s).free = s.free := by
  simp [degradedExit]

@[simp] theorem applyInject_blocks (data : Word) (be : ByteEn) (s : State) :
    (applyInject data be s).adm = s.adm ∧ (applyInject data be s).store = s.store ∧ (applyInject data be s).dram = s.dram ∧
    (applyInject data be s).harv = s.harv ∧ (applyInject data be s).nand = s.nand ∧ (applyInject data be s).ret = s.ret ∧
    (applyInject data be s).arr = s.arr ∧ (applyInject data be s).hive = s.hive ∧ (applyInject data be s).sec = s.sec ∧
    (applyInject data be s).jtag = s.jtag ∧ (applyInject data be s).orf = s.orf ∧ (applyInject data be s).pending = s.pending ∧
    (applyInject data be s).free = s.free := by
  simp [applyInject]

end Sys2Proof.Machine
end

