-- ==== Sys2Proof/Laws/BlocksSecu.lean ====
section
/-! SUPPORT. Which blocks of State each operation of Machine/Secu.lean leaves alone. -/

namespace Sys2Proof.Machine

@[simp] theorem applyLife_blocks (data : Word) (be : ByteEn) (s : State) :
    (applyLife data be s).conf = s.conf ∧ (applyLife data be s).adm = s.adm ∧ (applyLife data be s).store = s.store ∧
    (applyLife data be s).dram = s.dram ∧ (applyLife data be s).harv = s.harv ∧ (applyLife data be s).nand = s.nand ∧
    (applyLife data be s).ret = s.ret ∧ (applyLife data be s).arr = s.arr ∧ (applyLife data be s).hive = s.hive ∧
    (applyLife data be s).jtag = s.jtag ∧ (applyLife data be s).orf = s.orf ∧ (applyLife data be s).pending = s.pending ∧
    (applyLife data be s).free = s.free := by
  simp only [applyLife]; (repeat' split) <;> simp

@[simp] theorem eraseKeys_blocks (s : State) :
    (eraseKeys s).top = s.top ∧ (eraseKeys s).conf = s.conf ∧ (eraseKeys s).fr = s.fr ∧
    (eraseKeys s).host = s.host ∧ (eraseKeys s).ring = s.ring ∧ (eraseKeys s).adm = s.adm ∧
    (eraseKeys s).scout = s.scout ∧ (eraseKeys s).store = s.store ∧ (eraseKeys s).dram = s.dram ∧
    (eraseKeys s).harv = s.harv ∧ (eraseKeys s).nand = s.nand ∧ (eraseKeys s).ret = s.ret ∧
    (eraseKeys s).hive = s.hive ∧ (eraseKeys s).tally = s.tally ∧ (eraseKeys s).jtag = s.jtag ∧
    (eraseKeys s).orf = s.orf ∧ (eraseKeys s).weave = s.weave ∧ (eraseKeys s).pending = s.pending ∧
    (eraseKeys s).free = s.free := by
  simp [eraseKeys]

@[simp] theorem endPlaced_blocks (s : State) :
    (endPlaced s).top = s.top ∧ (endPlaced s).conf = s.conf ∧ (endPlaced s).fr = s.fr ∧ (endPlaced s).host = s.host ∧
    (endPlaced s).ring = s.ring ∧ (endPlaced s).adm = s.adm ∧ (endPlaced s).scout = s.scout ∧
    (endPlaced s).store = s.store ∧ (endPlaced s).dram = s.dram ∧ (endPlaced s).harv = s.harv ∧ (endPlaced s).ret = s.ret ∧
    (endPlaced s).hive = s.hive ∧ (endPlaced s).tally = s.tally ∧ (endPlaced s).sec = s.sec ∧ (endPlaced s).jtag = s.jtag ∧
    (endPlaced s).orf = s.orf ∧ (endPlaced s).weave = s.weave ∧ (endPlaced s).pending = s.pending ∧
    (endPlaced s).free = s.free := by
  simp [endPlaced]

@[simp] theorem lifeEffect_blocks (cmd : Nat) (s : State) :
    (lifeEffect cmd s).top = s.top ∧ (lifeEffect cmd s).conf = s.conf ∧ (lifeEffect cmd s).fr = s.fr ∧
    (lifeEffect cmd s).host = s.host ∧ (lifeEffect cmd s).ring = s.ring ∧ (lifeEffect cmd s).adm = s.adm ∧
    (lifeEffect cmd s).scout = s.scout ∧ (lifeEffect cmd s).store = s.store ∧ (lifeEffect cmd s).dram = s.dram ∧
    (lifeEffect cmd s).harv = s.harv ∧ (lifeEffect cmd s).ret = s.ret ∧ (lifeEffect cmd s).hive = s.hive ∧
    (lifeEffect cmd s).tally = s.tally ∧ (lifeEffect cmd s).jtag = s.jtag ∧ (lifeEffect cmd s).orf = s.orf ∧
    (lifeEffect cmd s).weave = s.weave ∧ (lifeEffect cmd s).pending = s.pending := by
  simp [lifeEffect]

@[simp] theorem lifeDone_blocks (ok : Bool) (s : State) :
    (lifeDone ok s).conf = s.conf ∧ (lifeDone ok s).adm = s.adm ∧ (lifeDone ok s).store = s.store ∧
    (lifeDone ok s).dram = s.dram ∧ (lifeDone ok s).harv = s.harv ∧ (lifeDone ok s).ret = s.ret ∧
    (lifeDone ok s).hive = s.hive ∧ (lifeDone ok s).jtag = s.jtag ∧ (lifeDone ok s).orf = s.orf ∧
    (lifeDone ok s).pending = s.pending := by
  unfold lifeDone; split <;> simp

@[simp] theorem keyFail_blocks (code : Nat) (s : State) :
    (keyFail code s).top = s.top ∧ (keyFail code s).conf = s.conf ∧ (keyFail code s).fr = s.fr ∧
    (keyFail code s).host = s.host ∧ (keyFail code s).ring = s.ring ∧ (keyFail code s).adm = s.adm ∧
    (keyFail code s).scout = s.scout ∧ (keyFail code s).store = s.store ∧ (keyFail code s).dram = s.dram ∧
    (keyFail code s).harv = s.harv ∧ (keyFail code s).nand = s.nand ∧ (keyFail code s).ret = s.ret ∧
    (keyFail code s).arr = s.arr ∧ (keyFail code s).hive = s.hive ∧ (keyFail code s).tally = s.tally ∧
    (keyFail code s).jtag = s.jtag ∧ (keyFail code s).orf = s.orf ∧ (keyFail code s).weave = s.weave ∧
    (keyFail code s).pending = s.pending ∧ (keyFail code s).free = s.free := by
  simp [keyFail]

@[simp] theorem stageHalf_blocks (idx : Nat) (d : BitVec 16) (s : State) :
    (stageHalf idx d s).top = s.top ∧ (stageHalf idx d s).conf = s.conf ∧ (stageHalf idx d s).fr = s.fr ∧
    (stageHalf idx d s).host = s.host ∧ (stageHalf idx d s).ring = s.ring ∧ (stageHalf idx d s).adm = s.adm ∧
    (stageHalf idx d s).scout = s.scout ∧ (stageHalf idx d s).store = s.store ∧ (stageHalf idx d s).dram = s.dram ∧
    (stageHalf idx d s).harv = s.harv ∧ (stageHalf idx d s).nand = s.nand ∧ (stageHalf idx d s).ret = s.ret ∧
    (stageHalf idx d s).arr = s.arr ∧ (stageHalf idx d s).hive = s.hive ∧ (stageHalf idx d s).tally = s.tally ∧
    (stageHalf idx d s).jtag = s.jtag ∧ (stageHalf idx d s).orf = s.orf ∧ (stageHalf idx d s).weave = s.weave ∧
    (stageHalf idx d s).pending = s.pending ∧ (stageHalf idx d s).free = s.free := by
  simp [stageHalf]

@[simp] theorem keyStart_blocks (op : Nat) (slot : Nat) (idx : Nat) (d : BitVec 16) (s : State) :
    (keyStart op slot idx d s).top = s.top ∧ (keyStart op slot idx d s).conf = s.conf ∧ (keyStart op slot idx d s).fr = s.fr ∧
    (keyStart op slot idx d s).host = s.host ∧ (keyStart op slot idx d s).ring = s.ring ∧ (keyStart op slot idx d s).adm = s.adm ∧
    (keyStart op slot idx d s).scout = s.scout ∧ (keyStart op slot idx d s).store = s.store ∧ (keyStart op slot idx d s).dram = s.dram ∧
    (keyStart op slot idx d s).harv = s.harv ∧ (keyStart op slot idx d s).nand = s.nand ∧ (keyStart op slot idx d s).ret = s.ret ∧
    (keyStart op slot idx d s).arr = s.arr ∧ (keyStart op slot idx d s).hive = s.hive ∧ (keyStart op slot idx d s).tally = s.tally ∧
    (keyStart op slot idx d s).jtag = s.jtag ∧ (keyStart op slot idx d s).orf = s.orf ∧ (keyStart op slot idx d s).weave = s.weave ∧
    (keyStart op slot idx d s).pending = s.pending ∧ (keyStart op slot idx d s).free = s.free := by
  simp [keyStart]

@[simp] theorem applyKeyCtrl_blocks (data : Word) (be : ByteEn) (s : State) :
    (applyKeyCtrl data be s).conf = s.conf ∧ (applyKeyCtrl data be s).adm = s.adm ∧ (applyKeyCtrl data be s).store = s.store ∧
    (applyKeyCtrl data be s).dram = s.dram ∧ (applyKeyCtrl data be s).harv = s.harv ∧ (applyKeyCtrl data be s).nand = s.nand ∧
    (applyKeyCtrl data be s).ret = s.ret ∧ (applyKeyCtrl data be s).arr = s.arr ∧ (applyKeyCtrl data be s).hive = s.hive ∧
    (applyKeyCtrl data be s).jtag = s.jtag ∧ (applyKeyCtrl data be s).orf = s.orf ∧ (applyKeyCtrl data be s).pending = s.pending ∧
    (applyKeyCtrl data be s).free = s.free := by
  simp only [applyKeyCtrl]; (repeat' split) <;> simp

@[simp] theorem putSlot_blocks (slot : Nat) (v : Slot) (s : State) :
    (putSlot slot v s).top = s.top ∧ (putSlot slot v s).conf = s.conf ∧ (putSlot slot v s).fr = s.fr ∧
    (putSlot slot v s).host = s.host ∧ (putSlot slot v s).ring = s.ring ∧ (putSlot slot v s).adm = s.adm ∧
    (putSlot slot v s).scout = s.scout ∧ (putSlot slot v s).store = s.store ∧ (putSlot slot v s).dram = s.dram ∧
    (putSlot slot v s).harv = s.harv ∧ (putSlot slot v s).nand = s.nand ∧ (putSlot slot v s).ret = s.ret ∧
    (putSlot slot v s).arr = s.arr ∧ (putSlot slot v s).hive = s.hive ∧ (putSlot slot v s).tally = s.tally ∧
    (putSlot slot v s).jtag = s.jtag ∧ (putSlot slot v s).orf = s.orf ∧ (putSlot slot v s).weave = s.weave ∧
    (putSlot slot v s).pending = s.pending ∧ (putSlot slot v s).free = s.free := by
  simp [putSlot]

@[simp] theorem keyEffect_blocks (op : Nat) (slot : Nat) (s : State) :
    (keyEffect op slot s).top = s.top ∧ (keyEffect op slot s).conf = s.conf ∧ (keyEffect op slot s).fr = s.fr ∧
    (keyEffect op slot s).host = s.host ∧ (keyEffect op slot s).ring = s.ring ∧ (keyEffect op slot s).adm = s.adm ∧
    (keyEffect op slot s).scout = s.scout ∧ (keyEffect op slot s).store = s.store ∧ (keyEffect op slot s).dram = s.dram ∧
    (keyEffect op slot s).harv = s.harv ∧ (keyEffect op slot s).nand = s.nand ∧ (keyEffect op slot s).ret = s.ret ∧
    (keyEffect op slot s).hive = s.hive ∧ (keyEffect op slot s).tally = s.tally ∧ (keyEffect op slot s).jtag = s.jtag ∧
    (keyEffect op slot s).orf = s.orf ∧ (keyEffect op slot s).weave = s.weave ∧ (keyEffect op slot s).pending = s.pending := by
  simp [keyEffect]

@[simp] theorem keyDone_blocks (ok : Bool) (s : State) :
    (keyDone ok s).top = s.top ∧ (keyDone ok s).conf = s.conf ∧ (keyDone ok s).fr = s.fr ∧ (keyDone ok s).host = s.host ∧
    (keyDone ok s).ring = s.ring ∧ (keyDone ok s).adm = s.adm ∧ (keyDone ok s).scout = s.scout ∧
    (keyDone ok s).store = s.store ∧ (keyDone ok s).dram = s.dram ∧ (keyDone ok s).harv = s.harv ∧
    (keyDone ok s).nand = s.nand ∧ (keyDone ok s).ret = s.ret ∧ (keyDone ok s).hive = s.hive ∧
    (keyDone ok s).tally = s.tally ∧ (keyDone ok s).jtag = s.jtag ∧ (keyDone ok s).orf = s.orf ∧
    (keyDone ok s).weave = s.weave ∧ (keyDone ok s).pending = s.pending := by
  unfold keyDone; split <;> simp

end Sys2Proof.Machine
end

