-- ==== Sys2Proof/Laws/BlocksWeave.lean ====
section
/-! SUPPORT. Which blocks of State each operation of Machine/Weave.lean leaves alone. -/

namespace Sys2Proof.Machine

@[simp] theorem putWeave_blocks (w : WeaveB) (s : State) :
    (putWeave w s).conf = s.conf ∧ (putWeave w s).adm = s.adm ∧ (putWeave w s).store = s.store ∧
    (putWeave w s).dram = s.dram ∧ (putWeave w s).harv = s.harv ∧ (putWeave w s).nand = s.nand ∧
    (putWeave w s).ret = s.ret ∧ (putWeave w s).arr = s.arr ∧ (putWeave w s).hive = s.hive ∧
    (putWeave w s).sec = s.sec ∧ (putWeave w s).jtag = s.jtag ∧ (putWeave w s).orf = s.orf ∧
    (putWeave w s).pending = s.pending ∧ (putWeave w s).free = s.free := by
  simp [putWeave]

@[simp] theorem masterChange_blocks (id : Option Nat) (s : State) :
    (masterChange id s).conf = s.conf ∧ (masterChange id s).adm = s.adm ∧ (masterChange id s).store = s.store ∧
    (masterChange id s).dram = s.dram ∧ (masterChange id s).harv = s.harv ∧ (masterChange id s).nand = s.nand ∧
    (masterChange id s).ret = s.ret ∧ (masterChange id s).arr = s.arr ∧ (masterChange id s).hive = s.hive ∧
    (masterChange id s).sec = s.sec ∧ (masterChange id s).jtag = s.jtag ∧ (masterChange id s).orf = s.orf ∧
    (masterChange id s).pending = s.pending ∧ (masterChange id s).free = s.free := by
  simp [masterChange]

@[simp] theorem weaveCrc_blocks (s : State) :
    (weaveCrc s).conf = s.conf ∧ (weaveCrc s).adm = s.adm ∧ (weaveCrc s).store = s.store ∧
    (weaveCrc s).dram = s.dram ∧ (weaveCrc s).harv = s.harv ∧ (weaveCrc s).nand = s.nand ∧
    (weaveCrc s).ret = s.ret ∧ (weaveCrc s).arr = s.arr ∧ (weaveCrc s).hive = s.hive ∧
    (weaveCrc s).sec = s.sec ∧ (weaveCrc s).jtag = s.jtag ∧ (weaveCrc s).orf = s.orf ∧
    (weaveCrc s).pending = s.pending ∧ (weaveCrc s).free = s.free := by
  simp [weaveCrc]

@[simp] theorem statusSend_blocks (swf : BitVec 16) (s : State) :
    (statusSend swf s).top = s.top ∧ (statusSend swf s).conf = s.conf ∧ (statusSend swf s).fr = s.fr ∧
    (statusSend swf s).host = s.host ∧ (statusSend swf s).ring = s.ring ∧ (statusSend swf s).adm = s.adm ∧
    (statusSend swf s).scout = s.scout ∧ (statusSend swf s).store = s.store ∧ (statusSend swf s).dram = s.dram ∧
    (statusSend swf s).harv = s.harv ∧ (statusSend swf s).nand = s.nand ∧ (statusSend swf s).ret = s.ret ∧
    (statusSend swf s).arr = s.arr ∧ (statusSend swf s).hive = s.hive ∧ (statusSend swf s).tally = s.tally ∧
    (statusSend swf s).sec = s.sec ∧ (statusSend swf s).jtag = s.jtag ∧ (statusSend swf s).orf = s.orf ∧
    (statusSend swf s).pending = s.pending ∧ (statusSend swf s).free = s.free := by
  simp [statusSend]

@[simp] theorem peerRecord_blocks (x : StatusIn) (s : State) :
    (peerRecord x s).top = s.top ∧ (peerRecord x s).conf = s.conf ∧ (peerRecord x s).fr = s.fr ∧
    (peerRecord x s).host = s.host ∧ (peerRecord x s).ring = s.ring ∧ (peerRecord x s).adm = s.adm ∧
    (peerRecord x s).scout = s.scout ∧ (peerRecord x s).store = s.store ∧ (peerRecord x s).dram = s.dram ∧
    (peerRecord x s).harv = s.harv ∧ (peerRecord x s).nand = s.nand ∧ (peerRecord x s).ret = s.ret ∧
    (peerRecord x s).arr = s.arr ∧ (peerRecord x s).hive = s.hive ∧ (peerRecord x s).tally = s.tally ∧
    (peerRecord x s).sec = s.sec ∧ (peerRecord x s).jtag = s.jtag ∧ (peerRecord x s).orf = s.orf ∧
    (peerRecord x s).pending = s.pending ∧ (peerRecord x s).free = s.free := by
  simp [peerRecord]

@[simp] theorem chargeStatus_blocks (x : StatusIn) (s : State) :
    (chargeStatus x s).conf = s.conf ∧ (chargeStatus x s).adm = s.adm ∧ (chargeStatus x s).dram = s.dram ∧
    (chargeStatus x s).harv = s.harv ∧ (chargeStatus x s).nand = s.nand ∧ (chargeStatus x s).ret = s.ret ∧
    (chargeStatus x s).arr = s.arr ∧ (chargeStatus x s).hive = s.hive ∧ (chargeStatus x s).sec = s.sec ∧
    (chargeStatus x s).jtag = s.jtag ∧ (chargeStatus x s).orf = s.orf ∧ (chargeStatus x s).pending = s.pending ∧
    (chargeStatus x s).free = s.free := by
  simp [chargeStatus]

@[simp] theorem dupFound_blocks (s : State) :
    (dupFound s).conf = s.conf ∧ (dupFound s).adm = s.adm ∧ (dupFound s).store = s.store ∧
    (dupFound s).dram = s.dram ∧ (dupFound s).harv = s.harv ∧ (dupFound s).nand = s.nand ∧
    (dupFound s).ret = s.ret ∧ (dupFound s).arr = s.arr ∧ (dupFound s).hive = s.hive ∧
    (dupFound s).sec = s.sec ∧ (dupFound s).jtag = s.jtag ∧ (dupFound s).orf = s.orf ∧
    (dupFound s).pending = s.pending ∧ (dupFound s).free = s.free := by
  simp [dupFound]

@[simp] theorem statusReceive_blocks (x : StatusIn) (s : State) :
    (statusReceive x s).conf = s.conf ∧ (statusReceive x s).adm = s.adm ∧ (statusReceive x s).dram = s.dram ∧
    (statusReceive x s).harv = s.harv ∧ (statusReceive x s).nand = s.nand ∧ (statusReceive x s).ret = s.ret ∧
    (statusReceive x s).arr = s.arr ∧ (statusReceive x s).hive = s.hive ∧ (statusReceive x s).sec = s.sec ∧
    (statusReceive x s).jtag = s.jtag ∧ (statusReceive x s).orf = s.orf ∧ (statusReceive x s).pending = s.pending ∧
    (statusReceive x s).free = s.free := by
  simp [statusReceive]

@[simp] theorem syncLoss_blocks (s : State) :
    (syncLoss s).conf = s.conf ∧ (syncLoss s).adm = s.adm ∧ (syncLoss s).store = s.store ∧
    (syncLoss s).dram = s.dram ∧ (syncLoss s).harv = s.harv ∧ (syncLoss s).nand = s.nand ∧
    (syncLoss s).ret = s.ret ∧ (syncLoss s).arr = s.arr ∧ (syncLoss s).hive = s.hive ∧
    (syncLoss s).sec = s.sec ∧ (syncLoss s).jtag = s.jtag ∧ (syncLoss s).orf = s.orf ∧
    (syncLoss s).pending = s.pending ∧ (syncLoss s).free = s.free := by
  simp [syncLoss]

@[simp] theorem syncRealign_blocks (s : State) :
    (syncRealign s).top = s.top ∧ (syncRealign s).conf = s.conf ∧ (syncRealign s).fr = s.fr ∧
    (syncRealign s).host = s.host ∧ (syncRealign s).ring = s.ring ∧ (syncRealign s).adm = s.adm ∧
    (syncRealign s).scout = s.scout ∧ (syncRealign s).store = s.store ∧ (syncRealign s).dram = s.dram ∧
    (syncRealign s).harv = s.harv ∧ (syncRealign s).nand = s.nand ∧ (syncRealign s).ret = s.ret ∧
    (syncRealign s).arr = s.arr ∧ (syncRealign s).hive = s.hive ∧ (syncRealign s).tally = s.tally ∧
    (syncRealign s).sec = s.sec ∧ (syncRealign s).jtag = s.jtag ∧ (syncRealign s).orf = s.orf ∧
    (syncRealign s).pending = s.pending ∧ (syncRealign s).free = s.free := by
  simp [syncRealign]

@[simp] theorem election_blocks (s : State) :
    (election s).conf = s.conf ∧ (election s).adm = s.adm ∧ (election s).store = s.store ∧
    (election s).dram = s.dram ∧ (election s).harv = s.harv ∧ (election s).nand = s.nand ∧
    (election s).ret = s.ret ∧ (election s).arr = s.arr ∧ (election s).hive = s.hive ∧
    (election s).sec = s.sec ∧ (election s).jtag = s.jtag ∧ (election s).orf = s.orf ∧
    (election s).pending = s.pending ∧ (election s).free = s.free := by
  simp [election]

@[simp] theorem lockSet_blocks (s : State) :
    (lockSet s).conf = s.conf ∧ (lockSet s).adm = s.adm ∧ (lockSet s).store = s.store ∧
    (lockSet s).dram = s.dram ∧ (lockSet s).harv = s.harv ∧ (lockSet s).nand = s.nand ∧
    (lockSet s).ret = s.ret ∧ (lockSet s).arr = s.arr ∧ (lockSet s).hive = s.hive ∧
    (lockSet s).sec = s.sec ∧ (lockSet s).jtag = s.jtag ∧ (lockSet s).orf = s.orf ∧
    (lockSet s).pending = s.pending ∧ (lockSet s).free = s.free := by
  simp [lockSet]

@[simp] theorem lockLoss_blocks (s : State) :
    (lockLoss s).conf = s.conf ∧ (lockLoss s).adm = s.adm ∧ (lockLoss s).store = s.store ∧
    (lockLoss s).dram = s.dram ∧ (lockLoss s).harv = s.harv ∧ (lockLoss s).nand = s.nand ∧
    (lockLoss s).ret = s.ret ∧ (lockLoss s).arr = s.arr ∧ (lockLoss s).hive = s.hive ∧
    (lockLoss s).sec = s.sec ∧ (lockLoss s).jtag = s.jtag ∧ (lockLoss s).orf = s.orf ∧
    (lockLoss s).pending = s.pending ∧ (lockLoss s).free = s.free := by
  simp [lockLoss]

@[simp] theorem frozenSet_blocks (s : State) :
    (frozenSet s).conf = s.conf ∧ (frozenSet s).adm = s.adm ∧ (frozenSet s).store = s.store ∧
    (frozenSet s).dram = s.dram ∧ (frozenSet s).harv = s.harv ∧ (frozenSet s).nand = s.nand ∧
    (frozenSet s).ret = s.ret ∧ (frozenSet s).arr = s.arr ∧ (frozenSet s).hive = s.hive ∧
    (frozenSet s).sec = s.sec ∧ (frozenSet s).jtag = s.jtag ∧ (frozenSet s).orf = s.orf ∧
    (frozenSet s).pending = s.pending ∧ (frozenSet s).free = s.free := by
  simp [frozenSet]

@[simp] theorem peerTimeout_blocks (id : Nat) (s : State) :
    (peerTimeout id s).top = s.top ∧ (peerTimeout id s).conf = s.conf ∧ (peerTimeout id s).fr = s.fr ∧
    (peerTimeout id s).host = s.host ∧ (peerTimeout id s).ring = s.ring ∧ (peerTimeout id s).adm = s.adm ∧
    (peerTimeout id s).scout = s.scout ∧ (peerTimeout id s).store = s.store ∧ (peerTimeout id s).dram = s.dram ∧
    (peerTimeout id s).harv = s.harv ∧ (peerTimeout id s).nand = s.nand ∧ (peerTimeout id s).ret = s.ret ∧
    (peerTimeout id s).arr = s.arr ∧ (peerTimeout id s).hive = s.hive ∧ (peerTimeout id s).tally = s.tally ∧
    (peerTimeout id s).sec = s.sec ∧ (peerTimeout id s).jtag = s.jtag ∧ (peerTimeout id s).orf = s.orf ∧
    (peerTimeout id s).pending = s.pending ∧ (peerTimeout id s).free = s.free := by
  simp [peerTimeout]

@[simp] theorem lineLowNow_blocks (s : State) :
    (lineLowNow s).conf = s.conf ∧ (lineLowNow s).adm = s.adm ∧ (lineLowNow s).store = s.store ∧
    (lineLowNow s).dram = s.dram ∧ (lineLowNow s).harv = s.harv ∧ (lineLowNow s).nand = s.nand ∧
    (lineLowNow s).ret = s.ret ∧ (lineLowNow s).arr = s.arr ∧ (lineLowNow s).hive = s.hive ∧
    (lineLowNow s).sec = s.sec ∧ (lineLowNow s).jtag = s.jtag ∧ (lineLowNow s).orf = s.orf ∧
    (lineLowNow s).pending = s.pending ∧ (lineLowNow s).free = s.free := by
  simp [lineLowNow]

@[simp] theorem roundStart_blocks (s : State) :
    (roundStart s).top = s.top ∧ (roundStart s).conf = s.conf ∧ (roundStart s).fr = s.fr ∧
    (roundStart s).host = s.host ∧ (roundStart s).ring = s.ring ∧ (roundStart s).adm = s.adm ∧
    (roundStart s).scout = s.scout ∧ (roundStart s).store = s.store ∧ (roundStart s).dram = s.dram ∧
    (roundStart s).harv = s.harv ∧ (roundStart s).nand = s.nand ∧ (roundStart s).ret = s.ret ∧
    (roundStart s).arr = s.arr ∧ (roundStart s).hive = s.hive ∧ (roundStart s).tally = s.tally ∧
    (roundStart s).sec = s.sec ∧ (roundStart s).jtag = s.jtag ∧ (roundStart s).orf = s.orf ∧
    (roundStart s).pending = s.pending ∧ (roundStart s).free = s.free := by
  simp (disch := (intros; (repeat' split) <;> try simp)) [roundStart]

@[simp] theorem masterSend_blocks (s : State) :
    (masterSend s).conf = s.conf ∧ (masterSend s).adm = s.adm ∧ (masterSend s).store = s.store ∧
    (masterSend s).dram = s.dram ∧ (masterSend s).harv = s.harv ∧ (masterSend s).nand = s.nand ∧
    (masterSend s).ret = s.ret ∧ (masterSend s).arr = s.arr ∧ (masterSend s).hive = s.hive ∧
    (masterSend s).sec = s.sec ∧ (masterSend s).jtag = s.jtag ∧ (masterSend s).orf = s.orf ∧
    (masterSend s).pending = s.pending ∧ (masterSend s).free = s.free := by
  simp [masterSend]

@[simp] theorem weaveCount_blocks (s : State) :
    (weaveCount s).top = s.top ∧ (weaveCount s).conf = s.conf ∧ (weaveCount s).fr = s.fr ∧
    (weaveCount s).host = s.host ∧ (weaveCount s).ring = s.ring ∧ (weaveCount s).adm = s.adm ∧
    (weaveCount s).scout = s.scout ∧ (weaveCount s).store = s.store ∧ (weaveCount s).dram = s.dram ∧
    (weaveCount s).harv = s.harv ∧ (weaveCount s).nand = s.nand ∧ (weaveCount s).ret = s.ret ∧
    (weaveCount s).arr = s.arr ∧ (weaveCount s).hive = s.hive ∧ (weaveCount s).tally = s.tally ∧
    (weaveCount s).sec = s.sec ∧ (weaveCount s).jtag = s.jtag ∧ (weaveCount s).orf = s.orf ∧
    (weaveCount s).pending = s.pending ∧ (weaveCount s).free = s.free := by
  simp [weaveCount]

@[simp] theorem stepDown_blocks (s : State) :
    (stepDown s).conf = s.conf ∧ (stepDown s).adm = s.adm ∧ (stepDown s).store = s.store ∧
    (stepDown s).dram = s.dram ∧ (stepDown s).harv = s.harv ∧ (stepDown s).nand = s.nand ∧
    (stepDown s).ret = s.ret ∧ (stepDown s).arr = s.arr ∧ (stepDown s).hive = s.hive ∧
    (stepDown s).sec = s.sec ∧ (stepDown s).jtag = s.jtag ∧ (stepDown s).orf = s.orf ∧
    (stepDown s).pending = s.pending ∧ (stepDown s).free = s.free := by
  simp [stepDown]

@[simp] theorem fracApply_blocks (s : State) :
    (fracApply s).conf = s.conf ∧ (fracApply s).adm = s.adm ∧ (fracApply s).store = s.store ∧
    (fracApply s).dram = s.dram ∧ (fracApply s).harv = s.harv ∧ (fracApply s).nand = s.nand ∧
    (fracApply s).ret = s.ret ∧ (fracApply s).arr = s.arr ∧ (fracApply s).hive = s.hive ∧
    (fracApply s).sec = s.sec ∧ (fracApply s).jtag = s.jtag ∧ (fracApply s).orf = s.orf ∧
    (fracApply s).pending = s.pending ∧ (fracApply s).free = s.free := by
  simp [fracApply]

@[simp] theorem noChgCheck_blocks (s : State) :
    (noChgCheck s).conf = s.conf ∧ (noChgCheck s).adm = s.adm ∧ (noChgCheck s).store = s.store ∧
    (noChgCheck s).dram = s.dram ∧ (noChgCheck s).harv = s.harv ∧ (noChgCheck s).nand = s.nand ∧
    (noChgCheck s).ret = s.ret ∧ (noChgCheck s).arr = s.arr ∧ (noChgCheck s).hive = s.hive ∧
    (noChgCheck s).sec = s.sec ∧ (noChgCheck s).jtag = s.jtag ∧ (noChgCheck s).orf = s.orf ∧
    (noChgCheck s).pending = s.pending ∧ (noChgCheck s).free = s.free := by
  simp [noChgCheck]

@[simp] theorem weaveBoundary_blocks (s : State) :
    (weaveBoundary s).conf = s.conf ∧ (weaveBoundary s).adm = s.adm ∧ (weaveBoundary s).store = s.store ∧
    (weaveBoundary s).dram = s.dram ∧ (weaveBoundary s).harv = s.harv ∧ (weaveBoundary s).nand = s.nand ∧
    (weaveBoundary s).ret = s.ret ∧ (weaveBoundary s).arr = s.arr ∧ (weaveBoundary s).hive = s.hive ∧
    (weaveBoundary s).sec = s.sec ∧ (weaveBoundary s).jtag = s.jtag ∧ (weaveBoundary s).orf = s.orf ∧
    (weaveBoundary s).pending = s.pending ∧ (weaveBoundary s).free = s.free := by
  simp [weaveBoundary]

end Sys2Proof.Machine
end

