-- ==== Sys2Proof/Laws/BlocksHost.lean ====
section
/-! SUPPORT. Which blocks of State each operation of Machine/Host.lean leaves alone. -/

namespace Sys2Proof.Machine

@[simp] theorem clearInt_blocks (v : Word) (s : State) :
    (clearInt v s).conf = s.conf ∧ (clearInt v s).adm = s.adm ∧ (clearInt v s).store = s.store ∧
    (clearInt v s).dram = s.dram ∧ (clearInt v s).harv = s.harv ∧ (clearInt v s).nand = s.nand ∧
    (clearInt v s).ret = s.ret ∧ (clearInt v s).arr = s.arr ∧ (clearInt v s).hive = s.hive ∧
    (clearInt v s).sec = s.sec ∧ (clearInt v s).jtag = s.jtag ∧ (clearInt v s).orf = s.orf ∧
    (clearInt v s).pending = s.pending ∧ (clearInt v s).free = s.free := by
  simp [clearInt]

@[simp] theorem forceInt_blocks (v : Word) (s : State) :
    (forceInt v s).conf = s.conf ∧ (forceInt v s).adm = s.adm ∧ (forceInt v s).store = s.store ∧
    (forceInt v s).dram = s.dram ∧ (forceInt v s).harv = s.harv ∧ (forceInt v s).nand = s.nand ∧
    (forceInt v s).ret = s.ret ∧ (forceInt v s).arr = s.arr ∧ (forceInt v s).hive = s.hive ∧
    (forceInt v s).sec = s.sec ∧ (forceInt v s).jtag = s.jtag ∧ (forceInt v s).orf = s.orf ∧
    (forceInt v s).pending = s.pending ∧ (forceInt v s).free = s.free := by
  simp [forceInt]

@[simp] theorem applyCharge_blocks (data : Word) (mask : Word) (s : State) :
    (applyCharge data mask s).adm = s.adm ∧ (applyCharge data mask s).dram = s.dram ∧ (applyCharge data mask s).harv = s.harv ∧
    (applyCharge data mask s).nand = s.nand ∧ (applyCharge data mask s).ret = s.ret ∧ (applyCharge data mask s).arr = s.arr ∧
    (applyCharge data mask s).hive = s.hive ∧ (applyCharge data mask s).sec = s.sec ∧ (applyCharge data mask s).jtag = s.jtag ∧
    (applyCharge data mask s).orf = s.orf ∧ (applyCharge data mask s).pending = s.pending ∧ (applyCharge data mask s).free = s.free := by
  simp [applyCharge]

@[simp] theorem applyMbox_blocks (data : Word) (s : State) :
    (applyMbox data s).top = s.top ∧ (applyMbox data s).conf = s.conf ∧ (applyMbox data s).fr = s.fr ∧
    (applyMbox data s).ring = s.ring ∧ (applyMbox data s).adm = s.adm ∧ (applyMbox data s).scout = s.scout ∧
    (applyMbox data s).store = s.store ∧ (applyMbox data s).dram = s.dram ∧ (applyMbox data s).harv = s.harv ∧
    (applyMbox data s).nand = s.nand ∧ (applyMbox data s).ret = s.ret ∧ (applyMbox data s).arr = s.arr ∧
    (applyMbox data s).hive = s.hive ∧ (applyMbox data s).tally = s.tally ∧ (applyMbox data s).sec = s.sec ∧
    (applyMbox data s).jtag = s.jtag ∧ (applyMbox data s).orf = s.orf ∧ (applyMbox data s).weave = s.weave ∧
    (applyMbox data s).pending = s.pending ∧ (applyMbox data s).free = s.free := by
  simp [applyMbox]

@[simp] theorem applyRtc_blocks (data : Word) (mask : Word) (s : State) :
    (applyRtc data mask s).top = s.top ∧ (applyRtc data mask s).conf = s.conf ∧ (applyRtc data mask s).fr = s.fr ∧
    (applyRtc data mask s).host = s.host ∧ (applyRtc data mask s).ring = s.ring ∧ (applyRtc data mask s).adm = s.adm ∧
    (applyRtc data mask s).dram = s.dram ∧ (applyRtc data mask s).harv = s.harv ∧ (applyRtc data mask s).nand = s.nand ∧
    (applyRtc data mask s).ret = s.ret ∧ (applyRtc data mask s).arr = s.arr ∧ (applyRtc data mask s).hive = s.hive ∧
    (applyRtc data mask s).tally = s.tally ∧ (applyRtc data mask s).sec = s.sec ∧ (applyRtc data mask s).jtag = s.jtag ∧
    (applyRtc data mask s).orf = s.orf ∧ (applyRtc data mask s).weave = s.weave ∧ (applyRtc data mask s).pending = s.pending ∧
    (applyRtc data mask s).free = s.free := by
  simp [applyRtc]

@[simp] theorem postEnter_blocks (e : PostEntry) (s : State) :
    (postEnter e s).top = s.top ∧ (postEnter e s).conf = s.conf ∧ (postEnter e s).fr = s.fr ∧
    (postEnter e s).ring = s.ring ∧ (postEnter e s).adm = s.adm ∧ (postEnter e s).scout = s.scout ∧
    (postEnter e s).store = s.store ∧ (postEnter e s).dram = s.dram ∧ (postEnter e s).harv = s.harv ∧
    (postEnter e s).nand = s.nand ∧ (postEnter e s).ret = s.ret ∧ (postEnter e s).arr = s.arr ∧
    (postEnter e s).hive = s.hive ∧ (postEnter e s).tally = s.tally ∧ (postEnter e s).sec = s.sec ∧
    (postEnter e s).jtag = s.jtag ∧ (postEnter e s).orf = s.orf ∧ (postEnter e s).weave = s.weave ∧
    (postEnter e s).pending = s.pending ∧ (postEnter e s).free = s.free := by
  simp [postEnter]

@[simp] theorem hrstAssert_blocks (s : State) :
    (hrstAssert s).adm = s.adm ∧ (hrstAssert s).store = s.store ∧ (hrstAssert s).dram = s.dram ∧
    (hrstAssert s).harv = s.harv ∧ (hrstAssert s).nand = s.nand ∧ (hrstAssert s).ret = s.ret ∧
    (hrstAssert s).arr = s.arr ∧ (hrstAssert s).hive = s.hive ∧ (hrstAssert s).jtag = s.jtag ∧
    (hrstAssert s).orf = s.orf ∧ (hrstAssert s).pending = s.pending ∧ (hrstAssert s).free = s.free := by
  simp [hrstAssert]

@[simp] theorem hrstRelease_blocks (s : State) :
    (hrstRelease s).conf = s.conf ∧ (hrstRelease s).adm = s.adm ∧ (hrstRelease s).store = s.store ∧
    (hrstRelease s).dram = s.dram ∧ (hrstRelease s).harv = s.harv ∧ (hrstRelease s).nand = s.nand ∧
    (hrstRelease s).ret = s.ret ∧ (hrstRelease s).arr = s.arr ∧ (hrstRelease s).hive = s.hive ∧
    (hrstRelease s).sec = s.sec ∧ (hrstRelease s).jtag = s.jtag ∧ (hrstRelease s).orf = s.orf ∧
    (hrstRelease s).pending = s.pending ∧ (hrstRelease s).free = s.free := by
  simp [hrstRelease]

@[simp] theorem syncStart_blocks (s : State) :
    (syncStart s).top = s.top ∧ (syncStart s).conf = s.conf ∧ (syncStart s).fr = s.fr ∧
    (syncStart s).ring = s.ring ∧ (syncStart s).adm = s.adm ∧ (syncStart s).scout = s.scout ∧
    (syncStart s).store = s.store ∧ (syncStart s).dram = s.dram ∧ (syncStart s).harv = s.harv ∧
    (syncStart s).nand = s.nand ∧ (syncStart s).ret = s.ret ∧ (syncStart s).arr = s.arr ∧
    (syncStart s).hive = s.hive ∧ (syncStart s).tally = s.tally ∧ (syncStart s).sec = s.sec ∧
    (syncStart s).jtag = s.jtag ∧ (syncStart s).orf = s.orf ∧ (syncStart s).weave = s.weave ∧
    (syncStart s).pending = s.pending ∧ (syncStart s).free = s.free := by
  simp [syncStart]

@[simp] theorem readInt_blocks (s : State) :
    (readInt s).2.top = s.top ∧ (readInt s).2.conf = s.conf ∧ (readInt s).2.fr = s.fr ∧
    (readInt s).2.ring = s.ring ∧ (readInt s).2.adm = s.adm ∧ (readInt s).2.scout = s.scout ∧
    (readInt s).2.store = s.store ∧ (readInt s).2.dram = s.dram ∧ (readInt s).2.harv = s.harv ∧
    (readInt s).2.nand = s.nand ∧ (readInt s).2.ret = s.ret ∧ (readInt s).2.arr = s.arr ∧
    (readInt s).2.hive = s.hive ∧ (readInt s).2.tally = s.tally ∧ (readInt s).2.sec = s.sec ∧
    (readInt s).2.jtag = s.jtag ∧ (readInt s).2.orf = s.orf ∧ (readInt s).2.weave = s.weave ∧
    (readInt s).2.pending = s.pending ∧ (readInt s).2.free = s.free := by
  simp [readInt]

@[simp] theorem readVin_blocks (s : State) :
    (readVin s).2.top = s.top ∧ (readVin s).2.conf = s.conf ∧ (readVin s).2.fr = s.fr ∧
    (readVin s).2.host = s.host ∧ (readVin s).2.ring = s.ring ∧ (readVin s).2.adm = s.adm ∧
    (readVin s).2.store = s.store ∧ (readVin s).2.dram = s.dram ∧ (readVin s).2.harv = s.harv ∧
    (readVin s).2.nand = s.nand ∧ (readVin s).2.ret = s.ret ∧ (readVin s).2.arr = s.arr ∧
    (readVin s).2.hive = s.hive ∧ (readVin s).2.tally = s.tally ∧ (readVin s).2.sec = s.sec ∧
    (readVin s).2.jtag = s.jtag ∧ (readVin s).2.orf = s.orf ∧ (readVin s).2.weave = s.weave ∧
    (readVin s).2.pending = s.pending ∧ (readVin s).2.free = s.free := by
  simp [readVin]

@[simp] theorem readVstore_blocks (s : State) :
    (readVstore s).2.top = s.top ∧ (readVstore s).2.conf = s.conf ∧ (readVstore s).2.fr = s.fr ∧
    (readVstore s).2.host = s.host ∧ (readVstore s).2.ring = s.ring ∧ (readVstore s).2.adm = s.adm ∧
    (readVstore s).2.store = s.store ∧ (readVstore s).2.dram = s.dram ∧ (readVstore s).2.harv = s.harv ∧
    (readVstore s).2.nand = s.nand ∧ (readVstore s).2.ret = s.ret ∧ (readVstore s).2.arr = s.arr ∧
    (readVstore s).2.hive = s.hive ∧ (readVstore s).2.tally = s.tally ∧ (readVstore s).2.sec = s.sec ∧
    (readVstore s).2.jtag = s.jtag ∧ (readVstore s).2.orf = s.orf ∧ (readVstore s).2.weave = s.weave ∧
    (readVstore s).2.pending = s.pending ∧ (readVstore s).2.free = s.free := by
  simp [readVstore]

@[simp] theorem readThrottle_blocks (s : State) :
    (readThrottle s).2.top = s.top ∧ (readThrottle s).2.conf = s.conf ∧ (readThrottle s).2.host = s.host ∧
    (readThrottle s).2.ring = s.ring ∧ (readThrottle s).2.adm = s.adm ∧ (readThrottle s).2.scout = s.scout ∧
    (readThrottle s).2.store = s.store ∧ (readThrottle s).2.dram = s.dram ∧ (readThrottle s).2.harv = s.harv ∧
    (readThrottle s).2.nand = s.nand ∧ (readThrottle s).2.ret = s.ret ∧ (readThrottle s).2.arr = s.arr ∧
    (readThrottle s).2.hive = s.hive ∧ (readThrottle s).2.tally = s.tally ∧ (readThrottle s).2.sec = s.sec ∧
    (readThrottle s).2.jtag = s.jtag ∧ (readThrottle s).2.orf = s.orf ∧ (readThrottle s).2.weave = s.weave ∧
    (readThrottle s).2.pending = s.pending ∧ (readThrottle s).2.free = s.free := by
  simp [readThrottle]

@[simp] theorem readFaultPin_blocks (s : State) :
    (readFaultPin s).2.conf = s.conf ∧ (readFaultPin s).2.adm = s.adm ∧ (readFaultPin s).2.store = s.store ∧
    (readFaultPin s).2.dram = s.dram ∧ (readFaultPin s).2.harv = s.harv ∧ (readFaultPin s).2.nand = s.nand ∧
    (readFaultPin s).2.ret = s.ret ∧ (readFaultPin s).2.arr = s.arr ∧ (readFaultPin s).2.hive = s.hive ∧
    (readFaultPin s).2.sec = s.sec ∧ (readFaultPin s).2.jtag = s.jtag ∧ (readFaultPin s).2.orf = s.orf ∧
    (readFaultPin s).2.pending = s.pending ∧ (readFaultPin s).2.free = s.free := by
  simp [readFaultPin]

@[simp] theorem readRtc_blocks (s : State) :
    (readRtc s).2.top = s.top ∧ (readRtc s).2.conf = s.conf ∧ (readRtc s).2.fr = s.fr ∧
    (readRtc s).2.host = s.host ∧ (readRtc s).2.ring = s.ring ∧ (readRtc s).2.adm = s.adm ∧
    (readRtc s).2.store = s.store ∧ (readRtc s).2.dram = s.dram ∧ (readRtc s).2.harv = s.harv ∧
    (readRtc s).2.nand = s.nand ∧ (readRtc s).2.ret = s.ret ∧ (readRtc s).2.arr = s.arr ∧
    (readRtc s).2.hive = s.hive ∧ (readRtc s).2.tally = s.tally ∧ (readRtc s).2.sec = s.sec ∧
    (readRtc s).2.jtag = s.jtag ∧ (readRtc s).2.orf = s.orf ∧ (readRtc s).2.weave = s.weave ∧
    (readRtc s).2.pending = s.pending ∧ (readRtc s).2.free = s.free := by
  simp [readRtc]

@[simp] theorem readC2h_blocks (s : State) :
    (readC2h s).2.top = s.top ∧ (readC2h s).2.conf = s.conf ∧ (readC2h s).2.fr = s.fr ∧
    (readC2h s).2.ring = s.ring ∧ (readC2h s).2.adm = s.adm ∧ (readC2h s).2.scout = s.scout ∧
    (readC2h s).2.store = s.store ∧ (readC2h s).2.dram = s.dram ∧ (readC2h s).2.harv = s.harv ∧
    (readC2h s).2.nand = s.nand ∧ (readC2h s).2.ret = s.ret ∧ (readC2h s).2.arr = s.arr ∧
    (readC2h s).2.hive = s.hive ∧ (readC2h s).2.tally = s.tally ∧ (readC2h s).2.sec = s.sec ∧
    (readC2h s).2.jtag = s.jtag ∧ (readC2h s).2.orf = s.orf ∧ (readC2h s).2.weave = s.weave ∧
    (readC2h s).2.pending = s.pending ∧ (readC2h s).2.free = s.free := by
  simp [readC2h]

end Sys2Proof.Machine
end

