-- ==== Sys2Proof/Laws/BlocksOrfort.lean ====
section
/-! SUPPORT. Which blocks of State each operation of Machine/Orfort.lean leaves alone. -/

namespace Sys2Proof.Machine

@[simp] theorem orfEnd_blocks (code : Nat) (out : List Word) (s : State) :
    (orfEnd code out s).top = s.top ∧ (orfEnd code out s).conf = s.conf ∧ (orfEnd code out s).fr = s.fr ∧
    (orfEnd code out s).host = s.host ∧ (orfEnd code out s).ring = s.ring ∧ (orfEnd code out s).adm = s.adm ∧
    (orfEnd code out s).scout = s.scout ∧ (orfEnd code out s).store = s.store ∧ (orfEnd code out s).dram = s.dram ∧
    (orfEnd code out s).harv = s.harv ∧ (orfEnd code out s).nand = s.nand ∧ (orfEnd code out s).ret = s.ret ∧
    (orfEnd code out s).arr = s.arr ∧ (orfEnd code out s).hive = s.hive ∧ (orfEnd code out s).tally = s.tally ∧
    (orfEnd code out s).sec = s.sec ∧ (orfEnd code out s).jtag = s.jtag ∧ (orfEnd code out s).weave = s.weave ∧
    (orfEnd code out s).pending = s.pending ∧ (orfEnd code out s).free = s.free := by
  simp [orfEnd]

@[simp] theorem lineEnd_blocks (s : State) :
    (lineEnd s).top = s.top ∧ (lineEnd s).conf = s.conf ∧ (lineEnd s).fr = s.fr ∧
    (lineEnd s).host = s.host ∧ (lineEnd s).ring = s.ring ∧ (lineEnd s).adm = s.adm ∧
    (lineEnd s).scout = s.scout ∧ (lineEnd s).store = s.store ∧ (lineEnd s).dram = s.dram ∧
    (lineEnd s).harv = s.harv ∧ (lineEnd s).nand = s.nand ∧ (lineEnd s).ret = s.ret ∧
    (lineEnd s).arr = s.arr ∧ (lineEnd s).hive = s.hive ∧ (lineEnd s).tally = s.tally ∧
    (lineEnd s).sec = s.sec ∧ (lineEnd s).jtag = s.jtag ∧ (lineEnd s).weave = s.weave ∧
    (lineEnd s).pending = s.pending ∧ (lineEnd s).free = s.free := by
  simp only [lineEnd]; (repeat' split) <;> simp

@[simp] theorem charRx_blocks (c : BitVec 8) (timing : Nat) (s : State) :
    (charRx c timing s).top = s.top ∧ (charRx c timing s).conf = s.conf ∧ (charRx c timing s).fr = s.fr ∧
    (charRx c timing s).host = s.host ∧ (charRx c timing s).ring = s.ring ∧ (charRx c timing s).adm = s.adm ∧
    (charRx c timing s).scout = s.scout ∧ (charRx c timing s).store = s.store ∧ (charRx c timing s).dram = s.dram ∧
    (charRx c timing s).harv = s.harv ∧ (charRx c timing s).nand = s.nand ∧ (charRx c timing s).ret = s.ret ∧
    (charRx c timing s).arr = s.arr ∧ (charRx c timing s).hive = s.hive ∧ (charRx c timing s).tally = s.tally ∧
    (charRx c timing s).sec = s.sec ∧ (charRx c timing s).jtag = s.jtag ∧ (charRx c timing s).weave = s.weave ∧
    (charRx c timing s).pending = s.pending ∧ (charRx c timing s).free = s.free := by
  simp [charRx]

@[simp] theorem orfBreak_blocks (s : State) :
    (orfBreak s).top = s.top ∧ (orfBreak s).conf = s.conf ∧ (orfBreak s).fr = s.fr ∧
    (orfBreak s).host = s.host ∧ (orfBreak s).ring = s.ring ∧ (orfBreak s).adm = s.adm ∧
    (orfBreak s).scout = s.scout ∧ (orfBreak s).store = s.store ∧ (orfBreak s).dram = s.dram ∧
    (orfBreak s).harv = s.harv ∧ (orfBreak s).nand = s.nand ∧ (orfBreak s).ret = s.ret ∧
    (orfBreak s).arr = s.arr ∧ (orfBreak s).hive = s.hive ∧ (orfBreak s).tally = s.tally ∧
    (orfBreak s).sec = s.sec ∧ (orfBreak s).jtag = s.jtag ∧ (orfBreak s).weave = s.weave ∧
    (orfBreak s).pending = s.pending ∧ (orfBreak s).free = s.free := by
  simp [orfBreak]

@[simp] theorem orfSt_blocks (s : State) :
    (orfSt s).conf = s.conf ∧ (orfSt s).fr = s.fr ∧ (orfSt s).adm = s.adm ∧ (orfSt s).store = s.store ∧
    (orfSt s).dram = s.dram ∧ (orfSt s).harv = s.harv ∧ (orfSt s).nand = s.nand ∧ (orfSt s).ret = s.ret ∧
    (orfSt s).arr = s.arr ∧ (orfSt s).hive = s.hive ∧ (orfSt s).sec = s.sec ∧ (orfSt s).jtag = s.jtag ∧
    (orfSt s).pending = s.pending ∧ (orfSt s).free = s.free := by
  simp [orfSt]

@[simp] theorem freshen_blocks (s : State) :
    (freshen s).top = s.top ∧ (freshen s).conf = s.conf ∧ (freshen s).fr = s.fr ∧
    (freshen s).host = s.host ∧ (freshen s).ring = s.ring ∧ (freshen s).adm = s.adm ∧
    (freshen s).scout = s.scout ∧ (freshen s).store = s.store ∧ (freshen s).dram = s.dram ∧
    (freshen s).harv = s.harv ∧ (freshen s).nand = s.nand ∧ (freshen s).ret = s.ret ∧
    (freshen s).arr = s.arr ∧ (freshen s).hive = s.hive ∧ (freshen s).tally = s.tally ∧
    (freshen s).sec = s.sec ∧ (freshen s).jtag = s.jtag ∧ (freshen s).orf = s.orf ∧
    (freshen s).weave = s.weave ∧ (freshen s).pending = s.pending := by
  simp [freshen]

@[simp] theorem orfRd_blocks (off : Nat) (n : Nat) (s : State) :
    (orfRd off n s).conf = s.conf ∧ (orfRd off n s).fr = s.fr ∧ (orfRd off n s).adm = s.adm ∧
    (orfRd off n s).store = s.store ∧ (orfRd off n s).dram = s.dram ∧ (orfRd off n s).harv = s.harv ∧
    (orfRd off n s).nand = s.nand ∧ (orfRd off n s).ret = s.ret ∧ (orfRd off n s).arr = s.arr ∧
    (orfRd off n s).hive = s.hive ∧ (orfRd off n s).sec = s.sec ∧ (orfRd off n s).jtag = s.jtag ∧
    (orfRd off n s).pending = s.pending := by
  simp [orfRd]

@[simp] theorem quiet_blocks (off : Nat) (s : State) :
    (quiet off s).conf = s.conf ∧ (quiet off s).adm = s.adm ∧ (quiet off s).store = s.store ∧
    (quiet off s).dram = s.dram ∧ (quiet off s).harv = s.harv ∧ (quiet off s).nand = s.nand ∧
    (quiet off s).ret = s.ret ∧ (quiet off s).arr = s.arr ∧ (quiet off s).hive = s.hive ∧
    (quiet off s).jtag = s.jtag ∧ (quiet off s).orf = s.orf ∧ (quiet off s).pending = s.pending ∧
    (quiet off s).free = s.free := by
  simp [quiet]

@[simp] theorem unquiet_blocks (off : Nat) (data : Word) (old : State) (s : State) :
    (unquiet off data old s).conf = s.conf ∧ (unquiet off data old s).adm = s.adm ∧ (unquiet off data old s).store = s.store ∧
    (unquiet off data old s).dram = s.dram ∧ (unquiet off data old s).harv = s.harv ∧ (unquiet off data old s).nand = s.nand ∧
    (unquiet off data old s).ret = s.ret ∧ (unquiet off data old s).arr = s.arr ∧ (unquiet off data old s).hive = s.hive ∧
    (unquiet off data old s).jtag = s.jtag ∧ (unquiet off data old s).orf = s.orf ∧ (unquiet off data old s).pending = s.pending ∧
    (unquiet off data old s).free = s.free := by
  simp [unquiet]

@[simp] theorem orfCb_blocks (slot : Option Nat) (s : State) :
    (orfCb slot s).top = s.top ∧ (orfCb slot s).conf = s.conf ∧ (orfCb slot s).fr = s.fr ∧
    (orfCb slot s).host = s.host ∧ (orfCb slot s).ring = s.ring ∧ (orfCb slot s).adm = s.adm ∧
    (orfCb slot s).scout = s.scout ∧ (orfCb slot s).store = s.store ∧ (orfCb slot s).dram = s.dram ∧
    (orfCb slot s).harv = s.harv ∧ (orfCb slot s).nand = s.nand ∧ (orfCb slot s).ret = s.ret ∧
    (orfCb slot s).arr = s.arr ∧ (orfCb slot s).hive = s.hive ∧ (orfCb slot s).tally = s.tally ∧
    (orfCb slot s).sec = s.sec ∧ (orfCb slot s).jtag = s.jtag ∧ (orfCb slot s).weave = s.weave ∧
    (orfCb slot s).pending = s.pending ∧ (orfCb slot s).free = s.free := by
  unfold orfCb; split <;> simp

@[simp] theorem orfUlRequest_blocks (lvl : Nat) (s : State) :
    (orfUlRequest lvl s).conf = s.conf ∧ (orfUlRequest lvl s).adm = s.adm ∧ (orfUlRequest lvl s).store = s.store ∧
    (orfUlRequest lvl s).dram = s.dram ∧ (orfUlRequest lvl s).harv = s.harv ∧ (orfUlRequest lvl s).nand = s.nand ∧
    (orfUlRequest lvl s).ret = s.ret ∧ (orfUlRequest lvl s).arr = s.arr ∧ (orfUlRequest lvl s).hive = s.hive ∧
    (orfUlRequest lvl s).jtag = s.jtag ∧ (orfUlRequest lvl s).pending = s.pending := by
  simp only [orfUlRequest]; (repeat' split) <;> simp

@[simp] theorem orfUlResponse_blocks (data : Word) (s : State) :
    (orfUlResponse data s).conf = s.conf ∧ (orfUlResponse data s).adm = s.adm ∧ (orfUlResponse data s).store = s.store ∧
    (orfUlResponse data s).dram = s.dram ∧ (orfUlResponse data s).harv = s.harv ∧ (orfUlResponse data s).nand = s.nand ∧
    (orfUlResponse data s).ret = s.ret ∧ (orfUlResponse data s).arr = s.arr ∧ (orfUlResponse data s).hive = s.hive ∧
    (orfUlResponse data s).jtag = s.jtag ∧ (orfUlResponse data s).pending = s.pending ∧ (orfUlResponse data s).free = s.free := by
  simp [orfUlResponse]

@[simp] theorem ovPut_blocks (ch : Nat) (start : Int) (ramp : Int) (s : State) :
    (ovPut ch start ramp s).top = s.top ∧ (ovPut ch start ramp s).conf = s.conf ∧ (ovPut ch start ramp s).fr = s.fr ∧
    (ovPut ch start ramp s).host = s.host ∧ (ovPut ch start ramp s).ring = s.ring ∧ (ovPut ch start ramp s).adm = s.adm ∧
    (ovPut ch start ramp s).store = s.store ∧ (ovPut ch start ramp s).dram = s.dram ∧ (ovPut ch start ramp s).harv = s.harv ∧
    (ovPut ch start ramp s).nand = s.nand ∧ (ovPut ch start ramp s).ret = s.ret ∧ (ovPut ch start ramp s).arr = s.arr ∧
    (ovPut ch start ramp s).hive = s.hive ∧ (ovPut ch start ramp s).tally = s.tally ∧ (ovPut ch start ramp s).sec = s.sec ∧
    (ovPut ch start ramp s).jtag = s.jtag ∧ (ovPut ch start ramp s).orf = s.orf ∧ (ovPut ch start ramp s).weave = s.weave ∧
    (ovPut ch start ramp s).pending = s.pending ∧ (ovPut ch start ramp s).free = s.free := by
  simp [ovPut]

@[simp] theorem ovDrop_blocks (ch : Nat) (s : State) :
    (ovDrop ch s).top = s.top ∧ (ovDrop ch s).conf = s.conf ∧ (ovDrop ch s).fr = s.fr ∧
    (ovDrop ch s).host = s.host ∧ (ovDrop ch s).ring = s.ring ∧ (ovDrop ch s).adm = s.adm ∧
    (ovDrop ch s).store = s.store ∧ (ovDrop ch s).dram = s.dram ∧ (ovDrop ch s).harv = s.harv ∧
    (ovDrop ch s).nand = s.nand ∧ (ovDrop ch s).ret = s.ret ∧ (ovDrop ch s).arr = s.arr ∧
    (ovDrop ch s).hive = s.hive ∧ (ovDrop ch s).tally = s.tally ∧ (ovDrop ch s).sec = s.sec ∧
    (ovDrop ch s).jtag = s.jtag ∧ (ovDrop ch s).orf = s.orf ∧ (ovDrop ch s).weave = s.weave ∧
    (ovDrop ch s).pending = s.pending ∧ (ovDrop ch s).free = s.free := by
  simp [ovDrop]

@[simp] theorem orfDisarm_blocks (s : State) :
    (orfDisarm s).conf = s.conf ∧ (orfDisarm s).store = s.store ∧ (orfDisarm s).ret = s.ret ∧ (orfDisarm s).hive = s.hive ∧
    (orfDisarm s).sec = s.sec ∧ (orfDisarm s).jtag = s.jtag ∧ (orfDisarm s).pending = s.pending ∧
    (orfDisarm s).free = s.free := by
  simp [orfDisarm]

@[simp] theorem orfLaneout_blocks (lane : Nat) (frame : Nat) (s : State) :
    (orfLaneout lane frame s).top = s.top ∧ (orfLaneout lane frame s).conf = s.conf ∧ (orfLaneout lane frame s).fr = s.fr ∧
    (orfLaneout lane frame s).host = s.host ∧ (orfLaneout lane frame s).ring = s.ring ∧ (orfLaneout lane frame s).adm = s.adm ∧
    (orfLaneout lane frame s).scout = s.scout ∧ (orfLaneout lane frame s).store = s.store ∧ (orfLaneout lane frame s).dram = s.dram ∧
    (orfLaneout lane frame s).harv = s.harv ∧ (orfLaneout lane frame s).ret = s.ret ∧ (orfLaneout lane frame s).arr = s.arr ∧
    (orfLaneout lane frame s).hive = s.hive ∧ (orfLaneout lane frame s).tally = s.tally ∧ (orfLaneout lane frame s).sec = s.sec ∧
    (orfLaneout lane frame s).jtag = s.jtag ∧ (orfLaneout lane frame s).weave = s.weave ∧ (orfLaneout lane frame s).pending = s.pending ∧
    (orfLaneout lane frame s).free = s.free := by
  simp [orfLaneout]

@[simp] theorem orfSpoil_blocks (bankB : Bool) (ovl : Bool) (s : State) :
    (orfSpoil bankB ovl s).top = s.top ∧ (orfSpoil bankB ovl s).conf = s.conf ∧ (orfSpoil bankB ovl s).fr = s.fr ∧
    (orfSpoil bankB ovl s).host = s.host ∧ (orfSpoil bankB ovl s).ring = s.ring ∧ (orfSpoil bankB ovl s).adm = s.adm ∧
    (orfSpoil bankB ovl s).scout = s.scout ∧ (orfSpoil bankB ovl s).store = s.store ∧ (orfSpoil bankB ovl s).dram = s.dram ∧
    (orfSpoil bankB ovl s).harv = s.harv ∧ (orfSpoil bankB ovl s).nand = s.nand ∧ (orfSpoil bankB ovl s).ret = s.ret ∧
    (orfSpoil bankB ovl s).hive = s.hive ∧ (orfSpoil bankB ovl s).tally = s.tally ∧ (orfSpoil bankB ovl s).sec = s.sec ∧
    (orfSpoil bankB ovl s).jtag = s.jtag ∧ (orfSpoil bankB ovl s).orf = s.orf ∧ (orfSpoil bankB ovl s).weave = s.weave ∧
    (orfSpoil bankB ovl s).pending = s.pending ∧ (orfSpoil bankB ovl s).free = s.free := by
  simp [orfSpoil]

end Sys2Proof.Machine
end

