-- ==== Sys2Proof/Laws/BlocksJtag.lean ====
section
/-! SUPPORT. Which blocks of State each operation of Machine/Jtag.lean leaves alone. -/

namespace Sys2Proof.Machine

@[simp] theorem irSelect_blocks (code : BitVec 8) (drive : Nat) (tdo : List Word) (s : State) :
    (irSelect code drive tdo s).top = s.top ∧ (irSelect code drive tdo s).conf = s.conf ∧ (irSelect code drive tdo s).fr = s.fr ∧
    (irSelect code drive tdo s).host = s.host ∧ (irSelect code drive tdo s).ring = s.ring ∧ (irSelect code drive tdo s).adm = s.adm ∧
    (irSelect code drive tdo s).scout = s.scout ∧ (irSelect code drive tdo s).store = s.store ∧ (irSelect code drive tdo s).dram = s.dram ∧
    (irSelect code drive tdo s).harv = s.harv ∧ (irSelect code drive tdo s).nand = s.nand ∧ (irSelect code drive tdo s).ret = s.ret ∧
    (irSelect code drive tdo s).arr = s.arr ∧ (irSelect code drive tdo s).hive = s.hive ∧ (irSelect code drive tdo s).tally = s.tally ∧
    (irSelect code drive tdo s).sec = s.sec ∧ (irSelect code drive tdo s).orf = s.orf ∧ (irSelect code drive tdo s).weave = s.weave ∧
    (irSelect code drive tdo s).pending = s.pending ∧ (irSelect code drive tdo s).free = s.free := by
  simp [irSelect]

@[simp] theorem irBypass_blocks (s : State) :
    (irBypass s).top = s.top ∧ (irBypass s).conf = s.conf ∧ (irBypass s).fr = s.fr ∧
    (irBypass s).host = s.host ∧ (irBypass s).ring = s.ring ∧ (irBypass s).adm = s.adm ∧
    (irBypass s).scout = s.scout ∧ (irBypass s).store = s.store ∧ (irBypass s).dram = s.dram ∧
    (irBypass s).harv = s.harv ∧ (irBypass s).nand = s.nand ∧ (irBypass s).ret = s.ret ∧
    (irBypass s).arr = s.arr ∧ (irBypass s).hive = s.hive ∧ (irBypass s).tally = s.tally ∧
    (irBypass s).sec = s.sec ∧ (irBypass s).orf = s.orf ∧ (irBypass s).weave = s.weave ∧
    (irBypass s).pending = s.pending ∧ (irBypass s).free = s.free := by
  simp [irBypass]

@[simp] theorem shiftOut_blocks (ws : List Word) (s : State) :
    (shiftOut ws s).top = s.top ∧ (shiftOut ws s).conf = s.conf ∧ (shiftOut ws s).fr = s.fr ∧
    (shiftOut ws s).host = s.host ∧ (shiftOut ws s).ring = s.ring ∧ (shiftOut ws s).adm = s.adm ∧
    (shiftOut ws s).scout = s.scout ∧ (shiftOut ws s).store = s.store ∧ (shiftOut ws s).dram = s.dram ∧
    (shiftOut ws s).harv = s.harv ∧ (shiftOut ws s).nand = s.nand ∧ (shiftOut ws s).ret = s.ret ∧
    (shiftOut ws s).arr = s.arr ∧ (shiftOut ws s).hive = s.hive ∧ (shiftOut ws s).tally = s.tally ∧
    (shiftOut ws s).sec = s.sec ∧ (shiftOut ws s).orf = s.orf ∧ (shiftOut ws s).weave = s.weave ∧
    (shiftOut ws s).pending = s.pending ∧ (shiftOut ws s).free = s.free := by
  simp [shiftOut]

@[simp] theorem irDrive_blocks (code : BitVec 8) (drive : Nat) (s : State) :
    (irDrive code drive s).top = s.top ∧ (irDrive code drive s).conf = s.conf ∧ (irDrive code drive s).fr = s.fr ∧
    (irDrive code drive s).host = s.host ∧ (irDrive code drive s).ring = s.ring ∧ (irDrive code drive s).adm = s.adm ∧
    (irDrive code drive s).scout = s.scout ∧ (irDrive code drive s).store = s.store ∧ (irDrive code drive s).dram = s.dram ∧
    (irDrive code drive s).harv = s.harv ∧ (irDrive code drive s).nand = s.nand ∧ (irDrive code drive s).ret = s.ret ∧
    (irDrive code drive s).arr = s.arr ∧ (irDrive code drive s).hive = s.hive ∧ (irDrive code drive s).tally = s.tally ∧
    (irDrive code drive s).sec = s.sec ∧ (irDrive code drive s).orf = s.orf ∧ (irDrive code drive s).weave = s.weave ∧
    (irDrive code drive s).pending = s.pending ∧ (irDrive code drive s).free = s.free := by
  simp [irDrive]

@[simp] theorem jtagExchange_blocks (data : Word) (s : State) :
    (jtagExchange data s).conf = s.conf ∧ (jtagExchange data s).adm = s.adm ∧ (jtagExchange data s).store = s.store ∧
    (jtagExchange data s).dram = s.dram ∧ (jtagExchange data s).harv = s.harv ∧ (jtagExchange data s).nand = s.nand ∧
    (jtagExchange data s).ret = s.ret ∧ (jtagExchange data s).arr = s.arr ∧ (jtagExchange data s).hive = s.hive ∧
    (jtagExchange data s).orf = s.orf ∧ (jtagExchange data s).pending = s.pending := by
  unfold jtagExchange; (repeat' split) <;> simp

@[simp] theorem debugOp_blocks (op : DbgOp) (s : State) :
    (debugOp op s).conf = s.conf ∧ (debugOp op s).adm = s.adm ∧ (debugOp op s).store = s.store ∧
    (debugOp op s).dram = s.dram ∧ (debugOp op s).harv = s.harv ∧ (debugOp op s).nand = s.nand ∧
    (debugOp op s).ret = s.ret ∧ (debugOp op s).arr = s.arr ∧ (debugOp op s).sec = s.sec ∧
    (debugOp op s).orf = s.orf ∧ (debugOp op s).pending = s.pending ∧ (debugOp op s).free = s.free := by
  unfold debugOp; split <;> simp

@[simp] theorem otpProg_blocks (row : Nat) (val : List Word) (s : State) :
    (otpProg row val s).top = s.top ∧ (otpProg row val s).conf = s.conf ∧ (otpProg row val s).fr = s.fr ∧
    (otpProg row val s).host = s.host ∧ (otpProg row val s).ring = s.ring ∧ (otpProg row val s).adm = s.adm ∧
    (otpProg row val s).scout = s.scout ∧ (otpProg row val s).store = s.store ∧ (otpProg row val s).dram = s.dram ∧
    (otpProg row val s).harv = s.harv ∧ (otpProg row val s).nand = s.nand ∧ (otpProg row val s).ret = s.ret ∧
    (otpProg row val s).arr = s.arr ∧ (otpProg row val s).hive = s.hive ∧ (otpProg row val s).tally = s.tally ∧
    (otpProg row val s).jtag = s.jtag ∧ (otpProg row val s).orf = s.orf ∧ (otpProg row val s).weave = s.weave ∧
    (otpProg row val s).pending = s.pending ∧ (otpProg row val s).free = s.free := by
  simp [otpProg]

@[simp] theorem jtagBoundary_blocks (s : State) :
    (jtagBoundary s).top = s.top ∧ (jtagBoundary s).conf = s.conf ∧ (jtagBoundary s).fr = s.fr ∧
    (jtagBoundary s).host = s.host ∧ (jtagBoundary s).ring = s.ring ∧ (jtagBoundary s).adm = s.adm ∧
    (jtagBoundary s).scout = s.scout ∧ (jtagBoundary s).store = s.store ∧ (jtagBoundary s).dram = s.dram ∧
    (jtagBoundary s).harv = s.harv ∧ (jtagBoundary s).nand = s.nand ∧ (jtagBoundary s).ret = s.ret ∧
    (jtagBoundary s).arr = s.arr ∧ (jtagBoundary s).hive = s.hive ∧ (jtagBoundary s).tally = s.tally ∧
    (jtagBoundary s).sec = s.sec ∧ (jtagBoundary s).orf = s.orf ∧ (jtagBoundary s).weave = s.weave ∧
    (jtagBoundary s).pending = s.pending ∧ (jtagBoundary s).free = s.free := by
  simp [jtagBoundary]

end Sys2Proof.Machine
end

