-- ==== Sys2Proof/Laws/KeepsOperands.lean ====
section
/-! SUPPORT. What the definitions of Machine/Operands.lean leave alone: the state, a Core BOR, the frame generator, EPOCH and
the queue. -/

namespace Sys2Proof.Machine

@[simp] theorem modTenant_keeps (t : Nat) (f : Tenant → Tenant) (s : State) :
    (modTenant t f s).top.state = s.top.state ∧
    (modTenant t f s).top.coreBor = s.top.coreBor ∧
    (modTenant t f s).fr.running = s.fr.running ∧
    (modTenant t f s).fr.epoch = s.fr.epoch ∧
    (modTenant t f s).pending = s.pending := by
  simp [modTenant]

@[simp] theorem modRing_keeps (r : Nat) (f : Ring → Ring) (s : State) :
    (modRing r f s).top.state = s.top.state ∧
    (modRing r f s).top.coreBor = s.top.coreBor ∧
    (modRing r f s).fr.running = s.fr.running ∧
    (modRing r f s).fr.epoch = s.fr.epoch ∧
    (modRing r f s).pending = s.pending := by
  simp [modRing]

@[simp] theorem modSrc_keeps (n : Nat) (f : Source → Source) (s : State) :
    (modSrc n f s).top.state = s.top.state ∧
    (modSrc n f s).top.coreBor = s.top.coreBor ∧
    (modSrc n f s).fr.running = s.fr.running ∧
    (modSrc n f s).fr.epoch = s.fr.epoch ∧
    (modSrc n f s).pending = s.pending := by
  simp [modSrc]

@[simp] theorem modTgt_keeps (t : Nat) (f : Target → Target) (s : State) :
    (modTgt t f s).top.state = s.top.state ∧
    (modTgt t f s).top.coreBor = s.top.coreBor ∧
    (modTgt t f s).fr.running = s.fr.running ∧
    (modTgt t f s).fr.epoch = s.fr.epoch ∧
    (modTgt t f s).pending = s.pending := by
  simp [modTgt]

@[simp] theorem modChan_keeps (c : Nat) (f : Channel → Channel) (s : State) :
    (modChan c f s).top.state = s.top.state ∧
    (modChan c f s).top.coreBor = s.top.coreBor ∧
    (modChan c f s).fr.running = s.fr.running ∧
    (modChan c f s).fr.epoch = s.fr.epoch ∧
    (modChan c f s).pending = s.pending := by
  simp [modChan]

@[simp] theorem modAcct_keeps (r : Nat) (f : Acct → Acct) (s : State) :
    (modAcct r f s).top.state = s.top.state ∧
    (modAcct r f s).top.coreBor = s.top.coreBor ∧
    (modAcct r f s).fr.running = s.fr.running ∧
    (modAcct r f s).fr.epoch = s.fr.epoch ∧
    (modAcct r f s).pending = s.pending := by
  simp [modAcct]

@[simp] theorem modLane_keeps (l : Nat) (f : Lane → Lane) (s : State) :
    (modLane l f s).top.state = s.top.state ∧
    (modLane l f s).top.coreBor = s.top.coreBor ∧
    (modLane l f s).fr.running = s.fr.running ∧
    (modLane l f s).fr.epoch = s.fr.epoch ∧
    (modLane l f s).pending = s.pending := by
  simp [modLane]

@[simp] theorem modPeer_keeps (p : Nat) (f : Peer → Peer) (s : State) :
    (modPeer p f s).top.state = s.top.state ∧
    (modPeer p f s).top.coreBor = s.top.coreBor ∧
    (modPeer p f s).fr.running = s.fr.running ∧
    (modPeer p f s).fr.epoch = s.fr.epoch ∧
    (modPeer p f s).pending = s.pending := by
  simp [modPeer]

end Sys2Proof.Machine
end

