-- ==== Sys2Proof/Laws/KeepsOps.lean ====
section
/-! SUPPORT. What the definitions of Machine/Ops.lean leave alone: the state, a Core BOR, the frame generator, EPOCH and
the queue. -/

namespace Sys2Proof.Machine

@[simp] theorem setInt_keeps (i : Nat) (s : State) :
    (setInt i s).top.state = s.top.state ∧
    (setInt i s).top.coreBor = s.top.coreBor ∧
    (setInt i s).fr.running = s.fr.running ∧
    (setInt i s).fr.epoch = s.fr.epoch ∧
    (setInt i s).pending = s.pending := by
  simp [setInt]

@[simp] theorem hintFollow_keeps (s : State) :
    (hintFollow s).top.state = s.top.state ∧
    (hintFollow s).top.coreBor = s.top.coreBor ∧
    (hintFollow s).fr.running = s.fr.running ∧
    (hintFollow s).fr.epoch = s.fr.epoch ∧
    (hintFollow s).pending = s.pending := by
  simp [hintFollow]

@[simp] theorem logAt_keeps (ep : Epoch) (type : Nat) (x : BitVec 8) (arg0 : BitVec 16) (arg1 : Word) (s : State) :
    (logAt ep type x arg0 arg1 s).top.state = s.top.state ∧
    (logAt ep type x arg0 arg1 s).top.coreBor = s.top.coreBor ∧
    (logAt ep type x arg0 arg1 s).fr.running = s.fr.running ∧
    (logAt ep type x arg0 arg1 s).fr.epoch = s.fr.epoch ∧
    (logAt ep type x arg0 arg1 s).pending = s.pending := by
  simp [logAt]

@[simp] theorem logRec_keeps (type : Nat) (x : BitVec 8) (arg0 : BitVec 16) (arg1 : Word) (s : State) :
    (logRec type x arg0 arg1 s).top.state = s.top.state ∧
    (logRec type x arg0 arg1 s).top.coreBor = s.top.coreBor ∧
    (logRec type x arg0 arg1 s).fr.running = s.fr.running ∧
    (logRec type x arg0 arg1 s).fr.epoch = s.fr.epoch ∧
    (logRec type x arg0 arg1 s).pending = s.pending := by
  simp [logRec]

@[simp] theorem spend_keeps (res : Nat) (n : Nat) (s : State) :
    (spend res n s).top.state = s.top.state ∧
    (spend res n s).top.coreBor = s.top.coreBor ∧
    (spend res n s).fr.running = s.fr.running ∧
    (spend res n s).fr.epoch = s.fr.epoch ∧
    (spend res n s).pending = s.pending := by
  simp [spend]

@[simp] theorem injectUse_keeps (chk : Nat) (s : State) :
    (injectUse chk s).1.top.state = s.top.state ∧
    (injectUse chk s).1.top.coreBor = s.top.coreBor ∧
    (injectUse chk s).1.fr.running = s.fr.running ∧
    (injectUse chk s).1.fr.epoch = s.fr.epoch ∧
    (injectUse chk s).1.pending = s.pending := by
  simp [injectUse]

@[simp] theorem injectMany_keeps (chk : Nat) : ∀ (n : Nat) (s : State),
    (injectMany chk n s).1.top.state = s.top.state ∧
    (injectMany chk n s).1.top.coreBor = s.top.coreBor ∧
    (injectMany chk n s).1.fr.running = s.fr.running ∧
    (injectMany chk n s).1.fr.epoch = s.fr.epoch ∧
    (injectMany chk n s).1.pending = s.pending
  | 0, s => by simp [injectMany]
  | n + 1, s => by simp [injectMany, injectMany_keeps chk n s]

@[simp] theorem putEvent_keeps (r : Nat) (e : Entry) (unsol : Bool) (notify : Bool) (s : State) :
    (putEvent r e unsol notify s).top.state = s.top.state ∧
    (putEvent r e unsol notify s).top.coreBor = s.top.coreBor ∧
    (putEvent r e unsol notify s).fr.running = s.fr.running ∧
    (putEvent r e unsol notify s).fr.epoch = s.fr.epoch ∧
    (putEvent r e unsol notify s).pending = s.pending := by
  simp [putEvent]

@[simp] theorem postEvent_keeps (u : Unsol) (s : State) :
    (postEvent u s).top.state = s.top.state ∧
    (postEvent u s).top.coreBor = s.top.coreBor ∧
    (postEvent u s).fr.running = s.fr.running ∧
    (postEvent u s).fr.epoch = s.fr.epoch ∧
    (postEvent u s).pending = s.pending := by
  simp [postEvent]

@[simp] theorem postOrWait_keeps (u : Unsol) (s : State) :
    (postOrWait u s).top.state = s.top.state ∧
    (postOrWait u s).top.coreBor = s.top.coreBor ∧
    (postOrWait u s).fr.running = s.fr.running ∧
    (postOrWait u s).fr.epoch = s.fr.epoch ∧
    (postOrWait u s).pending = s.pending := by
  simp [postOrWait]

@[simp] theorem broadcast_keeps (op : Nat) (flags : Nat) (w1 : Nat → Word) (s : State) :
    (broadcast op flags w1 s).top.state = s.top.state ∧
    (broadcast op flags w1 s).top.coreBor = s.top.coreBor ∧
    (broadcast op flags w1 s).fr.running = s.fr.running ∧
    (broadcast op flags w1 s).fr.epoch = s.fr.epoch ∧
    (broadcast op flags w1 s).pending = s.pending := by
  simp [broadcast]

@[simp] theorem postUnsol_keeps (t : Nat) (op : Nat) (flags : Nat) (tag : BitVec 16) (w1 : Word) (w2 : Word) (s : State) :
    (postUnsol t op flags tag w1 w2 s).top.state = s.top.state ∧
    (postUnsol t op flags tag w1 w2 s).top.coreBor = s.top.coreBor ∧
    (postUnsol t op flags tag w1 w2 s).fr.running = s.fr.running ∧
    (postUnsol t op flags tag w1 w2 s).fr.epoch = s.fr.epoch ∧
    (postUnsol t op flags tag w1 w2 s).pending = s.pending := by
  simp [postUnsol]

@[simp] theorem postAll_keeps (ts : List Nat) (op : Nat) (flags : Nat) (tag : BitVec 16) (w1 : Word) (w2 : Nat → Word) (s : State) :
    (postAll ts op flags tag w1 w2 s).top.state = s.top.state ∧
    (postAll ts op flags tag w1 w2 s).top.coreBor = s.top.coreBor ∧
    (postAll ts op flags tag w1 w2 s).fr.running = s.fr.running ∧
    (postAll ts op flags tag w1 w2 s).fr.epoch = s.fr.epoch ∧
    (postAll ts op flags tag w1 w2 s).pending = s.pending := by
  simp [postAll]

@[simp] theorem markEnds_keeps (s : State) :
    (markEnds s).top.state = s.top.state ∧
    (markEnds s).top.coreBor = s.top.coreBor ∧
    (markEnds s).fr.running = s.fr.running ∧
    (markEnds s).fr.epoch = s.fr.epoch ∧
    (markEnds s).pending = s.pending := by
  simp [markEnds]

@[simp] theorem tripCause_keeps (x : BitVec 8) (drive : Bool) (s : State) :
    (tripCause x drive s).top.state = s.top.state ∧
    (tripCause x drive s).top.coreBor = s.top.coreBor ∧
    (tripCause x drive s).fr.running = s.fr.running ∧
    (tripCause x drive s).fr.epoch = s.fr.epoch ∧
    (tripCause x drive s).pending = s.pending := by
  simp [tripCause]

@[simp] theorem pinAction_keeps (s : State) :
    (pinAction s).top.state = s.top.state ∧
    (pinAction s).top.coreBor = s.top.coreBor ∧
    (pinAction s).fr.running = s.fr.running ∧
    (pinAction s).fr.epoch = s.fr.epoch ∧
    (pinAction s).pending = s.pending := by
  simp [pinAction]

@[simp] theorem degradeAct_keeps (src : Nat) (acts : BitVec 8) (s : State) :
    (degradeAct src acts s).top.state = s.top.state ∧
    (degradeAct src acts s).top.coreBor = s.top.coreBor ∧
    (degradeAct src acts s).fr.running = s.fr.running ∧
    (degradeAct src acts s).fr.epoch = s.fr.epoch ∧
    (degradeAct src acts s).pending = s.pending := by
  simp [degradeAct]

@[simp] theorem haltAct_keeps (src : Nat) (s : State) :
    (haltAct src s).top.state = s.top.state ∧
    (haltAct src s).top.coreBor = s.top.coreBor ∧
    (haltAct src s).fr.running = s.fr.running ∧
    (haltAct src s).fr.epoch = s.fr.epoch ∧
    (haltAct src s).pending = s.pending := by
  simp [haltAct]

@[simp] theorem harvestAct_keeps (src : Nat) (acts : BitVec 8) (s : State) :
    (harvestAct src acts s).top.state = s.top.state ∧
    (harvestAct src acts s).top.coreBor = s.top.coreBor ∧
    (harvestAct src acts s).fr.running = s.fr.running ∧
    (harvestAct src acts s).fr.epoch = s.fr.epoch ∧
    (harvestAct src acts s).pending = s.pending := by
  simp [harvestAct]

@[simp] theorem actions_keeps (src : Nat) (kind : Nat) (addr : Word) (m : BitVec 8) (sev : Bool) (opens : Bool) (esc : Bool) (count : Nat) (s : State) :
    (actions src kind addr m sev opens esc count s).top.state = s.top.state ∧
    (actions src kind addr m sev opens esc count s).top.coreBor = s.top.coreBor ∧
    (actions src kind addr m sev opens esc count s).fr.running = s.fr.running ∧
    (actions src kind addr m sev opens esc count s).fr.epoch = s.fr.epoch ∧
    (actions src kind addr m sev opens esc count s).pending = s.pending := by
  simp [actions]

@[simp] theorem tallyProcess_keeps (src : Nat) (kind : Nat) (addr : Word) (s : State) :
    (tallyProcess src kind addr s).top.state = s.top.state ∧
    (tallyProcess src kind addr s).top.coreBor = s.top.coreBor ∧
    (tallyProcess src kind addr s).fr.running = s.fr.running ∧
    (tallyProcess src kind addr s).fr.epoch = s.fr.epoch ∧
    (tallyProcess src kind addr s).pending = s.pending := by
  simp [tallyProcess]

@[simp] theorem tally_keeps (src : Nat) (kind : Nat) (addr : Word) (s : State) :
    (tally src kind addr s).top.state = s.top.state ∧
    (tally src kind addr s).top.coreBor = s.top.coreBor ∧
    (tally src kind addr s).fr.running = s.fr.running ∧
    (tally src kind addr s).fr.epoch = s.fr.epoch ∧
    (tally src kind addr s).pending = s.pending := by
  simp [tally]

@[simp] theorem logEv_keeps (type : Nat) (x : BitVec 8) (arg0 : BitVec 16) (arg1 : Word) (s : State) :
    (logEv type x arg0 arg1 s).top.state = s.top.state ∧
    (logEv type x arg0 arg1 s).top.coreBor = s.top.coreBor ∧
    (logEv type x arg0 arg1 s).fr.running = s.fr.running ∧
    (logEv type x arg0 arg1 s).fr.epoch = s.fr.epoch ∧
    (logEv type x arg0 arg1 s).pending = s.pending := by
  simp [logEv]

@[simp] theorem reject_keeps (off : Nat) (tid : Nat) (s : State) :
    (reject off tid s).top.state = s.top.state ∧
    (reject off tid s).top.coreBor = s.top.coreBor ∧
    (reject off tid s).fr.running = s.fr.running ∧
    (reject off tid s).fr.epoch = s.fr.epoch ∧
    (reject off tid s).pending = s.pending := by
  simp [reject]

@[simp] theorem ueWriteSet_keeps (s : State) :
    (ueWriteSet s).top.state = s.top.state ∧
    (ueWriteSet s).top.coreBor = s.top.coreBor ∧
    (ueWriteSet s).fr.running = s.fr.running ∧
    (ueWriteSet s).fr.epoch = s.fr.epoch ∧
    (ueWriteSet s).pending = s.pending := by
  simp [ueWriteSet]

@[simp] theorem postRejSet_keeps (s : State) :
    (postRejSet s).top.state = s.top.state ∧
    (postRejSet s).top.coreBor = s.top.coreBor ∧
    (postRejSet s).fr.running = s.fr.running ∧
    (postRejSet s).fr.epoch = s.fr.epoch ∧
    (postRejSet s).pending = s.pending := by
  simp [postRejSet]

@[simp] theorem refuseReq_keeps (reason : Nat) (s : State) :
    (refuseReq reason s).top.state = s.top.state ∧
    (refuseReq reason s).top.coreBor = s.top.coreBor ∧
    (refuseReq reason s).fr.running = s.fr.running ∧
    (refuseReq reason s).fr.epoch = s.fr.epoch ∧
    (refuseReq reason s).pending = s.pending := by
  simp [refuseReq]

@[simp] theorem gate_state (e : PostEntry) (f : State → State) (s : State) (h : ∀ s, (f s).top.state = s.top.state) : (gate e f s).top.state = s.top.state := by
  simp [gate, h]

@[simp] theorem gate_coreBor (e : PostEntry) (f : State → State) (s : State) (h : ∀ s, (f s).top.coreBor = s.top.coreBor) : (gate e f s).top.coreBor = s.top.coreBor := by
  simp [gate, h]

@[simp] theorem gate_running (e : PostEntry) (f : State → State) (s : State) (h : ∀ s, (f s).fr.running = s.fr.running) : (gate e f s).fr.running = s.fr.running := by
  simp [gate, h]

@[simp] theorem gate_epoch (e : PostEntry) (f : State → State) (s : State) (h : ∀ s, (f s).fr.epoch = s.fr.epoch) : (gate e f s).fr.epoch = s.fr.epoch := by
  simp [gate, h]

@[simp] theorem gate_pending (e : PostEntry) (f : State → State) (s : State) (h : ∀ s, (f s).pending = s.pending) : (gate e f s).pending = s.pending := by
  simp [gate, h]

theorem takePost_keeps (e : PostEntry) (s t : State) (h : takePost e s = some t) :
    t.top.state = s.top.state ∧
    t.top.coreBor = s.top.coreBor ∧
    t.fr.running = s.fr.running ∧
    t.fr.epoch = s.fr.epoch ∧
    t.pending = s.pending := by
  unfold takePost at h
  split at h
  · simp_all
  · split at h <;> simp_all
    subst h; simp

@[simp] theorem leave_state (e : PostEntry) (f : State → State) (s : State) (h : ∀ s, (f s).top.state = s.top.state) : (leave e f s).top.state = s.top.state := by
  unfold leave; split
  · rfl
  split
  · rename_i t ht; have := takePost_keeps e s t ht; simp_all
  · rfl

@[simp] theorem leave_coreBor (e : PostEntry) (f : State → State) (s : State) (h : ∀ s, (f s).top.coreBor = s.top.coreBor) : (leave e f s).top.coreBor = s.top.coreBor := by
  unfold leave; split
  · rfl
  split
  · rename_i t ht; have := takePost_keeps e s t ht; simp_all
  · rfl

@[simp] theorem leave_running (e : PostEntry) (f : State → State) (s : State) (h : ∀ s, (f s).fr.running = s.fr.running) : (leave e f s).fr.running = s.fr.running := by
  unfold leave; split
  · rfl
  split
  · rename_i t ht; have := takePost_keeps e s t ht; simp_all
  · rfl

@[simp] theorem leave_epoch (e : PostEntry) (f : State → State) (s : State) (h : ∀ s, (f s).fr.epoch = s.fr.epoch) : (leave e f s).fr.epoch = s.fr.epoch := by
  unfold leave; split
  · rfl
  split
  · rename_i t ht; have := takePost_keeps e s t ht; simp_all
  · rfl

@[simp] theorem leave_pending (e : PostEntry) (f : State → State) (s : State) (h : ∀ s, (f s).pending = s.pending) : (leave e f s).pending = s.pending := by
  unfold leave; split
  · rfl
  split
  · rename_i t ht; have := takePost_keeps e s t ht; simp_all
  · rfl

@[simp] theorem busRead_state (f : State → Word × State) (s : State) (h : ∀ s, (f s).2.top.state = s.top.state) : (busRead f s).top.state = s.top.state := by
  simp [busRead, h]

@[simp] theorem busRead_coreBor (f : State → Word × State) (s : State) (h : ∀ s, (f s).2.top.coreBor = s.top.coreBor) : (busRead f s).top.coreBor = s.top.coreBor := by
  simp [busRead, h]

@[simp] theorem busRead_running (f : State → Word × State) (s : State) (h : ∀ s, (f s).2.fr.running = s.fr.running) : (busRead f s).fr.running = s.fr.running := by
  simp [busRead, h]

@[simp] theorem busRead_epoch (f : State → Word × State) (s : State) (h : ∀ s, (f s).2.fr.epoch = s.fr.epoch) : (busRead f s).fr.epoch = s.fr.epoch := by
  simp [busRead, h]

@[simp] theorem busRead_pending (f : State → Word × State) (s : State) (h : ∀ s, (f s).2.pending = s.pending) : (busRead f s).pending = s.pending := by
  simp [busRead, h]

end Sys2Proof.Machine
end

