-- ==== Sys2Proof/Laws/KeepsFlags.lean ====
section
/-! SUPPORT. What the definitions of Machine/Flags.lean leave alone: the state, a Core BOR, the frame generator, EPOCH and
the queue. -/

namespace Sys2Proof.Machine

@[simp] theorem convert_keeps (ch : Nat) (a : Nat) (x : Int) (s : State) :
    (convert ch a x s).top.state = s.top.state ∧
    (convert ch a x s).top.coreBor = s.top.coreBor ∧
    (convert ch a x s).fr.running = s.fr.running ∧
    (convert ch a x s).fr.epoch = s.fr.epoch ∧
    (convert ch a x s).pending = s.pending := by
  simp [convert]

@[simp] theorem publish_keeps (s : State) :
    (publish s).top.state = s.top.state ∧
    (publish s).top.coreBor = s.top.coreBor ∧
    (publish s).fr.running = s.fr.running ∧
    (publish s).fr.epoch = s.fr.epoch ∧
    (publish s).pending = s.pending := by
  simp [publish]

@[simp] theorem rampAll_keeps (s : State) :
    (rampAll s).top.state = s.top.state ∧
    (rampAll s).top.coreBor = s.top.coreBor ∧
    (rampAll s).fr.running = s.fr.running ∧
    (rampAll s).fr.epoch = s.fr.epoch ∧
    (rampAll s).pending = s.pending := by
  simp [rampAll]

@[simp] theorem bump_keeps (i : Nat) (c : Bool) (s : State) :
    (bump i c s).top.state = s.top.state ∧
    (bump i c s).top.coreBor = s.top.coreBor ∧
    (bump i c s).fr.running = s.fr.running ∧
    (bump i c s).fr.epoch = s.fr.epoch ∧
    (bump i c s).pending = s.pending := by
  simp [bump]

end Sys2Proof.Machine
end

