-- ==== Sys2Proof/Laws/KeepsFrame.lean ====
section
/-! SUPPORT. What the definitions of Machine/Frame.lean leave alone: the state, a Core BOR, the frame generator, EPOCH and
the queue. -/

namespace Sys2Proof.Machine

@[simp] theorem holdConds_keeps (s : State) :
    (holdConds s).top.state = s.top.state ∧
    (holdConds s).top.coreBor = s.top.coreBor ∧
    (holdConds s).fr.running = s.fr.running ∧
    (holdConds s).fr.epoch = s.fr.epoch ∧
    (holdConds s).pending = s.pending := by
  simp [holdConds]

@[simp] theorem overrideEpisode_keeps (s : State) :
    (overrideEpisode s).top.state = s.top.state ∧
    (overrideEpisode s).top.coreBor = s.top.coreBor ∧
    (overrideEpisode s).fr.running = s.fr.running ∧
    (overrideEpisode s).fr.epoch = s.fr.epoch ∧
    (overrideEpisode s).pending = s.pending := by
  simp [overrideEpisode]

@[simp] theorem stretch_keeps (res : Nat) (tick : Nat) (d0 : Nat) (d1 : Nat) (s : State) :
    (stretch res tick d0 d1 s).top.state = s.top.state ∧
    (stretch res tick d0 d1 s).top.coreBor = s.top.coreBor ∧
    (stretch res tick d0 d1 s).fr.running = s.fr.running ∧
    (stretch res tick d0 d1 s).fr.epoch = s.fr.epoch ∧
    (stretch res tick d0 d1 s).pending = s.pending := by
  simp [stretch]

@[simp] theorem riseNow_keeps (tick : Nat) (s : State) :
    (riseNow tick s).top.state = s.top.state ∧
    (riseNow tick s).top.coreBor = s.top.coreBor ∧
    (riseNow tick s).fr.running = s.fr.running ∧
    (riseNow tick s).fr.epoch = s.fr.epoch ∧
    (riseNow tick s).pending = s.pending := by
  simp [riseNow]

@[simp] theorem vddDroop_keeps (level : Nat) (tick : Nat) (s : State) :
    (vddDroop level tick s).top.state = s.top.state ∧
    (vddDroop level tick s).top.coreBor = s.top.coreBor ∧
    (vddDroop level tick s).fr.running = s.fr.running ∧
    (vddDroop level tick s).fr.epoch = s.fr.epoch ∧
    (vddDroop level tick s).pending = s.pending := by
  simp [vddDroop]

@[simp] theorem testDemand_keeps (s : State) :
    (testDemand s).top.state = s.top.state ∧
    (testDemand s).top.coreBor = s.top.coreBor ∧
    (testDemand s).fr.running = s.fr.running ∧
    (testDemand s).fr.epoch = s.fr.epoch ∧
    (testDemand s).pending = s.pending := by
  simp [testDemand]

@[simp] theorem throttleRelease_keeps (s : State) :
    (throttleRelease s).top.state = s.top.state ∧
    (throttleRelease s).top.coreBor = s.top.coreBor ∧
    (throttleRelease s).fr.running = s.fr.running ∧
    (throttleRelease s).fr.epoch = s.fr.epoch ∧
    (throttleRelease s).pending = s.pending := by
  simp [throttleRelease]

@[simp] theorem throttleCount_keeps (s : State) :
    (throttleCount s).top.state = s.top.state ∧
    (throttleCount s).top.coreBor = s.top.coreBor ∧
    (throttleCount s).fr.running = s.fr.running ∧
    (throttleCount s).fr.epoch = s.fr.epoch ∧
    (throttleCount s).pending = s.pending := by
  simp [throttleCount]

@[simp] theorem carryStretch_keeps (res : Nat) (d0 : Nat) (d1 : Nat) (s : State) :
    (carryStretch res d0 d1 s).top.state = s.top.state ∧
    (carryStretch res d0 d1 s).top.coreBor = s.top.coreBor ∧
    (carryStretch res d0 d1 s).fr.running = s.fr.running ∧
    (carryStretch res d0 d1 s).fr.epoch = s.fr.epoch ∧
    (carryStretch res d0 d1 s).pending = s.pending := by
  simp [carryStretch]

@[simp] theorem throttleBoundary_keeps (s : State) :
    (throttleBoundary s).top.state = s.top.state ∧
    (throttleBoundary s).top.coreBor = s.top.coreBor ∧
    (throttleBoundary s).fr.running = s.fr.running ∧
    (throttleBoundary s).fr.epoch = s.fr.epoch ∧
    (throttleBoundary s).pending = s.pending := by
  simp [throttleBoundary]

@[simp] theorem bumpAcct_keeps (res : Nat) (f : Acct → Acct) (s : State) :
    (bumpAcct res f s).top.state = s.top.state ∧
    (bumpAcct res f s).top.coreBor = s.top.coreBor ∧
    (bumpAcct res f s).fr.running = s.fr.running ∧
    (bumpAcct res f s).fr.epoch = s.fr.epoch ∧
    (bumpAcct res f s).pending = s.pending := by
  simp [bumpAcct]

@[simp] theorem consider_keeps (it : Item) (s : State) :
    (consider it s).1.top.state = s.top.state ∧
    (consider it s).1.top.coreBor = s.top.coreBor ∧
    (consider it s).1.fr.running = s.fr.running ∧
    (consider it s).1.fr.epoch = s.fr.epoch ∧
    (consider it s).1.pending = s.pending := by
  simp only [consider]; split <;> simp

@[simp] theorem considerAll_keeps : ∀ (q : List Item) (bl : List Nat) (s : State),
    (considerAll q bl s).1.top.state = s.top.state ∧
    (considerAll q bl s).1.top.coreBor = s.top.coreBor ∧
    (considerAll q bl s).1.fr.running = s.fr.running ∧
    (considerAll q bl s).1.fr.epoch = s.fr.epoch ∧
    (considerAll q bl s).1.pending = s.pending
  | [], _, s => by simp [considerAll]
  | it :: q, bl, s => by
    have h := consider_keeps it s
    unfold considerAll
    split
    · simp [considerAll_keeps q bl s]
    · split <;> rename_i heq <;> rw [heq] at h <;> simp_all [considerAll_keeps q]

@[simp] theorem queueItem_keeps (it : Item) (s : State) :
    (queueItem it s).top.state = s.top.state ∧
    (queueItem it s).top.coreBor = s.top.coreBor ∧
    (queueItem it s).fr.running = s.fr.running ∧
    (queueItem it s).fr.epoch = s.fr.epoch ∧
    (queueItem it s).pending = s.pending := by
  unfold queueItem
  split
  · simp
  · have h := consider_keeps it s
    split <;> rename_i heq <;> rw [heq] at h <;> simp_all

theorem takeDone_keeps (w : Work) (s t : State) (h : takeDone w s = some t) :
    t.top.state = s.top.state ∧
    t.top.coreBor = s.top.coreBor ∧
    t.fr.running = s.fr.running ∧
    t.fr.epoch = s.fr.epoch ∧
    t.pending = s.pending := by
  unfold takeDone at h
  (repeat' split at h) <;> cases h <;> simp

@[simp] theorem dropWork_keeps (p : Work → Bool) (s : State) :
    (dropWork p s).top.state = s.top.state ∧
    (dropWork p s).top.coreBor = s.top.coreBor ∧
    (dropWork p s).fr.running = s.fr.running ∧
    (dropWork p s).fr.epoch = s.fr.epoch ∧
    (dropWork p s).pending = s.pending := by
  simp [dropWork]

@[simp] theorem ledgerClose_keeps (st : DevState) (s : State) :
    (ledgerClose st s).top.state = s.top.state ∧
    (ledgerClose st s).top.coreBor = s.top.coreBor ∧
    (ledgerClose st s).fr.running = s.fr.running ∧
    (ledgerClose st s).fr.epoch = s.fr.epoch ∧
    (ledgerClose st s).pending = s.pending := by
  simp [ledgerClose]

@[simp] theorem ledgerOpen_keeps (s : State) :
    (ledgerOpen s).top.state = s.top.state ∧
    (ledgerOpen s).top.coreBor = s.top.coreBor ∧
    (ledgerOpen s).fr.running = s.fr.running ∧
    (ledgerOpen s).fr.epoch = s.fr.epoch ∧
    (ledgerOpen s).pending = s.pending := by
  simp [ledgerOpen]

@[simp] theorem submitTask_keeps (s : State) (t : HiveTask) :
    (submitTask s t).top.state = s.top.state ∧
    (submitTask s t).top.coreBor = s.top.coreBor ∧
    (submitTask s t).fr.running = s.fr.running ∧
    (submitTask s t).fr.epoch = s.fr.epoch ∧
    (submitTask s t).pending = s.pending := by
  simp [submitTask]

@[simp] theorem submitTasks_keeps (ts : List HiveTask) (s : State) :
    (submitTasks ts s).top.state = s.top.state ∧
    (submitTasks ts s).top.coreBor = s.top.coreBor ∧
    (submitTasks ts s).fr.running = s.fr.running ∧
    (submitTasks ts s).fr.epoch = s.fr.epoch ∧
    (submitTasks ts s).pending = s.pending := by
  simp [submitTasks]

@[simp] theorem reapTasks_keeps (s : State) :
    (reapTasks s).top.state = s.top.state ∧
    (reapTasks s).top.coreBor = s.top.coreBor ∧
    (reapTasks s).fr.running = s.fr.running ∧
    (reapTasks s).fr.epoch = s.fr.epoch ∧
    (reapTasks s).pending = s.pending := by
  simp [reapTasks]

@[simp] theorem dropHiveItems_keeps (s : State) :
    (dropHiveItems s).top.state = s.top.state ∧
    (dropHiveItems s).top.coreBor = s.top.coreBor ∧
    (dropHiveItems s).fr.running = s.fr.running ∧
    (dropHiveItems s).fr.epoch = s.fr.epoch ∧
    (dropHiveItems s).pending = s.pending := by
  simp [dropHiveItems]

@[simp] theorem stopFrames_keeps (s : State) : (stopFrames s).top = s.top ∧ (stopFrames s).fr.running = false ∧
    (stopFrames s).fr.epoch = s.fr.epoch ∧ (stopFrames s).pending = s.pending := by simp [stopFrames]

@[simp] theorem startFrames_keeps (s : State) :
    (startFrames s).top.state = s.top.state ∧
    (startFrames s).top.coreBor = s.top.coreBor ∧
    (startFrames s).fr.running = true ∧
    (startFrames s).pending = s.pending := by
  simp [startFrames]

@[simp] theorem refLossNow_keeps (s : State) :
    (refLossNow s).top.state = s.top.state ∧
    (refLossNow s).top.coreBor = s.top.coreBor ∧
    (refLossNow s).fr.running = s.fr.running ∧
    (refLossNow s).fr.epoch = s.fr.epoch ∧
    (refLossNow s).pending = s.pending := by
  simp [refLossNow]

end Sys2Proof.Machine
end

