-- ==== Sys2Proof/Laws/KeepsAdmit.lean ====
section
/-! SUPPORT. What the definitions of Machine/Admit.lean leave alone: the state, a Core BOR, the frame generator, EPOCH and
the queue. -/

namespace Sys2Proof.Machine

@[simp] theorem mapWrites_keeps (first : Nat) (count : Nat) (s : State) :
    (mapWrites first count s).top.state = s.top.state ∧
    (mapWrites first count s).top.coreBor = s.top.coreBor ∧
    (mapWrites first count s).fr.running = s.fr.running ∧
    (mapWrites first count s).fr.epoch = s.fr.epoch ∧
    (mapWrites first count s).pending = s.pending := by
  simp [mapWrites]

@[simp] theorem writeCell_keeps (c : Nat) (st : Nat) (gen : Nat) (s : State) :
    (writeCell c st gen s).top.state = s.top.state ∧
    (writeCell c st gen s).top.coreBor = s.top.coreBor ∧
    (writeCell c st gen s).fr.running = s.fr.running ∧
    (writeCell c st gen s).fr.epoch = s.fr.epoch ∧
    (writeCell c st gen s).pending = s.pending := by
  simp [writeCell]

@[simp] theorem addDirty_keeps (t : Nat) (n : Nat) (s : State) :
    (addDirty t n s).top.state = s.top.state ∧
    (addDirty t n s).top.coreBor = s.top.coreBor ∧
    (addDirty t n s).fr.running = s.fr.running ∧
    (addDirty t n s).fr.epoch = s.fr.epoch ∧
    (addDirty t n s).pending = s.pending := by
  simp [addDirty]

@[simp] theorem subDirty_keeps (t : Nat) (n : Nat) (s : State) :
    (subDirty t n s).top.state = s.top.state ∧
    (subDirty t n s).top.coreBor = s.top.coreBor ∧
    (subDirty t n s).fr.running = s.fr.running ∧
    (subDirty t n s).fr.epoch = s.fr.epoch ∧
    (subDirty t n s).pending = s.pending := by
  simp [subDirty]

@[simp] theorem undirty_keeps (c : Nat) (st : Nat) (s : State) :
    (undirty c st s).top.state = s.top.state ∧
    (undirty c st s).top.coreBor = s.top.coreBor ∧
    (undirty c st s).fr.running = s.fr.running ∧
    (undirty c st s).fr.epoch = s.fr.epoch ∧
    (undirty c st s).pending = s.pending := by
  unfold undirty; (repeat' split) <;> simp

@[simp] theorem refresh_keeps (s : State) :
    (refresh s).top.state = s.top.state ∧
    (refresh s).top.coreBor = s.top.coreBor ∧
    (refresh s).fr.running = s.fr.running ∧
    (refresh s).fr.epoch = s.fr.epoch ∧
    (refresh s).pending = s.pending := by
  simp [refresh]

@[simp] theorem entryRead_keeps (r : Nat) (e : Entry) (s : State) :
    (entryRead r e s).top.state = s.top.state ∧
    (entryRead r e s).top.coreBor = s.top.coreBor ∧
    (entryRead r e s).fr.running = s.fr.running ∧
    (entryRead r e s).fr.epoch = s.fr.epoch ∧
    (entryRead r e s).pending = s.pending := by
  simp [entryRead]

@[simp] theorem ringsWait_keeps (r : Nat) (s : State) :
    (ringsWait r s).top.state = s.top.state ∧
    (ringsWait r s).top.coreBor = s.top.coreBor ∧
    (ringsWait r s).fr.running = s.fr.running ∧
    (ringsWait r s).fr.epoch = s.fr.epoch ∧
    (ringsWait r s).pending = s.pending := by
  simp [ringsWait]

@[simp] theorem postAnswer_keeps (r : Nat) (e : Entry) (v : Verdict) (s : State) :
    (postAnswer r e v s).top.state = s.top.state ∧
    (postAnswer r e v s).top.coreBor = s.top.coreBor ∧
    (postAnswer r e v s).fr.running = s.fr.running ∧
    (postAnswer r e v s).fr.epoch = s.fr.epoch ∧
    (postAnswer r e v s).pending = s.pending := by
  unfold postAnswer; (repeat' split) <;> simp

@[simp] theorem setHead_keeps (t : Nat) (p : Pend) (s : State) :
    (setHead t p s).top.state = s.top.state ∧
    (setHead t p s).top.coreBor = s.top.coreBor ∧
    (setHead t p s).fr.running = s.fr.running ∧
    (setHead t p s).fr.epoch = s.fr.epoch ∧
    (setHead t p s).pending = s.pending := by
  simp [setHead]

@[simp] theorem setClean_keeps (t : Nat) (st : Stage) (s : State) :
    (setClean t st s).top.state = s.top.state ∧
    (setClean t st s).top.coreBor = s.top.coreBor ∧
    (setClean t st s).fr.running = s.fr.running ∧
    (setClean t st s).fr.epoch = s.fr.epoch ∧
    (setClean t st s).pending = s.pending := by
  simp [setClean]

@[simp] theorem cleanServe_keeps (t : Nat) (s : State) :
    (cleanServe t s).top.state = s.top.state ∧
    (cleanServe t s).top.coreBor = s.top.coreBor ∧
    (cleanServe t s).fr.running = s.fr.running ∧
    (cleanServe t s).fr.epoch = s.fr.epoch ∧
    (cleanServe t s).pending = s.pending := by
  unfold cleanServe; split <;> simp

@[simp] theorem servedLast_keeps (t : Nat) (s : State) :
    (servedLast t s).top.state = s.top.state ∧
    (servedLast t s).top.coreBor = s.top.coreBor ∧
    (servedLast t s).fr.running = s.fr.running ∧
    (servedLast t s).fr.epoch = s.fr.epoch ∧
    (servedLast t s).pending = s.pending := by
  simp [servedLast]

@[simp] theorem dirtyServe_keeps (t : Nat) (s : State) :
    (dirtyServe t s).top.state = s.top.state ∧
    (dirtyServe t s).top.coreBor = s.top.coreBor ∧
    (dirtyServe t s).fr.running = s.fr.running ∧
    (dirtyServe t s).fr.epoch = s.fr.epoch ∧
    (dirtyServe t s).pending = s.pending := by
  unfold dirtyServe; split <;> simp

@[simp] theorem serveHeads_keeps (s : State) :
    (serveHeads s).top.state = s.top.state ∧
    (serveHeads s).top.coreBor = s.top.coreBor ∧
    (serveHeads s).fr.running = s.fr.running ∧
    (serveHeads s).fr.epoch = s.fr.epoch ∧
    (serveHeads s).pending = s.pending := by
  simp [serveHeads]

@[simp] theorem answerDirty_keeps (t : Nat) (s : State) :
    (answerDirty t s).top.state = s.top.state ∧
    (answerDirty t s).top.coreBor = s.top.coreBor ∧
    (answerDirty t s).fr.running = s.fr.running ∧
    (answerDirty t s).fr.epoch = s.fr.epoch ∧
    (answerDirty t s).pending = s.pending := by
  unfold answerDirty; (repeat' split) <;> simp

@[simp] theorem answerClean_keeps (t : Nat) (s : State) :
    (answerClean t s).top.state = s.top.state ∧
    (answerClean t s).top.coreBor = s.top.coreBor ∧
    (answerClean t s).fr.running = s.fr.running ∧
    (answerClean t s).fr.epoch = s.fr.epoch ∧
    (answerClean t s).pending = s.pending := by
  unfold answerClean; split <;> simp

@[simp] theorem answerKept_keeps (t : Nat) (s : State) :
    (answerKept t s).top.state = s.top.state ∧
    (answerKept t s).top.coreBor = s.top.coreBor ∧
    (answerKept t s).fr.running = s.fr.running ∧
    (answerKept t s).fr.epoch = s.fr.epoch ∧
    (answerKept t s).pending = s.pending := by
  unfold answerKept; split <;> simp

@[simp] theorem decideHead_keeps (t : Nat) (p0 : Pend) (s : State) :
    (decideHead t p0 s).top.state = s.top.state ∧
    (decideHead t p0 s).top.coreBor = s.top.coreBor ∧
    (decideHead t p0 s).fr.running = s.fr.running ∧
    (decideHead t p0 s).fr.epoch = s.fr.epoch ∧
    (decideHead t p0 s).pending = s.pending := by
  simp only [decideHead]; split <;> simp

@[simp] theorem decideDirty_keeps (t : Nat) (s : State) :
    (decideDirty t s).top.state = s.top.state ∧
    (decideDirty t s).top.coreBor = s.top.coreBor ∧
    (decideDirty t s).fr.running = s.fr.running ∧
    (decideDirty t s).fr.epoch = s.fr.epoch ∧
    (decideDirty t s).pending = s.pending := by
  unfold decideDirty; split <;> simp

@[simp] theorem decideCleanHead_keeps (t : Nat) (e : Entry) (s : State) :
    (decideCleanHead t e s).top.state = s.top.state ∧
    (decideCleanHead t e s).top.coreBor = s.top.coreBor ∧
    (decideCleanHead t e s).fr.running = s.fr.running ∧
    (decideCleanHead t e s).fr.epoch = s.fr.epoch ∧
    (decideCleanHead t e s).pending = s.pending := by
  simp [decideCleanHead]

@[simp] theorem decideClean_keeps (t : Nat) (s : State) :
    (decideClean t s).top.state = s.top.state ∧
    (decideClean t s).top.coreBor = s.top.coreBor ∧
    (decideClean t s).fr.running = s.fr.running ∧
    (decideClean t s).fr.epoch = s.fr.epoch ∧
    (decideClean t s).pending = s.pending := by
  unfold decideClean; split <;> simp

@[simp] theorem repairWord_keeps (w : Nat) (s : State) :
    (repairWord w s).top.state = s.top.state ∧
    (repairWord w s).top.coreBor = s.top.coreBor ∧
    (repairWord w s).fr.running = s.fr.running ∧
    (repairWord w s).fr.epoch = s.fr.epoch ∧
    (repairWord w s).pending = s.pending := by
  simp (disch := first | (intros; (repeat' split) <;> simp; done) | assumption) [repairWord]

@[simp] theorem correctWord_keeps (w : Nat) (s : State) :
    (correctWord w s).top.state = s.top.state ∧
    (correctWord w s).top.coreBor = s.top.coreBor ∧
    (correctWord w s).fr.running = s.fr.running ∧
    (correctWord w s).fr.epoch = s.fr.epoch ∧
    (correctWord w s).pending = s.pending := by
  simp [correctWord]

@[simp] theorem readWords_keeps (p : Nat → Bool) (s : State) :
    (readWords p s).top.state = s.top.state ∧
    (readWords p s).top.coreBor = s.top.coreBor ∧
    (readWords p s).fr.running = s.fr.running ∧
    (readWords p s).fr.epoch = s.fr.epoch ∧
    (readWords p s).pending = s.pending := by
  simp [readWords]

@[simp] theorem scanWords_keeps (first : Nat) (count : Nat) (s : State) :
    (scanWords first count s).top.state = s.top.state ∧
    (scanWords first count s).top.coreBor = s.top.coreBor ∧
    (scanWords first count s).fr.running = s.fr.running ∧
    (scanWords first count s).fr.epoch = s.fr.epoch ∧
    (scanWords first count s).pending = s.pending := by
  simp [scanWords]

@[simp] theorem admitScanDone_keeps (t : Nat) (s : State) :
    (admitScanDone t s).top.state = s.top.state ∧
    (admitScanDone t s).top.coreBor = s.top.coreBor ∧
    (admitScanDone t s).fr.running = s.fr.running ∧
    (admitScanDone t s).fr.epoch = s.fr.epoch ∧
    (admitScanDone t s).pending = s.pending := by
  unfold admitScanDone
  (repeat' split) <;> first
    | (simp; done)
    | (have hk := takeDone_keeps _ _ _ ‹_›; simp [hk])

@[simp] theorem mapRecountDone_keeps (s : State) :
    (mapRecountDone s).top.state = s.top.state ∧
    (mapRecountDone s).top.coreBor = s.top.coreBor ∧
    (mapRecountDone s).fr.running = s.fr.running ∧
    (mapRecountDone s).fr.epoch = s.fr.epoch ∧
    (mapRecountDone s).pending = s.pending := by
  unfold mapRecountDone
  (repeat' split) <;> first
    | (simp; done)
    | (have hk := takeDone_keeps _ _ _ ‹_›; simp [hk])

@[simp] theorem admitWaitExpiry_keeps (t : Nat) (s : State) :
    (admitWaitExpiry t s).top.state = s.top.state ∧
    (admitWaitExpiry t s).top.coreBor = s.top.coreBor ∧
    (admitWaitExpiry t s).fr.running = s.fr.running ∧
    (admitWaitExpiry t s).fr.epoch = s.fr.epoch ∧
    (admitWaitExpiry t s).pending = s.pending := by
  unfold admitWaitExpiry; split <;> simp

@[simp] theorem keptReady_keeps (o : Nat) (s : State) :
    (keptReady o s).top.state = s.top.state ∧
    (keptReady o s).top.coreBor = s.top.coreBor ∧
    (keptReady o s).fr.running = s.fr.running ∧
    (keptReady o s).fr.epoch = s.fr.epoch ∧
    (keptReady o s).pending = s.pending := by
  simp [keptReady]

@[simp] theorem writeDirty_keeps (first : Nat) (count : Nat) (s : State) :
    (writeDirty first count s).top.state = s.top.state ∧
    (writeDirty first count s).top.coreBor = s.top.coreBor ∧
    (writeDirty first count s).fr.running = s.fr.running ∧
    (writeDirty first count s).fr.epoch = s.fr.epoch ∧
    (writeDirty first count s).pending = s.pending := by
  simp [writeDirty]

@[simp] theorem writeClean_keeps (first : Nat) (count : Nat) (s : State) :
    (writeClean first count s).top.state = s.top.state ∧
    (writeClean first count s).top.coreBor = s.top.coreBor ∧
    (writeClean first count s).fr.running = s.fr.running ∧
    (writeClean first count s).fr.epoch = s.fr.epoch ∧
    (writeClean first count s).pending = s.pending := by
  simp [writeClean]

@[simp] theorem admitMapWriteDone_keeps (t : Nat) (s : State) :
    (admitMapWriteDone t s).top.state = s.top.state ∧
    (admitMapWriteDone t s).top.coreBor = s.top.coreBor ∧
    (admitMapWriteDone t s).fr.running = s.fr.running ∧
    (admitMapWriteDone t s).fr.epoch = s.fr.epoch ∧
    (admitMapWriteDone t s).pending = s.pending := by
  unfold admitMapWriteDone
  (repeat' split) <;> first
    | (simp; done)
    | (have hk := takeDone_keeps _ _ _ ‹_›; dsimp only; (repeat' split) <;> simp [hk])

@[simp] theorem cleanScanDone_keeps (t : Nat) (s : State) :
    (cleanScanDone t s).top.state = s.top.state ∧
    (cleanScanDone t s).top.coreBor = s.top.coreBor ∧
    (cleanScanDone t s).fr.running = s.fr.running ∧
    (cleanScanDone t s).fr.epoch = s.fr.epoch ∧
    (cleanScanDone t s).pending = s.pending := by
  unfold cleanScanDone
  (repeat' split) <;> first
    | (simp; done)
    | (have hk := takeDone_keeps _ _ _ ‹_›; simp [hk])

@[simp] theorem cleanWriteDone_keeps (t : Nat) (s : State) :
    (cleanWriteDone t s).top.state = s.top.state ∧
    (cleanWriteDone t s).top.coreBor = s.top.coreBor ∧
    (cleanWriteDone t s).fr.running = s.fr.running ∧
    (cleanWriteDone t s).fr.epoch = s.fr.epoch ∧
    (cleanWriteDone t s).pending = s.pending := by
  unfold cleanWriteDone
  (repeat' split) <;> first
    | (simp; done)
    | (have hk := takeDone_keeps _ _ _ ‹_›; dsimp only; (repeat' split) <;> simp [hk])

@[simp] theorem demandAnswer_keeps (r : Nat) (e : Entry) (v : Verdict) (s : State) :
    (demandAnswer r e v s).top.state = s.top.state ∧
    (demandAnswer r e v s).top.coreBor = s.top.coreBor ∧
    (demandAnswer r e v s).fr.running = s.fr.running ∧
    (demandAnswer r e v s).fr.epoch = s.fr.epoch ∧
    (demandAnswer r e v s).pending = s.pending := by
  simp [demandAnswer]

@[simp] theorem demandNow_keeps (r : Nat) (s : State) :
    (demandNow r s).top.state = s.top.state ∧
    (demandNow r s).top.coreBor = s.top.coreBor ∧
    (demandNow r s).fr.running = s.fr.running ∧
    (demandNow r s).fr.epoch = s.fr.epoch ∧
    (demandNow r s).pending = s.pending := by
  unfold demandNow; split <;> simp

@[simp] theorem answerServed_keeps (r : Nat) (s : State) :
    (answerServed r s).top.state = s.top.state ∧
    (answerServed r s).top.coreBor = s.top.coreBor ∧
    (answerServed r s).fr.running = s.fr.running ∧
    (answerServed r s).fr.epoch = s.fr.epoch ∧
    (answerServed r s).pending = s.pending := by
  simp only [answerServed]; (repeat' split) <;> simp

@[simp] theorem finishServed_keeps (s : State) :
    (finishServed s).top.state = s.top.state ∧
    (finishServed s).top.coreBor = s.top.coreBor ∧
    (finishServed s).fr.running = s.fr.running ∧
    (finishServed s).fr.epoch = s.fr.epoch ∧
    (finishServed s).pending = s.pending := by
  simp [finishServed]

@[simp] theorem lookUp_keeps (d : Demand) (s : State) :
    (lookUp d s).top.state = s.top.state ∧
    (lookUp d s).top.coreBor = s.top.coreBor ∧
    (lookUp d s).fr.running = s.fr.running ∧
    (lookUp d s).fr.epoch = s.fr.epoch ∧
    (lookUp d s).pending = s.pending := by
  simp only [lookUp]; split <;> simp

@[simp] theorem demandLookupDone_keeps (r : Nat) (s : State) :
    (demandLookupDone r s).top.state = s.top.state ∧
    (demandLookupDone r s).top.coreBor = s.top.coreBor ∧
    (demandLookupDone r s).fr.running = s.fr.running ∧
    (demandLookupDone r s).fr.epoch = s.fr.epoch ∧
    (demandLookupDone r s).pending = s.pending := by
  unfold demandLookupDone
  (repeat' split) <;> first
    | (simp; done)
    | (have hk := takeDone_keeps _ _ _ ‹_›; simp [hk])

@[simp] theorem serveRing_keeps (r : Nat) (s : State) :
    (serveRing r s).top.state = s.top.state ∧
    (serveRing r s).top.coreBor = s.top.coreBor ∧
    (serveRing r s).fr.running = s.fr.running ∧
    (serveRing r s).fr.epoch = s.fr.epoch ∧
    (serveRing r s).pending = s.pending := by
  simp [serveRing]

@[simp] theorem answerPostDeferred_keeps (t : Nat) (s : State) :
    (answerPostDeferred t s).top.state = s.top.state ∧
    (answerPostDeferred t s).top.coreBor = s.top.coreBor ∧
    (answerPostDeferred t s).fr.running = s.fr.running ∧
    (answerPostDeferred t s).fr.epoch = s.fr.epoch ∧
    (answerPostDeferred t s).pending = s.pending := by
  simp only [answerPostDeferred]; (repeat' split) <;> simp

@[simp] theorem ringsPump_keeps : ∀ (ws : List RingWork) (s : State),
    (ringsPump ws s).top.state = s.top.state ∧
    (ringsPump ws s).top.coreBor = s.top.coreBor ∧
    (ringsPump ws s).fr.running = s.fr.running ∧
    (ringsPump ws s).fr.epoch = s.fr.epoch ∧
    (ringsPump ws s).pending = s.pending
  | [], _ => by simp [ringsPump]
  | w :: ws, s => by
    have h := fun t => ringsPump_keeps ws t
    unfold ringsPump
    split
    · simp
    · simp only [h]; split <;> simp

@[simp] theorem ringsOpen_keeps (s : State) :
    (ringsOpen s).top.state = s.top.state ∧
    (ringsOpen s).top.coreBor = s.top.coreBor ∧
    (ringsOpen s).fr.running = s.fr.running ∧
    (ringsOpen s).fr.epoch = s.fr.epoch ∧
    (ringsOpen s).pending = s.pending := by
  simp [ringsOpen]

@[simp] theorem unsolClose_keeps (s : State) :
    (unsolClose s).top.state = s.top.state ∧
    (unsolClose s).top.coreBor = s.top.coreBor ∧
    (unsolClose s).fr.running = s.fr.running ∧
    (unsolClose s).fr.epoch = s.fr.epoch ∧
    (unsolClose s).pending = s.pending := by
  simp [unsolClose]

@[simp] theorem portErr_keeps (c : Nat) (s : State) :
    (portErr c s).top.state = s.top.state ∧
    (portErr c s).top.coreBor = s.top.coreBor ∧
    (portErr c s).fr.running = s.fr.running ∧
    (portErr c s).fr.epoch = s.fr.epoch ∧
    (portErr c s).pending = s.pending := by
  simp [portErr]

@[simp] theorem applyRingSel_keeps (data : Word) (be : ByteEn) (s : State) :
    (applyRingSel data be s).top.state = s.top.state ∧
    (applyRingSel data be s).top.coreBor = s.top.coreBor ∧
    (applyRingSel data be s).fr.running = s.fr.running ∧
    (applyRingSel data be s).fr.epoch = s.fr.epoch ∧
    (applyRingSel data be s).pending = s.pending := by
  simp [applyRingSel]

@[simp] theorem applyRingPort_keeps (data : Word) (s : State) :
    (applyRingPort data s).top.state = s.top.state ∧
    (applyRingPort data s).top.coreBor = s.top.coreBor ∧
    (applyRingPort data s).fr.running = s.fr.running ∧
    (applyRingPort data s).fr.epoch = s.fr.epoch ∧
    (applyRingPort data s).pending = s.pending := by
  simp only [applyRingPort]; (repeat' split) <;> simp

@[simp] theorem readRingPort_keeps (s : State) :
    (readRingPort s).2.top.state = s.top.state ∧
    (readRingPort s).2.top.coreBor = s.top.coreBor ∧
    (readRingPort s).2.fr.running = s.fr.running ∧
    (readRingPort s).2.fr.epoch = s.fr.epoch ∧
    (readRingPort s).2.pending = s.pending := by
  simp only [readRingPort]; (repeat' split) <;> simp

@[simp] theorem applyDoorbell_keeps (data : Word) (s : State) :
    (applyDoorbell data s).top.state = s.top.state ∧
    (applyDoorbell data s).top.coreBor = s.top.coreBor ∧
    (applyDoorbell data s).fr.running = s.fr.running ∧
    (applyDoorbell data s).fr.epoch = s.fr.epoch ∧
    (applyDoorbell data s).pending = s.pending := by
  simp [applyDoorbell]

@[simp] theorem emptyRing_keeps (r : Nat) (keepAnswers : Bool) (s : State) :
    (emptyRing r keepAnswers s).top.state = s.top.state ∧
    (emptyRing r keepAnswers s).top.coreBor = s.top.coreBor ∧
    (emptyRing r keepAnswers s).fr.running = s.fr.running ∧
    (emptyRing r keepAnswers s).fr.epoch = s.fr.epoch ∧
    (emptyRing r keepAnswers s).pending = s.pending := by
  simp [emptyRing]

@[simp] theorem dropAnswers_keeps (t : Nat) (s : State) :
    (dropAnswers t s).top.state = s.top.state ∧
    (dropAnswers t s).top.coreBor = s.top.coreBor ∧
    (dropAnswers t s).fr.running = s.fr.running ∧
    (dropAnswers t s).fr.epoch = s.fr.epoch ∧
    (dropAnswers t s).pending = s.pending := by
  simp [dropAnswers]

@[simp] theorem askReset_keeps (r : Nat) (s : State) :
    (askReset r s).top.state = s.top.state ∧
    (askReset r s).top.coreBor = s.top.coreBor ∧
    (askReset r s).fr.running = s.fr.running ∧
    (askReset r s).fr.epoch = s.fr.epoch ∧
    (askReset r s).pending = s.pending := by
  simp [askReset]

@[simp] theorem ringReset_keeps (r : Nat) (s : State) :
    (ringReset r s).top.state = s.top.state ∧
    (ringReset r s).top.coreBor = s.top.coreBor ∧
    (ringReset r s).fr.running = s.fr.running ∧
    (ringReset r s).fr.epoch = s.fr.epoch ∧
    (ringReset r s).pending = s.pending := by
  unfold ringReset; (repeat' split) <;> simp

@[simp] theorem resetsDue_keeps (s : State) :
    (resetsDue s).top.state = s.top.state ∧
    (resetsDue s).top.coreBor = s.top.coreBor ∧
    (resetsDue s).fr.running = s.fr.running ∧
    (resetsDue s).fr.epoch = s.fr.epoch ∧
    (resetsDue s).pending = s.pending := by
  simp [resetsDue]

end Sys2Proof.Machine
end

