-- ==== Sys2Proof/Laws/KeepsKeys.lean ====
section
/-! SUPPORT. What the definitions of Machine/Keys.lean leave alone: the state, a Core BOR, the frame generator, EPOCH and
the queue. -/

namespace Sys2Proof.Machine

@[simp] theorem unlockMsg_keeps (kind : Nat) (lvl : Nat) (ch : Nat) (res : Nat) (s : State) :
    (unlockMsg kind lvl ch res s).top.state = s.top.state ∧
    (unlockMsg kind lvl ch res s).top.coreBor = s.top.coreBor ∧
    (unlockMsg kind lvl ch res s).fr.running = s.fr.running ∧
    (unlockMsg kind lvl ch res s).fr.epoch = s.fr.epoch ∧
    (unlockMsg kind lvl ch res s).pending = s.pending := by
  simp [unlockMsg]

@[simp] theorem cancelExchange_keeps (s : State) :
    (cancelExchange s).top.state = s.top.state ∧
    (cancelExchange s).top.coreBor = s.top.coreBor ∧
    (cancelExchange s).fr.running = s.fr.running ∧
    (cancelExchange s).fr.epoch = s.fr.epoch ∧
    (cancelExchange s).pending = s.pending := by
  simp [cancelExchange]

@[simp] theorem closeLevel_keeps (s : State) :
    (closeLevel s).top.state = s.top.state ∧
    (closeLevel s).top.coreBor = s.top.coreBor ∧
    (closeLevel s).fr.running = s.fr.running ∧
    (closeLevel s).fr.epoch = s.fr.epoch ∧
    (closeLevel s).pending = s.pending := by
  simp [closeLevel]

@[simp] theorem clearKeys_keeps (s : State) :
    (clearKeys s).top.state = s.top.state ∧
    (clearKeys s).top.coreBor = s.top.coreBor ∧
    (clearKeys s).fr.running = s.fr.running ∧
    (clearKeys s).fr.epoch = s.fr.epoch ∧
    (clearKeys s).pending = s.pending := by
  simp [clearKeys]

@[simp] theorem relock_keeps (ch : Nat) (s : State) :
    (relock ch s).top.state = s.top.state ∧
    (relock ch s).top.coreBor = s.top.coreBor ∧
    (relock ch s).fr.running = s.fr.running ∧
    (relock ch s).fr.epoch = s.fr.epoch ∧
    (relock ch s).pending = s.pending := by
  simp [relock]

@[simp] theorem unlockAsk_keeps (ch : Nat) (lvl : Nat) (s : State) :
    (unlockAsk ch lvl s).top.state = s.top.state ∧
    (unlockAsk ch lvl s).top.coreBor = s.top.coreBor ∧
    (unlockAsk ch lvl s).fr.running = s.fr.running ∧
    (unlockAsk ch lvl s).fr.epoch = s.fr.epoch ∧
    (unlockAsk ch lvl s).pending = s.pending := by
  simp [unlockAsk]

@[simp] theorem openEntry_keeps (lvl : Nat) (s : State) :
    (openEntry lvl s).top.state = s.top.state ∧
    (openEntry lvl s).top.coreBor = s.top.coreBor ∧
    (openEntry lvl s).fr.running = s.fr.running ∧
    (openEntry lvl s).fr.epoch = s.fr.epoch ∧
    (openEntry lvl s).pending = s.pending := by
  simp [openEntry]

@[simp] theorem unlockAnswer_keeps (data : Word) (s : State) :
    (unlockAnswer data s).top.state = s.top.state ∧
    (unlockAnswer data s).top.coreBor = s.top.coreBor ∧
    (unlockAnswer data s).fr.running = s.fr.running ∧
    (unlockAnswer data s).fr.epoch = s.fr.epoch ∧
    (unlockAnswer data s).pending = s.pending := by
  unfold unlockAnswer; split <;> simp

@[simp] theorem applyUnlock_keeps (data : Word) (s : State) :
    (applyUnlock data s).top.state = s.top.state ∧
    (applyUnlock data s).top.coreBor = s.top.coreBor ∧
    (applyUnlock data s).fr.running = s.fr.running ∧
    (applyUnlock data s).fr.epoch = s.fr.epoch ∧
    (applyUnlock data s).pending = s.pending := by
  unfold applyUnlock; (repeat' split) <;> simp

@[simp] theorem kill_keeps (s : State) :
    (kill s).top.state = s.top.state ∧
    (kill s).top.coreBor = s.top.coreBor ∧
    (kill s).fr.running = s.fr.running ∧
    (kill s).fr.epoch = s.fr.epoch ∧
    (kill s).pending = s.pending := by
  simp [kill]

@[simp] theorem killWaiting_keeps (s : State) :
    (killWaiting s).top.state = s.top.state ∧
    (killWaiting s).top.coreBor = s.top.coreBor ∧
    (killWaiting s).fr.running = s.fr.running ∧
    (killWaiting s).fr.epoch = s.fr.epoch ∧
    (killWaiting s).pending = s.pending := by
  simp [killWaiting]

@[simp] theorem tamperQualify_keeps (s : State) :
    (tamperQualify s).top.state = s.top.state ∧
    (tamperQualify s).top.coreBor = s.top.coreBor ∧
    (tamperQualify s).fr.running = s.fr.running ∧
    (tamperQualify s).fr.epoch = s.fr.epoch ∧
    (tamperQualify s).pending = s.pending := by
  unfold tamperQualify; split <;> simp

@[simp] theorem unlockTimeout_keeps (s : State) :
    (unlockTimeout s).top.state = s.top.state ∧
    (unlockTimeout s).top.coreBor = s.top.coreBor ∧
    (unlockTimeout s).fr.running = s.fr.running ∧
    (unlockTimeout s).fr.epoch = s.fr.epoch ∧
    (unlockTimeout s).pending = s.pending := by
  simp [unlockTimeout]

@[simp] theorem relockExpiry_keeps (s : State) :
    (relockExpiry s).top.state = s.top.state ∧
    (relockExpiry s).top.coreBor = s.top.coreBor ∧
    (relockExpiry s).fr.running = s.fr.running ∧
    (relockExpiry s).fr.epoch = s.fr.epoch ∧
    (relockExpiry s).pending = s.pending := by
  simp [relockExpiry]

@[simp] theorem lockoutEnd_keeps (s : State) :
    (lockoutEnd s).top.state = s.top.state ∧
    (lockoutEnd s).top.coreBor = s.top.coreBor ∧
    (lockoutEnd s).fr.running = s.fr.running ∧
    (lockoutEnd s).fr.epoch = s.fr.epoch ∧
    (lockoutEnd s).pending = s.pending := by
  simp [lockoutEnd]

@[simp] theorem secBoundary_keeps (s : State) :
    (secBoundary s).top.state = s.top.state ∧
    (secBoundary s).top.coreBor = s.top.coreBor ∧
    (secBoundary s).fr.running = s.fr.running ∧
    (secBoundary s).fr.epoch = s.fr.epoch ∧
    (secBoundary s).pending = s.pending := by
  simp [secBoundary]

end Sys2Proof.Machine
end

