-- ==== Sys2Proof/Laws/KeepsArray.lean ====
section
/-! SUPPORT. What the definitions of Machine/Array.lean leave alone: the state, a Core BOR, the frame generator, EPOCH and
the queue. -/

namespace Sys2Proof.Machine

@[simp] theorem setWord_keeps (w : Nat) (d : DWord) (s : State) :
    (setWord w d s).top.state = s.top.state ∧
    (setWord w d s).top.coreBor = s.top.coreBor ∧
    (setWord w d s).fr.running = s.fr.running ∧
    (setWord w d s).fr.epoch = s.fr.epoch ∧
    (setWord w d s).pending = s.pending := by
  simp [setWord]

@[simp] theorem readWord_keeps (w : Nat) (s : State) :
    (readWord w s).2.top.state = s.top.state ∧
    (readWord w s).2.top.coreBor = s.top.coreBor ∧
    (readWord w s).2.fr.running = s.fr.running ∧
    (readWord w s).2.fr.epoch = s.fr.epoch ∧
    (readWord w s).2.pending = s.pending := by
  simp [readWord]

@[simp] theorem blankSector_keeps (sec : Nat) (s : State) :
    (blankSector sec s).top.state = s.top.state ∧
    (blankSector sec s).top.coreBor = s.top.coreBor ∧
    (blankSector sec s).fr.running = s.fr.running ∧
    (blankSector sec s).fr.epoch = s.fr.epoch ∧
    (blankSector sec s).pending = s.pending := by
  simp [blankSector]

@[simp] theorem setPort_keeps (r : Requester) (p : ArrPort) (s : State) :
    (setPort r p s).top.state = s.top.state ∧
    (setPort r p s).top.coreBor = s.top.coreBor ∧
    (setPort r p s).fr.running = s.fr.running ∧
    (setPort r p s).fr.epoch = s.fr.epoch ∧
    (setPort r p s).pending = s.pending := by
  unfold setPort; split <;> simp

@[simp] theorem setHstate_keeps (r : Requester) (h : Nat) (s : State) :
    (setHstate r h s).top.state = s.top.state ∧
    (setHstate r h s).top.coreBor = s.top.coreBor ∧
    (setHstate r h s).fr.running = s.fr.running ∧
    (setHstate r h s).fr.epoch = s.fr.epoch ∧
    (setHstate r h s).pending = s.pending := by
  simp [setHstate]

@[simp] theorem endCmd_keeps (r : Requester) (h : Nat) (s : State) :
    (endCmd r h s).top.state = s.top.state ∧
    (endCmd r h s).top.coreBor = s.top.coreBor ∧
    (endCmd r h s).fr.running = s.fr.running ∧
    (endCmd r h s).fr.epoch = s.fr.epoch ∧
    (endCmd r h s).pending = s.pending := by
  simp [endCmd]

@[simp] theorem rejCmd_keeps (r : Requester) (code : Nat) (s : State) :
    (rejCmd r code s).top.state = s.top.state ∧
    (rejCmd r code s).top.coreBor = s.top.coreBor ∧
    (rejCmd r code s).fr.running = s.fr.running ∧
    (rejCmd r code s).fr.epoch = s.fr.epoch ∧
    (rejCmd r code s).pending = s.pending := by
  simp [rejCmd]

@[simp] theorem resumeSusp_keeps (minRun : Nat) (s : State) :
    (resumeSusp minRun s).top.state = s.top.state ∧
    (resumeSusp minRun s).top.coreBor = s.top.coreBor ∧
    (resumeSusp minRun s).fr.running = s.fr.running ∧
    (resumeSusp minRun s).fr.epoch = s.fr.epoch ∧
    (resumeSusp minRun s).pending = s.pending := by
  unfold resumeSusp; split <;> simp

@[simp] theorem startNext_keeps (s : State) :
    (startNext s).top.state = s.top.state ∧
    (startNext s).top.coreBor = s.top.coreBor ∧
    (startNext s).fr.running = s.fr.running ∧
    (startNext s).fr.epoch = s.fr.epoch ∧
    (startNext s).pending = s.pending := by
  unfold startNext; (repeat' split) <;> simp

@[simp] theorem submit_keeps (o : ArrOp) (s : State) :
    (submit o s).top.state = s.top.state ∧
    (submit o s).top.coreBor = s.top.coreBor ∧
    (submit o s).fr.running = s.fr.running ∧
    (submit o s).fr.epoch = s.fr.epoch ∧
    (submit o s).pending = s.pending := by
  simp [submit]

@[simp] theorem keepRecord_keeps (lo : Nat) (hi : Nat) (tag : Nat) (arg : Nat) (d : DWord) (s : State) :
    (keepRecord lo hi tag arg d s).top.state = s.top.state ∧
    (keepRecord lo hi tag arg d s).top.coreBor = s.top.coreBor ∧
    (keepRecord lo hi tag arg d s).fr.running = s.fr.running ∧
    (keepRecord lo hi tag arg d s).fr.epoch = s.fr.epoch ∧
    (keepRecord lo hi tag arg d s).pending = s.pending := by
  simp [keepRecord]

@[simp] theorem suspendRun_keeps (cause : Nat) (s : State) :
    (suspendRun cause s).top.state = s.top.state ∧
    (suspendRun cause s).top.coreBor = s.top.coreBor ∧
    (suspendRun cause s).fr.running = s.fr.running ∧
    (suspendRun cause s).fr.epoch = s.fr.epoch ∧
    (suspendRun cause s).pending = s.pending := by
  unfold suspendRun; split <;> simp

@[simp] theorem touchBank_keeps (off : Nat) (s : State) :
    (touchBank off s).top.state = s.top.state ∧
    (touchBank off s).top.coreBor = s.top.coreBor ∧
    (touchBank off s).fr.running = s.fr.running ∧
    (touchBank off s).fr.epoch = s.fr.epoch ∧
    (touchBank off s).pending = s.pending := by
  unfold touchBank; split <;> simp

@[simp] theorem serveRead_keeps (r : Requester) (off : Nat) (s : State) :
    (serveRead r off s).top.state = s.top.state ∧
    (serveRead r off s).top.coreBor = s.top.coreBor ∧
    (serveRead r off s).fr.running = s.fr.running ∧
    (serveRead r off s).fr.epoch = s.fr.epoch ∧
    (serveRead r off s).pending = s.pending := by
  have hk := readWord_keeps (off / 8) (touchBank off s)
  unfold serveRead
  split <;> rename_i heq <;> rw [heq] at hk <;> simp_all

@[simp] theorem serveBlank_keeps (r : Requester) (off : Nat) (s : State) :
    (serveBlank r off s).top.state = s.top.state ∧
    (serveBlank r off s).top.coreBor = s.top.coreBor ∧
    (serveBlank r off s).fr.running = s.fr.running ∧
    (serveBlank r off s).fr.epoch = s.fr.epoch ∧
    (serveBlank r off s).pending = s.pending := by
  simp only [serveBlank]; split <;> simp

@[simp] theorem stallRead_keeps (r : Requester) (blank : Bool) (off : Nat) (erase : Bool) (s : State) :
    (stallRead r blank off erase s).top.state = s.top.state ∧
    (stallRead r blank off erase s).top.coreBor = s.top.coreBor ∧
    (stallRead r blank off erase s).fr.running = s.fr.running ∧
    (stallRead r blank off erase s).fr.epoch = s.fr.epoch ∧
    (stallRead r blank off erase s).pending = s.pending := by
  simp [stallRead]

@[simp] theorem tryRead_keeps (r : Requester) (blank : Bool) (off : Nat) (s : State) :
    (tryRead r blank off s).top.state = s.top.state ∧
    (tryRead r blank off s).top.coreBor = s.top.coreBor ∧
    (tryRead r blank off s).fr.running = s.fr.running ∧
    (tryRead r blank off s).fr.epoch = s.fr.epoch ∧
    (tryRead r blank off s).pending = s.pending := by
  unfold tryRead; (repeat' split) <;> simp

@[simp] theorem serveWaits_keeps (s : State) :
    (serveWaits s).top.state = s.top.state ∧
    (serveWaits s).top.coreBor = s.top.coreBor ∧
    (serveWaits s).fr.running = s.fr.running ∧
    (serveWaits s).fr.epoch = s.fr.epoch ∧
    (serveWaits s).pending = s.pending := by
  unfold serveWaits
  refine ⟨foldl_state _ ?_ _ _, foldl_coreBor _ ?_ _ _, foldl_running _ ?_ _ _, foldl_epoch _ ?_ _ _, foldl_pending _ ?_ _ _⟩ <;>
    intros <;> (repeat' split) <;> simp

@[simp] theorem arrCmd_keeps (r : Requester) (op : Nat) (key : Nat) (arg : Nat) (s : State) :
    (arrCmd r op key arg s).top.state = s.top.state ∧
    (arrCmd r op key arg s).top.coreBor = s.top.coreBor ∧
    (arrCmd r op key arg s).fr.running = s.fr.running ∧
    (arrCmd r op key arg s).fr.epoch = s.fr.epoch ∧
    (arrCmd r op key arg s).pending = s.pending := by
  unfold arrCmd; (repeat' split) <;> simp

@[simp] theorem arrCmdWord_keeps (r : Requester) (data : Word) (be : ByteEn) (s : State) :
    (arrCmdWord r data be s).top.state = s.top.state ∧
    (arrCmdWord r data be s).top.coreBor = s.top.coreBor ∧
    (arrCmdWord r data be s).fr.running = s.fr.running ∧
    (arrCmdWord r data be s).fr.epoch = s.fr.epoch ∧
    (arrCmdWord r data be s).pending = s.pending := by
  simp [arrCmdWord]

@[simp] theorem arrRow_keeps (r : Requester) (op : Nat) (key : Nat) (arg : Nat) (be : ByteEn) (s : State) :
    (arrRow r op key arg be s).top.state = s.top.state ∧
    (arrRow r op key arg be s).top.coreBor = s.top.coreBor ∧
    (arrRow r op key arg be s).fr.running = s.fr.running ∧
    (arrRow r op key arg be s).fr.epoch = s.fr.epoch ∧
    (arrRow r op key arg be s).pending = s.pending := by
  unfold arrRow; split <;> simp

@[simp] theorem suspended_keeps (r : Requester) (s : State) :
    (suspended r s).top.state = s.top.state ∧
    (suspended r s).top.coreBor = s.top.coreBor ∧
    (suspended r s).fr.running = s.fr.running ∧
    (suspended r s).fr.epoch = s.fr.epoch ∧
    (suspended r s).pending = s.pending := by
  simp [suspended]

@[simp] theorem suspendEffect_keeps (s : State) :
    (suspendEffect s).top.state = s.top.state ∧
    (suspendEffect s).top.coreBor = s.top.coreBor ∧
    (suspendEffect s).fr.running = s.fr.running ∧
    (suspendEffect s).fr.epoch = s.fr.epoch ∧
    (suspendEffect s).pending = s.pending := by
  unfold suspendEffect; split <;> simp

@[simp] theorem autoResume_keeps (s : State) :
    (autoResume s).top.state = s.top.state ∧
    (autoResume s).top.coreBor = s.top.coreBor ∧
    (autoResume s).fr.running = s.fr.running ∧
    (autoResume s).fr.epoch = s.fr.epoch ∧
    (autoResume s).pending = s.pending := by
  unfold autoResume; split <;> simp

@[simp] theorem arrBoundary_keeps (s : State) :
    (arrBoundary s).top.state = s.top.state ∧
    (arrBoundary s).top.coreBor = s.top.coreBor ∧
    (arrBoundary s).fr.running = s.fr.running ∧
    (arrBoundary s).fr.epoch = s.fr.epoch ∧
    (arrBoundary s).pending = s.pending := by
  simp [arrBoundary]

@[simp] theorem arrCharge_keeps (s : State) :
    (arrCharge s).top.state = s.top.state ∧
    (arrCharge s).top.coreBor = s.top.coreBor ∧
    (arrCharge s).fr.running = s.fr.running ∧
    (arrCharge s).fr.epoch = s.fr.epoch ∧
    (arrCharge s).pending = s.pending := by
  unfold arrCharge; split <;> simp

@[simp] theorem harvestFlush_keeps (s : State) :
    (harvestFlush s).top.state = s.top.state ∧
    (harvestFlush s).top.coreBor = s.top.coreBor ∧
    (harvestFlush s).fr.running = s.fr.running ∧
    (harvestFlush s).fr.epoch = s.fr.epoch ∧
    (harvestFlush s).pending = s.pending := by
  simp [harvestFlush]

@[simp] theorem arrCut_keeps (s : State) :
    (arrCut s).top.state = s.top.state ∧
    (arrCut s).top.coreBor = s.top.coreBor ∧
    (arrCut s).fr.running = s.fr.running ∧
    (arrCut s).fr.epoch = s.fr.epoch ∧
    (arrCut s).pending = s.pending := by
  unfold arrCut; split <;> simp

@[simp] theorem arrSoft_keeps (s : State) :
    (arrSoft s).top.state = s.top.state ∧
    (arrSoft s).top.coreBor = s.top.coreBor ∧
    (arrSoft s).fr.running = s.fr.running ∧
    (arrSoft s).fr.epoch = s.fr.epoch ∧
    (arrSoft s).pending = s.pending := by
  simp [arrSoft]

@[simp] theorem arrWatchdog_keeps (b : Bool) (s : State) :
    (arrWatchdog b s).top.state = s.top.state ∧
    (arrWatchdog b s).top.coreBor = s.top.coreBor ∧
    (arrWatchdog b s).fr.running = s.fr.running ∧
    (arrWatchdog b s).fr.epoch = s.fr.epoch ∧
    (arrWatchdog b s).pending = s.pending := by
  simp [arrWatchdog]

@[simp] theorem setCore_keeps (b : Bool) (c : Core) (s : State) :
    (setCore b c s).top.state = s.top.state ∧
    (setCore b c s).top.coreBor = s.top.coreBor ∧
    (setCore b c s).fr.running = s.fr.running ∧
    (setCore b c s).fr.epoch = s.fr.epoch ∧
    (setCore b c s).pending = s.pending := by
  simp [setCore]

@[simp] theorem coreAccess_keeps (b : Bool) (off : Nat) (isFetch : Bool) (s : State) :
    (coreAccess b off isFetch s).2.top.state = s.top.state ∧
    (coreAccess b off isFetch s).2.top.coreBor = s.top.coreBor ∧
    (coreAccess b off isFetch s).2.fr.running = s.fr.running ∧
    (coreAccess b off isFetch s).2.fr.epoch = s.fr.epoch ∧
    (coreAccess b off isFetch s).2.pending = s.pending := by
  have h0 := readWord_keeps (off / 8) (touchBank off s)
  have h1 := readWord_keeps (off / 8) (touchBank off (suspendRun 1 s))
  unfold coreAccess
  extract_lets
  split <;> (try dsimp +zetaDelta only) <;> (repeat' split) <;> simp_all

@[simp] theorem markAccess_keeps (b : Bool) (a : ArrAccess) (s : State) :
    (markAccess b a s).top.state = s.top.state ∧
    (markAccess b a s).top.coreBor = s.top.coreBor ∧
    (markAccess b a s).fr.running = s.fr.running ∧
    (markAccess b a s).fr.epoch = s.fr.epoch ∧
    (markAccess b a s).pending = s.pending := by
  unfold markAccess; split <;> simp

end Sys2Proof.Machine
end

