-- ==== Sys2Proof/Laws/KeepsHive.lean ====
section
/-! SUPPORT. What the definitions of Machine/Hive.lean leave alone: the state, a Core BOR, the frame generator, EPOCH and
the queue. -/

namespace Sys2Proof.Machine

@[simp] theorem setRamByte_keeps (b : Bool) (addr : Nat) (v : BitVec 8) (s : State) :
    (setRamByte b addr v s).top.state = s.top.state ∧
    (setRamByte b addr v s).top.coreBor = s.top.coreBor ∧
    (setRamByte b addr v s).fr.running = s.fr.running ∧
    (setRamByte b addr v s).fr.epoch = s.fr.epoch ∧
    (setRamByte b addr v s).pending = s.pending := by
  simp [setRamByte]

@[simp] theorem ramMark_keeps (b : Bool) (addr : Nat) (m : Nat) (s : State) :
    (ramMark b addr m s).top.state = s.top.state ∧
    (ramMark b addr m s).top.coreBor = s.top.coreBor ∧
    (ramMark b addr m s).fr.running = s.fr.running ∧
    (ramMark b addr m s).fr.epoch = s.fr.epoch ∧
    (ramMark b addr m s).pending = s.pending := by
  simp [ramMark]

@[simp] theorem ramRead_keeps (b : Bool) (addr : Nat) (size : Nat) (s : State) :
    (ramRead b addr size s).2.top.state = s.top.state ∧
    (ramRead b addr size s).2.top.coreBor = s.top.coreBor ∧
    (ramRead b addr size s).2.fr.running = s.fr.running ∧
    (ramRead b addr size s).2.fr.epoch = s.fr.epoch ∧
    (ramRead b addr size s).2.pending = s.pending := by
  simp [ramRead]

@[simp] theorem ramWrite_keeps (b : Bool) (addr : Nat) (size : Nat) (data : Word) (s : State) :
    (ramWrite b addr size data s).2.top.state = s.top.state ∧
    (ramWrite b addr size data s).2.top.coreBor = s.top.coreBor ∧
    (ramWrite b addr size data s).2.fr.running = s.fr.running ∧
    (ramWrite b addr size data s).2.fr.epoch = s.fr.epoch ∧
    (ramWrite b addr size data s).2.pending = s.pending := by
  simp [ramWrite]

@[simp] theorem ringC2h_keeps (bits : Word) (s : State) :
    (ringC2h bits s).top.state = s.top.state ∧
    (ringC2h bits s).top.coreBor = s.top.coreBor ∧
    (ringC2h bits s).fr.running = s.fr.running ∧
    (ringC2h bits s).fr.epoch = s.fr.epoch ∧
    (ringC2h bits s).pending = s.pending := by
  simp [ringC2h]

@[simp] theorem extStop_keeps (addr : Word) (s : State) :
    (extStop addr s).top.state = s.top.state ∧
    (extStop addr s).top.coreBor = s.top.coreBor ∧
    (extStop addr s).fr.running = s.fr.running ∧
    (extStop addr s).fr.epoch = s.fr.epoch ∧
    (extStop addr s).pending = s.pending := by
  simp [extStop]

@[simp] theorem extReturn_keeps (b : Bool) (s : State) :
    (extReturn b s).top.state = s.top.state ∧
    (extReturn b s).top.coreBor = s.top.coreBor ∧
    (extReturn b s).fr.running = s.fr.running ∧
    (extReturn b s).fr.epoch = s.fr.epoch ∧
    (extReturn b s).pending = s.pending := by
  simp [extReturn]

@[simp] theorem excEntry_keeps (b : Bool) (addr : Word) (s : State) :
    (excEntry b addr s).top.state = s.top.state ∧
    (excEntry b addr s).top.coreBor = s.top.coreBor ∧
    (excEntry b addr s).fr.running = s.fr.running ∧
    (excEntry b addr s).fr.epoch = s.fr.epoch ∧
    (excEntry b addr s).pending = s.pending := by
  simp [excEntry]

@[simp] theorem takeH2c_keeps (b : Bool) (s : State) :
    (takeH2c b s).top.state = s.top.state ∧
    (takeH2c b s).top.coreBor = s.top.coreBor ∧
    (takeH2c b s).fr.running = s.fr.running ∧
    (takeH2c b s).fr.epoch = s.fr.epoch ∧
    (takeH2c b s).pending = s.pending := by
  simp [takeH2c]

@[simp] theorem winMark_keeps (off : Nat) (s : State) :
    (winMark off s).top.state = s.top.state ∧
    (winMark off s).top.coreBor = s.top.coreBor ∧
    (winMark off s).fr.running = s.fr.running ∧
    (winMark off s).fr.epoch = s.fr.epoch ∧
    (winMark off s).pending = s.pending := by
  simp [winMark]

@[simp] theorem postC2h_keeps (w : Word) (s : State) :
    (postC2h w s).top.state = s.top.state ∧
    (postC2h w s).top.coreBor = s.top.coreBor ∧
    (postC2h w s).fr.running = s.fr.running ∧
    (postC2h w s).fr.epoch = s.fr.epoch ∧
    (postC2h w s).pending = s.pending := by
  simp [postC2h]

@[simp] theorem clearDbH2c_keeps (w : Word) (s : State) :
    (clearDbH2c w s).top.state = s.top.state ∧
    (clearDbH2c w s).top.coreBor = s.top.coreBor ∧
    (clearDbH2c w s).fr.running = s.fr.running ∧
    (clearDbH2c w s).fr.epoch = s.fr.epoch ∧
    (clearDbH2c w s).pending = s.pending := by
  simp [clearDbH2c]

@[simp] theorem kickWdog_keeps (b : Bool) (w : Word) (s : State) :
    (kickWdog b w s).top.state = s.top.state ∧
    (kickWdog b w s).top.coreBor = s.top.coreBor ∧
    (kickWdog b w s).fr.running = s.fr.running ∧
    (kickWdog b w s).fr.epoch = s.fr.epoch ∧
    (kickWdog b w s).pending = s.pending := by
  simp [kickWdog]

@[simp] theorem storeFlag_keeps (off : Nat) (size : Nat) (lo : Nat) (data : Word) (s : State) :
    (storeFlag off size lo data s).2.top.state = s.top.state ∧
    (storeFlag off size lo data s).2.top.coreBor = s.top.coreBor ∧
    (storeFlag off size lo data s).2.fr.running = s.fr.running ∧
    (storeFlag off size lo data s).2.fr.epoch = s.fr.epoch ∧
    (storeFlag off size lo data s).2.pending = s.pending := by
  simp [storeFlag]

@[simp] theorem storeWindow_keeps (b : Bool) (off : Nat) (size : Nat) (data : Word) (s : State) :
    (storeWindow b off size data s).top.state = s.top.state ∧
    (storeWindow b off size data s).top.coreBor = s.top.coreBor ∧
    (storeWindow b off size data s).fr.running = s.fr.running ∧
    (storeWindow b off size data s).fr.epoch = s.fr.epoch ∧
    (storeWindow b off size data s).pending = s.pending := by
  unfold storeWindow
  extract_lets
  (repeat' split) <;> first
    | (simp; done)
    | (simp_all; done)
    | (have hq := congrArg Prod.snd ‹_ = (_, _)›; dsimp only at hq; subst hq; simp)

@[simp] theorem loadWindow_keeps (b : Bool) (off : Nat) (size : Nat) (s : State) :
    (loadWindow b off size s).top.state = s.top.state ∧
    (loadWindow b off size s).top.coreBor = s.top.coreBor ∧
    (loadWindow b off size s).fr.running = s.fr.running ∧
    (loadWindow b off size s).fr.epoch = s.fr.epoch ∧
    (loadWindow b off size s).pending = s.pending := by
  simp [loadWindow]

@[simp] theorem storeArrWin_keeps (b : Bool) (off : Nat) (size : Nat) (data : Word) (s : State) :
    (storeArrWin b off size data s).top.state = s.top.state ∧
    (storeArrWin b off size data s).top.coreBor = s.top.coreBor ∧
    (storeArrWin b off size data s).fr.running = s.fr.running ∧
    (storeArrWin b off size data s).fr.epoch = s.fr.epoch ∧
    (storeArrWin b off size data s).pending = s.pending := by
  simp [storeArrWin]

@[simp] theorem loadArrWin_keeps (b : Bool) (off : Nat) (size : Nat) (s : State) :
    (loadArrWin b off size s).top.state = s.top.state ∧
    (loadArrWin b off size s).top.coreBor = s.top.coreBor ∧
    (loadArrWin b off size s).fr.running = s.fr.running ∧
    (loadArrWin b off size s).fr.epoch = s.fr.epoch ∧
    (loadArrWin b off size s).pending = s.pending := by
  simp [loadArrWin]

theorem performStore_keeps (b : Bool) (w : BufStore) (s : State) (t : State) (h : performStore b w s = some t) :
    t.top.state = s.top.state ∧
    t.top.coreBor = s.top.coreBor ∧
    t.fr.running = s.fr.running ∧
    t.fr.epoch = s.fr.epoch ∧
    t.pending = s.pending := by
  unfold performStore at h
  extract_lets at h
  (repeat' split at h) <;> first
    | (cases h; done)
    | (cases h; simp; done)
    | (have hq := congrArg Prod.snd ‹_ = (_, _)›; dsimp only at hq; subst hq; cases h; simp)

theorem performHead_keeps (b : Bool) (s : State) (t : State) (h : performHead b s = some t) :
    t.top.state = s.top.state ∧
    t.top.coreBor = s.top.coreBor ∧
    t.fr.running = s.fr.running ∧
    t.fr.epoch = s.fr.epoch ∧
    t.pending = s.pending := by
  unfold performHead at h
  split at h
  · cases h; simp
  · have hk := performStore_keeps _ _ _ _ h
    simpa using hk

theorem drain_keeps (b : Bool) : ∀ (n : Nat) (s t : State), drain b n s = some t →
    t.top.state = s.top.state ∧
    t.top.coreBor = s.top.coreBor ∧
    t.fr.running = s.fr.running ∧
    t.fr.epoch = s.fr.epoch ∧
    t.pending = s.pending
  | 0, s, t, h => by cases h; simp
  | n + 1, s, t, h => by
    unfold drain at h
    split at h
    · rename_i s1 h1
      have k1 := performHead_keeps b s s1 h1
      have k2 := drain_keeps b n s1 t h
      simp_all
    · cases h

theorem drainAll_keeps (b : Bool) (s t : State) (h : drainAll b s = some t) :
    t.top.state = s.top.state ∧
    t.top.coreBor = s.top.coreBor ∧
    t.fr.running = s.fr.running ∧
    t.fr.epoch = s.fr.epoch ∧
    t.pending = s.pending := drain_keeps b _ s t h

theorem getD_keeps (o : Option State) (s : State)
    (h : ∀ t, o = some t → t.top.state = s.top.state ∧
    t.top.coreBor = s.top.coreBor ∧
    t.fr.running = s.fr.running ∧
    t.fr.epoch = s.fr.epoch ∧
    t.pending = s.pending) :
    (o.getD s).top.state = s.top.state ∧
    (o.getD s).top.coreBor = s.top.coreBor ∧
    (o.getD s).fr.running = s.fr.running ∧
    (o.getD s).fr.epoch = s.fr.epoch ∧
    (o.getD s).pending = s.pending := by
  cases o with
  | none => simp
  | some t => exact h t rfl

@[simp] theorem performOr_keeps (b : Bool) (w : BufStore) (s : State) :
    ((performStore b w s).getD s).top.state = s.top.state ∧
    ((performStore b w s).getD s).top.coreBor = s.top.coreBor ∧
    ((performStore b w s).getD s).fr.running = s.fr.running ∧
    ((performStore b w s).getD s).fr.epoch = s.fr.epoch ∧
    ((performStore b w s).getD s).pending = s.pending :=
  getD_keeps _ _ fun t h => performStore_keeps b w s t h

@[simp] theorem takeAsync_keeps (b : Bool) (s : State) :
    (takeAsync b s).top.state = s.top.state ∧
    (takeAsync b s).top.coreBor = s.top.coreBor ∧
    (takeAsync b s).fr.running = s.fr.running ∧
    (takeAsync b s).fr.epoch = s.fr.epoch ∧
    (takeAsync b s).pending = s.pending := by
  simp [takeAsync]

@[simp] theorem setStalled_keeps (b : Bool) (v : Bool) (s : State) :
    (setStalled b v s).top.state = s.top.state ∧
    (setStalled b v s).top.coreBor = s.top.coreBor ∧
    (setStalled b v s).fr.running = s.fr.running ∧
    (setStalled b v s).fr.epoch = s.fr.epoch ∧
    (setStalled b v s).pending = s.pending := by
  simp [setStalled]

@[simp] theorem watchdogReset_keeps (b : Bool) (s : State) :
    (watchdogReset b s).top.state = s.top.state ∧
    (watchdogReset b s).top.coreBor = s.top.coreBor ∧
    (watchdogReset b s).fr.running = s.fr.running ∧
    (watchdogReset b s).fr.epoch = s.fr.epoch ∧
    (watchdogReset b s).pending = s.pending := by
  simp [watchdogReset]

@[simp] theorem haltCore_keeps (b : Bool) (s : State) :
    (haltCore b s).top.state = s.top.state ∧
    (haltCore b s).top.coreBor = s.top.coreBor ∧
    (haltCore b s).fr.running = s.fr.running ∧
    (haltCore b s).fr.epoch = s.fr.epoch ∧
    (haltCore b s).pending = s.pending := by
  simp [haltCore]

@[simp] theorem coreRestart_keeps (b : Bool) (s : State) :
    (coreRestart b s).top.state = s.top.state ∧
    (coreRestart b s).top.coreBor = s.top.coreBor ∧
    (coreRestart b s).fr.running = s.fr.running ∧
    (coreRestart b s).fr.epoch = s.fr.epoch ∧
    (coreRestart b s).pending = s.pending := by
  simp [coreRestart]

@[simp] theorem hiveBoundary_keeps (s : State) :
    (hiveBoundary s).top.state = s.top.state ∧
    (hiveBoundary s).top.coreBor = s.top.coreBor ∧
    (hiveBoundary s).fr.running = s.fr.running ∧
    (hiveBoundary s).fr.epoch = s.fr.epoch ∧
    (hiveBoundary s).pending = s.pending := by
  simp [hiveBoundary]

@[simp] theorem quiesceCore_keeps (b : Bool) (s : State) :
    (quiesceCore b s).top.state = s.top.state ∧
    (quiesceCore b s).top.coreBor = s.top.coreBor ∧
    (quiesceCore b s).fr.running = s.fr.running ∧
    (quiesceCore b s).fr.epoch = s.fr.epoch ∧
    (quiesceCore b s).pending = s.pending := by
  simp [quiesceCore]

@[simp] theorem extActivate_keeps (k : ActKind) (s : State) :
    (extActivate k s).top.state = s.top.state ∧
    (extActivate k s).top.coreBor = s.top.coreBor ∧
    (extActivate k s).fr.running = s.fr.running ∧
    (extActivate k s).fr.epoch = s.fr.epoch ∧
    (extActivate k s).pending = s.pending := by
  simp [extActivate]

@[simp] theorem extSlice_keeps (s : State) :
    (extSlice s).top.state = s.top.state ∧
    (extSlice s).top.coreBor = s.top.coreBor ∧
    (extSlice s).fr.running = s.fr.running ∧
    (extSlice s).fr.epoch = s.fr.epoch ∧
    (extSlice s).pending = s.pending := by
  unfold extSlice; split <;> simp

@[simp] theorem answerMbox_keeps (p : Word → Bool) (f : Word → Nat × Nat) (s : State) :
    (answerMbox p f s).top.state = s.top.state ∧
    (answerMbox p f s).top.coreBor = s.top.coreBor ∧
    (answerMbox p f s).fr.running = s.fr.running ∧
    (answerMbox p f s).fr.epoch = s.fr.epoch ∧
    (answerMbox p f s).pending = s.pending := by
  unfold answerMbox; split <;> simp

@[simp] theorem logMark_keeps (s : State) :
    (logMark s).top.state = s.top.state ∧
    (logMark s).top.coreBor = s.top.coreBor ∧
    (logMark s).fr.running = s.fr.running ∧
    (logMark s).fr.epoch = s.fr.epoch ∧
    (logMark s).pending = s.pending := by
  unfold logMark; split <;> simp

end Sys2Proof.Machine
end

