-- ==== Sys2Proof/Laws/KeepsScout.lean ====
section
/-! SUPPORT. What the definitions of Machine/Scout.lean leave alone: the state, a Core BOR, the frame generator, EPOCH and
the queue. -/

namespace Sys2Proof.Machine

@[simp] theorem modTrig_keeps (f : Trig → Trig) (s : State) :
    (modTrig f s).top.state = s.top.state ∧
    (modTrig f s).top.coreBor = s.top.coreBor ∧
    (modTrig f s).fr.running = s.fr.running ∧
    (modTrig f s).fr.epoch = s.fr.epoch ∧
    (modTrig f s).pending = s.pending := by
  simp [modTrig]

@[simp] theorem markLevels_keeps (s : State) :
    (markLevels s).top.state = s.top.state ∧
    (markLevels s).top.coreBor = s.top.coreBor ∧
    (markLevels s).fr.running = s.fr.running ∧
    (markLevels s).fr.epoch = s.fr.epoch ∧
    (markLevels s).pending = s.pending := by
  simp [markLevels]

@[simp] theorem vinConvert_keeps (vin : Int) (s : State) :
    (vinConvert vin s).top.state = s.top.state ∧
    (vinConvert vin s).top.coreBor = s.top.coreBor ∧
    (vinConvert vin s).fr.running = s.fr.running ∧
    (vinConvert vin s).fr.epoch = s.fr.epoch ∧
    (vinConvert vin s).pending = s.pending := by
  simp [vinConvert]

@[simp] theorem warnStep_keeps (s : State) :
    (warnStep s).top.state = s.top.state ∧
    (warnStep s).top.coreBor = s.top.coreBor ∧
    (warnStep s).fr.running = s.fr.running ∧
    (warnStep s).fr.epoch = s.fr.epoch ∧
    (warnStep s).pending = s.pending := by
  simp [warnStep]

@[simp] theorem tripStep_keeps (sns : Int) (low : Nat) (s : State) :
    (tripStep sns low s).top.state = s.top.state ∧
    (tripStep sns low s).top.coreBor = s.top.coreBor ∧
    (tripStep sns low s).fr.running = s.fr.running ∧
    (tripStep sns low s).fr.epoch = s.fr.epoch ∧
    (tripStep sns low s).pending = s.pending := by
  simp [tripStep]

@[simp] theorem pretripStep_keeps (s : State) :
    (pretripStep s).top.state = s.top.state ∧
    (pretripStep s).top.coreBor = s.top.coreBor ∧
    (pretripStep s).fr.running = s.fr.running ∧
    (pretripStep s).fr.epoch = s.fr.epoch ∧
    (pretripStep s).pending = s.pending := by
  simp [pretripStep]

@[simp] theorem pgStep_keeps (pgHigh : Bool) (s : State) :
    (pgStep pgHigh s).top.state = s.top.state ∧
    (pgStep pgHigh s).top.coreBor = s.top.coreBor ∧
    (pgStep pgHigh s).fr.running = s.fr.running ∧
    (pgStep pgHigh s).fr.epoch = s.fr.epoch ∧
    (pgStep pgHigh s).pending = s.pending := by
  simp [pgStep]

@[simp] theorem wetStep_keeps (high : Bool) (s : State) :
    (wetStep high s).top.state = s.top.state ∧
    (wetStep high s).top.coreBor = s.top.coreBor ∧
    (wetStep high s).fr.running = s.fr.running ∧
    (wetStep high s).fr.epoch = s.fr.epoch ∧
    (wetStep high s).pending = s.pending := by
  simp [wetStep]

@[simp] theorem tamperStep_keeps (low : Bool) (s : State) :
    (tamperStep low s).top.state = s.top.state ∧
    (tamperStep low s).top.coreBor = s.top.coreBor ∧
    (tamperStep low s).fr.running = s.fr.running ∧
    (tamperStep low s).fr.epoch = s.fr.epoch ∧
    (tamperStep low s).pending = s.pending := by
  simp [tamperStep]

@[simp] theorem vgoodStep_keeps (s : State) :
    (vgoodStep s).top.state = s.top.state ∧
    (vgoodStep s).top.coreBor = s.top.coreBor ∧
    (vgoodStep s).fr.running = s.fr.running ∧
    (vgoodStep s).fr.epoch = s.fr.epoch ∧
    (vgoodStep s).pending = s.pending := by
  simp [vgoodStep]

@[simp] theorem abortStep_keeps (s : State) :
    (abortStep s).top.state = s.top.state ∧
    (abortStep s).top.coreBor = s.top.coreBor ∧
    (abortStep s).fr.running = s.fr.running ∧
    (abortStep s).fr.epoch = s.fr.epoch ∧
    (abortStep s).pending = s.pending := by
  simp [abortStep]

@[simp] theorem lineStep_keeps (low : Bool) (s : State) :
    (lineStep low s).top.state = s.top.state ∧
    (lineStep low s).top.coreBor = s.top.coreBor ∧
    (lineStep low s).fr.running = s.fr.running ∧
    (lineStep low s).fr.epoch = s.fr.epoch ∧
    (lineStep low s).pending = s.pending := by
  simp [lineStep]

@[simp] theorem driveStep_keeps (s : State) :
    (driveStep s).top.state = s.top.state ∧
    (driveStep s).top.coreBor = s.top.coreBor ∧
    (driveStep s).fr.running = s.fr.running ∧
    (driveStep s).fr.epoch = s.fr.epoch ∧
    (driveStep s).pending = s.pending := by
  simp [driveStep]

@[simp] theorem raisedStep_keeps (s : State) :
    (raisedStep s).top.state = s.top.state ∧
    (raisedStep s).top.coreBor = s.top.coreBor ∧
    (raisedStep s).fr.running = s.fr.running ∧
    (raisedStep s).fr.epoch = s.fr.epoch ∧
    (raisedStep s).pending = s.pending := by
  simp [raisedStep]

@[simp] theorem vinSample_keeps (x : VinSample) (s : State) :
    (vinSample x s).top.state = s.top.state ∧
    (vinSample x s).top.coreBor = s.top.coreBor ∧
    (vinSample x s).fr.running = s.fr.running ∧
    (vinSample x s).fr.epoch = s.fr.epoch ∧
    (vinSample x s).pending = s.pending := by
  simp [vinSample]

@[simp] theorem vstConvert_keeps (x : Int) (s : State) :
    (vstConvert x s).top.state = s.top.state ∧
    (vstConvert x s).top.coreBor = s.top.coreBor ∧
    (vstConvert x s).fr.running = s.fr.running ∧
    (vstConvert x s).fr.epoch = s.fr.epoch ∧
    (vstConvert x s).pending = s.pending := by
  simp [vstConvert]

@[simp] theorem thFaultStep_keeps (i : Nat) (s : State) :
    (thFaultStep i s).top.state = s.top.state ∧
    (thFaultStep i s).top.coreBor = s.top.coreBor ∧
    (thFaultStep i s).fr.running = s.fr.running ∧
    (thFaultStep i s).fr.epoch = s.fr.epoch ∧
    (thFaultStep i s).pending = s.pending := by
  simp [thFaultStep]

@[simp] theorem talarmStep_keeps (i : Nat) (s : State) :
    (talarmStep i s).top.state = s.top.state ∧
    (talarmStep i s).top.coreBor = s.top.coreBor ∧
    (talarmStep i s).fr.running = s.fr.running ∧
    (talarmStep i s).fr.epoch = s.fr.epoch ∧
    (talarmStep i s).pending = s.pending := by
  simp [talarmStep]

@[simp] theorem adcStep_keeps (s : State) :
    (adcStep s).top.state = s.top.state ∧
    (adcStep s).top.coreBor = s.top.coreBor ∧
    (adcStep s).fr.running = s.fr.running ∧
    (adcStep s).fr.epoch = s.fr.epoch ∧
    (adcStep s).pending = s.pending := by
  simp [adcStep]

@[simp] theorem thFilter_keeps (i : Nat) (code : Int) (s : State) :
    (thFilter i code s).top.state = s.top.state ∧
    (thFilter i code s).top.coreBor = s.top.coreBor ∧
    (thFilter i code s).fr.running = s.fr.running ∧
    (thFilter i code s).fr.epoch = s.fr.epoch ∧
    (thFilter i code s).pending = s.pending := by
  simp [thFilter]

@[simp] theorem thConvert_keeps (i : Nat) (x : Int) (s : State) :
    (thConvert i x s).top.state = s.top.state ∧
    (thConvert i x s).top.coreBor = s.top.coreBor ∧
    (thConvert i x s).fr.running = s.fr.running ∧
    (thConvert i x s).fr.epoch = s.fr.epoch ∧
    (thConvert i x s).pending = s.pending := by
  simp [thConvert]

@[simp] theorem thReload_keeps (used0 : Bool) (used1 : Bool) (s : State) :
    (thReload used0 used1 s).top.state = s.top.state ∧
    (thReload used0 used1 s).top.coreBor = s.top.coreBor ∧
    (thReload used0 used1 s).fr.running = s.fr.running ∧
    (thReload used0 used1 s).fr.epoch = s.fr.epoch ∧
    (thReload used0 used1 s).pending = s.pending := by
  simp [thReload]

@[simp] theorem muxConvert_keeps (raw : Int) (s : State) :
    (muxConvert raw s).1.top.state = s.top.state ∧
    (muxConvert raw s).1.top.coreBor = s.top.coreBor ∧
    (muxConvert raw s).1.fr.running = s.fr.running ∧
    (muxConvert raw s).1.fr.epoch = s.fr.epoch ∧
    (muxConvert raw s).1.pending = s.pending := by
  simp [muxConvert]

@[simp] theorem storeLowStep_keeps (s : State) :
    (storeLowStep s).top.state = s.top.state ∧
    (storeLowStep s).top.coreBor = s.top.coreBor ∧
    (storeLowStep s).fr.running = s.fr.running ∧
    (storeLowStep s).fr.epoch = s.fr.epoch ∧
    (storeLowStep s).pending = s.pending := by
  simp [storeLowStep]

@[simp] theorem tempsConvert_keeps (x : SlowSample) (s : State) :
    (tempsConvert x s).top.state = s.top.state ∧
    (tempsConvert x s).top.coreBor = s.top.coreBor ∧
    (tempsConvert x s).fr.running = s.fr.running ∧
    (tempsConvert x s).fr.epoch = s.fr.epoch ∧
    (tempsConvert x s).pending = s.pending := by
  simp [tempsConvert]

@[simp] theorem raiseStep_keeps (s : State) :
    (raiseStep s).top.state = s.top.state ∧
    (raiseStep s).top.coreBor = s.top.coreBor ∧
    (raiseStep s).fr.running = s.fr.running ∧
    (raiseStep s).fr.epoch = s.fr.epoch ∧
    (raiseStep s).pending = s.pending := by
  simp [raiseStep]

@[simp] theorem lowSample_keeps (x : SlowSample) (s : State) :
    (lowSample x s).top.state = s.top.state ∧
    (lowSample x s).top.coreBor = s.top.coreBor ∧
    (lowSample x s).fr.running = s.fr.running ∧
    (lowSample x s).fr.epoch = s.fr.epoch ∧
    (lowSample x s).pending = s.pending := by
  simp [lowSample]

@[simp] theorem holdConvert_keeps (x : SlowSample) (s : State) :
    (holdConvert x s).top.state = s.top.state ∧
    (holdConvert x s).top.coreBor = s.top.coreBor ∧
    (holdConvert x s).fr.running = s.fr.running ∧
    (holdConvert x s).fr.epoch = s.fr.epoch ∧
    (holdConvert x s).pending = s.pending := by
  simp [holdConvert]

@[simp] theorem dormantWakeup_keeps (x : SlowSample) (s : State) :
    (dormantWakeup x s).top.state = s.top.state ∧
    (dormantWakeup x s).top.coreBor = s.top.coreBor ∧
    (dormantWakeup x s).fr.running = s.fr.running ∧
    (dormantWakeup x s).fr.epoch = s.fr.epoch ∧
    (dormantWakeup x s).pending = s.pending := by
  simp [dormantWakeup]

@[simp] theorem shipFire_keeps (vin : Int) (s : State) :
    (shipFire vin s).top.state = s.top.state ∧
    (shipFire vin s).top.coreBor = s.top.coreBor ∧
    (shipFire vin s).fr.running = s.fr.running ∧
    (shipFire vin s).fr.epoch = s.fr.epoch ∧
    (shipFire vin s).pending = s.pending := by
  simp [shipFire]

@[simp] theorem qualAbandon_keeps (s : State) :
    (qualAbandon s).top.state = s.top.state ∧
    (qualAbandon s).top.coreBor = s.top.coreBor ∧
    (qualAbandon s).fr.running = s.fr.running ∧
    (qualAbandon s).fr.epoch = s.fr.epoch ∧
    (qualAbandon s).pending = s.pending := by
  simp [qualAbandon]

@[simp] theorem edgeLatch_keeps (s : State) :
    (edgeLatch s).top.state = s.top.state ∧
    (edgeLatch s).top.coreBor = s.top.coreBor ∧
    (edgeLatch s).fr.running = s.fr.running ∧
    (edgeLatch s).fr.epoch = s.fr.epoch ∧
    (edgeLatch s).pending = s.pending := by
  simp [edgeLatch]

@[simp] theorem tamperClear_keeps (s : State) :
    (tamperClear s).top.state = s.top.state ∧
    (tamperClear s).top.coreBor = s.top.coreBor ∧
    (tamperClear s).fr.running = s.fr.running ∧
    (tamperClear s).fr.epoch = s.fr.epoch ∧
    (tamperClear s).pending = s.pending := by
  simp [tamperClear]

@[simp] theorem wetClear_keeps (s : State) :
    (wetClear s).top.state = s.top.state ∧
    (wetClear s).top.coreBor = s.top.coreBor ∧
    (wetClear s).fr.running = s.fr.running ∧
    (wetClear s).fr.epoch = s.fr.epoch ∧
    (wetClear s).pending = s.pending := by
  simp [wetClear]

@[simp] theorem rtcAdvance_keeps (s : State) :
    (rtcAdvance s).top.state = s.top.state ∧
    (rtcAdvance s).top.coreBor = s.top.coreBor ∧
    (rtcAdvance s).fr.running = s.fr.running ∧
    (rtcAdvance s).fr.epoch = s.fr.epoch ∧
    (rtcAdvance s).pending = s.pending := by
  simp [rtcAdvance]

@[simp] theorem rtcStops_keeps (s : State) :
    (rtcStops s).top.state = s.top.state ∧
    (rtcStops s).top.coreBor = s.top.coreBor ∧
    (rtcStops s).fr.running = s.fr.running ∧
    (rtcStops s).fr.epoch = s.fr.epoch ∧
    (rtcStops s).pending = s.pending := by
  simp [rtcStops]

@[simp] theorem rtcOsc_keeps (s : State) :
    (rtcOsc s).top.state = s.top.state ∧
    (rtcOsc s).top.coreBor = s.top.coreBor ∧
    (rtcOsc s).fr.running = s.fr.running ∧
    (rtcOsc s).fr.epoch = s.fr.epoch ∧
    (rtcOsc s).pending = s.pending := by
  simp [rtcOsc]

@[simp] theorem scoutBoundary_keeps (s : State) :
    (scoutBoundary s).top.state = s.top.state ∧
    (scoutBoundary s).top.coreBor = s.top.coreBor ∧
    (scoutBoundary s).fr.running = s.fr.running ∧
    (scoutBoundary s).fr.epoch = s.fr.epoch ∧
    (scoutBoundary s).pending = s.pending := by
  simp [scoutBoundary]

@[simp] theorem scoutSleep_keeps (s : State) :
    (scoutSleep s).top.state = s.top.state ∧
    (scoutSleep s).top.coreBor = s.top.coreBor ∧
    (scoutSleep s).fr.running = s.fr.running ∧
    (scoutSleep s).fr.epoch = s.fr.epoch ∧
    (scoutSleep s).pending = s.pending := by
  simp [scoutSleep]

@[simp] theorem watchExit_keeps (s : State) :
    (watchExit s).top.state = s.top.state ∧
    (watchExit s).top.coreBor = s.top.coreBor ∧
    (watchExit s).fr.running = s.fr.running ∧
    (watchExit s).fr.epoch = s.fr.epoch ∧
    (watchExit s).pending = s.pending := by
  simp [watchExit]

@[simp] theorem hdecideLimit_keeps (s : State) :
    (hdecideLimit s).top.state = s.top.state ∧
    (hdecideLimit s).top.coreBor = s.top.coreBor ∧
    (hdecideLimit s).fr.running = s.fr.running ∧
    (hdecideLimit s).fr.epoch = s.fr.epoch ∧
    (hdecideLimit s).pending = s.pending := by
  simp [hdecideLimit]

end Sys2Proof.Machine
end

