-- ==== Sys2Proof/Laws/KeepsStore.lean ====
section
/-! SUPPORT. What the definitions of Machine/Store.lean leave alone: the state, a Core BOR, the frame generator, EPOCH and
the queue. -/

namespace Sys2Proof.Machine

@[simp] theorem setCharge_keeps (s : State) :
    (setCharge s).top.state = s.top.state ∧
    (setCharge s).top.coreBor = s.top.coreBor ∧
    (setCharge s).fr.running = s.fr.running ∧
    (setCharge s).fr.epoch = s.fr.epoch ∧
    (setCharge s).pending = s.pending := by
  simp [setCharge]

@[simp] theorem regrade_keeps (s : State) :
    (regrade s).top.state = s.top.state ∧
    (regrade s).top.coreBor = s.top.coreBor ∧
    (regrade s).fr.running = s.fr.running ∧
    (regrade s).fr.epoch = s.fr.epoch ∧
    (regrade s).pending = s.pending := by
  simp [regrade]

@[simp] theorem cellFails_keeps (cell : Nat) (s : State) :
    (cellFails cell s).top.state = s.top.state ∧
    (cellFails cell s).top.coreBor = s.top.coreBor ∧
    (cellFails cell s).fr.running = s.fr.running ∧
    (cellFails cell s).fr.epoch = s.fr.epoch ∧
    (cellFails cell s).pending = s.pending := by
  simp [cellFails]

@[simp] theorem chargerTrip_keeps (kind : Nat) (v : Nat) (s : State) :
    (chargerTrip kind v s).top.state = s.top.state ∧
    (chargerTrip kind v s).top.coreBor = s.top.coreBor ∧
    (chargerTrip kind v s).fr.running = s.fr.running ∧
    (chargerTrip kind v s).fr.epoch = s.fr.epoch ∧
    (chargerTrip kind v s).pending = s.pending := by
  simp [chargerTrip]

@[simp] theorem ovStep_keeps (s : State) :
    (ovStep s).top.state = s.top.state ∧
    (ovStep s).top.coreBor = s.top.coreBor ∧
    (ovStep s).fr.running = s.fr.running ∧
    (ovStep s).fr.epoch = s.fr.epoch ∧
    (ovStep s).pending = s.pending := by
  simp [ovStep]

@[simp] theorem cellStep_keeps (i : Nat) (s : State) :
    (cellStep i s).top.state = s.top.state ∧
    (cellStep i s).top.coreBor = s.top.coreBor ∧
    (cellStep i s).fr.running = s.fr.running ∧
    (cellStep i s).fr.epoch = s.fr.epoch ∧
    (cellStep i s).pending = s.pending := by
  simp [cellStep]

@[simp] theorem ct0Step_keeps (s : State) :
    (ct0Step s).top.state = s.top.state ∧
    (ct0Step s).top.coreBor = s.top.coreBor ∧
    (ct0Step s).fr.running = s.fr.running ∧
    (ct0Step s).fr.epoch = s.fr.epoch ∧
    (ct0Step s).pending = s.pending := by
  simp [ct0Step]

@[simp] theorem topStep_keeps (s : State) :
    (topStep s).top.state = s.top.state ∧
    (topStep s).top.coreBor = s.top.coreBor ∧
    (topStep s).fr.running = s.fr.running ∧
    (topStep s).fr.epoch = s.fr.epoch ∧
    (topStep s).pending = s.pending := by
  simp [topStep]

@[simp] theorem fitSample_keeps (ch : Nat) (raw : Int) (s : State) :
    (fitSample ch raw s).top.state = s.top.state ∧
    (fitSample ch raw s).top.coreBor = s.top.coreBor ∧
    (fitSample ch raw s).fr.running = s.fr.running ∧
    (fitSample ch raw s).fr.epoch = s.fr.epoch ∧
    (fitSample ch raw s).pending = s.pending := by
  simp [fitSample]

@[simp] theorem muxStep_keeps (raw : Int) (s : State) :
    (muxStep raw s).top.state = s.top.state ∧
    (muxStep raw s).top.coreBor = s.top.coreBor ∧
    (muxStep raw s).fr.running = s.fr.running ∧
    (muxStep raw s).fr.epoch = s.fr.epoch ∧
    (muxStep raw s).pending = s.pending := by
  simp [muxStep]

@[simp] theorem tariffSwitch_keeps (s : State) :
    (tariffSwitch s).top.state = s.top.state ∧
    (tariffSwitch s).top.coreBor = s.top.coreBor ∧
    (tariffSwitch s).fr.running = s.fr.running ∧
    (tariffSwitch s).fr.epoch = s.fr.epoch ∧
    (tariffSwitch s).pending = s.pending := by
  simp [tariffSwitch]

@[simp] theorem closeInterval_keeps (trunc : Bool) (ep : Epoch) (s : State) :
    (closeInterval trunc ep s).top.state = s.top.state ∧
    (closeInterval trunc ep s).top.coreBor = s.top.coreBor ∧
    (closeInterval trunc ep s).fr.running = s.fr.running ∧
    (closeInterval trunc ep s).fr.epoch = s.fr.epoch ∧
    (closeInterval trunc ep s).pending = s.pending := by
  simp [closeInterval]

@[simp] theorem dintLoad_state (f : State → State) (s : State) (h : ∀ s, (f s).top.state = s.top.state) : (dintLoad f s).top.state = s.top.state := by
  simp only [dintLoad]; split <;> simp [h]

@[simp] theorem dintLoad_coreBor (f : State → State) (s : State) (h : ∀ s, (f s).top.coreBor = s.top.coreBor) : (dintLoad f s).top.coreBor = s.top.coreBor := by
  simp only [dintLoad]; split <;> simp [h]

@[simp] theorem dintLoad_running (f : State → State) (s : State) (h : ∀ s, (f s).fr.running = s.fr.running) : (dintLoad f s).fr.running = s.fr.running := by
  simp only [dintLoad]; split <;> simp [h]

@[simp] theorem dintLoad_epoch (f : State → State) (s : State) (h : ∀ s, (f s).fr.epoch = s.fr.epoch) : (dintLoad f s).fr.epoch = s.fr.epoch := by
  simp only [dintLoad]; split <;> simp [h]

@[simp] theorem dintLoad_pending (f : State → State) (s : State) (h : ∀ s, (f s).pending = s.pending) : (dintLoad f s).pending = s.pending := by
  simp only [dintLoad]; split <;> simp [h]

@[simp] theorem openInterval_keeps (s : State) :
    (openInterval s).top.state = s.top.state ∧
    (openInterval s).top.coreBor = s.top.coreBor ∧
    (openInterval s).fr.running = s.fr.running ∧
    (openInterval s).fr.epoch = s.fr.epoch ∧
    (openInterval s).pending = s.pending := by
  simp [openInterval]

@[simp] theorem intervalEnd_keeps (s : State) :
    (intervalEnd s).top.state = s.top.state ∧
    (intervalEnd s).top.coreBor = s.top.coreBor ∧
    (intervalEnd s).fr.running = s.fr.running ∧
    (intervalEnd s).fr.epoch = s.fr.epoch ∧
    (intervalEnd s).pending = s.pending := by
  simp [intervalEnd]

@[simp] theorem storeFrameEnd_keeps (iMeas : Nat) (trip : Bool) (s : State) :
    (storeFrameEnd iMeas trip s).top.state = s.top.state ∧
    (storeFrameEnd iMeas trip s).top.coreBor = s.top.coreBor ∧
    (storeFrameEnd iMeas trip s).fr.running = s.fr.running ∧
    (storeFrameEnd iMeas trip s).fr.epoch = s.fr.epoch ∧
    (storeFrameEnd iMeas trip s).pending = s.pending := by
  simp [storeFrameEnd]

@[simp] theorem reserveStep_keeps (s : State) :
    (reserveStep s).top.state = s.top.state ∧
    (reserveStep s).top.coreBor = s.top.coreBor ∧
    (reserveStep s).fr.running = s.fr.running ∧
    (reserveStep s).fr.epoch = s.fr.epoch ∧
    (reserveStep s).pending = s.pending := by
  simp [reserveStep]

@[simp] theorem marginStep_keeps (s : State) :
    (marginStep s).top.state = s.top.state ∧
    (marginStep s).top.coreBor = s.top.coreBor ∧
    (marginStep s).fr.running = s.fr.running ∧
    (marginStep s).fr.epoch = s.fr.epoch ∧
    (marginStep s).pending = s.pending := by
  simp [marginStep]

@[simp] theorem reserveRelease_keeps (s : State) :
    (reserveRelease s).top.state = s.top.state ∧
    (reserveRelease s).top.coreBor = s.top.coreBor ∧
    (reserveRelease s).fr.running = s.fr.running ∧
    (reserveRelease s).fr.epoch = s.fr.epoch ∧
    (reserveRelease s).pending = s.pending := by
  simp [reserveRelease]

@[simp] theorem testInvalid_keeps (s : State) :
    (testInvalid s).top.state = s.top.state ∧
    (testInvalid s).top.coreBor = s.top.coreBor ∧
    (testInvalid s).fr.running = s.fr.running ∧
    (testInvalid s).fr.epoch = s.fr.epoch ∧
    (testInvalid s).pending = s.pending := by
  simp [testInvalid]

@[simp] theorem testStep_keeps (s : State) :
    (testStep s).top.state = s.top.state ∧
    (testStep s).top.coreBor = s.top.coreBor ∧
    (testStep s).fr.running = s.fr.running ∧
    (testStep s).fr.epoch = s.fr.epoch ∧
    (testStep s).pending = s.pending := by
  simp [testStep]

@[simp] theorem stepTestStep_keeps (s : State) :
    (stepTestStep s).top.state = s.top.state ∧
    (stepTestStep s).top.coreBor = s.top.coreBor ∧
    (stepTestStep s).fr.running = s.fr.running ∧
    (stepTestStep s).fr.epoch = s.fr.epoch ∧
    (stepTestStep s).pending = s.pending := by
  simp [stepTestStep]

@[simp] theorem esrKeep_keeps (refcap : Bool) (e25 : Nat) (s : State) :
    (esrKeep refcap e25 s).top.state = s.top.state ∧
    (esrKeep refcap e25 s).top.coreBor = s.top.coreBor ∧
    (esrKeep refcap e25 s).fr.running = s.fr.running ∧
    (esrKeep refcap e25 s).fr.epoch = s.fr.epoch ∧
    (esrKeep refcap e25 s).pending = s.pending := by
  simp [esrKeep]

@[simp] theorem stepTestResult_keeps (s : State) :
    (stepTestResult s).top.state = s.top.state ∧
    (stepTestResult s).top.coreBor = s.top.coreBor ∧
    (stepTestResult s).fr.running = s.fr.running ∧
    (stepTestResult s).fr.epoch = s.fr.epoch ∧
    (stepTestResult s).pending = s.pending := by
  simp only [stepTestResult]; (repeat' split) <;> simp

@[simp] theorem testDueAgain_keeps (s : State) :
    (testDueAgain s).top.state = s.top.state ∧
    (testDueAgain s).top.coreBor = s.top.coreBor ∧
    (testDueAgain s).fr.running = s.fr.running ∧
    (testDueAgain s).fr.epoch = s.fr.epoch ∧
    (testDueAgain s).pending = s.pending := by
  unfold testDueAgain; split <;> simp

@[simp] theorem testRequest_keeps (refcap : Bool) (s : State) :
    (testRequest refcap s).top.state = s.top.state ∧
    (testRequest refcap s).top.coreBor = s.top.coreBor ∧
    (testRequest refcap s).fr.running = s.fr.running ∧
    (testRequest refcap s).fr.epoch = s.fr.epoch ∧
    (testRequest refcap s).pending = s.pending := by
  simp [testRequest]

@[simp] theorem ocStep_keeps (s : State) :
    (ocStep s).top.state = s.top.state ∧
    (ocStep s).top.coreBor = s.top.coreBor ∧
    (ocStep s).fr.running = s.fr.running ∧
    (ocStep s).fr.epoch = s.fr.epoch ∧
    (ocStep s).pending = s.pending := by
  simp [ocStep]

@[simp] theorem holdEnds_keeps (s : State) :
    (holdEnds s).top.state = s.top.state ∧
    (holdEnds s).top.coreBor = s.top.coreBor ∧
    (holdEnds s).fr.running = s.fr.running ∧
    (holdEnds s).fr.epoch = s.fr.epoch ∧
    (holdEnds s).pending = s.pending := by
  simp [holdEnds]

@[simp] theorem chargeEpisode_keeps (s : State) :
    (chargeEpisode s).top.state = s.top.state ∧
    (chargeEpisode s).top.coreBor = s.top.coreBor ∧
    (chargeEpisode s).fr.running = s.fr.running ∧
    (chargeEpisode s).fr.epoch = s.fr.epoch ∧
    (chargeEpisode s).pending = s.pending := by
  simp [chargeEpisode]

@[simp] theorem chargerLoop_keeps (s : State) :
    (chargerLoop s).top.state = s.top.state ∧
    (chargerLoop s).top.coreBor = s.top.coreBor ∧
    (chargerLoop s).fr.running = s.fr.running ∧
    (chargerLoop s).fr.epoch = s.fr.epoch ∧
    (chargerLoop s).pending = s.pending := by
  simp [chargerLoop]

@[simp] theorem storeFrameStart_keeps (s : State) :
    (storeFrameStart s).top.state = s.top.state ∧
    (storeFrameStart s).top.coreBor = s.top.coreBor ∧
    (storeFrameStart s).fr.running = s.fr.running ∧
    (storeFrameStart s).fr.epoch = s.fr.epoch ∧
    (storeFrameStart s).pending = s.pending := by
  simp [storeFrameStart]

@[simp] theorem storeWake_keeps (s : State) :
    (storeWake s).top.state = s.top.state ∧
    (storeWake s).top.coreBor = s.top.coreBor ∧
    (storeWake s).fr.running = s.fr.running ∧
    (storeWake s).fr.epoch = s.fr.epoch ∧
    (storeWake s).pending = s.pending := by
  simp [storeWake]

end Sys2Proof.Machine
end

