-- ==== Sys2Proof/Laws/KeepsDram.lean ====
section
/-! SUPPORT. What the definitions of Machine/Dram.lean leave alone: the state, a Core BOR, the frame generator, EPOCH and
the queue. -/

namespace Sys2Proof.Machine

@[simp] theorem ddrSpend_keeps (n : Nat) (s : State) :
    (ddrSpend n s).top.state = s.top.state ∧
    (ddrSpend n s).top.coreBor = s.top.coreBor ∧
    (ddrSpend n s).fr.running = s.fr.running ∧
    (ddrSpend n s).fr.epoch = s.fr.epoch ∧
    (ddrSpend n s).pending = s.pending := by
  simp [ddrSpend]

@[simp] theorem refreshRank_keeps (i : Int) (r : Nat) (s : State) :
    (refreshRank i r s).top.state = s.top.state ∧
    (refreshRank i r s).top.coreBor = s.top.coreBor ∧
    (refreshRank i r s).fr.running = s.fr.running ∧
    (refreshRank i r s).fr.epoch = s.fr.epoch ∧
    (refreshRank i r s).pending = s.pending := by
  simp [refreshRank]

@[simp] theorem refreshEnd_keeps (s : State) :
    (refreshEnd s).top.state = s.top.state ∧
    (refreshEnd s).top.coreBor = s.top.coreBor ∧
    (refreshEnd s).fr.running = s.fr.running ∧
    (refreshEnd s).fr.epoch = s.fr.epoch ∧
    (refreshEnd s).pending = s.pending := by
  simp [refreshEnd]

@[simp] theorem refreshDue_keeps (rank : Nat) (s : State) :
    (refreshDue rank s).top.state = s.top.state ∧
    (refreshDue rank s).top.coreBor = s.top.coreBor ∧
    (refreshDue rank s).fr.running = s.fr.running ∧
    (refreshDue rank s).fr.epoch = s.fr.epoch ∧
    (refreshDue rank s).pending = s.pending := by
  simp [refreshDue]

@[simp] theorem zqcsDue_keeps (s : State) :
    (zqcsDue s).top.state = s.top.state ∧
    (zqcsDue s).top.coreBor = s.top.coreBor ∧
    (zqcsDue s).fr.running = s.fr.running ∧
    (zqcsDue s).fr.epoch = s.fr.epoch ∧
    (zqcsDue s).pending = s.pending := by
  simp [zqcsDue]

@[simp] theorem dramTake_keeps (s : State) :
    (dramTake s).top.state = s.top.state ∧
    (dramTake s).top.coreBor = s.top.coreBor ∧
    (dramTake s).fr.running = s.fr.running ∧
    (dramTake s).fr.epoch = s.fr.epoch ∧
    (dramTake s).pending = s.pending := by
  simp [dramTake]

@[simp] theorem dramGive_keeps (s : State) :
    (dramGive s).top.state = s.top.state ∧
    (dramGive s).top.coreBor = s.top.coreBor ∧
    (dramGive s).fr.running = s.fr.running ∧
    (dramGive s).fr.epoch = s.fr.epoch ∧
    (dramGive s).pending = s.pending := by
  simp [dramGive]

@[simp] theorem gntIgnored_keeps (s : State) :
    (gntIgnored s).top.state = s.top.state ∧
    (gntIgnored s).top.coreBor = s.top.coreBor ∧
    (gntIgnored s).fr.running = s.fr.running ∧
    (gntIgnored s).fr.epoch = s.fr.epoch ∧
    (gntIgnored s).pending = s.pending := by
  simp [gntIgnored]

@[simp] theorem isoStep_keeps (s : State) :
    (isoStep s).top.state = s.top.state ∧
    (isoStep s).top.coreBor = s.top.coreBor ∧
    (isoStep s).fr.running = s.fr.running ∧
    (isoStep s).fr.epoch = s.fr.epoch ∧
    (isoStep s).pending = s.pending := by
  unfold isoStep; split <;> simp

@[simp] theorem exclusiveStep_keeps (gnt : Bool) (s : State) :
    (exclusiveStep gnt s).top.state = s.top.state ∧
    (exclusiveStep gnt s).top.coreBor = s.top.coreBor ∧
    (exclusiveStep gnt s).fr.running = s.fr.running ∧
    (exclusiveStep gnt s).fr.epoch = s.fr.epoch ∧
    (exclusiveStep gnt s).pending = s.pending := by
  simp [exclusiveStep]

@[simp] theorem slotStep_keeps (gnt : Bool) (s : State) :
    (slotStep gnt s).top.state = s.top.state ∧
    (slotStep gnt s).top.coreBor = s.top.coreBor ∧
    (slotStep gnt s).fr.running = s.fr.running ∧
    (slotStep gnt s).fr.epoch = s.fr.epoch ∧
    (slotStep gnt s).pending = s.pending := by
  simp [slotStep]

@[simp] theorem dramBoundary_keeps (gnt : Bool) (s : State) :
    (dramBoundary gnt s).top.state = s.top.state ∧
    (dramBoundary gnt s).top.coreBor = s.top.coreBor ∧
    (dramBoundary gnt s).fr.running = s.fr.running ∧
    (dramBoundary gnt s).fr.epoch = s.fr.epoch ∧
    (dramBoundary gnt s).pending = s.pending := by
  simp [dramBoundary]

@[simp] theorem dramRequest_keeps (s : State) :
    (dramRequest s).top.state = s.top.state ∧
    (dramRequest s).top.coreBor = s.top.coreBor ∧
    (dramRequest s).fr.running = s.fr.running ∧
    (dramRequest s).fr.epoch = s.fr.epoch ∧
    (dramRequest s).pending = s.pending := by
  simp [dramRequest]

@[simp] theorem dramFrameStart_keeps (was : Bool) (s : State) :
    (dramFrameStart was s).top.state = s.top.state ∧
    (dramFrameStart was s).top.coreBor = s.top.coreBor ∧
    (dramFrameStart was s).fr.running = s.fr.running ∧
    (dramFrameStart was s).fr.epoch = s.fr.epoch ∧
    (dramFrameStart was s).pending = s.pending := by
  simp [dramFrameStart]

@[simp] theorem readyCheck_keeps (s : State) :
    (readyCheck s).top.state = s.top.state ∧
    (readyCheck s).top.coreBor = s.top.coreBor ∧
    (readyCheck s).fr.running = s.fr.running ∧
    (readyCheck s).fr.epoch = s.fr.epoch ∧
    (readyCheck s).pending = s.pending := by
  simp [readyCheck]

@[simp] theorem handBack_keeps (s : State) :
    (handBack s).top.state = s.top.state ∧
    (handBack s).top.coreBor = s.top.coreBor ∧
    (handBack s).fr.running = s.fr.running ∧
    (handBack s).fr.epoch = s.fr.epoch ∧
    (handBack s).pending = s.pending := by
  simp [handBack]

@[simp] theorem ownGntIsolate_keeps (s : State) :
    (ownGntIsolate s).top.state = s.top.state ∧
    (ownGntIsolate s).top.coreBor = s.top.coreBor ∧
    (ownGntIsolate s).fr.running = s.fr.running ∧
    (ownGntIsolate s).fr.epoch = s.fr.epoch ∧
    (ownGntIsolate s).pending = s.pending := by
  simp [ownGntIsolate]

@[simp] theorem forcedIsolation_keeps (s : State) :
    (forcedIsolation s).top.state = s.top.state ∧
    (forcedIsolation s).top.coreBor = s.top.coreBor ∧
    (forcedIsolation s).fr.running = s.fr.running ∧
    (forcedIsolation s).fr.epoch = s.fr.epoch ∧
    (forcedIsolation s).pending = s.pending := by
  simp [forcedIsolation]

@[simp] theorem gntDrop_keeps (s : State) :
    (gntDrop s).top.state = s.top.state ∧
    (gntDrop s).top.coreBor = s.top.coreBor ∧
    (gntDrop s).fr.running = s.fr.running ∧
    (gntDrop s).fr.epoch = s.fr.epoch ∧
    (gntDrop s).pending = s.pending := by
  simp [gntDrop]

@[simp] theorem trainFails_keeps (s : State) :
    (trainFails s).top.state = s.top.state ∧
    (trainFails s).top.coreBor = s.top.coreBor ∧
    (trainFails s).fr.running = s.fr.running ∧
    (trainFails s).fr.epoch = s.fr.epoch ∧
    (trainFails s).pending = s.pending := by
  simp [trainFails]

@[simp] theorem trainStart_keeps (s : State) :
    (trainStart s).top.state = s.top.state ∧
    (trainStart s).top.coreBor = s.top.coreBor ∧
    (trainStart s).fr.running = s.fr.running ∧
    (trainStart s).fr.epoch = s.fr.epoch ∧
    (trainStart s).pending = s.pending := by
  simp [trainStart]

@[simp] theorem trainEnds_keeps (s : State) :
    (trainEnds s).top.state = s.top.state ∧
    (trainEnds s).top.coreBor = s.top.coreBor ∧
    (trainEnds s).fr.running = s.fr.running ∧
    (trainEnds s).fr.epoch = s.fr.epoch ∧
    (trainEnds s).pending = s.pending := by
  simp [trainEnds]

@[simp] theorem storeSet_keeps (second : Bool) (s : State) :
    (storeSet second s).top.state = s.top.state ∧
    (storeSet second s).top.coreBor = s.top.coreBor ∧
    (storeSet second s).fr.running = s.fr.running ∧
    (storeSet second s).fr.epoch = s.fr.epoch ∧
    (storeSet second s).pending = s.pending := by
  simp [storeSet]

@[simp] theorem trainDone_keeps (okHost : Bool) (ok2400 : Bool) (s : State) :
    (trainDone okHost ok2400 s).top.state = s.top.state ∧
    (trainDone okHost ok2400 s).top.coreBor = s.top.coreBor ∧
    (trainDone okHost ok2400 s).fr.running = s.fr.running ∧
    (trainDone okHost ok2400 s).fr.epoch = s.fr.epoch ∧
    (trainDone okHost ok2400 s).pending = s.pending := by
  simp [trainDone]

@[simp] theorem setStored_keeps (second : Bool) (s : State) :
    (setStored second s).top.state = s.top.state ∧
    (setStored second s).top.coreBor = s.top.coreBor ∧
    (setStored second s).fr.running = s.fr.running ∧
    (setStored second s).fr.epoch = s.fr.epoch ∧
    (setStored second s).pending = s.pending := by
  simp [setStored]

@[simp] theorem trickleGo_keeps (s : State) :
    (trickleGo s).top.state = s.top.state ∧
    (trickleGo s).top.coreBor = s.top.coreBor ∧
    (trickleGo s).fr.running = s.fr.running ∧
    (trickleGo s).fr.epoch = s.fr.epoch ∧
    (trickleGo s).pending = s.pending := by
  simp [trickleGo]

@[simp] theorem endPass_keeps (cut : Bool) (s : State) :
    (endPass cut s).top.state = s.top.state ∧
    (endPass cut s).top.coreBor = s.top.coreBor ∧
    (endPass cut s).fr.running = s.fr.running ∧
    (endPass cut s).fr.epoch = s.fr.epoch ∧
    (endPass cut s).pending = s.pending := by
  simp [endPass]

@[simp] theorem trickleCopied_keeps (c : Nat) (s : State) :
    (trickleCopied c s).top.state = s.top.state ∧
    (trickleCopied c s).top.coreBor = s.top.coreBor ∧
    (trickleCopied c s).fr.running = s.fr.running ∧
    (trickleCopied c s).fr.epoch = s.fr.epoch ∧
    (trickleCopied c s).pending = s.pending := by
  unfold trickleCopied; (repeat' split) <;> simp

@[simp] theorem tricklePassEnd_keeps (s : State) :
    (tricklePassEnd s).top.state = s.top.state ∧
    (tricklePassEnd s).top.coreBor = s.top.coreBor ∧
    (tricklePassEnd s).fr.running = s.fr.running ∧
    (tricklePassEnd s).fr.epoch = s.fr.epoch ∧
    (tricklePassEnd s).pending = s.pending := by
  simp [tricklePassEnd]

@[simp] theorem imageClose_keeps (s : State) :
    (imageClose s).top.state = s.top.state ∧
    (imageClose s).top.coreBor = s.top.coreBor ∧
    (imageClose s).fr.running = s.fr.running ∧
    (imageClose s).fr.epoch = s.fr.epoch ∧
    (imageClose s).pending = s.pending := by
  simp [imageClose]

end Sys2Proof.Machine
end

