-- ==== Sys2Proof/Laws/KeepsComb.lean ====
section
/-! SUPPORT. What the definitions of Machine/Comb.lean leave alone: the state, a Core BOR, the frame generator, EPOCH and
the queue. -/

namespace Sys2Proof.Machine

@[simp] theorem linkPage_keeps (id : Nat) (l : Nat) (p : PageOut) (s : State) :
    (linkPage id l p s).2.top.state = s.top.state ∧
    (linkPage id l p s).2.top.coreBor = s.top.coreBor ∧
    (linkPage id l p s).2.fr.running = s.fr.running ∧
    (linkPage id l p s).2.fr.epoch = s.fr.epoch ∧
    (linkPage id l p s).2.pending = s.pending := by
  simp [linkPage]

@[simp] theorem addLost_keeps (cs : List Nat) (s : State) :
    (addLost cs s).top.state = s.top.state ∧
    (addLost cs s).top.coreBor = s.top.coreBor ∧
    (addLost cs s).fr.running = s.fr.running ∧
    (addLost cs s).fr.epoch = s.fr.epoch ∧
    (addLost cs s).pending = s.pending := by
  simp [addLost]

end Sys2Proof.Machine
end

