-- ==== Sys2Proof/Laws/KeepsNand.lean ====
section
/-! SUPPORT. What the definitions of Machine/Nand.lean leave alone: the state, a Core BOR, the frame generator, EPOCH and
the queue. -/

namespace Sys2Proof.Machine

@[simp] theorem keepGeom_keeps (kind : Nat) (val : Nat) (s : State) :
    (keepGeom kind val s).top.state = s.top.state ∧
    (keepGeom kind val s).top.coreBor = s.top.coreBor ∧
    (keepGeom kind val s).fr.running = s.fr.running ∧
    (keepGeom kind val s).fr.epoch = s.fr.epoch ∧
    (keepGeom kind val s).pending = s.pending := by
  simp [keepGeom]

@[simp] theorem geomWake_keeps (s : State) :
    (geomWake s).top.state = s.top.state ∧
    (geomWake s).top.coreBor = s.top.coreBor ∧
    (geomWake s).fr.running = s.fr.running ∧
    (geomWake s).fr.epoch = s.fr.epoch ∧
    (geomWake s).pending = s.pending := by
  simp [geomWake]

@[simp] theorem markBad_keeps (t : Nat) (x : Nat) (s : State) :
    (markBad t x s).top.state = s.top.state ∧
    (markBad t x s).top.coreBor = s.top.coreBor ∧
    (markBad t x s).fr.running = s.fr.running ∧
    (markBad t x s).fr.epoch = s.fr.epoch ∧
    (markBad t x s).pending = s.pending := by
  simp [markBad]

@[simp] theorem catProgram_keeps (e : CatEntry) (w : Nat) (s : State) :
    (catProgram e w s).top.state = s.top.state ∧
    (catProgram e w s).top.coreBor = s.top.coreBor ∧
    (catProgram e w s).fr.running = s.fr.running ∧
    (catProgram e w s).fr.epoch = s.fr.epoch ∧
    (catProgram e w s).pending = s.pending := by
  simp [catProgram]

@[simp] theorem modEntry_keeps (slot : Nat) (f : CatEntry → CatEntry) (s : State) :
    (modEntry slot f s).top.state = s.top.state ∧
    (modEntry slot f s).top.coreBor = s.top.coreBor ∧
    (modEntry slot f s).fr.running = s.fr.running ∧
    (modEntry slot f s).fr.epoch = s.fr.epoch ∧
    (modEntry slot f s).pending = s.pending := by
  simp [modEntry]

@[simp] theorem endEntry_keeps (kind : Nat) (id : Nat) (s : State) :
    (endEntry kind id s).top.state = s.top.state ∧
    (endEntry kind id s).top.coreBor = s.top.coreBor ∧
    (endEntry kind id s).fr.running = s.fr.running ∧
    (endEntry kind id s).fr.epoch = s.fr.epoch ∧
    (endEntry kind id s).pending = s.pending := by
  unfold endEntry; split <;> simp

@[simp] theorem setFill_keeps (sA : Nat) (sB : Nat) (run : Nat → List Nat) (s : State) :
    (setFill sA sB run s).top.state = s.top.state ∧
    (setFill sA sB run s).top.coreBor = s.top.coreBor ∧
    (setFill sA sB run s).fr.running = s.fr.running ∧
    (setFill sA sB run s).fr.epoch = s.fr.epoch ∧
    (setFill sA sB run s).pending = s.pending := by
  simp [setFill]

@[simp] theorem factoryScan_keeps (s : State) :
    (factoryScan s).top.state = s.top.state ∧
    (factoryScan s).top.coreBor = s.top.coreBor ∧
    (factoryScan s).fr.running = s.fr.running ∧
    (factoryScan s).fr.epoch = s.fr.epoch ∧
    (factoryScan s).pending = s.pending := by
  simp [factoryScan]

@[simp] theorem geomShort_keeps (s : State) :
    (geomShort s).top.state = s.top.state ∧
    (geomShort s).top.coreBor = s.top.coreBor ∧
    (geomShort s).fr.running = s.fr.running ∧
    (geomShort s).fr.epoch = s.fr.epoch ∧
    (geomShort s).pending = s.pending := by
  simp [geomShort]

@[simp] theorem prepStart_keeps (s : State) :
    (prepStart s).top.state = s.top.state ∧
    (prepStart s).top.coreBor = s.top.coreBor ∧
    (prepStart s).fr.running = s.fr.running ∧
    (prepStart s).fr.epoch = s.fr.epoch ∧
    (prepStart s).pending = s.pending := by
  simp (disch := (intros; (repeat' split) <;> try simp)) [prepStart]

@[simp] theorem prepMaybe_keeps (s : State) :
    (prepMaybe s).top.state = s.top.state ∧
    (prepMaybe s).top.coreBor = s.top.coreBor ∧
    (prepMaybe s).fr.running = s.fr.running ∧
    (prepMaybe s).fr.epoch = s.fr.epoch ∧
    (prepMaybe s).pending = s.pending := by
  simp [prepMaybe]

@[simp] theorem prepArm_keeps (s : State) :
    (prepArm s).top.state = s.top.state ∧
    (prepArm s).top.coreBor = s.top.coreBor ∧
    (prepArm s).fr.running = s.fr.running ∧
    (prepArm s).fr.epoch = s.fr.epoch ∧
    (prepArm s).pending = s.pending := by
  unfold prepArm; split <;> simp

@[simp] theorem armComb_keeps (e : CatEntry) (s : State) :
    (armComb e s).top.state = s.top.state ∧
    (armComb e s).top.coreBor = s.top.coreBor ∧
    (armComb e s).fr.running = s.fr.running ∧
    (armComb e s).fr.epoch = s.fr.epoch ∧
    (armComb e s).pending = s.pending := by
  simp [armComb]

@[simp] theorem armed_keeps (e : CatEntry) (s : State) :
    (armed e s).top.state = s.top.state ∧
    (armed e s).top.coreBor = s.top.coreBor ∧
    (armed e s).fr.running = s.fr.running ∧
    (armed e s).fr.epoch = s.fr.epoch ∧
    (armed e s).pending = s.pending := by
  simp [armed]

@[simp] theorem prepEnd_keeps (s : State) :
    (prepEnd s).top.state = s.top.state ∧
    (prepEnd s).top.coreBor = s.top.coreBor ∧
    (prepEnd s).fr.running = s.fr.running ∧
    (prepEnd s).fr.epoch = s.fr.epoch ∧
    (prepEnd s).pending = s.pending := by
  unfold prepEnd; (repeat' split) <;> simp

@[simp] theorem eraseDone_keeps (t : Nat) (stripe : Nat) (pass : Bool) (s : State) :
    (eraseDone t stripe pass s).top.state = s.top.state ∧
    (eraseDone t stripe pass s).top.coreBor = s.top.coreBor ∧
    (eraseDone t stripe pass s).fr.running = s.fr.running ∧
    (eraseDone t stripe pass s).fr.epoch = s.fr.epoch ∧
    (eraseDone t stripe pass s).pending = s.pending := by
  simp only [eraseDone]; (repeat' split) <;> simp

@[simp] theorem armLoss_keeps (s : State) :
    (armLoss s).top.state = s.top.state ∧
    (armLoss s).top.coreBor = s.top.coreBor ∧
    (armLoss s).fr.running = s.fr.running ∧
    (armLoss s).fr.epoch = s.fr.epoch ∧
    (armLoss s).pending = s.pending := by
  simp (disch := (intros; (repeat' split) <;> try simp)) [armLoss]

@[simp] theorem bringUpStart_keeps (s : State) :
    (bringUpStart s).top.state = s.top.state ∧
    (bringUpStart s).top.coreBor = s.top.coreBor ∧
    (bringUpStart s).fr.running = s.fr.running ∧
    (bringUpStart s).fr.epoch = s.fr.epoch ∧
    (bringUpStart s).pending = s.pending := by
  simp [bringUpStart]

@[simp] theorem rearm_keeps (unerased : List (Nat × Nat)) (s : State) :
    (rearm unerased s).top.state = s.top.state ∧
    (rearm unerased s).top.coreBor = s.top.coreBor ∧
    (rearm unerased s).fr.running = s.fr.running ∧
    (rearm unerased s).fr.epoch = s.fr.epoch ∧
    (rearm unerased s).pending = s.pending := by
  unfold rearm; split <;> simp

@[simp] theorem bringUpDone_keeps (b : BringUp) (s : State) :
    (bringUpDone b s).top.state = s.top.state ∧
    (bringUpDone b s).top.coreBor = s.top.coreBor ∧
    (bringUpDone b s).fr.running = s.fr.running ∧
    (bringUpDone b s).fr.epoch = s.fr.epoch ∧
    (bringUpDone b s).pending = s.pending := by
  simp [bringUpDone]

@[simp] theorem putFill_keeps (trk : Bool) (t : Nat) (xs : List Nat) (row : Nat) (s : State) :
    (putFill trk t xs row s).top.state = s.top.state ∧
    (putFill trk t xs row s).top.coreBor = s.top.coreBor ∧
    (putFill trk t xs row s).fr.running = s.fr.running ∧
    (putFill trk t xs row s).fr.epoch = s.fr.epoch ∧
    (putFill trk t xs row s).pending = s.pending := by
  simp [putFill]

@[simp] theorem linkAll_keeps (id l : Nat) : ∀ (ps : List PageOut) (s : State),
    (linkAll id l ps s).2.top.state = s.top.state ∧
    (linkAll id l ps s).2.top.coreBor = s.top.coreBor ∧
    (linkAll id l ps s).2.fr.running = s.fr.running ∧
    (linkAll id l ps s).2.fr.epoch = s.fr.epoch ∧
    (linkAll id l ps s).2.pending = s.pending
  | [], _ => by simp [linkAll]
  | p :: ps, s => by simp [linkAll, linkAll_keeps id l ps]

@[simp] theorem unsave_keeps (c : Nat) (s : State) :
    (unsave c s).top.state = s.top.state ∧
    (unsave c s).top.coreBor = s.top.coreBor ∧
    (unsave c s).fr.running = s.fr.running ∧
    (unsave c s).fr.epoch = s.fr.epoch ∧
    (unsave c s).pending = s.pending := by
  unfold unsave; (repeat' split) <;> simp

@[simp] theorem save_keeps (c : Nat) (s : State) :
    (save c s).top.state = s.top.state ∧
    (save c s).top.coreBor = s.top.coreBor ∧
    (save c s).fr.running = s.fr.running ∧
    (save c s).fr.epoch = s.fr.epoch ∧
    (save c s).pending = s.pending := by
  unfold save; split <;> simp

@[simp] theorem formUnits_keeps (l : Nat) (all : Bool) : ∀ (n : Nat) (s : State),
    (formUnits l all n s).top.state = s.top.state ∧
    (formUnits l all n s).top.coreBor = s.top.coreBor ∧
    (formUnits l all n s).fr.running = s.fr.running ∧
    (formUnits l all n s).fr.epoch = s.fr.epoch ∧
    (formUnits l all n s).pending = s.pending
  | 0, s => by simp [formUnits]
  | n + 1, s => by
    unfold formUnits
    (repeat' split) <;> simp [formUnits_keeps l all n]

@[simp] theorem giveBack_keeps (cells : List Nat) (s : State) :
    (giveBack cells s).top.state = s.top.state ∧
    (giveBack cells s).top.coreBor = s.top.coreBor ∧
    (giveBack cells s).fr.running = s.fr.running ∧
    (giveBack cells s).fr.epoch = s.fr.epoch ∧
    (giveBack cells s).pending = s.pending := by
  simp [giveBack]

@[simp] theorem laneGone_keeps (l : Nat) (s : State) :
    (laneGone l s).top.state = s.top.state ∧
    (laneGone l s).top.coreBor = s.top.coreBor ∧
    (laneGone l s).fr.running = s.fr.running ∧
    (laneGone l s).fr.epoch = s.fr.epoch ∧
    (laneGone l s).pending = s.pending := by
  simp [laneGone]

@[simp] theorem pump_keeps (l : Nat) (all : Bool) (s : State) :
    (pump l all s).top.state = s.top.state ∧
    (pump l all s).top.coreBor = s.top.coreBor ∧
    (pump l all s).fr.running = s.fr.running ∧
    (pump l all s).fr.epoch = s.fr.epoch ∧
    (pump l all s).pending = s.pending := by
  simp only [pump]; split <;> simp

@[simp] theorem targetGone_keeps (t : Nat) (page : Nat) (s : State) :
    (targetGone t page s).top.state = s.top.state ∧
    (targetGone t page s).top.coreBor = s.top.coreBor ∧
    (targetGone t page s).fr.running = s.fr.running ∧
    (targetGone t page s).fr.epoch = s.fr.epoch ∧
    (targetGone t page s).pending = s.pending := by
  simp [targetGone]

@[simp] theorem retireStripe_keeps (t : Nat) (x : Nat) (s : State) :
    (retireStripe t x s).top.state = s.top.state ∧
    (retireStripe t x s).top.coreBor = s.top.coreBor ∧
    (retireStripe t x s).fr.running = s.fr.running ∧
    (retireStripe t x s).fr.epoch = s.fr.epoch ∧
    (retireStripe t x s).pending = s.pending := by
  simp [retireStripe]

@[simp] theorem voidUnit_keeps (u : ProgUnit) (s : State) :
    (voidUnit u s).top.state = s.top.state ∧
    (voidUnit u s).top.coreBor = s.top.coreBor ∧
    (voidUnit u s).fr.running = s.fr.running ∧
    (voidUnit u s).fr.epoch = s.fr.epoch ∧
    (voidUnit u s).pending = s.pending := by
  simp [voidUnit]

@[simp] theorem settleRewrites_keeps (s : State) :
    (settleRewrites s).top.state = s.top.state ∧
    (settleRewrites s).top.coreBor = s.top.coreBor ∧
    (settleRewrites s).fr.running = s.fr.running ∧
    (settleRewrites s).fr.epoch = s.fr.epoch ∧
    (settleRewrites s).pending = s.pending := by
  simp [settleRewrites]

@[simp] theorem headerProgram_keeps (sA : Nat) (stripe : Nat) (s : State) :
    (headerProgram sA stripe s).top.state = s.top.state ∧
    (headerProgram sA stripe s).top.coreBor = s.top.coreBor ∧
    (headerProgram sA stripe s).fr.running = s.fr.running ∧
    (headerProgram sA stripe s).fr.epoch = s.fr.epoch ∧
    (headerProgram sA stripe s).pending = s.pending := by
  simp [headerProgram]

@[simp] theorem headerAgain_keeps (u : ProgUnit) (s : State) :
    (headerAgain u s).top.state = s.top.state ∧
    (headerAgain u s).top.coreBor = s.top.coreBor ∧
    (headerAgain u s).fr.running = s.fr.running ∧
    (headerAgain u s).fr.epoch = s.fr.epoch ∧
    (headerAgain u s).pending = s.pending := by
  simp [headerAgain]

@[simp] theorem progFailed_keeps (t : Nat) (page : Nat) (s : State) :
    (progFailed t page s).top.state = s.top.state ∧
    (progFailed t page s).top.coreBor = s.top.coreBor ∧
    (progFailed t page s).fr.running = s.fr.running ∧
    (progFailed t page s).fr.epoch = s.fr.epoch ∧
    (progFailed t page s).pending = s.pending := by
  simp [progFailed]

@[simp] theorem unitStatus_keeps (t : Nat) (page : Nat) (pass : Bool) (s : State) :
    (unitStatus t page pass s).top.state = s.top.state ∧
    (unitStatus t page pass s).top.coreBor = s.top.coreBor ∧
    (unitStatus t page pass s).fr.running = s.fr.running ∧
    (unitStatus t page pass s).fr.epoch = s.fr.epoch ∧
    (unitStatus t page pass s).pending = s.pending := by
  simp only [unitStatus]; split <;> simp

@[simp] theorem trickleFails_keeps (t : Nat) (page : Nat) (s : State) :
    (trickleFails t page s).top.state = s.top.state ∧
    (trickleFails t page s).top.coreBor = s.top.coreBor ∧
    (trickleFails t page s).fr.running = s.fr.running ∧
    (trickleFails t page s).fr.epoch = s.fr.epoch ∧
    (trickleFails t page s).pending = s.pending := by
  simp [trickleFails]

@[simp] theorem trickleStatus_keeps (t : Nat) (page : Nat) (pass : Bool) (s : State) :
    (trickleStatus t page pass s).top.state = s.top.state ∧
    (trickleStatus t page pass s).top.coreBor = s.top.coreBor ∧
    (trickleStatus t page pass s).fr.running = s.fr.running ∧
    (trickleStatus t page pass s).fr.epoch = s.fr.epoch ∧
    (trickleStatus t page pass s).pending = s.pending := by
  unfold trickleStatus; split <;> simp

@[simp] theorem targetTimeout_keeps (t : Nat) (s : State) :
    (targetTimeout t s).top.state = s.top.state ∧
    (targetTimeout t s).top.coreBor = s.top.coreBor ∧
    (targetTimeout t s).fr.running = s.fr.running ∧
    (targetTimeout t s).fr.epoch = s.fr.epoch ∧
    (targetTimeout t s).pending = s.pending := by
  unfold targetTimeout; (repeat' split) <;> simp

@[simp] theorem compact_keeps (s : State) :
    (compact s).top.state = s.top.state ∧
    (compact s).top.coreBor = s.top.coreBor ∧
    (compact s).fr.running = s.fr.running ∧
    (compact s).fr.epoch = s.fr.epoch ∧
    (compact s).pending = s.pending := by
  simp [compact]

@[simp] theorem compactEnd_keeps (s : State) :
    (compactEnd s).top.state = s.top.state ∧
    (compactEnd s).top.coreBor = s.top.coreBor ∧
    (compactEnd s).fr.running = s.fr.running ∧
    (compactEnd s).fr.epoch = s.fr.epoch ∧
    (compactEnd s).pending = s.pending := by
  simp [compactEnd]

end Sys2Proof.Machine
end

