-- ==== Sys2Proof/Laws/KeepsHarvest.lean ====
section
/-! SUPPORT. What the definitions of Machine/Harvest.lean leave alone: the state, a Core BOR, the frame generator, EPOCH and
the queue. -/

namespace Sys2Proof.Machine

@[simp] theorem planRepair_keeps (s : State) :
    (planRepair s).top.state = s.top.state ∧
    (planRepair s).top.coreBor = s.top.coreBor ∧
    (planRepair s).fr.running = s.fr.running ∧
    (planRepair s).fr.epoch = s.fr.epoch ∧
    (planRepair s).pending = s.pending := by
  simp [planRepair]

@[simp] theorem planRebuild_keeps (s : State) :
    (planRebuild s).top.state = s.top.state ∧
    (planRebuild s).top.coreBor = s.top.coreBor ∧
    (planRebuild s).fr.running = s.fr.running ∧
    (planRebuild s).fr.epoch = s.fr.epoch ∧
    (planRebuild s).pending = s.pending := by
  simp [planRebuild]

@[simp] theorem settleItem_keeps (i : Item) (s : State) :
    (settleItem i s).top.state = s.top.state ∧
    (settleItem i s).top.coreBor = s.top.coreBor ∧
    (settleItem i s).fr.running = s.fr.running ∧
    (settleItem i s).fr.epoch = s.fr.epoch ∧
    (settleItem i s).pending = s.pending := by
  unfold settleItem; split <;> simp

@[simp] theorem settleWrites_keeps (s : State) :
    (settleWrites s).top.state = s.top.state ∧
    (settleWrites s).top.coreBor = s.top.coreBor ∧
    (settleWrites s).fr.running = s.fr.running ∧
    (settleWrites s).fr.epoch = s.fr.epoch ∧
    (settleWrites s).pending = s.pending := by
  simp [settleWrites]

@[simp] theorem giveLane_keeps (l : Nat) (c : Nat) (s : State) :
    (giveLane l c s).top.state = s.top.state ∧
    (giveLane l c s).top.coreBor = s.top.coreBor ∧
    (giveLane l c s).fr.running = s.fr.running ∧
    (giveLane l c s).fr.epoch = s.fr.epoch ∧
    (giveLane l c s).pending = s.pending := by
  simp [giveLane]

@[simp] theorem scanHead_keeps (c : Nat) (s : State) :
    (scanHead c s).2.top.state = s.top.state ∧
    (scanHead c s).2.top.coreBor = s.top.coreBor ∧
    (scanHead c s).2.fr.running = s.fr.running ∧
    (scanHead c s).2.fr.epoch = s.fr.epoch ∧
    (scanHead c s).2.pending = s.pending := by
  simp [scanHead]

@[simp] theorem dispatch_keeps : ∀ (n : Nat) (s : State),
    (dispatch n s).top.state = s.top.state ∧
    (dispatch n s).top.coreBor = s.top.coreBor ∧
    (dispatch n s).fr.running = s.fr.running ∧
    (dispatch n s).fr.epoch = s.fr.epoch ∧
    (dispatch n s).pending = s.pending
  | 0, s => by simp [dispatch]
  | n + 1, s => by
    unfold dispatch
    (repeat' split) <;> first
      | (simp [dispatch_keeps n]; done)
      | (have hq := congrArg Prod.snd ‹_ = (_, _)›; dsimp only at hq; subst hq; simp [dispatch_keeps n])

@[simp] theorem laneProgress_keeps (s : State) :
    (laneProgress s).top.state = s.top.state ∧
    (laneProgress s).top.coreBor = s.top.coreBor ∧
    (laneProgress s).fr.running = s.fr.running ∧
    (laneProgress s).fr.epoch = s.fr.epoch ∧
    (laneProgress s).pending = s.pending := by
  simp [laneProgress]

@[simp] theorem laneItem_keeps (l : Nat) (s : State) :
    (laneItem l s).top.state = s.top.state ∧
    (laneItem l s).top.coreBor = s.top.coreBor ∧
    (laneItem l s).fr.running = s.fr.running ∧
    (laneItem l s).fr.epoch = s.fr.epoch ∧
    (laneItem l s).pending = s.pending := by
  simp [laneItem]

@[simp] theorem laneCharge_keeps (s : State) :
    (laneCharge s).top.state = s.top.state ∧
    (laneCharge s).top.coreBor = s.top.coreBor ∧
    (laneCharge s).fr.running = s.fr.running ∧
    (laneCharge s).fr.epoch = s.fr.epoch ∧
    (laneCharge s).pending = s.pending := by
  simp [laneCharge]

@[simp] theorem cutoffStep_keeps (s : State) :
    (cutoffStep s).top.state = s.top.state ∧
    (cutoffStep s).top.coreBor = s.top.coreBor ∧
    (cutoffStep s).fr.running = s.fr.running ∧
    (cutoffStep s).fr.epoch = s.fr.epoch ∧
    (cutoffStep s).pending = s.pending := by
  simp [cutoffStep]

@[simp] theorem laneOrders_keeps (s : State) :
    (laneOrders s).top.state = s.top.state ∧
    (laneOrders s).top.coreBor = s.top.coreBor ∧
    (laneOrders s).fr.running = s.fr.running ∧
    (laneOrders s).fr.epoch = s.fr.epoch ∧
    (laneOrders s).pending = s.pending := by
  simp [laneOrders]

@[simp] theorem drainFrame_keeps (s : State) :
    (drainFrame s).top.state = s.top.state ∧
    (drainFrame s).top.coreBor = s.top.coreBor ∧
    (drainFrame s).fr.running = s.fr.running ∧
    (drainFrame s).fr.epoch = s.fr.epoch ∧
    (drainFrame s).pending = s.pending := by
  simp [drainFrame]

@[simp] theorem clearViews_keeps (s : State) :
    (clearViews s).top.state = s.top.state ∧
    (clearViews s).top.coreBor = s.top.coreBor ∧
    (clearViews s).fr.running = s.fr.running ∧
    (clearViews s).fr.epoch = s.fr.epoch ∧
    (clearViews s).pending = s.pending := by
  simp [clearViews]

@[simp] theorem harvestBegin_keeps (s : State) :
    (harvestBegin s).top.state = s.top.state ∧
    (harvestBegin s).top.coreBor = s.top.coreBor ∧
    (harvestBegin s).fr.running = s.fr.running ∧
    (harvestBegin s).fr.epoch = s.fr.epoch ∧
    (harvestBegin s).pending = s.pending := by
  simp [harvestBegin]

@[simp] theorem isolateEntry_keeps (s : State) :
    (isolateEntry s).top.state = s.top.state ∧
    (isolateEntry s).top.coreBor = s.top.coreBor ∧
    (isolateEntry s).fr.running = s.fr.running ∧
    (isolateEntry s).fr.epoch = s.fr.epoch ∧
    (isolateEntry s).pending = s.pending := by
  simp [isolateEntry]

@[simp] theorem openComb_keeps (e : CatEntry) (s : State) :
    (openComb e s).top.state = s.top.state ∧
    (openComb e s).top.coreBor = s.top.coreBor ∧
    (openComb e s).fr.running = s.fr.running ∧
    (openComb e s).fr.epoch = s.fr.epoch ∧
    (openComb e s).pending = s.pending := by
  simp [openComb]

@[simp] theorem drainEntry_keeps (s : State) :
    (drainEntry s).top.state = s.top.state ∧
    (drainEntry s).top.coreBor = s.top.coreBor ∧
    (drainEntry s).fr.running = s.fr.running ∧
    (drainEntry s).fr.epoch = s.fr.epoch ∧
    (drainEntry s).pending = s.pending := by
  unfold drainEntry; (repeat' split) <;> simp

@[simp] theorem sealSuspend_keeps (s : State) :
    (sealSuspend s).top.state = s.top.state ∧
    (sealSuspend s).top.coreBor = s.top.coreBor ∧
    (sealSuspend s).fr.running = s.fr.running ∧
    (sealSuspend s).fr.epoch = s.fr.epoch ∧
    (sealSuspend s).pending = s.pending := by
  unfold sealSuspend; split <;> simp

@[simp] theorem sealEntry_keeps (stop : Bool) (s : State) :
    (sealEntry stop s).top.state = s.top.state ∧
    (sealEntry stop s).top.coreBor = s.top.coreBor ∧
    (sealEntry stop s).fr.running = s.fr.running ∧
    (sealEntry stop s).fr.epoch = s.fr.epoch ∧
    (sealEntry stop s).pending = s.pending := by
  simp [sealEntry]

@[simp] theorem harvestRecord_keeps (s : State) :
    (harvestRecord s).top.state = s.top.state ∧
    (harvestRecord s).top.coreBor = s.top.coreBor ∧
    (harvestRecord s).fr.running = s.fr.running ∧
    (harvestRecord s).fr.epoch = s.fr.epoch ∧
    (harvestRecord s).pending = s.pending := by
  simp [harvestRecord]

@[simp] theorem sealWord_keeps (s : State) :
    (sealWord s).top.state = s.top.state ∧
    (sealWord s).top.coreBor = s.top.coreBor ∧
    (sealWord s).fr.running = s.fr.running ∧
    (sealWord s).fr.epoch = s.fr.epoch ∧
    (sealWord s).pending = s.pending := by
  unfold sealWord; split <;> simp

@[simp] theorem dropRewrites_keeps (s : State) :
    (dropRewrites s).top.state = s.top.state ∧
    (dropRewrites s).top.coreBor = s.top.coreBor ∧
    (dropRewrites s).fr.running = s.fr.running ∧
    (dropRewrites s).fr.epoch = s.fr.epoch ∧
    (dropRewrites s).pending = s.pending := by
  simp [dropRewrites]

@[simp] theorem takeTrickle_keeps (s : State) :
    (takeTrickle s).top.state = s.top.state ∧
    (takeTrickle s).top.coreBor = s.top.coreBor ∧
    (takeTrickle s).fr.running = s.fr.running ∧
    (takeTrickle s).fr.epoch = s.fr.epoch ∧
    (takeTrickle s).pending = s.pending := by
  simp [takeTrickle]

@[simp] theorem scanOver_keeps (s : State) :
    (scanOver s).1.top.state = s.top.state ∧
    (scanOver s).1.top.coreBor = s.top.coreBor ∧
    (scanOver s).1.fr.running = s.fr.running ∧
    (scanOver s).1.fr.epoch = s.fr.epoch ∧
    (scanOver s).1.pending = s.pending := by
  unfold scanOver
  (repeat' split) <;> first
    | (simp; done)
    | (have hk := takeDone_keeps _ _ _ ‹_›; simp [hk]; done)

@[simp] theorem sealFrame_keeps (s : State) :
    (sealFrame s).top.state = s.top.state ∧
    (sealFrame s).top.coreBor = s.top.coreBor ∧
    (sealFrame s).fr.running = s.fr.running ∧
    (sealFrame s).fr.epoch = s.fr.epoch ∧
    (sealFrame s).pending = s.pending := by
  unfold sealFrame
  extract_lets
  (repeat' split) <;> first
    | (simp; done)
    | (have hq := congrArg Prod.fst ‹_ = (_, _)›; dsimp only at hq; subst hq; dsimp only; (repeat' split) <;> simp)

@[simp] theorem sealStatus_keeps (t : Nat) (page : Nat) (pass : Bool) (s : State) :
    (sealStatus t page pass s).top.state = s.top.state ∧
    (sealStatus t page pass s).top.coreBor = s.top.coreBor ∧
    (sealStatus t page pass s).fr.running = s.fr.running ∧
    (sealStatus t page pass s).fr.epoch = s.fr.epoch ∧
    (sealStatus t page pass s).pending = s.pending := by
  unfold sealStatus; split <;> simp

@[simp] theorem programStatus_keeps (t : Nat) (page : Nat) (pass : Bool) (s : State) :
    (programStatus t page pass s).top.state = s.top.state ∧
    (programStatus t page pass s).top.coreBor = s.top.coreBor ∧
    (programStatus t page pass s).fr.running = s.fr.running ∧
    (programStatus t page pass s).fr.epoch = s.fr.epoch ∧
    (programStatus t page pass s).pending = s.pending := by
  simp [programStatus]

@[simp] theorem sealFails_keeps (s : State) :
    (sealFails s).top.state = s.top.state ∧
    (sealFails s).top.coreBor = s.top.coreBor ∧
    (sealFails s).fr.running = s.fr.running ∧
    (sealFails s).fr.epoch = s.fr.epoch ∧
    (sealFails s).pending = s.pending := by
  simp [sealFails]

@[simp] theorem sealDone_keeps (s : State) :
    (sealDone s).top.state = s.top.state ∧
    (sealDone s).top.coreBor = s.top.coreBor ∧
    (sealDone s).fr.running = s.fr.running ∧
    (sealDone s).fr.epoch = s.fr.epoch ∧
    (sealDone s).pending = s.pending := by
  simp [sealDone]

@[simp] theorem cellSaved_keeps (l : Nat) (s : State) :
    (cellSaved l s).top.state = s.top.state ∧
    (cellSaved l s).top.coreBor = s.top.coreBor ∧
    (cellSaved l s).fr.running = s.fr.running ∧
    (cellSaved l s).fr.epoch = s.fr.epoch ∧
    (cellSaved l s).pending = s.pending := by
  simp only [cellSaved]; (repeat' split) <;> simp

@[simp] theorem trickleFill_keeps : ∀ (n : Nat) (s : State),
    (trickleFill n s).top.state = s.top.state ∧
    (trickleFill n s).top.coreBor = s.top.coreBor ∧
    (trickleFill n s).fr.running = s.fr.running ∧
    (trickleFill n s).fr.epoch = s.fr.epoch ∧
    (trickleFill n s).pending = s.pending
  | 0, _ => by simp [trickleFill]
  | n + 1, s => by
    unfold trickleFill
    split <;> simp [trickleFill_keeps n]

@[simp] theorem trickleOpen_keeps (s : State) :
    (trickleOpen s).top.state = s.top.state ∧
    (trickleOpen s).top.coreBor = s.top.coreBor ∧
    (trickleOpen s).fr.running = s.fr.running ∧
    (trickleOpen s).fr.epoch = s.fr.epoch ∧
    (trickleOpen s).pending = s.pending := by
  simp [trickleOpen]

@[simp] theorem trickleEnd_keeps (l : Nat) (s : State) :
    (trickleEnd l s).top.state = s.top.state ∧
    (trickleEnd l s).top.coreBor = s.top.coreBor ∧
    (trickleEnd l s).fr.running = s.fr.running ∧
    (trickleEnd l s).fr.epoch = s.fr.epoch ∧
    (trickleEnd l s).pending = s.pending := by
  simp only [trickleEnd]; split <;> simp

@[simp] theorem lanesClose_keeps (s : State) :
    (lanesClose s).top.state = s.top.state ∧
    (lanesClose s).top.coreBor = s.top.coreBor ∧
    (lanesClose s).fr.running = s.fr.running ∧
    (lanesClose s).fr.epoch = s.fr.epoch ∧
    (lanesClose s).pending = s.pending := by
  simp [lanesClose]

@[simp] theorem cryptBoundary_keeps (s : State) :
    (cryptBoundary s).top.state = s.top.state ∧
    (cryptBoundary s).top.coreBor = s.top.coreBor ∧
    (cryptBoundary s).fr.running = s.fr.running ∧
    (cryptBoundary s).fr.epoch = s.fr.epoch ∧
    (cryptBoundary s).pending = s.pending := by
  simp [cryptBoundary]

end Sys2Proof.Machine
end

