-- ==== Sys2Proof/Laws/KeepsReturn.lean ====
section
/-! SUPPORT. What the definitions of Machine/Return.lean leave alone: the state, a Core BOR, the frame generator, EPOCH and
the queue. -/

namespace Sys2Proof.Machine

@[simp] theorem retPhase_keeps (n : Nat) (s : State) :
    (retPhase n s).top.state = s.top.state ∧
    (retPhase n s).top.coreBor = s.top.coreBor ∧
    (retPhase n s).fr.running = s.fr.running ∧
    (retPhase n s).fr.epoch = s.fr.epoch ∧
    (retPhase n s).pending = s.pending := by
  simp [retPhase]

@[simp] theorem recordLost_keeps (r : CellRun) (cause : Nat) (id : Nat) (s : State) :
    (recordLost r cause id s).top.state = s.top.state ∧
    (recordLost r cause id s).top.coreBor = s.top.coreBor ∧
    (recordLost r cause id s).fr.running = s.fr.running ∧
    (recordLost r cause id s).fr.epoch = s.fr.epoch ∧
    (recordLost r cause id s).pending = s.pending := by
  simp only [recordLost]; (repeat' split) <;> simp

@[simp] theorem modCell_keeps (c : Nat) (f : RCell → RCell) (s : State) :
    (modCell c f s).top.state = s.top.state ∧
    (modCell c f s).top.coreBor = s.top.coreBor ∧
    (modCell c f s).fr.running = s.fr.running ∧
    (modCell c f s).fr.epoch = s.fr.epoch ∧
    (modCell c f s).pending = s.pending := by
  simp [modCell]

@[simp] theorem postRestored_keeps (flags : Nat) (n : Tenant → Nat) (s : State) :
    (postRestored flags n s).top.state = s.top.state ∧
    (postRestored flags n s).top.coreBor = s.top.coreBor ∧
    (postRestored flags n s).fr.running = s.fr.running ∧
    (postRestored flags n s).fr.epoch = s.fr.epoch ∧
    (postRestored flags n s).pending = s.pending := by
  simp [postRestored]

@[simp] theorem criticalCheck_keeps (s : State) :
    (criticalCheck s).top.state = s.top.state ∧
    (criticalCheck s).top.coreBor = s.top.coreBor ∧
    (criticalCheck s).fr.running = s.fr.running ∧
    (criticalCheck s).fr.epoch = s.fr.epoch ∧
    (criticalCheck s).pending = s.pending := by
  simp [criticalCheck]

@[simp] theorem resolved_keeps (c : Nat) (s : State) :
    (resolved c s).top.state = s.top.state ∧
    (resolved c s).top.coreBor = s.top.coreBor ∧
    (resolved c s).fr.running = s.fr.running ∧
    (resolved c s).fr.epoch = s.fr.epoch ∧
    (resolved c s).pending = s.pending := by
  simp [resolved]

@[simp] theorem markLost_keeps (c : Nat) (s : State) :
    (markLost c s).top.state = s.top.state ∧
    (markLost c s).top.coreBor = s.top.coreBor ∧
    (markLost c s).fr.running = s.fr.running ∧
    (markLost c s).fr.epoch = s.fr.epoch ∧
    (markLost c s).pending = s.pending := by
  unfold markLost; split <;> simp

@[simp] theorem loseCell_keeps (c : Nat) (s : State) :
    (loseCell c s).top.state = s.top.state ∧
    (loseCell c s).top.coreBor = s.top.coreBor ∧
    (loseCell c s).fr.running = s.fr.running ∧
    (loseCell c s).fr.epoch = s.fr.epoch ∧
    (loseCell c s).pending = s.pending := by
  simp [loseCell]

@[simp] theorem settleLanes_keeps (s : State) :
    (settleLanes s).top.state = s.top.state ∧
    (settleLanes s).top.coreBor = s.top.coreBor ∧
    (settleLanes s).fr.running = s.fr.running ∧
    (settleLanes s).fr.epoch = s.fr.epoch ∧
    (settleLanes s).pending = s.pending := by
  simp [settleLanes]

@[simp] theorem returnBegin_keeps (pending : List Nat) (s : State) :
    (returnBegin pending s).top.state = s.top.state ∧
    (returnBegin pending s).top.coreBor = s.top.coreBor ∧
    (returnBegin pending s).fr.running = s.fr.running ∧
    (returnBegin pending s).fr.epoch = s.fr.epoch ∧
    (returnBegin pending s).pending = s.pending := by
  simp [returnBegin]

@[simp] theorem enterRun_keeps (id : Nat) (r : CellRun) (s : State) :
    (enterRun id r s).top.state = s.top.state ∧
    (enterRun id r s).top.coreBor = s.top.coreBor ∧
    (enterRun id r s).fr.running = s.fr.running ∧
    (enterRun id r s).fr.epoch = s.fr.epoch ∧
    (enterRun id r s).pending = s.pending := by
  simp [enterRun]

@[simp] theorem verifyDone_keeps (v : VerifyIn) (s : State) :
    (verifyDone v s).top.state = s.top.state ∧
    (verifyDone v s).top.coreBor = s.top.coreBor ∧
    (verifyDone v s).fr.running = s.fr.running ∧
    (verifyDone v s).fr.epoch = s.fr.epoch ∧
    (verifyDone v s).pending = s.pending := by
  unfold verifyDone; (repeat' split) <;> simp

@[simp] theorem locate_keeps (key : Nat) (f : Footer) (s : State) :
    (locate key f s).2.top.state = s.top.state ∧
    (locate key f s).2.top.coreBor = s.top.coreBor ∧
    (locate key f s).2.fr.running = s.fr.running ∧
    (locate key f s).2.fr.epoch = s.fr.epoch ∧
    (locate key f s).2.pending = s.pending := by
  simp only [locate]; (repeat' split) <;> simp

@[simp] theorem recordFooter_keeps (id : Nat) (lane : Nat) (h : CombHdr) (f : Footer) (s : State) :
    (recordFooter id lane h f s).top.state = s.top.state ∧
    (recordFooter id lane h f s).top.coreBor = s.top.coreBor ∧
    (recordFooter id lane h f s).fr.running = s.fr.running ∧
    (recordFooter id lane h f s).fr.epoch = s.fr.epoch ∧
    (recordFooter id lane h f s).pending = s.pending := by
  unfold recordFooter; split <;> simp

@[simp] theorem sweepClose_keeps (s : State) :
    (sweepClose s).top.state = s.top.state ∧
    (sweepClose s).top.coreBor = s.top.coreBor ∧
    (sweepClose s).fr.running = s.fr.running ∧
    (sweepClose s).fr.epoch = s.fr.epoch ∧
    (sweepClose s).pending = s.pending := by
  simp [sweepClose]

@[simp] theorem sweepUnit_keeps (l : Nat) (fs : List Footer) (s : State) :
    (sweepUnit l fs s).top.state = s.top.state ∧
    (sweepUnit l fs s).top.coreBor = s.top.coreBor ∧
    (sweepUnit l fs s).fr.running = s.fr.running ∧
    (sweepUnit l fs s).fr.epoch = s.fr.epoch ∧
    (sweepUnit l fs s).pending = s.pending := by
  unfold sweepUnit; (repeat' split) <;> simp

@[simp] theorem waitGntBegin_keeps (s : State) :
    (waitGntBegin s).top.state = s.top.state ∧
    (waitGntBegin s).top.coreBor = s.top.coreBor ∧
    (waitGntBegin s).fr.running = s.fr.running ∧
    (waitGntBegin s).fr.epoch = s.fr.epoch ∧
    (waitGntBegin s).pending = s.pending := by
  simp [waitGntBegin]

@[simp] theorem pageRead_keeps (p : PageRead) (s : State) :
    (pageRead p s).top.state = s.top.state ∧
    (pageRead p s).top.coreBor = s.top.coreBor ∧
    (pageRead p s).fr.running = s.fr.running ∧
    (pageRead p s).fr.epoch = s.fr.epoch ∧
    (pageRead p s).pending = s.pending := by
  unfold pageRead; split <;> simp

@[simp] theorem cellRestored_keeps (l : Nat) (s : State) :
    (cellRestored l s).top.state = s.top.state ∧
    (cellRestored l s).top.coreBor = s.top.coreBor ∧
    (cellRestored l s).fr.running = s.fr.running ∧
    (cellRestored l s).fr.epoch = s.fr.epoch ∧
    (cellRestored l s).pending = s.pending := by
  simp only [cellRestored]; (repeat' split) <;> simp

@[simp] theorem criticalBegin_keeps (s : State) :
    (criticalBegin s).top.state = s.top.state ∧
    (criticalBegin s).top.coreBor = s.top.coreBor ∧
    (criticalBegin s).fr.running = s.fr.running ∧
    (criticalBegin s).fr.epoch = s.fr.epoch ∧
    (criticalBegin s).pending = s.pending := by
  simp [criticalBegin]

@[simp] theorem bulkClose_keeps (s : State) :
    (bulkClose s).top.state = s.top.state ∧
    (bulkClose s).top.coreBor = s.top.coreBor ∧
    (bulkClose s).fr.running = s.fr.running ∧
    (bulkClose s).fr.epoch = s.fr.epoch ∧
    (bulkClose s).pending = s.pending := by
  simp [bulkClose]

@[simp] theorem postCoarse_keeps (l : Lost) (s : State) :
    (postCoarse l s).top.state = s.top.state ∧
    (postCoarse l s).top.coreBor = s.top.coreBor ∧
    (postCoarse l s).fr.running = s.fr.running ∧
    (postCoarse l s).fr.epoch = s.fr.epoch ∧
    (postCoarse l s).pending = s.pending := by
  simp [postCoarse]

@[simp] theorem coarseClean_keeps (ps : Nat → Bool) (l : Lost) (s : State) :
    (coarseClean ps l s).top.state = s.top.state ∧
    (coarseClean ps l s).top.coreBor = s.top.coreBor ∧
    (coarseClean ps l s).fr.running = s.fr.running ∧
    (coarseClean ps l s).fr.epoch = s.fr.epoch ∧
    (coarseClean ps l s).pending = s.pending := by
  simp [coarseClean]

@[simp] theorem coarseLost_keeps (ps : Nat → Bool) (s : State) :
    (coarseLost ps s).top.state = s.top.state ∧
    (coarseLost ps s).top.coreBor = s.top.coreBor ∧
    (coarseLost ps s).fr.running = s.fr.running ∧
    (coarseLost ps s).fr.epoch = s.fr.epoch ∧
    (coarseLost ps s).pending = s.pending := by
  simp [coarseLost]

@[simp] theorem sealBad_keeps (s : State) :
    (sealBad s).top.state = s.top.state ∧
    (sealBad s).top.coreBor = s.top.coreBor ∧
    (sealBad s).fr.running = s.fr.running ∧
    (sealBad s).fr.epoch = s.fr.epoch ∧
    (sealBad s).pending = s.pending := by
  simp [sealBad]

@[simp] theorem doneBegin_keeps (s : State) :
    (doneBegin s).top.state = s.top.state ∧
    (doneBegin s).top.coreBor = s.top.coreBor ∧
    (doneBegin s).fr.running = s.fr.running ∧
    (doneBegin s).fr.epoch = s.fr.epoch ∧
    (doneBegin s).pending = s.pending := by
  simp [doneBegin]

@[simp] theorem demandTake_keeps (s : State) :
    (demandTake s).top.state = s.top.state ∧
    (demandTake s).top.coreBor = s.top.coreBor ∧
    (demandTake s).fr.running = s.fr.running ∧
    (demandTake s).fr.epoch = s.fr.epoch ∧
    (demandTake s).pending = s.pending := by
  simp (disch := (intros; (repeat' split) <;> try simp)) [demandTake]

@[simp] theorem sweepCharge_keeps (s : State) :
    (sweepCharge s).top.state = s.top.state ∧
    (sweepCharge s).top.coreBor = s.top.coreBor ∧
    (sweepCharge s).fr.running = s.fr.running ∧
    (sweepCharge s).fr.epoch = s.fr.epoch ∧
    (sweepCharge s).pending = s.pending := by
  simp (disch := (intros; (repeat' split) <;> try simp)) [sweepCharge]

@[simp] theorem restoreCharge_keeps (s : State) :
    (restoreCharge s).top.state = s.top.state ∧
    (restoreCharge s).top.coreBor = s.top.coreBor ∧
    (restoreCharge s).fr.running = s.fr.running ∧
    (restoreCharge s).fr.epoch = s.fr.epoch ∧
    (restoreCharge s).pending = s.pending := by
  unfold restoreCharge
  refine ⟨foldl_state _ ?_ _ _, foldl_coreBor _ ?_ _ _, foldl_running _ ?_ _ _, foldl_epoch _ ?_ _ _, foldl_pending _ ?_ _ _⟩ <;>
    intros <;> (repeat' split) <;> simp

@[simp] theorem returnFrame_keeps (s : State) :
    (returnFrame s).top.state = s.top.state ∧
    (returnFrame s).top.coreBor = s.top.coreBor ∧
    (returnFrame s).fr.running = s.fr.running ∧
    (returnFrame s).fr.epoch = s.fr.epoch ∧
    (returnFrame s).pending = s.pending := by
  simp [returnFrame]

@[simp] theorem unserve_keeps (s : State) :
    (unserve s).top.state = s.top.state ∧
    (unserve s).top.coreBor = s.top.coreBor ∧
    (unserve s).fr.running = s.fr.running ∧
    (unserve s).fr.epoch = s.fr.epoch ∧
    (unserve s).pending = s.pending := by
  unfold unserve
  generalize s.ret.demands = ds
  induction ds with
  | nil => simp
  | cons d ds ih => simpa using ih

@[simp] theorem returnStops_keeps (stop : Bool) (s : State) :
    (returnStops stop s).top.state = s.top.state ∧
    (returnStops stop s).top.coreBor = s.top.coreBor ∧
    (returnStops stop s).fr.running = s.fr.running ∧
    (returnStops stop s).fr.epoch = s.fr.epoch ∧
    (returnStops stop s).pending = s.pending := by
  simp [returnStops]

@[simp] theorem endDone_keeps (id : Nat) (s : State) :
    (endDone id s).top.state = s.top.state ∧
    (endDone id s).top.coreBor = s.top.coreBor ∧
    (endDone id s).fr.running = s.fr.running ∧
    (endDone id s).fr.epoch = s.fr.epoch ∧
    (endDone id s).pending = s.pending := by
  simp [endDone]

@[simp] theorem endFails_keeps (id : Nat) (s : State) :
    (endFails id s).top.state = s.top.state ∧
    (endFails id s).top.coreBor = s.top.coreBor ∧
    (endFails id s).fr.running = s.fr.running ∧
    (endFails id s).fr.epoch = s.fr.epoch ∧
    (endFails id s).pending = s.pending := by
  simp [endFails]

@[simp] theorem endRetry_keeps (okA : Bool) (okB : Bool) (s : State) :
    (endRetry okA okB s).top.state = s.top.state ∧
    (endRetry okA okB s).top.coreBor = s.top.coreBor ∧
    (endRetry okA okB s).fr.running = s.fr.running ∧
    (endRetry okA okB s).fr.epoch = s.fr.epoch ∧
    (endRetry okA okB s).pending = s.pending := by
  unfold endRetry; (repeat' split) <;> simp

end Sys2Proof.Machine
end

