-- ==== Sys2Proof/Laws/KeepsRegs.lean ====
section
/-! SUPPORT. What the definitions of Machine/Regs.lean leave alone: the state, a Core BOR, the frame generator, EPOCH and
the queue. -/

namespace Sys2Proof.Machine

@[simp] theorem rcClear_keeps (tid : Nat) (idx : Nat) (w : Nat) (s : State) :
    (rcClear tid idx w s).top.state = s.top.state ∧
    (rcClear tid idx w s).top.coreBor = s.top.coreBor ∧
    (rcClear tid idx w s).fr.running = s.fr.running ∧
    (rcClear tid idx w s).fr.epoch = s.fr.epoch ∧
    (rcClear tid idx w s).pending = s.pending := by
  simp [rcClear]

end Sys2Proof.Machine
end

