-- ==== Sys2Proof/Laws/KeepsFields.lean ====
section
/-! SUPPORT. What the definitions of Machine/Fields.lean leave alone: the state, a Core BOR, the frame generator, EPOCH and
the queue. -/

namespace Sys2Proof.Machine

@[simp] theorem putField_keeps (image : Bool) (idx : Nat) (s : State) (p : Piece) :
    (putField image idx s p).top.state = s.top.state ∧
    (putField image idx s p).top.coreBor = s.top.coreBor ∧
    (putField image idx s p).fr.running = s.fr.running ∧
    (putField image idx s p).fr.epoch = s.fr.epoch ∧
    (putField image idx s p).pending = s.pending := by
  simp [putField]

@[simp] theorem putPieces_keeps (image : Bool) (idx : Nat) (ps : List Piece) (s : State) :
    (putPieces image idx ps s).1.top.state = s.top.state ∧
    (putPieces image idx ps s).1.top.coreBor = s.top.coreBor ∧
    (putPieces image idx ps s).1.fr.running = s.fr.running ∧
    (putPieces image idx ps s).1.fr.epoch = s.fr.epoch ∧
    (putPieces image idx ps s).1.pending = s.pending := by
  simp [putPieces]

@[simp] theorem writeReg_keeps (off : Nat) (data : Word) (mask : Word) (s : State) :
    (writeReg off data mask s).top.state = s.top.state ∧
    (writeReg off data mask s).top.coreBor = s.top.coreBor ∧
    (writeReg off data mask s).fr.running = s.fr.running ∧
    (writeReg off data mask s).fr.epoch = s.fr.epoch ∧
    (writeReg off data mask s).pending = s.pending := by
  simp [writeReg]

@[simp] theorem storeMark_keeps (k : Nat) (s : State) :
    (storeMark k s).top.state = s.top.state ∧
    (storeMark k s).top.coreBor = s.top.coreBor ∧
    (storeMark k s).fr.running = s.fr.running ∧
    (storeMark k s).fr.epoch = s.fr.epoch ∧
    (storeMark k s).pending = s.pending := by
  simp [storeMark]

@[simp] theorem storeWrite_keeps (tid : Nat) (idx : Nat) (w : Nat) (be : ByteEn) (s : State) :
    (storeWrite tid idx w be s).2.top.state = s.top.state ∧
    (storeWrite tid idx w be s).2.top.coreBor = s.top.coreBor ∧
    (storeWrite tid idx w be s).2.fr.running = s.fr.running ∧
    (storeWrite tid idx w be s).2.fr.epoch = s.fr.epoch ∧
    (storeWrite tid idx w be s).2.pending = s.pending := by
  simp [storeWrite]

@[simp] theorem wordEffects_keeps (tid : Nat) (idx : Nat) (w : Nat) (data : Word) (mask : Word) (s : State) :
    (wordEffects tid idx w data mask s).top.state = s.top.state ∧
    (wordEffects tid idx w data mask s).top.coreBor = s.top.coreBor ∧
    (wordEffects tid idx w data mask s).fr.running = s.fr.running ∧
    (wordEffects tid idx w data mask s).fr.epoch = s.fr.epoch ∧
    (wordEffects tid idx w data mask s).pending = s.pending := by
  simp [wordEffects]

@[simp] theorem stageWord_keeps (idx : Nat) (data : Word) (mask : Word) (s : State) :
    (stageWord idx data mask s).top.state = s.top.state ∧
    (stageWord idx data mask s).top.coreBor = s.top.coreBor ∧
    (stageWord idx data mask s).fr.running = s.fr.running ∧
    (stageWord idx data mask s).fr.epoch = s.fr.epoch ∧
    (stageWord idx data mask s).pending = s.pending := by
  simp [stageWord]

theorem foldl_snd_state {α β : Type} (f : α × State → β → α × State) (h : ∀ a x, (f a x).2.top.state = a.2.top.state) :
    ∀ (l : List β) (a : α × State), (l.foldl f a).2.top.state = a.2.top.state
  | [], _ => rfl
  | x :: l, a => (foldl_snd_state f h l (f a x)).trans (h a x)

theorem foldl_snd_coreBor {α β : Type} (f : α × State → β → α × State) (h : ∀ a x, (f a x).2.top.coreBor = a.2.top.coreBor) :
    ∀ (l : List β) (a : α × State), (l.foldl f a).2.top.coreBor = a.2.top.coreBor
  | [], _ => rfl
  | x :: l, a => (foldl_snd_coreBor f h l (f a x)).trans (h a x)

theorem foldl_snd_running {α β : Type} (f : α × State → β → α × State) (h : ∀ a x, (f a x).2.fr.running = a.2.fr.running) :
    ∀ (l : List β) (a : α × State), (l.foldl f a).2.fr.running = a.2.fr.running
  | [], _ => rfl
  | x :: l, a => (foldl_snd_running f h l (f a x)).trans (h a x)

theorem foldl_snd_epoch {α β : Type} (f : α × State → β → α × State) (h : ∀ a x, (f a x).2.fr.epoch = a.2.fr.epoch) :
    ∀ (l : List β) (a : α × State), (l.foldl f a).2.fr.epoch = a.2.fr.epoch
  | [], _ => rfl
  | x :: l, a => (foldl_snd_epoch f h l (f a x)).trans (h a x)

theorem foldl_snd_pending {α β : Type} (f : α × State → β → α × State) (h : ∀ a x, (f a x).2.pending = a.2.pending) :
    ∀ (l : List β) (a : α × State), (l.foldl f a).2.pending = a.2.pending
  | [], _ => rfl
  | x :: l, a => (foldl_snd_pending f h l (f a x)).trans (h a x)

@[simp] theorem commitEntry_keeps (tid : Nat) (idx : Nat) (ws : List (Word × ByteEn)) (s : State) :
    (commitEntry tid idx ws s).top.state = s.top.state ∧
    (commitEntry tid idx ws s).top.coreBor = s.top.coreBor ∧
    (commitEntry tid idx ws s).fr.running = s.fr.running ∧
    (commitEntry tid idx ws s).fr.epoch = s.fr.epoch ∧
    (commitEntry tid idx ws s).pending = s.pending := by
  unfold commitEntry
  extract_lets step r ps ok ok1 s1 s2 s3
  have hr : r.2.top.state = s.top.state ∧ r.2.top.coreBor = s.top.coreBor ∧ r.2.fr.running = s.fr.running ∧
      r.2.fr.epoch = s.fr.epoch ∧ r.2.pending = s.pending := by
    refine ⟨foldl_snd_state _ ?_ _ _, foldl_snd_coreBor _ ?_ _ _, foldl_snd_running _ ?_ _ _, foldl_snd_epoch _ ?_ _ _,
      foldl_snd_pending _ ?_ _ _⟩ <;> intro a x <;> dsimp only [step] <;> split <;> simp
  clear_value r
  split
  · simp [hr]
  · simp [s3, s2, s1, hr]

end Sys2Proof.Machine
end

