-- ==== Sys2Proof/Laws/KeepsTables.lean ====
section
/-! SUPPORT. What the definitions of Machine/Tables.lean leave alone: the state, a Core BOR, the frame generator, EPOCH and
the queue. -/

namespace Sys2Proof.Machine

@[simp] theorem logRead_keeps (p : Nat × Record) (y : Bool) (s : State) :
    (logRead p y s).2.top.state = s.top.state ∧
    (logRead p y s).2.top.coreBor = s.top.coreBor ∧
    (logRead p y s).2.fr.running = s.fr.running ∧
    (logRead p y s).2.fr.epoch = s.fr.epoch ∧
    (logRead p y s).2.pending = s.pending := by
  unfold logRead
  extract_lets
  (repeat' split) <;> first
    | (simp; done)
    | (have hq := congrArg Prod.snd ‹_ = (_, _)›; dsimp only at hq; subst hq; simp; done)
    | (have hq := congrArg Prod.fst ‹_ = (_, _)›; dsimp only at hq; subst hq; simp; done)

@[simp] theorem logFetch_keeps (idx : Nat) (s : State) :
    (logFetch idx s).2.top.state = s.top.state ∧
    (logFetch idx s).2.top.coreBor = s.top.coreBor ∧
    (logFetch idx s).2.fr.running = s.fr.running ∧
    (logFetch idx s).2.fr.epoch = s.fr.epoch ∧
    (logFetch idx s).2.pending = s.pending := by
  simp only [logFetch]; (repeat' split) <;> simp

@[simp] theorem modLost_keeps (i : Nat) (f : Lost → Lost) (s : State) :
    (modLost i f s).top.state = s.top.state ∧
    (modLost i f s).top.coreBor = s.top.coreBor ∧
    (modLost i f s).fr.running = s.fr.running ∧
    (modLost i f s).fr.epoch = s.fr.epoch ∧
    (modLost i f s).pending = s.pending := by
  simp [modLost]

@[simp] theorem storeRead_keeps (tid : Nat) (idx : Nat) (w : Nat) (s : State) :
    (storeRead tid idx w s).2.top.state = s.top.state ∧
    (storeRead tid idx w s).2.top.coreBor = s.top.coreBor ∧
    (storeRead tid idx w s).2.fr.running = s.fr.running ∧
    (storeRead tid idx w s).2.fr.epoch = s.fr.epoch ∧
    (storeRead tid idx w s).2.pending = s.pending := by
  unfold storeRead; (repeat' split) <;> simp

@[simp] theorem entryFetch_keeps (hi : BitVec 16) (tid : Nat) (idx : Nat) (s : State) :
    (entryFetch hi tid idx s).2.top.state = s.top.state ∧
    (entryFetch hi tid idx s).2.top.coreBor = s.top.coreBor ∧
    (entryFetch hi tid idx s).2.fr.running = s.fr.running ∧
    (entryFetch hi tid idx s).2.fr.epoch = s.fr.epoch ∧
    (entryFetch hi tid idx s).2.pending = s.pending := by
  unfold entryFetch
  split
  · simp
  · refine ⟨foldl_snd_state _ ?_ _ _, foldl_snd_coreBor _ ?_ _ _, foldl_snd_running _ ?_ _ _, foldl_snd_epoch _ ?_ _ _,
      foldl_snd_pending _ ?_ _ _⟩ <;> intro a x <;> simp

@[simp] theorem tblFail_keeps (code : Nat) (s : State) :
    (tblFail code s).top.state = s.top.state ∧
    (tblFail code s).top.coreBor = s.top.coreBor ∧
    (tblFail code s).fr.running = s.fr.running ∧
    (tblFail code s).fr.epoch = s.fr.epoch ∧
    (tblFail code s).pending = s.pending := by
  simp [tblFail]

@[simp] theorem applyTblAddr_keeps (data : Word) (s : State) :
    (applyTblAddr data s).top.state = s.top.state ∧
    (applyTblAddr data s).top.coreBor = s.top.coreBor ∧
    (applyTblAddr data s).fr.running = s.fr.running ∧
    (applyTblAddr data s).fr.epoch = s.fr.epoch ∧
    (applyTblAddr data s).pending = s.pending := by
  simp [applyTblAddr]

@[simp] theorem latchFill_keeps (s : State) :
    (latchFill s).top.state = s.top.state ∧
    (latchFill s).top.coreBor = s.top.coreBor ∧
    (latchFill s).fr.running = s.fr.running ∧
    (latchFill s).fr.epoch = s.fr.epoch ∧
    (latchFill s).pending = s.pending := by
  simp only [latchFill]; (repeat' split) <;> simp

@[simp] theorem fetchDone_keeps (s : State) :
    (fetchDone s).top.state = s.top.state ∧
    (fetchDone s).top.coreBor = s.top.coreBor ∧
    (fetchDone s).fr.running = s.fr.running ∧
    (fetchDone s).fr.epoch = s.fr.epoch ∧
    (fetchDone s).pending = s.pending := by
  simp [fetchDone]

@[simp] theorem tblAdvance_keeps (s : State) :
    (tblAdvance s).top.state = s.top.state ∧
    (tblAdvance s).top.coreBor = s.top.coreBor ∧
    (tblAdvance s).fr.running = s.fr.running ∧
    (tblAdvance s).fr.epoch = s.fr.epoch ∧
    (tblAdvance s).pending = s.pending := by
  simp [tblAdvance]

@[simp] theorem liveWord_keeps (w : Word) (s : State) :
    (liveWord w s).2.top.state = s.top.state ∧
    (liveWord w s).2.top.coreBor = s.top.coreBor ∧
    (liveWord w s).2.fr.running = s.fr.running ∧
    (liveWord w s).2.fr.epoch = s.fr.epoch ∧
    (liveWord w s).2.pending = s.pending := by
  simp [liveWord]

@[simp] theorem readTblData_keeps (s : State) :
    (readTblData s).2.top.state = s.top.state ∧
    (readTblData s).2.top.coreBor = s.top.coreBor ∧
    (readTblData s).2.fr.running = s.fr.running ∧
    (readTblData s).2.fr.epoch = s.fr.epoch ∧
    (readTblData s).2.pending = s.pending := by
  unfold readTblData; split <;> simp

@[simp] theorem stageData_keeps (data : Word) (be : ByteEn) (s : State) :
    (stageData data be s).top.state = s.top.state ∧
    (stageData data be s).top.coreBor = s.top.coreBor ∧
    (stageData data be s).fr.running = s.fr.running ∧
    (stageData data be s).fr.epoch = s.fr.epoch ∧
    (stageData data be s).pending = s.pending := by
  simp [stageData]

@[simp] theorem applyTblData_keeps (data : Word) (be : ByteEn) (s : State) :
    (applyTblData data be s).top.state = s.top.state ∧
    (applyTblData data be s).top.coreBor = s.top.coreBor ∧
    (applyTblData data be s).fr.running = s.fr.running ∧
    (applyTblData data be s).fr.epoch = s.fr.epoch ∧
    (applyTblData data be s).pending = s.pending := by
  unfold applyTblData; split <;> simp

@[simp] theorem applyTblCtrl_keeps (data : Word) (be : ByteEn) (s : State) :
    (applyTblCtrl data be s).top.state = s.top.state ∧
    (applyTblCtrl data be s).top.coreBor = s.top.coreBor ∧
    (applyTblCtrl data be s).fr.running = s.fr.running ∧
    (applyTblCtrl data be s).fr.epoch = s.fr.epoch ∧
    (applyTblCtrl data be s).pending = s.pending := by
  simp [applyTblCtrl]

@[simp] theorem leaveTblData_keeps (data : Word) (be : ByteEn) (s : State) :
    (leaveTblData data be s).top.state = s.top.state ∧
    (leaveTblData data be s).top.coreBor = s.top.coreBor ∧
    (leaveTblData data be s).fr.running = s.fr.running ∧
    (leaveTblData data be s).fr.epoch = s.fr.epoch ∧
    (leaveTblData data be s).pending = s.pending := by
  simp [leaveTblData]

end Sys2Proof.Machine
end

