-- ==== Sys2Proof/Laws/KeepsOverlay.lean ====
section
/-! SUPPORT. What the definitions of Machine/Overlay.lean leave alone: the state, a Core BOR, the frame generator, EPOCH and
the queue. -/

namespace Sys2Proof.Machine

@[simp] theorem setRtc_keeps (v : Word) (s : State) :
    (setRtc v s).top.state = s.top.state ∧
    (setRtc v s).top.coreBor = s.top.coreBor ∧
    (setRtc v s).fr.running = s.fr.running ∧
    (setRtc v s).fr.epoch = s.fr.epoch ∧
    (setRtc v s).pending = s.pending := by
  simp [setRtc]

@[simp] theorem writeSpecial_keeps (off : Nat) (data : Word) (mask : Word) (s : State) :
    (writeSpecial off data mask s).top.state = s.top.state ∧
    (writeSpecial off data mask s).top.coreBor = s.top.coreBor ∧
    (writeSpecial off data mask s).fr.running = s.fr.running ∧
    (writeSpecial off data mask s).fr.epoch = s.fr.epoch ∧
    (writeSpecial off data mask s).pending = s.pending := by
  simp [writeSpecial]

@[simp] theorem areaErrors_keeps (img : Nat) (bankB : Bool) (s : State) :
    (areaErrors img bankB s).top.state = s.top.state ∧
    (areaErrors img bankB s).top.coreBor = s.top.coreBor ∧
    (areaErrors img bankB s).fr.running = s.fr.running ∧
    (areaErrors img bankB s).fr.epoch = s.fr.epoch ∧
    (areaErrors img bankB s).pending = s.pending := by
  simp [areaErrors]

@[simp] theorem stageLoad_keeps (img : Nat) (s : State) :
    (stageLoad img s).top.state = s.top.state ∧
    (stageLoad img s).top.coreBor = s.top.coreBor ∧
    (stageLoad img s).fr.running = s.fr.running ∧
    (stageLoad img s).fr.epoch = s.fr.epoch ∧
    (stageLoad img s).pending = s.pending := by
  simp [stageLoad]

@[simp] theorem imgNote_keeps (img : Nat) (s : State) :
    (imgNote img s).top.state = s.top.state ∧
    (imgNote img s).top.coreBor = s.top.coreBor ∧
    (imgNote img s).fr.running = s.fr.running ∧
    (imgNote img s).fr.epoch = s.fr.epoch ∧
    (imgNote img s).pending = s.pending := by
  simp [imgNote]

@[simp] theorem regHook_keeps (off : Nat) (mask : Word) (s : State) :
    (regHook off mask s).top.state = s.top.state ∧
    (regHook off mask s).top.coreBor = s.top.coreBor ∧
    (regHook off mask s).fr.running = s.fr.running ∧
    (regHook off mask s).fr.epoch = s.fr.epoch ∧
    (regHook off mask s).pending = s.pending := by
  simp [regHook]

@[simp] theorem applyRec_keeps (s : State) (r : ImgRec) :
    (applyRec s r).top.state = s.top.state ∧
    (applyRec s r).top.coreBor = s.top.coreBor ∧
    (applyRec s r).fr.running = s.fr.running ∧
    (applyRec s r).fr.epoch = s.fr.epoch ∧
    (applyRec s r).pending = s.pending := by
  simp [applyRec]

@[simp] theorem revertRec_keeps (s : State) (r : ImgRec) :
    (revertRec s r).top.state = s.top.state ∧
    (revertRec s r).top.coreBor = s.top.coreBor ∧
    (revertRec s r).fr.running = s.fr.running ∧
    (revertRec s r).fr.epoch = s.fr.epoch ∧
    (revertRec s r).pending = s.pending := by
  simp [revertRec]

@[simp] theorem enterOverlay_keeps (st : DevState) (s : State) :
    (enterOverlay st s).top.state = s.top.state ∧
    (enterOverlay st s).top.coreBor = s.top.coreBor ∧
    (enterOverlay st s).fr.running = s.fr.running ∧
    (enterOverlay st s).fr.epoch = s.fr.epoch ∧
    (enterOverlay st s).pending = s.pending := by
  unfold enterOverlay; split <;> simp

@[simp] theorem aonOverlay_keeps (s : State) :
    (aonOverlay s).top.state = s.top.state ∧
    (aonOverlay s).top.coreBor = s.top.coreBor ∧
    (aonOverlay s).fr.running = s.fr.running ∧
    (aonOverlay s).fr.epoch = s.fr.epoch ∧
    (aonOverlay s).pending = s.pending := by
  simp [aonOverlay]

@[simp] theorem confReset_keeps (s : State) :
    (confReset s).top.state = s.top.state ∧
    (confReset s).top.coreBor = s.top.coreBor ∧
    (confReset s).fr.running = s.fr.running ∧
    (confReset s).fr.epoch = s.fr.epoch ∧
    (confReset s).pending = s.pending := by
  simp [confReset]

@[simp] theorem ringsQuiet_keeps (s : State) :
    (ringsQuiet s).top.state = s.top.state ∧
    (ringsQuiet s).top.coreBor = s.top.coreBor ∧
    (ringsQuiet s).fr.running = s.fr.running ∧
    (ringsQuiet s).fr.epoch = s.fr.epoch ∧
    (ringsQuiet s).pending = s.pending := by
  simp [ringsQuiet]

@[simp] theorem baseLoad_keeps (s : State) :
    (baseLoad s).top.state = s.top.state ∧
    (baseLoad s).top.coreBor = s.top.coreBor ∧
    (baseLoad s).fr.running = s.fr.running ∧
    (baseLoad s).fr.epoch = s.fr.epoch ∧
    (baseLoad s).pending = s.pending := by
  simp [baseLoad]

@[simp] theorem pfCheck_keeps (s : State) :
    (pfCheck s).top.state = s.top.state ∧
    (pfCheck s).top.coreBor = s.top.coreBor ∧
    (pfCheck s).fr.running = s.fr.running ∧
    (pfCheck s).fr.epoch = s.fr.epoch ∧
    (pfCheck s).pending = s.pending := by
  simp [pfCheck]

@[simp] theorem ringCheck_keeps (s : State) :
    (ringCheck s).top.state = s.top.state ∧
    (ringCheck s).top.coreBor = s.top.coreBor ∧
    (ringCheck s).fr.running = s.fr.running ∧
    (ringCheck s).fr.epoch = s.fr.epoch ∧
    (ringCheck s).pending = s.pending := by
  unfold ringCheck; (repeat' split) <;> simp

@[simp] theorem commitStart_keeps (s : State) :
    (commitStart s).top.state = s.top.state ∧
    (commitStart s).top.coreBor = s.top.coreBor ∧
    (commitStart s).fr.running = s.fr.running ∧
    (commitStart s).fr.epoch = s.fr.epoch ∧
    (commitStart s).pending = s.pending := by
  simp [commitStart]

@[simp] theorem commitEnd_keeps (img : Nat) (s : State) :
    (commitEnd img s).top.state = s.top.state ∧
    (commitEnd img s).top.coreBor = s.top.coreBor ∧
    (commitEnd img s).fr.running = s.fr.running ∧
    (commitEnd img s).fr.epoch = s.fr.epoch ∧
    (commitEnd img s).pending = s.pending := by
  simp [commitEnd]

@[simp] theorem overlayCommit_keeps (s : State) :
    (overlayCommit s).top.state = s.top.state ∧
    (overlayCommit s).top.coreBor = s.top.coreBor ∧
    (overlayCommit s).fr.running = s.fr.running ∧
    (overlayCommit s).fr.epoch = s.fr.epoch ∧
    (overlayCommit s).pending = s.pending := by
  simp [overlayCommit]

@[simp] theorem applyOverlaySel_keeps (data : Word) (be : ByteEn) (s : State) :
    (applyOverlaySel data be s).top.state = s.top.state ∧
    (applyOverlaySel data be s).top.coreBor = s.top.coreBor ∧
    (applyOverlaySel data be s).fr.running = s.fr.running ∧
    (applyOverlaySel data be s).fr.epoch = s.fr.epoch ∧
    (applyOverlaySel data be s).pending = s.pending := by
  simp [applyOverlaySel]

end Sys2Proof.Machine
end

