-- ==== Sys2Proof/Laws/KeepsWake.lean ====
section
/-! SUPPORT. What the definitions of Machine/Wake.lean leave alone: the state, a Core BOR, the frame generator, EPOCH and
the queue. -/

namespace Sys2Proof.Machine

@[simp] theorem retire_keeps (sec : Nat) (s : State) :
    (retire sec s).top.state = s.top.state ∧
    (retire sec s).top.coreBor = s.top.coreBor ∧
    (retire sec s).fr.running = s.fr.running ∧
    (retire sec s).fr.epoch = s.fr.epoch ∧
    (retire sec s).pending = s.pending := by
  simp [retire]

@[simp] theorem eraseOk_keeps (sec : Nat) (s : State) :
    (eraseOk sec s).top.state = s.top.state ∧
    (eraseOk sec s).top.coreBor = s.top.coreBor ∧
    (eraseOk sec s).fr.running = s.fr.running ∧
    (eraseOk sec s).fr.epoch = s.fr.epoch ∧
    (eraseOk sec s).pending = s.pending := by
  simp [eraseOk]

@[simp] theorem eraseFail_keeps (sec : Nat) (s : State) :
    (eraseFail sec s).top.state = s.top.state ∧
    (eraseFail sec s).top.coreBor = s.top.coreBor ∧
    (eraseFail sec s).fr.running = s.fr.running ∧
    (eraseFail sec s).fr.epoch = s.fr.epoch ∧
    (eraseFail sec s).pending = s.pending := by
  simp [eraseFail]

@[simp] theorem scanDone_keeps (failed : List Nat) (s : State) :
    (scanDone failed s).top.state = s.top.state ∧
    (scanDone failed s).top.coreBor = s.top.coreBor ∧
    (scanDone failed s).fr.running = s.fr.running ∧
    (scanDone failed s).fr.epoch = s.fr.epoch ∧
    (scanDone failed s).pending = s.pending := by
  simp [scanDone]

@[simp] theorem fwBoot_keeps (i : ImageIn) (s : State) :
    (fwBoot i s).top.state = s.top.state ∧
    (fwBoot i s).top.coreBor = s.top.coreBor ∧
    (fwBoot i s).fr.running = s.fr.running ∧
    (fwBoot i s).fr.epoch = s.fr.epoch ∧
    (fwBoot i s).pending = s.pending := by
  simp [fwBoot]

@[simp] theorem extCheck_keeps (c : ImageCheck) (s : State) :
    (extCheck c s).top.state = s.top.state ∧
    (extCheck c s).top.coreBor = s.top.coreBor ∧
    (extCheck c s).fr.running = s.fr.running ∧
    (extCheck c s).fr.epoch = s.fr.epoch ∧
    (extCheck c s).pending = s.pending := by
  simp [extCheck]

@[simp] theorem keyWords_keeps (sec : Nat) (first : Nat) (n : Nat) (s : State) :
    (keyWords sec first n s).top.state = s.top.state ∧
    (keyWords sec first n s).top.coreBor = s.top.coreBor ∧
    (keyWords sec first n s).fr.running = s.fr.running ∧
    (keyWords sec first n s).fr.epoch = s.fr.epoch ∧
    (keyWords sec first n s).pending = s.pending := by
  simp [keyWords]

@[simp] theorem keyAppend_keeps (n : Nat) (s : State) :
    (keyAppend n s).top.state = s.top.state ∧
    (keyAppend n s).top.coreBor = s.top.coreBor ∧
    (keyAppend n s).fr.running = s.fr.running ∧
    (keyAppend n s).fr.epoch = s.fr.epoch ∧
    (keyAppend n s).pending = s.pending := by
  simp [keyAppend]

@[simp] theorem keyWake_keeps (i : ImageIn) (s : State) :
    (keyWake i s).top.state = s.top.state ∧
    (keyWake i s).top.coreBor = s.top.coreBor ∧
    (keyWake i s).fr.running = s.fr.running ∧
    (keyWake i s).fr.epoch = s.fr.epoch ∧
    (keyWake i s).pending = s.pending := by
  simp [keyWake]

@[simp] theorem epochEnd_keeps (s : State) :
    (epochEnd s).top.state = s.top.state ∧
    (epochEnd s).top.coreBor = s.top.coreBor ∧
    (epochEnd s).fr.running = s.fr.running ∧
    (epochEnd s).fr.epoch = s.fr.epoch ∧
    (epochEnd s).pending = s.pending := by
  simp [epochEnd]

@[simp] theorem logRecover_keeps (s : State) :
    (logRecover s).top.state = s.top.state ∧
    (logRecover s).top.coreBor = s.top.coreBor ∧
    (logRecover s).fr.running = s.fr.running ∧
    (logRecover s).fr.epoch = s.fr.epoch ∧
    (logRecover s).pending = s.pending := by
  simp [logRecover]

@[simp] theorem imageLoad_keeps (i : ImageIn) (s : State) :
    (imageLoad i s).top.state = s.top.state ∧
    (imageLoad i s).top.coreBor = s.top.coreBor ∧
    (imageLoad i s).fr.running = s.fr.running ∧
    (imageLoad i s).fr.epoch = s.fr.epoch ∧
    (imageLoad i s).pending = s.pending := by
  simp [imageLoad]

@[simp] theorem harvReload_keeps (headers : List Nat) (s : State) :
    (harvReload headers s).top.state = s.top.state ∧
    (harvReload headers s).top.coreBor = s.top.coreBor ∧
    (harvReload headers s).fr.running = s.fr.running ∧
    (harvReload headers s).fr.epoch = s.fr.epoch ∧
    (harvReload headers s).pending = s.pending := by
  unfold harvReload; split <;> simp

@[simp] theorem endAll_keeps (s : State) :
    (endAll s).top.state = s.top.state ∧
    (endAll s).top.coreBor = s.top.coreBor ∧
    (endAll s).fr.running = s.fr.running ∧
    (endAll s).fr.epoch = s.fr.epoch ∧
    (endAll s).pending = s.pending := by
  simp [endAll]

@[simp] theorem catalogScan_keeps (headers : List Nat) (s : State) :
    (catalogScan headers s).top.state = s.top.state ∧
    (catalogScan headers s).top.coreBor = s.top.coreBor ∧
    (catalogScan headers s).fr.running = s.fr.running ∧
    (catalogScan headers s).fr.epoch = s.fr.epoch ∧
    (catalogScan headers s).pending = s.pending := by
  simp [catalogScan]

@[simp] theorem wakeDecision_keeps (s : State) :
    (wakeDecision s).top.state = s.top.state ∧
    (wakeDecision s).top.coreBor = s.top.coreBor ∧
    (wakeDecision s).fr.running = s.fr.running ∧
    (wakeDecision s).fr.epoch = s.fr.epoch ∧
    (wakeDecision s).pending = s.pending := by
  simp [wakeDecision]

end Sys2Proof.Machine
end

