-- ==== Sys2Proof/Laws/KeepsTrans.lean ====
section
/-! SUPPORT. What the definitions of Machine/Trans.lean leave alone: the state, a Core BOR, the frame generator, EPOCH and
the queue. -/

namespace Sys2Proof.Machine

@[simp] theorem logCut_keeps (s : State) :
    (logCut s).top.state = s.top.state ∧
    (logCut s).top.coreBor = s.top.coreBor ∧
    (logCut s).fr.running = s.fr.running ∧
    (logCut s).fr.epoch = s.fr.epoch ∧
    (logCut s).pending = s.pending := by
  simp only [logCut]; split <;> simp

@[simp] theorem powerCut_keeps (s0 : State) :
    (powerCut s0).top.state = s0.top.state ∧
    (powerCut s0).top.coreBor = s0.top.coreBor ∧
    (powerCut s0).fr.running = s0.fr.running ∧
    (powerCut s0).fr.epoch = s0.fr.epoch ∧
    (powerCut s0).pending = s0.pending := by
  simp [powerCut]

@[simp] theorem softClear_keeps (s0 : State) :
    (softClear s0).top.state = s0.top.state ∧
    (softClear s0).top.coreBor = s0.top.coreBor ∧
    (softClear s0).fr.running = s0.fr.running ∧
    (softClear s0).fr.epoch = s0.fr.epoch ∧
    (softClear s0).pending = s0.pending := by
  simp [softClear]

@[simp] theorem setState_keeps (st : DevState) (ph : Phase) (s : State) :
    (setState st ph s).top.state = st ∧
    (setState st ph s).top.coreBor = s.top.coreBor ∧
    (setState st ph s).fr.running = s.fr.running ∧
    (setState st ph s).fr.epoch = s.fr.epoch ∧
    (setState st ph s).pending = s.pending := by
  simp [setState]

@[simp] theorem leaveState_keeps (s : State) :
    (leaveState s).top.state = s.top.state ∧
    (leaveState s).top.coreBor = s.top.coreBor ∧
    (leaveState s).fr.running = s.fr.running ∧
    (leaveState s).fr.epoch = s.fr.epoch ∧
    (leaveState s).pending = s.pending := by
  simp [leaveState]

@[simp] theorem enterActive_keeps (st : DevState) (ph : Phase) (s : State) :
    (enterActive st ph s).top.state = st ∧
    (enterActive st ph s).top.coreBor = s.top.coreBor ∧
    (enterActive st ph s).fr.running = s.fr.running ∧
    (enterActive st ph s).fr.epoch = s.fr.epoch ∧
    (enterActive st ph s).pending = s.pending := by
  simp [enterActive]

@[simp] theorem closeWindow_keeps (s : State) :
    (closeWindow s).top.state = s.top.state ∧
    (closeWindow s).top.coreBor = s.top.coreBor ∧
    (closeWindow s).fr.running = s.fr.running ∧
    (closeWindow s).fr.epoch = s.fr.epoch ∧
    (closeWindow s).pending = s.pending := by
  simp [closeWindow]

@[simp] theorem openWindow_keeps (wet : Bool) (pg : Bool) (tam : Bool) (s : State) :
    (openWindow wet pg tam s).top.state = s.top.state ∧
    (openWindow wet pg tam s).top.coreBor = s.top.coreBor ∧
    (openWindow wet pg tam s).fr.running = s.fr.running ∧
    (openWindow wet pg tam s).fr.epoch = s.fr.epoch ∧
    (openWindow wet pg tam s).pending = s.pending := by
  simp [openWindow]

@[simp] theorem afterWake_keeps (was : DevState) (s : State) :
    (afterWake was s).top.state = s.top.state ∧
    (afterWake was s).top.coreBor = s.top.coreBor ∧
    (afterWake was s).fr.running = s.fr.running ∧
    (afterWake was s).fr.epoch = s.fr.epoch ∧
    (afterWake was s).pending = s.pending := by
  simp [afterWake]

@[simp] theorem enterGuard_keeps (s : State) :
    (enterGuard s).top.state = .guard ∧
    (enterGuard s).top.coreBor = s.top.coreBor ∧
    (enterGuard s).fr.running = s.fr.running ∧
    (enterGuard s).fr.epoch = s.fr.epoch ∧
    (enterGuard s).pending = s.pending := by
  simp [enterGuard]

@[simp] theorem enterWatch_keeps (s : State) :
    (enterWatch s).top.state = .watch ∧
    (enterWatch s).top.coreBor = s.top.coreBor ∧
    (enterWatch s).fr.running = s.fr.running ∧
    (enterWatch s).fr.epoch = s.fr.epoch ∧
    (enterWatch s).pending = s.pending := by
  simp [enterWatch]

@[simp] theorem enterService_keeps (s : State) :
    (enterService s).top.state = .service ∧
    (enterService s).top.coreBor = s.top.coreBor ∧
    (enterService s).fr.running = s.fr.running ∧
    (enterService s).fr.epoch = s.fr.epoch ∧
    (enterService s).pending = s.pending := by
  unfold enterService; split <;> simp

@[simp] theorem enterReturn_keeps (ids : List Nat) (s : State) :
    (enterReturn ids s).top.state = .ret ∧
    (enterReturn ids s).top.coreBor = s.top.coreBor ∧
    (enterReturn ids s).fr.running = s.fr.running ∧
    (enterReturn ids s).fr.epoch = s.fr.epoch ∧
    (enterReturn ids s).pending = s.pending := by
  simp [enterReturn]

@[simp] theorem enterEarly_keeps (s : State) :
    (enterEarly s).top.state = .early ∧
    (enterEarly s).top.coreBor = s.top.coreBor ∧
    (enterEarly s).fr.running = s.fr.running ∧
    (enterEarly s).fr.epoch = s.fr.epoch ∧
    (enterEarly s).pending = s.pending := by
  simp [enterEarly]

@[simp] theorem enterHarvest_keeps (ph : Phase) (s : State) :
    (enterHarvest ph s).top.state = .harvest ∧
    (enterHarvest ph s).top.coreBor = s.top.coreBor ∧
    (enterHarvest ph s).fr.running = s.fr.running ∧
    (enterHarvest ph s).fr.epoch = s.fr.epoch ∧
    (enterHarvest ph s).pending = s.pending := by
  simp [enterHarvest]

@[simp] theorem enterDecide_keeps (s : State) :
    (enterDecide s).top.state = .harvest ∧
    (enterDecide s).top.coreBor = s.top.coreBor ∧
    (enterDecide s).fr.running = s.fr.running ∧
    (enterDecide s).fr.epoch = s.fr.epoch ∧
    (enterDecide s).pending = s.pending := by
  simp [enterDecide]

@[simp] theorem enterIsolate_keeps (wet pg tam later : Bool) (s : State) :
    (enterIsolate wet pg tam later s).top.state = .harvest ∧
    (enterIsolate wet pg tam later s).top.coreBor = s.top.coreBor ∧
    (enterIsolate wet pg tam later s).fr.running = s.fr.running ∧
    (enterIsolate wet pg tam later s).fr.epoch = s.fr.epoch ∧
    (enterIsolate wet pg tam later s).pending = s.pending := by
  unfold enterIsolate; extract_lets s1 hb s2 tp; have h1 : s1.top.state = .harvest ∧ s1.top.coreBor = s.top.coreBor ∧ s1.fr.running = s.fr.running ∧
      s1.fr.epoch = s.fr.epoch ∧ s1.pending = s.pending := by
    simp only [s1]; split <;> simp
  clear_value s1
  simp [tp, s2, hb, h1]

@[simp] theorem enterReturnStop_keeps (wet pg trip later : Bool) (s : State) :
    (enterReturnStop wet pg trip later s).top.state = .harvest ∧
    (enterReturnStop wet pg trip later s).top.coreBor = s.top.coreBor ∧
    (enterReturnStop wet pg trip later s).fr.running = s.fr.running ∧
    (enterReturnStop wet pg trip later s).fr.epoch = s.fr.epoch ∧
    (enterReturnStop wet pg trip later s).pending = s.pending := by
  simp [enterReturnStop]

@[simp] theorem abortHarvest_keeps (s : State) :
    (abortHarvest s).top.state = .watch ∧
    (abortHarvest s).top.coreBor = s.top.coreBor ∧
    (abortHarvest s).fr.running = s.fr.running ∧
    (abortHarvest s).fr.epoch = s.fr.epoch ∧
    (abortHarvest s).pending = s.pending := by
  simp [abortHarvest]

@[simp] theorem dramPark_keeps (s : State) :
    (dramPark s).top.state = s.top.state ∧
    (dramPark s).top.coreBor = s.top.coreBor ∧
    (dramPark s).fr.running = s.fr.running ∧
    (dramPark s).fr.epoch = s.fr.epoch ∧
    (dramPark s).pending = s.pending := by
  simp [dramPark]

@[simp] theorem sleepEntry_keeps (st : DevState) (ship : Bool) (s : State) :
    (sleepEntry st ship s).top.state = st ∧
    (sleepEntry st ship s).top.coreBor = s.top.coreBor ∧
    (sleepEntry st ship s).fr.running = false ∧
    (sleepEntry st ship s).fr.epoch = s.fr.epoch - 1 ∧
    (sleepEntry st ship s).pending = s.pending := by
  simp [sleepEntry]

@[simp] theorem enterDormant_keeps (ship : Bool) (s : State) :
    (enterDormant ship s).top.state = .dormant ∧
    (enterDormant ship s).top.coreBor = s.top.coreBor ∧
    (enterDormant ship s).fr.running = false ∧
    (enterDormant ship s).fr.epoch = s.fr.epoch - 1 ∧
    (enterDormant ship s).pending = s.pending := by
  simp [enterDormant]

@[simp] theorem enterHold_keeps (empty : Bool) (s : State) :
    (enterHold empty s).top.state = .hold ∧
    (enterHold empty s).top.coreBor = s.top.coreBor ∧
    (enterHold empty s).fr.running = false ∧
    (enterHold empty s).fr.epoch = s.fr.epoch - 1 ∧
    (enterHold empty s).pending = s.pending := by
  simp [enterHold]

@[simp] theorem wakeEntry_keeps (cause : Nat) (w : WakeIn) (s : State) :
    (wakeEntry cause w s).top.state = .wake ∧
    (wakeEntry cause w s).top.coreBor = s.top.coreBor ∧
    (wakeEntry cause w s).fr.running = s.fr.running ∧
    (wakeEntry cause w s).fr.epoch = s.fr.epoch ∧
    (wakeEntry cause w s).pending = s.pending := by
  simp [wakeEntry]

@[simp] theorem wakeSecond_keeps (s : State) :
    (wakeSecond s).top.state = s.top.state ∧
    (wakeSecond s).top.coreBor = s.top.coreBor ∧
    (wakeSecond s).fr.running = s.fr.running ∧
    (wakeSecond s).fr.epoch = s.fr.epoch ∧
    (wakeSecond s).pending = s.pending := by
  simp [wakeSecond]

@[simp] theorem evalReq_keeps (data : Word) (s : State) :
    (evalReq data s).top.state = s.top.state ∧
    (evalReq data s).top.coreBor = s.top.coreBor ∧
    (evalReq data s).fr.running = s.fr.running ∧
    (evalReq data s).fr.epoch = s.fr.epoch ∧
    (evalReq data s).pending = s.pending := by
  simp only [evalReq]; split <;> simp

@[simp] theorem discardNow_keeps (s : State) :
    (discardNow s).top.state = s.top.state ∧
    (discardNow s).top.coreBor = s.top.coreBor ∧
    (discardNow s).fr.running = s.fr.running ∧
    (discardNow s).fr.epoch = s.fr.epoch ∧
    (discardNow s).pending = s.pending := by
  simp [discardNow]

@[simp] theorem takeReq_keeps (w : WakeIn) (a : ReqAction) (s : State) :
    (takeReq w a s).top.coreBor = s.top.coreBor ∧
    (takeReq w a s).pending = s.pending := by
  unfold takeReq; split <;> simp

@[simp] theorem tamperDown_keeps (s : State) :
    (tamperDown s).top.state = .dormant ∧
    (tamperDown s).top.coreBor = s.top.coreBor ∧
    (tamperDown s).fr.running = false ∧
    (tamperDown s).fr.epoch = s.fr.epoch - 1 ∧
    (tamperDown s).pending = s.pending := by
  simp [tamperDown]

@[simp] theorem returnFails_keeps (c : Cause) (later : Bool) (s : State) :
    (returnFails c later s).top.coreBor = s.top.coreBor ∧
    (returnFails c later s).fr.running = s.fr.running ∧
    (returnFails c later s).fr.epoch = s.fr.epoch ∧
    (returnFails c later s).pending = s.pending := by
  simp [returnFails]

@[simp] theorem sealPark_keeps (s : State) :
    (sealPark s).top.state = s.top.state ∧
    (sealPark s).top.coreBor = s.top.coreBor ∧
    (sealPark s).fr.running = s.fr.running ∧
    (sealPark s).fr.epoch = s.fr.epoch ∧
    (sealPark s).pending = s.pending := by
  simp [sealPark]

@[simp] theorem sealEnd_keeps (s : State) :
    (sealEnd s).top.state = s.top.state ∧
    (sealEnd s).top.coreBor = s.top.coreBor ∧
    (sealEnd s).fr.running = s.fr.running ∧
    (sealEnd s).fr.epoch = s.fr.epoch ∧
    (sealEnd s).pending = s.pending := by
  simp [sealEnd]

end Sys2Proof.Machine
end

