-- ==== Sys2Proof/Laws/KeepsEngine.lean ====
section
/-! SUPPORT. What the definitions of Machine/Engine.lean leave alone: the state, a Core BOR, the frame generator, EPOCH and
the queue. -/

namespace Sys2Proof.Machine

@[simp] theorem logErase_keeps (k : Nat) (bankB : Bool) (s : State) :
    (logErase k bankB s).top.state = s.top.state ∧
    (logErase k bankB s).top.coreBor = s.top.coreBor ∧
    (logErase k bankB s).fr.running = s.fr.running ∧
    (logErase k bankB s).fr.epoch = s.fr.epoch ∧
    (logErase k bankB s).pending = s.pending := by
  simp [logErase]

@[simp] theorem logProgram_keeps (i : Nat) (r : Record) (s : State) :
    (logProgram i r s).top.state = s.top.state ∧
    (logProgram i r s).top.coreBor = s.top.coreBor ∧
    (logProgram i r s).fr.running = s.fr.running ∧
    (logProgram i r s).fr.epoch = s.fr.epoch ∧
    (logProgram i r s).pending = s.pending := by
  simp [logProgram]

@[simp] theorem logUnhold_keeps (s : State) :
    (logUnhold s).top.state = s.top.state ∧
    (logUnhold s).top.coreBor = s.top.coreBor ∧
    (logUnhold s).fr.running = s.fr.running ∧
    (logUnhold s).fr.epoch = s.fr.epoch ∧
    (logUnhold s).pending = s.pending := by
  simp [logUnhold]

@[simp] theorem logStart_keeps (s : State) :
    (logStart s).top.state = s.top.state ∧
    (logStart s).top.coreBor = s.top.coreBor ∧
    (logStart s).fr.running = s.fr.running ∧
    (logStart s).fr.epoch = s.fr.epoch ∧
    (logStart s).pending = s.pending := by
  unfold logStart; split <;> simp

@[simp] theorem logPrepare_keeps (s : State) :
    (logPrepare s).top.state = s.top.state ∧
    (logPrepare s).top.coreBor = s.top.coreBor ∧
    (logPrepare s).fr.running = s.fr.running ∧
    (logPrepare s).fr.epoch = s.fr.epoch ∧
    (logPrepare s).pending = s.pending := by
  simp [logPrepare]

@[simp] theorem logYield_keeps (s : State) :
    (logYield s).top.state = s.top.state ∧
    (logYield s).top.coreBor = s.top.coreBor ∧
    (logYield s).fr.running = s.fr.running ∧
    (logYield s).fr.epoch = s.fr.epoch ∧
    (logYield s).pending = s.pending := by
  unfold logYield; split <;> simp

@[simp] theorem logBoundary_keeps (s : State) :
    (logBoundary s).top.state = s.top.state ∧
    (logBoundary s).top.coreBor = s.top.coreBor ∧
    (logBoundary s).fr.running = s.fr.running ∧
    (logBoundary s).fr.epoch = s.fr.epoch ∧
    (logBoundary s).pending = s.pending := by
  simp only [logBoundary]; split <;> simp

@[simp] theorem logStep_keeps (i : Nat) (ok : Bool) (s : State) :
    (logStep i ok s).top.state = s.top.state ∧
    (logStep i ok s).top.coreBor = s.top.coreBor ∧
    (logStep i ok s).fr.running = s.fr.running ∧
    (logStep i ok s).fr.epoch = s.fr.epoch ∧
    (logStep i ok s).pending = s.pending := by
  unfold logStep; split <;> simp

@[simp] theorem logErased_keeps (arg : Nat) (s : State) :
    (logErased arg s).top.state = s.top.state ∧
    (logErased arg s).top.coreBor = s.top.coreBor ∧
    (logErased arg s).fr.running = s.fr.running ∧
    (logErased arg s).fr.epoch = s.fr.epoch ∧
    (logErased arg s).pending = s.pending := by
  simp [logErased]

@[simp] theorem catDone_keeps (arg : Nat) (s : State) :
    (catDone arg s).top.state = s.top.state ∧
    (catDone arg s).top.coreBor = s.top.coreBor ∧
    (catDone arg s).fr.running = s.fr.running ∧
    (catDone arg s).fr.epoch = s.fr.epoch ∧
    (catDone arg s).pending = s.pending := by
  simp only [catDone]; (repeat' split) <;> simp

@[simp] theorem catFails_keeps (arg : Nat) (s : State) :
    (catFails arg s).top.state = s.top.state ∧
    (catFails arg s).top.coreBor = s.top.coreBor ∧
    (catFails arg s).fr.running = s.fr.running ∧
    (catFails arg s).fr.epoch = s.fr.epoch ∧
    (catFails arg s).pending = s.pending := by
  unfold catFails; split <;> simp

@[simp] theorem catEnd_keeps (o : ArrOp) (ok : Bool) (s : State) :
    (catEnd o ok s).top.state = s.top.state ∧
    (catEnd o ok s).top.coreBor = s.top.coreBor ∧
    (catEnd o ok s).fr.running = s.fr.running ∧
    (catEnd o ok s).fr.epoch = s.fr.epoch ∧
    (catEnd o ok s).pending = s.pending := by
  simp [catEnd]

@[simp] theorem compactStep_keeps (s : State) :
    (compactStep s).top.state = s.top.state ∧
    (compactStep s).top.coreBor = s.top.coreBor ∧
    (compactStep s).fr.running = s.fr.running ∧
    (compactStep s).fr.epoch = s.fr.epoch ∧
    (compactStep s).pending = s.pending := by
  simp [compactStep]

@[simp] theorem setEnd_keeps (arg : Nat) (ok : Bool) (s : State) :
    (setEnd arg ok s).top.state = s.top.state ∧
    (setEnd arg ok s).top.coreBor = s.top.coreBor ∧
    (setEnd arg ok s).fr.running = s.fr.running ∧
    (setEnd arg ok s).fr.epoch = s.fr.epoch ∧
    (setEnd arg ok s).pending = s.pending := by
  simp [setEnd]

@[simp] theorem notePulses_keeps (r : Requester) (n : Nat) (s : State) :
    (notePulses r n s).top.state = s.top.state ∧
    (notePulses r n s).top.coreBor = s.top.coreBor ∧
    (notePulses r n s).fr.running = s.fr.running ∧
    (notePulses r n s).fr.epoch = s.fr.epoch ∧
    (notePulses r n s).pending = s.pending := by
  simp [notePulses]

@[simp] theorem programEnd_keeps (pulses : Nat) (ok : Bool) (s : State) :
    (programEnd pulses ok s).top.state = s.top.state ∧
    (programEnd pulses ok s).top.coreBor = s.top.coreBor ∧
    (programEnd pulses ok s).fr.running = s.fr.running ∧
    (programEnd pulses ok s).fr.epoch = s.fr.epoch ∧
    (programEnd pulses ok s).pending = s.pending := by
  unfold programEnd; split <;> simp

@[simp] theorem orfSpoilt_keeps (ok : Bool) (s : State) :
    (orfSpoilt ok s).top.state = s.top.state ∧
    (orfSpoilt ok s).top.coreBor = s.top.coreBor ∧
    (orfSpoilt ok s).fr.running = s.fr.running ∧
    (orfSpoilt ok s).fr.epoch = s.fr.epoch ∧
    (orfSpoilt ok s).pending = s.pending := by
  simp [orfSpoilt]

@[simp] theorem eraseEnd_keeps (pulses : Nat) (ok : Bool) (s : State) :
    (eraseEnd pulses ok s).top.state = s.top.state ∧
    (eraseEnd pulses ok s).top.coreBor = s.top.coreBor ∧
    (eraseEnd pulses ok s).fr.running = s.fr.running ∧
    (eraseEnd pulses ok s).fr.epoch = s.fr.epoch ∧
    (eraseEnd pulses ok s).pending = s.pending := by
  unfold eraseEnd; split <;> simp

@[simp] theorem dropWrite_keeps (s : State) :
    (dropWrite s).top.state = s.top.state ∧
    (dropWrite s).top.coreBor = s.top.coreBor ∧
    (dropWrite s).fr.running = s.fr.running ∧
    (dropWrite s).fr.epoch = s.fr.epoch ∧
    (dropWrite s).pending = s.pending := by
  simp [dropWrite]

@[simp] theorem snapWrite_keeps (s : State) :
    (snapWrite s).top.state = s.top.state ∧
    (snapWrite s).top.coreBor = s.top.coreBor ∧
    (snapWrite s).fr.running = s.fr.running ∧
    (snapWrite s).fr.epoch = s.fr.epoch ∧
    (snapWrite s).pending = s.pending := by
  simp [snapWrite]

end Sys2Proof.Machine
end

