-- ==== Sys2Proof/Laws/KeepsFaults.lean ====
section
/-! SUPPORT. What the definitions of Machine/Faults.lean leave alone: the state, a Core BOR, the frame generator, EPOCH and
the queue. -/

namespace Sys2Proof.Machine

@[simp] theorem tallyMessage_keeps (src : Nat) (kind : Nat) (addr : Word) (s : State) :
    (tallyMessage src kind addr s).top.state = s.top.state ∧
    (tallyMessage src kind addr s).top.coreBor = s.top.coreBor ∧
    (tallyMessage src kind addr s).fr.running = s.fr.running ∧
    (tallyMessage src kind addr s).fr.epoch = s.fr.epoch ∧
    (tallyMessage src kind addr s).pending = s.pending := by
  simp [tallyMessage]

@[simp] theorem windowEnd_keeps (src : Nat) (s : State) :
    (windowEnd src s).top.state = s.top.state ∧
    (windowEnd src s).top.coreBor = s.top.coreBor ∧
    (windowEnd src s).fr.running = s.fr.running ∧
    (windowEnd src s).fr.epoch = s.fr.epoch ∧
    (windowEnd src s).pending = s.pending := by
  simp [windowEnd]

@[simp] theorem pulseEnd_keeps (s : State) :
    (pulseEnd s).top.state = s.top.state ∧
    (pulseEnd s).top.coreBor = s.top.coreBor ∧
    (pulseEnd s).fr.running = s.fr.running ∧
    (pulseEnd s).fr.epoch = s.fr.epoch ∧
    (pulseEnd s).pending = s.pending := by
  simp [pulseEnd]

@[simp] theorem degradedExit_keeps (s : State) :
    (degradedExit s).top.state = s.top.state ∧
    (degradedExit s).top.coreBor = s.top.coreBor ∧
    (degradedExit s).fr.running = s.fr.running ∧
    (degradedExit s).fr.epoch = s.fr.epoch ∧
    (degradedExit s).pending = s.pending := by
  simp [degradedExit]

@[simp] theorem applyInject_keeps (data : Word) (be : ByteEn) (s : State) :
    (applyInject data be s).top.state = s.top.state ∧
    (applyInject data be s).top.coreBor = s.top.coreBor ∧
    (applyInject data be s).fr.running = s.fr.running ∧
    (applyInject data be s).fr.epoch = s.fr.epoch ∧
    (applyInject data be s).pending = s.pending := by
  simp [applyInject]

@[simp] theorem tallyBoundary_keeps (s : State) :
    (tallyBoundary s).top.state = s.top.state ∧
    (tallyBoundary s).top.coreBor = s.top.coreBor ∧
    (tallyBoundary s).fr.running = s.fr.running ∧
    (tallyBoundary s).fr.epoch = s.fr.epoch ∧
    (tallyBoundary s).pending = s.pending := by
  simp only [tallyBoundary]; split <;> simp

end Sys2Proof.Machine
end

