-- ==== Sys2Proof/Laws/KeepsSecu.lean ====
section
/-! SUPPORT. What the definitions of Machine/Secu.lean leave alone: the state, a Core BOR, the frame generator, EPOCH and
the queue. -/

namespace Sys2Proof.Machine

@[simp] theorem applyLife_keeps (data : Word) (be : ByteEn) (s : State) :
    (applyLife data be s).top.state = s.top.state ∧
    (applyLife data be s).top.coreBor = s.top.coreBor ∧
    (applyLife data be s).fr.running = s.fr.running ∧
    (applyLife data be s).fr.epoch = s.fr.epoch ∧
    (applyLife data be s).pending = s.pending := by
  simp only [applyLife]; (repeat' split) <;> simp

@[simp] theorem eraseKeys_keeps (s : State) :
    (eraseKeys s).top.state = s.top.state ∧
    (eraseKeys s).top.coreBor = s.top.coreBor ∧
    (eraseKeys s).fr.running = s.fr.running ∧
    (eraseKeys s).fr.epoch = s.fr.epoch ∧
    (eraseKeys s).pending = s.pending := by
  simp [eraseKeys]

@[simp] theorem endPlaced_keeps (s : State) :
    (endPlaced s).top.state = s.top.state ∧
    (endPlaced s).top.coreBor = s.top.coreBor ∧
    (endPlaced s).fr.running = s.fr.running ∧
    (endPlaced s).fr.epoch = s.fr.epoch ∧
    (endPlaced s).pending = s.pending := by
  simp [endPlaced]

@[simp] theorem lifeEffect_keeps (cmd : Nat) (s : State) :
    (lifeEffect cmd s).top.state = s.top.state ∧
    (lifeEffect cmd s).top.coreBor = s.top.coreBor ∧
    (lifeEffect cmd s).fr.running = s.fr.running ∧
    (lifeEffect cmd s).fr.epoch = s.fr.epoch ∧
    (lifeEffect cmd s).pending = s.pending := by
  simp [lifeEffect]

@[simp] theorem lifeDone_keeps (ok : Bool) (s : State) :
    (lifeDone ok s).top.state = s.top.state ∧
    (lifeDone ok s).top.coreBor = s.top.coreBor ∧
    (lifeDone ok s).fr.running = s.fr.running ∧
    (lifeDone ok s).fr.epoch = s.fr.epoch ∧
    (lifeDone ok s).pending = s.pending := by
  unfold lifeDone; split <;> simp

@[simp] theorem keyFail_keeps (code : Nat) (s : State) :
    (keyFail code s).top.state = s.top.state ∧
    (keyFail code s).top.coreBor = s.top.coreBor ∧
    (keyFail code s).fr.running = s.fr.running ∧
    (keyFail code s).fr.epoch = s.fr.epoch ∧
    (keyFail code s).pending = s.pending := by
  simp [keyFail]

@[simp] theorem stageHalf_keeps (idx : Nat) (d : BitVec 16) (s : State) :
    (stageHalf idx d s).top.state = s.top.state ∧
    (stageHalf idx d s).top.coreBor = s.top.coreBor ∧
    (stageHalf idx d s).fr.running = s.fr.running ∧
    (stageHalf idx d s).fr.epoch = s.fr.epoch ∧
    (stageHalf idx d s).pending = s.pending := by
  simp [stageHalf]

@[simp] theorem keyStart_keeps (op : Nat) (slot : Nat) (idx : Nat) (d : BitVec 16) (s : State) :
    (keyStart op slot idx d s).top.state = s.top.state ∧
    (keyStart op slot idx d s).top.coreBor = s.top.coreBor ∧
    (keyStart op slot idx d s).fr.running = s.fr.running ∧
    (keyStart op slot idx d s).fr.epoch = s.fr.epoch ∧
    (keyStart op slot idx d s).pending = s.pending := by
  simp [keyStart]

@[simp] theorem applyKeyCtrl_keeps (data : Word) (be : ByteEn) (s : State) :
    (applyKeyCtrl data be s).top.state = s.top.state ∧
    (applyKeyCtrl data be s).top.coreBor = s.top.coreBor ∧
    (applyKeyCtrl data be s).fr.running = s.fr.running ∧
    (applyKeyCtrl data be s).fr.epoch = s.fr.epoch ∧
    (applyKeyCtrl data be s).pending = s.pending := by
  simp only [applyKeyCtrl]; (repeat' split) <;> simp

@[simp] theorem putSlot_keeps (slot : Nat) (v : Slot) (s : State) :
    (putSlot slot v s).top.state = s.top.state ∧
    (putSlot slot v s).top.coreBor = s.top.coreBor ∧
    (putSlot slot v s).fr.running = s.fr.running ∧
    (putSlot slot v s).fr.epoch = s.fr.epoch ∧
    (putSlot slot v s).pending = s.pending := by
  simp [putSlot]

@[simp] theorem keyEffect_keeps (op : Nat) (slot : Nat) (s : State) :
    (keyEffect op slot s).top.state = s.top.state ∧
    (keyEffect op slot s).top.coreBor = s.top.coreBor ∧
    (keyEffect op slot s).fr.running = s.fr.running ∧
    (keyEffect op slot s).fr.epoch = s.fr.epoch ∧
    (keyEffect op slot s).pending = s.pending := by
  simp [keyEffect]

@[simp] theorem keyDone_keeps (ok : Bool) (s : State) :
    (keyDone ok s).top.state = s.top.state ∧
    (keyDone ok s).top.coreBor = s.top.coreBor ∧
    (keyDone ok s).fr.running = s.fr.running ∧
    (keyDone ok s).fr.epoch = s.fr.epoch ∧
    (keyDone ok s).pending = s.pending := by
  unfold keyDone; split <;> simp

end Sys2Proof.Machine
end

