-- ==== Sys2Proof/Laws/KeepsWeave.lean ====
section
/-! SUPPORT. What the definitions of Machine/Weave.lean leave alone: the state, a Core BOR, the frame generator, EPOCH and
the queue. -/

namespace Sys2Proof.Machine

@[simp] theorem putWeave_keeps (w : WeaveB) (s : State) :
    (putWeave w s).top.state = s.top.state ∧
    (putWeave w s).top.coreBor = s.top.coreBor ∧
    (putWeave w s).fr.running = s.fr.running ∧
    (putWeave w s).fr.epoch = s.fr.epoch ∧
    (putWeave w s).pending = s.pending := by
  simp [putWeave]

@[simp] theorem masterChange_keeps (id : Option Nat) (s : State) :
    (masterChange id s).top.state = s.top.state ∧
    (masterChange id s).top.coreBor = s.top.coreBor ∧
    (masterChange id s).fr.running = s.fr.running ∧
    (masterChange id s).fr.epoch = s.fr.epoch ∧
    (masterChange id s).pending = s.pending := by
  simp [masterChange]

@[simp] theorem weaveCrc_keeps (s : State) :
    (weaveCrc s).top.state = s.top.state ∧
    (weaveCrc s).top.coreBor = s.top.coreBor ∧
    (weaveCrc s).fr.running = s.fr.running ∧
    (weaveCrc s).fr.epoch = s.fr.epoch ∧
    (weaveCrc s).pending = s.pending := by
  simp [weaveCrc]

@[simp] theorem statusSend_keeps (swf : BitVec 16) (s : State) :
    (statusSend swf s).top.state = s.top.state ∧
    (statusSend swf s).top.coreBor = s.top.coreBor ∧
    (statusSend swf s).fr.running = s.fr.running ∧
    (statusSend swf s).fr.epoch = s.fr.epoch ∧
    (statusSend swf s).pending = s.pending := by
  simp [statusSend]

@[simp] theorem peerRecord_keeps (x : StatusIn) (s : State) :
    (peerRecord x s).top.state = s.top.state ∧
    (peerRecord x s).top.coreBor = s.top.coreBor ∧
    (peerRecord x s).fr.running = s.fr.running ∧
    (peerRecord x s).fr.epoch = s.fr.epoch ∧
    (peerRecord x s).pending = s.pending := by
  simp [peerRecord]

@[simp] theorem chargeStatus_keeps (x : StatusIn) (s : State) :
    (chargeStatus x s).top.state = s.top.state ∧
    (chargeStatus x s).top.coreBor = s.top.coreBor ∧
    (chargeStatus x s).fr.running = s.fr.running ∧
    (chargeStatus x s).fr.epoch = s.fr.epoch ∧
    (chargeStatus x s).pending = s.pending := by
  simp [chargeStatus]

@[simp] theorem dupFound_keeps (s : State) :
    (dupFound s).top.state = s.top.state ∧
    (dupFound s).top.coreBor = s.top.coreBor ∧
    (dupFound s).fr.running = s.fr.running ∧
    (dupFound s).fr.epoch = s.fr.epoch ∧
    (dupFound s).pending = s.pending := by
  simp [dupFound]

@[simp] theorem statusReceive_keeps (x : StatusIn) (s : State) :
    (statusReceive x s).top.state = s.top.state ∧
    (statusReceive x s).top.coreBor = s.top.coreBor ∧
    (statusReceive x s).fr.running = s.fr.running ∧
    (statusReceive x s).fr.epoch = s.fr.epoch ∧
    (statusReceive x s).pending = s.pending := by
  simp [statusReceive]

@[simp] theorem tickFracs_keeps (t : TickIn) (s : State) :
    (tickFracs t s).top.state = s.top.state ∧
    (tickFracs t s).top.coreBor = s.top.coreBor ∧
    (tickFracs t s).fr.running = s.fr.running ∧
    (tickFracs t s).fr.epoch = s.fr.epoch ∧
    (tickFracs t s).pending = s.pending := by
  simp [tickFracs]

@[simp] theorem tickTake_keeps (t : TickIn) (s : State) :
    (tickTake t s).top.state = s.top.state ∧
    (tickTake t s).top.coreBor = s.top.coreBor ∧
    (tickTake t s).fr.running = s.fr.running ∧
    (tickTake t s).fr.epoch = s.fr.epoch ∧
    (tickTake t s).pending = s.pending := by
  simp [tickTake]

@[simp] theorem tickReceive_keeps (t : TickIn) (s : State) :
    (tickReceive t s).top.state = s.top.state ∧
    (tickReceive t s).top.coreBor = s.top.coreBor ∧
    (tickReceive t s).fr.running = s.fr.running ∧
    (tickReceive t s).fr.epoch = s.fr.epoch ∧
    (tickReceive t s).pending = s.pending := by
  simp [tickReceive]

@[simp] theorem syncLoss_keeps (s : State) :
    (syncLoss s).top.state = s.top.state ∧
    (syncLoss s).top.coreBor = s.top.coreBor ∧
    (syncLoss s).fr.running = s.fr.running ∧
    (syncLoss s).fr.epoch = s.fr.epoch ∧
    (syncLoss s).pending = s.pending := by
  simp [syncLoss]

@[simp] theorem syncRealign_keeps (s : State) :
    (syncRealign s).top.state = s.top.state ∧
    (syncRealign s).top.coreBor = s.top.coreBor ∧
    (syncRealign s).fr.running = s.fr.running ∧
    (syncRealign s).fr.epoch = s.fr.epoch ∧
    (syncRealign s).pending = s.pending := by
  simp [syncRealign]

@[simp] theorem election_keeps (s : State) :
    (election s).top.state = s.top.state ∧
    (election s).top.coreBor = s.top.coreBor ∧
    (election s).fr.running = s.fr.running ∧
    (election s).fr.epoch = s.fr.epoch ∧
    (election s).pending = s.pending := by
  simp [election]

@[simp] theorem lockSet_keeps (s : State) :
    (lockSet s).top.state = s.top.state ∧
    (lockSet s).top.coreBor = s.top.coreBor ∧
    (lockSet s).fr.running = s.fr.running ∧
    (lockSet s).fr.epoch = s.fr.epoch ∧
    (lockSet s).pending = s.pending := by
  simp [lockSet]

@[simp] theorem lockLoss_keeps (s : State) :
    (lockLoss s).top.state = s.top.state ∧
    (lockLoss s).top.coreBor = s.top.coreBor ∧
    (lockLoss s).fr.running = s.fr.running ∧
    (lockLoss s).fr.epoch = s.fr.epoch ∧
    (lockLoss s).pending = s.pending := by
  simp [lockLoss]

@[simp] theorem frozenSet_keeps (s : State) :
    (frozenSet s).top.state = s.top.state ∧
    (frozenSet s).top.coreBor = s.top.coreBor ∧
    (frozenSet s).fr.running = s.fr.running ∧
    (frozenSet s).fr.epoch = s.fr.epoch ∧
    (frozenSet s).pending = s.pending := by
  simp [frozenSet]

@[simp] theorem peerTimeout_keeps (id : Nat) (s : State) :
    (peerTimeout id s).top.state = s.top.state ∧
    (peerTimeout id s).top.coreBor = s.top.coreBor ∧
    (peerTimeout id s).fr.running = s.fr.running ∧
    (peerTimeout id s).fr.epoch = s.fr.epoch ∧
    (peerTimeout id s).pending = s.pending := by
  simp [peerTimeout]

@[simp] theorem lineLowNow_keeps (s : State) :
    (lineLowNow s).top.state = s.top.state ∧
    (lineLowNow s).top.coreBor = s.top.coreBor ∧
    (lineLowNow s).fr.running = s.fr.running ∧
    (lineLowNow s).fr.epoch = s.fr.epoch ∧
    (lineLowNow s).pending = s.pending := by
  simp [lineLowNow]

@[simp] theorem roundStart_keeps (s : State) :
    (roundStart s).top.state = s.top.state ∧
    (roundStart s).top.coreBor = s.top.coreBor ∧
    (roundStart s).fr.running = s.fr.running ∧
    (roundStart s).fr.epoch = s.fr.epoch ∧
    (roundStart s).pending = s.pending := by
  simp [roundStart]

@[simp] theorem masterSend_keeps (s : State) :
    (masterSend s).top.state = s.top.state ∧
    (masterSend s).top.coreBor = s.top.coreBor ∧
    (masterSend s).fr.running = s.fr.running ∧
    (masterSend s).fr.epoch = s.fr.epoch ∧
    (masterSend s).pending = s.pending := by
  simp [masterSend]

@[simp] theorem weaveCount_keeps (s : State) :
    (weaveCount s).top.state = s.top.state ∧
    (weaveCount s).top.coreBor = s.top.coreBor ∧
    (weaveCount s).fr.running = s.fr.running ∧
    (weaveCount s).fr.epoch = s.fr.epoch ∧
    (weaveCount s).pending = s.pending := by
  simp [weaveCount]

@[simp] theorem stepDown_keeps (s : State) :
    (stepDown s).top.state = s.top.state ∧
    (stepDown s).top.coreBor = s.top.coreBor ∧
    (stepDown s).fr.running = s.fr.running ∧
    (stepDown s).fr.epoch = s.fr.epoch ∧
    (stepDown s).pending = s.pending := by
  simp [stepDown]

@[simp] theorem fracApply_keeps (s : State) :
    (fracApply s).top.state = s.top.state ∧
    (fracApply s).top.coreBor = s.top.coreBor ∧
    (fracApply s).fr.running = s.fr.running ∧
    (fracApply s).fr.epoch = s.fr.epoch ∧
    (fracApply s).pending = s.pending := by
  simp [fracApply]

@[simp] theorem noChgCheck_keeps (s : State) :
    (noChgCheck s).top.state = s.top.state ∧
    (noChgCheck s).top.coreBor = s.top.coreBor ∧
    (noChgCheck s).fr.running = s.fr.running ∧
    (noChgCheck s).fr.epoch = s.fr.epoch ∧
    (noChgCheck s).pending = s.pending := by
  simp [noChgCheck]

@[simp] theorem weaveBoundary_keeps (s : State) :
    (weaveBoundary s).top.state = s.top.state ∧
    (weaveBoundary s).top.coreBor = s.top.coreBor ∧
    (weaveBoundary s).fr.running = s.fr.running ∧
    (weaveBoundary s).fr.epoch = s.fr.epoch ∧
    (weaveBoundary s).pending = s.pending := by
  simp [weaveBoundary]

end Sys2Proof.Machine
end

