-- ==== Sys2Proof/Laws/KeepsHost.lean ====
section
/-! SUPPORT. What the definitions of Machine/Host.lean leave alone: the state, a Core BOR, the frame generator, EPOCH and
the queue. -/

namespace Sys2Proof.Machine

@[simp] theorem clearSticky_keeps (g : Nat) (v : Word) (s : State) :
    (clearSticky g v s).top.state = s.top.state ∧
    (clearSticky g v s).top.coreBor = s.top.coreBor ∧
    (clearSticky g v s).fr.running = s.fr.running ∧
    (clearSticky g v s).fr.epoch = s.fr.epoch ∧
    (clearSticky g v s).pending = s.pending := by
  simp [clearSticky]

@[simp] theorem clearInt_keeps (v : Word) (s : State) :
    (clearInt v s).top.state = s.top.state ∧
    (clearInt v s).top.coreBor = s.top.coreBor ∧
    (clearInt v s).fr.running = s.fr.running ∧
    (clearInt v s).fr.epoch = s.fr.epoch ∧
    (clearInt v s).pending = s.pending := by
  simp [clearInt]

@[simp] theorem clearBits_keeps (off : Nat) (v : Word) (s : State) :
    (clearBits off v s).top.state = s.top.state ∧
    (clearBits off v s).top.coreBor = s.top.coreBor ∧
    (clearBits off v s).fr.running = s.fr.running ∧
    (clearBits off v s).fr.epoch = s.fr.epoch ∧
    (clearBits off v s).pending = s.pending := by
  simp [clearBits]

@[simp] theorem forceInt_keeps (v : Word) (s : State) :
    (forceInt v s).top.state = s.top.state ∧
    (forceInt v s).top.coreBor = s.top.coreBor ∧
    (forceInt v s).fr.running = s.fr.running ∧
    (forceInt v s).fr.epoch = s.fr.epoch ∧
    (forceInt v s).pending = s.pending := by
  simp [forceInt]

@[simp] theorem applyCharge_keeps (data : Word) (mask : Word) (s : State) :
    (applyCharge data mask s).top.state = s.top.state ∧
    (applyCharge data mask s).top.coreBor = s.top.coreBor ∧
    (applyCharge data mask s).fr.running = s.fr.running ∧
    (applyCharge data mask s).fr.epoch = s.fr.epoch ∧
    (applyCharge data mask s).pending = s.pending := by
  simp [applyCharge]

@[simp] theorem applyMbox_keeps (data : Word) (s : State) :
    (applyMbox data s).top.state = s.top.state ∧
    (applyMbox data s).top.coreBor = s.top.coreBor ∧
    (applyMbox data s).fr.running = s.fr.running ∧
    (applyMbox data s).fr.epoch = s.fr.epoch ∧
    (applyMbox data s).pending = s.pending := by
  simp [applyMbox]

@[simp] theorem applyRtc_keeps (data : Word) (mask : Word) (s : State) :
    (applyRtc data mask s).top.state = s.top.state ∧
    (applyRtc data mask s).top.coreBor = s.top.coreBor ∧
    (applyRtc data mask s).fr.running = s.fr.running ∧
    (applyRtc data mask s).fr.epoch = s.fr.epoch ∧
    (applyRtc data mask s).pending = s.pending := by
  simp [applyRtc]

@[simp] theorem applyReg_keeps (off : Nat) (data : Word) (be : ByteEn) (s : State) :
    (applyReg off data be s).top.state = s.top.state ∧
    (applyReg off data be s).top.coreBor = s.top.coreBor ∧
    (applyReg off data be s).fr.running = s.fr.running ∧
    (applyReg off data be s).fr.epoch = s.fr.epoch ∧
    (applyReg off data be s).pending = s.pending := by
  simp [applyReg]

@[simp] theorem postEnter_keeps (e : PostEntry) (s : State) :
    (postEnter e s).top.state = s.top.state ∧
    (postEnter e s).top.coreBor = s.top.coreBor ∧
    (postEnter e s).fr.running = s.fr.running ∧
    (postEnter e s).fr.epoch = s.fr.epoch ∧
    (postEnter e s).pending = s.pending := by
  simp [postEnter]

@[simp] theorem registerWrite_keeps (e : PostEntry) (s : State) :
    (registerWrite e s).top.state = s.top.state ∧
    (registerWrite e s).top.coreBor = s.top.coreBor ∧
    (registerWrite e s).fr.running = s.fr.running ∧
    (registerWrite e s).fr.epoch = s.fr.epoch ∧
    (registerWrite e s).pending = s.pending := by
  simp [registerWrite]

@[simp] theorem hrstAssert_keeps (s : State) :
    (hrstAssert s).top.state = s.top.state ∧
    (hrstAssert s).top.coreBor = s.top.coreBor ∧
    (hrstAssert s).fr.running = s.fr.running ∧
    (hrstAssert s).fr.epoch = s.fr.epoch ∧
    (hrstAssert s).pending = s.pending := by
  simp [hrstAssert]

@[simp] theorem hrstRelease_keeps (s : State) :
    (hrstRelease s).top.state = s.top.state ∧
    (hrstRelease s).top.coreBor = s.top.coreBor ∧
    (hrstRelease s).fr.running = s.fr.running ∧
    (hrstRelease s).fr.epoch = s.fr.epoch ∧
    (hrstRelease s).pending = s.pending := by
  simp [hrstRelease]

@[simp] theorem syncStart_keeps (s : State) :
    (syncStart s).top.state = s.top.state ∧
    (syncStart s).top.coreBor = s.top.coreBor ∧
    (syncStart s).fr.running = s.fr.running ∧
    (syncStart s).fr.epoch = s.fr.epoch ∧
    (syncStart s).pending = s.pending := by
  simp [syncStart]

@[simp] theorem readInt_keeps (s : State) :
    (readInt s).2.top.state = s.top.state ∧
    (readInt s).2.top.coreBor = s.top.coreBor ∧
    (readInt s).2.fr.running = s.fr.running ∧
    (readInt s).2.fr.epoch = s.fr.epoch ∧
    (readInt s).2.pending = s.pending := by
  simp [readInt]

@[simp] theorem readVin_keeps (s : State) :
    (readVin s).2.top.state = s.top.state ∧
    (readVin s).2.top.coreBor = s.top.coreBor ∧
    (readVin s).2.fr.running = s.fr.running ∧
    (readVin s).2.fr.epoch = s.fr.epoch ∧
    (readVin s).2.pending = s.pending := by
  simp [readVin]

@[simp] theorem readVstore_keeps (s : State) :
    (readVstore s).2.top.state = s.top.state ∧
    (readVstore s).2.top.coreBor = s.top.coreBor ∧
    (readVstore s).2.fr.running = s.fr.running ∧
    (readVstore s).2.fr.epoch = s.fr.epoch ∧
    (readVstore s).2.pending = s.pending := by
  simp [readVstore]

@[simp] theorem readThrottle_keeps (s : State) :
    (readThrottle s).2.top.state = s.top.state ∧
    (readThrottle s).2.top.coreBor = s.top.coreBor ∧
    (readThrottle s).2.fr.running = s.fr.running ∧
    (readThrottle s).2.fr.epoch = s.fr.epoch ∧
    (readThrottle s).2.pending = s.pending := by
  simp [readThrottle]

@[simp] theorem readFaultPin_keeps (s : State) :
    (readFaultPin s).2.top.state = s.top.state ∧
    (readFaultPin s).2.top.coreBor = s.top.coreBor ∧
    (readFaultPin s).2.fr.running = s.fr.running ∧
    (readFaultPin s).2.fr.epoch = s.fr.epoch ∧
    (readFaultPin s).2.pending = s.pending := by
  simp [readFaultPin]

@[simp] theorem readRtc_keeps (s : State) :
    (readRtc s).2.top.state = s.top.state ∧
    (readRtc s).2.top.coreBor = s.top.coreBor ∧
    (readRtc s).2.fr.running = s.fr.running ∧
    (readRtc s).2.fr.epoch = s.fr.epoch ∧
    (readRtc s).2.pending = s.pending := by
  simp [readRtc]

@[simp] theorem readC2h_keeps (s : State) :
    (readC2h s).2.top.state = s.top.state ∧
    (readC2h s).2.top.coreBor = s.top.coreBor ∧
    (readC2h s).2.fr.running = s.fr.running ∧
    (readC2h s).2.fr.epoch = s.fr.epoch ∧
    (readC2h s).2.pending = s.pending := by
  simp [readC2h]

end Sys2Proof.Machine
end

