-- ==== Sys2Proof/Laws/KeepsOrfort.lean ====
section
/-! SUPPORT. What the definitions of Machine/Orfort.lean leave alone: the state, a Core BOR, the frame generator, EPOCH and
the queue. -/

namespace Sys2Proof.Machine

@[simp] theorem orfEnd_keeps (code : Nat) (out : List Word) (s : State) :
    (orfEnd code out s).top.state = s.top.state ∧
    (orfEnd code out s).top.coreBor = s.top.coreBor ∧
    (orfEnd code out s).fr.running = s.fr.running ∧
    (orfEnd code out s).fr.epoch = s.fr.epoch ∧
    (orfEnd code out s).pending = s.pending := by
  simp [orfEnd]

@[simp] theorem lineEnd_keeps (s : State) :
    (lineEnd s).top.state = s.top.state ∧
    (lineEnd s).top.coreBor = s.top.coreBor ∧
    (lineEnd s).fr.running = s.fr.running ∧
    (lineEnd s).fr.epoch = s.fr.epoch ∧
    (lineEnd s).pending = s.pending := by
  simp only [lineEnd]; (repeat' split) <;> simp

@[simp] theorem charRx_keeps (c : BitVec 8) (timing : Nat) (s : State) :
    (charRx c timing s).top.state = s.top.state ∧
    (charRx c timing s).top.coreBor = s.top.coreBor ∧
    (charRx c timing s).fr.running = s.fr.running ∧
    (charRx c timing s).fr.epoch = s.fr.epoch ∧
    (charRx c timing s).pending = s.pending := by
  simp [charRx]

@[simp] theorem orfBreak_keeps (s : State) :
    (orfBreak s).top.state = s.top.state ∧
    (orfBreak s).top.coreBor = s.top.coreBor ∧
    (orfBreak s).fr.running = s.fr.running ∧
    (orfBreak s).fr.epoch = s.fr.epoch ∧
    (orfBreak s).pending = s.pending := by
  simp [orfBreak]

@[simp] theorem orfRun_state (name : List Nat) (p : List (List Nat) → Bool) (g : State → Bool) (f : State → State) (s : State) (h : ∀ s, (f s).top.state = s.top.state) : (orfRun name p g f s).top.state = s.top.state := by
  unfold orfRun; (repeat' split) <;> simp [h]

@[simp] theorem orfRun_coreBor (name : List Nat) (p : List (List Nat) → Bool) (g : State → Bool) (f : State → State) (s : State) (h : ∀ s, (f s).top.coreBor = s.top.coreBor) : (orfRun name p g f s).top.coreBor = s.top.coreBor := by
  unfold orfRun; (repeat' split) <;> simp [h]

@[simp] theorem orfRun_running (name : List Nat) (p : List (List Nat) → Bool) (g : State → Bool) (f : State → State) (s : State) (h : ∀ s, (f s).fr.running = s.fr.running) : (orfRun name p g f s).fr.running = s.fr.running := by
  unfold orfRun; (repeat' split) <;> simp [h]

@[simp] theorem orfRun_epoch (name : List Nat) (p : List (List Nat) → Bool) (g : State → Bool) (f : State → State) (s : State) (h : ∀ s, (f s).fr.epoch = s.fr.epoch) : (orfRun name p g f s).fr.epoch = s.fr.epoch := by
  unfold orfRun; (repeat' split) <;> simp [h]

@[simp] theorem orfRun_pending (name : List Nat) (p : List (List Nat) → Bool) (g : State → Bool) (f : State → State) (s : State) (h : ∀ s, (f s).pending = s.pending) : (orfRun name p g f s).pending = s.pending := by
  unfold orfRun; (repeat' split) <;> simp [h]

@[simp] theorem orfSt_keeps (s : State) :
    (orfSt s).top.state = s.top.state ∧
    (orfSt s).top.coreBor = s.top.coreBor ∧
    (orfSt s).fr.running = s.fr.running ∧
    (orfSt s).fr.epoch = s.fr.epoch ∧
    (orfSt s).pending = s.pending := by
  simp [orfSt]

@[simp] theorem freshen_keeps (s : State) :
    (freshen s).top.state = s.top.state ∧
    (freshen s).top.coreBor = s.top.coreBor ∧
    (freshen s).fr.running = s.fr.running ∧
    (freshen s).fr.epoch = s.fr.epoch ∧
    (freshen s).pending = s.pending := by
  simp [freshen]

@[simp] theorem orfRd_keeps (off : Nat) (n : Nat) (s : State) :
    (orfRd off n s).top.state = s.top.state ∧
    (orfRd off n s).top.coreBor = s.top.coreBor ∧
    (orfRd off n s).fr.running = s.fr.running ∧
    (orfRd off n s).fr.epoch = s.fr.epoch ∧
    (orfRd off n s).pending = s.pending := by
  simp [orfRd]

@[simp] theorem quiet_keeps (off : Nat) (s : State) :
    (quiet off s).top.state = s.top.state ∧
    (quiet off s).top.coreBor = s.top.coreBor ∧
    (quiet off s).fr.running = s.fr.running ∧
    (quiet off s).fr.epoch = s.fr.epoch ∧
    (quiet off s).pending = s.pending := by
  simp [quiet]

@[simp] theorem unquiet_keeps (off : Nat) (data : Word) (old : State) (s : State) :
    (unquiet off data old s).top.state = s.top.state ∧
    (unquiet off data old s).top.coreBor = s.top.coreBor ∧
    (unquiet off data old s).fr.running = s.fr.running ∧
    (unquiet off data old s).fr.epoch = s.fr.epoch ∧
    (unquiet off data old s).pending = s.pending := by
  simp [unquiet]

@[simp] theorem sideWrite_state (off : Nat) (d : Word) (f : State → State) (s : State) (h : ∀ s, (f s).top.state = s.top.state) : (sideWrite off d f s).1.top.state = s.top.state := by
  simp [sideWrite, h]

@[simp] theorem sideWrite_coreBor (off : Nat) (d : Word) (f : State → State) (s : State) (h : ∀ s, (f s).top.coreBor = s.top.coreBor) : (sideWrite off d f s).1.top.coreBor = s.top.coreBor := by
  simp [sideWrite, h]

@[simp] theorem sideWrite_running (off : Nat) (d : Word) (f : State → State) (s : State) (h : ∀ s, (f s).fr.running = s.fr.running) : (sideWrite off d f s).1.fr.running = s.fr.running := by
  simp [sideWrite, h]

@[simp] theorem sideWrite_epoch (off : Nat) (d : Word) (f : State → State) (s : State) (h : ∀ s, (f s).fr.epoch = s.fr.epoch) : (sideWrite off d f s).1.fr.epoch = s.fr.epoch := by
  simp [sideWrite, h]

@[simp] theorem sideWrite_pending (off : Nat) (d : Word) (f : State → State) (s : State) (h : ∀ s, (f s).pending = s.pending) : (sideWrite off d f s).1.pending = s.pending := by
  simp [sideWrite, h]

@[simp] theorem orfWr_keeps (off : Nat) (val : Word) (s : State) :
    (orfWr off val s).top.state = s.top.state ∧
    (orfWr off val s).top.coreBor = s.top.coreBor ∧
    (orfWr off val s).fr.running = s.fr.running ∧
    (orfWr off val s).fr.epoch = s.fr.epoch ∧
    (orfWr off val s).pending = s.pending := by
  simp [orfWr]

@[simp] theorem ownEntry_keeps (tid : Nat) (idx : Nat) (s : State) :
    (ownEntry tid idx s).2.top.state = s.top.state ∧
    (ownEntry tid idx s).2.top.coreBor = s.top.coreBor ∧
    (ownEntry tid idx s).2.fr.running = s.fr.running ∧
    (ownEntry tid idx s).2.fr.epoch = s.fr.epoch ∧
    (ownEntry tid idx s).2.pending = s.pending := by
  simp [ownEntry]

@[simp] theorem orfTb_keeps (tid : Nat) (idx : Nat) (s : State) :
    (orfTb tid idx s).top.state = s.top.state ∧
    (orfTb tid idx s).top.coreBor = s.top.coreBor ∧
    (orfTb tid idx s).fr.running = s.fr.running ∧
    (orfTb tid idx s).fr.epoch = s.fr.epoch ∧
    (orfTb tid idx s).pending = s.pending := by
  unfold orfTb
  have hk : (ownEntry tid idx s).2.top.state = s.top.state ∧ (ownEntry tid idx s).2.top.coreBor = s.top.coreBor ∧
      (ownEntry tid idx s).2.fr.running = s.fr.running ∧ (ownEntry tid idx s).2.fr.epoch = s.fr.epoch ∧
      (ownEntry tid idx s).2.pending = s.pending := ownEntry_keeps tid idx s
  (repeat' split) <;> simp_all

@[simp] theorem entryWrite_keeps (tid : Nat) (idx : Nat) (ws : List Word) (s : State) :
    (entryWrite tid idx ws s).1.top.state = s.top.state ∧
    (entryWrite tid idx ws s).1.top.coreBor = s.top.coreBor ∧
    (entryWrite tid idx ws s).1.fr.running = s.fr.running ∧
    (entryWrite tid idx ws s).1.fr.epoch = s.fr.epoch ∧
    (entryWrite tid idx ws s).1.pending = s.pending := by
  simp [entryWrite]

@[simp] theorem orfTl_keeps (tid : Nat) (idx : Nat) (ws : List Word) (s : State) :
    (orfTl tid idx ws s).top.state = s.top.state ∧
    (orfTl tid idx ws s).top.coreBor = s.top.coreBor ∧
    (orfTl tid idx ws s).fr.running = s.fr.running ∧
    (orfTl tid idx ws s).fr.epoch = s.fr.epoch ∧
    (orfTl tid idx ws s).pending = s.pending := by
  simp [orfTl]

@[simp] theorem arrPrint_keeps : ∀ (n w : Nat) (s : State),
    (arrPrint w n s).2.2.top.state = s.top.state ∧
    (arrPrint w n s).2.2.top.coreBor = s.top.coreBor ∧
    (arrPrint w n s).2.2.fr.running = s.fr.running ∧
    (arrPrint w n s).2.2.fr.epoch = s.fr.epoch ∧
    (arrPrint w n s).2.2.pending = s.pending
  | 0, _, s => by simp [arrPrint]
  | n + 1, w, s => by
    unfold arrPrint
    split
    · simp
    · have hk := readWord_keeps w s
      split
      · rename_i d s1 heq; rw [heq] at hk; have := arrPrint_keeps n (w + 1) s1; simp_all
      · rename_i s1 heq; rw [heq] at hk; simp_all

@[simp] theorem orfAr_keeps (off : Nat) (n : Nat) (s : State) :
    (orfAr off n s).top.state = s.top.state ∧
    (orfAr off n s).top.coreBor = s.top.coreBor ∧
    (orfAr off n s).fr.running = s.fr.running ∧
    (orfAr off n s).fr.epoch = s.fr.epoch ∧
    (orfAr off n s).pending = s.pending := by
  simp [orfAr]

@[simp] theorem orfCb_keeps (slot : Option Nat) (s : State) :
    (orfCb slot s).top.state = s.top.state ∧
    (orfCb slot s).top.coreBor = s.top.coreBor ∧
    (orfCb slot s).fr.running = s.fr.running ∧
    (orfCb slot s).fr.epoch = s.fr.epoch ∧
    (orfCb slot s).pending = s.pending := by
  unfold orfCb; split <;> simp

@[simp] theorem logPrint_keeps : ∀ (n w : Nat) (s : State),
    (logPrint w n s).2.2.top.state = s.top.state ∧
    (logPrint w n s).2.2.top.coreBor = s.top.coreBor ∧
    (logPrint w n s).2.2.fr.running = s.fr.running ∧
    (logPrint w n s).2.2.fr.epoch = s.fr.epoch ∧
    (logPrint w n s).2.2.pending = s.pending
  | 0, _, s => by simp [logPrint]
  | n + 1, w, s => by
    unfold logPrint
    have hk := logFetch_keeps (w % 16384) s
    split
    · rename_i ws s1 heq; rw [heq] at hk; have := logPrint_keeps n (w + 1) s1; simp_all
    · rename_i s1 heq; rw [heq] at hk; simp_all

@[simp] theorem orfLg_keeps (seq : Option Nat) (n : Nat) (s : State) :
    (orfLg seq n s).top.state = s.top.state ∧
    (orfLg seq n s).top.coreBor = s.top.coreBor ∧
    (orfLg seq n s).fr.running = s.fr.running ∧
    (orfLg seq n s).fr.epoch = s.fr.epoch ∧
    (orfLg seq n s).pending = s.pending := by
  simp [orfLg]

@[simp] theorem orfUlRequest_keeps (lvl : Nat) (s : State) :
    (orfUlRequest lvl s).top.state = s.top.state ∧
    (orfUlRequest lvl s).top.coreBor = s.top.coreBor ∧
    (orfUlRequest lvl s).fr.running = s.fr.running ∧
    (orfUlRequest lvl s).fr.epoch = s.fr.epoch ∧
    (orfUlRequest lvl s).pending = s.pending := by
  simp only [orfUlRequest]; (repeat' split) <;> simp

@[simp] theorem orfUlResponse_keeps (data : Word) (s : State) :
    (orfUlResponse data s).top.state = s.top.state ∧
    (orfUlResponse data s).top.coreBor = s.top.coreBor ∧
    (orfUlResponse data s).fr.running = s.fr.running ∧
    (orfUlResponse data s).fr.epoch = s.fr.epoch ∧
    (orfUlResponse data s).pending = s.pending := by
  simp [orfUlResponse]

@[simp] theorem ovPut_keeps (ch : Nat) (start : Int) (ramp : Int) (s : State) :
    (ovPut ch start ramp s).top.state = s.top.state ∧
    (ovPut ch start ramp s).top.coreBor = s.top.coreBor ∧
    (ovPut ch start ramp s).fr.running = s.fr.running ∧
    (ovPut ch start ramp s).fr.epoch = s.fr.epoch ∧
    (ovPut ch start ramp s).pending = s.pending := by
  simp [ovPut]

@[simp] theorem ovDrop_keeps (ch : Nat) (s : State) :
    (ovDrop ch s).top.state = s.top.state ∧
    (ovDrop ch s).top.coreBor = s.top.coreBor ∧
    (ovDrop ch s).fr.running = s.fr.running ∧
    (ovDrop ch s).fr.epoch = s.fr.epoch ∧
    (ovDrop ch s).pending = s.pending := by
  simp [ovDrop]

@[simp] theorem orfOv_state (p : List (List Nat) → Bool) (f : State → State) (s : State) (h : ∀ s, (f s).top.state = s.top.state) : (orfOv p f s).top.state = s.top.state := by
  unfold orfOv; (repeat' split) <;> simp [h]

@[simp] theorem orfOv_coreBor (p : List (List Nat) → Bool) (f : State → State) (s : State) (h : ∀ s, (f s).top.coreBor = s.top.coreBor) : (orfOv p f s).top.coreBor = s.top.coreBor := by
  unfold orfOv; (repeat' split) <;> simp [h]

@[simp] theorem orfOv_running (p : List (List Nat) → Bool) (f : State → State) (s : State) (h : ∀ s, (f s).fr.running = s.fr.running) : (orfOv p f s).fr.running = s.fr.running := by
  unfold orfOv; (repeat' split) <;> simp [h]

@[simp] theorem orfOv_epoch (p : List (List Nat) → Bool) (f : State → State) (s : State) (h : ∀ s, (f s).fr.epoch = s.fr.epoch) : (orfOv p f s).fr.epoch = s.fr.epoch := by
  unfold orfOv; (repeat' split) <;> simp [h]

@[simp] theorem orfOv_pending (p : List (List Nat) → Bool) (f : State → State) (s : State) (h : ∀ s, (f s).pending = s.pending) : (orfOv p f s).pending = s.pending := by
  unfold orfOv; (repeat' split) <;> simp [h]

@[simp] theorem orfDisarm_keeps (s : State) :
    (orfDisarm s).top.state = s.top.state ∧
    (orfDisarm s).top.coreBor = s.top.coreBor ∧
    (orfDisarm s).fr.running = s.fr.running ∧
    (orfDisarm s).fr.epoch = s.fr.epoch ∧
    (orfDisarm s).pending = s.pending := by
  simp [orfDisarm]

@[simp] theorem orfLaneout_keeps (lane : Nat) (frame : Nat) (s : State) :
    (orfLaneout lane frame s).top.state = s.top.state ∧
    (orfLaneout lane frame s).top.coreBor = s.top.coreBor ∧
    (orfLaneout lane frame s).fr.running = s.fr.running ∧
    (orfLaneout lane frame s).fr.epoch = s.fr.epoch ∧
    (orfLaneout lane frame s).pending = s.pending := by
  simp [orfLaneout]

@[simp] theorem orfSpoil_keeps (bankB : Bool) (ovl : Bool) (s : State) :
    (orfSpoil bankB ovl s).top.state = s.top.state ∧
    (orfSpoil bankB ovl s).top.coreBor = s.top.coreBor ∧
    (orfSpoil bankB ovl s).fr.running = s.fr.running ∧
    (orfSpoil bankB ovl s).fr.epoch = s.fr.epoch ∧
    (orfSpoil bankB ovl s).pending = s.pending := by
  simp [orfSpoil]

end Sys2Proof.Machine
end

