-- ==== Sys2Proof/Laws/KeepsJtag.lean ====
section
/-! SUPPORT. What the definitions of Machine/Jtag.lean leave alone: the state, a Core BOR, the frame generator, EPOCH and
the queue. -/

namespace Sys2Proof.Machine

@[simp] theorem irSelect_keeps (code : BitVec 8) (drive : Nat) (tdo : List Word) (s : State) :
    (irSelect code drive tdo s).top.state = s.top.state ∧
    (irSelect code drive tdo s).top.coreBor = s.top.coreBor ∧
    (irSelect code drive tdo s).fr.running = s.fr.running ∧
    (irSelect code drive tdo s).fr.epoch = s.fr.epoch ∧
    (irSelect code drive tdo s).pending = s.pending := by
  simp [irSelect]

@[simp] theorem irBypass_keeps (s : State) :
    (irBypass s).top.state = s.top.state ∧
    (irBypass s).top.coreBor = s.top.coreBor ∧
    (irBypass s).fr.running = s.fr.running ∧
    (irBypass s).fr.epoch = s.fr.epoch ∧
    (irBypass s).pending = s.pending := by
  simp [irBypass]

@[simp] theorem irRun_state (want : BitVec 8) (g : State → Bool) (f : State → State) (s : State) (h : ∀ s, (f s).top.state = s.top.state) : (irRun want g f s).top.state = s.top.state := by
  unfold irRun; (repeat' split) <;> simp [h]

@[simp] theorem irRun_coreBor (want : BitVec 8) (g : State → Bool) (f : State → State) (s : State) (h : ∀ s, (f s).top.coreBor = s.top.coreBor) : (irRun want g f s).top.coreBor = s.top.coreBor := by
  unfold irRun; (repeat' split) <;> simp [h]

@[simp] theorem irRun_running (want : BitVec 8) (g : State → Bool) (f : State → State) (s : State) (h : ∀ s, (f s).fr.running = s.fr.running) : (irRun want g f s).fr.running = s.fr.running := by
  unfold irRun; (repeat' split) <;> simp [h]

@[simp] theorem irRun_epoch (want : BitVec 8) (g : State → Bool) (f : State → State) (s : State) (h : ∀ s, (f s).fr.epoch = s.fr.epoch) : (irRun want g f s).fr.epoch = s.fr.epoch := by
  unfold irRun; (repeat' split) <;> simp [h]

@[simp] theorem irRun_pending (want : BitVec 8) (g : State → Bool) (f : State → State) (s : State) (h : ∀ s, (f s).pending = s.pending) : (irRun want g f s).pending = s.pending := by
  unfold irRun; (repeat' split) <;> simp [h]

@[simp] theorem shiftOut_keeps (ws : List Word) (s : State) :
    (shiftOut ws s).top.state = s.top.state ∧
    (shiftOut ws s).top.coreBor = s.top.coreBor ∧
    (shiftOut ws s).fr.running = s.fr.running ∧
    (shiftOut ws s).fr.epoch = s.fr.epoch ∧
    (shiftOut ws s).pending = s.pending := by
  simp [shiftOut]

@[simp] theorem irDrive_keeps (code : BitVec 8) (drive : Nat) (s : State) :
    (irDrive code drive s).top.state = s.top.state ∧
    (irDrive code drive s).top.coreBor = s.top.coreBor ∧
    (irDrive code drive s).fr.running = s.fr.running ∧
    (irDrive code drive s).fr.epoch = s.fr.epoch ∧
    (irDrive code drive s).pending = s.pending := by
  simp [irDrive]

@[simp] theorem jtagExchange_keeps (data : Word) (s : State) :
    (jtagExchange data s).top.state = s.top.state ∧
    (jtagExchange data s).top.coreBor = s.top.coreBor ∧
    (jtagExchange data s).fr.running = s.fr.running ∧
    (jtagExchange data s).fr.epoch = s.fr.epoch ∧
    (jtagExchange data s).pending = s.pending := by
  unfold jtagExchange; (repeat' split) <;> simp

@[simp] theorem observeOp_keeps (op : ObsOp) (s : State) :
    (observeOp op s).top.state = s.top.state ∧
    (observeOp op s).top.coreBor = s.top.coreBor ∧
    (observeOp op s).fr.running = s.fr.running ∧
    (observeOp op s).fr.epoch = s.fr.epoch ∧
    (observeOp op s).pending = s.pending := by
  unfold observeOp
  (repeat' split) <;> first
    | (simp; done)
    | (have hq := congrArg Prod.snd ‹_ = (_, _)›; dsimp only at hq; subst hq; simp; done)
    | (have hq := congrArg Prod.fst ‹_ = (_, _)›; dsimp only at hq; subst hq; simp; done)

@[simp] theorem serviceOp_keeps (op : SvcOp) (s : State) :
    (serviceOp op s).top.state = s.top.state ∧
    (serviceOp op s).top.coreBor = s.top.coreBor ∧
    (serviceOp op s).fr.running = s.fr.running ∧
    (serviceOp op s).fr.epoch = s.fr.epoch ∧
    (serviceOp op s).pending = s.pending := by
  unfold serviceOp; split <;> simp

@[simp] theorem debugOp_keeps (op : DbgOp) (s : State) :
    (debugOp op s).top.state = s.top.state ∧
    (debugOp op s).top.coreBor = s.top.coreBor ∧
    (debugOp op s).fr.running = s.fr.running ∧
    (debugOp op s).fr.epoch = s.fr.epoch ∧
    (debugOp op s).pending = s.pending := by
  unfold debugOp; split <;> simp

@[simp] theorem otpProg_keeps (row : Nat) (val : List Word) (s : State) :
    (otpProg row val s).top.state = s.top.state ∧
    (otpProg row val s).top.coreBor = s.top.coreBor ∧
    (otpProg row val s).fr.running = s.fr.running ∧
    (otpProg row val s).fr.epoch = s.fr.epoch ∧
    (otpProg row val s).pending = s.pending := by
  simp [otpProg]

@[simp] theorem jtagBoundary_keeps (s : State) :
    (jtagBoundary s).top.state = s.top.state ∧
    (jtagBoundary s).top.coreBor = s.top.coreBor ∧
    (jtagBoundary s).fr.running = s.fr.running ∧
    (jtagBoundary s).fr.epoch = s.fr.epoch ∧
    (jtagBoundary s).pending = s.pending := by
  simp [jtagBoundary]

end Sys2Proof.Machine
end

