-- ==== Sys2Proof/Laws/KeepsBoundary.lean ====
section
/-! SUPPORT. What the definitions of Machine/Boundary.lean leave alone: the state, a Core BOR, the frame generator, EPOCH and
the queue. -/

namespace Sys2Proof.Machine

@[simp] theorem blocksClose_keeps (f : FrameIn) (s : State) :
    (blocksClose f s).top.state = s.top.state ∧
    (blocksClose f s).top.coreBor = s.top.coreBor ∧
    (blocksClose f s).fr.running = s.fr.running ∧
    (blocksClose f s).fr.epoch = s.fr.epoch ∧
    (blocksClose f s).pending = s.pending := by
  simp [blocksClose]

@[simp] theorem recordsClose_keeps (f : FrameIn) (s : State) :
    (recordsClose f s).top.state = s.top.state ∧
    (recordsClose f s).top.coreBor = s.top.coreBor ∧
    (recordsClose f s).fr.running = s.fr.running ∧
    (recordsClose f s).fr.epoch = s.fr.epoch ∧
    (recordsClose f s).pending = s.pending := by
  simp [recordsClose]

@[simp] theorem frameClose_keeps (f : FrameIn) (s : State) :
    (frameClose f s).top.state = s.top.state ∧
    (frameClose f s).top.coreBor = s.top.coreBor ∧
    (frameClose f s).fr.running = s.fr.running ∧
    (frameClose f s).fr.epoch = s.fr.epoch ∧
    (frameClose f s).pending = s.pending := by
  simp [frameClose]

@[simp] theorem frameOpen_keeps (s : State) :
    (frameOpen s).top.state = s.top.state ∧
    (frameOpen s).top.coreBor = s.top.coreBor ∧
    (frameOpen s).fr.running = s.fr.running ∧
    (frameOpen s).pending = s.pending := by
  simp [frameOpen]

@[simp] theorem ringBoundary_keeps (s : State) :
    (ringBoundary s).top.state = s.top.state ∧
    (ringBoundary s).top.coreBor = s.top.coreBor ∧
    (ringBoundary s).fr.running = s.fr.running ∧
    (ringBoundary s).fr.epoch = s.fr.epoch ∧
    (ringBoundary s).pending = s.pending := by
  simp [ringBoundary]

@[simp] theorem ocEpisode_keeps (s : State) :
    (ocEpisode s).top.state = s.top.state ∧
    (ocEpisode s).top.coreBor = s.top.coreBor ∧
    (ocEpisode s).fr.running = s.fr.running ∧
    (ocEpisode s).fr.epoch = s.fr.epoch ∧
    (ocEpisode s).pending = s.pending := by
  simp [ocEpisode]

@[simp] theorem lowCount_keeps (s : State) :
    (lowCount s).top.state = s.top.state ∧
    (lowCount s).top.coreBor = s.top.coreBor ∧
    (lowCount s).fr.running = s.fr.running ∧
    (lowCount s).fr.epoch = s.fr.epoch ∧
    (lowCount s).pending = s.pending := by
  simp [lowCount]

@[simp] theorem energyBoundary_keeps (s : State) :
    (energyBoundary s).top.state = s.top.state ∧
    (energyBoundary s).top.coreBor = s.top.coreBor ∧
    (energyBoundary s).fr.running = s.fr.running ∧
    (energyBoundary s).fr.epoch = s.fr.epoch ∧
    (energyBoundary s).pending = s.pending := by
  simp [energyBoundary]

@[simp] theorem serveTenant_keeps (t : Nat) (s : State) :
    (serveTenant t s).top.state = s.top.state ∧
    (serveTenant t s).top.coreBor = s.top.coreBor ∧
    (serveTenant t s).fr.running = s.fr.running ∧
    (serveTenant t s).fr.epoch = s.fr.epoch ∧
    (serveTenant t s).pending = s.pending := by
  simp only [serveTenant]; (repeat' split) <;> simp

@[simp] theorem demandAll_keeps (r : Nat) : ∀ (n : Nat) (s : State),
    (demandAll r n s).top.state = s.top.state ∧
    (demandAll r n s).top.coreBor = s.top.coreBor ∧
    (demandAll r n s).fr.running = s.fr.running ∧
    (demandAll r n s).fr.epoch = s.fr.epoch ∧
    (demandAll r n s).pending = s.pending
  | 0, _ => by simp [demandAll]
  | n + 1, s => by
    unfold demandAll
    (repeat' split) <;> simp [demandAll_keeps r n]

@[simp] theorem serveClean_keeps (t : Nat) (s : State) :
    (serveClean t s).top.state = s.top.state ∧
    (serveClean t s).top.coreBor = s.top.coreBor ∧
    (serveClean t s).fr.running = s.fr.running ∧
    (serveClean t s).fr.epoch = s.fr.epoch ∧
    (serveClean t s).pending = s.pending := by
  simp [serveClean]

@[simp] theorem recountMaybe_keeps (s : State) :
    (recountMaybe s).top.state = s.top.state ∧
    (recountMaybe s).top.coreBor = s.top.coreBor ∧
    (recountMaybe s).fr.running = s.fr.running ∧
    (recountMaybe s).fr.epoch = s.fr.epoch ∧
    (recountMaybe s).pending = s.pending := by
  simp [recountMaybe]

@[simp] theorem serveBoundary_keeps (s : State) :
    (serveBoundary s).top.state = s.top.state ∧
    (serveBoundary s).top.coreBor = s.top.coreBor ∧
    (serveBoundary s).fr.running = s.fr.running ∧
    (serveBoundary s).fr.epoch = s.fr.epoch ∧
    (serveBoundary s).pending = s.pending := by
  simp [serveBoundary]

@[simp] theorem harvestFrame_keeps (s : State) :
    (harvestFrame s).top.state = s.top.state ∧
    (harvestFrame s).top.coreBor = s.top.coreBor ∧
    (harvestFrame s).fr.running = s.fr.running ∧
    (harvestFrame s).fr.epoch = s.fr.epoch ∧
    (harvestFrame s).pending = s.pending := by
  simp [harvestFrame]

@[simp] theorem scanResolve_keeps (s : State) :
    (scanResolve s).top.state = s.top.state ∧
    (scanResolve s).top.coreBor = s.top.coreBor ∧
    (scanResolve s).fr.running = s.fr.running ∧
    (scanResolve s).fr.epoch = s.fr.epoch ∧
    (scanResolve s).pending = s.pending := by
  simp [scanResolve]

@[simp] theorem frameWork_keeps (f : FrameIn) (was : Bool) (s : State) :
    (frameWork f was s).top.state = s.top.state ∧
    (frameWork f was s).top.coreBor = s.top.coreBor ∧
    (frameWork f was s).fr.running = s.fr.running ∧
    (frameWork f was s).fr.epoch = s.fr.epoch ∧
    (frameWork f was s).pending = s.pending := by
  simp [frameWork]

end Sys2Proof.Machine
end

