-- ==== Sys2Proof/Laws/Moves.lean ====
section
/-! SUPPORT. What a change of state does to the generator, EPOCH and the queue: the transitions of 02, the resets, and
FRAME_BOUNDARY as a whole. -/

namespace Sys2Proof.Machine

/-- From s, whose generator runs, to t by a transition: a Core BOR and the queue stay, EPOCH is set
back where no frame begins, and the generator runs in t
exactly if the islands of its state are powered. -/
def Moves (s t : State) : Prop :=
  t.top.coreBor = s.top.coreBor ∧ t.fr.epoch = (if t.top.state.runs then s.fr.epoch else s.fr.epoch - 1) ∧
    t.pending = s.pending ∧ (s.fr.running = true → t.fr.running = t.top.state.runs)

theorem Moves.of_keeps {s t : State} (hs : t.top.state = s.top.state) (hc : t.top.coreBor = s.top.coreBor)
    (hr : t.fr.running = s.fr.running) (he : t.fr.epoch = s.fr.epoch) (hp : t.pending = s.pending)
    (hp' : s.top.state.runs = true) : Moves s t := ⟨hc, by rw [he, hs, if_pos hp'], hp, fun h => by rw [hr, hs, h, hp']⟩

theorem fromGuard_moves (c : Cause) (s t : State) (h : fromGuard c s = some t) : Moves s t := by
  unfold fromGuard at h
  (repeat' split at h) <;> first
    | (rw [← Option.some.inj h]; simp [Moves, DevState.runs]; done)
    | cases h

theorem fromDecide_moves (c : Cause) (s t : State) (h : fromDecide c s = some t) : Moves s t := by
  unfold fromDecide at h
  (repeat' split at h) <;> first
    | (rw [← Option.some.inj h]; simp [Moves, DevState.runs]; done)
    | cases h

theorem fromSeal_moves (s t : State) (h : fromSeal s = some t) : Moves s t := by
  unfold fromSeal at h
  extract_lets sc wv s1 back gave r at h
  have hb : back.top.coreBor = s.top.coreBor ∧ back.fr.running = s.fr.running ∧ back.fr.epoch = s.fr.epoch ∧
      back.pending = s.pending := by
    simp only [back]
    (repeat' split) <;> simp [s1, sc, wv]
  clear_value back
  have hg : gave.top.coreBor = s.top.coreBor ∧ gave.fr.running = s.fr.running ∧ gave.fr.epoch = s.fr.epoch ∧
      gave.pending = s.pending := by
    simp only [gave]
    split <;> simp [hb]
  clear_value gave
  (repeat' split at h) <;> first
    | (cases h; done)
    | (obtain rfl := Option.some.inj h; simp [Moves, r, s1, sc, wv, hg, DevState.runs])

theorem if_some {α : Type} {c : Bool} {a t : α} (h : (if c = true then some a else none) = some t) : a = t := by
  cases c <;> simp_all

theorem fromHarvest_moves (iso : Bool) (s t : State) (h : fromHarvest iso s = some t) : Moves s t := by
  unfold fromHarvest at h
  split at h
  · rw [← Option.some.inj h]; simp [Moves, DevState.runs]
  · split at h
    · rw [← if_some h]; simp [Moves, DevState.runs]
    · split at h
      · rw [← if_some h]; simp [Moves, DevState.runs]
      · exact fromSeal_moves s t h

theorem returnFails_moves (c : Cause) (later : Bool) (s : State) : Moves s (returnFails c later s) := by
  unfold returnFails
  split <;> simp [Moves, DevState.runs]

theorem returnPhases_moves (take : Bool) (s t : State) (hp : s.top.state.runs = true) (h : returnPhases take s = some t) :
    Moves s t := by
  unfold returnPhases at h
  extract_lets next at h
  have hn : ∀ p, (next p).top.state = s.top.state ∧ (next p).top.coreBor = s.top.coreBor ∧
      (next p).fr.running = s.fr.running ∧ (next p).fr.epoch = s.fr.epoch ∧ (next p).pending = s.pending := by
    intro p; simp [next]
  clear_value next
  (repeat' split at h) <;> first
    | (rw [← Option.some.inj h]; simp [Moves, DevState.runs, hn]; done)
    | (rw [← Option.some.inj h]; refine Moves.of_keeps ?_ ?_ ?_ ?_ ?_ hp <;> simp [hn]; done)
    | cases h

theorem fromReturn_moves (c : Cause) (take : Bool) (s t : State) (hp : s.top.state.runs = true)
    (h : fromReturn c take s = some t) : Moves s t := by
  unfold fromReturn at h
  split at h
  · split at h <;> cases h
    · exact returnFails_moves c true s
    · simp [Moves, DevState.runs]
  · split at h
    · cases h; exact returnFails_moves c false s
    · split at h
      · cases h; exact returnPhases_moves take s t hp ‹_›
      · split at h <;> cases h
        simp [Moves, DevState.runs]

theorem fromWake_moves (c : Cause) (s t : State) (h : fromWake c s = some t) : Moves s t := by
  unfold fromWake at h
  (repeat' split at h) <;> first
    | (cases h; done)
    | (cases h; simp [Moves, DevState.runs])

theorem fromService_moves (c : Cause) (s t : State) (h : fromService c s = some t) : Moves s t := by
  unfold fromService at h
  split at h <;> cases h
  simp [Moves, DevState.runs]

theorem decides_moves (iso take : Bool) (s t : State) (h : decides iso take s = some t) : Moves s t := by
  unfold decides at h
  split at h
  · exact fromGuard_moves _ s t h
  · exact fromGuard_moves _ s t h
  · split at h
    · exact fromDecide_moves _ s t h
    · exact fromHarvest_moves _ s t h
  · exact fromReturn_moves _ _ s t (by simp_all [DevState.runs]) h
  · exact fromReturn_moves _ _ s t (by simp_all [DevState.runs]) h
  · exact fromWake_moves _ s t h
  · exact fromService_moves _ s t h
  · cases h

theorem takeReq_moves (w : WakeIn) (a : ReqAction) (s : State) (hp : s.top.state.runs = true) : Moves s (takeReq w a s) := by
  unfold takeReq
  split <;> simp [Moves] <;> (repeat' split) <;> simp_all [DevState.runs]

theorem Moves.then_keeps {s t u : State} (m : Moves s t) (hs : u.top.state = t.top.state) (hc : u.top.coreBor = t.top.coreBor)
    (hr : u.fr.running = t.fr.running) (he : u.fr.epoch = t.fr.epoch) (hp : u.pending = t.pending) : Moves s u :=
  ⟨hc.trans m.1, by rw [he, hs]; exact m.2.1, hp.trans m.2.2.1, fun h => by rw [hr, hs]; exact m.2.2.2 h⟩

theorem transition_moves (w : WakeIn) (iso take : Bool) (s : State) (hp : s.top.state.runs = true) :
    Moves s (transition w iso take s) := by
  unfold transition
  extract_lets t0 s1 s2
  have hm : Moves s s1 := by
    simp only [s1]
    split
    · have hd := decides_moves iso take s _ ‹_›
      split
      · exact hd.then_keeps (by simp) (by simp) (by simp) (by simp) (by simp)
      · exact hd
    · exact decides_moves iso take s _ ‹_›
    · have hw : Moves s t0 := by simp [t0, Moves, DevState.runs]
      split
      · split
        · exact hw.then_keeps (by simp) (by simp) (by simp) (by simp) (by simp)
        · exact hw
      · split
        · exact takeReq_moves w _ s hp
        · exact Moves.of_keeps rfl rfl rfl rfl rfl hp
  clear_value s1
  have h2 : Moves s s2 := by
    simp only [s2]
    split
    · exact hm.then_keeps (by simp) (by simp) (by simp) (by simp) (by simp)
    · exact hm
  clear_value s2
  exact ⟨h2.1, h2.2.1, h2.2.2.1, h2.2.2.2⟩

/-- The frame that a boundary opens, from the machine s that closed one and the machine s1 that the transition found. -/
theorem openFrame_moves (f : FrameIn) (was : Bool) {s s1 s2 : State} (k1 : s1.top.coreBor = s.top.coreBor) (k2 : s1.fr.running = s.fr.running)
    (k3 : s1.fr.epoch = s.fr.epoch + 1) (k4 : s1.pending = s.pending) (hm : Moves s1 s2) :
    let t := if powered s2 then frameWork f was s2 else s2
    t.fr.epoch = (if t.top.state.runs then s.fr.epoch + 1 else s.fr.epoch) ∧ t.pending = s.pending ∧
      t.top.coreBor = s.top.coreBor ∧ (s.fr.running = true → t.fr.running = t.top.state.runs) := by
  obtain ⟨m1, m2, m3, m4⟩ := hm
  have hk := frameWork_keeps f was s2
  have e1 : s2.top.coreBor = s.top.coreBor := m1.trans k1
  have e2 : s2.fr.epoch = if s2.top.state.runs then s.fr.epoch + 1 else s.fr.epoch := by
    rw [m2, k3]; split <;> simp
  have e3 : s2.pending = s.pending := m3.trans k4
  have e4 : s.fr.running = true → s2.fr.running = s2.top.state.runs := fun h => m4 (k2.trans h)
  dsimp only
  split
  · exact ⟨by rw [hk.2.2.2.1, hk.1]; exact e2, hk.2.2.2.2.trans e3, hk.2.1.trans e1, fun h => by rw [hk.2.2.1, hk.1]; exact e4 h⟩
  · exact ⟨e2, e3, e1, e4⟩

/-- FRAME_BOUNDARY where the islands are powered: EPOCH counts by one where a frame begins, and the generator follows the
state (R46, R48, R49). -/
theorem frameBoundary_moves (f : FrameIn) (s : State) (hp : powered s = true) :
    (frameBoundary f s).fr.epoch = (if (frameBoundary f s).top.state.runs then s.fr.epoch + 1 else s.fr.epoch) ∧
      (frameBoundary f s).pending = s.pending ∧ (frameBoundary f s).top.coreBor = s.top.coreBor ∧
      (s.fr.running = true → (frameBoundary f s).fr.running = (frameBoundary f s).top.state.runs) := by
  have hr : s.top.state.runs = true := by simp [powered] at hp; exact hp.1
  have h1 : (tallyBoundary (frameOpen (frameClose f s))).top.state = s.top.state ∧
      (tallyBoundary (frameOpen (frameClose f s))).top.coreBor = s.top.coreBor ∧
      (tallyBoundary (frameOpen (frameClose f s))).fr.running = s.fr.running ∧
      (tallyBoundary (frameOpen (frameClose f s))).fr.epoch = s.fr.epoch + 1 ∧
      (tallyBoundary (frameOpen (frameClose f s))).pending = s.pending := by simp [frameOpen]
  have key : ∀ s1 : State, s1.top.state = s.top.state → s1.top.coreBor = s.top.coreBor → s1.fr.running = s.fr.running →
      s1.fr.epoch = s.fr.epoch + 1 → s1.pending = s.pending →
      let s2 := transition f.wk (isoDone s) (takeoverDone s) { s1 with fr := { s1.fr with vdd := f.vdd } }
      let t := if powered s2 then frameWork f s.dram.owned s2 else s2
      t.fr.epoch = (if t.top.state.runs then s.fr.epoch + 1 else s.fr.epoch) ∧ t.pending = s.pending ∧
        t.top.coreBor = s.top.coreBor ∧ (s.fr.running = true → t.fr.running = t.top.state.runs) := fun s1 k0 k1 k2 k3 k4 =>
    openFrame_moves f s.dram.owned (s1 := { s1 with fr := { s1.fr with vdd := f.vdd } }) k1 k2 k3 k4
      (transition_moves f.wk (isoDone s) (takeoverDone s) _ ((congrArg DevState.runs k0).trans hr))
  have hk := key _ h1.1 h1.2.1 h1.2.2.1 h1.2.2.2.1 h1.2.2.2.2
  unfold frameBoundary
  rw [if_pos hp]
  exact hk

/-- FRAME_BOUNDARY where they are not: the generator stands. -/
theorem frameBoundary_off (f : FrameIn) (s : State) (hp : powered s = false) : frameBoundary f s = s := by
  simp [frameBoundary, hp]

end Sys2Proof.Machine
end

