-- ==== Sys2Proof/Laws/Execs.lean ====
section
/-! SUPPORT. What every command but the seven that move the state leaves alone: one lemma per meaning. -/

namespace Sys2Proof.Machine

/-- The state, a Core BOR, the generator, EPOCH and the queue of t are those of s. -/
def Stays (s t : State) : Prop :=
  t.top.state = s.top.state ∧ t.top.coreBor = s.top.coreBor ∧ t.fr.running = s.fr.running ∧ t.fr.epoch = s.fr.epoch ∧
    t.pending = s.pending

theorem Stays.of_next {s a t : State} (h : (.next a : Out) = .next t) (k : Stays s a) : Stays s t := by
  cases h; exact k

theorem Stays.trans {s t u : State} (h : Stays s t) (k : Stays t u) : Stays s u := by
  unfold Stays at *; simp_all

/-- An outcome that may refuse: its next state is the optional state's. -/
theorem orRefuse_next {o : Option State} {u : State} (h : orRefuse o = .next u) : o = some u := by
  cases o with
  | none => cases h
  | some a => exact congrArg some (Host.Outcome.next.inj h)

theorem drained_stays {b : Bool} {f : State → State} {s x u : State} (h : orRefuse ((drainAll b x).map f) = .next u)
    (hx : Stays s x) (hf : ∀ y, Stays y (f y)) : Stays s u := by
  obtain ⟨y, hy, rfl⟩ := Option.map_eq_some_iff.mp (orRefuse_next h)
  exact hx.trans (Stays.trans (drainAll_keeps b x y hy) (hf y))

theorem preciseFault_stays {b : Bool} {a : Word} {s x u : State} (h : preciseFault b a x = .next u) (hx : Stays s x) :
    Stays s u := drained_stays h hx fun y => by simp [Stays]

theorem oneInsn_stays {b : Bool} {f : State → Out} {s u : State} (hf : ∀ t, f s = .next t → Stays s t)
    (h : oneInsn b f s = .next u) : Stays s u := by
  unfold oneInsn at h
  split at h
  · exact (hf _ ‹_›).trans (Stays.of_next h (by simp [Stays]))
  · exact hf u h

theorem Stays.rfl (s : State) : Stays s s := ⟨.refl _, .refl _, .refl _, .refl _, .refl _⟩

theorem takeAsync_stays (b : Bool) (s : State) : Stays s (takeAsync b s) := takeAsync_keeps b s

theorem setStalled_stays (b v : Bool) (s : State) : Stays s (setStalled b v s) := setStalled_keeps b v s

theorem drainedInsn_stays {b : Bool} {f : State → State} {s u : State} (h : drainedInsn b f s = .next u)
    (hf : ∀ y, Stays y (f y)) : Stays s u :=
  drained_stays h (takeAsync_stays b s) fun y => (hf y).trans (setStalled_stays b false _)

theorem windowInsn_stays {b : Bool} {f : State → State} {s u : State} (h : windowInsn b f s = .next u)
    (hf : ∀ y, Stays y (f y)) : Stays s u := by
  refine oneInsn_stays (fun u h => ?_) h
  split at h
  · exact drainedInsn_stays h hf
  · exact Stays.of_next h (Stays.rfl s)

theorem arrayRead_stays {b : Bool} {addr : Word} {size : Nat} {fill : Bool} {s x u : State}
    (h : arrayRead b addr size fill x = .next u) (hx : Stays s x) : Stays s u := by
  unfold arrayRead at h
  extract_lets off r s1 c give at h
  have hk : Stays s s1 := by
    have h0 := coreAccess_keeps b off fill x
    refine hx.trans ?_
    simp only [s1, Stays, markAccess_keeps]
    exact h0
  have hg : ∀ v u, give v = .next u → Stays s u := fun v u h => hk.trans (Stays.of_next h (by simp [Stays]))
  clear_value s1 give
  split at h
  · exact hg _ u h
  · exact hg _ u h
  · exact preciseFault_stays h (hk.trans (setStalled_stays b false _))
  · exact hk.trans (Stays.of_next h (setStalled_stays b true _))

theorem execHrstNAssert_stays (s : State) (u : State) (h : execHrstNAssert s = .next u) : Stays s u :=
  Stays.of_next h (by simp [Stays])
theorem execRefLoss_stays (s : State) (u : State) (h : execRefLoss s = .next u) : Stays s u :=
  Stays.of_next h (by simp [Stays])
theorem execVddCoreDroop_stays (level : Nat) (tick : Nat) (s : State) (u : State) (h : execVddCoreDroop level tick s = .next u) : Stays s u :=
  Stays.of_next h (by simp [Stays])
theorem execThrottleRelease_stays (s : State) (u : State) (h : execThrottleRelease s = .next u) : Stays s u :=
  Stays.of_next h (by simp [Stays])
theorem execScoutVinSample_stays (x : VinSample) (s : State) (u : State) (h : execScoutVinSample x s = .next u) : Stays s u :=
  Stays.of_next h (by simp [Stays])
theorem execScoutMuxConversion_stays (raw : Int) (s : State) (u : State) (h : execScoutMuxConversion raw s = .next u) : Stays s u :=
  Stays.of_next h (by simp [Stays])
theorem execDormantWakeup_stays (x : SlowSample) (s : State) (u : State) (h : execDormantWakeup x s = .next u) : Stays s u :=
  Stays.of_next h (by simp [Stays])
theorem execWakeQualifierAbandon_stays (s : State) (u : State) (h : execWakeQualifierAbandon s = .next u) : Stays s u :=
  Stays.of_next h (by simp [Stays])
theorem execShipComparatorFire_stays (vin : Int) (s : State) (u : State) (h : execShipComparatorFire vin s = .next u) : Stays s u :=
  Stays.of_next h (by simp [Stays])
theorem execTamperEdgeLatch_stays (s : State) (u : State) (h : execTamperEdgeLatch s = .next u) : Stays s u :=
  Stays.of_next h (by simp [Stays])
theorem execTamperClear_stays (s : State) (u : State) (h : execTamperClear s = .next u) : Stays s u :=
  Stays.of_next h (by simp [Stays])
theorem execWetClear_stays (s : State) (u : State) (h : execWetClear s = .next u) : Stays s u :=
  Stays.of_next h (by simp [Stays])
theorem execRtcTick_stays (s : State) (u : State) (h : execRtcTick s = .next u) : Stays s u :=
  Stays.of_next h (by simp [Stays])
theorem execRtcStop_stays (s : State) (u : State) (h : execRtcStop s = .next u) : Stays s u :=
  Stays.of_next h (by simp [Stays])
theorem execRtcOscOk_stays (s : State) (u : State) (h : execRtcOscOk s = .next u) : Stays s u :=
  Stays.of_next h (by simp [Stays])
theorem execWatchExit_stays (s : State) (u : State) (h : execWatchExit s = .next u) : Stays s u :=
  Stays.of_next h (by simp [Stays])
theorem execHdecideLimit_stays (s : State) (u : State) (h : execHdecideLimit s = .next u) : Stays s u :=
  Stays.of_next h (by simp [Stays])
theorem execWakeScanDone_stays (failed : List Nat) (s : State) (u : State) (h : execWakeScanDone failed s = .next u) : Stays s u :=
  Stays.of_next h (by simp [Stays])
theorem execWakeImageLoad_stays (i : ImageIn) (s : State) (u : State) (h : execWakeImageLoad i s = .next u) : Stays s u :=
  Stays.of_next h (by simp [Stays])
theorem execWakeCatalogScan_stays (headers : List Nat) (s : State) (u : State) (h : execWakeCatalogScan headers s = .next u) : Stays s u :=
  Stays.of_next h (by simp [Stays])
theorem execWakeDecision_stays (s : State) (u : State) (h : execWakeDecision s = .next u) : Stays s u :=
  Stays.of_next h (by simp [Stays])
theorem execStateReqNop_stays (key : BitVec 16) (be : ByteEn) (s : State) (u : State) (h : execStateReqNop key be s = .next u) : Stays s u :=
  Stays.of_next h (by simp [Stays])
theorem execStateReqServiceEnter_stays (key : BitVec 16) (be : ByteEn) (s : State) (u : State) (h : execStateReqServiceEnter key be s = .next u) : Stays s u :=
  Stays.of_next h (by simp [Stays])
theorem execStateReqServiceLeave_stays (key : BitVec 16) (be : ByteEn) (s : State) (u : State) (h : execStateReqServiceLeave key be s = .next u) : Stays s u :=
  Stays.of_next h (by simp [Stays])
theorem execStateReqEarly_stays (key : BitVec 16) (be : ByteEn) (s : State) (u : State) (h : execStateReqEarly key be s = .next u) : Stays s u :=
  Stays.of_next h (by simp [Stays])
theorem execStateReqDiscardComb_stays (key : BitVec 16) (be : ByteEn) (s : State) (u : State) (h : execStateReqDiscardComb key be s = .next u) : Stays s u :=
  Stays.of_next h (by simp [Stays])
theorem execStateReqDormant_stays (key : BitVec 16) (be : ByteEn) (s : State) (u : State) (h : execStateReqDormant key be s = .next u) : Stays s u :=
  Stays.of_next h (by simp [Stays])
theorem execStateReqShip_stays (key : BitVec 16) (be : ByteEn) (s : State) (u : State) (h : execStateReqShip key be s = .next u) : Stays s u :=
  Stays.of_next h (by simp [Stays])
theorem execStateReqSoftReset_stays (key : BitVec 16) (be : ByteEn) (s : State) (u : State) (h : execStateReqSoftReset key be s = .next u) : Stays s u :=
  Stays.of_next h (by simp [Stays])
theorem execStateReqReserved_stays (cmd : Nat) (key : BitVec 16) (be : ByteEn) (s : State) (u : State) (h : execStateReqReserved cmd key be s = .next u) : Stays s u := by
  unfold execStateReqReserved at h
  split at h <;> exact Stays.of_next h (by simp [Stays])
theorem execPostBufferEnter_stays (e : PostEntry) (s : State) (u : State) (h : execPostBufferEnter e s = .next u) : Stays s u :=
  Stays.of_next h (by simp [Stays])
theorem execRegisterWrite_stays (e : PostEntry) (s : State) (u : State) (h : execRegisterWrite e s = .next u) : Stays s u :=
  Stays.of_next h (by simp [Stays])
theorem execHostcfgSyncWrite_stays (data : Word) (be : ByteEn) (s : State) (u : State) (h : execHostcfgSyncWrite data be s = .next u) : Stays s u :=
  Stays.of_next h (by simp [Stays])
theorem execSyncModeStart_stays (s : State) (u : State) (h : execSyncModeStart s = .next u) : Stays s u :=
  Stays.of_next h (by simp [Stays])
theorem execIntStatRead_stays (s : State) (u : State) (h : execIntStatRead s = .next u) : Stays s u :=
  Stays.of_next h (by simp [Stays])
theorem execIntStatW1c_stays (data : Word) (be : ByteEn) (s : State) (u : State) (h : execIntStatW1c data be s = .next u) : Stays s u :=
  Stays.of_next h (by simp [Stays])
theorem execIntForceWrite_stays (data : Word) (be : ByteEn) (s : State) (u : State) (h : execIntForceWrite data be s = .next u) : Stays s u :=
  Stays.of_next h (by simp [Stays])
theorem execTblAddrWrite_stays (data : Word) (be : ByteEn) (s : State) (u : State) (h : execTblAddrWrite data be s = .next u) : Stays s u :=
  Stays.of_next h (by simp [Stays])
theorem execTableFetchDone_stays (s : State) (u : State) (h : execTableFetchDone s = .next u) : Stays s u :=
  Stays.of_next h (by simp [Stays])
theorem execTblDataRead_stays (s : State) (u : State) (h : execTblDataRead s = .next u) : Stays s u :=
  Stays.of_next h (by simp [Stays])
theorem execTblDataWrite_stays (data : Word) (be : ByteEn) (s : State) (u : State) (h : execTblDataWrite data be s = .next u) : Stays s u :=
  Stays.of_next h (by simp [Stays])
theorem execVinNowRead_stays (s : State) (u : State) (h : execVinNowRead s = .next u) : Stays s u :=
  Stays.of_next h (by simp [Stays])
theorem execVstoreNowRead_stays (s : State) (u : State) (h : execVstoreNowRead s = .next u) : Stays s u :=
  Stays.of_next h (by simp [Stays])
theorem execThrottleStatRead_stays (s : State) (u : State) (h : execThrottleStatRead s = .next u) : Stays s u :=
  Stays.of_next h (by simp [Stays])
theorem execFaultPinCtrlRead_stays (s : State) (u : State) (h : execFaultPinCtrlRead s = .next u) : Stays s u :=
  Stays.of_next h (by simp [Stays])
theorem execRtcSecRead_stays (s : State) (u : State) (h : execRtcSecRead s = .next u) : Stays s u :=
  Stays.of_next h (by simp [Stays])
theorem execRtcSecWrite_stays (data : Word) (be : ByteEn) (s : State) (u : State) (h : execRtcSecWrite data be s = .next u) : Stays s u :=
  Stays.of_next h (by simp [Stays])
theorem execMboxH2cWrite_stays (data : Word) (be : ByteEn) (s : State) (u : State) (h : execMboxH2cWrite data be s = .next u) : Stays s u :=
  Stays.of_next h (by simp [Stays])
theorem execMboxC2hRead_stays (s : State) (u : State) (h : execMboxC2hRead s = .next u) : Stays s u :=
  Stays.of_next h (by simp [Stays])
theorem execMboxPing_stays (s : State) (u : State) (h : execMboxPing s = .next u) : Stays s u :=
  Stays.of_next h (by simp [Stays])
theorem execMboxFwVersion_stays (s : State) (u : State) (h : execMboxFwVersion s = .next u) : Stays s u :=
  Stays.of_next h (by simp [Stays])
theorem execMboxLogMark_stays (s : State) (u : State) (h : execMboxLogMark s = .next u) : Stays s u :=
  Stays.of_next h (by simp [Stays])
theorem execMboxExtension_stays (result : BitVec 8) (s : State) (u : State) (h : execMboxExtension result s = .next u) : Stays s u :=
  Stays.of_next h (by simp [Stays])
theorem execMboxUnknown_stays (s : State) (u : State) (h : execMboxUnknown s = .next u) : Stays s u :=
  Stays.of_next h (by simp [Stays])
theorem execUnlockRequest_stays (data : Word) (be : ByteEn) (s : State) (u : State) (h : execUnlockRequest data be s = .next u) : Stays s u :=
  Stays.of_next h (by simp [Stays])
theorem execUnlockResponse_stays (data : Word) (be : ByteEn) (s : State) (u : State) (h : execUnlockResponse data be s = .next u) : Stays s u :=
  Stays.of_next h (by simp [Stays])
theorem execUnlockRelock_stays (be : ByteEn) (s : State) (u : State) (h : execUnlockRelock be s = .next u) : Stays s u :=
  Stays.of_next h (by simp [Stays])
theorem execUnlockTimeout_stays (s : State) (u : State) (h : execUnlockTimeout s = .next u) : Stays s u :=
  Stays.of_next h (by simp [Stays])
theorem execRelockExpiry_stays (s : State) (u : State) (h : execRelockExpiry s = .next u) : Stays s u :=
  Stays.of_next h (by simp [Stays])
theorem execLockoutEnd_stays (s : State) (u : State) (h : execLockoutEnd s = .next u) : Stays s u :=
  Stays.of_next h (by simp [Stays])
theorem execRingSelWrite_stays (data : Word) (be : ByteEn) (s : State) (u : State) (h : execRingSelWrite data be s = .next u) : Stays s u :=
  Stays.of_next h (by simp [Stays])
theorem execRingPortWrite_stays (data : Word) (be : ByteEn) (s : State) (u : State) (h : execRingPortWrite data be s = .next u) : Stays s u :=
  Stays.of_next h (by simp [Stays])
theorem execRingPortRead_stays (s : State) (u : State) (h : execRingPortRead s = .next u) : Stays s u :=
  Stays.of_next h (by simp [Stays])
theorem execRingDoorbellWrite_stays (data : Word) (be : ByteEn) (s : State) (u : State) (h : execRingDoorbellWrite data be s = .next u) : Stays s u :=
  Stays.of_next h (by simp [Stays])
theorem execRingReset_stays (r : Nat) (s : State) (u : State) (h : execRingReset r s = .next u) : Stays s u :=
  Stays.of_next h (by simp [Stays])
theorem execAdmitScanDone_stays (t : Nat) (s : State) (u : State) (h : execAdmitScanDone t s = .next u) : Stays s u :=
  Stays.of_next h (by simp [Stays])
theorem execMapRecountDone_stays (s : State) (u : State) (h : execMapRecountDone s = .next u) : Stays s u :=
  Stays.of_next h (by simp [Stays])
theorem execAdmitWaitExpiry_stays (t : Nat) (s : State) (u : State) (h : execAdmitWaitExpiry t s = .next u) : Stays s u :=
  Stays.of_next h (by simp [Stays])
theorem execAdmitMapWriteDone_stays (t : Nat) (s : State) (u : State) (h : execAdmitMapWriteDone t s = .next u) : Stays s u :=
  Stays.of_next h (by simp [Stays])
theorem execCleanScanDone_stays (t : Nat) (s : State) (u : State) (h : execCleanScanDone t s = .next u) : Stays s u :=
  Stays.of_next h (by simp [Stays])
theorem execCleanWriteDone_stays (t : Nat) (s : State) (u : State) (h : execCleanWriteDone t s = .next u) : Stays s u :=
  Stays.of_next h (by simp [Stays])
theorem execAnswerPostDeferred_stays (t : Nat) (s : State) (u : State) (h : execAnswerPostDeferred t s = .next u) : Stays s u :=
  Stays.of_next h (by simp [Stays])
theorem execReserveRelease_stays (s : State) (u : State) (h : execReserveRelease s = .next u) : Stays s u :=
  Stays.of_next h (by simp [Stays])
theorem execChargeCtrlStep_stays (be : ByteEn) (data : Word) (s : State) (u : State) (h : execChargeCtrlStep be data s = .next u) : Stays s u :=
  Stays.of_next h (by simp [Stays])
theorem execChargeCtrlRefcap_stays (be : ByteEn) (data : Word) (s : State) (u : State) (h : execChargeCtrlRefcap be data s = .next u) : Stays s u :=
  Stays.of_next h (by simp [Stays])
theorem execStepTestStep_stays (s : State) (u : State) (h : execStepTestStep s = .next u) : Stays s u :=
  Stays.of_next h (by simp [Stays])
theorem execStepTestResult_stays (s : State) (u : State) (h : execStepTestResult s = .next u) : Stays s u :=
  Stays.of_next h (by simp [Stays])
theorem execStepTestDueAgain_stays (s : State) (u : State) (h : execStepTestDueAgain s = .next u) : Stays s u :=
  Stays.of_next h (by simp [Stays])
theorem execIntervalEnd_stays (s : State) (u : State) (h : execIntervalEnd s = .next u) : Stays s u :=
  Stays.of_next h (by simp [Stays])
theorem execOwnGntIsolate_stays (_tick : Nat) (s : State) (u : State) (h : execOwnGntIsolate _tick s = .next u) : Stays s u :=
  Stays.of_next h (by simp [Stays])
theorem execForcedIsolation_stays (s : State) (u : State) (h : execForcedIsolation s = .next u) : Stays s u :=
  Stays.of_next h (by simp [Stays])
theorem execRefreshDue_stays (rank : Nat) (s : State) (u : State) (h : execRefreshDue rank s = .next u) : Stays s u :=
  Stays.of_next h (by simp [Stays])
theorem execZqcsDue_stays (s : State) (u : State) (h : execZqcsDue s = .next u) : Stays s u :=
  Stays.of_next h (by simp [Stays])
theorem execTrainStart_stays (be : ByteEn) (s : State) (u : State) (h : execTrainStart be s = .next u) : Stays s u :=
  Stays.of_next h (by simp [Stays])
theorem execTrainDone_stays (okHost : Bool) (ok2400 : Bool) (s : State) (u : State) (h : execTrainDone okHost ok2400 s = .next u) : Stays s u :=
  Stays.of_next h (by simp [Stays])
theorem execTrickleGo_stays (be : ByteEn) (s : State) (u : State) (h : execTrickleGo be s = .next u) : Stays s u :=
  Stays.of_next h (by simp [Stays])
theorem execTrickleCancel_stays (be : ByteEn) (s : State) (u : State) (h : execTrickleCancel be s = .next u) : Stays s u :=
  Stays.of_next h (by simp [Stays])
theorem execTrickleCellCopied_stays (c : Nat) (s : State) (u : State) (h : execTrickleCellCopied c s = .next u) : Stays s u :=
  Stays.of_next h (by simp [Stays])
theorem execTricklePassEnd_stays (s : State) (u : State) (h : execTricklePassEnd s = .next u) : Stays s u :=
  Stays.of_next h (by simp [Stays])
theorem execCellSaved_stays (lane : Nat) (s : State) (u : State) (h : execCellSaved lane s = .next u) : Stays s u :=
  Stays.of_next h (by simp [Stays])
theorem execNandProgramStatus_stays (target : Nat) (page : Nat) (pass : Bool) (s : State) (u : State) (h : execNandProgramStatus target page pass s = .next u) : Stays s u :=
  Stays.of_next h (by simp [Stays])
theorem execTargetTimeout_stays (target : Nat) (s : State) (u : State) (h : execTargetTimeout target s = .next u) : Stays s u :=
  Stays.of_next h (by simp [Stays])
theorem execHSealEnd_stays (s : State) (u : State) (h : execHSealEnd s = .next u) : Stays s u :=
  Stays.of_next h (by simp [Stays])
theorem execNandEraseDone_stays (target : Nat) (stripe : Nat) (pass : Bool) (s : State) (u : State) (h : execNandEraseDone target stripe pass s = .next u) : Stays s u :=
  Stays.of_next h (by simp [Stays])
theorem execVerifyCombDone_stays (v : VerifyIn) (s : State) (u : State) (h : execVerifyCombDone v s = .next u) : Stays s u :=
  Stays.of_next h (by simp [Stays])
theorem execSweepUnitDone_stays (lane : Nat) (fs : List Footer) (s : State) (u : State) (h : execSweepUnitDone lane fs s = .next u) : Stays s u :=
  Stays.of_next h (by simp [Stays])
theorem execDemandLookupDone_stays (r : Nat) (s : State) (u : State) (h : execDemandLookupDone r s = .next u) : Stays s u :=
  Stays.of_next h (by simp [Stays])
theorem execRestorePageRead_stays (p : PageRead) (s : State) (u : State) (h : execRestorePageRead p s = .next u) : Stays s u :=
  Stays.of_next h (by simp [Stays])
theorem execCellRestored_stays (lane : Nat) (s : State) (u : State) (h : execCellRestored lane s = .next u) : Stays s u :=
  Stays.of_next h (by simp [Stays])
theorem execEndWordRetry_stays (okA : Bool) (okB : Bool) (s : State) (u : State) (h : execEndWordRetry okA okB s = .next u) : Stays s u :=
  Stays.of_next h (by simp [Stays])
theorem execArrayNop_stays (arg : Nat) (be : ByteEn) (s : State) (u : State) (h : execArrayNop arg be s = .next u) : Stays s u :=
  Stays.of_next h (by simp [Stays])
theorem execArrayLdlo_stays (be : ByteEn) (s : State) (u : State) (h : execArrayLdlo be s = .next u) : Stays s u :=
  Stays.of_next h (by simp [Stays])
theorem execArrayLdhi_stays (be : ByteEn) (s : State) (u : State) (h : execArrayLdhi be s = .next u) : Stays s u :=
  Stays.of_next h (by simp [Stays])
theorem execArrayGetlo_stays (be : ByteEn) (s : State) (u : State) (h : execArrayGetlo be s = .next u) : Stays s u :=
  Stays.of_next h (by simp [Stays])
theorem execArrayGethi_stays (be : ByteEn) (s : State) (u : State) (h : execArrayGethi be s = .next u) : Stays s u :=
  Stays.of_next h (by simp [Stays])
theorem execArrayRead_stays (r : Requester) (be : ByteEn) (s : State) (u : State) (h : execArrayRead r be s = .next u) : Stays s u :=
  Stays.of_next h (by simp [Stays])
theorem execArrayProgram_stays (r : Requester) (key : BitVec 16) (arg : BitVec 8) (be : ByteEn) (s : State) (u : State) (h : execArrayProgram r key arg be s = .next u) : Stays s u :=
  Stays.of_next h (by simp [Stays])
theorem execArrayErase_stays (r : Requester) (key : BitVec 16) (be : ByteEn) (s : State) (u : State) (h : execArrayErase r key be s = .next u) : Stays s u :=
  Stays.of_next h (by simp [Stays])
theorem execArrayBlank_stays (r : Requester) (be : ByteEn) (s : State) (u : State) (h : execArrayBlank r be s = .next u) : Stays s u :=
  Stays.of_next h (by simp [Stays])
theorem execArraySuspend_stays (r : Requester) (be : ByteEn) (s : State) (u : State) (h : execArraySuspend r be s = .next u) : Stays s u :=
  Stays.of_next h (by simp [Stays])
theorem execArrayResume_stays (r : Requester) (be : ByteEn) (s : State) (u : State) (h : execArrayResume r be s = .next u) : Stays s u :=
  Stays.of_next h (by simp [Stays])
theorem execArrayReserved_stays (r : Requester) (op : Nat) (be : ByteEn) (s : State) (u : State) (h : execArrayReserved r op be s = .next u) : Stays s u :=
  Stays.of_next h (by simp [Stays])
theorem execArrayProgramEnd_stays (pulses : Nat) (ok : Bool) (s : State) (u : State) (h : execArrayProgramEnd pulses ok s = .next u) : Stays s u :=
  Stays.of_next h (by simp [Stays])
theorem execArrayEraseEnd_stays (pulses : Nat) (ok : Bool) (s : State) (u : State) (h : execArrayEraseEnd pulses ok s = .next u) : Stays s u :=
  Stays.of_next h (by simp [Stays])
theorem execEraseSuspendEffect_stays (s : State) (u : State) (h : execEraseSuspendEffect s = .next u) : Stays s u :=
  Stays.of_next h (by simp [Stays])
theorem execArrayFetch_stays (b : Bool) (addr : Word) (isFetch : Bool) (s : State) (u : State) (h : execArrayFetch b addr isFetch s = .next u) : Stays s u := by
  refine oneInsn_stays (fun u h => ?_) h
  split at h
  · split at h
    · exact preciseFault_stays h (setStalled_stays b false s)
    · exact arrayRead_stays h (takeAsync_stays b s)
  · exact Stays.of_next h (Stays.rfl s)
theorem execAutoResume_stays (s : State) (u : State) (h : execAutoResume s = .next u) : Stays s u :=
  Stays.of_next h (by simp [Stays])
theorem execOverlayCommit_stays (be : ByteEn) (s : State) (u : State) (h : execOverlayCommit be s = .next u) : Stays s u :=
  Stays.of_next h (by simp [Stays])
theorem execOverlayRevert_stays (be : ByteEn) (s : State) (u : State) (h : execOverlayRevert be s = .next u) : Stays s u :=
  Stays.of_next h (by simp [Stays])
theorem commitStore_stays (b : Bool) (addr : Word) (size : Nat) (data : Word) (s u : State)
    (h : commitStore b addr size data s = .next u) : Stays s u := by
  unfold commitStore at h
  extract_lets a s1 at h
  have h1 : Stays s s1 := takeAsync_stays b s
  clear_value s1
  split at h
  · exact Stays.of_next h (Stays.rfl s)
  · split at h
    · exact preciseFault_stays h (setStalled_stays b false s)
    · split at h
      · exact drainedInsn_stays h fun y => by simp [Stays]
      · split at h
        · exact h1.trans (Stays.of_next h (by simp [Stays]))
        · exact h1.trans (Stays.of_next h (setStalled_stays b true s1))

theorem execCoreStore_stays (b : Bool) (addr : Word) (size : Nat) (data : Word) (s : State) (u : State) (h : execCoreStore b addr size data s = .next u) : Stays s u := by
  exact oneInsn_stays (fun u h => commitStore_stays b addr size data s u h) h
theorem doLoad_stays (b : Bool) (addr : Word) (size : Nat) (s u : State) (h : doLoad b addr size s = .next u) :
    Stays s u := by
  unfold doLoad at h
  extract_lets a s1 at h
  have h1 : Stays s s1 := takeAsync_stays b s
  clear_value s1
  split at h
  · exact Stays.of_next h (Stays.rfl s)
  · split at h
    · exact preciseFault_stays h (setStalled_stays b false s)
    · split at h
      · exact drainedInsn_stays h fun y => by simp [Stays]
      · split at h
        · split at h <;> exact h1.trans (Stays.of_next h (by simp [Stays]))
        · split at h
          · cases h
          · split at h
            · exact h1.trans (Stays.of_next h (by simp [Stays]))
            · split at h
              · exact arrayRead_stays h h1
              · have hk := ramRead_keeps b a size s1
                split at h
                · rename_i heq; rw [heq] at hk
                  exact h1.trans (Stays.trans hk (Stays.of_next h (by simp [Stays])))
                · rename_i heq; rw [heq] at hk
                  exact preciseFault_stays h ((h1.trans hk).trans (setStalled_stays b false _))

theorem execCoreLoad_stays (b : Bool) (addr : Word) (size : Nat) (s : State) (u : State) (h : execCoreLoad b addr size s = .next u) : Stays s u := by
  exact oneInsn_stays (fun u h => doLoad_stays b addr size s u h) h
theorem execStorePerformed_stays (b : Bool) (s : State) (u : State) (h : execStorePerformed b s = .next u) : Stays s u := by
  unfold execStorePerformed at h
  split at h
  · exact performHead_keeps b s u (orRefuse_next h)
  · exact Stays.of_next h (Stays.rfl s)
theorem execCoreFence_stays (b : Bool) (s : State) (u : State) (h : execCoreFence b s = .next u) : Stays s u :=
  windowInsn_stays h Stays.rfl
theorem execSyncException_stays (b : Bool) (_cause : ExcCause) (addr : Word) (s : State) (u : State) (h : execSyncException b _cause addr s = .next u) : Stays s u := by
  refine oneInsn_stays (fun u h => ?_) h
  split at h
  · exact preciseFault_stays h (Stays.rfl s)
  · exact Stays.of_next h (Stays.rfl s)
theorem execCoreInterrupt_stays (b : Bool) (s : State) (u : State) (h : execCoreInterrupt b s = .next u) : Stays s u := by
  unfold execCoreInterrupt at h
  split at h <;> exact Stays.of_next h (by simp [Stays])
theorem execH2cTake_stays (b : Bool) (s : State) (u : State) (h : execH2cTake b s = .next u) : Stays s u :=
  windowInsn_stays h fun y => by simp [Stays]
theorem execC2hPost_stays (b : Bool) (data : Word) (s : State) (u : State) (h : execC2hPost b data s = .next u) : Stays s u :=
  windowInsn_stays h fun y => by simp [Stays]
theorem execDbH2cClear_stays (b : Bool) (data : Word) (s : State) (u : State) (h : execDbH2cClear b data s = .next u) : Stays s u :=
  windowInsn_stays h fun y => by simp [Stays]
theorem execDbC2hSet_stays (b : Bool) (data : Word) (s : State) (u : State) (h : execDbC2hSet b data s = .next u) : Stays s u :=
  windowInsn_stays h fun y => by simp [Stays]
theorem execWdogKick_stays (b : Bool) (data : Word) (s : State) (u : State) (h : execWdogKick b data s = .next u) : Stays s u :=
  windowInsn_stays h fun y => by simp [Stays]
theorem execWatchdogExpiry_stays (b : Bool) (s : State) (u : State) (h : execWatchdogExpiry b s = .next u) : Stays s u :=
  Stays.of_next h (by simp [Stays])
theorem execExtensionActivation_stays (k : ActKind) (s : State) (u : State) (h : execExtensionActivation k s = .next u) : Stays s u :=
  Stays.of_next h (by simp [Stays])
theorem execExtensionSliceExpiry_stays (s : State) (u : State) (h : execExtensionSliceExpiry s = .next u) : Stays s u :=
  Stays.of_next h (by simp [Stays])
theorem execTallyMessage_stays (src : Nat) (kind : Nat) (addr : Word) (s : State) (u : State) (h : execTallyMessage src kind addr s = .next u) : Stays s u :=
  Stays.of_next h (by simp [Stays])
theorem execTallyWindowEnd_stays (src : Nat) (s : State) (u : State) (h : execTallyWindowEnd src s = .next u) : Stays s u :=
  Stays.of_next h (by simp [Stays])
theorem execFaultNPulseEnd_stays (s : State) (u : State) (h : execFaultNPulseEnd s = .next u) : Stays s u :=
  Stays.of_next h (by simp [Stays])
theorem execDegradedExit_stays (s : State) (u : State) (h : execDegradedExit s = .next u) : Stays s u :=
  Stays.of_next h (by simp [Stays])
theorem execFaultInjectArm_stays (data : Word) (be : ByteEn) (s : State) (u : State) (h : execFaultInjectArm data be s = .next u) : Stays s u :=
  Stays.of_next h (by simp [Stays])
theorem execFaultInjectCancel_stays (be : ByteEn) (s : State) (u : State) (h : execFaultInjectCancel be s = .next u) : Stays s u :=
  Stays.of_next h (by simp [Stays])
theorem execDropRecordWrite_stays (s : State) (u : State) (h : execDropRecordWrite s = .next u) : Stays s u :=
  Stays.of_next h (by simp [Stays])
theorem execSnapRecordWrite_stays (s : State) (u : State) (h : execSnapRecordWrite s = .next u) : Stays s u :=
  Stays.of_next h (by simp [Stays])
theorem execLifecycleProvision_stays (key : BitVec 16) (be : ByteEn) (s : State) (u : State) (h : execLifecycleProvision key be s = .next u) : Stays s u :=
  Stays.of_next h (by simp [Stays])
theorem execLifecycleDeploy_stays (key : BitVec 16) (be : ByteEn) (s : State) (u : State) (h : execLifecycleDeploy key be s = .next u) : Stays s u :=
  Stays.of_next h (by simp [Stays])
theorem execLifecycleRma_stays (key : BitVec 16) (be : ByteEn) (s : State) (u : State) (h : execLifecycleRma key be s = .next u) : Stays s u :=
  Stays.of_next h (by simp [Stays])
theorem execLifecycleScrap_stays (key : BitVec 16) (be : ByteEn) (s : State) (u : State) (h : execLifecycleScrap key be s = .next u) : Stays s u :=
  Stays.of_next h (by simp [Stays])
theorem execLifecycleCmdDone_stays (ok : Bool) (s : State) (u : State) (h : execLifecycleCmdDone ok s = .next u) : Stays s u :=
  Stays.of_next h (by simp [Stays])
theorem execKeyGen_stays (slot : Nat) (s : State) (u : State) (h : execKeyGen slot s = .next u) : Stays s u :=
  Stays.of_next h (by simp [Stays])
theorem execKeyLoad_stays (idx : Nat) (data : BitVec 16) (s : State) (u : State) (h : execKeyLoad idx data s = .next u) : Stays s u :=
  Stays.of_next h (by simp [Stays])
theorem execKeyImport_stays (slot : Nat) (s : State) (u : State) (h : execKeyImport slot s = .next u) : Stays s u :=
  Stays.of_next h (by simp [Stays])
theorem execKeyZero_stays (slot : Nat) (s : State) (u : State) (h : execKeyZero slot s = .next u) : Stays s u :=
  Stays.of_next h (by simp [Stays])
theorem execKeyRaiseFw_stays (s : State) (u : State) (h : execKeyRaiseFw s = .next u) : Stays s u :=
  Stays.of_next h (by simp [Stays])
theorem execKeyRaiseExt_stays (s : State) (u : State) (h : execKeyRaiseExt s = .next u) : Stays s u :=
  Stays.of_next h (by simp [Stays])
theorem execKeyReservedOp_stays (op : Nat) (s : State) (u : State) (h : execKeyReservedOp op s = .next u) : Stays s u := by
  unfold execKeyReservedOp at h
  split at h <;> exact Stays.of_next h (by simp [Stays])
theorem execKeyOpDone_stays (ok : Bool) (s : State) (u : State) (h : execKeyOpDone ok s = .next u) : Stays s u :=
  Stays.of_next h (by simp [Stays])
theorem execJtagBypass_stays (s : State) (u : State) (h : execJtagBypass s = .next u) : Stays s u :=
  Stays.of_next h (by simp [Stays])
theorem execJtagIdcode_stays (s : State) (u : State) (h : execJtagIdcode s = .next u) : Stays s u :=
  Stays.of_next h (by simp [Stays])
theorem execJtagSamplePreload_stays (bits : List Bool) (s : State) (u : State) (h : execJtagSamplePreload bits s = .next u) : Stays s u :=
  Stays.of_next h (by simp [Stays])
theorem execJtagExtest_stays (s : State) (u : State) (h : execJtagExtest s = .next u) : Stays s u :=
  Stays.of_next h (by simp [Stays])
theorem execJtagClamp_stays (s : State) (u : State) (h : execJtagClamp s = .next u) : Stays s u :=
  Stays.of_next h (by simp [Stays])
theorem execJtagHighz_stays (s : State) (u : State) (h : execJtagHighz s = .next u) : Stays s u :=
  Stays.of_next h (by simp [Stays])
theorem execJtagUnlock_stays (data : Word) (s : State) (u : State) (h : execJtagUnlock data s = .next u) : Stays s u :=
  Stays.of_next h (by simp [Stays])
theorem execJtagObserve_stays (op : ObsOp) (s : State) (u : State) (h : execJtagObserve op s = .next u) : Stays s u :=
  Stays.of_next h (by simp [Stays])
theorem execJtagService_stays (op : SvcOp) (s : State) (u : State) (h : execJtagService op s = .next u) : Stays s u :=
  Stays.of_next h (by simp [Stays])
theorem execJtagHivedbg_stays (op : DbgOp) (s : State) (u : State) (h : execJtagHivedbg op s = .next u) : Stays s u :=
  Stays.of_next h (by simp [Stays])
theorem execJtagScan_stays (s : State) (u : State) (h : execJtagScan s = .next u) : Stays s u :=
  Stays.of_next h (by simp [Stays])
theorem execJtagOtpProg_stays (row : Nat) (val : List Word) (s : State) (u : State) (h : execJtagOtpProg row val s = .next u) : Stays s u :=
  Stays.of_next h (by simp [Stays])
theorem execJtagReserved_stays (code : Nat) (s : State) (u : State) (h : execJtagReserved code s = .next u) : Stays s u :=
  Stays.of_next h (by simp [Stays])
theorem execOrfortCharRx_stays (c : BitVec 8) (timing : Nat) (s : State) (u : State) (h : execOrfortCharRx c timing s = .next u) : Stays s u :=
  Stays.of_next h (by simp [Stays])
theorem execOrfortBreak_stays (s : State) (u : State) (h : execOrfortBreak s = .next u) : Stays s u :=
  Stays.of_next h (by simp [Stays])
theorem execOrfortHe_stays (s : State) (u : State) (h : execOrfortHe s = .next u) : Stays s u :=
  Stays.of_next h (by simp [Stays])
theorem execOrfortSt_stays (s : State) (u : State) (h : execOrfortSt s = .next u) : Stays s u :=
  Stays.of_next h (by simp [Stays])
theorem execOrfortRd_stays (off : Nat) (n : Nat) (s : State) (u : State) (h : execOrfortRd off n s = .next u) : Stays s u :=
  Stays.of_next h (by simp [Stays])
theorem execOrfortWr_stays (off : Nat) (val : Word) (s : State) (u : State) (h : execOrfortWr off val s = .next u) : Stays s u :=
  Stays.of_next h (by simp [Stays])
theorem execOrfortTb_stays (tid : Nat) (idx : Nat) (s : State) (u : State) (h : execOrfortTb tid idx s = .next u) : Stays s u :=
  Stays.of_next h (by simp [Stays])
theorem execOrfortTl_stays (tid : Nat) (idx : Nat) (ws : List Word) (s : State) (u : State) (h : execOrfortTl tid idx ws s = .next u) : Stays s u :=
  Stays.of_next h (by simp [Stays])
theorem execOrfortAr_stays (off : Nat) (n : Nat) (s : State) (u : State) (h : execOrfortAr off n s = .next u) : Stays s u :=
  Stays.of_next h (by simp [Stays])
theorem execOrfortCb_stays (slot : Option Nat) (s : State) (u : State) (h : execOrfortCb slot s = .next u) : Stays s u :=
  Stays.of_next h (by simp [Stays])
theorem execOrfortLg_stays (seq : Option Nat) (n : Nat) (s : State) (u : State) (h : execOrfortLg seq n s = .next u) : Stays s u :=
  Stays.of_next h (by simp [Stays])
theorem execOrfortUlRequest_stays (level : Nat) (s : State) (u : State) (h : execOrfortUlRequest level s = .next u) : Stays s u :=
  Stays.of_next h (by simp [Stays])
theorem execOrfortUlResponse_stays (data : Word) (s : State) (u : State) (h : execOrfortUlResponse data s = .next u) : Stays s u :=
  Stays.of_next h (by simp [Stays])
theorem execOrfortUlRelock_stays (s : State) (u : State) (h : execOrfortUlRelock s = .next u) : Stays s u :=
  Stays.of_next h (by simp [Stays])
theorem execOrfortOvSet_stays (ch : Nat) (start : Int) (ramp : Int) (s : State) (u : State) (h : execOrfortOvSet ch start ramp s = .next u) : Stays s u :=
  Stays.of_next h (by simp [Stays])
theorem execOrfortOvClear_stays (ch : Nat) (s : State) (u : State) (h : execOrfortOvClear ch s = .next u) : Stays s u :=
  Stays.of_next h (by simp [Stays])
theorem execOrfortOvOff_stays (s : State) (u : State) (h : execOrfortOvOff s = .next u) : Stays s u :=
  Stays.of_next h (by simp [Stays])
theorem execOrfortOvList_stays (s : State) (u : State) (h : execOrfortOvList s = .next u) : Stays s u :=
  Stays.of_next h (by simp [Stays])
theorem execOrfortTxDisarm_stays (s : State) (u : State) (h : execOrfortTxDisarm s = .next u) : Stays s u :=
  Stays.of_next h (by simp [Stays])
theorem execOrfortTxLaneout_stays (lane : Nat) (frame : Nat) (s : State) (u : State) (h : execOrfortTxLaneout lane frame s = .next u) : Stays s u :=
  Stays.of_next h (by simp [Stays])
theorem execOrfortTxSpoil_stays (bankB : Bool) (ovl : Bool) (s : State) (u : State) (h : execOrfortTxSpoil bankB ovl s = .next u) : Stays s u :=
  Stays.of_next h (by simp [Stays])
theorem execWeaveTickReceive_stays (t : TickIn) (s : State) (u : State) (h : execWeaveTickReceive t s = .next u) : Stays s u :=
  Stays.of_next h (by simp [Stays])
theorem execWeaveStatusReceive_stays (x : StatusIn) (s : State) (u : State) (h : execWeaveStatusReceive x s = .next u) : Stays s u :=
  Stays.of_next h (by simp [Stays])
theorem execWeaveSyncLoss_stays (s : State) (u : State) (h : execWeaveSyncLoss s = .next u) : Stays s u :=
  Stays.of_next h (by simp [Stays])
theorem execMasterElection_stays (s : State) (u : State) (h : execMasterElection s = .next u) : Stays s u :=
  Stays.of_next h (by simp [Stays])
theorem execTickLockSet_stays (s : State) (u : State) (h : execTickLockSet s = .next u) : Stays s u :=
  Stays.of_next h (by simp [Stays])
theorem execTickLockLoss_stays (s : State) (u : State) (h : execTickLockLoss s = .next u) : Stays s u :=
  Stays.of_next h (by simp [Stays])
theorem execWeaveFrozen_stays (s : State) (u : State) (h : execWeaveFrozen s = .next u) : Stays s u :=
  Stays.of_next h (by simp [Stays])
theorem execPeerLiveTimeout_stays (id : Nat) (s : State) (u : State) (h : execPeerLiveTimeout id s = .next u) : Stays s u :=
  Stays.of_next h (by simp [Stays])
theorem execWvTripLineLow_stays (s : State) (u : State) (h : execWvTripLineLow s = .next u) : Stays s u :=
  Stays.of_next h (by simp [Stays])
theorem execHrstNRelease_stays (s : State) (u : State) (h : execHrstNRelease s = .next u) : Stays s u :=
  Stays.of_next h (by simp [Stays])
theorem execGntDrop_stays (s : State) (u : State) (h : execGntDrop s = .next u) : Stays s u :=
  Stays.of_next h (by simp [Stays])
theorem execWeaveSyncRealign_stays (s : State) (u : State) (h : execWeaveSyncRealign s = .next u) : Stays s u :=
  Stays.of_next h (by simp [Stays])
theorem execNandBringUpDone_stays (b : BringUp) (s : State) (u : State) (h : execNandBringUpDone b s = .next u) : Stays s u :=
  Stays.of_next h (by simp [Stays])
theorem execCoreRestart_stays (b : Bool) (s : State) (u : State) (h : execCoreRestart b s = .next u) : Stays s u :=
  Stays.of_next h (by simp [Stays])

end Sys2Proof.Machine
end

