-- ==== Sys2Proof/Laws/Moved.lean ====
section
/-! SUPPORT. The seven commands that move the state: FRAME_BOUNDARY, the resets, HOLD_SAMPLE and WAKE_QUALIFIED. -/

namespace Sys2Proof.Machine

theorem holdSample_moved (x : SlowSample) (s : State) :
    (holdSample x s).top.coreBor = s.top.coreBor ∧ (holdSample x s).fr.running = s.fr.running ∧
    (holdSample x s).fr.epoch = s.fr.epoch ∧ (holdSample x s).pending = s.pending ∧
    (holdSample x s).top.state.runs = s.top.state.runs := by
  unfold holdSample
  split
  · extract_lets s1
    have h1 : s1.top.state = s.top.state ∧ s1.top.coreBor = s.top.coreBor ∧ s1.fr.running = s.fr.running ∧
        s1.fr.epoch = s.fr.epoch ∧ s1.pending = s.pending := holdConvert_keeps x s
    clear_value s1
    split <;> simp_all [DevState.runs]
  · simp

theorem wakeQualified_moved (w : WakeIn) (s : State) :
    (wakeQualified w s = s) ∨
    ((wakeQualified w s).top.state = .wake ∧ s.top.coreBor = false ∧ (wakeQualified w s).top.coreBor = false ∧
      (wakeQualified w s).fr.running = true ∧ (wakeQualified w s).fr.epoch = (startFrames s).fr.epoch ∧
      (wakeQualified w s).pending = s.pending) := by
  unfold wakeQualified
  split
  · simp_all [startFrames, publish]
  · exact .inl rfl

theorem aonPor_moved (s : State) :
    (aonPor s).top.state = .off ∧ (aonPor s).top.coreBor = false ∧ (aonPor s).fr.running = false ∧
    (aonPor s).fr.epoch = 0 ∧ (aonPor s).pending = s.pending := by
  simp [aonPor, porState, State.reset]

theorem aonPorRelease_moved (s : State) :
    (aonPorRelease s = s) ∨
    (s.top.state = .off ∧ (aonPorRelease s).top.state = .dormant ∧ (aonPorRelease s).top.coreBor = s.top.coreBor ∧
      (aonPorRelease s).fr.running = false ∧ (aonPorRelease s).fr.epoch = s.fr.epoch ∧
      (aonPorRelease s).pending = s.pending) := by
  unfold aonPorRelease
  split <;> simp_all

theorem coreBor_moved (s : State) :
    (coreBor s = s) ∨
    (s.top.coreBor = false ∧ (coreBor s).top.state = s.top.state ∧ (coreBor s).top.coreBor = true ∧
      (coreBor s).fr.running = (if s.top.state.runs then false else s.fr.running) ∧
      (coreBor s).fr.epoch = s.fr.epoch ∧ (coreBor s).pending = s.pending) := by
  unfold coreBor
  split
  · refine .inr ?_
    dsimp only
    split <;> simp_all
  · exact .inl rfl

theorem coreBorRelease_moved (w : WakeIn) (s : State) :
    (coreBorRelease w s = s) ∨
    (s.top.coreBor = true ∧ (coreBorRelease w s).top.coreBor = false ∧ (coreBorRelease w s).pending = s.pending ∧
      (((coreBorRelease w s).top.state = .wake ∧ (coreBorRelease w s).fr.running = true ∧
          (coreBorRelease w s).fr.epoch = (startFrames s).fr.epoch) ∨
        ((coreBorRelease w s).top.state = .dormant ∧ (coreBorRelease w s).fr.running = s.fr.running ∧
          (coreBorRelease w s).fr.epoch = s.fr.epoch))) := by
  unfold coreBorRelease
  split
  · refine .inr ?_
    dsimp only
    split
    · simp_all [startFrames, publish]
    · simp_all
  · exact .inl rfl

end Sys2Proof.Machine
end

