-- ==== Sys2Proof/Laws/Frames.lean ====
section
/-! SUPPORT. The commands that move the state, and what every other command leaves alone, over all of Instr. -/

namespace Sys2Proof.Machine

/-- The commands that can start or stop the frame generator, count EPOCH or change the state. -/
def movesState : Instr → Bool
  | .frameBoundary _ | .holdSample _ | .wakeQualified _ | .aonPor | .aonPorRelease | .coreBor | .coreBorRelease _ => true
  | _ => false

/-- A command that does not move the state keeps it, the generator, EPOCH and the queue. -/
theorem exec_stays (c : Instr) (s u : State) (hc : movesState c = false) (h : exec c s = .next u) : Stays s u := by
  cases c with
  | aonPor => cases hc
  | aonPorRelease => cases hc
  | coreBor => cases hc
  | coreBorRelease w => cases hc
  | hrstNAssert => exact execHrstNAssert_stays s u h
  | frameBoundary f => cases hc
  | refLoss => exact execRefLoss_stays s u h
  | vddCoreDroop level tick => exact execVddCoreDroop_stays level tick s u h
  | throttleRelease => exact execThrottleRelease_stays s u h
  | scoutVinSample x => exact execScoutVinSample_stays x s u h
  | scoutMuxConversion raw => exact execScoutMuxConversion_stays raw s u h
  | holdSample x => cases hc
  | dormantWakeup x => exact execDormantWakeup_stays x s u h
  | wakeQualified w => cases hc
  | wakeQualifierAbandon => exact execWakeQualifierAbandon_stays s u h
  | shipComparatorFire vin => exact execShipComparatorFire_stays vin s u h
  | tamperEdgeLatch => exact execTamperEdgeLatch_stays s u h
  | tamperClear => exact execTamperClear_stays s u h
  | wetClear => exact execWetClear_stays s u h
  | rtcTick => exact execRtcTick_stays s u h
  | rtcStop => exact execRtcStop_stays s u h
  | rtcOscOk => exact execRtcOscOk_stays s u h
  | watchExit => exact execWatchExit_stays s u h
  | hdecideLimit => exact execHdecideLimit_stays s u h
  | wakeScanDone failed => exact execWakeScanDone_stays failed s u h
  | wakeImageLoad i => exact execWakeImageLoad_stays i s u h
  | wakeCatalogScan headers => exact execWakeCatalogScan_stays headers s u h
  | wakeDecision => exact execWakeDecision_stays s u h
  | stateReqNop key be => exact execStateReqNop_stays key be s u h
  | stateReqServiceEnter key be => exact execStateReqServiceEnter_stays key be s u h
  | stateReqServiceLeave key be => exact execStateReqServiceLeave_stays key be s u h
  | stateReqEarly key be => exact execStateReqEarly_stays key be s u h
  | stateReqDiscardComb key be => exact execStateReqDiscardComb_stays key be s u h
  | stateReqDormant key be => exact execStateReqDormant_stays key be s u h
  | stateReqShip key be => exact execStateReqShip_stays key be s u h
  | stateReqSoftReset key be => exact execStateReqSoftReset_stays key be s u h
  | stateReqReserved cmd key be => exact execStateReqReserved_stays cmd key be s u h
  | postBufferEnter e => exact execPostBufferEnter_stays e s u h
  | registerWrite e => exact execRegisterWrite_stays e s u h
  | hostcfgSyncWrite data be => exact execHostcfgSyncWrite_stays data be s u h
  | syncModeStart => exact execSyncModeStart_stays s u h
  | intStatRead => exact execIntStatRead_stays s u h
  | intStatW1c data be => exact execIntStatW1c_stays data be s u h
  | intForceWrite data be => exact execIntForceWrite_stays data be s u h
  | tblAddrWrite data be => exact execTblAddrWrite_stays data be s u h
  | tableFetchDone => exact execTableFetchDone_stays s u h
  | tblDataRead => exact execTblDataRead_stays s u h
  | tblDataWrite data be => exact execTblDataWrite_stays data be s u h
  | vinNowRead => exact execVinNowRead_stays s u h
  | vstoreNowRead => exact execVstoreNowRead_stays s u h
  | throttleStatRead => exact execThrottleStatRead_stays s u h
  | faultPinCtrlRead => exact execFaultPinCtrlRead_stays s u h
  | rtcSecRead => exact execRtcSecRead_stays s u h
  | rtcSecWrite data be => exact execRtcSecWrite_stays data be s u h
  | mboxH2cWrite data be => exact execMboxH2cWrite_stays data be s u h
  | mboxC2hRead => exact execMboxC2hRead_stays s u h
  | mboxPing => exact execMboxPing_stays s u h
  | mboxFwVersion => exact execMboxFwVersion_stays s u h
  | mboxLogMark => exact execMboxLogMark_stays s u h
  | mboxExtension result => exact execMboxExtension_stays result s u h
  | mboxUnknown => exact execMboxUnknown_stays s u h
  | unlockRequest data be => exact execUnlockRequest_stays data be s u h
  | unlockResponse data be => exact execUnlockResponse_stays data be s u h
  | unlockRelock be => exact execUnlockRelock_stays be s u h
  | unlockTimeout => exact execUnlockTimeout_stays s u h
  | relockExpiry => exact execRelockExpiry_stays s u h
  | lockoutEnd => exact execLockoutEnd_stays s u h
  | ringSelWrite data be => exact execRingSelWrite_stays data be s u h
  | ringPortWrite data be => exact execRingPortWrite_stays data be s u h
  | ringPortRead => exact execRingPortRead_stays s u h
  | ringDoorbellWrite data be => exact execRingDoorbellWrite_stays data be s u h
  | ringReset ring => exact execRingReset_stays ring s u h
  | admitScanDone t => exact execAdmitScanDone_stays t s u h
  | mapRecountDone => exact execMapRecountDone_stays s u h
  | admitWaitExpiry t => exact execAdmitWaitExpiry_stays t s u h
  | admitMapWriteDone t => exact execAdmitMapWriteDone_stays t s u h
  | cleanScanDone t => exact execCleanScanDone_stays t s u h
  | cleanWriteDone t => exact execCleanWriteDone_stays t s u h
  | answerPostDeferred t => exact execAnswerPostDeferred_stays t s u h
  | reserveRelease => exact execReserveRelease_stays s u h
  | chargeCtrlStep be data => exact execChargeCtrlStep_stays be data s u h
  | chargeCtrlRefcap be data => exact execChargeCtrlRefcap_stays be data s u h
  | stepTestStep => exact execStepTestStep_stays s u h
  | stepTestResult => exact execStepTestResult_stays s u h
  | stepTestDueAgain => exact execStepTestDueAgain_stays s u h
  | intervalEnd => exact execIntervalEnd_stays s u h
  | ownGntIsolate tick => exact execOwnGntIsolate_stays tick s u h
  | forcedIsolation => exact execForcedIsolation_stays s u h
  | refreshDue rank => exact execRefreshDue_stays rank s u h
  | zqcsDue => exact execZqcsDue_stays s u h
  | trainStart be => exact execTrainStart_stays be s u h
  | trainDone okHost ok2400 => exact execTrainDone_stays okHost ok2400 s u h
  | trickleGo be => exact execTrickleGo_stays be s u h
  | trickleCancel be => exact execTrickleCancel_stays be s u h
  | trickleCellCopied c => exact execTrickleCellCopied_stays c s u h
  | tricklePassEnd => exact execTricklePassEnd_stays s u h
  | cellSaved lane => exact execCellSaved_stays lane s u h
  | nandProgramStatus target page pass => exact execNandProgramStatus_stays target page pass s u h
  | targetTimeout target => exact execTargetTimeout_stays target s u h
  | hSealEnd => exact execHSealEnd_stays s u h
  | nandEraseDone target stripe pass => exact execNandEraseDone_stays target stripe pass s u h
  | verifyCombDone v => exact execVerifyCombDone_stays v s u h
  | sweepUnitDone lane fs => exact execSweepUnitDone_stays lane fs s u h
  | demandLookupDone ring => exact execDemandLookupDone_stays ring s u h
  | restorePageRead p => exact execRestorePageRead_stays p s u h
  | cellRestored lane => exact execCellRestored_stays lane s u h
  | endWordRetry okA okB => exact execEndWordRetry_stays okA okB s u h
  | arrayNop arg be => exact execArrayNop_stays arg be s u h
  | arrayLdlo be => exact execArrayLdlo_stays be s u h
  | arrayLdhi be => exact execArrayLdhi_stays be s u h
  | arrayGetlo be => exact execArrayGetlo_stays be s u h
  | arrayGethi be => exact execArrayGethi_stays be s u h
  | arrayRead req be => exact execArrayRead_stays req be s u h
  | arrayProgram req key arg be => exact execArrayProgram_stays req key arg be s u h
  | arrayErase req key be => exact execArrayErase_stays req key be s u h
  | arrayBlank req be => exact execArrayBlank_stays req be s u h
  | arraySuspend req be => exact execArraySuspend_stays req be s u h
  | arrayResume req be => exact execArrayResume_stays req be s u h
  | arrayReserved req op be => exact execArrayReserved_stays req op be s u h
  | arrayProgramEnd pulses ok => exact execArrayProgramEnd_stays pulses ok s u h
  | arrayEraseEnd pulses ok => exact execArrayEraseEnd_stays pulses ok s u h
  | eraseSuspendEffect => exact execEraseSuspendEffect_stays s u h
  | arrayFetch core addr isFetch => exact execArrayFetch_stays core addr isFetch s u h
  | autoResume => exact execAutoResume_stays s u h
  | overlayCommit be => exact execOverlayCommit_stays be s u h
  | overlayRevert be => exact execOverlayRevert_stays be s u h
  | coreStore core addr size data => exact execCoreStore_stays core addr size data s u h
  | coreLoad core addr size => exact execCoreLoad_stays core addr size s u h
  | storePerformed core => exact execStorePerformed_stays core s u h
  | coreFence core => exact execCoreFence_stays core s u h
  | syncException core cause addr => exact execSyncException_stays core cause addr s u h
  | coreInterrupt core => exact execCoreInterrupt_stays core s u h
  | h2cTake core => exact execH2cTake_stays core s u h
  | c2hPost core data => exact execC2hPost_stays core data s u h
  | dbH2cClear core data => exact execDbH2cClear_stays core data s u h
  | dbC2hSet core data => exact execDbC2hSet_stays core data s u h
  | wdogKick core data => exact execWdogKick_stays core data s u h
  | watchdogExpiry core => exact execWatchdogExpiry_stays core s u h
  | extensionActivation k => exact execExtensionActivation_stays k s u h
  | extensionSliceExpiry => exact execExtensionSliceExpiry_stays s u h
  | tallyMessage src kind addr => exact execTallyMessage_stays src kind addr s u h
  | tallyWindowEnd src => exact execTallyWindowEnd_stays src s u h
  | faultNPulseEnd => exact execFaultNPulseEnd_stays s u h
  | degradedExit => exact execDegradedExit_stays s u h
  | faultInjectArm data be => exact execFaultInjectArm_stays data be s u h
  | faultInjectCancel be => exact execFaultInjectCancel_stays be s u h
  | dropRecordWrite => exact execDropRecordWrite_stays s u h
  | snapRecordWrite => exact execSnapRecordWrite_stays s u h
  | lifecycleProvision key be => exact execLifecycleProvision_stays key be s u h
  | lifecycleDeploy key be => exact execLifecycleDeploy_stays key be s u h
  | lifecycleRma key be => exact execLifecycleRma_stays key be s u h
  | lifecycleScrap key be => exact execLifecycleScrap_stays key be s u h
  | lifecycleCmdDone ok => exact execLifecycleCmdDone_stays ok s u h
  | keyGen slot => exact execKeyGen_stays slot s u h
  | keyLoad idx data => exact execKeyLoad_stays idx data s u h
  | keyImport slot => exact execKeyImport_stays slot s u h
  | keyZero slot => exact execKeyZero_stays slot s u h
  | keyRaiseFw => exact execKeyRaiseFw_stays s u h
  | keyRaiseExt => exact execKeyRaiseExt_stays s u h
  | keyReservedOp op => exact execKeyReservedOp_stays op s u h
  | keyOpDone ok => exact execKeyOpDone_stays ok s u h
  | jtagBypass => exact execJtagBypass_stays s u h
  | jtagIdcode => exact execJtagIdcode_stays s u h
  | jtagSamplePreload bits => exact execJtagSamplePreload_stays bits s u h
  | jtagExtest => exact execJtagExtest_stays s u h
  | jtagClamp => exact execJtagClamp_stays s u h
  | jtagHighz => exact execJtagHighz_stays s u h
  | jtagUnlock data => exact execJtagUnlock_stays data s u h
  | jtagObserve off => exact execJtagObserve_stays off s u h
  | jtagService op => exact execJtagService_stays op s u h
  | jtagHivedbg op => exact execJtagHivedbg_stays op s u h
  | jtagScan => exact execJtagScan_stays s u h
  | jtagOtpProg row val => exact execJtagOtpProg_stays row val s u h
  | jtagReserved code => exact execJtagReserved_stays code s u h
  | orfortCharRx c timing => exact execOrfortCharRx_stays c timing s u h
  | orfortBreak => exact execOrfortBreak_stays s u h
  | orfortHe => exact execOrfortHe_stays s u h
  | orfortSt => exact execOrfortSt_stays s u h
  | orfortRd off n => exact execOrfortRd_stays off n s u h
  | orfortWr off val => exact execOrfortWr_stays off val s u h
  | orfortTb tid idx => exact execOrfortTb_stays tid idx s u h
  | orfortTl tid idx ws => exact execOrfortTl_stays tid idx ws s u h
  | orfortAr off n => exact execOrfortAr_stays off n s u h
  | orfortCb slot => exact execOrfortCb_stays slot s u h
  | orfortLg seq n => exact execOrfortLg_stays seq n s u h
  | orfortUlRequest level => exact execOrfortUlRequest_stays level s u h
  | orfortUlResponse data => exact execOrfortUlResponse_stays data s u h
  | orfortUlRelock => exact execOrfortUlRelock_stays s u h
  | orfortOvSet ch start ramp => exact execOrfortOvSet_stays ch start ramp s u h
  | orfortOvClear ch => exact execOrfortOvClear_stays ch s u h
  | orfortOvOff => exact execOrfortOvOff_stays s u h
  | orfortOvList => exact execOrfortOvList_stays s u h
  | orfortTxDisarm => exact execOrfortTxDisarm_stays s u h
  | orfortTxLaneout lane frame => exact execOrfortTxLaneout_stays lane frame s u h
  | orfortTxSpoil bankB ovl => exact execOrfortTxSpoil_stays bankB ovl s u h
  | weaveTickReceive t => exact execWeaveTickReceive_stays t s u h
  | weaveStatusReceive x => exact execWeaveStatusReceive_stays x s u h
  | weaveSyncLoss => exact execWeaveSyncLoss_stays s u h
  | masterElection => exact execMasterElection_stays s u h
  | tickLockSet => exact execTickLockSet_stays s u h
  | tickLockLoss => exact execTickLockLoss_stays s u h
  | weaveFrozen => exact execWeaveFrozen_stays s u h
  | peerLiveTimeout id => exact execPeerLiveTimeout_stays id s u h
  | wvTripLineLow => exact execWvTripLineLow_stays s u h
  | hrstNRelease => exact execHrstNRelease_stays s u h
  | gntDrop => exact execGntDrop_stays s u h
  | weaveSyncRealign => exact execWeaveSyncRealign_stays s u h
  | nandBringUpDone b => exact execNandBringUpDone_stays b s u h
  | coreRestart core => exact execCoreRestart_stays core s u h

end Sys2Proof.Machine
end

