-- ==== Sys2Proof/Laws/Leave.lean ====
section
/-! SUPPORT. How a host write leaves the post buffer and how a host read completes. -/
namespace Sys2Proof.Machine

@[simp] theorem popped_blocks (s : State) :
    (popped s).top = s.top ∧ (popped s).conf = s.conf ∧ (popped s).fr = s.fr ∧ (popped s).ring = s.ring ∧
    (popped s).adm = s.adm ∧ (popped s).scout = s.scout ∧ (popped s).store = s.store ∧ (popped s).dram = s.dram ∧
    (popped s).harv = s.harv ∧ (popped s).nand = s.nand ∧ (popped s).ret = s.ret ∧ (popped s).arr = s.arr ∧
    (popped s).hive = s.hive ∧ (popped s).tally = s.tally ∧ (popped s).sec = s.sec ∧ (popped s).jtag = s.jtag ∧
    (popped s).orf = s.orf ∧ (popped s).weave = s.weave ∧ (popped s).pending = s.pending ∧ (popped s).free = s.free := by
  simp [popped]

/-- The oldest write that reaches its register is applied to the machine it has left. -/
theorem leave_reaches (e : PostEntry) (f : State → State) (s : State) (hr : reaches e s = true) (ho : oldest e s = true) :
    leave e f s = f (popped s) := by
  have hp : takePost e s = some (popped s) := by
    unfold takePost popped
    cases hq : s.host.post with
    | nil => simp
    | cons p ps => simp_all [oldest]
  have hb : busUp (popped s) = busUp s := by
    unfold busUp powered quiesced popped; split <;> rfl
  simp only [leave, hp, gate, hb]
  simp only [reaches, Bool.and_eq_true, Bool.or_eq_true, bne_iff_ne, Bool.not_eq_true', beq_iff_eq] at hr
  obtain ⟨⟨⟨⟨⟨⟨h1, h0⟩, h2⟩, h3⟩, h4⟩, h5⟩, h6⟩ := hr
  rw [if_neg (by simp [h0]), if_pos h1, (popped_blocks s).1]
  rw [if_neg h4, if_neg (by simp [h2]), if_neg (by simp [h3]), if_neg, if_neg]
  · rcases h6 with h | h <;> simp [h]
  · simp only [not_or, not_and, h4, not_false_eq_true, true_and, ne_eq]
    intro hb0
    rcases h5 with h | h
    · exact absurd hb0 h
    · simp [h]

/-- A read with the post buffer empty drives its data. -/
theorem busRead_ready (f : State → Word × State) (s : State) (hu : accessUp s = true) (hp : s.host.post = []) :
    busRead f s = { (f s).2 with host := { (f s).2.host with hd := (f s).1 }, free := (f s).2.free + 1 } := by
  simp [busRead, hu, hp]

end Sys2Proof.Machine
end

