-- ==== Sys2Proof/Laws/Tally.lean ====
section
/-! SUPPORT. One Tally message: what it leaves in its own source's record, and that it changes no other source's. -/

namespace Sys2Proof.Machine

theorem setInt_tally (i : Nat) (s : State) : (setInt i s).tally = s.tally := by simp [setInt]

theorem postUnsol_src (t op fl : Nat) (tag : BitVec 16) (w1 w2 : Word) (s : State) :
    (postUnsol t op fl tag w1 w2 s).tally.src = s.tally.src := by
  simp only [postUnsol]; split <;> rfl

theorem postAll_src (ts : List Nat) (op fl : Nat) (tag : BitVec 16) (w1 : Word) (w2 : Nat → Word) (s : State) :
    (postAll ts op fl tag w1 w2 s).tally.src = s.tally.src :=
  foldl_proj _ (·.tally.src) (fun s t => postUnsol_src t op fl tag w1 (w2 t) s) ts s

theorem logRec_src (ty : Nat) (x : BitVec 8) (a : BitVec 16) (b : Word) (s : State) :
    (logRec ty x a b s).tally.src = s.tally.src := by
  simp only [logRec, logAt]; split <;> simp

theorem actions_src (src kind : Nat) (addr : Word) (m : BitVec 8) (sev opens esc : Bool) (n : Nat) (s : State) :
    (actions src kind addr m sev opens esc n s).tally.src = s.tally.src := by
  have hd : ∀ s, (degradeAct src m s).tally.src = s.tally.src := by
    intro s; simp only [degradeAct]; split <;> simp [logRec_src]
  have hh : ∀ s, (haltAct src s).tally.src = s.tally.src := by
    intro s; simp only [haltAct]; split <;> simp [logRec_src]
  have hv : ∀ s, (harvestAct src m s).tally.src = s.tally.src := by
    intro s; simp only [harvestAct]; split <;> simp [hd, tripCause]
  have hp : ∀ s, (pinAction s).tally.src = s.tally.src := by
    intro s; simp only [pinAction]; split <;> simp
  unfold actions
  extract_lets s1 s2 s3 s4 s5 s6
  have e1 : s1.tally.src = s.tally.src := by simp only [s1]; split <;> simp [logRec_src]
  have e2 : s2.tally.src = s.tally.src := by simp only [s2]; split <;> simp [setInt_tally, e1]
  have e3 : s3.tally.src = s.tally.src := by simp only [s3]; split <;> simp [postAll_src, e2]
  have e4 : s4.tally.src = s.tally.src := by simp only [s4]; split <;> simp [hp, e3]
  have e5 : s5.tally.src = s.tally.src := by simp only [s5]; split <;> simp [hd, e4]
  have e6 : s6.tally.src = s.tally.src := by simp only [s6]; split <;> simp [hv, e5]
  split <;> simp [hh, e6]

theorem tallyProcess_src (src kind : Nat) (addr : Word) (s : State) :
    srcOf (tallyProcess src kind addr s) src = (countMsg src kind addr s).1 ∧
    ∀ n, n ≠ src → srcOf (tallyProcess src kind addr s) n = srcOf s n := by
  simp only [tallyProcess, srcOf, actions_src]
  constructor
  · exact modSrc_srcOf src (fun _ => _) s
  · intro n hn; exact modSrc_srcOf_ne (fun _ => _) s hn

/-- A message writes its own source's record by R330 to R335, and no other's but the log's drop report. -/
theorem tally_src (src kind : Nat) (addr : Word) (s : State) (hp : powered s = true) (h48 : src ≠ 0x48) :
    srcOf (tally src kind addr s) src = (countMsg src kind addr s).1 ∧
    ∀ n, n ≠ src → n ≠ 0x48 → srcOf (tally src kind addr s) n = srcOf s n := by
  have h := tallyProcess_src src kind addr s
  unfold tally
  rw [if_pos hp]
  extract_lets s1
  split
  · have h2 := tallyProcess_src 0x48 1 (BitVec.ofNat 32 s1.tally.drops) { s1 with tally := { s1.tally with dropSent := true } }
    refine ⟨(h2.2 src h48).trans h.1, fun n h1 h3 => (h2.2 n h3).trans (h.2 n h1)⟩
  · exact ⟨h.1, fun n h1 _ => h.2 n h1⟩

end Sys2Proof.Machine
end

