-- ==== Sys2Proof/Laws/Reports.lean ====
section
/-! SUPPORT. Within the blocks that an interrupt, a record, an event or a Tally message may touch: the only fields that can
differ afterwards. -/

namespace Sys2Proof.Machine

/-- t differs from s, within the blocks that reports touch, at most in the fields named here. -/
def Reports (s t : State) : Prop :=
  t.fr = s.fr ∧
  t.host = { s.host with
    intStat := t.host.intStat, intFrame := t.host.intFrame, watchSet := t.host.watchSet, hint := t.host.hint
    hintEdges := t.host.hintEdges } ∧
  t.ring = { s.ring with unsol := t.ring.unsol } ∧
  t.scout = { s.scout with tallyTrip := t.scout.tallyTrip, tripSeen := t.scout.tripSeen, qualAt := t.scout.qualAt } ∧
  t.top = { s.top with
    trig := { s.top.trig with trip := t.top.trig.trip, causes := t.top.trig.causes, ends := t.top.trig.ends }
    dirtyStop := t.top.dirtyStop } ∧
  t.weave = { s.weave with drive := t.weave.drive } ∧
  t.tally.exits = s.tally.exits ∧ t.tally.halted = s.tally.halted ∧ t.tally.degraded = s.tally.degraded ∧
  t.tally.held = s.tally.held ∧ t.tally.snap = s.tally.snap ∧ t.tally.next = s.tally.next ∧ t.tally.slot = s.tally.slot ∧
  t.tally.cur = s.tally.cur ∧ t.tally.eraseAhead = s.tally.eraseAhead

theorem Reports.refl (s : State) : Reports s s := by
  refine ⟨?_, ?_, ?_, ?_, ?_, ?_, ?_, ?_, ?_, ?_, ?_, ?_, ?_, ?_, ?_⟩ <;> rfl

theorem Reports.trans {s t u : State} (h : Reports s t) (k : Reports t u) : Reports s u := by
  obtain ⟨a1, a2, a3, a4, a5, a6, a7, a8, a9, a10, a11, a12, a13, a14, a15⟩ := h
  obtain ⟨b1, b2, b3, b4, b5, b6, b7, b8, b9, b10, b11, b12, b13, b14, b15⟩ := k
  refine ⟨?_, ?_, ?_, ?_, ?_, ?_, b7.trans a7, b8.trans a8, b9.trans a9, b10.trans a10, b11.trans a11, b12.trans a12,
    b13.trans a13, b14.trans a14, b15.trans a15⟩
  · rw [b1, a1]
  · rw [b2, a2]
  · rw [b3, a3]
  · rw [b4, a4]
  · rw [b5, a5]
  · rw [b6, a6]

theorem Reports.ite {c : Prop} [Decidable c] {s t u : State} (h : Reports s t) (k : Reports s u) :
    Reports s (if c then t else u) := by split <;> assumption

theorem Reports.foldl {β : Type} (f : State → β → State) (h : ∀ s x, Reports s (f s x)) :
    ∀ (l : List β) (s : State), Reports s (l.foldl f s)
  | [], s => .refl s
  | x :: l, s => (h s x).trans (Reports.foldl f h l (f s x))

theorem setInt_reports (i : Nat) (s : State) : Reports s (setInt i s) := by
  unfold setInt
  dsimp only
  split
  · refine ⟨?_, ?_, ?_, ?_, ?_, ?_, ?_, ?_, ?_, ?_, ?_, ?_, ?_, ?_, ?_⟩ <;> rfl
  · exact .refl s

theorem logRec_reports (ty : Nat) (x : BitVec 8) (a : BitVec 16) (b : Word) (s : State) : Reports s (logRec ty x a b s) := by
  simp only [logRec, logAt]
  split
  · refine ⟨?_, ?_, ?_, ?_, ?_, ?_, ?_, ?_, ?_, ?_, ?_, ?_, ?_, ?_, ?_⟩ <;> rfl
  · exact .refl s

theorem modSrc_reports (r : Nat) (f : Source → Source) (s : State) : Reports s (modSrc r f s) := by
  refine ⟨?_, ?_, ?_, ?_, ?_, ?_, ?_, ?_, ?_, ?_, ?_, ?_, ?_, ?_, ?_⟩ <;> rfl

theorem postUnsol_reports (t op fl : Nat) (tag : BitVec 16) (w1 w2 : Word) (s : State) :
    Reports s (postUnsol t op fl tag w1 w2 s) := by
  unfold postUnsol
  refine .ite (.refl s) ?_
  refine ⟨?_, ?_, ?_, ?_, ?_, ?_, ?_, ?_, ?_, ?_, ?_, ?_, ?_, ?_, ?_⟩ <;> rfl

theorem postAll_reports (ts : List Nat) (op fl : Nat) (tag : BitVec 16) (w1 : Word) (w2 : Nat → Word) (s : State) :
    Reports s (postAll ts op fl tag w1 w2 s) :=
  .foldl _ (fun s t => postUnsol_reports t op fl tag w1 (w2 t) s) ts s

theorem tripCause_reports (x : BitVec 8) (d : Bool) (s : State) : Reports s (tripCause x d s) := by
  unfold tripCause
  split <;> refine ⟨?_, ?_, ?_, ?_, ?_, ?_, ?_, ?_, ?_, ?_, ?_, ?_, ?_, ?_, ?_⟩ <;> rfl

theorem pinAction_reports (s : State) : Reports s (pinAction s) := by
  unfold pinAction
  split
  · exact .refl s
  · refine ⟨?_, ?_, ?_, ?_, ?_, ?_, ?_, ?_, ?_, ?_, ?_, ?_, ?_, ?_, ?_⟩ <;> rfl

theorem degradeAct_reports (src : Nat) (acts : BitVec 8) (s : State) : Reports s (degradeAct src acts s) := by
  unfold degradeAct
  extract_lets s1
  have h1 : Reports s s1 := .ite (.refl s) (logRec_reports _ _ _ _ s)
  refine h1.trans ⟨?_, ?_, ?_, ?_, ?_, ?_, ?_, ?_, ?_, ?_, ?_, ?_, ?_, ?_, ?_⟩ <;> rfl

theorem haltAct_reports (src : Nat) (s : State) : Reports s (haltAct src s) := by
  unfold haltAct
  extract_lets s1
  have h : Reports s s1 := logRec_reports _ _ _ _ s
  refine .ite (.refl s) (h.trans ?_)
  refine ⟨?_, ?_, ?_, ?_, ?_, ?_, ?_, ?_, ?_, ?_, ?_, ?_, ?_, ?_, ?_⟩ <;> rfl

theorem harvestAct_reports (src : Nat) (acts : BitVec 8) (s : State) : Reports s (harvestAct src acts s) := by
  unfold harvestAct
  extract_lets s1
  have h : Reports s s1 := tripCause_reports _ _ s
  refine .ite (h.trans ?_) (degradeAct_reports _ _ s)
  refine ⟨?_, ?_, ?_, ?_, ?_, ?_, ?_, ?_, ?_, ?_, ?_, ?_, ?_, ?_, ?_⟩ <;> rfl

theorem actions_reports (src kind : Nat) (addr : Word) (m : BitVec 8) (sev opens esc : Bool) (n : Nat) (s : State) :
    Reports s (actions src kind addr m sev opens esc n s) := by
  have h1 : ∀ {c : Prop} [Decidable c] {t : State} (f : State → State), (∀ x, Reports x (f x)) → Reports s t →
      Reports s (if c then f t else t) := fun f hf ht => .ite (ht.trans (hf _)) ht
  unfold actions
  exact h1 _ (fun x => haltAct_reports _ x) <| h1 _ (fun x => harvestAct_reports _ _ x) <|
    h1 _ (fun x => degradeAct_reports _ _ x) <| h1 _ pinAction_reports <| h1 _ (fun x => postAll_reports _ _ _ _ _ _ x) <|
    h1 _ (fun x => setInt_reports _ x) <| h1 _ (fun x => logRec_reports _ _ _ _ x) (.refl s)

theorem tallyProcess_reports (src kind : Nat) (addr : Word) (s : State) : Reports s (tallyProcess src kind addr s) := by
  unfold tallyProcess
  extract_lets r s1 s2
  have h : Reports s s1 := modSrc_reports src _ s
  refine (h.trans ?_).trans (actions_reports _ _ _ _ _ _ _ _ _)
  refine ⟨?_, ?_, ?_, ?_, ?_, ?_, ?_, ?_, ?_, ?_, ?_, ?_, ?_, ?_, ?_⟩ <;> rfl

/-- A Tally message. -/
theorem tally_reports (src kind : Nat) (addr : Word) (s : State) : Reports s (tally src kind addr s) := by
  unfold tally
  extract_lets s1 s2
  refine .ite ?_ (.ite ?_ (.refl s))
  · have h : Reports s s1 := tallyProcess_reports src kind addr s
    refine .ite ((h.trans ?_).trans (tallyProcess_reports _ _ _ _)) h
    refine ⟨?_, ?_, ?_, ?_, ?_, ?_, ?_, ?_, ?_, ?_, ?_, ?_, ?_, ?_, ?_⟩ <;> rfl
  · refine ⟨?_, ?_, ?_, ?_, ?_, ?_, ?_, ?_, ?_, ?_, ?_, ?_, ?_, ?_, ?_⟩ <;> rfl

/-- A record with its first-drop message. -/
theorem logEv_reports (ty : Nat) (x : BitVec 8) (a : BitVec 16) (b : Word) (s : State) : Reports s (logEv ty x a b s) := by
  unfold logEv
  extract_lets s1
  have h : Reports s s1 := logRec_reports ty x a b s
  refine .ite ((h.trans ?_).trans (tally_reports _ _ _ _)) h
  refine ⟨?_, ?_, ?_, ?_, ?_, ?_, ?_, ?_, ?_, ?_, ?_, ?_, ?_, ?_, ?_⟩ <;> rfl

end Sys2Proof.Machine
end

