-- ==== Sys2Proof/Tests/Slice0.lean ====
section
/-! SUPPORT. Tests: ill-formed operands that each check refuses, single commands whose effect the spec's own words fix, and
for every obligation with hypotheses a state and operands that meet them together, clause by clause. -/

namespace Sys2Proof.Tests

open Sys2Proof Sys2Proof.Machine

-- one witness after another: each needs the kernel
set_option Elab.async false

/-! States the tests start from. -/

/-- A state of the device with its frames running where the spec has them run. -/
def atState (st : DevState) (ph : Phase := .none) : State :=
  { State.reset with
    top := { State.reset.top with state := st, phase := ph }
    fr := { State.reset.fr with running := st.runs } }

/-- The lock level in force. -/
def atLevel (n : Nat) (s : State) : State := { s with sec := { s.sec with level := n } }

def inScout (f : ScoutB → ScoutB) (s : State) : State := {s with scout := f s.scout}
def inTop (f : Machine.Top → Machine.Top) (s : State) : State := {s with top := f s.top}
def inHost (f : HostB → HostB) (s : State) : State := {s with host := f s.host}
def inSec (f : SecB → SecB) (s : State) : State := {s with sec := f s.sec}
def coresUp (s : State) : State := {s with hive := {s.hive with fwVersion := some 0x01020304, a := {inReset := false}, b := {inReset := false}, extLoaded := true}}
def ringCfg : List (Nat × Word) := [(ckey 0 0 13, 0), (ckey 1 0 0, 0x00400001), (ckey 1 0 2, 1000), (ckey 1 0 4, 500), (ckey 1 0 7, 3),
  (ckey 2 0 0, 1), (ckey 2 1 0, 1), (ckey 2 2 0, 1), (ckey 2 3 0, 1), (ckey 10 0 0, 8240),(ckey 10 1 0, 1),(ckey 10 2 0, 24), (ckey 10 7 0, 0)]
def withRings (s : State) : State := {s with conf := {s.conf with cur := ringCfg, shadow := ringCfg}}
def withSel (n : Nat) (s : State) : State := {s with conf := {s.conf with cur := (ckey 0 0 13, BitVec.ofNat 32 n) :: ringCfg, shadow := (ckey 0 0 13, BitVec.ofNat 32 n) :: ringCfg}}
def entryOf (op : Nat) (first count : Nat) : Entry := ⟨BitVec.ofNat 32 (op + 0x77*65536), BitVec.ofNat 32 first, BitVec.ofNat 32 count, 0, [], [], 0, 5⟩
def inAdm (f : GuardB → GuardB) (s : State) : State := {s with adm := f s.adm}
def ended (w : Work) (s : State) : State := {s with fr := {s.fr with done := [⟨13,0,1,0,w⟩]}}
def withQueues (l : List (Nat × Ring)) (s : State) : State := {s with ring := {s.ring with rings := l}}
def withPending (p : List Pend) (s : State) : State := {s with ring := {s.ring with tenants := [(0, {pend := p, dirtyNow := 3})]}}
def admissible (s : State) : State := {s with nand := {s.nand with armed := true}, dram := {s.dram with setHost := some 0, set2400 := some 0, readyWas := true}, adm := {s.adm with now := 10^9, dirtyTotal := 3, map := [(7,1),(9,5),(10,2),(600,1)]}}
def dirtyE := entryOf 1 5 10
def cleanE := entryOf 0x10 5 10
def demandE := entryOf 0x20 5 10
def inStore (f : StoreB → StoreB) (s : State) : State := {s with store := f s.store}
def inDram (f : DramB → DramB) (s : State) : State := {s with dram := f s.dram}
def inNand (f : NandB → NandB) (s : State) : State := {s with nand := f s.nand}
def inHarv (f : HarvB → HarvB) (s : State) : State := {s with harv := f s.harv}
def inRet (f : RetB → RetB) (s : State) : State := {s with ret := f s.ret}
def withConf (l : List (Nat × Word)) (s : State) : State := {s with conf := {s.conf with cur := l, shadow := l}}
def mrCfg : List (Nat × Word) := [(ckey 10 0 0, 8240),(ckey 10 1 0, 1),(ckey 10 2 0, 24), (ckey 10 7 0, 0), (ckey 10 10 0, 1), (ckey 10 16 0, 3), (ckey 10 17 0, 5), (ckey 11 0 3, 100)]
def portAt (i : Nat) (s : State) : State := inHost (fun h => {h with tblTid := 10, tblIdx := i}) s
def trickling (s : State) : State := inNand (fun n => {n with valid := true, armed := true}) (inDram (fun d => {d with setHost := some 0, set2400 := some 0}) (withConf mrCfg s))
def tenanted (s : State) : State := {s with conf := {s.conf with cur := s.conf.cur ++ [(ckey 1 0 0, 0x00400001), (ckey 1 0 2, 1000)]}, ring := {s.ring with tenants := [(0,{dirtyNow := 3})]}}
def rcell : RCell := {combId := 1, lane := 0, tenant := 0, crit := false, lseq := 3}
def lanes (s : State) : State := withConf [(ckey 11 0 0, 1), (ckey 11 2 0, 0xF), (ckey 11 3 0, 0xF)] s
def inArr (f : ArrB → ArrB) (s : State) : State := {s with arr := f s.arr}
def inHive (f : HiveB → HiveB) (s : State) : State := {s with hive := f s.hive}
def inTally (f : TallyB → TallyB) (s : State) : State := {s with tally := f s.tally}
def portWith (a : Word) : ArrPort := {addr := a, latch := 0x1122334455667788}
def portsAt (a : Word) (s : State) : State := inArr (fun p => {p with port := portWith a, portA := portWith a, portB := portWith a}) s
def progOp (r : Requester) (off : Nat) : ArrOp := {req := r, erase := false, off := off, data := 0xAABBCCDDEEFF0011, mask := 0x0F, frames := 55}
def eraseOp (r : Requester) (off : Nat) : ArrOp := {req := r, erase := true, off := off, frames := 30000}
def coreA (f : Core → Core) (s : State) : State := inHive (fun h => {h with a := f h.a}) s
def coreB (f : Core → Core) (s : State) : State := inHive (fun h => {h with b := f h.b}) s
def inOrf (f : OrfB → OrfB) (s : State) : State := {s with orf := f s.orf}
def inWeave (f : WeaveB → WeaveB) (s : State) : State := {s with weave := f s.weave}
def weaving (s : State) : State := withConf [(ckey 0 0 0x2C, 0x00000FDF)] s
def typed (l : List (BitVec 8)) (s : State) : State := inOrf (fun o => {o with line := l, ready := true, autobaud := false}) s
/-- Throttle condition 4 held for n frames after it fell. -/
def heldAt (n : Nat) : State := { atState .guard with fr := { (atState .guard).fr with held := [(4, n)] } }
/-- The CLEAN ring of tenant 0 at a stage. -/
def cleaning (c : Stage) (s : State) : State := { s with ring := { s.ring with tenants := [(0, { dirtyNow := 3, clean := c })] } }
/-- A unit of one page of a target (Table: Page footer). -/
def unitOf (target page kind : Nat) : ProgUnit := ⟨target, 0, page, [⟨1, 0, kind, 0, 0, 5, 1, []⟩], 0⟩
def record : Record := ⟨1,8,4,5,77,3,9,false⟩


def s1_0 : State := State.reset
def s1_1 : State := atState .dormant
def s1_2 : State := atState .wake .scan
def s1_25 : State := { atState .guard with top := { (atState .guard).top with coreBor := true }, scout := {filt := [(0,⟨13000,0⟩)]}}
def s1_26 : State := { atState .hold with top := { (atState .hold).top with coreBor := true }, host := {hrst := true, intStat := 5, sync := true, post := [⟨0x94,7,0xF⟩], tblErr := true}}
def s1_27 : State := { State.reset with pending := [.rtcTick, .coreBor]}
def s2_0 : State := State.reset
def s2_1 : State := atState .dormant
def s2_2 : State := atState .wake .scan
def s2_5 : State := atState .guard
def s2_11 : State := atState .hold
def s2_25 : State := inScout (fun c => {c with raised := true, raisedCnt := 65536, loaded := [0], filt := [(0,⟨123,3⟩)], vinMin := some 9}) (atState .hold)
def s2_26 : State := inScout (fun c => {c with qualDone := true}) (atState .hold)
def s2_28 : State := inTop (fun c => {c with ship := true}) (atState .dormant)
def s2_29 : State := inScout (fun c => {c with tamHigh := 32768, wetQ := true, wetLow := 32768, trimTicks := 2^20-1, rtcTick := 32767, rtcSec := 0xFFFFFFFF, oscOk := true, muxPos := 19}) (atState .guard)
def s2_30 : State := inScout (fun c => {c with goodFrames := 2048}) (atState .watch)
def s2_31 : State := inTop (fun c => {c with inPhase := 15}) (atState .harvest .hDecide)
def s2_32 : State := inTop (fun c => {c with inPhase := 100000}) (atState .harvest .hSeal)
def s2_33 : State := inTop (fun c => {c with inState := 2559}) (atState .wake .scan)
def s2_35 : State := inTop (fun c => {c with wakeStep := 1}) (atState .wake .image)
def s2_36 : State := inTop (fun c => {c with wakeStep := 2}) (atState .wake .catalog)
def s2_38 : State := inTop (fun c => {c with wakeStep := 3, inPhase := 140}) (atState .wake .catalog)
def s3_0 : State := State.reset
def s3_5 : State := atState .guard
def s3_7 : State := atState .harvest .hDecide
def s3_24 : State := inHost (fun h => {h with post := (List.range 8).map fun i => ⟨4*i,7,0xF⟩}) (atState .guard)
def s3_25 : State := inTop (fun c => {c with window := true}) (atState .ret .verify)
def s3_26 : State := inTop (fun c => {c with inState := 3}) (atState .wake .image)
def s3_27 : State := inHost (fun h => {h with h2cFull := true, h2c := 0x12345678, taken := some 0xAB000001}) (coresUp (atState .guard))
def s3_35 : State := inHost (fun h => {h with taken := some 0x03AB0002}) (coresUp (atState .service))
def s3_41 : State := inHost (fun h => {h with tblBusy := true, tblTid := 10, tblIdx := 3}) (atState .guard)
def s3_46 : State := inHost (fun h => {h with tblTid := 3, tblIdx := 8, tblWord := 2, latch := [1,2,3,4], tblInc := true}) (atState .service)
def s3_47 : State := inHost (fun h => {h with tblTid := 8, tblIdx := 1}) (atState .service)
def s3_49 : State := inSec (fun c => {c with lockLeft := 1, level := 2, raisedAge := 2^40, chal := some 7, chalAge := 2^24, reqLevel := 3, channel := 0, fails := 2, life := .deployed}) (atState .service)
def s3_51 : State := {inSec (fun c => {c with level := 2, raisedAge := 2^40, reqLevel := 3, channel := 0, fails := 2, life := .deployed}) (atState .service) with conf := {cur := [(ckey 0 0 50, 0x18)], shadow := [(ckey 0 0 50, 0x18)]}}
def s4_0 : State := State.reset
def s4_5 : State := atState .guard
def s4_18 : State := atState .service
def s4_24 : State := withSel 3 (withQueues [(3,{})] (atState .guard))
def s4_25 : State := withSel 0 (atState .guard)
def s4_26 : State := withSel 1 (withQueues [(1,{part := [1]})] (atState .guard))
def s4_30 : State := withSel 0 (withQueues [(0,{part := [2], staged := [dirtyE,dirtyE], fresh := [dirtyE], pub := [dirtyE]}), (1,{staged := [cleanE], pub := [cleanE]}),(2,{reset := 2, staged := [demandE], pub := [demandE]})] (atState .service))
def s4_31 : State := withSel 0 (withQueues [(0,{reset := 1, staged := [dirtyE,dirtyE], fresh := [dirtyE], pub := [dirtyE]})] (withPending [⟨dirtyE,.scanning,0,0,false⟩] (atState .guard)))
def s4_32 : State := withSel 2 (withQueues [(2,{staged := (List.range 64).map fun _ => demandE})] (atState .guard))
def s4_33 : State := ended (.admitScan 0) (admissible (withRings (withPending [⟨dirtyE,.scanning,0,0,false⟩] (atState .guard))))
def s4_36 : State := ended (.admitScan 0) (inAdm (fun a => {a with now := 5}) (admissible (withRings (withPending [⟨entryOf 1 5 300,.scanning,0,0,false⟩, ⟨dirtyE,.waiting,0,0,false⟩] (atState .guard)))))
def s4_40 : State := ended (.admitWrite 0 5 5 10) (admissible (withRings (withPending [⟨dirtyE,.writing,8,0,false⟩, ⟨dirtyE,.waiting,0,0,false⟩] (atState .guard))))
def s4_41 : State := ended (.cleanWrite 0 5 5 10) (withQueues [(1, {pub := [cleanE, cleanE]})] (cleaning .writing (admissible (withRings (atState .guard)))))
def s4_42 : State := ended (.cleanScan 0) {(withQueues [(1, {pub := [cleanE, cleanE]})] (cleaning .scanning (admissible (withRings (atState .guard))))) with harv := {plan := [4,5,8,15]}}
def s4_44 : State := admissible (withRings (withPending [⟨dirtyE,.held,8,8,false⟩, ⟨dirtyE,.waiting,0,0,false⟩] (atState .guard)))
def s4_46 : State := admissible (withQueues [(3,{unread := (List.range 63).map fun _ => dirtyE})] (withRings (withPending [⟨dirtyE,.held,8,8,false⟩] (atState .watch))))
def s4_47 : State := admissible (withRings (withPending [⟨dirtyE,.decided (.refuse 2),8,8,false⟩, ⟨dirtyE,.waiting,0,0,false⟩] (atState .guard)))
def s4_48 : State := {(admissible (withRings (withPending [⟨dirtyE,.decided .accept,8,8,false⟩] (atState .guard)))) with ring := {(admissible (withRings (withPending [⟨dirtyE,.decided .accept,8,8,false⟩] (atState .guard)))).ring with answers := [⟨0,1,dirtyE,.cleaned,true⟩]}}
def s4_49 : State := ended .recount (inAdm (fun a => {a with recount := true}) (admissible (withRings (atState .guard))))
def s4_52 : State := ended (.demandLookup 2) {admissible (withRings (atState .ret .critical)) with ret := {cells := [(6,{combId := 1, lane := 0, tenant := 0, crit := false, lseq := 3}),(8,{combId := 1, lane := 0, tenant := 0, crit := false, lseq := 3, status := 2})], demands := [⟨2,demandE,false,[],false⟩]}}
def s4_53 : State := {s4_52 with ret := {s4_52.ret with cells := [(8,{combId := 1, lane := 0, tenant := 0, crit := false, lseq := 3, status := 2})]}}
def s4_54 : State := inStore (fun s => {s with test := {stage := 2, frames := 65536, k := 9, fits := [(0,{n := 3})]}}) (atState .guard)
def s4_55 : State := inStore (fun s => {s with test := {stage := 3, frames := 1114368, fits := [(0,{n := 3})]}}) (atState .guard)
def s4_56 : State := inStore (fun s => {s with test := {againAt := some 5}}) (atState .guard)
def s4_33rings : State := s4_33
def s5_0 : State := State.reset
def s5_8 : State := atState .harvest .hIsolate
def s5_26 : State := inDram (fun d => {d with iso := 0, sinceT := 4}) (atState .harvest .hIsolate)
def s5_28 : State := inDram (fun d => {d with owned := true, debt := [(0,2),(1,3)], gnt := true}) (atState .guard)
def s5_29 : State := portAt 20 (withConf mrCfg (atState .service))
def s5_30 : State := portAt 20 (atState .service)
def s5_32 : State := portAt 20 (inDram (fun d => {d with owned := true}) (withConf mrCfg (atState .service)))
def s5_34 : State := inDram (fun d => {d with owned := true, training := true}) (withConf (mrCfg.take 4 ++ [(ckey 10 8 0, 7)] ++ mrCfg.drop 4) (atState .service))
def s5_34b : State := inDram (fun d => {d with owned := true, training := true}) (withConf (mrCfg.filter (fun p => p.1 != ckey 10 7 0) ++ [(ckey 10 7 0, 0x40), (ckey 10 13 0, 8240), (ckey 10 14 0, 24)]) (atState .service))
def s5_36 : State := portAt 15 (trickling (atState .guard))
def s5_37 : State := portAt 15 (trickling (atState .watch))
def s5_39 : State := portAt 15 (inDram (fun d => {d with active := true, imgOpen := true}) (trickling (atState .guard)))
def s5_40 : State := tenanted (inAdm (fun a => {a with map := [(3,1),(4,5),(5,2),(7,9),(8,1)], dirtyTotal := 4}) (inDram (fun d => {d with active := true, owned := true, imgOpen := true}) (trickling (atState .guard))))
def s5_42 : State := inHarv (fun h => {h with lanes := [(0,{cells := [5,6], moved := 65536}),(1,{cells := [7], moved := 70000, pages := [⟨7,0,2⟩]})]}) (lanes (tenanted (atState .harvest .hDrain)))
def s5_43 : State := inNand (fun n => {n with units := [unitOf 1 2 2, unitOf 4 3 1, unitOf 2 5 2], targets := [(1,{fails := 2})]}) (inHarv (fun h => {h with lanes := [(0,{cells := [5,6], moved := 65536})], plan := [9,10]}) (lanes (tenanted (atState .harvest .hDrain))))
def s5_44 : State := inNand (fun n => {n with catalog := [{slot := 1, combId := 2}]}) (inHarv (fun h => {h with sealStep := 1, combId := 2, sealWait := [(0,7),(1,7)]}) (lanes (tenanted (atState .harvest .hSeal))))
def s5_45 : State := inNand (fun n => {n with prep := true, prepLeft := [(1,2),(0,0),(3,1)], prepDone := [(5,5)], geomErr := 0}) (lanes (atState .guard))
def s5_47 : State := inNand (fun n => {n with bringUp := true}) (lanes (atState .guard))
def s5_49 : State := inTop (fun c => {c with inPhase := 1249}) (inRet (fun r => {r with pending := [1,2]}) (atState .ret .verify))
def s5_51 : State := inRet (fun r => {r with pending := [1], ticks := [(0,1000),(1,500)], hdrs := [(1,⟨[⟨0,true,0,0,1000⟩],0x1⟩)]}) (lanes (tenanted (atState .ret .waitGnt)))
def s5_53 : State := inRet (fun r => {r with cells := [(5,rcell),(6,{rcell with lane := 1, lseq := 1})], flight := [5]}) (inDram (fun d => {d with owned := true}) (lanes (tenanted (atState .ret .bulk))))
def s5_56 : State := inRet (fun r => {r with moved := [(0,65536)], cells := [(5,{rcell with acc := [1,2,3,0]})], flight := [5]}) (inDram (fun d => {d with owned := true}) (lanes (tenanted (atState .ret .bulk))))
def s5_57 : State := inNand (fun n => {n with catalog := [{slot := 1, combId := 2, sealed := true}]}) (inRet (fun r => {r with endRetry := some 0, endsLeft := [2,3]}) (atState .ret .done))
def s6_0 : State := State.reset
def s6_5 : State := atState .guard
def s6_18 : State := atState .service
def s6_22 : State := atLevel 3 (atState .service)
def s6_24 : State := portsAt 0x8000 (coresUp (atLevel 2 (atState .service)))
def s6_28 : State := inArr (fun p => {p with run := some (eraseOp .host 0x8000), ufe := [2]}) (portsAt 0x208000 (coresUp (atLevel 3 (atState .service))))
def s6_30 : State := inArr (fun p => {p with run := some (progOp (.core true) 0x208000)}) (portsAt 0x208000 (coresUp (atLevel 3 (atState .service))))
def s6_31 : State := inArr (fun p => {p with run := some (progOp .host 0x8008), mem := [(0x1001,0),(0x1003,7)], retired := [9]}) (portsAt 0x8000 (coresUp (atLevel 3 (atState .service))))
def s6_32 : State := inArr (fun p => {p with run := some (eraseOp .host 0x208000), mem := [(0x1001,0),(0x41003,7)], retired := [9], ufe := [130], port := {p.port with suspReq := true}}) (coresUp (atLevel 3 (atState .service)))
def s6_35 : State := inArr (fun p => {p with susp := some ⟨eraseOp .host 0x208000,1,0,2⟩, ufe := [130]}) (portsAt 0x8000 (coresUp (atLevel 3 (atState .service))))
def s6_38 : State := coreA (fun c => {c with buf := [⟨0x10,4,0xDDCCBBAA⟩,⟨0x21,1,0x5⟩], tcm := [(0x13,1),(0x14,2)]}) (coresUp (atState .guard))
def s6_40 : State := coreB (fun c => {c with buf := [⟨0x10,4,0xDDCCBBAA⟩,⟨0x80000000,4,1⟩]}) (coresUp (atState .guard))
def s6_41 : State := coreA (fun c => {c with buf := [⟨0xC0000000,4,0xDDCCBBAA⟩], wdog := 65536}) (coresUp (atState .guard))
def s6_43 : State := inHive (fun h => {h with extSince := some 4096}) (coresUp (atState .guard))
def s6_44 : State := inHive (fun h => {h with extSince := some 5}) (inHost (fun h => {h with h2cFull := true, h2c := 0x85000001, dbH2c := 0xFFFF0003}) (coresUp (atState .guard)))
def s6_47 : State := coreA (fun c => {c with clearing := true, clearFrames := 16}) (atState .guard)
def s7_0 : State := State.reset
def s7_1 : State := atState .dormant
def s7_2 : State := atState .wake .scan
def s7_5 : State := atState .guard
def s7_20 : State := atLevel 2 (atState .guard)
def s7_21 : State := atLevel 2 (atState .service)
def s7_24 : State := inTally (fun t => {t with src := [(0x12,{open_ := true, left := 0, count := 4}),(0x17,{open_ := true, left := 3, count := 255, escalated := true}),(3,{open_ := true})], drops := 3, queue := (List.range 32).map fun _ => record, degraded := true, quiet := 2^26}) (atState .guard)
def s7_25 : State := inTally (fun t => {t with pulseLeft := some 0, drops := 2, dropSent := true, degraded := true, quiet := 2^30, snap := [(0x10,5),(0x20,6)], snapEpoch := 99}) (atState .guard)
def s7_28 : State := inSec (fun k => {k with life := .deployed, keyBusy := some (1,3)}) (atLevel 2 (atState .service))
def s7_33 : State := inSec (fun k => {k with lcBusy := some 1}) (atLevel 3 (atState .service))
def s7_36 : State := atLevel 3 (atState .service)
def s7_37 : State := inSec (fun k => {k with life := .deployed}) (withConf [(ckey 0 0 50, 2)] (atState .service))
def s7_39 : State := inOrf (fun o => {o with autobaud := false}) (atState .guard)
def s7_40 : State := inOrf (fun o => {o with autobaud := false, line := [0x73,0x74]}) (atState .guard)
def s7_42 : State := inOrf (fun o => {o with autobaud := false, line := (List.range 120).map fun _ => 0x71}) (atState .guard)
def s7_43 : State := inOrf (fun o => {o with autobaud := false, tooLong := true, line := (List.range 120).map fun _ => 0x71}) (atState .guard)
def s7_79 : State := typed [0x74,0x78,0x20,0x64,0x69,0x73,0x61,0x72,0x6D] (inNand (fun n => {n with armed := true, catalog := [{slot := 1, combId := 2, sealed := true}]}) (atLevel 3 (atState .service)))
def s7_92 : State := inSec (fun k => {k with chal := some 5, channel := 1, reqLevel := 2}) (atState .guard)
def s7_95 : State := weaving (atState .guard)
def s7_96 : State := weaving (inWeave (fun w => {w with isMaster := true, myId := 3}) (atState .guard))
def s7_98 : State := weaving (inWeave (fun w => {w with noLower := 4, myId := 3, inLock := 16, joined := true, noRing := 64, peers := [(3,{live := true, age := 64}),(5,{live := true})], armed := true, lowFrames := 2^18}) (atState .guard))
def s7_99 : State := weaving (inWeave (fun w => {w with noTick := 16, lock := true, myId := 5}) (atState .ret .bulk))

/-! Operands outside what a row can carry: each check of WellFormed refuses one. -/

/-- A TICK and a status slot at the edges of their fields. -/
def tickOf (id : Nat) (frac : List Nat) : TickIn := ⟨true, false, id, 0, 0, frac, 0, 0, true⟩
def statusOf (id kind st g : Nat) : StatusIn := ⟨id, kind, st, g, false, true, false, 0, 0, 0, true⟩

theorem test_wf_register_offsets :
    PostEntry.wf ⟨0x101, 0, 0xF⟩ = false ∧ PostEntry.wf ⟨0x42, 0, 0xF⟩ = false ∧ PostEntry.wf ⟨0xFC, 0, 0xF⟩ = true ∧
    Instr.wf (.postBufferEnter ⟨0x100, 0, 0xF⟩) = false ∧ Instr.wf (.registerWrite ⟨2, 0, 0xF⟩) = false ∧
    Instr.wf (.jtagObserve (.reg 0x100)) = false ∧ Instr.wf (.orfortRd 0 65) = false ∧ Instr.wf (.orfortWr 3 0) = false := by decide

theorem test_wf_comb_operands :
    CellRun.wf ⟨0, 0, 0, false⟩ = false ∧ HdrTenant.wf ⟨64, false, 0, 0, 0⟩ = false ∧ Footer.wf ⟨0, 0, 4, 0, false, false⟩ = false ∧
    VerifyIn.wf ⟨none, some ⟨[⟨0, 0, 0, false⟩], [], [], []⟩⟩ = false ∧
    Instr.wf (.verifyCombDone ⟨some ⟨[⟨0, false, 64, 0, 0⟩], 0⟩, none⟩) = false ∧
    Instr.wf (.sweepUnitDone 8 []) = false ∧ Instr.wf (.sweepUnitDone 0 [⟨0, 0, 4, 0, false, false⟩]) = false ∧
    Instr.wf (.restorePageRead ⟨8, 0, 0, 0, 0, 0, true, true, false⟩) = false ∧ Instr.wf (.cellRestored 8) = false ∧
    Instr.wf (.demandLookupDone 3) = false := by decide

theorem test_wf_states_and_wake :
    Instr.wf (.frameBoundary ⟨false, 0, 4, ⟨0, true, true⟩, []⟩) = false ∧ Instr.wf (.vddCoreDroop 0 0) = false ∧
    Instr.wf (.wakeScanDone [256]) = false ∧ Instr.wf (.wakeImageLoad ⟨⟨true, true⟩, ⟨true, true⟩, ⟨true, true⟩, true, [64]⟩) = false ∧
    Instr.wf (.wakeCatalogScan [4294967296]) = false ∧ Instr.wf (.stateReqReserved 7 0 0xF) = false ∧
    Instr.wf (.ownGntIsolate 100) = false := by decide

theorem test_wf_rings_dram_nand :
    Instr.wf (.ringReset 256) = false ∧ Instr.wf (.admitScanDone 64) = false ∧ Instr.wf (.admitWaitExpiry 64) = false ∧
    Instr.wf (.admitMapWriteDone 64) = false ∧ Instr.wf (.cleanScanDone 64) = false ∧ Instr.wf (.cleanWriteDone 64) = false ∧
    Instr.wf (.answerPostDeferred 64) = false ∧ Instr.wf (.refreshDue 4) = false ∧ Instr.wf (.trickleCellCopied 2097152) = false ∧
    Instr.wf (.cellSaved 8) = false ∧ Instr.wf (.nandProgramStatus 32 0 true) = false ∧ Instr.wf (.targetTimeout 32) = false ∧
    Instr.wf (.nandEraseDone 0 65536 true) = false ∧ Instr.wf (.nandBringUpDone ⟨0, 0, 0, [], [], [], []⟩) = false := by decide

theorem test_wf_array_and_cores :
    Instr.wf (.arrayNop 256 0xF) = false ∧ Instr.wf (.arrayReserved .host 10 0xF) = false ∧ Instr.wf (.arrayProgramEnd 17 true) = false ∧
    Instr.wf (.arrayEraseEnd 0 true) = false ∧ Instr.wf (.coreStore false 0 3 0) = false ∧ Instr.wf (.coreLoad false 0 8) = false ∧
    Instr.wf (.tallyMessage 128 0 0) = false ∧ Instr.wf (.tallyWindowEnd 128) = false := by decide

theorem test_wf_keys_jtag_orfort_weave :
    Instr.wf (.keyGen 64) = false ∧ Instr.wf (.keyLoad 16 0) = false ∧ Instr.wf (.keyImport 64) = false ∧ Instr.wf (.keyZero 64) = false ∧
    Instr.wf (.keyReservedOp 6) = false ∧ Instr.wf (.jtagSamplePreload []) = false ∧ Instr.wf (.jtagOtpProg 256 []) = false ∧
    Instr.wf (.jtagReserved 256) = false ∧ Instr.wf (.orfortTb 256 0) = false ∧ Instr.wf (.orfortTl 0 0 []) = false ∧
    Instr.wf (.orfortAr 4 1) = false ∧ Instr.wf (.orfortCb (some 256)) = false ∧ Instr.wf (.orfortLg none 0) = false ∧
    Instr.wf (.orfortUlRequest 16) = false ∧ Instr.wf (.orfortOvSet 23 0 0) = false ∧ Instr.wf (.orfortOvClear 23) = false ∧
    Instr.wf (.orfortTxLaneout 8 0) = false ∧ Instr.wf (.weaveTickReceive (tickOf 64 [])) = false ∧
    Instr.wf (.weaveTickReceive (tickOf 0 [65536])) = false ∧ Instr.wf (.weaveStatusReceive (statusOf 0 4 0 0)) = false ∧
    Instr.wf (.weaveStatusReceive (statusOf 63 3 15 15)) = true ∧ Instr.wf (.peerLiveTimeout 64) = false := by decide

/-! Single operations and commands against the spec's worked examples and rules. -/

/-- The admission at Tarnbeck, step 6: CRC 0x15 over bytes 01 01 42 00 00 12 00 00 10 00 00 00 00 00 00. -/
theorem test_entry_crc : entryCrc 0x00420101 0x00001200 0x00000010 0x00000000 = 0x15 := by decide +kernel

/-- Hollin at 25 °C, Hollin's cold night and the cold start at Tarnbeck: ENERGY_NOW of R134. -/
theorem test_energy_now :
    energyAt ⟨30000, 0⟩ 11000 48000 0 3000 7 = 11404560 ∧ energyAt ⟨30000, 0⟩ 11000 48000 480 3000 7 = 11336456 ∧
    energyAt ⟨2620, 0⟩ 2500 13000 115 14400 7 = 21912 := by decide

/-- Hollin's need for 301,000 dirty cells and its CREDIT at 25 °C; Tarnbeck's CREDIT at −40 °C. -/
theorem test_credit : creditOf 11404560 185550 550 = 20398200 ∧ creditOf 21912 8520 781 = 17147 := by decide

/-- The Hollin rotary rack: the fractions of IDs 2, 5 and 9 (R390). -/
theorem test_weave_fractions :
    fracOf 11000000 315550 285550 8 ⟨2, 185550, 185550, 4, false⟩ = 32418 ∧
    fracOf 11000000 315550 285550 8 ⟨5, 60000, 90000, 2, false⟩ = 16193 ∧
    fracOf 11000000 315550 285550 8 ⟨9, 40000, 40000, 2, false⟩ = 15899 := by decide

/-- One second of stopped time restarts EPOCH at one frame more than 250,000 (R49). -/
theorem test_epoch_restart :
    (match exec (.wakeQualified ⟨0, true, true⟩) (inScout (fun c => { c with qualDone := true, freeTicks := 32768 }) (atState .hold)) with
      | .next t => t.fr.epoch.toNat | _ => 0) = 250001 := by decide +kernel

/-- The droop at Hollin: below 0.770 V the hardware demand is ÷4 and GUARD_BAND holds (R64, R65). -/
theorem test_droop :
    (match exec (.vddCoreDroop 2 50) (atState .watch) with | .next t => t.fr.div | _ => 9) = 2 := by decide +kernel

/-- An entry staged at Tarnbeck: the fourth RING_PORT write ends it, with its words in place (R110). -/
theorem test_ring_port :
    (match exec (.ringPortWrite 0x15000000 0xF) (withSel 0 (withQueues [(0, { part := [0x00420101, 0x1200, 0x10] })] (atState .guard))) with
      | .next t => ((ringOf t 0).staged.map fun e => [e.w0, e.w1, e.w2, e.w3], (ringOf t 0).part) | _ => ([], [])) =
    ([[0x00420101, 0x1200, 0x10, 0x15000000]], []) := by decide +kernel

/-- Updating a firmware word: LDLO and LDHI take ARRAY_ADDR into the halves of the latch (R302). -/
theorem test_array_latch :
    (match exec (.arrayLdlo 0xF) (inArr (fun p => { p with port := { addr := 0x55667788 } }) (atState .service)) with
      | .next t => (match exec (.arrayLdhi 0xF) (inArr (fun p => { p with port := { p.port with addr := 0x11223344 } }) t) with
        | .next u => u.arr.port.latch | _ => 0)
      | _ => 0) = 0x1122334455667788 := by decide +kernel

/-! The hypotheses of every obligation, clause by clause, are met. -/

theorem witness_EpochUnderEveryCommand :
    ∃ (c : Instr) (s t : State), exec c s = .next t :=
  ⟨.aonPorRelease, State.reset, _, rfl⟩

theorem witness_StepRunsOldestCommand :
    (∃ (c : Instr) (cs : List Instr) (s : State), s.pending = c :: cs) ∧
    (∃ (s : State), s.pending = []) :=
  ⟨⟨Instr.rtcTick, [Instr.coreBor], s1_27, by decide +kernel⟩,
   ⟨s1_0, by decide +kernel⟩⟩

theorem witness_StepConsumesOneCommand :
    (∃ (s : State) (t : State), step s = .next t) :=
  ⟨s1_27, _, rfl⟩

theorem witness_StepKeepsFramesRun :
    (∃ (s : State) (t : State), framesRun s = true ∧ step s = .next t) :=
  ⟨s1_27, _, by decide +kernel, rfl⟩

theorem witness_FixedWordsAndFrameCount :
    ∃ s : State, calls s [0x72, 0x64] (argsRd 0x00 3) = true ∧ grantsO s = true :=
  ⟨typed [0x72, 0x64, 0x20, 0x30, 0x20, 0x33] (atLevel 1 (atState .guard)), by decide +kernel⟩

theorem witness_FrameBoundaryCompletes :
    (∃ (_f : FrameIn) (s : State), powered s = false) ∧
    (∃ (_f : FrameIn) (s : State), powered s = true) :=
  ⟨⟨{gnt := true, iMeas := 100, vdd := 0, wk := {wvId := 0x05#6, io33 := true, xtalOk := true}}, s1_0, by decide +kernel⟩,
   ⟨{gnt := true, iMeas := 100, vdd := 0, wk := {wvId := 0x05#6, io33 := true, xtalOk := true}}, s1_2, by decide +kernel⟩⟩

theorem witness_AonPorClears :
    (∃ (o : ArrOp) (s : State) (w : Nat), s.arr.run = some o ∧ o.erase = false ∧ w ≠ o.off / 8) ∧
    (∃ (s : State), s.top.state = .off) ∧
    (∃ (s : State), s.top.state ≠ .off) :=
  ⟨⟨progOp .host 0x8008, s6_31, 0, by decide +kernel⟩,
   ⟨s1_0, by decide +kernel⟩,
   ⟨s1_1, by decide +kernel⟩⟩

theorem witness_CoreBorKeepsAon :
    (∃ (s : State), s.top.state ≠ .off ∧ s.top.coreBor = false) ∧
    (∃ (o : ArrOp) (s : State) (w : Nat), s.top.state ≠ .off ∧ s.top.coreBor = false ∧ s.arr.run = some o ∧ o.erase = false ∧ w ≠ o.off / 8) ∧
    (∃ (s : State), (s.top.state = .off ∨ s.top.coreBor = true)) :=
  ⟨⟨s1_1, by decide +kernel⟩,
   ⟨progOp .host 0x8008, s6_31, 0, by decide +kernel⟩,
   ⟨s1_0, by decide +kernel⟩⟩

theorem witness_CoreBorReleaseByVin :
    (∃ (s : State) (_w : WakeIn), s.top.coreBor = true) ∧
    (∃ (s : State) (w : WakeIn), s.top.coreBor = true ∧ dyGt (filt s 0) (goodMv s) = true ∧ w.xtalOk = true) ∧
    (∃ (s : State) (_w : WakeIn), s.top.coreBor = true ∧ dyGt (filt s 0) (goodMv s) = false) ∧
    (∃ (s : State) (_w : WakeIn), s.top.coreBor = false) :=
  ⟨⟨s1_25, {wvId := 0x05#6, io33 := true, xtalOk := true}, by decide +kernel⟩,
   ⟨s1_25, {wvId := 0x05#6, io33 := true, xtalOk := true}, by decide +kernel⟩,
   ⟨s1_26, {wvId := 0x05#6, io33 := true, xtalOk := true}, by decide +kernel⟩,
   ⟨s1_0, {wvId := 0x05#6, io33 := true, xtalOk := true}, by decide +kernel⟩⟩

theorem witness_HostReset :
    (∃ (k : Nat), k ≠ ckey 0 0 6 ∧ k ≠ ckey 0 0 8) ∧
    (∃ (s : State), s.host.hrst = true) ∧
    (∃ (s : State), s.host.hrst = false) :=
  ⟨⟨0, by decide +kernel⟩,
   ⟨s1_26, by decide +kernel⟩,
   ⟨s1_0, by decide +kernel⟩⟩

theorem witness_ReferenceLoss :
    (∃ (s : State), powered s = true ∧ s.fr.refLoss = false) ∧
    (∃ (s : State), (powered s = false ∨ s.fr.refLoss = true)) :=
  ⟨⟨s1_2, by decide +kernel⟩,
   ⟨s1_0, by decide +kernel⟩⟩

theorem witness_SagThrottle :
    (∃ (s : State), powered s = true) ∧
    (∃ (s : State), powered s = false) ∧
    (∃ (i : Nat) (s : State), (i, 256) ∈ s.fr.held ∧ i ∉ condsNow s) ∧
    (∃ (p : Nat × Nat) (s : State), p ∈ s.fr.held ∧ p.2 ≠ 256) ∧
    (∃ (s : State), ∀ p, p ∈ s.fr.held → p.2 ≠ 256 ∨ p.1 ∈ condsNow s) :=
  ⟨⟨s1_2, by decide +kernel⟩,
   ⟨s1_0, by decide +kernel⟩,
   ⟨4, heldAt 256, by decide +kernel⟩,
   ⟨(4, 3), heldAt 3, by decide +kernel⟩,
   ⟨heldAt 3, by decide +kernel⟩⟩

theorem witness_VinSampleFilters :
    (∃ (_x : VinSample) (s : State), (s.top.state.runs = true ∨ s.scout.raised = true)) ∧
    (∃ (_x : VinSample) (s : State), s.top.state.runs = false ∧ s.scout.raised = false) :=
  ⟨⟨⟨12000, false, false, false, false, 12000, 0⟩, s2_2, by decide +kernel⟩,
   ⟨⟨12000, false, false, false, false, 12000, 0⟩, s2_0, by decide +kernel⟩⟩

theorem witness_MuxConversionCycles :
    (∃ (_raw : Int) (s : State), s.top.state.runs = true) ∧
    (∃ (_raw : Int) (s : State), s.top.state.runs = false) :=
  ⟨⟨(-5), s2_2, by decide +kernel⟩,
   ⟨(-5), s2_0, by decide +kernel⟩⟩

theorem witness_SlowSamples :
    (∃ (s : State), s.top.state = .hold ∧ s.top.coreBor = false ∧ s.scout.raised = true) ∧
    (∃ (s : State), s.top.state = .hold ∧ s.top.coreBor = false ∧ s.scout.raised = false ∧ 0 ∈ s.scout.loaded) ∧
    (∃ (s : State), s.top.state = .dormant ∧ s.top.ship = false ∧ s.scout.raised = false) ∧
    (∃ (s : State), s.top.state ≠ .hold) ∧
    (∃ (s : State), s.top.state ≠ .dormant) :=
  ⟨⟨s2_25, by decide +kernel⟩,
   ⟨inScout (fun c => { c with raised := false }) s2_25, by decide +kernel⟩,
   ⟨s2_1, by decide +kernel⟩,
   ⟨s2_0, by decide +kernel⟩,
   ⟨s2_0, by decide +kernel⟩⟩

theorem witness_WakeQualifier :
    (∃ (_w : WakeIn) (s : State), (s.top.state = .dormant ∨ s.top.state = .hold) ∧ s.top.coreBor = false ∧ s.scout.qualDone = true ∧ s.scout.tamperQ = false ∧ ¬(s.top.state = .hold ∧ s.scout.wetQ = true)) ∧
    (∃ (w : WakeIn) (s : State), (s.top.state = .dormant ∨ s.top.state = .hold) ∧ s.top.coreBor = false ∧ s.scout.qualDone = true ∧ s.scout.tamperQ = false ∧ ¬(s.top.state = .hold ∧ s.scout.wetQ = true) ∧ w.xtalOk = true) ∧
    (∃ (s : State), (s.top.state = .dormant ∨ s.top.state = .hold) ∧ s.scout.raised = true ∧ s.scout.qualDone = false ∧ 65536 ≤ s.scout.raisedCnt) ∧
    (∃ (vin : Int) (s : State), s.top.state = .dormant ∧ s.top.ship = true ∧ 9000 ≤ vin) ∧
    (∃ (vin : Int) (_s : State), vin < 9000) :=
  ⟨⟨{wvId := 0x05#6, io33 := true, xtalOk := true}, s2_26, by decide +kernel⟩,
   ⟨{wvId := 0x05#6, io33 := true, xtalOk := true}, s2_26, by decide +kernel⟩,
   ⟨s2_25, by decide +kernel⟩,
   ⟨10000, s2_28, by decide +kernel⟩,
   ⟨(-5), s2_0, by decide +kernel⟩⟩

theorem witness_TamperAndWetLatches :
    (∃ (s : State), s.top.state ≠ .off) :=
  ⟨s2_1, by decide +kernel⟩

theorem witness_RealTimeClock :
    (∃ (s : State), s.top.state ≠ .off ∧ s.scout.trimTicks + 1 = 2 ^ 20) ∧
    (∃ (s : State), s.top.state ≠ .off ∧ s.scout.trimTicks + 1 ≠ 2 ^ 20 ∧ 0 < s.scout.trimDrop) ∧
    (∃ (s : State), s.top.state ≠ .off ∧ s.scout.oscOk = true ∧ powered s = true) ∧
    (∃ (s : State), s.scout.oscOk = false) ∧
    (∃ (data : Word) (be : ByteEn) (s : State), reaches ⟨0x78, data, be⟩ s = true ∧ oldest ⟨0x78, data, be⟩ s = true) :=
  ⟨⟨s2_29, by decide +kernel⟩,
   ⟨inScout (fun c => { c with trimDrop := 5 }) s2_1, by decide +kernel⟩,
   ⟨s2_29, by decide +kernel⟩,
   ⟨s2_0, by decide +kernel⟩,
   ⟨0xffffffff#32, 0xf#4, s2_5, by decide +kernel⟩⟩

theorem witness_TimedEndsOfStates :
    (∃ (s : State), s.top.state = .watch ∧ goodFor s 2048 = true) ∧
    (∃ (s : State), s.top.state = .harvest ∧ s.top.phase = .hDecide ∧ 15 ≤ s.top.inPhase) ∧
    (∃ (s : State), s.top.state = .harvest ∧ s.top.phase = .hSeal ∧ sealLen s ≤ s.top.inPhase + 1 ∧ s.top.trig.phaseEnd = false) ∧
    (∃ (s : State), (causesNow s).tamper = false ∧ (causesNow s).wet = false ∧ (causesNow s).pg = false ∧ (causesNow s).trip = false ∧
      s.top.state = .watch ∧ (causesNow s).pretrip = false ∧ s.top.trig.watchExit = true ∧ goodFor s 2048 = true) ∧
    (∃ (s : State), (causesNow s).tamper = false ∧ (causesNow s).wet = false ∧ (causesNow s).pg = false ∧ (causesNow s).trip = false ∧
      s.top.state = .harvest ∧ s.top.phase = .hDecide ∧ s.top.trig.limit = true) ∧
    (∃ (s : State), (causesNow s).tamper = false ∧ (causesNow s).wet = false ∧ (causesNow s).pg = false ∧ (causesNow s).trip = false ∧
      s.top.state = .harvest ∧ s.top.phase = .hSeal ∧ s.top.trig.phaseEnd = true) ∧
    (∃ (s : State), s.top.state ≠ .watch ∨ goodFor s 2048 = false) ∧
    (∃ (s : State), s.top.state ≠ .harvest) :=
  ⟨⟨s2_30, by decide +kernel⟩,
   ⟨s2_31, by decide +kernel⟩,
   ⟨s2_32, by decide +kernel⟩,
   ⟨modTrig (fun t => { t with watchExit := true }) s2_30, by decide +kernel⟩,
   ⟨modTrig (fun t => { t with limit := true }) s2_31, by decide +kernel⟩,
   ⟨modTrig (fun t => { t with phaseEnd := true }) s2_32, by decide +kernel⟩,
   ⟨s2_0, by decide +kernel⟩,
   ⟨s2_0, by decide +kernel⟩⟩

theorem witness_WakeScan :
    (∃ (failed : List Nat) (s : State), s.top.state = .wake ∧ s.top.phase = .scan ∧ s.top.wakeStep = 0 ∧ 2559 + resolveFrames s failed ≤ s.top.inState) ∧
    (∃ (failed : List Nat) (s : State) (x y : Nat), s.top.state = .wake ∧ s.top.phase = .scan ∧ s.top.wakeStep = 0 ∧
      2559 + resolveFrames s failed ≤ s.top.inState ∧ x ∈ toResolve s ∧ x ∈ failed ∧ y ∈ toResolve s ∧ y ∉ failed) ∧
    (∃ (s : State), s.top.state ≠ .wake ∨ s.top.inState < 2559) :=
  ⟨⟨[], s2_33, by decide +kernel⟩,
   ⟨[9], inArr (fun a => { a with ufe := [7, 9] }) (inTop (fun c => { c with inState := 40000 }) (atState .wake .scan)), 9, 7, by decide +kernel⟩,
   ⟨s2_0, by decide +kernel⟩⟩

theorem witness_WakePhases :
    (∃ (_i : ImageIn) (s : State), s.top.state = .wake ∧ s.top.phase = .image ∧ s.top.wakeStep = 1) ∧
    (∃ (_hs : List Nat) (s : State), s.top.state = .wake ∧ s.top.phase = .catalog ∧ s.top.wakeStep = 2) ∧
    (∃ (_hs : List Nat) (s : State), s.top.state = .wake ∧ s.top.phase = .catalog ∧ s.top.wakeStep = 2 ∧ (s.sec.life.inUse = false ∨ s.sec.killSeen = true)) ∧
    (∃ (_hs : List Nat) (s : State), s.top.state = .wake ∧ s.top.phase = .catalog ∧ s.top.wakeStep = 2 ∧ s.sec.killSeen = false) ∧
    (∃ (s : State), s.top.state = .wake ∧ s.top.phase = .catalog ∧ s.top.wakeStep = 3 ∧ 140 ≤ s.top.inPhase) ∧
    (∃ (_i : ImageIn) (_hs : List Nat) (s : State), s.top.state ≠ .wake) :=
  ⟨⟨{fwA := {digestOk := true, sigOk := true}, fwB := {digestOk := true, sigOk := true}, ext := {digestOk := true, sigOk := true}, keyRecOk := true, lostSlots := []}, s2_35, by decide +kernel⟩,
   ⟨[], s2_36, by decide +kernel⟩,
   ⟨[], s2_36, by decide +kernel⟩,
   ⟨[], s2_36, by decide +kernel⟩,
   ⟨s2_38, by decide +kernel⟩,
   ⟨{fwA := {digestOk := true, sigOk := true}, fwB := {digestOk := true, sigOk := true}, ext := {digestOk := true, sigOk := true}, keyRecOk := true, lostSlots := []}, [], s2_0, by decide +kernel⟩⟩

theorem witness_StateReqAccepted :
    (∃ (key : BitVec 16) (be : ByteEn) (s : State) (c : Instr) (cmd : Nat), let e : PostEntry := ⟨0x14, pack [(cmd, 4, 0), (key.toNat, 16, 16)], be⟩; (c, cmd) ∈ [(Instr.stateReqServiceEnter key be, 1), (.stateReqServiceLeave key be, 2), (.stateReqEarly key be, 3), (.stateReqDiscardComb key be, 4), (.stateReqDormant key be, 5), (.stateReqShip key be, 6), (.stateReqSoftReset key be, 7)] ∧ reaches e s = true ∧ oldest e s = true ∧ reqReason s cmd key = 0) ∧
    (∃ (key : BitVec 16) (be : ByteEn) (s : State), let e : PostEntry := ⟨0x14, pack [(0, 4, 0), (key.toNat, 16, 16)], be⟩; reaches e s = true ∧ oldest e s = true) :=
  ⟨⟨0x57a7#16, 0xf#4, s2_5, (Instr.stateReqServiceEnter 0x57a7#16 0xf#4), 1, by decide +kernel⟩,
   ⟨0xffff#16, 0xf#4, s2_5, by decide +kernel⟩⟩

theorem witness_StateReqRefused :
    (∃ (key : BitVec 16) (be : ByteEn) (s : State) (c : Instr) (cmd : Nat), let e : PostEntry := ⟨0x14, pack [(cmd, 4, 0), (key.toNat, 16, 16)], be⟩; ((c, cmd) ∈ [(Instr.stateReqServiceEnter key be, 1), (.stateReqServiceLeave key be, 2), (.stateReqEarly key be, 3), (.stateReqDiscardComb key be, 4), (.stateReqDormant key be, 5), (.stateReqShip key be, 6), (.stateReqSoftReset key be, 7)] ∨ (8 ≤ cmd ∧ cmd ≤ 15 ∧ c = .stateReqReserved cmd key be)) ∧ reaches e s = true ∧ oldest e s = true ∧ reqReason s cmd key ≠ 0) ∧
    (∃ (_key : BitVec 16) (_s : State) (cmd : Nat), 8 ≤ cmd) ∧
    (∃ (_key : BitVec 16) (s : State) (cmd : Nat), 1 ≤ cmd ∧ s.top.state = .harvest) :=
  ⟨⟨0xffff#16, 0xf#4, s2_5, (Instr.stateReqServiceEnter 0xffff#16 0xf#4), 1, by decide +kernel⟩,
   ⟨0xffff#16, s2_0, 8, by decide +kernel⟩,
   ⟨0x57A7#16, s2_31, 1, by decide +kernel⟩⟩

theorem witness_PostBuffer :
    (∃ (e : PostEntry) (s : State), accessUp s = true ∧ e.off % 4 = 0 ∧ e.off < 256 ∧ s.host.waiting = none) ∧
    (∃ (x e : PostEntry) (xs : List PostEntry) (s : State), s.host.post = x :: xs ∧ s.host.waiting = some e) :=
  ⟨⟨{off := 148, data := 0x00000007#32, be := 0xf#4}, s3_5, by decide +kernel⟩,
   ⟨⟨0, 7, 0xF⟩, ⟨0x94, 1, 0xF⟩, (List.range 7).map fun i => ⟨4 * (i + 1), 7, 0xF⟩,
     inHost (fun h => { h with waiting := some ⟨0x94, 1, 0xF⟩ }) s3_24, by decide +kernel⟩⟩

theorem witness_WriteTurnedAway :
    let base := fun (e : PostEntry) (s : State) => busUp s && e.off % 4 == 0 && decide (e.off < 256) && oldest e s &&
      !(s.host.post.isEmpty && s.host.syncWait) && (e.off != 0x2C || !s.host.tblBusy)
    (∃ (e : PostEntry) (s : State), base e s = true ∧ e.off = 0xF8) ∧
    (∃ (e : PostEntry) (s : State), base e s = true ∧ e.off ≠ 0xF8 ∧ s.top.window = true ∧ e.off ≠ 0x3C ∧ e.off ≠ 0x14) ∧
    (∃ (e : PostEntry) (s : State), base e s = true ∧ (s.top.window = false ∨ e.off = 0x14 ∨ e.off = 0x3C) ∧ e.off ∈ [0x14, 0x28, 0x38, 0x3C, 0xB8, 0xFC] ∧ e.be ≠ allBe) ∧
    (∃ (e : PostEntry) (s : State), base e s = true ∧ s.top.window = false ∧ wordAtomic e.off = false ∧ e.be = 0 ∧ e.off ≠ 0x2C) ∧
    (∃ (e : PostEntry) (s : State), base e s = true ∧ s.top.window = false ∧ wordAtomic e.off = false ∧ e.off ≠ 0xF8 ∧ e.be ≠ 0 ∧ s.top.state = .wake ∧ wakeAccepts e.off = false) ∧
    (∃ (s : State), s.host.post = [] ∧ s.host.syncWait = true) ∧
    (∃ (e : PostEntry) (s : State), e.off = 0x2C ∧ s.host.tblBusy = true) :=
  ⟨⟨⟨0xF8, 7, 0xF⟩, s3_25, by decide +kernel⟩,
   ⟨⟨148, 7, 0xF⟩, s3_25, by decide +kernel⟩,
   ⟨⟨20, 1, 0x3⟩, s3_5, by decide +kernel⟩,
   ⟨⟨148, 7, 0⟩, s3_5, by decide +kernel⟩,
   ⟨⟨148, 7, 0xF⟩, s3_26, by decide +kernel⟩,
   ⟨inHost (fun h => { h with syncWait := true }) s3_5, by decide +kernel⟩,
   ⟨⟨0x2C, 7, 0xF⟩, s3_41, by decide +kernel⟩⟩

theorem witness_WriteReaches :
    (∃ (data : Word) (s : State), let e : PostEntry := ⟨0x20, data, allBe⟩; reaches e s = true ∧ oldest e s = true) ∧
    (∃ (data : Word) (be : ByteEn) (s : State), let e : PostEntry := ⟨0x94, data, be⟩; reaches e s = true ∧ oldest e s = true) ∧
    (∃ (data : Word) (be : ByteEn) (s : State), let e : PostEntry := ⟨0xC0, data, be⟩; reaches e s = true ∧ oldest e s = true) ∧
    (∃ (data : Word) (be : ByteEn) (s : State), let e : PostEntry := ⟨0x18, data, be⟩; reaches e s = true ∧ oldest e s = true) ∧
    (∃ (data : Word) (be : ByteEn) (_s : State) (c : Instr) (off : Nat),
      (c, off) ∈ [(Instr.hostcfgSyncWrite data be, 0x18), (.intStatW1c data be, 0x1C), (.intForceWrite data be, 0x24),
        (.tblAddrWrite data be, 0x28), (.tblDataWrite data be, 0x2C), (.ringSelWrite data be, 0x34), (.ringPortWrite data be, 0x38),
        (.ringDoorbellWrite data be, 0x3C), (.rtcSecWrite data be, 0x78), (.faultInjectArm data be, 0xA8),
        (.mboxH2cWrite data be, 0xB8), (.unlockRequest data be, 0xFC)]) ∧
    (∃ (key : BitVec 16) (be : ByteEn) (_s : State) (c : Instr) (off : Nat) (fields : List (Nat × Nat × Nat)),
      (c, off, fields) ∈ [(Instr.stateReqNop key be, 0x14, [(0, 4, 0)]), (.stateReqServiceEnter key be, 0x14, [(1, 4, 0)]),
        (.stateReqServiceLeave key be, 0x14, [(2, 4, 0)]), (.stateReqEarly key be, 0x14, [(3, 4, 0)]),
        (.stateReqDiscardComb key be, 0x14, [(4, 4, 0)]), (.stateReqDormant key be, 0x14, [(5, 4, 0)]),
        (.stateReqShip key be, 0x14, [(6, 4, 0)]), (.stateReqSoftReset key be, 0x14, [(7, 4, 0)]),
        (.lifecycleProvision key be, 0x0C, [(1, 4, 8)]), (.lifecycleDeploy key be, 0x0C, [(2, 4, 8)]),
        (.lifecycleRma key be, 0x0C, [(3, 4, 8)]), (.lifecycleScrap key be, 0x0C, [(4, 4, 8)]),
        (.arrayProgram .host key 0xFF be, 0x90, [(6, 4, 0), (0xFF, 8, 8)]), (.arrayErase .host key be, 0x90, [(7, 4, 0), (0, 8, 8)])]) :=
  ⟨⟨0xffffffff#32, s3_5, by decide +kernel⟩,
   ⟨0xffffffff#32, 0xf#4, s3_5, by decide +kernel⟩,
   ⟨0xffffffff#32, 0xf#4, s3_5, by decide +kernel⟩,
   ⟨0xffffffff#32, 0xf#4, s3_5, by decide +kernel⟩,
   ⟨0x42#32, 0x3#4, s3_5, .tblAddrWrite 0x42 0x3, 0x28, by decide +kernel⟩,
   ⟨0x57A7#16, 0x3#4, s3_5, .stateReqShip 0x57A7 0x3, 0x14, [(6, 4, 0)], by decide +kernel⟩⟩

theorem witness_ReadsWithSideEffects :
    (∃ (s : State), accessUp s = true ∧ s.host.post = []) ∧
    (∃ (s : State) (c : Instr), c ∈ [Instr.intStatRead, .vinNowRead, .vstoreNowRead, .throttleStatRead, .faultPinCtrlRead, .rtcSecRead, .mboxC2hRead, .tblDataRead, .ringPortRead] ∧ (accessUp s = false ∨ s.host.post ≠ [])) :=
  ⟨⟨s3_5, by decide +kernel⟩,
   ⟨s3_0, Instr.intStatRead, by decide +kernel⟩⟩

theorem witness_InterruptRegister :
    (∃ (s : State), accessUp s = true ∧ s.host.post = []) ∧
    (∃ (data : Word) (be : ByteEn) (s : State), let e : PostEntry := ⟨0x1C, data, be⟩; reaches e s = true ∧ oldest e s = true) ∧
    (∃ (data : Word) (be : ByteEn) (s : State), let e : PostEntry := ⟨0x24, data, be⟩; reaches e s = true ∧ oldest e s = true) :=
  ⟨⟨s3_5, by decide +kernel⟩,
   ⟨0xffffffff#32, 0xf#4, s3_5, by decide +kernel⟩,
   ⟨0xffffffff#32, 0xf#4, s3_5, by decide +kernel⟩⟩

theorem witness_TablePort :
    (∃ (data : Word) (s : State), let e : PostEntry := ⟨0x28, data, allBe⟩; reaches e s = true ∧ oldest e s = true) ∧
    (∃ (s : State), s.host.tblBusy = true) ∧
    (∃ (s : State), s.host.tblBusy = true ∧ tblCode s s.host.tblTid s.host.tblIdx = 0 ∧ s.host.tblTid ≠ 12 ∧ s.host.tblTid ≠ 13 ∧ (∀ w, storeKey s s.host.tblTid s.host.tblIdx w ∉ s.conf.tblUe ∧ storeKey s s.host.tblTid s.host.tblIdx w ∉ s.conf.tblCe)) ∧
    (∃ (s : State), s.host.tblBusy = false) ∧
    (∃ (s : State), s.host.tblBusy = true) ∧
    (∃ (s : State), s.host.tblBusy = false ∧ accessUp s = true ∧ s.host.post = []) ∧
    (∃ (s : State), s.host.tblBusy = false ∧ accessUp s = true ∧ s.host.post = [] ∧ accessCode s ≠ 0) ∧
    (∃ (s : State), s.host.tblBusy = false ∧ accessUp s = true ∧ s.host.post = [] ∧ accessCode s = 0 ∧ s.host.tblWord ≠ 0 ∧ s.host.latchUe = false ∧ rcMask s.host.tblTid s.host.tblIdx s.host.tblWord = 0) ∧
    (∃ (data : Word) (s : State), let e : PostEntry := ⟨0x2C, data, allBe⟩; s.host.tblBusy = false ∧ reaches e s = true ∧ oldest e s = true) ∧
    (∃ (data : Word) (s : State), let e : PostEntry := ⟨0x2C, data, allBe⟩; s.host.tblBusy = false ∧ reaches e s = true ∧ oldest e s = true ∧ accessCode s ≠ 0) ∧
    (∃ (data : Word) (s : State), let e : PostEntry := ⟨0x2C, data, allBe⟩; s.host.tblBusy = false ∧ reaches e s = true ∧ oldest e s = true ∧ accessCode s = 0 ∧ s.host.tblTid ∈ [8, 9, 12, 13]) :=
  ⟨⟨0xffffffff#32, s3_5, by decide +kernel⟩,
   ⟨s3_41, by decide +kernel⟩,
   ⟨s3_41, by decide +kernel, by decide +kernel, by decide +kernel, by decide +kernel, fun _ => ⟨List.not_mem_nil, List.not_mem_nil⟩⟩,
   ⟨s3_0, by decide +kernel⟩,
   ⟨s3_41, by decide +kernel⟩,
   ⟨s3_5, by decide +kernel⟩,
   ⟨s3_5, by decide +kernel⟩,
   ⟨s3_46, by decide +kernel⟩,
   ⟨0xffffffff#32, s3_5, by decide +kernel⟩,
   ⟨0xffffffff#32, s3_5, by decide +kernel⟩,
   ⟨0xffffffff#32, s3_47, by decide +kernel⟩⟩

theorem witness_Mailbox :
    (∃ (data : Word) (s : State), let e : PostEntry := ⟨0xB8, data, allBe⟩; reaches e s = true ∧ oldest e s = true) ∧
    (∃ (b : Bool) (s x : State), coreRuns s b = true ∧ drainAll b (takeAsync b s) = some x ∧ x.hive.winUe.contains 0 = false ∧ x.host.h2cFull = true) ∧
    (∃ (b : Bool) (_data : Word) (s x : State), coreRuns s b = true ∧ drainAll b (takeAsync b s) = some x) ∧
    (∃ (s : State), accessUp s = true ∧ s.host.post = []) ∧
    (∃ (c : Instr) (s : State) (w : Word) (r : BitVec 8) (status : Nat) (result : Nat), fwServes s = true ∧ mboxMsg s = some w ∧ (c, status, result) ∈ [(Instr.mboxPing, 0, 0xA5), (.mboxFwVersion, (if mArg w < 4 then 0 else 2), (if mArg w < 4 then fld (s.hive.fwVersion.getD 0) (8 * mArg w) 8 else 0)), (.mboxLogMark, 0, 0), (.mboxExtension r, (if extReady s then 0 else 4), (if extReady s then r.toNat else 0)), (.mboxUnknown, 1, 0)] ∧ (c = .mboxPing → mCmd w = 1) ∧ (c = .mboxFwVersion → mCmd w = 2) ∧ (c = .mboxLogMark → mCmd w = 3) ∧ (c = .mboxExtension r → 0x80 ≤ mCmd w) ∧ (c = .mboxUnknown → mCmd w < 0x80 ∧ mCmd w ∉ [1, 2, 3])) ∧
    (∃ (c : Instr) (s : State) (w : Word) (r : BitVec 8) (status : Nat) (result : Nat), fwServes s = true ∧ mboxMsg s = some w ∧ (c, status, result) ∈ [(Instr.mboxPing, 0, 0xA5), (.mboxFwVersion, (if mArg w < 4 then 0 else 2), (if mArg w < 4 then fld (s.hive.fwVersion.getD 0) (8 * mArg w) 8 else 0)), (.mboxLogMark, 0, 0), (.mboxExtension r, (if extReady s then 0 else 4), (if extReady s then r.toNat else 0)), (.mboxUnknown, 1, 0)] ∧ (c = .mboxPing → mCmd w = 1) ∧ (c = .mboxFwVersion → mCmd w = 2) ∧ (c = .mboxLogMark → mCmd w = 3) ∧ (c = .mboxExtension r → 0x80 ≤ mCmd w) ∧ (c = .mboxUnknown → mCmd w < 0x80 ∧ mCmd w ∉ [1, 2, 3]) ∧ c = .mboxLogMark) ∧
    (∃ (c : Instr) (s : State) (r : BitVec 8), c ∈ [Instr.mboxPing, .mboxFwVersion, .mboxLogMark, .mboxExtension r, .mboxUnknown] ∧ (fwServes s = false ∨ mboxMsg s = none)) :=
  ⟨⟨0xffffffff#32, s3_5, by decide +kernel⟩,
   ⟨false, s6_44, _, by decide +kernel, rfl, by decide +kernel⟩,
   ⟨true, 0xffffffff#32, s3_27, _, by decide +kernel, rfl⟩,
   ⟨s3_5, by decide +kernel⟩,
   ⟨(Instr.mboxExtension 0xff#8), s3_27, 0xab000001#32, 0xff#8, 0, 255, by decide +kernel⟩,
   ⟨Instr.mboxLogMark, s3_35, 0x03ab0002#32, 0xff#8, 0, 0, by decide +kernel⟩,
   ⟨Instr.mboxPing, s3_0, 0xff#8, by decide +kernel⟩⟩

theorem witness_UnlockExchange :
    (∃ (lvl : Nat) (s : State), let data : Word := BitVec.ofNat 32 (0x554C0000 + lvl); let e : PostEntry := ⟨0xFC, data, allBe⟩; 1 ≤ lvl ∧ lvl ≤ 3 ∧ reaches e s = true ∧ oldest e s = true ∧ s.sec.chal = none) ∧
    (∃ (lvl : Nat) (s : State), let data : Word := BitVec.ofNat 32 (0x554C0000 + lvl); let e : PostEntry := ⟨0xFC, data, allBe⟩; 1 ≤ lvl ∧ lvl ≤ 3 ∧ reaches e s = true ∧ oldest e s = true ∧ s.sec.chal = none ∧ refuseUnlock s 0 lvl = 0) ∧
    (∃ (lvl : Nat) (s : State), let data : Word := BitVec.ofNat 32 (0x554C0000 + lvl); let e : PostEntry := ⟨0xFC, data, allBe⟩; 1 ≤ lvl ∧ lvl ≤ 3 ∧ reaches e s = true ∧ oldest e s = true ∧ s.sec.chal = none ∧ refuseUnlock s 0 lvl ≠ 0) ∧
    (∃ (data : Word) (chal : Word) (s : State), let e : PostEntry := ⟨0xFC, data, allBe⟩; reaches e s = true ∧ oldest e s = true ∧ s.sec.chal = some chal ∧ s.sec.channel = 0 ∧ data ≠ 0x554C0000) ∧
    (∃ (data : Word) (chal : Word) (s : State), let e : PostEntry := ⟨0xFC, data, allBe⟩; reaches e s = true ∧ oldest e s = true ∧ s.sec.chal = some chal ∧ s.sec.channel = 0 ∧ data ≠ 0x554C0000 ∧ data = unlockResp s chal s.sec.reqLevel) ∧
    (∃ (data : Word) (chal : Word) (s : State), let e : PostEntry := ⟨0xFC, data, allBe⟩; reaches e s = true ∧ oldest e s = true ∧ s.sec.chal = some chal ∧ s.sec.channel = 0 ∧ data ≠ 0x554C0000 ∧ data ≠ unlockResp s chal s.sec.reqLevel) ∧
    (∃ (s : State), let e : PostEntry := ⟨0xFC, 0x554C0000, allBe⟩; reaches e s = true ∧ oldest e s = true) ∧
    (∃ (s : State), let k := crf s 0xC8 4 4; 0 < s.sec.level ∧ 0 < k ∧ 2 ^ (k + 20) ≤ s.sec.raisedAge) ∧
    (∃ (s : State), let k := crf s 0xC8 4 4; (s.sec.level = 0 ∨ k = 0 ∨ s.sec.raisedAge < 2 ^ (k + 20))) :=
  ⟨⟨1, s3_5, by decide +kernel⟩,
   ⟨1, s3_5, by decide +kernel⟩,
   ⟨1, s3_7, by decide +kernel⟩,
   ⟨0x00000001#32, 0x00000007#32, s3_49, by decide +kernel⟩,
   ⟨0x619498df#32, 0x00000007#32, s3_49, by decide +kernel⟩,
   ⟨0x00000001#32, 0x00000007#32, s3_49, by decide +kernel⟩,
   ⟨s3_5, by decide +kernel⟩,
   ⟨s3_51, by decide +kernel⟩,
   ⟨s3_0, by decide +kernel⟩⟩

theorem witness_RingRegisters :
    let wr := fun (off : Nat) (data : Word) (s : State) => reaches ⟨off, data, allBe⟩ s && oldest ⟨off, data, allBe⟩ s
    (∃ (data : Word) (s : State), wr 0x34 data s = true ∧ selRing s % 4 ≠ 3 ∧ (ringOf s (selRing s)).part ≠ []) ∧
    (∃ (data : Word) (s : State), wr 0x38 data s = true ∧ rUsable s (selRing s) = true ∧ selRing s % 4 ≠ 3 ∧ (ringOf s (selRing s)).part.length < 3 ∧ avail s (selRing s) ≠ 0) ∧
    (∃ (data a b c : Word) (s : State), wr 0x38 data s = true ∧ rUsable s (selRing s) = true ∧ selRing s % 4 ≠ 3 ∧ (ringOf s (selRing s)).part = [a, b, c]) ∧
    (∃ (data : Word) (s : State), wr 0x38 data s = true ∧ rUsable s (selRing s) = true ∧ selRing s % 4 ≠ 3 ∧ (ringOf s (selRing s)).part = [] ∧ avail s (selRing s) = 0) ∧
    (∃ (data : Word) (s : State), wr 0x38 data s = true ∧ (rUsable s (selRing s) = false ∨ selRing s % 4 = 3)) ∧
    (∃ (s : State) (x : Entry) (rest : List Entry), accessUp s = true ∧ s.host.post = [] ∧ rUsable s (selRing s) = true ∧ selRing s % 4 = 3 ∧
      (ringOf s (selRing s)).unread = x :: rest ∧ x.ueW = [] ∧ x.ceW = [] ∧ (ringOf s (selRing s)).rdWord = 3) ∧
    (∃ (s : State), accessUp s = true ∧ s.host.post = [] ∧ rUsable s (selRing s) = true ∧ selRing s % 4 = 3 ∧ (ringOf s (selRing s)).unread = []) ∧
    (∃ (s : State), accessUp s = true ∧ s.host.post = [] ∧ (rUsable s (selRing s) = false ∨ selRing s % 4 ≠ 3)) ∧
    (∃ (data : Word) (s : State), wr 0x3C data s = true ∧ fld data 8 8 = 0) ∧
    (∃ (data : Word) (s : State), wr 0x3C data s = true ∧ fld data 8 8 ≠ 0 ∧ rUsable s (fld data 0 8) = true ∧ fld data 0 8 % 4 ≠ 3) ∧
    (∃ (data : Word) (s : State), wr 0x3C data s = true ∧ fld data 8 8 ≠ 0 ∧ rUsable s (fld data 0 8) = true ∧ fld data 0 8 % 4 = 3) ∧
    (∃ (data : Word) (s : State), wr 0x3C data s = true ∧ fld data 8 8 ≠ 0 ∧ rUsable s (fld data 0 8) = false) ∧
    (∃ (s : State), busUp s = true ∧ s.top.state ≠ .wake ∧ s.top.window = false) ∧
    (∃ (s : State), busUp s = false ∨ s.top.state = .wake ∨ s.top.window = true) ∧
    (∃ (r q : Nat) (s : State), r < 256 ∧ (ringOf s r).reset = 1 ∧ r % 4 = 0 ∧ (ringOf s q).reset ≠ 1 ∧ q % 4 ≠ 1) :=
  ⟨⟨0xffffffff#32, s4_26, by decide +kernel⟩,
   ⟨7, s4_25, by decide +kernel⟩,
   ⟨7, 1, 2, 3, withSel 0 (withQueues [(0, { part := [1, 2, 3] })] (atState .guard)), by decide +kernel⟩,
   ⟨0xffffffff#32, s4_32, by decide +kernel⟩,
   ⟨0xffffffff#32, s4_5, by decide +kernel⟩,
   ⟨withSel 3 (withQueues [(3, { unread := [dirtyE], rdWord := 3 })] (atState .guard)), dirtyE, [], by decide +kernel⟩,
   ⟨s4_24, by decide +kernel⟩,
   ⟨s4_5, by decide +kernel⟩,
   ⟨0x00000000#32, s4_5, by decide +kernel⟩,
   ⟨0x00000100#32, s4_24, by decide +kernel⟩,
   ⟨0x00000203#32, s4_24, by decide +kernel⟩,
   ⟨0xffffffff#32, s4_5, by decide +kernel⟩,
   ⟨s4_5, by decide +kernel⟩,
   ⟨s4_0, by decide +kernel⟩,
   ⟨0, 2, s4_31, by decide +kernel⟩⟩

theorem witness_AdmissionDecides :
    let base := fun (t : Nat) (s : State) => (match (tenOf s t).pend with
      | p :: _ => decide (p.stage = .scanning) && p.e.ceW.isEmpty && badCode s (4 * t) p.e == 0 && !namesUnrestored s p.e
      | [] => false) && (takeDone (.admitScan t) s).isSome && s.adm.ueWords.isEmpty && s.adm.ceWords.isEmpty
    let verdict := fun (t : Nat) (s : State) => match (tenOf s t).pend with
      | p :: _ => admitCheck s t (eCount p.e - (cellsIn s (eFirst p.e) (eCount p.e) 1).length) p.wait
      | [] => none
    let free := fun (t : Nat) (s : State) => answerRoom s t && s.ring.late.isEmpty && decide (2 ≤ ledLeft s 12)
    (∃ (t : Nat) (s : State), base t s = true ∧ dirtyDecides s = false) ∧
    (∃ (t : Nat) (s : State), base t s = true ∧ dirtyDecides s = true ∧ verdict t s = none) ∧
    (∃ (t : Nat) (s : State), base t s = true ∧ dirtyDecides s = true ∧ verdict t s ≠ none ∧ answerRoom s t = false) ∧
    (∃ (t : Nat) (s : State), base t s = true ∧ dirtyDecides s = true ∧ verdict t s = some .accept ∧ free t s = true ∧ s.adm.ocActive = false) ∧
    (∃ (t : Nat) (s : State) (c : Nat), base t s = true ∧ dirtyDecides s = true ∧ verdict t s = some (.refuse c) ∧ free t s = true) :=
  ⟨⟨0, inAdm (fun a => { a with recount := true }) s4_33, by decide +kernel⟩,
   ⟨0, s4_36, by decide +kernel⟩,
   ⟨0, withQueues [(3, { unread := (List.range 63).map fun _ => dirtyE })] s4_33rings, by decide +kernel⟩,
   ⟨0, s4_33, by decide +kernel⟩,
   ⟨0, inTop (fun c => { c with state := .service }) s4_33, 3, by decide +kernel⟩⟩

theorem witness_MapWrites :
    (∃ (t o first count : Nat) (s : State), endedWrite false t s = some (o, first, count) ∧ (takeDone (.admitWrite t o first count) s).isSome = true ∧
      (match (tenOf s t).pend with | p :: _ => decide (p.stage = .writing) && p.e.ord == o | [] => false) = true ∧ answersNow s = true ∧
      answerRoom s t = true ∧ ringsFree s = true) ∧
    (∃ (t o first count : Nat) (s : State), endedWrite true t s = some (o, first, count) ∧ (takeDone (.cleanWrite t o first count) s).isSome = true ∧
      (match (ringOf s (4 * t + 1)).pub with | e :: _ => e.ord == o | [] => false) = true ∧ (tenOf s t).clean = .writing ∧ answersNow s = true ∧
      answerRoom s t = true ∧ ringsFree s = true) ∧
    (∃ (t : Nat) (s : State) (e : Entry) (es : List Entry), (ringOf s (4 * t + 1)).pub = e :: es ∧ (tenOf s t).clean = .scanning ∧
      cleanDecides s = true ∧ (takeDone (.cleanScan t) s).isSome = true ∧ s.adm.ueWords = [] ∧ s.adm.ceWords = [] ∧ e.ceW = [] ∧
      badCode s (4 * t + 1) e = 0 ∧ namesReturnSet s e = false ∧ answerRoom s t = true ∧ ringsFree s = true) :=
  ⟨⟨0, 5, 5, 10, s4_40, by decide +kernel⟩,
   ⟨0, 5, 5, 10, s4_41, by decide +kernel⟩,
   ⟨0, s4_42, cleanE, [cleanE], by decide +kernel⟩⟩

theorem witness_WaitingEntries :
    let head := fun (t : Nat) (s : State) (f : Pend → Bool) => match (tenOf s t).pend with | p :: _ => f p | [] => false
    let free := fun (s : State) => s.ring.late.isEmpty && decide (2 ≤ ledLeft s 12)
    (∃ (t : Nat) (s : State), head t s (fun p => decide (p.stage = .held) && decide (2 ^ tWait s t ≤ p.wait)) = true ∧ dirtyDecides s = true ∧
      answerRoom s t = true ∧ free s = true) ∧
    (∃ (t : Nat) (s : State), head t s (fun p => decide (p.stage ≠ .held)) = true) ∧
    (∃ (s : State), (takeDone .recount s).isSome = true ∧ s.adm.ueWords = []) ∧
    (∃ (t : Nat) (s : State) (a : Answer), a.kind < 4 ∧ s.ring.answers.find? (fun a => a.tenant == t && a.ready) = some a ∧ answerRoom s t = true ∧
      ringsFree s = true) ∧
    (∃ (t : Nat) (s : State), s.ring.answers.find? (fun a => a.tenant == t && a.ready) = none ∧
      head t s (fun p => match p.stage with | .decided _ => true | _ => false) = true ∧ answersNow s = true ∧ answerRoom s t = true ∧
      ringsFree s = true) ∧
    (∃ (t : Nat) (s : State), s.ring.answers.find? (fun a => a.tenant == t && a.ready) = none ∧ (tenOf s t).pend = [] ∧
      (ringOf s (4 * t + 1)).pub = [] ∧ (ringOf s (4 * t + 2)).pub = [] ∧ s.ret.demands.any (fun d => d.ring == 4 * t + 2) = false) ∧
    (∃ (r st : Nat) (s : State) (e : Entry) (es : List Entry), r % 4 = 2 ∧ (ringOf s r).pub = e :: es ∧
      s.ret.demands.any (fun d => d.ring == r) = false ∧ demandStatus s = some st ∧ badCode s r e = 0 ∧ answerRoom s (r / 4) = true ∧ free s = true) ∧
    (∃ (r : Nat) (s : State) (d : Demand), let named := s.ret.cells.filter fun p => decide (eFirst d.e ≤ p.1) && decide (p.1 < eFirst d.e + eCount d.e);
      r % 4 = 2 ∧ s.ret.demands.find? (fun d => d.ring == r && !d.looked) = some d ∧ (takeDone (.demandLookup r) s).isSome = true ∧
      badCode s r d.e = 0 ∧ (named.filter fun p => p.2.status == 1).map (·.1) ≠ []) ∧
    (∃ (r : Nat) (s : State) (d : Demand), r % 4 = 2 ∧ d.ring = r ∧ d.looked = false ∧ s.ret.demands = [d] ∧
      (takeDone (.demandLookup r) s).isSome = true ∧ badCode s r d.e = 0 ∧ s.ret.locFull = false ∧
      s.ret.cells.any (fun p => decide (eFirst d.e ≤ p.1) && decide (p.1 < eFirst d.e + eCount d.e) && p.2.status == 1) = false ∧
      answerRoom s (r / 4) = true ∧ free s = true) :=
  ⟨⟨0, s4_44, by decide +kernel⟩,
   ⟨0, s4_31, by decide +kernel⟩,
   ⟨s4_49, by decide +kernel⟩,
   ⟨0, s4_48, ⟨0, 1, dirtyE, .cleaned, true⟩, by decide +kernel⟩,
   ⟨0, s4_47, by decide +kernel⟩,
   ⟨0, s4_0, by decide +kernel⟩,
   ⟨2, 3, s4_30, demandE, [], by decide +kernel⟩,
   ⟨2, s4_52, ⟨2, demandE, false, [], false⟩, by decide +kernel⟩,
   ⟨2, s4_53, ⟨2, demandE, false, [], false⟩, by decide +kernel⟩⟩

theorem witness_ChargeGovernor :
    let wr := fun (data : Word) (be : ByteEn) (s : State) => reaches ⟨0x6C, data, be⟩ s && oldest ⟨0x6C, data, be⟩ s && be.getLsbD 3
    (∃ (data : Word) (be : ByteEn) (s : State), wr data be s = true ∧ data.getLsbD 24 = true ∧ data.getLsbD 25 = false ∧ testBusy s = false) ∧
    (∃ (data : Word) (be : ByteEn) (s : State), wr data be s = true ∧ data.getLsbD 24 = true ∧ data.getLsbD 25 = false ∧ testBusy s = true) ∧
    (∃ (data : Word) (be : ByteEn) (s : State), wr data be s = true ∧ data.getLsbD 24 = false ∧ data.getLsbD 25 = true ∧ testBusy s = false ∧ s.top.state = .service) ∧
    (∃ (data : Word) (be : ByteEn) (s : State), wr data be s = true ∧ data.getLsbD 24 = false ∧ data.getLsbD 25 = true ∧ (testBusy s = true ∨ s.top.state ≠ .service)) ∧
    (∃ (s : State), s.store.test.stage = 2 ∧ 65536 ≤ s.store.test.frames) ∧
    (∃ (s : State), s.store.test.stage ≠ 2 ∨ s.store.test.frames < 65536) ∧
    (∃ (s : State), powered s = true ∧ s.store.test.stage = 3 ∧ 1114368 ≤ s.store.test.frames) ∧
    (∃ (s : State), s.store.test.stage ≠ 3 ∨ s.store.test.frames < 1114368) ∧
    (∃ (s : State) (e : Epoch), s.store.test.againAt = some e) :=
  ⟨⟨0x01000000#32, 0xf#4, s4_5, by decide +kernel⟩,
   ⟨0x01000000#32, 0xf#4, s4_54, by decide +kernel⟩,
   ⟨0x02000000#32, 0xf#4, s4_18, by decide +kernel⟩,
   ⟨0x02000000#32, 0xf#4, s4_5, by decide +kernel⟩,
   ⟨s4_54, by decide +kernel⟩,
   ⟨s4_0, by decide +kernel⟩,
   ⟨s4_55, by decide +kernel⟩,
   ⟨s4_0, by decide +kernel⟩,
   ⟨s4_56, 0x000000000005#48, by decide +kernel⟩⟩

theorem witness_DramOwnership :
    (∃ (_tick : Nat) (s : State), s.top.state = .harvest ∧ s.top.phase = .hIsolate ∧ s.dram.iso = 0 ∧ s.dram.sinceT ≤ 3) ∧
    (∃ (_tick : Nat) (s : State), s.top.state = .harvest ∧ s.top.phase = .hIsolate ∧ s.dram.iso = 0 ∧ 4 ≤ s.dram.sinceT) ∧
    (∃ (_tick : Nat) (s : State), (s.top.phase ≠ .hIsolate ∨ s.dram.iso ≠ 0)) ∧
    (∃ (rank : Nat) (s : State), s.dram.owned = true ∧ s.dram.iso ≠ 2 ∧ rank < ranksN s ∧ 0 < Sparse.get (fun _ => 0) s.dram.debt rank ∧ s.dram.taken = true) ∧
    (∃ (rank : Nat) (s : State), s.dram.owned = true ∧ s.dram.iso ≠ 2 ∧ rank < ranksN s ∧ Sparse.get (fun _ => 0) s.dram.debt rank = 0 ∧
      refInterval s ≤ Sparse.get (fun _ => 0) s.dram.refAcc rank + 200) ∧
    (∃ (rank : Nat) (s : State), s.dram.owned = false ∨ s.dram.iso = 2 ∨ ranksN s ≤ rank ∨
      (Sparse.get (fun _ => 0) s.dram.debt rank = 0 ∧ Sparse.get (fun _ => 0) s.dram.refAcc rank + 200 < refInterval s)) ∧
    (∃ (s : State), s.dram.owned = true ∧ s.dram.iso ≠ 2 ∧ 31999 ≤ s.dram.zqFrames) ∧
    (∃ (s : State), s.dram.owned = false ∨ s.dram.zqFrames < 31999) ∧
    (∃ (s : State), s.dram.owned = true ∧ s.dram.ownReq = true ∧ powered s = true) ∧
    (∃ (s : State), s.dram.owned = false ∨ s.dram.ownReq = false) ∧
    (∃ (s : State), fld (geomW s) 5 1 = 0) ∧
    (∃ (s : State), fld (geomW s) 5 1 = 1) :=
  ⟨⟨0, s5_8, by decide +kernel⟩,
   ⟨0, s5_26, by decide +kernel⟩,
   ⟨0, s5_0, by decide +kernel⟩,
   ⟨0, inDram (fun d => { d with taken := true }) s5_28, by decide +kernel⟩,
   ⟨0, inDram (fun d => { d with debt := [], refAcc := [(0, 200)] }) s5_28, by decide +kernel⟩,
   ⟨0, s5_0, by decide +kernel⟩,
   ⟨inDram (fun d => { d with zqFrames := 31999 }) s5_28, by decide +kernel⟩,
   ⟨s5_0, by decide +kernel⟩,
   ⟨{s5_28 with dram := {s5_28.dram with ownReq := true}}, by decide +kernel⟩,
   ⟨s5_0, by decide +kernel⟩,
   ⟨s5_0, by decide +kernel⟩,
   ⟨withConf [(ckey 10 7 0, 0x20)] s5_0, by decide +kernel⟩⟩

theorem witness_DramTraining :
    let wr := fun (s : State) => reaches ⟨0x2C, 1, allBe⟩ s && oldest ⟨0x2C, 1, allBe⟩ s && !s.host.tblBusy && atDdr s 20
    let may := fun (s : State) => mrErr s == 0 && (s.top.state = .service || (s.top.state = .ret && s.top.phase = .waitGnt && !ready s))
    let training := fun (s : State) => s.dram.training && s.dram.owned
    (∃ (s : State), wr s = true ∧ ddrBusy s = false ∧ may s = true) ∧
    (∃ (s : State), wr s = true ∧ ddrBusy s = false ∧ may s = false) ∧
    (∃ (s : State), wr s = true ∧ ddrBusy s = true) ∧
    (∃ (s : State), atDdr s 20 = false) ∧
    (∃ (okHost ok2400 : Bool) (s : State), training s = true ∧ ((if s.dram.train2 then ok2400 else okHost) && trainCellOk s) = true ∧
      s.arr.run = none ∧ s.arr.queue = [] ∧ s.arr.susp = none ∧ recordSlot s 98 99 < 100 * 2048) ∧
    (∃ (okHost ok2400 : Bool) (s : State), training s = true ∧ ((if s.dram.train2 then ok2400 else okHost) && trainCellOk s) = false ∧
      (trainsBoth s && !s.dram.train2) = false ∧ s.top.state = .service ∧ s.dram.hand = 0) ∧
    (∃ (_okHost _ok2400 : Bool) (s : State), training s = true ∧ (trainsBoth s && !s.dram.train2) = true) ∧
    (∃ (_okHost _ok2400 : Bool) (s : State), training s = true ∧ (trainsBoth s && !s.dram.train2) = false ∧ s.top.state = .ret) ∧
    (∃ (_okHost _ok2400 : Bool) (s : State), s.dram.training = false ∨ s.dram.owned = false) :=
  ⟨⟨s5_29, by decide +kernel⟩,
   ⟨s5_30, by decide +kernel⟩,
   ⟨s5_32, by decide +kernel⟩,
   ⟨s5_0, by decide +kernel⟩,
   ⟨true, true, s5_34, by decide +kernel⟩,
   ⟨false, false, s5_34, by decide +kernel⟩,
   ⟨true, true, s5_34b, by decide +kernel⟩,
   ⟨true, true, inTop (fun c => { c with state := .ret, phase := .waitGnt }) s5_34, by decide +kernel⟩,
   ⟨false, false, s5_0, by decide +kernel⟩⟩

theorem witness_TricklePass :
    let wr := fun (data : Word) (s : State) => reaches ⟨0x2C, data, allBe⟩ s && oldest ⟨0x2C, data, allBe⟩ s && !s.host.tblBusy && atDdr s 15
    let may := fun (s : State) => decide (s.top.state = .guard) && ready s && !s.dram.active && fld (cw s 10 10 0) 0 16 != 0 &&
      decide (0 < winCount s) && decide (winFirst s + winCount s ≤ cellsCfg s) && s.nand.valid && s.nand.armed &&
      decide (s.dram.passes.foldl (fun a p => a + p.2) 0 + winCount s ≤ trkRes s) && decide (s.dram.passes.length < 32)
    let copied := fun (c : Nat) (s : State) => s.dram.active && decide (s.top.state = .guard) && s.dram.copying.contains c &&
      !(s.nand.units.any fun u => u.pages.any fun p => p.cell == c)
    (∃ (s : State), wr 1 s = true ∧ may s = true) ∧
    (∃ (s : State), wr 1 s = true ∧ may s = false) ∧
    (∃ (s : State), wr 2 s = true ∧ s.dram.active = true) ∧
    (∃ (s : State) (c d : Nat), nextTrickle s = some c ∧ s.dram.nextCell ≤ d ∧ mayTrickle s d = true) ∧
    (∃ (c o : Nat) (s : State), copied c s = true ∧ cellState s c = 1 ∧ ownerOf s c = some o) ∧
    (∃ (c : Nat) (s : State), copied c s = true ∧ cellState s c ≠ 1) ∧
    (∃ (c : Nat) (s : State), c ∉ s.dram.copying ∨ s.dram.active = false) ∧
    (∃ (s : State), s.dram.active = true ∧ nextTrickle s = none ∧ s.dram.copying = [] ∧ (∀ p, p ∈ s.harv.lanes → p.2.cells = [])) ∧
    (∃ (s : State), s.dram.active = false ∨ (nextTrickle s).isSome = true) :=
  ⟨⟨s5_36, by decide +kernel⟩,
   ⟨s5_37, by decide +kernel⟩,
   ⟨s5_39, by decide +kernel⟩,
   ⟨s5_40, 3, 4, by decide +kernel⟩,
   ⟨3, 0, inDram (fun d => { d with copying := [3] }) s5_40, by decide +kernel⟩,
   ⟨5, inDram (fun d => { d with copying := [5] }) s5_40, by decide +kernel⟩,
   ⟨0, s5_0, by decide +kernel⟩,
   ⟨s5_39, by decide +kernel⟩,
   ⟨s5_0, by decide +kernel⟩⟩

theorem witness_HarvestSaves :
    let unitAt := fun (g page : Nat) (u : ProgUnit) (s : State) => writing s && s.harv.sealStep != 1 &&
      s.nand.units.find? (fun u => u.target == g && decide (page ≤ u.page) && decide (u.page < page + unitRows s false)) == some u
    (∃ (l c : Nat) (cs : List Nat) (s : State), (laneOf s l).cells = c :: cs ∧ writing s = true ∧ 65536 ≤ (laneOf s l).moved ∧
      (∀ w, w ∈ (laneOf s l).pages → w.kind ≠ 3)) ∧
    (∃ (l : Nat) (s : State), (writing s = false ∨ (laneOf s l).cells = [] ∨ (laneOf s l).moved < 65536)) ∧
    (∃ (g page : Nat) (u : ProgUnit) (s : State), unitAt g page u s = true ∧ u.page = page ∧ 2 ≤ (tgtOf s g).fails ∧
      u.pages.any (fun p => p.kind == 1) = false) ∧
    (∃ (g page : Nat) (u : ProgUnit) (s : State), unitAt g page u s = true ∧ u.pages.any (fun p => p.kind == 1) = true) ∧
    (∃ (g page : Nat) (e : CatEntry) (s : State), writing s = true ∧ s.harv.sealStep = 1 ∧ (g, page) ∈ s.harv.sealWait ∧
      combEntry s = some e ∧ s.harv.sealWait.erase (g, page) ≠ []) ∧
    (∃ (g page : Nat) (u : ProgUnit) (s : State), s.top.state = .guard ∧
      s.nand.units.find? (fun u => u.target == g && u.page == page) = some u) ∧
    (∃ (g : Nat) (s : State), tgtOn s g = true ∧ writing s = true ∧ lateUnits g s ≠ []) ∧
    (∃ (g : Nat) (s : State), tgtOn s g = true ∧ (s.top.state = .ret ∨ s.top.state = .early) ∧ s.dram.active = false) ∧
    (∃ (g : Nat) (s : State), tgtOn s g = false ∧ s.nand.rewrites = [] ∧ s.top.state ≠ .ret ∧ s.top.state ≠ .early) :=
  ⟨⟨0, 5, [6], s5_42, by decide +kernel⟩,
   ⟨0, s5_0, by decide +kernel⟩,
   ⟨1, 2, unitOf 1 2 2, s5_43, by decide +kernel⟩,
   ⟨4, 3, unitOf 4 3 1, s5_43, by decide +kernel⟩,
   ⟨0, 7, { slot := 1, combId := 2 }, s5_44, by decide +kernel⟩,
   ⟨1, 2, unitOf 1 2 2, inTop (fun c => { c with state := .guard, phase := .none }) s5_43, by decide +kernel⟩,
   ⟨1, { s5_43 with fr := { s5_43.fr with epoch := 5000 } }, by decide +kernel⟩,
   ⟨1, lanes (atState .ret .bulk), by decide +kernel⟩,
   ⟨0, s5_0, by decide +kernel⟩⟩

theorem witness_NandUpkeep :
    (∃ (g stripe : Nat) (s : State), s.nand.prep = true ∧ (g, stripe) ∈ s.nand.prepLeft) ∧
    (∃ (g stripe : Nat) (s : State), s.nand.prep = true ∧ (g, stripe) ∈ s.nand.prepLeft ∧ (∀ p, p ∈ s.nand.prepLeft → p = (g, stripe)) ∧
      s.nand.prepRearm = true ∧ s.nand.prepEntry.isSome = true) ∧
    (∃ (g stripe : Nat) (s : State) (e : CatEntry), s.nand.prep = true ∧ (g, stripe) ∈ s.nand.prepLeft ∧
      (∀ p, p ∈ s.nand.prepLeft → p = (g, stripe)) ∧ s.nand.prepRearm = false ∧ s.nand.prepEntry = some e) ∧
    (∃ (g stripe : Nat) (_pass : Bool) (s : State), (s.nand.prep = false ∨ (g, stripe) ∉ s.nand.prepLeft)) ∧
    (∃ (_b : BringUp) (s : State), s.nand.bringUp = true) ∧
    (∃ (_b : BringUp) (s : State), s.nand.bringUp = false) :=
  ⟨⟨0, 0, s5_45, by decide +kernel⟩,
   ⟨0, 0, inNand (fun n => { n with prepLeft := [(0, 0)], prepRearm := true, prepEntry := some { slot := 1, combId := 2 } }) s5_45, by decide +kernel⟩,
   ⟨0, 0, inNand (fun n => { n with prepLeft := [(0, 0)], prepEntry := some { slot := 1, combId := 2 } }) s5_45, { slot := 1, combId := 2 }, by decide +kernel⟩,
   ⟨0, 0, false, s5_0, by decide +kernel⟩,
   ⟨⟨0xF, 0xF, 0xF, [], [1, 2, 3, 4], [], []⟩, s5_47, by decide +kernel⟩,
   ⟨⟨0xF, 0xF, 0xF, [], [1, 2, 3, 4], [], []⟩, s5_0, by decide +kernel⟩⟩

theorem witness_ReturnFinds :
    let ver := fun (id : Nat) (s : State) => decide (s.top.state = .ret) && decide (s.top.phase = .verify) && verifyComb s == some id &&
      decide (1250 * (s.ret.verified.length + 1) ≤ s.top.inPhase + 1)
    (∃ (v : VerifyIn) (id : Nat) (s : State), ver id s = true ∧ v.hdr = none) ∧
    (∃ (v : VerifyIn) (id : Nat) (s : State) (h : CombHdr) (c : SealInfo) (r : CellRun) (x : Nat), ver id s = true ∧ v.hdr = some h ∧ v.sealCopy = some c ∧
      combSealed s id = true ∧ r ∈ c.runs ∧ r.coarse = false ∧ r.first ≤ x ∧ x < r.first + r.count) ∧
    (∃ (v : VerifyIn) (id : Nat) (s : State) (h : CombHdr), ver id s = true ∧ v.hdr = some h ∧ (v.sealCopy = none ∨ combSealed s id = false)) ∧
    (∃ (_v : VerifyIn) (s : State), (s.top.phase ≠ .verify ∨ verifyComb s = none)) ∧
    (∃ (l id : Nat) (h : CombHdr) (fs : List Footer) (s : State), s.top.state = .ret ∧ s.top.phase = .waitGnt ∧ sweepComb s l = some id ∧
      hdrOf s id = some h ∧ l ∈ retLanes s ∧ sweepCost s l ≤ Sparse.get (fun _ => 0) s.ret.ticks l ∧ sealOf s id = none ∧ fs.length < hUnit h) ∧
    (∃ (_l : Nat) (_fs : List Footer) (s : State), s.top.phase ≠ .waitGnt) :=
  ⟨⟨⟨none, none⟩, 1, s5_49, by decide +kernel⟩,
   ⟨⟨some ⟨[⟨0, true, 0, 0, 1000⟩], 1⟩, some ⟨[⟨4, 3, 0, false⟩], [], [], []⟩⟩, 1,
     inNand (fun n => { n with catalog := [{ slot := 0, combId := 1, opened := true, sealed := true }] }) s5_49,
     ⟨[⟨0, true, 0, 0, 1000⟩], 1⟩, ⟨[⟨4, 3, 0, false⟩], [], [], []⟩, ⟨4, 3, 0, false⟩, 5, by decide +kernel⟩,
   ⟨⟨some ⟨[⟨0, true, 0, 0, 1000⟩], 1⟩, none⟩, 1, s5_49, ⟨[⟨0, true, 0, 0, 1000⟩], 1⟩, by decide +kernel⟩,
   ⟨⟨none, none⟩, s5_0, by decide +kernel⟩,
   ⟨0, 1, ⟨[⟨0, true, 0, 0, 1000⟩], 1⟩, [], s5_51, by decide +kernel⟩,
   ⟨0, [], s5_0, by decide +kernel⟩⟩

theorem witness_ReturnRestores :
    let page := fun (p : PageRead) (x : RCell) (s : State) => cellRec s p.cell == some x && restoring s && x.lane == p.lane && x.status == 1 &&
      mayRead s p.lane p.cell
    let endSt := fun (id : Nat) (e : CatEntry) (s : State) => s.ret.endRetry == some 0 && s.ret.endsLeft.head? == some id &&
      s.nand.catalog.find? (fun e => e.combId == id && e.ended == 0) == some e
    (∃ (p : PageRead) (x : RCell) (s : State), page p x s = true ∧ p.unc = 0 ∧ p.retries ≤ 8 ∧ p.footerOk = true ∧ p.chainOk = true) ∧
    (∃ (p : PageRead) (x : RCell) (s : State), page p x s = true ∧ (p.unc ≠ 0 ∨ 8 < p.retries ∨ p.footerOk = false ∨ p.chainOk = false) ∧
      p.quarter ∉ x.acc ∧ quarterN p.quarter x.occ ≤ quarterN p.quarter x.bad + 1) ∧
    (∃ (p : PageRead) (s : State), (cellRec s p.cell = none ∨ restoring s = false)) ∧
    (∃ (l c : Nat) (x : RCell) (s : State), (laneFlight s l).find? (fun c => match cellRec s c with | some x => [0, 1, 2, 3].all fun q => x.acc.contains q | none => false) = some c ∧ cellRec s c = some x ∧ restoring s = true ∧ 65536 ≤ Sparse.get (fun _ => 0) s.ret.moved l) ∧
    (∃ (_l : Nat) (s : State), restoring s = false) ∧
    (∃ (okA okB : Bool) (id : Nat) (e : CatEntry) (s : State), endSt id e s = true ∧ (okA = true ∨ okB = true)) ∧
    (∃ (okA okB : Bool) (id : Nat) (e : CatEntry) (s : State), endSt id e s = true ∧ okA = false ∧ okB = false ∧ powered s = true) ∧
    (∃ (_okA _okB : Bool) (s : State), s.ret.endRetry ≠ some 0) :=
  ⟨⟨⟨0, 5, 0, 0, 0, 0, true, true, false⟩, rcell, s5_53, by decide +kernel⟩,
   ⟨⟨0, 5, 0, 0, 3, 3, true, true, false⟩, rcell, s5_53, by decide +kernel⟩,
   ⟨⟨0, 5, 0, 0, 0, 0, true, true, false⟩, s5_0, by decide +kernel⟩,
   ⟨0, 5, {rcell with acc := [1, 2, 3, 0]}, s5_56, by decide +kernel⟩,
   ⟨0, s5_0, by decide +kernel⟩,
   ⟨false, true, 2, { slot := 1, combId := 2, sealed := true }, s5_57, by decide +kernel⟩,
   ⟨false, false, 2, { slot := 1, combId := 2, sealed := true }, s5_57, by decide +kernel⟩,
   ⟨false, false, s5_0, by decide +kernel⟩⟩

theorem witness_ArrayCommands :
    (∃ (arg : Nat) (s : State), let sends := fun (r : Requester) (op key arg : Nat) (s : State) => (match r with
      | .host => reaches ⟨0x90, pack [(op, 4, 0), (arg, 8, 8), (key, 16, 16)], allBe⟩ s &&
      oldest ⟨0x90, pack [(op, 4, 0), (arg, 8, 8), (key, 16, 16)], allBe⟩ s
      | .core b => powered s && !(coreOf s b).inReset
      | .engine => false : Bool) = true
    sends .host 0 0 arg s) ∧
    (∃ (c : Instr) (op : Nat) (s : State), let sends := fun (r : Requester) (op key arg : Nat) (s : State) => (match r with
      | .host => reaches ⟨0x90, pack [(op, 4, 0), (arg, 8, 8), (key, 16, 16)], allBe⟩ s &&
      oldest ⟨0x90, pack [(op, 4, 0), (arg, 8, 8), (key, 16, 16)], allBe⟩ s
      | .core b => powered s && !(coreOf s b).inReset
      | .engine => false : Bool) = true
    (c, op) ∈ [(Instr.arrayLdlo allBe, 1), (.arrayLdhi allBe, 2), (.arrayGetlo allBe, 3), (.arrayGethi allBe, 4)] ∧ sends .host op 0 0 s ∧ cmdCode s .host op 0 0 = 0) ∧
    (∃ (c : Instr) (r : Requester) (op : Nat) (key : Nat) (arg : Nat) (k : BitVec 16) (m : BitVec 8) (s : State), let sends := fun (r : Requester) (op key arg : Nat) (s : State) => (match r with
      | .host => reaches ⟨0x90, pack [(op, 4, 0), (arg, 8, 8), (key, 16, 16)], allBe⟩ s &&
      oldest ⟨0x90, pack [(op, 4, 0), (arg, 8, 8), (key, 16, 16)], allBe⟩ s
      | .core b => powered s && !(coreOf s b).inReset
      | .engine => false : Bool) = true
    ((c, op, key, arg) ∈ [(Instr.arrayRead r allBe, 5, 0, 0), (.arrayProgram r k m allBe, 6, k.toNat, m.toNat), (.arrayErase r k allBe, 7, k.toNat, 0), (.arrayBlank r allBe, 8, 0, 0), (.arraySuspend r allBe, 9, 0, 0), (.arrayResume r allBe, 10, 0, 0)] ∨ (11 ≤ op ∧ op ≤ 15 ∧ key = 0 ∧ arg = 0 ∧ c = .arrayReserved r op allBe)) ∧ sends r op key arg s) ∧
    (∃ (c : Instr) (r : Requester) (op : Nat) (key : Nat) (arg : Nat) (k : BitVec 16) (m : BitVec 8) (s : State), let sends := fun (r : Requester) (op key arg : Nat) (s : State) => (match r with
      | .host => reaches ⟨0x90, pack [(op, 4, 0), (arg, 8, 8), (key, 16, 16)], allBe⟩ s &&
      oldest ⟨0x90, pack [(op, 4, 0), (arg, 8, 8), (key, 16, 16)], allBe⟩ s
      | .core b => powered s && !(coreOf s b).inReset
      | .engine => false : Bool) = true
    let code := cmdCode s r op key arg; ((c, op, key, arg) ∈ [(Instr.arrayRead r allBe, 5, 0, 0), (.arrayProgram r k m allBe, 6, k.toNat, m.toNat), (.arrayErase r k allBe, 7, k.toNat, 0), (.arrayBlank r allBe, 8, 0, 0), (.arraySuspend r allBe, 9, 0, 0), (.arrayResume r allBe, 10, 0, 0)] ∨ (11 ≤ op ∧ op ≤ 15 ∧ key = 0 ∧ arg = 0 ∧ c = .arrayReserved r op allBe)) ∧ sends r op key arg s ∧ code ≠ 0) ∧
    (∃ (c : Instr) (r : Requester) (op : Nat) (key : Nat) (arg : Nat) (k : BitVec 16) (m : BitVec 8) (s : State), let sends := fun (r : Requester) (op key arg : Nat) (s : State) => (match r with
      | .host => reaches ⟨0x90, pack [(op, 4, 0), (arg, 8, 8), (key, 16, 16)], allBe⟩ s &&
      oldest ⟨0x90, pack [(op, 4, 0), (arg, 8, 8), (key, 16, 16)], allBe⟩ s
      | .core b => powered s && !(coreOf s b).inReset
      | .engine => false : Bool) = true
    ((c, op, key, arg) ∈ [(Instr.arrayRead r allBe, 5, 0, 0), (.arrayProgram r k m allBe, 6, k.toNat, m.toNat), (.arrayErase r k allBe, 7, k.toNat, 0), (.arrayBlank r allBe, 8, 0, 0), (.arraySuspend r allBe, 9, 0, 0), (.arrayResume r allBe, 10, 0, 0)] ∨ (11 ≤ op ∧ op ≤ 15 ∧ key = 0 ∧ arg = 0 ∧ c = .arrayReserved r op allBe)) ∧ sends r op key arg s ∧ 11 ≤ op) ∧
    (∃ (c : Instr) (r : Requester) (op : Nat) (key : Nat) (arg : Nat) (k : BitVec 16) (m : BitVec 8) (s : State), let sends := fun (r : Requester) (op key arg : Nat) (s : State) => (match r with
      | .host => reaches ⟨0x90, pack [(op, 4, 0), (arg, 8, 8), (key, 16, 16)], allBe⟩ s &&
      oldest ⟨0x90, pack [(op, 4, 0), (arg, 8, 8), (key, 16, 16)], allBe⟩ s
      | .core b => powered s && !(coreOf s b).inReset
      | .engine => false : Bool) = true
    let code := cmdCode s r op key arg; let off := (portOf s r).addr.toNat; ((c, op, key, arg) ∈ [(Instr.arrayRead r allBe, 5, 0, 0), (.arrayProgram r k m allBe, 6, k.toNat, m.toNat), (.arrayErase r k allBe, 7, k.toNat, 0), (.arrayBlank r allBe, 8, 0, 0), (.arraySuspend r allBe, 9, 0, 0), (.arrayResume r allBe, 10, 0, 0)] ∨ (11 ≤ op ∧ op ≤ 15 ∧ key = 0 ∧ arg = 0 ∧ c = .arrayReserved r op allBe)) ∧ sends r op key arg s ∧ code = 0 ∧ op = 5 ∧ busyFor s off = 0 ∧ s.arr.retired.contains (secOf off) = false ∧ off / 8 ∉ s.arr.ueMarks) ∧
    (∃ (c : Instr) (r : Requester) (op : Nat) (key : Nat) (arg : Nat) (k : BitVec 16) (m : BitVec 8) (s : State), let sends := fun (r : Requester) (op key arg : Nat) (s : State) => (match r with
      | .host => reaches ⟨0x90, pack [(op, 4, 0), (arg, 8, 8), (key, 16, 16)], allBe⟩ s &&
      oldest ⟨0x90, pack [(op, 4, 0), (arg, 8, 8), (key, 16, 16)], allBe⟩ s
      | .core b => powered s && !(coreOf s b).inReset
      | .engine => false : Bool) = true
    let code := cmdCode s r op key arg; ((c, op, key, arg) ∈ [(Instr.arrayRead r allBe, 5, 0, 0), (.arrayProgram r k m allBe, 6, k.toNat, m.toNat), (.arrayErase r k allBe, 7, k.toNat, 0), (.arrayBlank r allBe, 8, 0, 0), (.arraySuspend r allBe, 9, 0, 0), (.arrayResume r allBe, 10, 0, 0)] ∨ (11 ≤ op ∧ op ≤ 15 ∧ key = 0 ∧ arg = 0 ∧ c = .arrayReserved r op allBe)) ∧ sends r op key arg s ∧ code = 0 ∧ op = 6 ∧ s.arr.run = none ∧ s.arr.queue = [] ∧ s.arr.susp = none) ∧
    (∃ (c : Instr) (r : Requester) (op : Nat) (key : Nat) (arg : Nat) (k : BitVec 16) (m : BitVec 8) (s : State), let sends := fun (r : Requester) (op key arg : Nat) (s : State) => (match r with
      | .host => reaches ⟨0x90, pack [(op, 4, 0), (arg, 8, 8), (key, 16, 16)], allBe⟩ s &&
      oldest ⟨0x90, pack [(op, 4, 0), (arg, 8, 8), (key, 16, 16)], allBe⟩ s
      | .core b => powered s && !(coreOf s b).inReset
      | .engine => false : Bool) = true
    let code := cmdCode s r op key arg; ((c, op, key, arg) ∈ [(Instr.arrayRead r allBe, 5, 0, 0), (.arrayProgram r k m allBe, 6, k.toNat, m.toNat), (.arrayErase r k allBe, 7, k.toNat, 0), (.arrayBlank r allBe, 8, 0, 0), (.arraySuspend r allBe, 9, 0, 0), (.arrayResume r allBe, 10, 0, 0)] ∨ (11 ≤ op ∧ op ≤ 15 ∧ key = 0 ∧ arg = 0 ∧ c = .arrayReserved r op allBe)) ∧ sends r op key arg s ∧ code = 0 ∧ op = 7 ∧ s.arr.run = none ∧ s.arr.queue = []) ∧
    (∃ (c : Instr) (r : Requester) (op : Nat) (key : Nat) (arg : Nat) (k : BitVec 16) (m : BitVec 8) (s : State), let sends := fun (r : Requester) (op key arg : Nat) (s : State) => (match r with
      | .host => reaches ⟨0x90, pack [(op, 4, 0), (arg, 8, 8), (key, 16, 16)], allBe⟩ s &&
      oldest ⟨0x90, pack [(op, 4, 0), (arg, 8, 8), (key, 16, 16)], allBe⟩ s
      | .core b => powered s && !(coreOf s b).inReset
      | .engine => false : Bool) = true
    let code := cmdCode s r op key arg; ((c, op, key, arg) ∈ [(Instr.arrayRead r allBe, 5, 0, 0), (.arrayProgram r k m allBe, 6, k.toNat, m.toNat), (.arrayErase r k allBe, 7, k.toNat, 0), (.arrayBlank r allBe, 8, 0, 0), (.arraySuspend r allBe, 9, 0, 0), (.arrayResume r allBe, 10, 0, 0)] ∨ (11 ≤ op ∧ op ≤ 15 ∧ key = 0 ∧ arg = 0 ∧ c = .arrayReserved r op allBe)) ∧ sends r op key arg s ∧ code = 0 ∧ (op = 6 ∨ op = 7) ∧ s.arr.run.isSome = true) ∧
    (∃ (c : Instr) (r : Requester) (op : Nat) (key : Nat) (arg : Nat) (k : BitVec 16) (m : BitVec 8) (s : State), let sends := fun (r : Requester) (op key arg : Nat) (s : State) => (match r with
      | .host => reaches ⟨0x90, pack [(op, 4, 0), (arg, 8, 8), (key, 16, 16)], allBe⟩ s &&
      oldest ⟨0x90, pack [(op, 4, 0), (arg, 8, 8), (key, 16, 16)], allBe⟩ s
      | .core b => powered s && !(coreOf s b).inReset
      | .engine => false : Bool) = true
    let code := cmdCode s r op key arg; let off := (portOf s r).addr.toNat; ((c, op, key, arg) ∈ [(Instr.arrayRead r allBe, 5, 0, 0), (.arrayProgram r k m allBe, 6, k.toNat, m.toNat), (.arrayErase r k allBe, 7, k.toNat, 0), (.arrayBlank r allBe, 8, 0, 0), (.arraySuspend r allBe, 9, 0, 0), (.arrayResume r allBe, 10, 0, 0)] ∨ (11 ≤ op ∧ op ≤ 15 ∧ key = 0 ∧ arg = 0 ∧ c = .arrayReserved r op allBe)) ∧ sends r op key arg s ∧ code = 0 ∧ op = 8 ∧ busyFor s off = 0) ∧
    (∃ (c : Instr) (r : Requester) (op : Nat) (key : Nat) (arg : Nat) (k : BitVec 16) (m : BitVec 8) (s : State), let sends := fun (r : Requester) (op key arg : Nat) (s : State) => (match r with
      | .host => reaches ⟨0x90, pack [(op, 4, 0), (arg, 8, 8), (key, 16, 16)], allBe⟩ s &&
      oldest ⟨0x90, pack [(op, 4, 0), (arg, 8, 8), (key, 16, 16)], allBe⟩ s
      | .core b => powered s && !(coreOf s b).inReset
      | .engine => false : Bool) = true
    let code := cmdCode s r op key arg; ((c, op, key, arg) ∈ [(Instr.arrayRead r allBe, 5, 0, 0), (.arrayProgram r k m allBe, 6, k.toNat, m.toNat), (.arrayErase r k allBe, 7, k.toNat, 0), (.arrayBlank r allBe, 8, 0, 0), (.arraySuspend r allBe, 9, 0, 0), (.arrayResume r allBe, 10, 0, 0)] ∨ (11 ≤ op ∧ op ≤ 15 ∧ key = 0 ∧ arg = 0 ∧ c = .arrayReserved r op allBe)) ∧ sends r op key arg s ∧ code = 0 ∧ op = 9) :=
  ⟨⟨0, s6_5, by decide +kernel⟩,
   ⟨(Instr.arrayLdlo 0xf#4), 1, s6_5, by decide +kernel⟩,
   ⟨(Instr.arrayReserved (Requester.host) 11 0xf#4), Requester.host, 11, 0, 0, 0xa77a#16, 0x0f#8, s6_5, by decide +kernel⟩,
   ⟨(Instr.arrayReserved (Requester.host) 11 0xf#4), Requester.host, 11, 0, 0, 0xa77a#16, 0x0f#8, s6_5, by decide +kernel⟩,
   ⟨(Instr.arrayReserved (Requester.host) 11 0xf#4), Requester.host, 11, 0, 0, 0xa77a#16, 0x0f#8, s6_5, by decide +kernel⟩,
   ⟨(Instr.arrayRead (Requester.host) 0xf#4), Requester.host, 5, 0, 0, 0xa77a#16, 0x0f#8, s6_5, by decide +kernel⟩,
   ⟨(Instr.arrayProgram (Requester.host) 0xa77a#16 0x0f#8 0xf#4), Requester.host, 6, 42874, 15, 0xa77a#16, 0x0f#8, s6_22, by decide +kernel⟩,
   ⟨(Instr.arrayErase (Requester.host) 0xa77a#16 0xf#4), Requester.host, 7, 42874, 0, 0xa77a#16, 0x0f#8, s6_22, by decide +kernel⟩,
   ⟨(Instr.arrayProgram (Requester.host) 0xa77a#16 0x0f#8 0xf#4), Requester.host, 6, 42874, 15, 0xa77a#16, 0x0f#8, s6_30, by decide +kernel⟩,
   ⟨(Instr.arrayBlank (Requester.host) 0xf#4), Requester.host, 8, 0, 0, 0xa77a#16, 0x0f#8, s6_5, by decide +kernel⟩,
   ⟨(Instr.arraySuspend (Requester.host) 0xf#4), Requester.host, 9, 0, 0, 0xa77a#16, 0x0f#8, s6_28, by decide +kernel⟩⟩

theorem witness_ArrayOperationEnds :
    (∃ (n : Nat) (ok : Bool) (o : ArrOp) (s : State), s.arr.run = some o ∧ o.erase = false ∧ 1 ≤ n ∧ n ≤ 16 ∧ (ok = true ∨ n = 16) ∧ 28 + 12 * n ≤ 4 * (o.frames + 1)) ∧
    (∃ (n : Nat) (ok : Bool) (o : ArrOp) (s : State), s.arr.run = some o ∧ o.erase = false ∧ 1 ≤ n ∧ n ≤ 16 ∧ (ok = true ∨ n = 16) ∧ 28 + 12 * n ≤ 4 * (o.frames + 1) ∧ o.req = .host ∧ powered s = true) ∧
    (∃ (n : Nat) (ok : Bool) (o : ArrOp) (s : State), s.arr.run = some o ∧ (o.erase = true ∨ n = 0 ∨ 16 < n ∨ (ok = false ∧ n < 16))) ∧
    (∃ (n : Nat) (ok : Bool) (o : ArrOp) (s : State), s.arr.run = some o ∧ o.erase = true ∧ 1 ≤ n ∧ n ≤ 48 ∧ (ok = true ∨ n = 48) ∧ 200 + 2256 * n ≤ 4 * (o.frames + 1) ∧ ok = false) ∧
    (∃ (n : Nat) (ok : Bool) (o : ArrOp) (s : State), s.arr.run = some o ∧ o.erase = true ∧ 1 ≤ n ∧ n ≤ 48 ∧ (ok = true ∨ n = 48) ∧ 200 + 2256 * n ≤ 4 * (o.frames + 1) ∧ o.req = .host ∧ powered s = true) ∧
    (∃ (_n : Nat) (_ok : Bool) (s : State), s.arr.run = none) ∧
    (∃ (o : ArrOp) (s : State), s.arr.run = some o ∧ s.arr.susp = none ∧ o.erase = true ∧ (portOf s o.req).suspReq = true ∧ s.arr.queue = [] ∧ o.req ≠ .engine ∧ (∀ r, (portOf s r).waitOp = none)) ∧
    (∃ (z : Susp) (s : State), s.arr.susp = some z ∧ (portOf s z.op.req).suspReq = true ∧ z.op.req ≠ .engine) ∧
    (∃ (s : State), s.arr.run = none ∧ s.arr.susp = none) ∧
    (∃ (z : Susp) (s : State), s.arr.susp = some z ∧ z.cause = 1 ∧ (2 ≤ z.quietFor ∨ 500 ≤ z.since)) ∧
    (let fetch := fun (b : Bool) (addr : Word) (s : State) => coreRuns s b && !(coreOf s b).asyncFault && decide (0x40000000 ≤ addr.toNat) &&
        decide (addr.toNat < 0x40400000) && (coreOf s b).buf.all (fun w => !fwReg w.addr.toNat);
      (∃ (b : Bool) (addr : Word) (s x : State), let off := addr.toNat - 0x40000000; fetch b addr s = true ∧ drainAll b (setStalled b false s) = some x ∧
        accessBad s b addr.toNat 4 false = false ∧ busyFor s off = 0 ∧ s.arr.retired.contains (secOf off) = false ∧ off / 8 ∉ s.arr.ueMarks) ∧
      (∃ (b isFetch : Bool) (addr : Word) (s x : State), let off := addr.toNat - 0x40000000; fetch b addr s = true ∧ drainAll b (setStalled b false s) = some x ∧
        accessBad s b addr.toNat 4 false = false ∧ busyFor s off = 3 ∧ (isFetch = true ∨ (portOf s (.core b)).statread = false)) ∧
      (∃ (b : Bool) (addr : Word) (s x : State), fetch b addr s = true ∧ drainAll b (setStalled b false s) = some x ∧
        accessBad s b addr.toNat 4 false = true ∧ (b && extOn x) = false) ∧
      (∃ (b : Bool) (addr : Word) (s x : State), fetch b addr s = true ∧ drainAll b (setStalled b false s) = some x ∧
        accessBad s b addr.toNat 4 false = true ∧ (b && extOn x) = true)) ∧
    (∃ (b : Bool) (s : State), coreRuns s b = false) ∧
    (∃ (b : Bool) (addr : Word) (s : State), coreRuns s b = true ∧ (coreOf s b).stepping = false ∧ (addr.toNat < 0x40000000 ∨ 0x40400000 ≤ addr.toNat)) :=
  ⟨⟨1, true, progOp (.core true) 0x208000, s6_30, by decide +kernel⟩,
   ⟨1, true, progOp .host 0x8008, s6_31, by decide +kernel⟩,
   ⟨0, false, eraseOp .host 0x8000, s6_28, by decide +kernel⟩,
   ⟨48, false, eraseOp .host 0x8000, s6_28, by decide +kernel⟩,
   ⟨1, true, eraseOp .host 0x8000, s6_28, by decide +kernel⟩,
   ⟨0, false, s6_0, by decide +kernel⟩,
   ⟨eraseOp .host 0x208000, s6_32, by decide +kernel, by decide +kernel, by decide +kernel, by decide +kernel, by decide +kernel, nofun,
     fun r => by cases r with | host => rfl | core b => cases b <;> rfl | engine => rfl⟩,
   ⟨⟨eraseOp .host 0x208000, 1, 0, 2⟩, inArr (fun p => { p with port := { p.port with suspReq := true } }) s6_35, by decide +kernel⟩,
   ⟨s6_0, by decide +kernel⟩,
   ⟨⟨eraseOp .host 0x208000, 1, 0, 2⟩, s6_35, by decide +kernel⟩,
   ⟨⟨false, 0x40000000, s6_24, _, by decide +kernel, rfl, by decide +kernel⟩,
    ⟨false, true, 0x40000000, s6_31, _, by decide +kernel, rfl, by decide +kernel⟩,
    ⟨false, 0x40000002, s6_24, _, by decide +kernel, rfl, by decide +kernel⟩,
    ⟨true, 0x40000002, s6_43, _, by decide +kernel, rfl, by decide +kernel⟩⟩,
   ⟨false, s6_0, by decide +kernel⟩,
   ⟨false, 0x10, s6_24, by decide +kernel⟩⟩

theorem witness_StepKeepsArrayCanonical :
    (∃ (s : State) (t : State), Sparse.wf (fun _ => erasedWord) s.arr.mem = true ∧ step s = .next t) :=
  ⟨s6_0, _, by decide +kernel, rfl⟩

theorem witness_OverlayImages :
    (∃ (s : State), let e : PostEntry := ⟨0xD8, pack [(ovlSel s, 3, 0), (1, 1, 8)], allBe⟩; reaches e s = true ∧ oldest e s = true) ∧
    (∃ (s : State), let e : PostEntry := ⟨0xD8, pack [(ovlSel s, 3, 0), (1, 1, 8)], allBe⟩; reaches e s = true ∧ oldest e s = true ∧ s.top.state = .service ∧ progOut s .host = false ∧ eraseOut s .host = false ∧ eraseSusp s .host = false) ∧
    (∃ (s : State), let e : PostEntry := ⟨0xD8, pack [(ovlSel s, 3, 0), (1, 1, 8)], allBe⟩; reaches e s = true ∧ oldest e s = true ∧ (s.top.state ≠ .service ∨ progOut s .host = true ∨ eraseOut s .host = true ∨ eraseSusp s .host = true)) ∧
    (∃ (s : State), let img := ovlSel s; let e : PostEntry := ⟨0xD8, pack [(img, 3, 0), (1, 1, 9)], allBe⟩; reaches e s = true ∧ oldest e s = true ∧ img < 6) :=
  ⟨⟨s6_5, by decide +kernel⟩,
   ⟨s6_18, by decide +kernel⟩,
   ⟨s6_5, by decide +kernel⟩,
   ⟨s6_5, by decide +kernel⟩⟩

theorem witness_CoreStores :
    let ram := fun (a : Nat) => decide (a < 0x10000) || (decide (0x10000000 ≤ a) && decide (a < 0x10080000))
    (∃ (b : Bool) (addr : Word) (size : Nat) (s : State), coreRuns s b = true ∧ (coreOf s b).asyncFault = false ∧ accessBad s b addr.toNat size true = false ∧
      ram addr.toNat = true ∧ (coreOf s b).buf.length < 4) ∧
    (∃ (b : Bool) (addr : Word) (size : Nat) (s : State), coreRuns s b = true ∧ (coreOf s b).asyncFault = false ∧ accessBad s b addr.toNat size true = false ∧
      ram addr.toNat = true ∧ 4 ≤ (coreOf s b).buf.length) ∧
    (∃ (b : Bool) (w : BufStore) (ws : List BufStore) (s : State), powered s = true ∧ (coreOf s b).buf = w :: ws ∧ ram w.addr.toNat = true ∧
      ramUe s b w.addr.toNat = false ∧ w.size ≤ 4 ∧ w.addr.toNat % 4 + w.size ≤ 4) ∧
    (∃ (b : Bool) (s : State), (coreOf s b).buf = []) ∧
    (∃ (b : Bool) (addr : Word) (size : Nat) (s : State), coreRuns s b = true ∧ (coreOf s b).asyncFault = false ∧ accessBad s b addr.toNat size false = false ∧
      ram addr.toNat = true ∧ ramUe s b addr.toNat = false ∧ youngest (coreOf s b).buf addr.toNat size = none) ∧
    (∃ (b : Bool) (addr : Word) (size : Nat) (s : State) (w : BufStore), coreRuns s b = true ∧ (coreOf s b).asyncFault = false ∧
      accessBad s b addr.toNat size false = false ∧ ram addr.toNat = true ∧ ramUe s b addr.toNat = false ∧
      youngest (coreOf s b).buf addr.toNat size = some w ∧ w.addr.toNat ≤ addr.toNat ∧ addr.toNat + size ≤ w.addr.toNat + w.size) ∧
    (∃ (b : Bool) (addr : Word) (size : Nat) (s : State) (w : BufStore), coreRuns s b = true ∧ (coreOf s b).asyncFault = false ∧
      accessBad s b addr.toNat size false = false ∧ ram addr.toNat = true ∧ ramUe s b addr.toNat = false ∧
      youngest (coreOf s b).buf addr.toNat size = some w ∧ w.addr.toNat + w.size < addr.toNat + size) ∧
    (∃ (b : Bool) (addr : Word) (size : Nat) (s x : State), coreRuns s b = true ∧ drainAll b (setStalled b false s) = some x ∧ (b && extOn x) = false ∧
      accessBad s b addr.toNat size true = true ∧ accessBad s b addr.toNat size false = true) ∧
    (∃ (b : Bool) (s : State), coreRuns s b = true ∧ (∀ w, w ∈ (coreOf s b).buf → fwReg w.addr.toNat = false)) ∧
    (∃ (b : Bool) (s : State), coreRuns s b = true ∧ (∃ w, w ∈ (coreOf s b).buf ∧ fwReg w.addr.toNat = true)) :=
  ⟨⟨false, 0, 1, s6_24, by decide +kernel⟩,
   ⟨false, 0, 4, coreA (fun c => { c with buf := List.replicate 4 ⟨0x10, 4, 1⟩ }) s6_24, by decide +kernel⟩,
   ⟨false, ⟨0x10, 4, 0xDDCCBBAA⟩, [⟨0x21, 1, 5⟩], s6_38, by decide +kernel⟩,
   ⟨false, s6_0, by decide +kernel⟩,
   ⟨false, 0, 1, s6_38, by decide +kernel⟩,
   ⟨false, 0x12, 2, s6_38, ⟨0x10, 4, 0xDDCCBBAA⟩, by decide +kernel⟩,
   ⟨false, 0x20, 4, s6_38, ⟨0x21, 1, 5⟩, by decide +kernel⟩,
   ⟨false, 0x11, 4, s6_38, _, by decide +kernel, rfl, by decide +kernel⟩,
   ⟨false, s6_24, by decide +kernel⟩,
   ⟨true, s6_40, by decide +kernel⟩⟩

theorem witness_CoreEvents :
    (∃ (b : Bool) (s x : State), coreRuns s b = true ∧ drainAll b (takeAsync b s) = some x ∧ x.hive.winUe.contains 0 = false) ∧
    (∃ (b : Bool) (s x : State), coreRuns s b = true ∧ drainAll b s = some x ∧ (b && extOn x) = false) ∧
    (∃ (b : Bool) (s x : State), coreRuns s b = true ∧ drainAll b s = some x ∧ (b && extOn x) = true) ∧
    (∃ (b : Bool) (s : State), coreRuns s b = true) ∧
    (∃ (b : Bool) (s : State) (data : Word) (cause : ExcCause) (c : Instr), coreRuns s b = false ∧ c ∈ [Instr.h2cTake b, .c2hPost b data, .dbH2cClear b data, .dbC2hSet b data, .wdogKick b data, .syncException b cause data, .coreInterrupt b]) ∧
    (∃ (b : Bool) (s : State), powered s = false ∨ quiesced s = true ∨ (coreOf s b).inReset = true ∨ (coreOf s b).wdog < 65536) ∧
    (∃ (b : Bool) (s : State), powered s = true ∧ quiesced s = false ∧ (coreOf s b).inReset = false ∧ 65536 ≤ (coreOf s b).wdog ∧ s.host.takenB = b) ∧
    (∃ (b : Bool) (s : State), powered s = true ∧ (coreOf s b).clearing = true ∧ 16 ≤ (coreOf s b).clearFrames ∧ s.tally.halted = false) ∧
    (∃ (b : Bool) (s : State), (coreOf s b).clearing = false) ∧
    (∃ (k : ActKind) (s : State), fwServes s = true ∧ extReady s = true ∧ coreRuns s true = true ∧ (k = .mailbox → ∃ w, mboxMsg s = some w ∧ 0x80 ≤ mCmd w) ∧ (k = .doorbell → fld s.host.dbH2c 16 16 ≠ 0)) ∧
    (∃ (_k : ActKind) (s : State), extReady s = false) ∧
    (∃ (n : Nat) (s : State), s.hive.extSince = some n ∧ powered s = true ∧ 4096 ≤ n) ∧
    (∃ (s : State), s.hive.extSince = none) :=
  ⟨⟨false, s6_24, _, by decide +kernel, rfl, by decide +kernel⟩,
   ⟨false, s6_24, _, by decide +kernel, rfl, by decide +kernel⟩,
   ⟨true, s6_43, _, by decide +kernel, rfl, by decide +kernel⟩,
   ⟨false, s6_24, by decide +kernel⟩,
   ⟨false, s6_0, 0xffffffff#32, ExcCause.illegal, (Instr.h2cTake false), by decide +kernel⟩,
   ⟨false, s6_24, by decide +kernel⟩,
   ⟨false, s6_41, by decide +kernel⟩,
   ⟨false, s6_47, by decide +kernel⟩,
   ⟨false, s6_0, by decide +kernel⟩,
   ⟨ActKind.periodic, s6_44, by decide +kernel, by decide +kernel, by decide +kernel, nofun, by decide +kernel⟩,
   ⟨ActKind.mailbox, s6_0, by decide +kernel⟩,
   ⟨4096, s6_43, by decide +kernel⟩,
   ⟨s6_0, by decide +kernel⟩⟩

theorem witness_TallyMessages :
    (∃ (src : Nat) (kind : Nat) (_addr : Word) (s : State), let _o := srcOf s src; powered s = true ∧ 1 ≤ kind ∧ kind ≤ kindsOf src) ∧
    (∃ (src : Nat) (kind : Nat) (_addr : Word) (s : State), let _o := srcOf s src; powered s = true ∧ 1 ≤ kind ∧ kind ≤ kindsOf src ∧ src ≠ 0x48) ∧
    (∃ (src : Nat) (kind : Nat) (_addr : Word) (s : State), powered s = false ∧ s.top.state ≠ .off ∧ 1 ≤ kind ∧ kind ≤ kindsOf src ∧ aonSource src = true) ∧
    (∃ (src : Nat) (kind : Nat) (_addr : Word) (_s : State), (kind = 0 ∨ kindsOf src < kind)) ∧
    (∃ (src : Nat) (s : State), powered s = true ∧ (srcOf s src).open_ = true ∧ (srcOf s src).left = 0) ∧
    (∃ (src : Nat) (s : State), ((srcOf s src).open_ = false ∨ 0 < (srcOf s src).left)) ∧
    (∃ (s : State), powered s = true ∧ s.tally.degraded = true ∧ s.tally.halted = false ∧ 2 ^ crf s 0xAC 16 5 ≤ s.tally.quiet) ∧
    (∃ (s : State), (s.tally.degraded = false ∨ s.tally.halted = true ∨ s.tally.quiet < 2 ^ crf s 0xAC 16 5)) :=
  ⟨⟨8, 1, 0xffffffff#32, s7_2, by decide +kernel⟩,
   ⟨8, 1, 0xffffffff#32, s7_2, by decide +kernel⟩,
   ⟨37, 1, 0xffffffff#32, s7_1, by decide +kernel⟩,
   ⟨0, 0, 0xffffffff#32, s7_0, by decide +kernel⟩,
   ⟨3, s7_24, by decide +kernel⟩,
   ⟨0, s7_0, by decide +kernel⟩,
   ⟨s7_24, by decide +kernel⟩,
   ⟨s7_0, by decide +kernel⟩⟩

theorem witness_InjectionAndRecords :
    (∃ (data : Word) (s : State), let e : PostEntry := ⟨0xA8, data, allBe⟩; reaches e s = true ∧ oldest e s = true ∧ data.getLsbD 16 = false ∧ s.tally.injLeft = 0 ∧ 1 ≤ fld data 0 4 ∧ fld data 0 4 ≤ 9 ∧ fld data 8 8 ≠ 0) ∧
    (∃ (data : Word) (s : State), let e : PostEntry := ⟨0xA8, data, allBe⟩; reaches e s = true ∧ oldest e s = true ∧ data.getLsbD 16 = false ∧ s.tally.injLeft = 0 ∧ 1 ≤ fld data 0 4 ∧ fld data 0 4 ≤ 9 ∧ fld data 8 8 ≠ 0 ∧ grantsS s = true) ∧
    (∃ (data : Word) (s : State), let e : PostEntry := ⟨0xA8, data, allBe⟩; reaches e s = true ∧ oldest e s = true ∧ data.getLsbD 16 = false ∧ s.tally.injLeft = 0 ∧ 1 ≤ fld data 0 4 ∧ fld data 0 4 ≤ 9 ∧ fld data 8 8 ≠ 0 ∧ grantsS s = false) ∧
    (∃ (be : ByteEn) (s : State), let e : PostEntry := ⟨0xA8, 0x00010000, be⟩; reaches e s = true ∧ oldest e s = true ∧ be.getLsbD 2 = true) ∧
    (∃ (s : State), logOpen s = true ∧ 0 < s.tally.drops ∧ s.tally.queue.length < 32 ∧ logBlocked s = false) ∧
    (∃ (s : State), (s.tally.drops = 0 ∨ logBlocked s = true)) ∧
    (∃ (s : State), logOpen s = true ∧ s.top.state ≠ .harvest ∧ s.tally.snap ≠ []) ∧
    (∃ (s : State), logOpen s = true ∧ s.top.state ≠ .harvest ∧ s.tally.snap ≠ [] ∧ s.tally.queue.length + s.tally.snap.length ≤ 32) ∧
    (∃ (s : State), s.tally.snap = []) :=
  ⟨⟨0x00000102#32, s7_5, by decide +kernel⟩,
   ⟨0x00000102#32, s7_20, by decide +kernel⟩,
   ⟨0x00000102#32, s7_5, by decide +kernel⟩,
   ⟨0xf#4, s7_5, by decide +kernel⟩,
   ⟨s7_25, by decide +kernel⟩,
   ⟨s7_0, by decide +kernel⟩,
   ⟨s7_25, by decide +kernel⟩,
   ⟨s7_25, by decide +kernel⟩,
   ⟨s7_0, by decide +kernel⟩⟩

theorem witness_LifecycleCommands :
    (∃ (c : Instr) (cmd : Nat) (key : BitVec 16) (s : State), let e : PostEntry := ⟨0x0C, pack [(cmd, 4, 8), (key.toNat, 16, 16)], allBe⟩; (c, cmd) ∈ [(Instr.lifecycleProvision key allBe, 1), (.lifecycleDeploy key allBe, 2), (.lifecycleRma key allBe, 3), (.lifecycleScrap key allBe, 4)] ∧ reaches e s = true ∧ oldest e s = true) ∧
    (∃ (c : Instr) (cmd : Nat) (key : BitVec 16) (s : State), let e : PostEntry := ⟨0x0C, pack [(cmd, 4, 8), (key.toNat, 16, 16)], allBe⟩; (c, cmd) ∈ [(Instr.lifecycleProvision key allBe, 1), (.lifecycleDeploy key allBe, 2), (.lifecycleRma key allBe, 3), (.lifecycleScrap key allBe, 4)] ∧ reaches e s = true ∧ oldest e s = true ∧ s.sec.lcBusy = none ∧ lifeRefuse s cmd key.toNat = 0) ∧
    (∃ (c : Instr) (cmd : Nat) (key : BitVec 16) (s : State), let e : PostEntry := ⟨0x0C, pack [(cmd, 4, 8), (key.toNat, 16, 16)], allBe⟩; (c, cmd) ∈ [(Instr.lifecycleProvision key allBe, 1), (.lifecycleDeploy key allBe, 2), (.lifecycleRma key allBe, 3), (.lifecycleScrap key allBe, 4)] ∧ reaches e s = true ∧ oldest e s = true ∧ s.sec.lcBusy = none ∧ lifeRefuse s cmd key.toNat ≠ 0) ∧
    (∃ (c : Instr) (cmd : Nat) (key : BitVec 16) (s : State), let e : PostEntry := ⟨0x0C, pack [(cmd, 4, 8), (key.toNat, 16, 16)], allBe⟩; (c, cmd) ∈ [(Instr.lifecycleProvision key allBe, 1), (.lifecycleDeploy key allBe, 2), (.lifecycleRma key allBe, 3), (.lifecycleScrap key allBe, 4)] ∧ reaches e s = true ∧ oldest e s = true ∧ s.sec.lcBusy.isSome = true) ∧
    (∃ (_ok : Bool) (cmd : Nat) (s : State), s.sec.lcBusy = some cmd ∧ 1 ≤ cmd ∧ cmd ≤ 4) ∧
    (∃ (ok : Bool) (cmd : Nat) (s : State), s.sec.lcBusy = some cmd ∧ 1 ≤ cmd ∧ cmd ≤ 4 ∧ ok = true ∧ powered s = true) ∧
    (∃ (ok : Bool) (cmd : Nat) (s : State), s.sec.lcBusy = some cmd ∧ ok = true ∧ cmd = 3) ∧
    (∃ (ok : Bool) (cmd : Nat) (s : State), s.sec.lcBusy = some cmd ∧ ok = true ∧ cmd = 4) ∧
    (∃ (ok : Bool) (cmd : Nat) (s : State), s.sec.lcBusy = some cmd ∧ 1 ≤ cmd ∧ cmd ≤ 4 ∧ ok = false) ∧
    (∃ (_ok : Bool) (s : State), s.sec.lcBusy = none) :=
  ⟨⟨(Instr.lifecycleProvision 0x4c43#16 0xf#4), 1, 0x4c43#16, s7_5, by decide +kernel⟩,
   ⟨(Instr.lifecycleScrap 0x4c43#16 0xf#4), 4, 0x4c43#16, s7_21, by decide +kernel⟩,
   ⟨(Instr.lifecycleProvision 0x4c43#16 0xf#4), 1, 0x4c43#16, s7_5, by decide +kernel⟩,
   ⟨(Instr.lifecycleProvision 0x4c43#16 0xf#4), 1, 0x4c43#16, s7_33, by decide +kernel⟩,
   ⟨false, 1, s7_33, by decide +kernel⟩,
   ⟨true, 1, s7_33, by decide +kernel⟩,
   ⟨true, 3, inSec (fun k => { k with lcBusy := some 3 }) s7_33, by decide +kernel⟩,
   ⟨true, 4, inSec (fun k => { k with lcBusy := some 4 }) s7_33, by decide +kernel⟩,
   ⟨false, 1, s7_33, by decide +kernel⟩,
   ⟨false, s7_0, by decide +kernel⟩⟩

theorem witness_KeyOperations :
    (∃ (c : Instr) (op : Nat) (slot : Nat) (idx : Nat) (d : BitVec 16) (s : State), let e : PostEntry := ⟨0xD0, pack [(op, 4, 0), (slot, 6, 4), (idx, 5, 10), (d.toNat, 16, 16)], allBe⟩; ((c, op, slot, idx, d) ∈ [(Instr.keyGen slot, 1, slot, 0, 0), (.keyLoad idx d, 2, s.sec.keySlot, idx, d), (.keyImport slot, 3, slot, 0, 0), (.keyZero slot, 4, slot, 0, 0), (.keyRaiseFw, 5, s.sec.keySlot, 0, 0), (.keyRaiseExt, 6, s.sec.keySlot, 0, 0)] ∨ (7 ≤ op ∧ op ≤ 15 ∧ c = .keyReservedOp op ∧ slot = s.sec.keySlot ∧ idx = 0 ∧ d = 0)) ∧ slot < 64 ∧ idx < 32 ∧ reaches e s = true ∧ oldest e s = true) ∧
    (∃ (c : Instr) (op : Nat) (slot : Nat) (idx : Nat) (d : BitVec 16) (s : State), let e : PostEntry := ⟨0xD0, pack [(op, 4, 0), (slot, 6, 4), (idx, 5, 10), (d.toNat, 16, 16)], allBe⟩; ((c, op, slot, idx, d) ∈ [(Instr.keyGen slot, 1, slot, 0, 0), (.keyLoad idx d, 2, s.sec.keySlot, idx, d), (.keyImport slot, 3, slot, 0, 0), (.keyZero slot, 4, slot, 0, 0), (.keyRaiseFw, 5, s.sec.keySlot, 0, 0), (.keyRaiseExt, 6, s.sec.keySlot, 0, 0)] ∨ (7 ≤ op ∧ op ≤ 15 ∧ c = .keyReservedOp op ∧ slot = s.sec.keySlot ∧ idx = 0 ∧ d = 0)) ∧ slot < 64 ∧ idx < 32 ∧ reaches e s = true ∧ oldest e s = true ∧ s.sec.keyBusy.isSome = true) ∧
    (∃ (c : Instr) (op : Nat) (slot : Nat) (idx : Nat) (d : BitVec 16) (s : State), let e : PostEntry := ⟨0xD0, pack [(op, 4, 0), (slot, 6, 4), (idx, 5, 10), (d.toNat, 16, 16)], allBe⟩; ((c, op, slot, idx, d) ∈ [(Instr.keyGen slot, 1, slot, 0, 0), (.keyLoad idx d, 2, s.sec.keySlot, idx, d), (.keyImport slot, 3, slot, 0, 0), (.keyZero slot, 4, slot, 0, 0), (.keyRaiseFw, 5, s.sec.keySlot, 0, 0), (.keyRaiseExt, 6, s.sec.keySlot, 0, 0)] ∨ (7 ≤ op ∧ op ≤ 15 ∧ c = .keyReservedOp op ∧ slot = s.sec.keySlot ∧ idx = 0 ∧ d = 0)) ∧ slot < 64 ∧ idx < 32 ∧ reaches e s = true ∧ oldest e s = true ∧ s.sec.keyBusy = none) ∧
    (∃ (_ok : Bool) (op : Nat) (slot : Nat) (s : State), s.sec.keyBusy = some (op, slot) ∧ 1 ≤ op ∧ op ≤ 6 ∧ op ≠ 2) ∧
    (∃ (ok : Bool) (op : Nat) (slot : Nat) (s : State), s.sec.keyBusy = some (op, slot) ∧ 1 ≤ op ∧ op ≤ 6 ∧ op ≠ 2 ∧ ok = false) ∧
    (∃ (ok : Bool) (op : Nat) (slot : Nat) (s : State), s.sec.keyBusy = some (op, slot) ∧ 1 ≤ op ∧ op ≤ 6 ∧ op ≠ 2 ∧ ok = true ∧ s.sec.slots.length ≤ 64) ∧
    (∃ (_ok : Bool) (s : State), s.sec.keyBusy = none) :=
  ⟨⟨(Instr.keyGen 0), 1, ((0, 0, 0x0000#16)).1, ((0, 0, 0x0000#16)).2.1, ((0, 0, 0x0000#16)).2.2, s7_5, by decide +kernel⟩,
   ⟨(Instr.keyGen 0), 1, ((0, 0, 0x0000#16)).1, ((0, 0, 0x0000#16)).2.1, ((0, 0, 0x0000#16)).2.2, s7_28, by decide +kernel⟩,
   ⟨(Instr.keyGen 0), 1, ((0, 0, 0x0000#16)).1, ((0, 0, 0x0000#16)).2.1, ((0, 0, 0x0000#16)).2.2, s7_5, by decide +kernel⟩,
   ⟨false, 1, 3, s7_28, by decide +kernel⟩,
   ⟨false, 1, 3, s7_28, by decide +kernel⟩,
   ⟨true, 1, 3, s7_28, by decide +kernel⟩,
   ⟨false, s7_0, by decide +kernel⟩⟩

theorem witness_JtagInstructions :
    (∃ (s : State) (c : Instr) (bits : List Bool) (data : Word) (row n : Nat) (ob : ObsOp) (op : SvcOp) (d : DbgOp) (ws : List Word), tapUp s = false ∧
      c ∈ [Instr.jtagBypass, .jtagIdcode, .jtagSamplePreload bits, .jtagExtest, .jtagClamp, .jtagHighz, .jtagUnlock data, .jtagObserve ob,
        .jtagService op, .jtagHivedbg d, .jtagScan, .jtagOtpProg row ws, .jtagReserved n]) ∧
    (∃ (s : State) (tid idx : Nat), tapUp s = true ∧ tblCode s tid idx = 0 ∧ tid ∉ [12, 13] ∧
      (∀ w, storeKey s tid idx w ∉ s.conf.tblUe ∧ storeKey s tid idx w ∉ s.conf.tblCe) ∧ privGrants grantsO s = true) ∧
    (∃ (s : State) (lvl : Nat), tapUp s = true ∧ 1 ≤ lvl ∧ lvl ≤ 3 ∧ s.sec.chal = none ∧ privGrants grantsP s = true ∧ refuseUnlock s 2 lvl = 0) ∧
    (∃ (s : State) (lvl : Nat), tapUp s = true ∧ 1 ≤ lvl ∧ lvl ≤ 3 ∧ s.sec.chal = none ∧ privGrants grantsP s = true ∧ refuseUnlock s 2 lvl ≠ 0) ∧
    (∃ (s : State) (ch : Nat) (start ramp : Int), tapUp s = true ∧ ovArgOk ch start ramp = true ∧ privGrants grantsS s = true) ∧
    (∃ (s : State), tapUp s = true ∧ s.host.hrst = false ∧ s.top.window = false ∧ privGrants grantsS s = true) ∧
    (∃ (s : State) (b : Bool) (a : Word), tapUp s = true ∧ ramAddr a = true ∧ ramUe s b a.toNat = false ∧ ramCe s b a.toNat = false ∧ privGrants grantsX s = true) ∧
    (∃ (s : State), tapUp s = true ∧ privGrants grantsX s = true ∧ s.sec.life = .blank) ∧
    (∃ (s : State), tapUp s = true ∧ (privGrants grantsX s = false ∨ s.sec.life ≠ .blank) ∧ privGrants grantsP s = false) :=
  ⟨⟨s7_0, Instr.jtagBypass, [], 0, 0, 0, .reg 0, ((SvcOp.reg 0x94 5)), ((DbgOp.halt false)), [], by decide +kernel⟩,
   ⟨s7_36, 1, 0, by decide +kernel, by decide +kernel, by decide +kernel, fun _ => ⟨List.not_mem_nil, List.not_mem_nil⟩, by decide +kernel⟩,
   ⟨atLevel 2 s7_36, 3, by decide +kernel⟩,
   ⟨s7_36, 1, by decide +kernel⟩,
   ⟨s7_36, 0, (-5), (-5), by decide +kernel⟩,
   ⟨s7_36, by decide +kernel⟩,
   ⟨s7_36, false, 0x10, by decide +kernel⟩,
   ⟨s7_36, by decide +kernel⟩,
   ⟨s7_37, by decide +kernel⟩⟩

theorem witness_OrfortLine :
    (∃ (_c : BitVec 8) (_timing : Nat) (s : State), orfUp s = true ∧ s.orf.autobaud = false ∧ s.orf.ready = false) ∧
    (∃ (c : BitVec 8) (_timing : Nat) (s : State), orfUp s = true ∧ s.orf.autobaud = false ∧ s.orf.ready = false ∧ c ∉ [0x0D, 0x0A, 0x03, 0x08, 0x7F] ∧ s.orf.line.length < 120) ∧
    (∃ (c : BitVec 8) (_timing : Nat) (s : State), orfUp s = true ∧ s.orf.autobaud = false ∧ s.orf.ready = false ∧ c ∉ [0x0D, 0x0A, 0x03, 0x08, 0x7F] ∧ 120 ≤ s.orf.line.length) ∧
    (∃ (c : BitVec 8) (_timing : Nat) (s : State), orfUp s = true ∧ s.orf.autobaud = false ∧ s.orf.ready = false ∧ (c = 0x08 ∨ c = 0x7F)) ∧
    (∃ (c : BitVec 8) (_timing : Nat) (s : State), orfUp s = true ∧ s.orf.autobaud = false ∧ s.orf.ready = false ∧ c = 0x0D ∧ s.orf.tooLong = true) ∧
    (∃ (c : BitVec 8) (_timing : Nat) (s : State), orfUp s = true ∧ s.orf.autobaud = false ∧ s.orf.ready = false ∧ c = 0x0D ∧ s.orf.tooLong = false ∧ (tokens (s.orf.line.map (·.toNat))) ≠ [] ∧ (∃ x, x ∈ s.orf.line ∧ x ≠ 0x20)) ∧
    (∃ (timing : Nat) (s : State), orfUp s = true ∧ s.orf.autobaud = true ∧ 33 ≤ (timing + 5) / 10 ∧ (timing + 5) / 10 ≤ 10417) ∧
    (∃ (c : BitVec 8) (_timing : Nat) (s : State), orfUp s = true ∧ s.orf.autobaud = true ∧ c ≠ 0x0D) ∧
    (∃ (s : State), orfUp s = true) ∧
    (∃ (_c : BitVec 8) (_timing : Nat) (s : State), orfUp s = false) :=
  ⟨⟨0x0d#8, 0, s7_39, by decide +kernel⟩,
   ⟨0x41#8, 0, s7_39, by decide +kernel⟩,
   ⟨0x41#8, 0, s7_42, by decide +kernel⟩,
   ⟨0x08#8, 0, s7_39, by decide +kernel⟩,
   ⟨0x0d#8, 0, s7_43, by decide +kernel⟩,
   ⟨0x0d#8, 0, s7_40, by decide +kernel⟩,
   ⟨400, s7_5, by decide +kernel⟩,
   ⟨0x41#8, 0, s7_5, by decide +kernel⟩,
   ⟨s7_5, by decide +kernel⟩,
   ⟨0x0d#8, 0, s7_0, by decide +kernel⟩⟩

theorem witness_OrfortCommands :
    (∃ (s : State), calls s [0x68, 0x65] List.isEmpty = true ∧ grantsP s = true) ∧
    (∃ (s : State), calls s [0x73, 0x74] List.isEmpty = true ∧ grantsP s = true) ∧
    (∃ (off n : Nat) (s : State), calls s [0x72, 0x64] (argsRd off n) = true ∧ grantsO s = true ∧ off % 4 = 0 ∧ 1 ≤ n ∧ n ≤ 64 ∧ off + 4 * n ≤ 0x100) ∧
    (∃ (val : Word) (s : State), calls s [0x77, 0x72] (numsAre [0x94, val.toNat]) = true ∧ grantsS s = true ∧ s.host.hrst = false ∧ s.top.window = false) ∧
    (∃ (tid idx : Nat) (s : State), calls s [0x74, 0x62] (numsAre [tid, idx]) = true ∧ grantsO s = true ∧ tblCode s tid idx = 0 ∧ tid ∉ [9, 12, 13] ∧
      (∀ w, storeKey s tid idx w ∉ s.conf.tblUe ∧ storeKey s tid idx w ∉ s.conf.tblCe)) ∧
    (∃ (val : Word) (s : State), calls s [0x74, 0x6C] (numsAre [10, 16, val.toNat]) = true ∧ grantsS s = true ∧ s.host.hrst = false ∧ s.top.window = false ∧
      ddrBusy s = false ∧ (s.dram.readyWas = true → ready s = true)) ∧
    (let ar := fun (off : Nat) (s : State) => calls s [0x61, 0x72] (argsRd off 1) && grantsO s && off % 8 == 0 && decide (off < 0x400000) &&
        !regionForbids s .host 5 off && !s.arr.retired.contains (secOf off) && !s.arr.ueMarks.contains (off / 8);
      (∃ (off : Nat) (s : State), ar off s = true ∧ busyFor s off = 0) ∧
      (∃ (off : Nat) (o : ArrOp) (s : State), ar off s = true ∧ busyFor s off = 1 ∧ s.arr.autoMin = 0 ∧ s.arr.run = some o ∧ s.arr.queue = []) ∧
      (∃ (off : Nat) (s : State), ar off s = true ∧ busyFor s off = 3) ∧
      (∃ (off : Nat) (s : State), ar off s = true ∧ busyFor s off = 1 ∧ s.arr.autoMin ≠ 0)) ∧
    (∃ (s : State), calls s [0x63, 0x62] (argsCb none) = true ∧ grantsO s = true) ∧
    (∃ (q : Nat) (ws : List Word) (s : State), calls s [0x6C, 0x67] (argsLg (some q) 1) = true ∧ grantsO s = true ∧ q < 16384 ∧ (logFetch q s).1 = some ws) ∧
    (let ul := fun (lvl : Nat) (s : State) => calls s [0x75, 0x6C] (fun a => lvl != 0 && numsAre [lvl] a) && grantsP s && s.sec.chal.isNone &&
        decide (1 ≤ lvl) && decide (lvl ≤ 3);
      (∃ (lvl : Nat) (s : State), ul lvl s = true ∧ refuseUnlock s 1 lvl = 0) ∧
      (∃ (lvl : Nat) (s : State), ul lvl s = true ∧ refuseUnlock s 1 lvl ≠ 0)) ∧
    (∃ (data chal : Word) (s : State), calls s [0x75, 0x6C] (argsUl data) = true ∧ grantsP s = true ∧ s.sec.chal = some chal ∧ s.sec.channel = 1 ∧
      data = unlockResp s chal s.sec.reqLevel) ∧
    (∃ (data chal : Word) (s : State), calls s [0x75, 0x6C] (argsUl data) = true ∧ grantsP s = true ∧ s.sec.chal = some chal ∧ s.sec.channel = 1 ∧
      data ≠ unlockResp s chal s.sec.reqLevel) ∧
    (∃ (s : State), calls s [0x75, 0x6C] (numsAre [0]) = true ∧ grantsP s = true) ∧
    (∃ (ch : Nat) (start ramp : Int) (s : State), s.top.state ≠ .harvest ∧ grantsS s = true ∧ calls s [0x6F, 0x76] (argsOv ch start ramp) = true ∧ ovArgOk ch start ramp = true) ∧
    (∃ (ch : Nat) (s : State), s.top.state ≠ .harvest ∧ grantsS s = true ∧ calls s [0x6F, 0x76] (argsOvOff ch) = true ∧ ovChannel ch = true) ∧
    (∃ (s : State), s.top.state ≠ .harvest ∧ grantsS s = true ∧ calls s [0x6F, 0x76] (· == [wOff]) = true) ∧
    (∃ (ch : Nat) (start ramp : Int) (s : State), calls s [0x6F, 0x76] (argsOv ch start ramp) = true ∧ s.top.state = .harvest) ∧
    (∃ (ch : Nat) (s : State), calls s [0x6F, 0x76] (argsOvOff ch) = true ∧ s.top.state = .harvest) ∧
    (∃ (s : State), calls s [0x6F, 0x76] (· == [wOff]) = true ∧ s.top.state = .harvest) ∧
    (∃ (s : State), calls s [0x6F, 0x76] List.isEmpty = true ∧ grantsO s = true) ∧
    (∃ (s : State), grantsX s = true ∧ calls s [0x74, 0x78] (· == [wDisarm]) = true ∧ s.nand.armed = true) ∧
    (∃ (s : State), grantsX s = true ∧ calls s [0x74, 0x78] (· == [wDisarm]) = true ∧ s.nand.armed = false) ∧
    (∃ (lane frame : Nat) (s : State), grantsX s = true ∧ lane < 8 ∧ calls s [0x74, 0x78] (argsLaneout lane frame) = true) ∧
    (∃ (bankB ovl : Bool) (s : State), grantsX s = true ∧ calls s [0x74, 0x78] (· == [wSpoil, wBank bankB, wImage ovl]) = true ∧ s.arr.run = none ∧
      s.arr.queue = [] ∧ s.arr.susp = none) ∧
    (∃ (s : State) (c : Instr) (name : List Nat) (p : List (List Nat) → Bool), c = Instr.orfortHe ∧ name = [0x68, 0x65] ∧ p = List.isEmpty ∧ calls s name p = false) :=
  ⟨⟨typed [0x68, 0x65] (atLevel 1 (atState .guard)), by decide +kernel⟩,
   ⟨typed [0x73, 0x74] (atLevel 1 (atState .guard)), by decide +kernel⟩,
   ⟨0, 1, typed [0x72, 0x64, 0x20, 0x30, 0x20, 0x31] (atLevel 1 (atState .guard)), by decide +kernel⟩,
   ⟨0xABCD, typed [0x77, 0x72, 0x20, 0x39, 0x34, 0x20, 0x30, 0x78, 0x61, 0x62, 0x5F, 0x63, 0x64] (atLevel 2 (atState .guard)), by decide +kernel⟩,
   ⟨1, 0, typed [0x74, 0x62, 0x20, 0x31, 0x20, 0x30] (atLevel 1 (atState .guard)), by decide +kernel, by decide +kernel, by decide +kernel, by decide +kernel, fun _ => ⟨List.not_mem_nil, List.not_mem_nil⟩⟩,
   ⟨5, typed [0x74, 0x6C, 0x20, 0x61, 0x20, 0x31, 0x30, 0x20, 0x35] (atLevel 2 (atState .guard)), by decide +kernel⟩,
   ⟨⟨0x100, typed [0x61, 0x72, 0x20, 0x31, 0x30, 0x30, 0x20, 0x31] (atLevel 1 (atState .guard)), by decide +kernel⟩,
    ⟨0x8000, eraseOp .host 0x8000, inArr (fun p => { p with run := some (eraseOp .host 0x8000) }) (typed [0x61, 0x72, 0x20, 0x38, 0x30, 0x30, 0x30] (atLevel 1 (atState .guard))), by decide +kernel⟩,
    ⟨0x8000, inArr (fun p => { p with run := some (progOp .host 0x8008) }) (typed [0x61, 0x72, 0x20, 0x38, 0x30, 0x30, 0x30] (atLevel 1 (atState .guard))), by decide +kernel⟩,
    ⟨0x8000, inArr (fun p => { p with run := some (eraseOp .host 0x8000), autoMin := 3 }) (typed [0x61, 0x72, 0x20, 0x38, 0x30, 0x30, 0x30] (atLevel 1 (atState .guard))), by decide +kernel⟩⟩,
   ⟨typed [0x63, 0x62] (atLevel 1 (atState .guard)), by decide +kernel⟩,
   ⟨5, [0xffffffff#32, 0xffffffff#32, 0xffffffff#32, 0xffffffff#32], typed [0x6C, 0x67, 0x20, 0x35, 0x20, 0x31] (inTally (fun t => { t with held := [(3, record)] }) (atLevel 1 (atState .guard))), by decide +kernel⟩,
   ⟨⟨2, typed [0x75, 0x6C, 0x20, 0x32] (atLevel 1 (atState .guard)), by decide +kernel⟩,
    ⟨1, typed [0x75, 0x6C, 0x20, 0x31] (atLevel 1 (atState .guard)), by decide +kernel⟩⟩,
   ⟨0x309d1629#32, 5, typed [0x75, 0x6C, 0x20, 0x33, 0x30, 0x39, 0x64, 0x20, 0x31, 0x36, 0x32, 0x39] s7_92, by decide +kernel⟩,
   ⟨1, 5, typed [0x75, 0x6C, 0x20, 0x30, 0x20, 0x31] s7_92, by decide +kernel⟩,
   ⟨typed [0x75, 0x6C, 0x20, 0x30] (atState .guard), by decide +kernel⟩,
   ⟨0, -5, 0, typed [0x6F, 0x76, 0x20, 0x76, 0x69, 0x6E, 0x20, 0x23, 0x2D, 0x35] (atLevel 2 (atState .guard)), by decide +kernel⟩,
   ⟨16, typed [0x6F, 0x76, 0x20, 0x74, 0x68, 0x30, 0x20, 0x6F, 0x66, 0x66] (atLevel 2 (atState .guard)), by decide +kernel⟩,
   ⟨typed [0x6F, 0x76, 0x20, 0x6F, 0x66, 0x66] (atLevel 2 (atState .guard)), by decide +kernel⟩,
   ⟨2, 5, 7, typed [0x6F, 0x76, 0x20, 0x63, 0x74, 0x30, 0x20, 0x35, 0x20, 0x37] (atLevel 2 (atState .harvest .hDrain)), by decide +kernel⟩,
   ⟨14, typed [0x6F, 0x76, 0x20, 0x63, 0x74, 0x31, 0x32, 0x20, 0x6F, 0x66, 0x66] (atLevel 2 (atState .harvest .hDrain)), by decide +kernel⟩,
   ⟨typed [0x6F, 0x76, 0x20, 0x6F, 0x66, 0x66] (atLevel 2 (atState .harvest .hDrain)), by decide +kernel⟩,
   ⟨typed [0x6F, 0x76] (atLevel 1 (atState .guard)), by decide +kernel⟩,
   ⟨s7_79, by decide +kernel⟩,
   ⟨typed [0x74, 0x78, 0x20, 0x64, 0x69, 0x73, 0x61, 0x72, 0x6D] (atLevel 3 (atState .service)), by decide +kernel⟩,
   ⟨0, 16, typed [0x74, 0x78, 0x20, 0x6C, 0x61, 0x6E, 0x65, 0x6F, 0x75, 0x74, 0x20, 0x30, 0x20, 0x31, 0x30] (atLevel 3 (atState .service)), by decide +kernel⟩,
   ⟨true, false, typed [0x74, 0x78, 0x20, 0x73, 0x70, 0x6F, 0x69, 0x6C, 0x20, 0x62, 0x20, 0x62, 0x61, 0x73, 0x65] (atLevel 3 (atState .service)), by decide +kernel⟩,
   ⟨s7_0, Instr.orfortHe, [0x68, 0x65], List.isEmpty, rfl, rfl, rfl, by decide +kernel⟩⟩

theorem witness_WeaveEvents :
    (∃ (x : TickIn) (s : State), linkUp s = true ∧ x.crcOk = true ∧ s.weave.isMaster = false ∧ s.weave.myId % 16 = fld x.swf 0 4 ∧ s.weave.dupId = false) ∧
    (∃ (x : TickIn) (s : State), linkUp s = true ∧ x.crcOk = true ∧ s.weave.isMaster = false ∧ s.weave.myId % 16 ≠ fld x.swf 0 4) ∧
    (∃ (x : TickIn) (s : State), linkUp s = true ∧ x.crcOk = true ∧ s.weave.isMaster = true ∧ s.weave.myId < x.masterId % 64) ∧
    (∃ (x : TickIn) (s : State), linkUp s = true ∧ x.crcOk = true ∧ s.weave.isMaster = true ∧ x.masterId % 64 = s.weave.myId) ∧
    (∃ (x : TickIn) (s : State), linkUp s = true ∧ x.crcOk = true ∧ s.weave.isMaster = true ∧ x.masterId % 64 < s.weave.myId) ∧
    (∃ (x : TickIn) (y : StatusIn) (s : State), linkUp s = true ∧ x.crcOk = false ∧ y.crcOk = false) ∧
    (∃ (s : State), linkUp s = false) ∧
    (∃ (x : StatusIn) (s : State), linkUp s = true ∧ x.crcOk = true ∧ x.kind < 3 ∧ x.id < 64 ∧ x.id ≠ s.weave.myId) ∧
    (∃ (x : StatusIn) (s : State), linkUp s = true ∧ x.crcOk = true ∧ x.kind < 3 ∧ x.id < 64 ∧ x.id = s.weave.myId ∧ s.weave.isMaster = false ∧ s.weave.dupId = false) ∧
    (∃ (s : State), linkUp s = true) ∧
    (∃ (s : State), powered s = true ∧ wvEn s = true) ∧
    (∃ (s : State), powered s = true ∧ eligible s = true ∧ s.weave.isMaster = false ∧ 4 ≤ s.weave.noLower) ∧
    (∃ (s : State), powered s = true ∧ wvEn s = true ∧ s.weave.lock = false ∧ s.fr.refLoss = false ∧ 16 ≤ s.weave.inLock) ∧
    (∃ (s : State), powered s = true ∧ wvEn s = true ∧ s.weave.lock = true ∧ (64 < s.weave.err.natAbs ∨ 16 ≤ s.weave.noTick)) ∧
    (∃ (s : State), powered s = true ∧ wvEn s = true ∧ s.weave.joined = true ∧ s.weave.frozen = false ∧ 64 ≤ s.weave.noRing) ∧
    (∃ (id : Nat) (s : State), powered s = true ∧ (peerOf s id).live = true ∧ 64 ≤ (peerOf s id).age) ∧
    (∃ (s : State), powered s = true ∧ wvEn s = true ∧ s.weave.armed = true ∧ s.weave.lowSent = false ∧ 2 ^ 18 ≤ s.weave.lowFrames) ∧
    (∃ (id : Nat) (s : State) (c : Instr), powered s = false ∧ c ∈ [Instr.weaveSyncLoss, .weaveSyncRealign, .masterElection, .tickLockSet, .tickLockLoss, .weaveFrozen, .peerLiveTimeout id, .wvTripLineLow]) :=
  ⟨⟨{ tickOf 3 [1, 2] with swf := 0x10 }, s7_95, by decide +kernel⟩,
   ⟨{ tickOf 3 [1, 2] with swf := 0x13 }, s7_95, by decide +kernel⟩,
   ⟨tickOf 63 [1], s7_96, by decide +kernel⟩,
   ⟨tickOf 3 [1], s7_96, by decide +kernel⟩,
   ⟨tickOf 2 [1], s7_96, by decide +kernel⟩,
   ⟨{ tickOf 3 [] with crcOk := false }, { statusOf 5 2 4 0 with crcOk := false }, s7_95, by decide +kernel⟩,
   ⟨s7_0, by decide +kernel⟩,
   ⟨statusOf 3 0 4 0, s7_95, by decide +kernel⟩,
   ⟨statusOf 3 0 4 0, s7_98, by decide +kernel⟩,
   ⟨s7_95, by decide +kernel⟩,
   ⟨s7_95, by decide +kernel⟩,
   ⟨s7_98, by decide +kernel⟩,
   ⟨s7_98, by decide +kernel⟩,
   ⟨s7_99, by decide +kernel⟩,
   ⟨s7_98, by decide +kernel⟩,
   ⟨3, s7_98, by decide +kernel⟩,
   ⟨s7_98, by decide +kernel⟩,
   ⟨0, s7_0, Instr.weaveSyncLoss, by decide +kernel⟩⟩

end Sys2Proof.Tests
end

section
/-! PROOFS. Identification and Reset columns (00): what the direct registers read in every state and right after AON POR, and
what Orfort's `rd` answers when it runs. -/

namespace Sys2Proof.Machine

/-! The fixed words and the frame count, as any reader without side effects sees them (R3, R85). -/

@[simp] theorem regPeek_devid (s : State) : regPeek s 0x00 = 0x4E576400 := (rfl)
@[simp] theorem regPeek_devrev (s : State) : regPeek s 0x04 = 0x00020001 := (rfl)
@[simp] theorem regPeek_caps (s : State) : regPeek s 0x08 = 0x0071EE3F := (rfl)
@[simp] theorem regPeek_frameCount (s : State) : regPeek s 0xEC = s.fr.epoch.truncate 32 := (rfl)

/-! Right after AON POR no configurable word has been written, so each reads its Reset column (R8). -/

theorem cwShadow_reset (tid idx w : Nat) : cwShadow State.reset tid idx w = resetWord (ckey tid idx w) := rfl

theorem rw_reset (off : Nat) : rw State.reset off = resetWord (ckey 0 0 (off / 4)) := cwShadow_reset 0 0 (off / 4)

/-- ADMIT_CTRL's status bits are all clear in the reset state, so the register reads its configurable word's Reset column. -/
theorem admitReg_reset : admitReg State.reset = resetWord (ckey 0 0 (0x50 / 4)) := by
  have status : pack [(b2n State.reset.adm.ocActive, 1, 2), (b2n State.reset.adm.polOvr, 1, 3),
      (b2n (decide (State.reset.adm.now < State.reset.adm.need)), 1, 4), (b2n State.reset.adm.recount, 1, 5)] = 0 := by decide
  rw [admitReg, status, rw_reset]
  exact BitVec.or_zero

/-! Orfort's `rd` (R374 to R376). -/

/-- A command whose line has ended and whose class is granted has its effect. -/
theorem orfRun_granted {name : List Nat} {p : List (List Nat) → Bool} {granted : State → Bool} {f : State → State} {s : State}
    (hcalls : calls s name p = true) (hgranted : granted s = true) : orfRun name p granted f s = f s := by
  simp [orfRun, hcalls, hgranted]

/-- A range of at most 64 aligned registers within the map is read and the line ends with status 0. -/
theorem orfRd_of_inRange {off n : Nat} (s : State) (haligned : off % 4 = 0) (hpos : 1 ≤ n) (hmax : n ≤ 64)
    (hend : off + 4 * n ≤ 0x100) :
    orfRd off n s = freshen (orfEnd 0 ((List.range n).map fun i => regPeek s (off + 4 * i)) s) := by
  have inRange : ¬ (off % 4 ≠ 0 ∨ n < 1 ∨ 64 < n ∨ 0x100 < off + 4 * n) := by omega
  rw [orfRd, if_neg inRange]

/-- `rd` of a range within the map, once it runs, answers with the registers of that range. -/
theorem exec_orfortRd_of_inRange {off n : Nat} {s : State} (hcalls : calls s [0x72, 0x64] (argsRd off n) = true)
    (hgranted : grantsO s = true) (haligned : off % 4 = 0) (hpos : 1 ≤ n) (hmax : n ≤ 64) (hend : off + 4 * n ≤ 0x100) :
    exec (.orfortRd off n) s = .next (freshen (orfEnd 0 ((List.range n).map fun i => regPeek s (off + 4 * i)) s)) := by
  calc exec (.orfortRd off n) s
      = .next (orfRun [0x72, 0x64] (argsRd off n) grantsO (orfRd off n) s) := rfl
    _ = .next (orfRd off n s) := by rw [orfRun_granted hcalls hgranted]
    _ = _ := by rw [orfRd_of_inRange s haligned hpos hmax hend]

/-- Settles O3: the reset state's fields are the defaults, and its configurable words are at their Reset columns. -/
theorem resetRegisters : Obligations.ResetRegisters := by
  have admitCtrl : regPeek State.reset 0x50 = 0x37100700 := admitReg_reset
  have chargeCtrl : regPeek State.reset 0x64 = 0x00000430 := rw_reset 0x64
  have intEn : regPeek State.reset 0x20 = 0 := rw_reset 0x20
  exact ⟨rfl, rfl, rfl, rfl, admitCtrl, chargeCtrl, rfl, intEn, rfl, rfl⟩

/-- Settles O7: the three words do not depend on the state, and `rd` of three registers from offset 0 reads them in turn. -/
theorem fixedWordsAndFrameCount : Obligations.FixedWordsAndFrameCount := by
  refine ⟨fun s => ⟨regPeek_devid s, regPeek_devrev s, regPeek_caps s, regPeek_frameCount s⟩, fun s hcalls hgranted => ?_⟩
  refine ⟨_, exec_orfortRd_of_inRange hcalls hgranted (by decide) (by decide) (by decide) (by decide), ?_⟩
  simp [freshen, orfEnd, List.range_succ]

end Sys2Proof.Machine
end

section
/-! PROOFS. The timed ends of WATCH, H-DECIDE and H-SEAL and the boundaries that follow them (01, log entry 29). -/

namespace Sys2Proof.Machine

/-! The quiesce performs what the cores have buffered (R239); no buffered store reaches the Harvest's own block. -/

theorem arrCmd_harv (r : Requester) (op key arg : Nat) (s : State) : (arrCmd r op key arg s).harv = s.harv := by
  unfold arrCmd
  (repeat' split) <;> simp

theorem arrCmdWord_harv (r : Requester) (data : Word) (be : ByteEn) (s : State) : (arrCmdWord r data be s).harv = s.harv := by
  simp [arrCmdWord, arrCmd_harv]

theorem storeArrWin_harv (b : Bool) (off size : Nat) (data : Word) (s : State) : (storeArrWin b off size data s).harv = s.harv := by
  simp [storeArrWin, arrCmdWord_harv]

theorem performStore_harv {b : Bool} {w : BufStore} {s t : State} (h : performStore b w s = some t) : t.harv = s.harv := by
  unfold performStore at h
  extract_lets a at h
  have ram : (ramWrite b a w.size w.data s).2.harv = s.harv := by simp
  split at h
  · cases h
  · split at h
    · cases h
      exact storeArrWin_harv b _ _ _ s
    · split at h
      · next hw => cases h; rw [hw] at ram; simpa using ram
      · next hw => cases h; rw [hw] at ram; exact ram

theorem performOr_harv (b : Bool) (s : State) (w : BufStore) : ((performStore b w s).getD s).harv = s.harv := by
  cases h : performStore b w s with
  | none => rfl
  | some t => exact performStore_harv h

theorem quiesceCore_harv (b : Bool) (s : State) : (quiesceCore b s).harv = s.harv :=
  (foldl_proj _ (·.harv) (performOr_harv b) _ _).trans (setCore_harv b _ s)

/-! What a report after the snapshot may not undo: the snapshot's own stamp, and a bit of INT_STAT that is set (R86). -/

/-- t has s's snapshot stamp and every INT_STAT bit that s has. -/
def KeepsStampAndInts (s t : State) : Prop :=
  t.tally.snapEpoch = s.tally.snapEpoch ∧ ∀ i, s.host.intStat.getLsbD i = true → t.host.intStat.getLsbD i = true

theorem KeepsStampAndInts.refl (s : State) : KeepsStampAndInts s s := ⟨rfl, fun _ h => h⟩

theorem KeepsStampAndInts.trans {s t u : State} (h : KeepsStampAndInts s t) (k : KeepsStampAndInts t u) : KeepsStampAndInts s u :=
  ⟨k.1.trans h.1, fun i hi => k.2 i (h.2 i hi)⟩

theorem KeepsStampAndInts.ite {c : Prop} [Decidable c] {s t u : State} (h : KeepsStampAndInts s t) (k : KeepsStampAndInts s u) :
    KeepsStampAndInts s (if c then t else u) := by split <;> assumption

theorem KeepsStampAndInts.of_eq {s t : State} (hstamp : t.tally.snapEpoch = s.tally.snapEpoch)
    (hints : t.host.intStat = s.host.intStat) : KeepsStampAndInts s t := ⟨hstamp, fun _ h => by rw [hints]; exact h⟩

/-- INT_STAT right after a bit sets in a powered part: that bit joins the bits before (R86). -/
theorem setInt_intStat {s : State} (i : Nat) (hp : powered s = true) :
    (setInt i s).host.intStat = s.host.intStat ||| BitVec.ofNat 15 (2 ^ i) := by
  simp [setInt, hp]

theorem setInt_sets {i : Nat} {s : State} (hi : i < 15) (hp : powered s = true) :
    (setInt i s).host.intStat.getLsbD i = true := by
  rw [setInt_intStat i hp, BitVec.getLsbD_or, BitVec.getLsbD_ofNat]
  simp [hi]

theorem setInt_keepsStampAndInts (i : Nat) (s : State) : KeepsStampAndInts s (setInt i s) := by
  refine ⟨by rw [setInt_tally], fun j hj => ?_⟩
  cases hp : powered s with
  | true => simp [setInt_intStat i hp, hj]
  | false => simpa [setInt, hp] using hj

theorem logRec_keepsStampAndInts (ty : Nat) (x : BitVec 8) (a : BitVec 16) (b : Word) (s : State) :
    KeepsStampAndInts s (logRec ty x a b s) := by
  unfold logRec logAt
  exact .ite (.of_eq rfl rfl) (.refl s)

theorem postAll_keepsStampAndInts (ts : List Nat) (op fl : Nat) (tag : BitVec 16) (w1 : Word) (w2 : Nat → Word) (s : State) :
    KeepsStampAndInts s (postAll ts op fl tag w1 w2 s) := by
  have post : ∀ (s : State) (t : Nat), (postUnsol t op fl tag w1 (w2 t) s).tally = s.tally ∧
      (postUnsol t op fl tag w1 (w2 t) s).host = s.host := fun s t => by simp [postUnsol]
  exact .of_eq (foldl_proj _ (·.tally.snapEpoch) (fun s t => by rw [(post s t).1]) ts s)
    (foldl_proj _ (·.host.intStat) (fun s t => by rw [(post s t).2]) ts s)

theorem pinAction_keepsStampAndInts (s : State) : KeepsStampAndInts s (pinAction s) := by
  unfold pinAction
  exact .ite (.refl s) (.of_eq rfl rfl)

theorem degradeAct_keepsStampAndInts (src : Nat) (acts : BitVec 8) (s : State) : KeepsStampAndInts s (degradeAct src acts s) := by
  unfold degradeAct
  have logged := KeepsStampAndInts.ite (c := (s.tally.degraded || s.tally.degradeIn) = true) (.refl s)
    (logRec_keepsStampAndInts 9 acts (BitVec.ofNat 16 src) (BitVec.ofNat 32 s.tally.exits) s)
  exact logged.trans (.of_eq rfl rfl)

theorem haltAct_keepsStampAndInts (src : Nat) (s : State) : KeepsStampAndInts s (haltAct src s) := by
  unfold haltAct
  exact .ite (.refl s) ((logRec_keepsStampAndInts 11 0 (BitVec.ofNat 16 src) 0 s).trans (.of_eq rfl rfl))

theorem harvestAct_keepsStampAndInts (src : Nat) (acts : BitVec 8) (s : State) : KeepsStampAndInts s (harvestAct src acts s) := by
  unfold harvestAct
  exact .ite (.of_eq rfl rfl) (degradeAct_keepsStampAndInts src acts s)

theorem actions_keepsStampAndInts (src kind : Nat) (addr : Word) (m : BitVec 8) (sev opens esc : Bool) (n : Nat) (s : State) :
    KeepsStampAndInts s (actions src kind addr m sev opens esc n s) := by
  have whenAsked : ∀ {c : Prop} [Decidable c] {t : State} (f : State → State), (∀ x, KeepsStampAndInts x (f x)) →
      KeepsStampAndInts s t → KeepsStampAndInts s (if c then f t else t) := fun f hf ht => .ite (ht.trans (hf _)) ht
  unfold actions
  exact whenAsked _ (haltAct_keepsStampAndInts src) <| whenAsked _ (harvestAct_keepsStampAndInts src m) <|
    whenAsked _ (degradeAct_keepsStampAndInts src m) <| whenAsked _ pinAction_keepsStampAndInts <|
    whenAsked _ (postAll_keepsStampAndInts _ _ _ _ _ _) <| whenAsked _ (setInt_keepsStampAndInts 6) <|
    whenAsked _ (logRec_keepsStampAndInts _ _ _ _) (.refl s)

theorem tallyProcess_keepsStampAndInts (src kind : Nat) (addr : Word) (s : State) :
    KeepsStampAndInts s (tallyProcess src kind addr s) := by
  unfold tallyProcess
  refine KeepsStampAndInts.trans ?_ (actions_keepsStampAndInts _ _ _ _ _ _ _ _ _)
  exact .of_eq rfl rfl

theorem tally_keepsStampAndInts (src kind : Nat) (addr : Word) (s : State) : KeepsStampAndInts s (tally src kind addr s) := by
  unfold tally
  extract_lets s1 s2
  have message : KeepsStampAndInts s s1 := tallyProcess_keepsStampAndInts src kind addr s
  refine .ite (.ite ((message.trans (.of_eq ?_ ?_)).trans (tallyProcess_keepsStampAndInts _ _ _ _)) message)
    (.ite (.of_eq ?_ ?_) (.refl s)) <;> rfl

/-! A kill blows a fuse and sends its message (R360): it leaves the boundary's mark and the snapshot as they are. -/

theorem kill_keepsStampAndInts (s : State) : KeepsStampAndInts s (kill s) := by
  unfold kill
  refine .ite (.of_eq rfl rfl) (.trans (.of_eq ?_ ?_) (tally_keepsStampAndInts _ _ _ _)) <;> simp

theorem kill_phaseEnd (s : State) : (kill s).top.trig.phaseEnd = s.top.trig.phaseEnd := by
  have message : ∀ (a : Word) (t : State), (tally 0x25 2 a t).top.trig.phaseEnd = t.top.trig.phaseEnd := fun a t => by
    obtain ⟨-, -, -, -, top, -⟩ := tally_reports 0x25 2 a t
    rw [top]
  unfold kill
  split
  · rfl
  · simp [message]

theorem kill_snap (s : State) : (kill s).tally.snap = s.tally.snap := by
  have message : ∀ (a : Word) (t : State), (tally 0x25 2 a t).tally.snap = t.tally.snap := fun a t => by
    obtain ⟨-, -, -, -, -, -, -, -, -, -, snap, -⟩ := tally_reports 0x25 2 a t
    exact snap
  unfold kill
  split
  · rfl
  · simp [message]

/-! H_SEAL_END (R239, R348). -/

/-- The last frame of H-SEAL up to its interrupt: the cores are quiesced, the DRAM is parked and INT_STAT.HARVEST is set. -/
def sealReported (s : State) : State :=
  let s1 := sealPark (quiesceCore true (quiesceCore false s))
  setInt 3 { s1 with harv := { s1.harv with phase := if s1.harv.isStop then 7 else 5 } }

/-- The last frame of H-SEAL up to a deferred kill: the phase's end is marked and the snapshot is taken. -/
def sealMarked (s : State) : State :=
  let s2 := sealReported s
  { s2 with
    top := { s2.top with trig := { s2.top.trig with phaseEnd := true } }
    tally := { s2.tally with snap := snapOffs.map (fun o => (o, regPeek s2 o)), snapEpoch := s2.fr.epoch } }

theorem sealEnd_of_last {s : State} (hlast : sealLast s = true) (hfirst : s.top.trig.phaseEnd = false) :
    sealEnd s = if s.harv.killLater then kill (sealMarked s) else sealMarked s := by
  unfold sealEnd
  exact if_pos (by simp [hlast, hfirst])

theorem sealEnd_of_not_last {s : State} (h : sealLast s = false) : sealEnd s = s := by
  simp [sealEnd, h]

theorem sealMarked_phaseEnd (s : State) : (sealMarked s).top.trig.phaseEnd = true := rfl

theorem sealMarked_snap_offs (s : State) : (sealMarked s).tally.snap.map (·.1) = snapOffs := rfl

theorem sealMarked_snapEpoch (s : State) : (sealMarked s).tally.snapEpoch = s.fr.epoch := by
  simp [sealMarked, sealReported]

theorem sealMarked_harvPhase (s : State) : (sealMarked s).harv.phase = if s.harv.isStop then 7 else 5 := by
  simp [sealMarked, sealReported, quiesceCore_harv]

theorem sealReported_intHarvest {s : State} (hp : powered s = true) : (sealReported s).host.intStat.getLsbD 3 = true := by
  unfold sealReported
  refine setInt_sets (by decide) ?_
  simpa [powered] using hp

theorem sealMarked_intHarvest {s : State} (hp : powered s = true) : (sealMarked s).host.intStat.getLsbD 3 = true :=
  sealReported_intHarvest hp

/-- What the last frame of H-SEAL leaves, with a deferred kill and without one (R239, R348, R361). -/
theorem sealEnd_marks {s : State} (hlast : sealLast s = true) (hfirst : s.top.trig.phaseEnd = false) :
    (sealEnd s).top.trig.phaseEnd = true ∧ (sealEnd s).tally.snap.map (·.1) = snapOffs ∧
      (sealEnd s).tally.snapEpoch = s.fr.epoch ∧ (sealEnd s).harv.phase = (if s.harv.isStop then 7 else 5) ∧
      (powered s = true → (sealEnd s).host.intStat.getLsbD 3 = true) := by
  rw [sealEnd_of_last hlast hfirst]
  split
  · obtain ⟨stamp, ints⟩ := kill_keepsStampAndInts (sealMarked s)
    refine ⟨?_, ?_, ?_, ?_, fun hp => ints 3 (sealMarked_intHarvest hp)⟩
    · rw [kill_phaseEnd, sealMarked_phaseEnd]
    · rw [kill_snap, sealMarked_snap_offs]
    · rw [stamp, sealMarked_snapEpoch]
    · rw [← sealMarked_harvPhase]; simp
  · exact ⟨sealMarked_phaseEnd s, sealMarked_snap_offs s, sealMarked_snapEpoch s, sealMarked_harvPhase s, sealMarked_intHarvest⟩

/-! The boundaries that follow (R23, R226, R239). -/

/-- Neither the refusal of a displaced STATE_REQ nor the opening of the post-TRIP window changes STATE (R24, R82). -/
theorem transition_state_of_decides {iso take : Bool} {s t : State} (w : WakeIn) (h : decides iso take s = some t) :
    (transition w iso take s).top.state = t.top.state := by
  unfold transition
  rw [h]
  cases s.top.trig.req <;> simp

theorem fromGuard_of_watchExit {c : Cause} {s : State} (htamper : c.tamper = false) (hwet : c.wet = false) (hpg : c.pg = false)
    (htrip : c.trip = false) (hpretrip : c.pretrip = false) (hwatch : s.top.state = .watch)
    (hexit : s.top.trig.watchExit = true) (hgood : goodFor s 2048 = true) : fromGuard c s = some (enterGuard s) := by
  simp [fromGuard, htamper, hwet, hpg, htrip, hpretrip, hwatch, hexit, hgood]

theorem fromDecide_of_limit {c : Cause} {s : State} (htamper : c.tamper = false) (hwet : c.wet = false) (hpg : c.pg = false)
    (htrip : c.trip = false) (hlimit : s.top.trig.limit = true) : fromDecide c s = some (abortHarvest s) := by
  simp [fromDecide, htamper, hwet, hpg, htrip, hlimit]

/-- The state to which the end of H-SEAL leads (R26, R239, R361). -/
def sealTarget (s : State) : DevState :=
  if s.harv.killLater && s.harv.isStop then .dormant
  else if !s.harv.killLater && !s.harv.wasWet && goodFor s 2048 then .ret else .hold

theorem fromSeal_of_phaseEnd {s : State} (hend : s.top.trig.phaseEnd = true) :
    ∃ t, fromSeal s = some t ∧ t.top.state = sealTarget s := by
  unfold fromSeal sealTarget
  rw [if_pos hend]
  split
  · exact ⟨_, rfl, by simp⟩
  · split
    · extract_lets sc wv s1 back gave r
      split <;> exact ⟨_, rfl, by simp [r]⟩
    · exact ⟨_, rfl, by simp⟩

theorem fromHarvest_of_seal (iso : Bool) {s : State} (htamper : s.top.trig.tamper = false) (hphase : s.top.phase = .hSeal) :
    fromHarvest iso s = fromSeal s := by
  simp [fromHarvest, htamper, hphase]

/-! The rows, command by command. -/

theorem exec_watchExit (s : State) : exec .watchExit s = .next (watchExit s) := rfl
theorem exec_hdecideLimit (s : State) : exec .hdecideLimit s = .next (hdecideLimit s) := rfl
theorem exec_hSealEnd (s : State) : exec .hSealEnd s = .next (sealEnd s) := rfl

/-- Settles O22: each row is its own condition; at the boundary no trigger of higher rank holds, so the marked end decides alone. -/
theorem timedEndsOfStates : Obligations.TimedEndsOfStates := by
  refine ⟨?_, ?_, ?_, ?_, ?_, ?_⟩
  · intro s hwatch hgood
    simp [exec_watchExit, watchExit, hwatch, hgood]
  · intro s hharvest hphase hlimit
    simp [exec_hdecideLimit, hdecideLimit, hharvest, hphase, hlimit]
  · intro s hharvest hphase hlen hfirst
    have hlast : sealLast s = true := by simp [sealLast, hharvest, hphase, hlen]
    obtain ⟨mark, snap, stamp, phase, int⟩ := sealEnd_marks hlast hfirst
    obtain ⟨state, -, -, epoch, pending⟩ := sealEnd_keeps s
    exact ⟨_, exec_hSealEnd s, mark, snap, stamp, phase, int, state.trans hharvest, epoch, pending⟩
  · intro w iso take s htamper hwet hpg htrip
    refine ⟨fun hwatch hpretrip hexit hgood => ?_, fun hharvest hphase hlimit => ?_, fun hharvest hphase hend => ?_⟩
    · have hdecides : decides iso take s = some (enterGuard s) := by
        simp [decides, hwatch, fromGuard_of_watchExit htamper hwet hpg htrip hpretrip hwatch hexit hgood]
      rw [transition_state_of_decides w hdecides, (enterGuard_keeps s).1]
    · have hdecides : decides iso take s = some (abortHarvest s) := by
        simp [decides, hharvest, hphase, fromDecide_of_limit htamper hwet hpg htrip hlimit]
      rw [transition_state_of_decides w hdecides, (abortHarvest_keeps s).1]
    · obtain ⟨t, hseal, htarget⟩ := fromSeal_of_phaseEnd hend
      have hdecides : decides iso take s = some t := by
        simp [decides, hharvest, hphase, fromHarvest_of_seal iso htamper hphase, hseal]
      rw [transition_state_of_decides w hdecides, htarget, sealTarget]
  · rintro s (hwatch | hgood)
    · simp [exec_watchExit, watchExit, hwatch]
    · simp [exec_watchExit, watchExit, hgood]
  · intro s hharvest
    exact ⟨by simp [exec_hdecideLimit, hdecideLimit, hharvest],
      by rw [exec_hSealEnd, sealEnd_of_not_last (by simp [sealLast, hharvest])]⟩

end Sys2Proof.Machine
end

section
/-! PROOFS. The resets: AON POR, Core BOR and HRST_N, and what each clears and keeps (02, R31). -/

namespace Sys2Proof.Machine

/-- Settles O4: the reset state is OFF with no frame running, and lists no word in any memory. -/
theorem resetInvariants : Obligations.ResetInvariants := ⟨by decide, reset_canonical⟩

/-- A list filtered by its keys reads as before at a key that stays, and the default at one that goes. -/
theorem Sparse.get_filter_key {α : Type} (d : Nat → α) (p : Nat → Bool) (k : Nat) : ∀ m : List (Nat × α),
    Sparse.get d (m.filter fun q => p q.1) k = if p k then Sparse.get d m k else d k
  | [] => by simp [Sparse.get]
  | (j, v) :: m => by
    rw [List.filter_cons]
    by_cases hjk : j = k
    · subst hjk
      cases hp : p j <;> simp [Sparse.get, hp, Sparse.get_filter_key d p j m]
    · cases hp : p j <;> simp [Sparse.get, hjk, Sparse.get_filter_key d p k m]

theorem exec_aonPor (s : State) : exec .aonPor s = .next (aonPor s) := rfl
theorem exec_aonPorRelease (s : State) : exec .aonPorRelease s = .next (aonPorRelease s) := rfl
theorem exec_coreBor (s : State) : exec .coreBor s = .next (coreBor s) := rfl
theorem exec_coreBorRelease (w : WakeIn) (s : State) : exec (.coreBorRelease w) s = .next (coreBorRelease w s) := rfl
theorem exec_hrstNAssert (s : State) : exec .hrstNAssert s = .next (hrstAssert s) := rfl
theorem exec_hrstNRelease (s : State) : exec .hrstNRelease s = .next (hrstRelease s) := rfl

/-! What a loss of power does to the array: only the word of a program that it interrupts is lost (R311). -/

/-- Word w is not the target of a program under way. -/
def spared (s : State) (w : Nat) : Prop := ∀ o, s.arr.run = some o → o.erase = false → w ≠ o.off / 8

theorem arrCut_arrWord {s : State} {w : Nat} (h : spared s w) : arrWord (arrCut s) w = arrWord s w := by
  cases hrun : s.arr.run with
  | none => simp only [arrCut, hrun]; rfl
  | some o =>
    cases herase : o.erase with
    | true => simp only [arrCut, hrun, herase]; rfl
    | false =>
      simp only [arrCut, hrun, herase]
      exact (setWord_laws (o.off / 8) _ s).2.1 w (h o hrun herase)

theorem arrCut_marks (s : State) :
    (arrCut s).arr.retired = s.arr.retired ∧ (arrCut s).arr.ufe = s.arr.ufe ∧ (arrCut s).arr.run = none ∧ (arrCut s).arr.queue = [] := by
  unfold arrCut
  cases s.arr.run with
  | none => exact ⟨rfl, rfl, rfl, rfl⟩
  | some o => cases h : o.erase <;> simp [h, setWord]

theorem logCut_arr (s : State) : (logCut s).arr = s.arr := by simp

theorem powerCut_arr (s : State) : (powerCut s).arr = (arrCut (logCut s)).arr := rfl

theorem powerCut_arrWord {s : State} {w : Nat} (h : spared s w) : arrWord (powerCut s) w = arrWord s w := by
  have hcut : arrWord (arrCut (logCut s)) w = arrWord (logCut s) w := arrCut_arrWord (by rw [spared, logCut_arr]; exact h)
  calc arrWord (powerCut s) w = arrWord (arrCut (logCut s)) w := rfl
    _ = arrWord (logCut s) w := hcut
    _ = arrWord s w := by rw [arrWord, logCut_arr, arrWord]

theorem powerCut_marks (s : State) :
    (powerCut s).arr.retired = s.arr.retired ∧ (powerCut s).arr.ufe = s.arr.ufe ∧ (powerCut s).arr.run = none ∧
      (powerCut s).arr.queue = [] := by
  simpa [powerCut_arr] using arrCut_marks (logCut s)

/-! AON POR. -/

/-- What an AON POR leaves of the array is what the power cut leaves. -/
theorem aonPor_arrWord (s : State) (w : Nat) : arrWord (aonPor s) w = arrWord (powerCut s) w := rfl

theorem aonPor_marks (s : State) : (aonPor s).arr.retired = s.arr.retired ∧ (aonPor s).arr.ufe = s.arr.ufe :=
  ⟨(powerCut_marks s).1, (powerCut_marks s).2.1⟩

theorem powerCut_nonvolatile (s : State) :
    (powerCut s).sec.life = s.sec.life ∧ (powerCut s).sec.slots = s.sec.slots ∧
      (powerCut s).dram.setHost = s.dram.setHost ∧ (powerCut s).dram.set2400 = s.dram.set2400 := by
  simp [powerCut]

theorem aonPorRelease_of_off {s : State} (h : s.top.state = .off) :
    aonPorRelease s = stopFrames { s with top := { s.top with state := .dormant } } := if_pos h

theorem aonPorRelease_of_not_off {s : State} (h : s.top.state ≠ .off) : aonPorRelease s = s := if_neg h

/-- Settles O10: what the POR keeps is what the power cut keeps; everything else is at its reset value. -/
theorem aonPorClears : Obligations.AonPorClears := by
  refine ⟨fun s => ?_, fun s hoff => ?_, fun s hnot => by rw [exec_aonPorRelease, aonPorRelease_of_not_off hnot]⟩
  · obtain ⟨retired, ufe⟩ := aonPor_marks s
    obtain ⟨life, slots, setHost, set2400⟩ := powerCut_nonvolatile s
    exact ⟨_, exec_aonPor s, rfl, rfl, rfl, rfl, rfl, rfl, rfl, rfl, rfl, rfl, fun w h => powerCut_arrWord h, retired, ufe, rfl,
      life, slots, setHost, set2400, rfl⟩
  · rw [exec_aonPorRelease, aonPorRelease_of_off hoff]
    exact ⟨_, rfl, rfl, rfl, rfl, rfl, rfl, rfl, rfl, rfl, rfl⟩

/-! Core BOR. -/

/-- A kill, with its message, leaves Scout's clock and filters and the count of DEGRADED exits (R340, R360). -/
theorem kill_keepsAon (s : State) :
    (kill s).scout.rtcSec = s.scout.rtcSec ∧ (kill s).scout.rtcTick = s.scout.rtcTick ∧ (kill s).scout.filt = s.scout.filt ∧
      (kill s).tally.exits = s.tally.exits := by
  have message : ∀ (a : Word) (t : State), (tally 0x25 2 a t).scout.rtcSec = t.scout.rtcSec ∧
      (tally 0x25 2 a t).scout.rtcTick = t.scout.rtcTick ∧ (tally 0x25 2 a t).scout.filt = t.scout.filt ∧
      (tally 0x25 2 a t).tally.exits = t.tally.exits := fun a t => by
    obtain ⟨-, -, -, scout, -, -, exits, -⟩ := tally_reports 0x25 2 a t
    rw [scout]
    exact ⟨rfl, rfl, rfl, exits⟩
  unfold kill
  split
  · exact ⟨rfl, rfl, rfl, rfl⟩
  · simp [message, closeLevel]

theorem killWaiting_keepsAon (s : State) :
    (killWaiting s).scout.rtcSec = s.scout.rtcSec ∧ (killWaiting s).scout.rtcTick = s.scout.rtcTick ∧
      (killWaiting s).scout.filt = s.scout.filt ∧ (killWaiting s).tally.exits = s.tally.exits := by
  unfold killWaiting
  split
  · exact kill_keepsAon _
  · exact ⟨rfl, rfl, rfl, rfl⟩

/-- The block as a Core BOR finds it: a kill that waits has been made, the line driver is off, the level has fallen and AON has its
copy of VMIN. -/
def borEntry (s : State) : State :=
  closeLevel { killWaiting s with
    weave := { s.weave with drive := false }
    scout := { (killWaiting s).scout with vminAon := if s.top.state.runs then vmin s else (killWaiting s).scout.vminAon } }

/-- What a Core BOR leaves, but for the generator's stop. -/
def borCut (s : State) : State :=
  { powerCut (borEntry s) with top := { (powerCut (borEntry s)).top with coreBor := true } }

theorem coreBor_of_on {s : State} (hon : s.top.state ≠ .off) (hbor : s.top.coreBor = false) :
    coreBor s = { borCut s with fr := if s.top.state.runs then (stopFrames (borCut s)).fr else (borCut s).fr } := by
  have hcut : coreBor s = if s.top.state.runs then stopFrames (borCut s) else borCut s := by
    unfold coreBor
    exact if_pos (by simp [hon, hbor])
  rw [hcut]
  split <;> rfl

theorem coreBor_of_idle {s : State} (h : s.top.state = .off ∨ s.top.coreBor = true) : coreBor s = s := by
  unfold coreBor
  exact if_neg (by rcases h with h | h <;> simp [h])

theorem borEntry_blocks (s : State) :
    (borEntry s).arr = s.arr ∧ (borEntry s).dram = s.dram ∧ (borEntry s).pending = s.pending := by
  simp [borEntry]

theorem borEntry_keepsAon (s : State) :
    (borEntry s).scout.rtcSec = s.scout.rtcSec ∧ (borEntry s).scout.rtcTick = s.scout.rtcTick ∧
      (borEntry s).scout.filt = s.scout.filt ∧ (borEntry s).tally.exits = s.tally.exits := by
  simpa [borEntry, closeLevel] using killWaiting_keepsAon s

theorem logCut_keepsAon (s : State) : (logCut s).scout = s.scout ∧ (logCut s).tally.exits = s.tally.exits := by
  unfold logCut
  cases h : s.tally.cur <;> simp [h]

theorem powerCut_keepsAon (s : State) :
    (powerCut s).scout = s.scout ∧ (powerCut s).tally.exits = s.tally.exits ∧ (powerCut s).dram.dswDev = s.dram.dswDev ∧
      (powerCut s).dram.dswOeHigh = s.dram.dswOeHigh := by
  simp [powerCut, logCut_keepsAon]

/-- AON's clock, filters and counts are those of the state before the BOR. -/
theorem borCut_keepsAon (s : State) :
    (borCut s).scout.rtcSec = s.scout.rtcSec ∧ (borCut s).scout.rtcTick = s.scout.rtcTick ∧ (borCut s).scout.filt = s.scout.filt ∧
      (borCut s).dram.dswDev = s.dram.dswDev ∧ (borCut s).dram.dswOeHigh = s.dram.dswOeHigh ∧ (borCut s).tally.exits = s.tally.exits := by
  obtain ⟨rtcSec, rtcTick, filt, exits⟩ := borEntry_keepsAon s
  obtain ⟨-, dram, -⟩ := borEntry_blocks s
  obtain ⟨scout, cutExits, dswDev, dswOeHigh⟩ := powerCut_keepsAon (borEntry s)
  have hscout : (borCut s).scout = (borEntry s).scout := scout
  refine ⟨?_, ?_, ?_, dswDev.trans (by rw [dram]), dswOeHigh.trans (by rw [dram]), cutExits.trans exits⟩ <;> simpa [hscout]

theorem borCut_arr (s : State) :
    (borCut s).arr.run = none ∧ (borCut s).arr.queue = [] ∧ (borCut s).arr.retired = s.arr.retired ∧
      ∀ w, spared s w → arrWord (borCut s) w = arrWord s w := by
  obtain ⟨harr, -⟩ := borEntry_blocks s
  obtain ⟨retired, -, run, queue⟩ := powerCut_marks (borEntry s)
  refine ⟨run, queue, retired.trans (by rw [harr]), fun w h => ?_⟩
  calc arrWord (borCut s) w = arrWord (powerCut (borEntry s)) w := rfl
    _ = arrWord (borEntry s) w := powerCut_arrWord (by rw [spared, harr]; exact h)
    _ = arrWord s w := by rw [arrWord, harr, arrWord]

/-- Settles O11: the power cut clears the islands, and a kill that was waiting touches nothing that the clauses name. -/
theorem coreBorKeepsAon : Obligations.CoreBorKeepsAon := by
  refine ⟨fun s hon hbor => ?_, fun s h => by rw [exec_coreBor, coreBor_of_idle h]⟩
  have hstate : (borCut s).top.state = s.top.state := by simp [borCut, borEntry]
  have hrunning : (borCut s).fr.running = s.fr.running := by simp [borCut, borEntry]
  have hepoch : (borCut s).fr.epoch = s.fr.epoch := by simp [borCut, borEntry]
  have hpending : (borCut s).pending = s.pending := by simp [borCut, borEntry]
  obtain ⟨rtcSec, rtcTick, filt, dswDev, dswOeHigh, exits⟩ := borCut_keepsAon s
  obtain ⟨run, queue, retired, words⟩ := borCut_arr s
  refine ⟨_, exec_coreBor s, ?_⟩
  rw [coreBor_of_on hon hbor]
  refine ⟨rfl, hstate, ?_, ?_, rtcSec, rtcTick, filt, dswDev, dswOeHigh, exits, rfl, rfl, rfl, rfl, rfl, rfl, rfl, rfl, run, queue,
    retired, words, hpending⟩
  · split <;> simp [*]
  · split <;> simp [hepoch]

/-! The release of Core BOR. -/

/-- The reference's loss, once: all that follows it is a report. -/
theorem refLossNow_reports {s : State} (hp : powered s = true) (h : s.fr.refLoss = false) :
    Reports { s with fr := { s.fr with refLoss := true, refLossCnt := satInc 255 s.fr.refLossCnt } } (refLossNow s) := by
  unfold refLossNow
  rw [if_pos (by simp [hp, h])]
  exact tally_reports _ _ _ _

/-- WAKE's first frame, but for the crystal: the phase, the cause and what goes on from before (R27, R53). -/
theorem wakeEntry_of_crystal (cause : Nat) (w : WakeIn) (s : State) : ∃ u, wakeEntry cause w s = (if w.xtalOk then u else refLossNow u) ∧
    u.top.state = .wake ∧ u.top.phase = .scan ∧ u.top.cause = cause ∧ u.top.coreBor = s.top.coreBor ∧
    u.fr.running = s.fr.running ∧ u.fr.refLoss = false ∧ u.scout.pwrEn = s.scout.pwrEn := by
  refine ⟨_, rfl, rfl, rfl, rfl, ?_, ?_, rfl, ?_⟩ <;> simp [setState, closeLevel]

/-- WAKE begins in phase SCAN with its cause; REF_LOSS reads what the crystal's start found (R27, R53). -/
theorem wakeEntry_begins (cause : Nat) (w : WakeIn) {s : State} (hbor : s.top.coreBor = false) :
    (wakeEntry cause w s).top.state = .wake ∧ (wakeEntry cause w s).top.phase = .scan ∧ (wakeEntry cause w s).top.cause = cause ∧
      (wakeEntry cause w s).fr.running = s.fr.running ∧ (wakeEntry cause w s).fr.refLoss = !w.xtalOk ∧
      (wakeEntry cause w s).scout.pwrEn = s.scout.pwrEn := by
  obtain ⟨u, hu, state, phase, hcause, hcore, running, refLoss, pwrEn⟩ := wakeEntry_of_crystal cause w s
  rw [hu]
  cases w.xtalOk with
  | true => exact ⟨state, phase, hcause, running, refLoss, pwrEn⟩
  | false =>
    have hpow : powered u = true := by simp [powered, state, hcore, hbor, DevState.runs]
    obtain ⟨fr, -, -, scout, top, -⟩ := refLossNow_reports hpow refLoss
    rw [if_neg Bool.false_ne_true, fr, scout, top]
    exact ⟨state, phase, hcause, running, rfl, pwrEn⟩

/-- Core BOR ends toward WAKE while VIN is good (R23). -/
theorem coreBorRelease_of_good (w : WakeIn) {s : State} (hbor : s.top.coreBor = true) (hvin : dyGt (filt s 0) (goodMv s) = true) :
    ∃ u, coreBorRelease w s = wakeEntry 3 w u ∧ u.top.coreBor = false ∧ u.fr.running = true ∧ u.scout.pwrEn = true ∧ u.arr = s.arr ∧
      u.pending = s.pending := by
  refine ⟨_, (if_pos hbor).trans (if_pos hvin), ?_, rfl, rfl, ?_, ?_⟩ <;> simp

/-- Core BOR ends in DORMANT otherwise: AON's overlay records apply, and frames, pads and the array stay (R19, R36, log entry 30). -/
theorem coreBorRelease_of_low (w : WakeIn) {s : State} (hbor : s.top.coreBor = true) (hvin : dyGt (filt s 0) (goodMv s) = false) :
    (coreBorRelease w s).top.state = .dormant ∧ (coreBorRelease w s).fr = s.fr ∧ (coreBorRelease w s).dram = s.dram ∧
      (coreBorRelease w s).scout.pwrEn = false ∧ (coreBorRelease w s).arr = s.arr := by
  have hrelease : coreBorRelease w s = _ := (if_pos hbor).trans (if_neg (by simp [hvin]))
  rw [hrelease]
  exact ⟨rfl, rfl, rfl, rfl, rfl⟩

/-- Settles O12: the two ends by VIN, each with its own lemma. -/
theorem coreBorReleaseByVin : Obligations.CoreBorReleaseByVin := by
  refine ⟨fun s w hbor => ?_, fun s w hbor => by simp [exec_coreBorRelease, coreBorRelease, hbor]⟩
  have hmoved := coreBorRelease_moved w s
  cases hvin : dyGt (filt s 0) (goodMv s) with
  | true =>
    obtain ⟨u, hwake, hcore, hrunning, hpwr, harr, hpending⟩ := coreBorRelease_of_good w hbor hvin
    obtain ⟨state, phase, cause, running, refLoss, pwrEn⟩ := wakeEntry_begins 3 w hcore
    refine ⟨_, exec_coreBorRelease w s, ?_⟩
    rw [hwake]
    refine ⟨by simp [hcore], by simp [harr], by simp [hpending], fun _ => ?_, fun h => Bool.noConfusion h⟩
    exact ⟨state, phase, cause, running.trans hrunning, refLoss, pwrEn.trans hpwr⟩
  | false =>
    obtain ⟨state, fr, dram, pwrEn, arr⟩ := coreBorRelease_of_low w hbor hvin
    refine ⟨_, exec_coreBorRelease w s, ?_, arr, ?_, fun h => Bool.noConfusion h, fun _ => ⟨state, fr, dram, pwrEn⟩⟩
    · simp [coreBorRelease, hbor, hvin]
    · simp [coreBorRelease, hbor, hvin]

/-! HRST_N. -/

/-- HRST_N drops HOSTCFG and INT_EN from the configuration, and nothing else of it (R84). -/
theorem hrstAssert_conf (s : State) :
    (hrstAssert s).conf = { s.conf with
      cur := s.conf.cur.filter fun p => p.1 != ckey 0 0 6 && p.1 != ckey 0 0 8
      shadow := s.conf.shadow.filter fun p => p.1 != ckey 0 0 6 && p.1 != ckey 0 0 8 } := by
  simp [hrstAssert]

theorem hrstAssert_cur (s : State) (k : Nat) : Sparse.get resetWord (hrstAssert s).conf.cur k =
    if k != ckey 0 0 6 && k != ckey 0 0 8 then Sparse.get resetWord s.conf.cur k else resetWord k := by
  rw [hrstAssert_conf]
  exact Sparse.get_filter_key _ (fun j => j != ckey 0 0 6 && j != ckey 0 0 8) k _

theorem hrstAssert_cr_hostcfg (s : State) : cr (hrstAssert s) 0x18 = 0 :=
  (hrstAssert_cur s (ckey 0 0 6)).trans (if_neg (by decide))

theorem hrstAssert_cr_intEn (s : State) : cr (hrstAssert s) 0x20 = 0 :=
  (hrstAssert_cur s (ckey 0 0 8)).trans (if_neg (by decide))

theorem cancelExchange_sec (s : State) : (cancelExchange s).sec.chal = none ∧ (cancelExchange s).sec.level = s.sec.level := by
  unfold cancelExchange
  cases h : s.sec.chal <;> simp [h]

/-- The host interface under HRST_N: no write waits, the table port is idle, and HINT_N is released since no bus responds (R69, R83). -/
theorem hrstAssert_host (s : State) : (hrstAssert s).host = { s.host with
    hrst := true, sync := false, syncWait := false, post := [], waiting := none, mboxOvf := false, partErr := false
    tblTid := 0, tblIdx := 0, tblWord := 0, tblInc := false, tblBusy := false, tblErr := false
    latch := [], stagedBe := [], latchUe := false, hint := false } := by
  simp [hrstAssert, hintFollow, busUp]

theorem hintFollow_others (s : State) :
    (hintFollow s).top = s.top ∧ (hintFollow s).fr = s.fr ∧ (hintFollow s).ring = s.ring ∧ (hintFollow s).scout = s.scout ∧
      (hintFollow s).tally = s.tally ∧ (hintFollow s).weave = s.weave := ⟨rfl, rfl, rfl, rfl, rfl, rfl⟩

theorem hrstAssert_others (s : State) :
    (hrstAssert s).top = s.top ∧ (hrstAssert s).fr = s.fr ∧ (hrstAssert s).ring = s.ring ∧ (hrstAssert s).scout = s.scout ∧
      (hrstAssert s).tally = s.tally ∧ (hrstAssert s).weave = s.weave := by
  simp [hrstAssert, hintFollow_others]

theorem hrstAssert_sec (s : State) : (hrstAssert s).sec.chal = none ∧ (hrstAssert s).sec.level = s.sec.level := by
  have follow : ∀ u : State, (hintFollow (cancelExchange u)).sec = (cancelExchange u).sec := fun u => by simp
  unfold hrstAssert
  rw [follow]
  exact cancelExchange_sec _

theorem hrstRelease_of_low {s : State} (h : s.host.hrst = true) :
    hrstRelease s = hintFollow { s with host := { s.host with hrst := false } } := if_pos h

/-- Settles O13: HRST_N drops the two HBI words and the port's fields, and cancels a pending exchange (R99). -/
theorem hostReset : Obligations.HostReset := by
  refine ⟨fun s => ?_, fun s h => ?_, fun s h => by simp [exec_hrstNRelease, hrstRelease, h]⟩
  · obtain ⟨chal, level⟩ := hrstAssert_sec s
    have others : ∀ k, k ≠ ckey 0 0 6 → k ≠ ckey 0 0 8 →
        Sparse.get resetWord (hrstAssert s).conf.cur k = Sparse.get resetWord s.conf.cur k := fun k h6 h8 =>
      (hrstAssert_cur s k).trans (if_pos (by simp [h6, h8]))
    refine ⟨_, exec_hrstNAssert s, ?_⟩
    rw [hrstAssert_host]
    exact ⟨rfl, rfl, rfl, rfl, rfl, rfl, rfl, rfl, rfl, rfl, rfl, hrstAssert_cr_hostcfg s, hrstAssert_cr_intEn s, chal, level, rfl,
      others, by simp [hrstAssert_others]⟩
  · rw [exec_hrstNRelease, hrstRelease_of_low h]
    exact ⟨_, rfl, rfl, rfl, rfl, rfl⟩

end Sys2Proof.Machine
end

section
/-! PROOFS. STATE_REQ: which commands wait for the boundary and which are refused (02, R20 to R24). -/

namespace Sys2Proof.Machine

/-! The word of a STATE_REQ write. -/

/-- The word that a STATE_REQ command writes: CMD in [3:0], KEY in [31:16]. -/
def reqWord (cmd : Nat) (key : BitVec 16) : Word := pack [(cmd, 4, 0), (key.toNat, 16, 16)]

theorem reqWord_cmd {cmd : Nat} (key : BitVec 16) (h : cmd < 16) : fld (reqWord cmd key) 0 4 = cmd := by
  simp only [fld, reqWord, pack, BitVec.toNat_or, BitVec.toNat_ofNat]
  rw [Nat.pow_zero, Nat.div_one, Nat.or_mod_two_pow, Nat.or_mod_two_pow]
  have hkey : key.toNat % 2 ^ 16 * 2 ^ 16 % 2 ^ 32 % 2 ^ 4 = 0 := by omega
  have hcmd : cmd % 2 ^ 4 * 1 % 2 ^ 32 % 2 ^ 4 = cmd := by omega
  rw [hkey, hcmd]
  simp

theorem reqWord_key (cmd : Nat) (key : BitVec 16) : ((reqWord cmd key) >>> 16).truncate 16 = key := by
  have hcmd : cmd % 2 ^ 4 * 2 ^ 0 % 2 ^ 32 / 2 ^ 16 = 0 := by omega
  have hkey : key.toNat % 2 ^ 16 * 2 ^ 16 % 2 ^ 32 / 2 ^ 16 % 2 ^ 16 = key.toNat := by omega
  apply BitVec.eq_of_toNat_eq
  simp only [reqWord, pack, BitVec.truncate_eq_setWidth, BitVec.toNat_setWidth, BitVec.toNat_ushiftRight, BitVec.toNat_or,
    BitVec.toNat_ofNat, Nat.shiftRight_or_distrib]
  simp only [Nat.or_mod_two_pow, Nat.shiftRight_eq_div_pow, hcmd, hkey]
  simp

/-! What a write of it does, by the reason that the rules give (R20, R21). -/

theorem evalReq_of_reason {cmd : Nat} {key : BitVec 16} {s : State} (h : cmd < 16) (hr : reqReason s cmd key ≠ 0) :
    evalReq (reqWord cmd key) s = refuseReq (reqReason s cmd key) s := by
  simp only [evalReq, reqWord_cmd key h, reqWord_key]

/-- A command that no rule refuses waits for the boundary; DISCARD_COMB in RETURN withdraws a request for a DRAM that is not owned. -/
def reqWaits (cmd : Nat) (s : State) : State :=
  { s with
    top := { s.top with trig := { s.top.trig with req := some (reqAction cmd) } }
    dram := { s.dram with ownReq := s.dram.ownReq && !(cmd == 4 && s.top.state = .ret && !s.dram.owned) } }

theorem evalReq_of_accept {cmd : Nat} {key : BitVec 16} {s : State} (h : cmd < 16) (h0 : cmd ≠ 0) (hr : reqReason s cmd key = 0) :
    evalReq (reqWord cmd key) s = reqWaits cmd s := by
  simp only [evalReq, reqWord_cmd key h, reqWord_key, hr, if_neg h0, reqWaits, beq_eq_decide]
  cases hw : decide (cmd = 4) && decide (s.top.state = .ret) && !s.dram.owned <;> simp

theorem evalReq_of_nop (key : BitVec 16) (s : State) : evalReq (reqWord 0 key) s = s := by
  simp [evalReq, reqWord_cmd, reqReason]

/-! A write of it that reaches STATE_REQ. -/

theorem popped_intStat (s : State) : (popped s).host.intStat = s.host.intStat := by
  unfold popped
  split <;> rfl

theorem reqReason_popped (s : State) (cmd : Nat) (key : BitVec 16) : reqReason (popped s) cmd key = reqReason s cmd key := by
  simp [reqReason, reqState, popped_intStat]

theorem reaches_powered {e : PostEntry} {s : State} (h : reaches e s = true) : powered s = true := by
  simp only [reaches, busUp, Bool.and_eq_true] at h
  simp only [h]

/-- The row of a command is its write, applied as it leaves the post buffer. -/
theorem reqRow_reaches {cmd : Nat} {key : BitVec 16} {be : ByteEn} {s : State} (hr : reaches ⟨0x14, reqWord cmd key, be⟩ s = true)
    (ho : oldest ⟨0x14, reqWord cmd key, be⟩ s = true) : reqRow cmd key be s = .next (evalReq (reqWord cmd key) (popped s)) :=
  congrArg Host.Outcome.next (leave_reaches _ _ s hr ho)

/-- The commands that the table of STATE_REQ names, but for NOP, with their codes. -/
def reqCommands (key : BitVec 16) (be : ByteEn) : List (Instr × Nat) :=
  [(.stateReqServiceEnter key be, 1), (.stateReqServiceLeave key be, 2), (.stateReqEarly key be, 3), (.stateReqDiscardComb key be, 4),
    (.stateReqDormant key be, 5), (.stateReqShip key be, 6), (.stateReqSoftReset key be, 7)]

theorem exec_of_reqCommands {c : Instr} {cmd : Nat} {key : BitVec 16} {be : ByteEn} (h : (c, cmd) ∈ reqCommands key be) (s : State) :
    exec c s = reqRow cmd key be s ∧ cmd < 16 ∧ cmd ≠ 0 := by
  simp only [reqCommands, List.mem_cons, Prod.mk.injEq, List.not_mem_nil, or_false] at h
  rcases h with ⟨rfl, rfl⟩ | ⟨rfl, rfl⟩ | ⟨rfl, rfl⟩ | ⟨rfl, rfl⟩ | ⟨rfl, rfl⟩ | ⟨rfl, rfl⟩ | ⟨rfl, rfl⟩ <;>
    exact ⟨rfl, by decide, by decide⟩

theorem exec_stateReqReserved {cmd : Nat} (key : BitVec 16) (be : ByteEn) (s : State) (h8 : 8 ≤ cmd) (h15 : cmd ≤ 15) :
    exec (.stateReqReserved cmd key be) s = reqRow cmd key be s := if_pos ⟨h8, h15⟩

theorem exec_stateReqNop (key : BitVec 16) (be : ByteEn) (s : State) : exec (.stateReqNop key be) s = reqRow 0 key be s := rfl

/-- Settles O25: a write that no rule refuses leaves the buffer and marks its action; a NOP only leaves it. -/
theorem stateReqAccepted : Obligations.StateReqAccepted := by
  refine ⟨fun key be s c cmd hc hr ho hreason => ?_, fun key be s hr ho => ?_⟩
  · obtain ⟨hexec, h16, h0⟩ := exec_of_reqCommands hc s
    have haccept : evalReq (reqWord cmd key) (popped s) = reqWaits cmd (popped s) :=
      evalReq_of_accept h16 h0 (by rw [reqReason_popped, hreason])
    refine ⟨_, hexec.trans ((reqRow_reaches hr ho).trans (congrArg Host.Outcome.next haccept)), ?_, ?_, ?_⟩ <;> simp [reqWaits]
  · rw [exec_stateReqNop, reqRow_reaches hr ho, evalReq_of_nop]

/-! The refusals (R21, R22). -/

theorem reqReason_of_harvest {cmd : Nat} (key : BitVec 16) {s : State} (h1 : 1 ≤ cmd) (hh : s.top.state = .harvest) :
    reqReason s cmd key = 6 := by
  simp [reqReason, hh, Nat.ne_of_gt h1]

/-- A reserved command has reason 6 in HARVEST and reason 1 elsewhere (R21, R22). -/
theorem reqReason_of_reserved {cmd : Nat} (key : BitVec 16) (s : State) (h8 : 8 ≤ cmd) : reqReason s cmd key ≠ 0 := by
  by_cases hh : s.top.state = .harvest
  · simp [reqReason_of_harvest key (show 1 ≤ cmd by omega) hh]
  · simp [reqReason, hh, h8, show cmd ≠ 0 by omega]

/-- A refusal sets REQ_ERR with its reason and INT_STAT.CONFIG (R21). -/
theorem refuseReq_marks (reason : Nat) {s : State} (hp : powered s = true) :
    (refuseReq reason s).top = { s.top with reqErr := true, reqReason := reason } ∧
      (refuseReq reason s).host.intStat.getLsbD 14 = true :=
  ⟨by simp [refuseReq, setInt], setInt_sets (by decide) hp⟩

/-- Settles O26: the reason is the same once the write has left the buffer, and a refusal leaves what waits. -/
theorem stateReqRefused : Obligations.StateReqRefused := by
  refine ⟨fun key be s c cmd hc hr ho hreason => ?_, fun key s cmd h8 => reqReason_of_reserved key s h8,
    fun key s cmd h1 hh => reqReason_of_harvest key h1 hh⟩
  obtain ⟨hexec, h16⟩ : exec c s = reqRow cmd key be s ∧ cmd < 16 := by
    rcases hc with hc | ⟨h8, h15, rfl⟩
    · obtain ⟨hexec, h16, -⟩ := exec_of_reqCommands hc s
      exact ⟨hexec, h16⟩
    · exact ⟨exec_stateReqReserved key be s h8 h15, by omega⟩
  have hrefuse : evalReq (reqWord cmd key) (popped s) = refuseReq (reqReason s cmd key) (popped s) := by
    rw [evalReq_of_reason h16 (by rwa [reqReason_popped]), reqReason_popped]
  have hpow : powered (popped s) = true := by simpa [powered] using reaches_powered hr
  obtain ⟨top, int⟩ := refuseReq_marks (reqReason s cmd key) hpow
  refine ⟨_, hexec.trans ((reqRow_reaches hr ho).trans (congrArg Host.Outcome.next hrefuse)), ?_, int, ?_⟩
  · simpa using top
  · simp [onlyReports]

end Sys2Proof.Machine
end

section
/-! PROOFS. WAKE: the flag scan, phase IMAGE and phase CATALOG (02, R27 to R29, R266, R310, R356 to R362). -/

namespace Sys2Proof.Machine

theorem exec_wakeScanDone (failed : List Nat) (s : State) : exec (.wakeScanDone failed) s = .next (scanDone failed s) := rfl
theorem exec_wakeImageLoad (i : ImageIn) (s : State) : exec (.wakeImageLoad i) s = .next (imageLoad i s) := rfl
theorem exec_wakeCatalogScan (hs : List Nat) (s : State) : exec (.wakeCatalogScan hs) s = .next (catalogScan hs s) := rfl
theorem exec_wakeDecision (s : State) : exec .wakeDecision s = .next (wakeDecision s) := rfl

/-! Lists of numbers. -/

@[simp] theorem mem_insertNat {n k : Nat} : ∀ {ns : List Nat}, n ∈ insertNat k ns ↔ n = k ∨ n ∈ ns
  | [] => by simp [insertNat]
  | m :: ms => by
    unfold insertNat
    split
    · next h => simp [h]
    · split
      · simp
      · simp [mem_insertNat (ns := ms), or_left_comm]

@[simp] theorem mem_removeNat {n k : Nat} {ns : List Nat} : n ∈ removeNat k ns ↔ n ∈ ns ∧ n ≠ k := by
  simp [removeNat]

/-! The sectors that SCAN resolves (R310). -/

/-- An erase that succeeds leaves its sector blank and every other word as it is. -/
theorem eraseOk_arrWord (sec : Nat) (s : State) (w : Nat) :
    arrWord (eraseOk sec s) w = if secOf (8 * w) = sec then erasedWord else arrWord s w := by
  have hfilter : arrWord (eraseOk sec s) w = if secOf (8 * w) != sec then arrWord s w else erasedWord :=
    Sparse.get_filter_key (fun _ => erasedWord) (fun v => secOf (8 * v) != sec) w s.arr.mem
  rw [hfilter]
  by_cases h : secOf (8 * w) = sec <;> simp [h]

/-- SCAN resolves one sector: its message, and the erase with its outcome. -/
def resolveOne (failed : List Nat) (s : State) (x : Nat) : State :=
  let s' := tally 0x34 1 (BitVec.ofNat 32 (x * 0x4000)) s
  if failed.contains x then eraseFail x s' else eraseOk x s'

theorem resolveOne_ufe (failed : List Nat) (s : State) (x y : Nat) :
    y ∈ (resolveOne failed s x).arr.ufe ↔ y ∈ s.arr.ufe ∧ ¬(y = x ∧ x ∉ failed) := by
  unfold resolveOne
  by_cases h : x ∈ failed <;> simp [h, eraseFail, retire, eraseOk, blankSector]

theorem resolveOne_retired (failed : List Nat) (s : State) (x y : Nat) :
    y ∈ (resolveOne failed s x).arr.retired ↔ y ∈ s.arr.retired ∨ y = x ∧ x ∈ failed := by
  unfold resolveOne
  by_cases h : x ∈ failed <;> simp [h, eraseFail, retire, eraseOk, blankSector, or_comm]

theorem resolveOne_arrWord (failed : List Nat) (s : State) (x w : Nat) :
    arrWord (resolveOne failed s x) w = if secOf (8 * w) = x ∧ x ∉ failed then erasedWord else arrWord s w := by
  have message : ∀ (a : Word) (t : State), arrWord (tally 0x34 1 a t) w = arrWord t w := fun a t => by simp [arrWord]
  unfold resolveOne
  by_cases h : x ∈ failed
  · simp [h, eraseFail, retire, arrWord]
  · simp [h, eraseOk_arrWord, message]

/-! All of them, in turn. -/

theorem resolveAll_ufe (failed : List Nat) (y : Nat) : ∀ (l : List Nat) (s : State),
    y ∈ (l.foldl (resolveOne failed) s).arr.ufe ↔ y ∈ s.arr.ufe ∧ ¬(y ∈ l ∧ y ∉ failed)
  | [], s => by simp
  | x :: l, s => by
    rw [List.foldl_cons, resolveAll_ufe failed y l, resolveOne_ufe, List.mem_cons]
    by_cases h : y = x
    · subst h
      tauto
    · simp [h]

theorem resolveAll_retired (failed : List Nat) (y : Nat) : ∀ (l : List Nat) (s : State),
    y ∈ (l.foldl (resolveOne failed) s).arr.retired ↔ y ∈ s.arr.retired ∨ y ∈ l ∧ y ∈ failed
  | [], s => by simp
  | x :: l, s => by
    rw [List.foldl_cons, resolveAll_retired failed y l, resolveOne_retired, List.mem_cons]
    by_cases h : y = x
    · subst h
      tauto
    · simp [h]

theorem resolveAll_arrWord (failed : List Nat) (w : Nat) : ∀ (l : List Nat) (s : State),
    arrWord (l.foldl (resolveOne failed) s) w =
      if secOf (8 * w) ∈ l ∧ secOf (8 * w) ∉ failed then erasedWord else arrWord s w
  | [], s => by simp
  | x :: l, s => by
    rw [List.foldl_cons, resolveAll_arrWord failed w l, resolveOne_arrWord]
    by_cases h : secOf (8 * w) = x
    · subst h
      by_cases hf : secOf (8 * w) ∈ failed <;> simp [hf]
    · simp [h]

/-- SCAN's end: the sectors to resolve, one by one, and no resolution left under way. -/
theorem scanDone_of_due {failed : List Nat} {s : State} (hstate : s.top.state = .wake) (hphase : s.top.phase = .scan)
    (hstep : s.top.wakeStep = 0) (htime : 2559 + resolveFrames s failed ≤ s.top.inState) :
    ∃ u, u.arr.mem = s.arr.mem ∧ u.arr.ufe = s.arr.ufe ∧ u.arr.retired = s.arr.retired ∧
      (scanDone failed s).top.wakeStep = 1 ∧
      (scanDone failed s).arr = { ((toResolve s).foldl (resolveOne failed) u).arr with resolve := none } := by
  have hdone : scanDone failed s = _ := if_pos ⟨hstate, hphase, hstep, htime⟩
  rw [hdone]
  exact ⟨{ s with arr := { s.arr with retCnt := min 255 s.arr.retired.length } }, rfl, rfl, rfl, rfl, rfl⟩

theorem scanDone_of_early {failed : List Nat} {s : State} (h : s.top.state ≠ .wake ∨ s.top.inState < 2559) : scanDone failed s = s :=
  if_neg fun ⟨hstate, _, _, htime⟩ => by
    rcases h with h | h
    · exact h hstate
    · omega

theorem mem_toResolve {s : State} {x : Nat} : x ∈ toResolve s ↔ x ∈ s.arr.ufe ∧ x ∉ s.arr.retired := by
  simp [toResolve]

/-- Settles O23: a sector with UFE that is not retired is resolved, so it is retired or blank afterwards. -/
theorem wakeScan : Obligations.WakeScan := by
  refine ⟨fun failed s hstate hphase hstep htime => ?_, fun failed s h => by rw [exec_wakeScanDone, scanDone_of_early h]⟩
  obtain ⟨u, hmem, hufe, hretired, wakeStep, harr⟩ := scanDone_of_due hstate hphase hstep htime
  have ufe : ∀ y, y ∈ (scanDone failed s).arr.ufe ↔ y ∈ s.arr.ufe ∧ ¬(y ∈ toResolve s ∧ y ∉ failed) := fun y => by
    rw [harr, ← hufe]
    exact resolveAll_ufe failed y (toResolve s) u
  have retired : ∀ y, y ∈ (scanDone failed s).arr.retired ↔ y ∈ s.arr.retired ∨ y ∈ toResolve s ∧ y ∈ failed := fun y => by
    rw [harr, ← hretired]
    exact resolveAll_retired failed y (toResolve s) u
  have words : ∀ w, arrWord (scanDone failed s) w =
      if secOf (8 * w) ∈ toResolve s ∧ secOf (8 * w) ∉ failed then erasedWord else arrWord s w := fun w => by
    have hu : arrWord u w = arrWord s w := by rw [arrWord, hmem, arrWord]
    rw [← hu, ← resolveAll_arrWord, arrWord, harr, arrWord]
  have left : toResolve (scanDone failed s) = [] := by
    refine List.eq_nil_iff_forall_not_mem.2 fun y hy => ?_
    rw [mem_toResolve, ufe, retired, mem_toResolve] at hy
    tauto
  refine ⟨_, exec_wakeScanDone failed s, wakeStep, by rw [harr], left, fun x hx hf => (retired x).2 (.inr ⟨hx, hf⟩),
    fun x hx => (retired x).2 (.inl hx), words, ?_⟩
  simp [onlyReports]

end Sys2Proof.Machine
end

section
/-! PROOFS. Which array contents and security fields the work of phase IMAGE leaves as they are (02, R27). -/

namespace Sys2Proof.Machine

/-! What is stored in the array, as against what its engines and ports are doing. -/

/-- t holds the words, the uncorrectable words and the retired sectors that s holds. -/
def SameStored (s t : State) : Prop :=
  t.arr.mem = s.arr.mem ∧ t.arr.ueMarks = s.arr.ueMarks ∧ t.arr.retired = s.arr.retired

theorem SameStored.of_arr {s t : State} (h : t.arr = s.arr) : SameStored s t := by rw [SameStored, h]; exact ⟨rfl, rfl, rfl⟩

theorem SameStored.refl (s : State) : SameStored s s := ⟨rfl, rfl, rfl⟩

theorem SameStored.trans {s t u : State} (h : SameStored s t) (k : SameStored t u) : SameStored s u :=
  ⟨k.1.trans h.1, k.2.1.trans h.2.1, k.2.2.trans h.2.2⟩

theorem SameStored.foldl {β : Type} (f : State → β → State) (h : ∀ s x, SameStored s (f s x)) :
    ∀ (l : List β) (s : State), SameStored s (l.foldl f s)
  | [], s => .refl s
  | x :: l, s => (h s x).trans (SameStored.foldl f h l (f s x))

theorem setPort_sameStored (r : Requester) (p : ArrPort) (s : State) : SameStored s (setPort r p s) := by
  unfold setPort
  split <;> exact ⟨rfl, rfl, rfl⟩

theorem setHstate_sameStored (r : Requester) (h : Nat) (s : State) : SameStored s (setHstate r h s) := setPort_sameStored r _ s

/-- An operation that starts has stored nothing yet. -/
theorem startNext_sameStored (s : State) : SameStored s (startNext s) := by
  have started : ∀ (r : Requester) (a : ArrB), a.mem = s.arr.mem → a.ueMarks = s.arr.ueMarks → a.retired = s.arr.retired →
      SameStored s (setHstate r 2 { s with arr := a }) := fun r a hmem hue hret =>
    SameStored.trans (t := { s with arr := a }) ⟨hmem, hue, hret⟩ (setHstate_sameStored r 2 _)
  unfold startNext
  split
  · split
    · split
      · split
        · exact started _ _ rfl rfl rfl
        · exact .refl s
      · split
        · exact .refl s
        · exact started _ _ rfl rfl rfl
    · exact started _ _ rfl rfl rfl
  · exact .refl s

theorem submit_sameStored (o : ArrOp) (s : State) : SameStored s (submit o s) := by
  unfold submit
  refine SameStored.trans ?_ (startNext_sameStored _)
  refine SameStored.trans (t := { s with arr := { s.arr with queue := s.arr.queue ++ [o] } }) ⟨rfl, rfl, rfl⟩ ?_
  exact setHstate_sameStored _ _ _

theorem keepRecord_sameStored (lo hi tag arg : Nat) (d : DWord) (s : State) : SameStored s (keepRecord lo hi tag arg d s) := by
  have erased : ∀ (secs : List Nat) (t : State),
      SameStored t (secs.foldl (fun s sec => submit { req := .engine, erase := true, off := sec * 0x4000 } s) t) := fun secs t =>
    SameStored.foldl _ (fun _ _ => submit_sameStored _ _) secs t
  unfold keepRecord
  extract_lets w full at' s1 put
  have first : SameStored s s1 := by
    simp only [s1]
    split
    · exact erased _ s
    · exact .refl s
  exact (first.trans (submit_sameStored _ _)).trans (submit_sameStored _ _)

theorem geomWake_sameStored (s : State) : SameStored s (geomWake s) := by
  have kept : ∀ (kind val : Nat) (t : State), SameStored t (keepGeom kind val t) := fun kind val t => keepRecord_sameStored _ _ _ _ _ t
  unfold geomWake
  extract_lets ws n same next s1
  split
  · exact ⟨rfl, rfl, rfl⟩
  · refine SameStored.trans ?_ (SameStored.foldl _ (fun t p => kept _ _ t) _ _)
    exact SameStored.trans (t := s1) ⟨rfl, rfl, rfl⟩ (kept _ _ _)

/-! The base image's records write no array word and no security field (R36). -/

theorem trickleGo_arrSec (s : State) : (trickleGo s).arr = s.arr ∧ (trickleGo s).sec = s.sec := by simp [trickleGo]

theorem wordEffects_arrSec (tid idx w : Nat) (data mask : Word) (s : State) :
    (wordEffects tid idx w data mask s).arr = s.arr ∧ (wordEffects tid idx w data mask s).sec = s.sec := by
  simp [wordEffects, trickleGo_arrSec]

theorem foldl_snd_proj {α β γ : Type} (f : α × State → β → α × State) (p : State → γ) (h : ∀ a x, p (f a x).2 = p a.2) :
    ∀ (l : List β) (a : α × State), p (l.foldl f a).2 = p a.2
  | [], _ => rfl
  | x :: l, a => (foldl_snd_proj f p h l (f a x)).trans (h a x)

theorem commitEntry_arrSec (tid idx : Nat) (ws : List (Word × ByteEn)) (s : State) :
    (commitEntry tid idx ws s).arr = s.arr ∧ (commitEntry tid idx ws s).sec = s.sec := by
  unfold commitEntry
  extract_lets step r ps ok ok1 s1 s2 s3
  have stored : r.2.arr = s.arr ∧ r.2.sec = s.sec := by
    refine ⟨foldl_snd_proj _ (·.arr) ?_ _ _, foldl_snd_proj _ (·.sec) ?_ _ _⟩ <;> intro a x <;> dsimp only [step] <;> split <;> simp
  clear_value r
  split
  · simp [stored]
  · simp [s3, s2, s1, stored, wordEffects_arrSec]

theorem applyTblData_arrSec (data : Word) (be : ByteEn) (s : State) :
    (applyTblData data be s).arr = s.arr ∧ (applyTblData data be s).sec = s.sec := by
  unfold applyTblData
  split <;> simp [stageData, commitEntry_arrSec]

/-- A word whose value another block holds is a latch, a port or a clock (R36). -/
theorem writeSpecial_stored (off : Nat) (data mask : Word) (s : State) :
    SameStored s (writeSpecial off data mask s) ∧ (writeSpecial off data mask s).sec = s.sec := by
  unfold writeSpecial
  extract_lets v be
  split
  · exact ⟨.of_arr (by simp), by simp⟩
  · split
    · exact ⟨.of_arr (applyTblData_arrSec _ _ _).1, (applyTblData_arrSec _ _ _).2⟩
    · split
      · exact ⟨.of_arr (by simp), by simp⟩
      · split
        · exact ⟨.of_arr (by simp), by simp⟩
        · exact ⟨⟨rfl, rfl, rfl⟩, rfl⟩

theorem applyRec_stored (s : State) (r : ImgRec) : SameStored s (applyRec s r) ∧ (applyRec s r).sec = s.sec := by
  unfold applyRec
  split
  · exact writeSpecial_stored _ _ _ s
  · have written : ∀ t : State, t.arr = s.arr ∧ t.sec = s.sec → SameStored s t ∧ t.sec = s.sec := fun t h => ⟨.of_arr h.1, h.2⟩
    refine written _ ?_
    simp [wordEffects_arrSec]

theorem baseLoad_stored (s : State) : SameStored s (baseLoad s) ∧ (baseLoad s).sec = s.sec := by
  have records : ∀ (l : List ImgRec) (t : State), SameStored t (l.foldl applyRec t) ∧ (l.foldl applyRec t).sec = t.sec := fun l t =>
    ⟨SameStored.foldl _ (fun t r => (applyRec_stored t r).1) l t, foldl_proj _ (·.sec) (fun t r => (applyRec_stored t r).2) l t⟩
  have quiet : ∀ t : State, (ringsQuiet t).arr = t.arr ∧ (ringsQuiet t).sec = t.sec := fun t => by simp [ringsQuiet]
  unfold baseLoad
  extract_lets c s1 recs top1 s2 specials base conf2 s3
  obtain ⟨stored, sec⟩ := records recs { s1 with top := { top1 with baseAlt := c.2, baseNone := c.1.isNone } }
  obtain ⟨quietArr, quietSec⟩ := quiet (recs.foldl applyRec { s1 with top := { top1 with baseAlt := c.2, baseNone := c.1.isNone } })
  have whole : SameStored s s3 ∧ s3.sec = s.sec := by
    refine ⟨SameStored.trans (SameStored.trans (.of_arr ?_) stored) (.of_arr quietArr), quietSec.trans (sec.trans ?_)⟩ <;> simp [s1]
  split
  · exact ⟨whole.1.trans (.of_arr (by simp)), by simpa using whole.2⟩
  · exact whole

theorem dintLoad_stored (s : State) : SameStored s (dintLoad baseLoad s) ∧ (dintLoad baseLoad s).sec = s.sec := by
  unfold dintLoad
  split
  · exact baseLoad_stored s
  · obtain ⟨stored, sec⟩ := baseLoad_stored (closeInterval true s.fr.wakeEpoch s)
    exact ⟨SameStored.trans (.of_arr (by simp)) stored, sec.trans (by simp)⟩

end Sys2Proof.Machine
end

section
/-! PROOFS. Phase IMAGE: the configuration is loaded, the keys are found killed or not, and the boot ROM chooses the firmware (02, R27,
R356 to R362). -/

namespace Sys2Proof.Machine

/-! The configuration. -/

/-- Phase IMAGE up to the keys: the configuration in force, the store's and the geometry's checks, and the staged copies (R27). -/
def imageConfigured (s : State) : State :=
  let s1 := areaErrors 5 false s
  let s2 := if (imgRead s1 5 false).isNone then areaErrors 5 true s1 else s1
  let s3 := (List.range 5).foldl (fun s k => areaErrors k true (areaErrors k false s)) s2
  let s4 := geomWake (ringCheck (storeWake (thReload (thUsed s 0) (thUsed s 1) (pfCheck (dintLoad baseLoad s3)))))
  (List.range 6).foldl (fun s k => stageLoad k (imgNote k s)) s4

theorem storeWake_fresh (s : State) : (storeWake s).store.cValid = false ∧ (storeWake s).store.test.due = true := by
  have graded : ∀ t : State, (regrade t).store.cValid = t.store.cValid ∧ (regrade t).store.test = t.store.test := fun t => by
    unfold regrade
    dsimp only
    split <;> simp
  unfold storeWake
  extract_lets bad scout0 s0 store0 s1 s2
  have fresh : s2.store.cValid = false ∧ s2.store.test.due = true := by
    simp only [s2]
    split <;> simp [s1]
  simpa [graded] using fresh

theorem geomWake_invalid (s : State) : (geomWake s).nand.valid = false := by
  unfold geomWake
  extract_lets ws n same next s1
  split
  · rfl
  · simp [s1]

theorem imageConfigured_stored (s : State) : SameStored s (imageConfigured s) ∧ (imageConfigured s).sec = s.sec := by
  unfold imageConfigured
  extract_lets s1 s2 s3 s4
  have read : s3.arr = s.arr ∧ s3.sec = s.sec := by
    simp only [s3, s2, s1]
    split <;> simp
  obtain ⟨stored, sec⟩ := dintLoad_stored s3
  have loaded : SameStored s s4 ∧ s4.sec = s.sec := by
    refine ⟨SameStored.trans (SameStored.trans (SameStored.trans (.of_arr read.1) stored) (.of_arr ?_)) (geomWake_sameStored _), ?_⟩ <;>
      simp [s4, sec, read]
  exact ⟨loaded.1.trans (.of_arr (by simp)), by simpa using loaded.2⟩

theorem imageConfigured_fresh (s : State) :
    (imageConfigured s).store.cValid = false ∧ (imageConfigured s).store.test.due = true ∧ (imageConfigured s).nand.valid = false := by
  unfold imageConfigured
  extract_lets s1 s2 s3 s4
  have store : s4.store.cValid = false ∧ s4.store.test.due = true := by simp [s4, storeWake_fresh]
  have nand : s4.nand.valid = false := geomWake_invalid _
  simpa using ⟨store.1, store.2, nand⟩

/-! The key sectors. -/

/-- The words of the array that are not blank, as BLANK and the key engine look for them. -/
def usedWords (s : State) : List Nat := s.arr.mem.map (·.1) ++ s.arr.ceMarks ++ s.arr.ueMarks

theorem eraseOk_usedWords (sec : Nat) (s : State) :
    usedWords (eraseOk sec s) = (usedWords s).filter fun w => secOf (8 * w) != sec := by
  simp [usedWords, eraseOk, blankSector, List.filter_append, List.filter_map, Function.comp_def]

theorem firstUsed_of_blank {s : State} {sec : Nat} (h : ∀ w ∈ usedWords s, secOf (8 * w) ≠ sec) : firstUsed s sec = none := by
  have hnone : (usedWords s).filter (fun w => secOf (8 * w) == sec) = [] := by simpa using h
  unfold firstUsed
  change ((usedWords s).filter fun w => secOf (8 * w) == sec).foldl _ none = none
  rw [hnone]
  rfl

/-- The four key sectors, erased in both banks as a kill erases them (R362). -/
def keysErased (s : State) : State := eraseOk 229 (eraseOk 228 (eraseOk 101 (eraseOk 100 s)))

theorem keysErased_blank {s : State} {w : Nat} (h : w ∈ usedWords (keysErased s)) :
    secOf (8 * w) ≠ 100 ∧ secOf (8 * w) ≠ 101 := by
  simp only [keysErased, eraseOk_usedWords, List.mem_filter, bne_iff_ne] at h
  tauto

theorem keySector_keysErased (s : State) : keySector (keysErased s) = 100 := by
  unfold keySector
  rw [firstUsed_of_blank (sec := 101) fun w hw => (keysErased_blank hw).2]
  simp

theorem keyUsed_keysErased (s : State) : keyUsed (keysErased s) = 0 := by
  have hnone : (usedWords (keysErased s)).filter (fun w => decide (100 * 2048 ≤ w) && decide (w < 100 * 2048 + 2048)) = [] := by
    simp only [List.filter_eq_nil_iff, Bool.and_eq_true, decide_eq_true_eq, not_and, not_lt]
    intro w hw hlo
    have hblank := (keysErased_blank hw).1
    unfold secOf at hblank
    omega
  unfold keyUsed
  rw [keySector_keysErased]
  change ((usedWords (keysErased s)).filter fun w => decide (100 * 2048 ≤ w) && decide (w < 100 * 2048 + 2048)).foldl _ 0 = 0
  rw [hnone]
  rfl

theorem keyAppend_keysErased (s : State) : keyAppend 5 (keysErased s) = keyWords 100 0 5 (keysErased s) := by
  unfold keyAppend
  rw [if_pos (by rw [keyUsed_keysErased]; decide), keySector_keysErased, keyUsed_keysErased]

/-! What the firmware images are read from. -/

/-- t holds, in the firmware's sectors of both banks, what s holds, with the same retired sectors and the same least version. -/
def SameFirmware (s t : State) : Prop :=
  (∀ w, secOf (8 * w) % 128 < 80 → arrWord t w = arrWord s w ∧ (w ∈ t.arr.ueMarks ↔ w ∈ s.arr.ueMarks)) ∧
    t.arr.retired = s.arr.retired ∧ t.sec.fwMin = s.sec.fwMin

theorem SameFirmware.trans {s t u : State} (h : SameFirmware s t) (k : SameFirmware t u) : SameFirmware s u :=
  ⟨fun w hw => ⟨(k.1 w hw).1.trans (h.1 w hw).1, (k.1 w hw).2.trans (h.1 w hw).2⟩, k.2.1.trans h.2.1, k.2.2.trans h.2.2⟩

theorem SameFirmware.of_stored {s t : State} (h : SameStored s t) (hsec : t.sec.fwMin = s.sec.fwMin) : SameFirmware s t := by
  obtain ⟨mem, ue, retired⟩ := h
  exact ⟨fun w _ => ⟨by rw [arrWord, mem, arrWord], by rw [ue]⟩, retired, hsec⟩

theorem eraseOk_sameFirmware {sec : Nat} (h : 80 ≤ sec % 128) (s : State) : SameFirmware s (eraseOk sec s) := by
  refine ⟨fun w hw => ?_, rfl, rfl⟩
  have hne : secOf (8 * w) ≠ sec := by rintro rfl; omega
  exact ⟨by rw [eraseOk_arrWord, if_neg hne], by simp [eraseOk, blankSector, hne]⟩

theorem keysErased_sameFirmware (s : State) : SameFirmware s (keysErased s) :=
  (((eraseOk_sameFirmware (by decide) s).trans (eraseOk_sameFirmware (by decide) _)).trans
    (eraseOk_sameFirmware (by decide) _)).trans (eraseOk_sameFirmware (by decide) _)

theorem setWord_sameFirmware {w : Nat} (d : DWord) (h : 80 ≤ secOf (8 * w) % 128) (s : State) : SameFirmware s (setWord w d s) := by
  refine ⟨fun v hv => ⟨(setWord_laws w d s).2.1 v ?_, .rfl⟩, rfl, rfl⟩
  rintro rfl
  omega

theorem SameFirmware.foldl_mem {β : Type} {f : State → β → State} : ∀ {l : List β} {s : State},
    (∀ x ∈ l, ∀ s, SameFirmware s (f s x)) → SameFirmware s (l.foldl f s)
  | [], s, _ => .of_stored (.refl s) rfl
  | x :: _, s, h => (h x List.mem_cons_self s).trans (SameFirmware.foldl_mem fun y hy => h y (List.mem_cons_of_mem x hy))

/-- The check record goes to sectors 100 and 228. -/
theorem keyWords_sameFirmware (s : State) : SameFirmware s (keyWords 100 0 5 s) := by
  have record : SameFirmware s ((List.range 5).foldl (fun s' i =>
      let d := Config.recordWord (16 + i) s'.free
      setWord (100 * 2048 + 0 + i + 0x40000) d (setWord (100 * 2048 + 0 + i) d s')) s) := by
    refine SameFirmware.foldl_mem fun i hi t => ?_
    have hi5 : i < 5 := List.mem_range.1 hi
    refine (setWord_sameFirmware _ ?_ t).trans (setWord_sameFirmware _ ?_ _) <;> unfold secOf <;> omega
  exact record

theorem keyAppend_sameFirmware (s : State) : SameFirmware s (keyAppend 5 (keysErased s)) := by
  rw [keyAppend_keysErased]
  exact (keysErased_sameFirmware s).trans (keyWords_sameFirmware _)

/-! The images' validity depends on nothing else. -/

theorem arrHalf_congr {s t : State} {off : Nat} (h : arrWord t (off / 8) = arrWord s (off / 8)) : arrHalf t off = arrHalf s off := by
  rw [arrHalf, h, arrHalf]

theorem imageForm_congr {s t : State} {off : Nat} (h : ∀ k, k < 32 → arrHalf t (off + k) = arrHalf s (off + k)) (magic : Word)
    (maxLen : Nat) : imageForm t off magic maxLen = imageForm s off magic maxLen := by
  have h0 : arrHalf t off = arrHalf s off := h 0 (by decide)
  simp only [imageForm, h0, h 4 (by decide), h 12 (by decide), h 20 (by decide), h 24 (by decide), h 28 (by decide)]

theorem sectorsRead_congr {s t : State} (h : SameFirmware s t) {lo hi : Nat} (hb : ∀ x, lo ≤ x → x < hi → x % 128 < 80) :
    sectorsRead t lo hi = sectorsRead s lo hi := by
  obtain ⟨words, retired, -⟩ := h
  have marks : (t.arr.ueMarks.any fun w => decide (lo ≤ secOf (8 * w)) && decide (secOf (8 * w) < hi)) =
      s.arr.ueMarks.any fun w => decide (lo ≤ secOf (8 * w)) && decide (secOf (8 * w) < hi) := by
    rw [Bool.eq_iff_iff, List.any_eq_true, List.any_eq_true]
    refine exists_congr fun w => and_congr_left fun hw => ?_
    rw [Bool.and_eq_true, decide_eq_true_eq, decide_eq_true_eq] at hw
    exact (words w (hb _ hw.1 hw.2)).2
  rw [sectorsRead, marks, retired, sectorsRead]

theorem fwValid_congr {s t : State} (h : SameFirmware s t) (bankB : Bool) (c : ImageCheck) : fwValid t bankB c = fwValid s bankB c := by
  have halves : ∀ k, k < 32 →
      arrHalf t ((if bankB then 0x200000 else 0) + k) = arrHalf s ((if bankB then 0x200000 else 0) + k) := fun k hk => by
    refine arrHalf_congr (h.1 _ ?_).1
    unfold secOf
    cases bankB <;> simp <;> omega
  have sectors : sectorsRead t (secOf (if bankB then 0x200000 else 0)) (secOf (if bankB then 0x200000 else 0) + 80) =
      sectorsRead s (secOf (if bankB then 0x200000 else 0)) (secOf (if bankB then 0x200000 else 0) + 80) := by
    refine sectorsRead_congr h fun x hlo hhi => ?_
    unfold secOf at hlo hhi
    cases bankB <;> simp at hlo hhi <;> omega
  simp only [fwValid, imageForm_congr halves, halves 16 (by decide), halves 8 (by decide), h.2.2, sectors]

/-! The keys (R354, R360, R362). -/

theorem keyWake_sameFirmware (i : ImageIn) (s : State) : SameFirmware s (keyWake i s) := by
  have loses : ∀ (l : List Nat) (t : State), SameFirmware t (l.foldl (fun s k => tally 0x25 1 (BitVec.ofNat 32 k)
      { s with sec := { s.sec with slots := Sparse.put (fun _ => Slot.empty) s.sec.slots k .lost } }) t) := fun l t =>
    SameFirmware.foldl_mem fun k _ u => .of_stored (.of_arr (by simp)) (by simp)
  unfold keyWake
  extract_lets killed s1 s2 sec2 lost s3 sec3 sec0
  split
  · split
    · have erased : SameFirmware s (keyAppend 5 (keysErased s1)) := by
        refine SameFirmware.trans (.of_stored (.of_arr ?_) ?_) (keyAppend_sameFirmware s1) <;> simp only [s1] <;> split <;> simp
      exact erased.trans (.of_stored (.of_arr (by simp [s2, keysErased])) (by simp [sec2, s2, keysErased]))
    · exact loses lost s
  · exact .of_stored (.refl s) rfl

/-- A part in use whose check record is missing or stale finds its keys killed. -/
def keysKilled (i : ImageIn) (s : State) : Bool := s.sec.life.inUse && (s.sec.keyRec != some s.sec.epochFuses || !i.keyRecOk)

theorem keyWake_killSeen (i : ImageIn) (s : State) : (keyWake i s).sec.killSeen = keysKilled i s := by
  unfold keyWake keysKilled
  extract_lets killed s1 s2 sec2 lost s3 sec3 sec0
  split
  · next huse =>
    split
    · next hkilled =>
      simp [huse, killed] at hkilled ⊢
      tauto
    · next hkilled =>
      simp [huse, killed] at hkilled ⊢
      tauto
  · next huse => simp [huse]

theorem epochEnd_marks (s : State) : (epochEnd s).sec.killSeen = s.sec.killSeen ∧ (epochEnd s).sec.fwMin = s.sec.fwMin := by
  unfold epochEnd
  split <;> simp

/-! The firmware (R358). -/

theorem fwBoot_fwNone (i : ImageIn) (s : State) :
    (fwBoot i s).hive.fwNone = (!fwValid s false i.fwA && !fwValid s true i.fwB) := by
  rw [← Bool.not_or]
  unfold fwBoot
  dsimp only
  cases h : fwValid s false i.fwA || fwValid s true i.fwB with
  | true =>
    rw [if_pos rfl]
    split <;> simp
  | false => simp

theorem extCheck_fwNone (c : ImageCheck) (s : State) : (extCheck c s).hive.fwNone = s.hive.fwNone := by
  unfold extCheck
  dsimp only
  split
  · rfl
  · split <;> simp

/-! The whole phase. -/

/-- Phase IMAGE up to its record in the log. -/
def imageBooted (i : ImageIn) (s : State) : State :=
  logRecover (extCheck i.ext (fwBoot i (epochEnd (keyWake i (imageConfigured s)))))

theorem imageLoad_of_due (i : ImageIn) {s : State} (hstate : s.top.state = .wake) (hphase : s.top.phase = .image)
    (hstep : s.top.wakeStep = 1) :
    imageLoad i s = logEv 7 (BitVec.ofNat 8 s.top.cause) 0 (BitVec.ofNat 32 s.fr.gapSec)
      (readyCheck { imageBooted i s with top := { (imageBooted i s).top with wakeStep := 2 } }) := by
  unfold imageLoad
  rw [if_pos ⟨hstate, hphase, hstep⟩]
  extract_lets s1 s2 s3 s4 s5 s6 top6
  have booted : s6 = imageBooted i s := rfl
  clear_value s6
  subst booted
  rfl

theorem imageBooted_fwNone (i : ImageIn) (s : State) :
    (imageBooted i s).hive.fwNone = (!fwValid s false i.fwA && !fwValid s true i.fwB) := by
  obtain ⟨stored, sec⟩ := imageConfigured_stored s
  have firmware : SameFirmware s (epochEnd (keyWake i (imageConfigured s))) := by
    refine (SameFirmware.of_stored stored (by rw [sec])).trans ((keyWake_sameFirmware i _).trans ?_)
    exact .of_stored (.of_arr (by simp)) (epochEnd_marks _).2
  rw [← fwValid_congr firmware, ← fwValid_congr firmware, ← fwBoot_fwNone]
  simp [imageBooted, extCheck_fwNone]

theorem imageBooted_killSeen (i : ImageIn) (s : State) : (imageBooted i s).sec.killSeen = keysKilled i s := by
  obtain ⟨-, sec⟩ := imageConfigured_stored s
  calc (imageBooted i s).sec.killSeen = (keyWake i (imageConfigured s)).sec.killSeen := by simp [imageBooted, epochEnd_marks]
    _ = keysKilled i s := by rw [keyWake_killSeen, keysKilled, sec, keysKilled]

theorem tally_wakeStep (src kind : Nat) (a : Word) (s : State) : (tally src kind a s).top.wakeStep = s.top.wakeStep := by
  obtain ⟨-, -, -, -, top, -⟩ := tally_reports src kind a s
  rw [top]

theorem readyCheck_wakeStep (s : State) : (readyCheck s).top.wakeStep = s.top.wakeStep := by
  unfold readyCheck
  dsimp only
  split
  · rw [tally_wakeStep]
  · rfl

theorem logEv_wakeStep (ty : Nat) (x : BitVec 8) (a : BitVec 16) (b : Word) (s : State) :
    (logEv ty x a b s).top.wakeStep = s.top.wakeStep := by
  obtain ⟨-, -, -, -, top, -⟩ := logEv_reports ty x a b s
  rw [top]

/-- What phase IMAGE leaves (R27, R176, R246, R356, R360). -/
theorem imageLoad_marks (i : ImageIn) {s : State} (hstate : s.top.state = .wake) (hphase : s.top.phase = .image)
    (hstep : s.top.wakeStep = 1) :
    (imageLoad i s).top.wakeStep = 2 ∧
      (imageLoad i s).hive.fwNone = (!fwValid s false i.fwA && !fwValid s true i.fwB) ∧
      (imageLoad i s).sec.killSeen = keysKilled i s ∧ (imageLoad i s).store.cValid = false ∧
      (imageLoad i s).store.test.due = true ∧ (imageLoad i s).nand.valid = false := by
  obtain ⟨cValid, due, valid⟩ := imageConfigured_fresh s
  rw [imageLoad_of_due i hstate hphase hstep]
  refine ⟨by rw [logEv_wakeStep, readyCheck_wakeStep], by simp [imageBooted_fwNone], by simp [imageBooted_killSeen], ?_, ?_, ?_⟩ <;>
    simp [imageBooted, cValid, due, valid]

/-! Phase CATALOG and the decision (R27, R266, R362). -/

/-- Phase CATALOG's scan up to the pending Combs. -/
def catalogRead (hs : List Nat) (s : State) : State := harvReload hs { s with nand := { s.nand with catalog := catScan s } }

/-- The Combs that a WAKE leaves pending: none once a kill has been seen, and none for a part that is not in use. -/
def combsLeft (hs : List Nat) (s : State) : List Nat :=
  if s.sec.killSeen || !s.sec.life.inUse then [] else pendingCombs (catalogRead hs s) hs

theorem catalogScan_of_due (hs : List Nat) {s : State} (hstate : s.top.state = .wake) (hphase : s.top.phase = .catalog)
    (hstep : s.top.wakeStep = 2) :
    ∃ u, u = (if s.sec.killSeen then endAll (catalogRead hs s) else catalogRead hs s) ∧
      catalogScan hs s = { u with
        top := { u.top with wakeStep := 3, combPend := !(combsLeft hs s).isEmpty }
        ret := { u.ret with pending := combsLeft hs s } } := by
  have sec : (catalogRead hs s).sec = s.sec := by simp [catalogRead]
  refine ⟨_, rfl, ?_⟩
  rw [combsLeft, ← sec]
  exact if_pos ⟨hstate, hphase, hstep⟩

theorem wakeDecision_of_due {s : State} (hstate : s.top.state = .wake) (hphase : s.top.phase = .catalog) (hstep : s.top.wakeStep = 3)
    (htime : 140 ≤ s.top.inPhase) :
    wakeDecision s = { s with top := { s.top with wakeStep := 4, trig := { s.top.trig with phaseEnd := true } } } :=
  if_pos ⟨hstate, hphase, hstep, htime⟩

/-- Outside WAKE none of its phases does anything (log entry 1). -/
theorem wakePhases_of_not_wake (i : ImageIn) (hs : List Nat) {s : State} (h : s.top.state ≠ .wake) :
    imageLoad i s = s ∧ catalogScan hs s = s ∧ wakeDecision s = s :=
  ⟨if_neg fun ⟨hw, _⟩ => h hw, if_neg fun ⟨hw, _⟩ => h hw, if_neg fun ⟨hw, _⟩ => h hw⟩

/-- Settles O24: the image's marks, the catalog that END words do not change, and the decision's own condition. -/
theorem wakePhases : Obligations.WakePhases := by
  refine ⟨fun i s hstate hphase hstep => ?_, fun hs s hstate hphase hstep => ?_, fun s hstate hphase hstep htime => ?_,
    fun i hs s h => ?_⟩
  · obtain ⟨wakeStep, fwNone, killSeen, cValid, due, valid⟩ := imageLoad_marks i hstate hphase hstep
    obtain ⟨state, -, -, epoch, pending⟩ := imageLoad_keeps i s
    exact ⟨_, exec_wakeImageLoad i s, wakeStep, state.trans hstate, epoch, fwNone, killSeen, cValid, due, valid, pending⟩
  · obtain ⟨u, hu, hscan⟩ := catalogScan_of_due hs hstate hphase hstep
    have catalog : u.nand.catalog = catScan s := by
      rw [hu]
      split <;> simp [catalogRead]
    have arr : s.sec.killSeen = false → u.arr = s.arr := fun hk => by simp [hu, hk, catalogRead]
    have none : s.sec.life.inUse = false ∨ s.sec.killSeen = true → combsLeft hs s = [] := fun h => by
      rcases h with h | h <;> simp [combsLeft, h]
    obtain ⟨conf, fr, -, -, -, -, -, -, -, tally, -⟩ := catalogScan_blocks hs s
    refine ⟨_, exec_wakeCatalogScan hs s, ?_⟩
    rw [conf, fr, tally, hscan]
    exact ⟨rfl, catalog, rfl, none, arr, rfl, rfl, rfl⟩
  · rw [exec_wakeDecision, wakeDecision_of_due hstate hphase hstep htime]
  · obtain ⟨image, catalog, decision⟩ := wakePhases_of_not_wake i hs h
    rw [exec_wakeImageLoad, exec_wakeCatalogScan, exec_wakeDecision, image, catalog, decision]
    exact ⟨rfl, rfl, rfl⟩

end Sys2Proof.Machine
end

section
/-! PROOFS. OVERLAY_SEL: COMMIT and REVERT of a staged image (02, R38, R41, R306). -/

namespace Sys2Proof.Machine

theorem exec_overlayCommit (be : ByteEn) (s : State) :
    exec (.overlayCommit be) s =
      .next (leave ⟨0xD8, pack [(ovlSel s, 3, 0), (1, 1, 8)], be⟩ (applyOverlaySel (pack [(ovlSel s, 3, 0), (1, 1, 8)]) be) s) := rfl

theorem exec_overlayRevert (be : ByteEn) (s : State) :
    exec (.overlayRevert be) s =
      .next (leave ⟨0xD8, pack [(ovlSel s, 3, 0), (1, 1, 9)], be⟩ (applyOverlaySel (pack [(ovlSel s, 3, 0), (1, 1, 9)]) be) s) := rfl

/-! The words that the two commands write. -/

theorem ovlSel_lt (s : State) : ovlSel s < 8 := Nat.mod_lt _ (by decide)

theorem commitWord_fields : ∀ sel, sel < 8 → fld (pack [(sel, 3, 0), (1, 1, 8)]) 0 3 = sel ∧
    (pack [(sel, 3, 0), (1, 1, 8)]).getLsbD 8 = true ∧ (pack [(sel, 3, 0), (1, 1, 8)]).getLsbD 9 = false := by decide

theorem revertWord_fields : ∀ sel, sel < 8 → fld (pack [(sel, 3, 0), (1, 1, 9)]) 0 3 = sel ∧
    (pack [(sel, 3, 0), (1, 1, 9)]).getLsbD 8 = false ∧ (pack [(sel, 3, 0), (1, 1, 9)]).getLsbD 9 = true := by decide

/-! A write of OVL: the field takes the value, or the write is dropped for a reserved one. -/

/-- OVERLAY_SEL.OVL. -/
def ovlField : FDesc := regF 0xD8 0 3 .live

/-- Low bits that a mask covers are the new ones. -/
theorem fld_mergeBits (old new : Word) : fld (mergeBits old new 7) 0 3 = fld new 0 3 := by
  have low : ∀ x : Word, fld x 0 3 = (x.setWidth 3).toNat := fun x => by simp [fld]
  rw [low, low]
  congr 1
  ext i hi
  have hmask : (7 : Word).getLsbD i = true := by interval_cases i <;> decide
  simp only [mergeBits, BitVec.getElem_setWidth, BitVec.getLsbD_or, BitVec.getLsbD_and, BitVec.getLsbD_not, hmask]
  simp

theorem piecesOf_ovl (data : Word) (s : State) :
    piecesOf s 0 0 (0xD8 / 4) data (beMask allBe) = [(ovlField, fld data 0 3)] := by
  have fields : touched 0 0 (0xD8 / 4) (beMask allBe) = [ovlField] := by decide
  have whole : ∀ old : Word, mergeBits old data (beMask allBe) = data := fun old => by
    have hmask : beMask allBe = BitVec.allOnes 32 := by decide
    rw [mergeBits, hmask, BitVec.not_allOnes, BitVec.and_zero, BitVec.zero_or, BitVec.and_allOnes]
  rw [piecesOf, fields, whole]
  rfl

theorem writeReg_ovl (data : Word) (s : State) :
    writeReg 0xD8 data (beMask allBe) s =
      if fieldTakes s false 0 (ovlField, fld data 0 3) then putField false 0 s (ovlField, fld data 0 3) else reject 0xD8 0 s := by
  simp only [writeReg, piecesOf_ovl, putPieces]
  cases h : fieldTakes s false 0 (ovlField, fld data 0 3) <;> simp [h]

theorem ovlSel_putField (v : Nat) (hv : v < 8) (s : State) : ovlSel (putField false 0 s (ovlField, v)) = v := by
  have word : cr (putField false 0 s (ovlField, v)) 0xD8 = mergeBits (cr s 0xD8) (BitVec.ofNat 32 (v * 2 ^ 0)) 7 :=
    Sparse.get_modify (d := resetWord) s.conf.cur _ (putBits (ovlField, v))
  rw [ovlSel, crf, word, fld_mergeBits, fld, BitVec.toNat_ofNat]
  omega

/-- t holds the images that s holds: the selected one, their words, and their staged copies. -/
def SameImages (s t : State) : Prop :=
  ovlSel t = ovlSel s ∧ t.arr = s.arr ∧ t.conf.staged = s.conf.staged ∧ t.conf.edited = s.conf.edited ∧
    t.conf.commit = s.conf.commit

theorem SameImages.of_blocks {s t : State} (hconf : t.conf = s.conf) (harr : t.arr = s.arr) : SameImages s t := by
  refine ⟨?_, harr, ?_, ?_, ?_⟩
  · rw [ovlSel, crf, cr, cw, hconf, ovlSel, crf, cr, cw]
  all_goals rw [hconf]

theorem SameImages.trans {s t u : State} (h : SameImages s t) (k : SameImages t u) : SameImages s u := by
  obtain ⟨sel, arr, staged, edited, commit⟩ := h
  obtain ⟨sel', arr', staged', edited', commit'⟩ := k
  exact ⟨sel'.trans sel, arr'.trans arr, staged'.trans staged, edited'.trans edited, commit'.trans commit⟩

/-- A write that selects the image selected already changes none of them. -/
theorem writeReg_sameImages {data : Word} {s : State} (h : fld data 0 3 = ovlSel s) :
    SameImages s (writeReg 0xD8 data (beMask allBe) s) := by
  rw [writeReg_ovl, h]
  split
  · exact ⟨ovlSel_putField _ (ovlSel_lt s) s, rfl, rfl, rfl, rfl⟩
  · exact .of_blocks (by simp) (by simp)

theorem allBe_getLsbD_one : allBe.getLsbD 1 = true := by decide

theorem applyOverlaySel_commit {data : Word} (s : State) (h8 : data.getLsbD 8 = true) (h9 : data.getLsbD 9 = false) :
    applyOverlaySel data allBe s = overlayCommit (writeReg 0xD8 data (beMask allBe) s) := by
  simp only [applyOverlaySel, h8, h9, allBe_getLsbD_one, Bool.and_true, Bool.and_false, if_true, if_false, Bool.false_eq_true]

theorem applyOverlaySel_revert {data : Word} (s : State) (h8 : data.getLsbD 8 = false) (h9 : data.getLsbD 9 = true) :
    applyOverlaySel data allBe s =
      stageLoad (ovlSel (writeReg 0xD8 data (beMask allBe) s)) (writeReg 0xD8 data (beMask allBe) s) := by
  simp only [applyOverlaySel, h8, h9, allBe_getLsbD_one, Bool.and_true, Bool.and_false, if_true, if_false, Bool.false_eq_true]

/-! COMMIT. -/

theorem reject_marks (off tid : Nat) (s : State) : (reject off tid s).top.reject = true ∧ (reject off tid s).top.lastRej = off := by
  have interrupt : ∀ t : State, (setInt 14 t).top = t.top := fun t => by simp [setInt]
  unfold reject
  extract_lets _ s1
  obtain ⟨-, -, -, -, top, -⟩ := tally_reports 0x0C 1 (BitVec.ofNat 32 (off + tid * 2 ^ 24)) (setInt 14 s1)
  rw [top, interrupt]
  exact ⟨rfl, rfl⟩

/-- The host has an operation outstanding in the array (R306). -/
def hostOpOut (s : State) : Prop := progOut s .host = true ∨ eraseOut s .host = true ∨ eraseSusp s .host = true

theorem overlayCommit_of_refused {s : State} (h : s.top.state ≠ .service ∨ hostOpOut s) : overlayCommit s = reject 0xD8 0 s :=
  if_pos (by simpa [hostOpOut, or_assoc] using h)

theorem overlayCommit_of_accepted {s : State} (hstate : s.top.state = .service) (hout : ¬ hostOpOut s) :
    overlayCommit s = commitStart s := if_neg (by simpa [hostOpOut, hstate, and_assoc] using hout)

/-- The erases and programs of a commit wait in the array's queue: nothing is stored yet. -/
theorem commitStart_sameStored (s : State) : SameStored s (commitStart s) := by
  have banks : ∀ (o : ArrOp) (f : Nat × DWord → ArrOp) (l : List (Nat × DWord)) (t : State),
      SameStored t (l.foldl (fun s p => submit (f p) s) (submit o t)) := fun o f l t =>
    (submit_sameStored o t).trans (SameStored.foldl _ (fun _ _ => submit_sameStored _ _) l _)
  unfold commitStart
  extract_lets img sec one s1
  have both : SameStored s s1 := (banks _ _ _ s).trans (banks _ _ _ _)
  exact both.trans ⟨rfl, rfl, rfl⟩

theorem commitStart_conf (s : State) :
    (commitStart s).conf.commit = some (ovlSel s) ∧ (commitStart s).conf.staged = s.conf.staged := by
  simp [commitStart, foldl_proj]

/-! REVERT. -/

/-- A list without key k in front of another does not show at k. -/
theorem Sparse.get_append_left {α : Type} (d : Nat → α) {k : Nat} : ∀ {m : List (Nat × α)} (n : List (Nat × α)),
    (∀ q ∈ m, q.1 ≠ k) → Sparse.get d (m ++ n) k = Sparse.get d n k
  | [], _, _ => rfl
  | q :: m, n, h => by
    rw [List.cons_append, Sparse.get, if_neg (h q (by simp)), Sparse.get_append_left d n fun r hr => h r (by simp [hr])]

/-- Nor does one behind it. -/
theorem Sparse.get_append_right {α : Type} (d : Nat → α) {k : Nat} {n : List (Nat × α)} (h : ∀ q ∈ n, q.1 ≠ k) :
    ∀ m : List (Nat × α), Sparse.get d (m ++ n) k = Sparse.get d m k
  | [] => by simpa using Sparse.get_append_left d [] h
  | q :: m => by simp only [List.cons_append, Sparse.get, Sparse.get_append_right d h m]

/-- The words w i for the i of a list, from key b on; a word with the value x of an unlisted one is not listed. -/
def listed (b : Nat) (x : Word) (w : Nat → Word) (is : List Nat) : List (Nat × Word) :=
  is.filterMap fun i => if w i = x then none else some (b + i, w i)

theorem listed_get (b : Nat) (x : Word) (w : Nat → Word) (i : Nat) : ∀ is : List Nat,
    Sparse.get (fun _ => x) (listed b x w is) (b + i) = if i ∈ is then w i else x
  | [] => rfl
  | j :: is => by
    have rest := listed_get b x w i is
    by_cases hji : j = i
    · subst hji
      by_cases hx : w j = x <;> simp_all [listed, Sparse.get]
    · by_cases hx : w j = x <;> simp_all [listed, Sparse.get, Ne.symm hji]

theorem mem_listed {b : Nat} {x : Word} {w : Nat → Word} {is : List Nat} {q : Nat × Word} (h : q ∈ listed b x w is) :
    ∃ i ∈ is, q.1 = b + i := by
  simp only [listed, List.mem_filterMap, Option.ite_none_left_eq_some, Option.some.injEq] at h
  obtain ⟨i, hi, -, rfl⟩ := h
  exact ⟨i, hi, rfl⟩

/-- Word i of the stored image that REVERT takes; an uncorrectable one reads 0 (R300). -/
def storedWord (s : State) (img i : Nat) : Word := (imgWord s img (imgChoose s img).2 i).getD 0

theorem imgLen_le (img : Nat) : imgLen img ≤ 1024 := by
  unfold imgLen
  split <;> omega

theorem stageLoad_staged (img : Nat) (s : State) :
    (stageLoad img s).conf.staged = (s.conf.staged.filter fun p => decide (p.1 < img * 1024)) ++
      listed (img * 1024) 0xFFFFFFFF (storedWord s img) (List.range (imgLen img)) ++
      s.conf.staged.filter fun p => decide ((img + 1) * 1024 ≤ p.1) := rfl

/-- The staged copy reads as the stored image. -/
theorem stageLoad_stagedWord {img i : Nat} (s : State) (hi : i < imgLen img) :
    stagedWord (stageLoad img s) img i = storedWord s img i := by
  have hlen := imgLen_le img
  rw [stagedWord, stageLoad_staged, Sparse.get_append_right, Sparse.get_append_left, listed_get, if_pos (List.mem_range.2 hi)]
  · intro q hq
    have := of_decide_eq_true (List.mem_filter.1 hq).2
    omega
  · intro q hq
    have := of_decide_eq_true (List.mem_filter.1 hq).2
    omega

/-- The staged copies of the other images stay. -/
theorem stageLoad_stagedWord_ne {img k j : Nat} (s : State) (hk : k ≠ img) (hj : j < 1024) :
    stagedWord (stageLoad img s) k j = stagedWord s k j := by
  have hlen := imgLen_le img
  have loaded : ∀ q ∈ listed (img * 1024) 0xFFFFFFFF (storedWord s img) (List.range (imgLen img)), q.1 ≠ k * 1024 + j := by
    intro q hq
    obtain ⟨i, hi, hkey⟩ := mem_listed hq
    have := List.mem_range.1 hi
    omega
  have below := Sparse.get_filter_key (fun _ => (0xFFFFFFFF : Word)) (fun v => decide (v < img * 1024)) (k * 1024 + j) s.conf.staged
  have above := Sparse.get_filter_key (fun _ => (0xFFFFFFFF : Word)) (fun v => decide ((img + 1) * 1024 ≤ v)) (k * 1024 + j)
    s.conf.staged
  rw [stagedWord, stageLoad_staged, stagedWord]
  rcases Nat.lt_or_gt_of_ne hk with hlt | hgt
  · rw [Sparse.get_append_right, Sparse.get_append_right _ loaded, below, if_pos (decide_eq_true (by omega))]
    intro q hq
    have := of_decide_eq_true (List.mem_filter.1 hq).2
    omega
  · rw [List.append_assoc, Sparse.get_append_left, Sparse.get_append_left _ _ loaded, above, if_pos (decide_eq_true (by omega))]
    intro q hq
    have := of_decide_eq_true (List.mem_filter.1 hq).2
    omega

theorem stageLoad_edited (img : Nat) (s : State) : img ∉ (stageLoad img s).conf.edited := by
  simp [stageLoad]

/-! Which stored copy is chosen depends on the array, and through the number of OVERLAY's indexes on the image selected. -/

theorem imgWord_congr {s t : State} (h : t.arr = s.arr) (img : Nat) (bankB : Bool) : imgWord t img bankB = imgWord s img bankB := by
  funext i
  rw [imgWord, peekWord, arrWord, h]
  rfl

theorem tblCount_congr {s t : State} (h : ovlSel t = ovlSel s) (tid : Nat) : tblCount t tid = tblCount s tid := by
  unfold tblCount
  rw [show crf t 0xD8 0 3 = crf s 0xD8 0 3 from h]

theorem imgChoose_congr {s t : State} (harr : t.arr = s.arr) (hsel : ovlSel t = ovlSel s) (img : Nat) :
    imgChoose t img = imgChoose s img := by
  have ok : recOk t img = recOk s img := by
    funext r
    simp only [recOk, tblCount_congr hsel]
  have words : ∀ (bankB : Bool) (n : Nat), imgWords t img bankB n = imgWords s img bankB n := fun bankB n => by
    simp only [imgWords, imgWord_congr harr]
  have read : ∀ bankB : Bool, imgRead t img bankB = imgRead s img bankB := fun bankB => by
    simp only [imgRead, words, ok]
  simp only [imgChoose, read]

theorem storedWord_congr {s t : State} (h : SameImages s t) (img i : Nat) : storedWord t img i = storedWord s img i := by
  obtain ⟨hsel, harr, -⟩ := h
  rw [storedWord, imgChoose_congr harr hsel, imgWord_congr harr, storedWord]

/-! The two commands. -/

theorem SameImages.popped (s : State) : SameImages s (popped s) := .of_blocks (by simp) (by simp)

theorem hostOpOut_congr {s t : State} (h : t.arr = s.arr) : hostOpOut t ↔ hostOpOut s := by
  simp only [hostOpOut, progOut, eraseOut, eraseSusp, portOf, h]

/-- What a COMMIT does to the machine that its write has left. -/
theorem overlayCommit_applied {s u : State} (h : SameImages s u) (hstate : u.top.state = s.top.state) :
    (overlayCommit u).arr.mem = s.arr.mem ∧ (overlayCommit u).conf.staged = s.conf.staged ∧
      (s.top.state = .service → ¬ hostOpOut s → (overlayCommit u).conf.commit = some (ovlSel s)) ∧
      (s.top.state ≠ .service ∨ hostOpOut s → (overlayCommit u).top.reject = true ∧ (overlayCommit u).top.lastRej = 0xD8 ∧
        (overlayCommit u).arr = s.arr ∧ (overlayCommit u).conf.commit = s.conf.commit) := by
  obtain ⟨hsel, harr, hstaged, -, hcommit⟩ := h
  rw [← hstate, ← hostOpOut_congr harr]
  by_cases refused : u.top.state ≠ .service ∨ hostOpOut u
  · obtain ⟨marked, lastRej⟩ := reject_marks 0xD8 0 u
    have dropped : (reject 0xD8 0 u).conf = u.conf ∧ (reject 0xD8 0 u).arr = u.arr := by simp
    obtain ⟨conf, arr⟩ := dropped
    rw [overlayCommit_of_refused refused, conf, arr, harr]
    refine ⟨rfl, hstaged, fun hs ho => absurd refused ?_, fun _ => ⟨marked, lastRej, rfl, hcommit⟩⟩
    simp [hs, ho]
  · obtain ⟨hservice, hout⟩ := not_or.1 refused
    obtain ⟨mem, -, -⟩ := commitStart_sameStored u
    obtain ⟨commit, staged⟩ := commitStart_conf u
    rw [overlayCommit_of_accepted (not_not.1 hservice) hout, mem, commit, staged, harr, hsel]
    exact ⟨rfl, hstaged, fun _ _ => rfl, fun h => absurd h refused⟩

/-- What a REVERT does to it. -/
theorem stageLoad_applied {s u : State} (h : SameImages s u) : let img := ovlSel s
    (∀ i, i < imgLen img → stagedWord (stageLoad img u) img i = storedWord s img i) ∧
      ∀ k j, k ≠ img → j < 1024 → stagedWord (stageLoad img u) k j = stagedWord s k j := by
  intro img
  refine ⟨fun i hi => ?_, fun k j hk hj => ?_⟩
  · rw [stageLoad_stagedWord u hi, storedWord_congr h]
  · obtain ⟨-, -, hstaged, -⟩ := h
    rw [stageLoad_stagedWord_ne u hk hj, stagedWord, hstaged, stagedWord]

/-- Settles O50: the write selects the image selected already; COMMIT then queues its operations or is dropped, REVERT loads that
image's staged copy alone. -/
theorem overlayImages : Obligations.OverlayImages := by
  have written : ∀ {data : Word} {s : State}, fld data 0 3 = ovlSel s →
      SameImages s (writeReg 0xD8 data (beMask allBe) (popped s)) := fun {data s} sel =>
    (SameImages.popped s).trans (writeReg_sameImages (sel.trans (SameImages.popped s).1.symm))
  refine ⟨fun s hr ho => ?_, fun s hr ho _ => ?_⟩
  · obtain ⟨sel, h8, h9⟩ := commitWord_fields (ovlSel s) (ovlSel_lt s)
    obtain ⟨mem, staged, accepted, refused⟩ := overlayCommit_applied (written sel) (by simp)
    refine ⟨_, exec_overlayCommit allBe s, ?_⟩
    rw [leave_reaches _ _ s hr ho, applyOverlaySel_commit _ h8 h9]
    exact ⟨mem, staged, by simp, fun hs hp he hz => accepted hs (by simp [hostOpOut, hp, he, hz]), refused⟩
  · obtain ⟨sel, h8, h9⟩ := revertWord_fields (ovlSel s) (ovlSel_lt s)
    have same := written sel
    obtain ⟨loaded, others⟩ := stageLoad_applied same
    refine ⟨_, exec_overlayRevert allBe s, ?_⟩
    rw [leave_reaches _ _ s hr ho, applyOverlaySel_revert _ h8 h9, same.1]
    exact ⟨by simp, loaded, stageLoad_edited _ _, others, by simp⟩

end Sys2Proof.Machine
end

section
/-! PROOFS. The frame generator and EPOCH under every command: when frames run, and what a boundary and a restart add (03, R46, R48,
R49). -/

namespace Sys2Proof.Machine

/-- The commands that can move the state are the boundary, the resets with their releases, HOLD_SAMPLE and WAKE_QUALIFIED. -/
theorem movesState_cases {c : Instr} (h : movesState c = true) :
    (∃ f, c = .frameBoundary f) ∨ (∃ x, c = .holdSample x) ∨ (∃ w, c = .wakeQualified w) ∨ c = .aonPor ∨
      c = .aonPorRelease ∨ c = .coreBor ∨ ∃ w, c = .coreBorRelease w := by
  unfold movesState at h
  split at h
  case h_8 => cases h
  all_goals simp

theorem exec_frameBoundary (f : FrameIn) (s : State) : exec (.frameBoundary f) s = .next (frameBoundary f s) := rfl
theorem exec_holdSample (x : SlowSample) (s : State) : exec (.holdSample x) s = .next (holdSample x s) := rfl
theorem exec_wakeQualified (w : WakeIn) (s : State) : exec (.wakeQualified w) s = .next (wakeQualified w s) := rfl

/-! Frames run exactly while the islands are powered (R46). -/

theorem framesRun_iff {s : State} : framesRun s = true ↔ s.fr.running = powered s := beq_iff_eq

theorem runs_of_powered {s : State} (h : powered s = true) : s.top.state.runs = true ∧ s.top.coreBor = false := by
  simpa [powered] using h

theorem Stays.framesRun {s t : State} (h : Stays s t) (hs : framesRun s = true) : framesRun t = true := by
  obtain ⟨state, coreBor, running, -, -⟩ := h
  rw [framesRun_iff, powered] at *
  rw [running, state, coreBor, hs]

/-- A boundary that finds frames running leaves them running exactly if its target's islands are powered. -/
theorem frameBoundary_framesRun (f : FrameIn) {s : State} (hs : framesRun s = true) : framesRun (frameBoundary f s) = true := by
  cases hp : powered s with
  | false => rwa [frameBoundary_off f s hp]
  | true =>
    obtain ⟨-, -, coreBor, running⟩ := frameBoundary_moves f s hp
    have hrunning : s.fr.running = true := (framesRun_iff.mp hs).trans hp
    rw [framesRun_iff, running hrunning, powered, coreBor, (runs_of_powered hp).2, Bool.not_false, Bool.and_true]

/-- HOLD and DORMANT are alike to the generator. -/
theorem holdSample_framesRun (x : SlowSample) {s : State} (hs : framesRun s = true) : framesRun (holdSample x s) = true := by
  obtain ⟨coreBor, running, -, -, runs⟩ := holdSample_moved x s
  rw [framesRun_iff, powered] at *
  rw [running, runs, coreBor, hs]

theorem wakeQualified_framesRun (w : WakeIn) {s : State} (hs : framesRun s = true) : framesRun (wakeQualified w s) = true := by
  rcases wakeQualified_moved w s with h | ⟨state, -, coreBor, running, -, -⟩
  · rwa [h]
  · rw [framesRun_iff, powered, running, state, coreBor]; rfl

theorem aonPor_framesRun (s : State) : framesRun (aonPor s) = true := by
  obtain ⟨state, coreBor, running, -, -⟩ := aonPor_moved s
  rw [framesRun_iff, powered, running, state, coreBor]; rfl

theorem aonPorRelease_framesRun {s : State} (hs : framesRun s = true) : framesRun (aonPorRelease s) = true := by
  rcases aonPorRelease_moved s with h | ⟨-, state, -, running, -, -⟩
  · rwa [h]
  · rw [framesRun_iff, powered, running, state]; rfl

/-- A Core BOR stops a generator that runs; in DORMANT and HOLD it stood already. -/
theorem coreBor_framesRun {s : State} (hs : framesRun s = true) : framesRun (coreBor s) = true := by
  rcases coreBor_moved s with h | ⟨-, -, coreBor, running, -, -⟩
  · rwa [h]
  · rw [framesRun_iff, powered, coreBor, Bool.not_true, Bool.and_false, running]
    split
    · rfl
    · next hruns => rw [framesRun_iff.mp hs, powered, Bool.eq_false_of_not_eq_true hruns, Bool.false_and]

/-- While a Core BOR is asserted no frame runs, so its release to DORMANT finds the generator standing. -/
theorem coreBorRelease_framesRun (w : WakeIn) {s : State} (hs : framesRun s = true) : framesRun (coreBorRelease w s) = true := by
  rcases coreBorRelease_moved w s with h | ⟨asserted, coreBor, -, ⟨state, running, -⟩ | ⟨state, running, -⟩⟩
  · rwa [h]
  · rw [framesRun_iff, powered, running, state, coreBor]; rfl
  · rw [framesRun_iff, powered, running, state, framesRun_iff.mp hs, powered, asserted, Bool.not_true, Bool.and_false]; rfl

/-- Every command keeps the generator with the powered states. -/
theorem exec_framesRun {c : Instr} {s t : State} (hs : framesRun s = true) (h : exec c s = .next t) : framesRun t = true := by
  cases hc : movesState c with
  | false => exact (exec_stays c s t hc h).framesRun hs
  | true =>
    rcases movesState_cases hc with ⟨f, rfl⟩ | ⟨x, rfl⟩ | ⟨w, rfl⟩ | rfl | rfl | rfl | ⟨w, rfl⟩ <;> cases h
    · exact frameBoundary_framesRun f hs
    · exact holdSample_framesRun x hs
    · exact wakeQualified_framesRun w hs
    · exact aonPor_framesRun s
    · exact aonPorRelease_framesRun hs
    · exact coreBor_framesRun hs
    · exact coreBorRelease_framesRun w hs

/-- Settles O5: a step is a command on the state with the rest of the queue, which the invariant does not read. -/
theorem stepKeepsFramesRun : Obligations.StepKeepsFramesRun := by
  intro s t hs h
  unfold step at h
  split at h
  · cases h; exact hs
  · next cs _ => exact exec_framesRun (s := { s with pending := cs }) hs h

/-! EPOCH (R48, R49). -/

/-- EPOCH at a restart: one more for the frame that begins, and the frames of the stopped time on the RTC tick counter (R49). -/
def restartEpoch (s : State) : BitVec 48 :=
  s.fr.epoch + BitVec.ofNat 48 (1 + ((s.scout.freeTicks - s.fr.stopTick) * 250000 + s.fr.rem) / 32768)

theorem startFrames_epoch (s : State) : (startFrames s).fr.epoch = restartEpoch s := rfl

/-- A boundary counts one where it begins a frame; where it ends frames, the restart counts for it (log entry 20). -/
theorem frameBoundary_epoch (f : FrameIn) (s : State) :
    (frameBoundary f s).fr.epoch =
      if powered s = true ∧ (frameBoundary f s).top.state.runs = true then s.fr.epoch + 1 else s.fr.epoch := by
  cases hp : powered s with
  | false => simp [frameBoundary_off f s hp]
  | true => simpa using (frameBoundary_moves f s hp).1

/-- Only DORMANT and HOLD, where frames stand, qualify a wake. -/
theorem wakeQualified_of_wake (w : WakeIn) {s : State} (h : s.top.state = .wake) : wakeQualified w s = s := by
  simp [wakeQualified, h]

theorem wakeQualified_epoch (w : WakeIn) (s : State) :
    (wakeQualified w s).fr.epoch =
      if s.top.state ≠ .wake ∧ (wakeQualified w s).top.state = .wake then restartEpoch s else s.fr.epoch := by
  by_cases hs : s.top.state = .wake
  · simp [wakeQualified_of_wake w hs, hs]
  · rcases wakeQualified_moved w s with h | ⟨state, -, -, -, epoch, -⟩
    · simp [h, hs]
    · rw [epoch, startFrames_epoch, if_pos ⟨hs, state⟩]

theorem coreBorRelease_epoch (w : WakeIn) (s : State) :
    (coreBorRelease w s).fr.epoch =
      if s.top.coreBor = true ∧ (coreBorRelease w s).top.state = .wake then restartEpoch s else s.fr.epoch := by
  cases hbor : s.top.coreBor with
  | false => simp [coreBorRelease, hbor]
  | true =>
    rcases coreBorRelease_moved w s with h | ⟨-, -, -, ⟨state, -, epoch⟩ | ⟨state, -, epoch⟩⟩
    · have released : (coreBorRelease w s).top.coreBor = false := by
        simp [coreBorRelease, hbor]
      rw [h, hbor] at released
      cases released
    · rw [epoch, startFrames_epoch, if_pos ⟨rfl, state⟩]
    · rw [epoch, if_neg (by simp [state])]

/-- Every command but AON POR, the boundary and the two restarts leaves EPOCH alone. -/
theorem exec_epoch {c : Instr} {s t : State} (h : exec c s = .next t) (hpor : c ≠ .aonPor) (hframe : ∀ f, c ≠ .frameBoundary f)
    (hwake : ∀ w, c ≠ .wakeQualified w) (hrelease : ∀ w, c ≠ .coreBorRelease w) : t.fr.epoch = s.fr.epoch := by
  cases hc : movesState c with
  | false =>
    obtain ⟨-, -, -, epoch, -⟩ := exec_stays c s t hc h
    exact epoch
  | true =>
    rcases movesState_cases hc with ⟨f, rfl⟩ | ⟨x, rfl⟩ | ⟨w, rfl⟩ | rfl | rfl | rfl | ⟨w, rfl⟩
    · exact absurd rfl (hframe f)
    · cases h
      obtain ⟨-, -, epoch, -, -⟩ := holdSample_moved x s
      exact epoch
    · exact absurd rfl (hwake w)
    · exact absurd rfl hpor
    · cases h
      rcases aonPorRelease_moved s with h | ⟨-, -, -, -, epoch, -⟩
      · rw [h]
      · exact epoch
    · cases h
      rcases coreBor_moved s with h | ⟨-, -, -, -, epoch, -⟩
      · rw [h]
      · exact epoch
    · exact absurd rfl (hrelease w)

/-- Settles O6: the four commands of its table, and all others together. -/
theorem epochUnderEveryCommand : Obligations.EpochUnderEveryCommand := by
  intro c s t h
  dsimp only
  split
  · cases h
    obtain ⟨-, -, -, epoch, -⟩ := aonPor_moved s
    exact epoch
  · next f => cases h; exact frameBoundary_epoch f s
  · next w => cases h; exact wakeQualified_epoch w s
  · next w => cases h; exact coreBorRelease_epoch w s
  · next hpor hframe hwake hrelease => exact exec_epoch h hpor hframe hwake hrelease

/-- Settles O8: a boundary always answers a next state, and what that state keeps is FRAME_BOUNDARY's law. -/
theorem frameBoundaryCompletes : Obligations.FrameBoundaryCompletes := by
  refine ⟨fun f s hp => by rw [exec_frameBoundary, frameBoundary_off f s hp], fun f s hp => ?_⟩
  obtain ⟨epoch, pending, coreBor, -⟩ := frameBoundary_moves f s hp
  exact ⟨_, exec_frameBoundary f s, fun hruns => by rw [epoch, if_pos hruns], coreBor, pending⟩

end Sys2Proof.Machine
end

section
/-! PROOFS. The reference's loss and the sag throttle: what a report leaves alone, and what a droop and a release do to D, the ledger
and the held conditions (03, R52, R57, R64 to R66). -/

namespace Sys2Proof.Machine

/-- A Tally message is a report: of the block's own state it keeps what an observer of the block asks for. -/
theorem tally_onlyReports (src kind : Nat) (addr : Word) (s : State) : onlyReports s (tally src kind addr s) := by
  simp [onlyReports]

/-! The reference's loss. -/

theorem exec_refLoss (s : State) : exec .refLoss s = .next (refLossNow s) := rfl

theorem refLossNow_of_lost {s : State} (h : powered s = false ∨ s.fr.refLoss = true) : refLossNow s = s :=
  if_neg (by rcases h with h | h <;> simp [h])

/-- The state that the message of the loss finds. -/
def refLost (s : State) : State :=
  { s with fr := { s.fr with refLoss := true, refLossCnt := satInc 255 s.fr.refLossCnt } }

theorem refLossNow_of_first {s : State} (hp : powered s = true) (h : s.fr.refLoss = false) :
    refLossNow s = tally 0x09 1 0 (refLost s) := if_pos (by simp [hp, h])

/-- Settles O14: the flag and its count are set before the message, and the message is a report of source 0x09. -/
theorem referenceLoss : Obligations.ReferenceLoss := by
  refine ⟨fun s hp h => ⟨_, exec_refLoss s, ?_⟩, fun s h => by rw [exec_refLoss, refLossNow_of_lost h]⟩
  rw [refLossNow_of_first hp h]
  obtain ⟨fr, -⟩ := tally_reports 0x09 1 0 (refLost s)
  obtain ⟨record, -⟩ := tally_src 0x09 1 0 (refLost s) hp (by decide)
  have others : onlyReports s (tally 0x09 1 0 (refLost s)) := tally_onlyReports 0x09 1 0 (refLost s)
  rw [fr, record]
  exact ⟨rfl, rfl, rfl, rfl, others⟩

/-! A droop (R57, R64, R66). -/

theorem exec_vddCoreDroop (level tick : Nat) (s : State) : exec (.vddCoreDroop level tick) s = .next (vddDroop level tick s) := rfl

theorem spend_acctOf (res n : Nat) (s : State) :
    acctOf (spend res n s) res = { acctOf s res with usedNow := (acctOf s res).usedNow + n } := modAcct_acctOf res _ s

theorem spend_acctOf_ne {r res : Nat} (n : Nat) (s : State) (h : r ≠ res) : acctOf (spend res n s) r = acctOf s r :=
  modAcct_acctOf_ne _ s h

/-- A longer run of one resource charges no other resource. -/
theorem stretch_acctOf_ne {r res : Nat} (tick d0 d1 : Nat) (s : State) (h : r ≠ res) :
    acctOf (stretch res tick d0 d1 s) r = acctOf s r := spend_acctOf_ne _ s h

/-- A longer run never gives ticks back. -/
theorem stretch_usedNow_le (res tick d0 d1 : Nat) (s : State) (r : Nat) :
    (acctOf s r).usedNow ≤ (acctOf (stretch res tick d0 d1 s) r).usedNow := by
  by_cases h : r = res
  · subst h
    rw [stretch, spend_acctOf]
    exact Nat.le_add_right _ _
  · rw [stretch_acctOf_ne tick d0 d1 s h]

/-- The ledger as a rise of D to its rule's value leaves it: both Hive resources run longer. -/
def hiveStretched (tick : Nat) (s : State) : State :=
  stretch 10 tick s.fr.div (divRule s) (stretch 9 tick s.fr.div (divRule s) s)

theorem riseNow_of_rise (tick : Nat) {s : State} (h : s.fr.div < divRule s) :
    riseNow tick s = { hiveStretched tick s with fr := { (hiveStretched tick s).fr with div := divRule s } } := if_pos h

theorem riseNow_of_le (tick : Nat) {s : State} (h : divRule s ≤ s.fr.div) : riseNow tick s = s := if_neg (Nat.not_lt.mpr h)

/-- D takes its rule's value where that is a rise, and the supply's level stays. -/
theorem riseNow_fr (tick : Nat) (s : State) :
    (riseNow tick s).fr.div = max s.fr.div (divRule s) ∧ (riseNow tick s).fr.vdd = s.fr.vdd := by
  rcases Nat.lt_or_ge s.fr.div (divRule s) with h | h
  · rw [riseNow_of_rise tick h]
    exact ⟨(Nat.max_eq_right (Nat.le_of_lt h)).symm, rfl⟩
  · rw [riseNow_of_le tick h]
    exact ⟨(Nat.max_eq_left h).symm, rfl⟩

theorem riseNow_acctOf_ne {r : Nat} (tick : Nat) (s : State) (h9 : r ≠ 9) (h10 : r ≠ 10) :
    acctOf (riseNow tick s) r = acctOf s r := by
  rcases Nat.lt_or_ge s.fr.div (divRule s) with h | h
  · calc acctOf (riseNow tick s) r = acctOf (hiveStretched tick s) r := by rw [riseNow_of_rise tick h]; rfl
      _ = acctOf (stretch 9 tick s.fr.div (divRule s) s) r := stretch_acctOf_ne tick _ _ _ h10
      _ = acctOf s r := stretch_acctOf_ne tick _ _ s h9
  · rw [riseNow_of_le tick h]

theorem riseNow_usedNow_le (tick : Nat) (s : State) (r : Nat) : (acctOf s r).usedNow ≤ (acctOf (riseNow tick s) r).usedNow := by
  rcases Nat.lt_or_ge s.fr.div (divRule s) with h | h
  · calc (acctOf s r).usedNow ≤ (acctOf (stretch 9 tick s.fr.div (divRule s) s) r).usedNow := stretch_usedNow_le 9 tick _ _ s r
      _ ≤ (acctOf (hiveStretched tick s) r).usedNow := stretch_usedNow_le 10 tick _ _ _ r
      _ = (acctOf (riseNow tick s) r).usedNow := by rw [riseNow_of_rise tick h]; rfl
  · rw [riseNow_of_le tick h]

/-- An override episode is counted and told; D, the supply's level and the ledger stay (R67). -/
theorem overrideEpisode_fr (s : State) :
    (overrideEpisode s).fr.div = s.fr.div ∧ (overrideEpisode s).fr.vdd = s.fr.vdd ∧ (overrideEpisode s).fr.acct = s.fr.acct := by
  unfold overrideEpisode
  split
  · split
    · exact ⟨rfl, rfl, rfl⟩
    · obtain ⟨fr, -⟩ := tally_reports 0x0A 1 _ { s with fr := { s.fr with
        polOvr := true, ovrCount := satInc 0xFFFF s.fr.ovrCount, inEpisode := true } }
      rw [fr]
      exact ⟨rfl, rfl, rfl⟩
  · exact ⟨rfl, rfl, rfl⟩

theorem overrideEpisode_acctOf (s : State) (r : Nat) : acctOf (overrideEpisode s) r = acctOf s r := by
  obtain ⟨-, -, acct⟩ := overrideEpisode_fr s
  rw [acctOf, acct, acctOf]

/-- The state in which the rule of D is read: the supply's fall is known, and every condition present is held. -/
def drooped (level : Nat) (s : State) : State := holdConds { s with fr := { s.fr with vdd := max s.fr.vdd level } }

theorem vddDroop_of_powered (level tick : Nat) {s : State} (hp : powered s = true) :
    vddDroop level tick s = overrideEpisode (riseNow tick (drooped level s)) := if_pos hp

theorem vddDroop_of_unpowered (level tick : Nat) {s : State} (hp : powered s = false) : vddDroop level tick s = s :=
  if_neg (by simp [hp])

theorem drooped_acctOf (level : Nat) (s : State) (r : Nat) : acctOf (drooped level s) r = acctOf s r := rfl

theorem vddDroop_onlyReports (level tick : Nat) (s : State) : onlyReports s (vddDroop level tick s) := by
  simp [onlyReports]

/-! The release of a held condition (R66). -/

theorem exec_throttleRelease (s : State) : exec .throttleRelease s = .next (throttleRelease s) := rfl

/-- A held condition after THROTTLE_RELEASE: one in its 256th frame of absence is marked. -/
def releaseMark (s : State) (p : Nat × Nat) : Nat × Nat :=
  if p.2 = 256 && !(condsNow s).contains p.1 then (p.1, releasedMark) else p

theorem throttleRelease_held (s : State) : (throttleRelease s).fr.held = s.fr.held.map (releaseMark s) := rfl

theorem releaseMark_of_absent {s : State} {i : Nat} (h : i ∉ condsNow s) : releaseMark s (i, 256) = (i, releasedMark) := by
  simp [releaseMark, h]

theorem releaseMark_of_waiting {s : State} {p : Nat × Nat} (h : p.2 ≠ 256 ∨ p.1 ∈ condsNow s) : releaseMark s p = p := by
  rcases h with h | h <;> simp [releaseMark, h]

/-- The mark leaves the condition on the list: it stays in force until the boundary. -/
theorem releaseMark_fst (s : State) (p : Nat × Nat) : (releaseMark s p).1 = p.1 := by
  unfold releaseMark
  split <;> rfl

theorem throttleRelease_heldConds (s : State) : heldConds (throttleRelease s) = heldConds s := by
  rw [heldConds, throttleRelease_held, List.map_map, heldConds]
  exact List.map_congr_left fun p _ => releaseMark_fst s p

theorem throttleRelease_of_none {s : State} (h : ∀ p, p ∈ s.fr.held → p.2 ≠ 256 ∨ p.1 ∈ condsNow s) :
    throttleRelease s = s := by
  have same : s.fr.held.map (releaseMark s) = s.fr.held :=
    (List.map_congr_left fun p hp => releaseMark_of_waiting (h p hp)).trans (List.map_id s.fr.held)
  calc throttleRelease s = { s with fr := { s.fr with held := s.fr.held.map (releaseMark s) } } := rfl
    _ = s := by rw [same]

/-- Settles O15: a droop is the hold, the rise and the episode in turn; a release marks each condition by itself. -/
theorem sagThrottle : Obligations.SagThrottle := by
  refine ⟨fun level tick s hp => ⟨_, exec_vddCoreDroop level tick s, ?_⟩, fun level tick s hp => ?_, fun s => ?_, fun s h => ?_⟩
  · have others := vddDroop_onlyReports level tick s
    rw [vddDroop_of_powered level tick hp] at *
    obtain ⟨div, vdd, -⟩ := overrideEpisode_fr (riseNow tick (drooped level s))
    obtain ⟨rise, level'⟩ := riseNow_fr tick (drooped level s)
    refine ⟨vdd.trans level', div.trans rise, fun r h9 h10 => ?_, fun r => ?_, others⟩
    · rw [overrideEpisode_acctOf, riseNow_acctOf_ne tick _ h9 h10, drooped_acctOf]
    · rw [overrideEpisode_acctOf]
      exact riseNow_usedNow_le tick (drooped level s) r
  · rw [exec_vddCoreDroop, vddDroop_of_unpowered level tick hp]
  · refine ⟨_, exec_throttleRelease s, rfl, fun i hheld habsent => ?_, fun p hheld hwaits => ?_, throttleRelease_heldConds s⟩
    · exact List.mem_map.mpr ⟨(i, 256), hheld, releaseMark_of_absent habsent⟩
    · exact List.mem_map.mpr ⟨p, hheld, releaseMark_of_waiting hwaits⟩
  · rw [exec_throttleRelease, throttleRelease_of_none h]

end Sys2Proof.Machine
end

section
/-! PROOFS. The wake qualifier's ends and the ship comparator (07, R49, R154, R155, R400). -/

namespace Sys2Proof.Machine

/-! What WAKE samples and clears at its start (R27, R53, R105). -/

/-- WAKE's first frame, but for the crystal: what it samples and what it clears. -/
theorem wakeEntry_of_crystal_samples (cause : Nat) (w : WakeIn) (s : State) : ∃ u,
    wakeEntry cause w s = (if w.xtalOk then u else refLossNow u) ∧ u.fr.wakeEpoch = s.fr.epoch ∧ u.host.io33 = w.io33 ∧
      u.weave.myId = w.wvId.toNat ∧ u.ring = {} ∧ u.adm = {} ∧ u.sec.level = 0 ∧ u.tally.exits = s.tally.exits := by
  refine ⟨_, rfl, ?_, rfl, rfl, rfl, rfl, ?_, ?_⟩ <;> simp [setState, closeLevel]

/-- The reference's loss is no sample of a wake, and it counts no exit. -/
theorem refLossNow_keepsSamples (s : State) :
    (refLossNow s).fr.wakeEpoch = s.fr.wakeEpoch ∧ (refLossNow s).host.io33 = s.host.io33 ∧
      (refLossNow s).weave.myId = s.weave.myId ∧ (refLossNow s).tally.exits = s.tally.exits := by
  by_cases h : powered s = false ∨ s.fr.refLoss = true
  · rw [refLossNow_of_lost h]
    exact ⟨rfl, rfl, rfl, rfl⟩
  · obtain ⟨hp, hfirst⟩ := not_or.mp h
    rw [refLossNow_of_first (Bool.eq_true_of_not_eq_false hp) (Bool.eq_false_of_not_eq_true hfirst)]
    obtain ⟨fr, host, -, -, -, weave, exits, -⟩ := tally_reports 0x09 1 0 (refLost s)
    rw [fr, host, weave]
    exact ⟨rfl, rfl, rfl, exits⟩

/-- WAKE samples its identity and the interface's level, notes its EPOCH, and clears what no outage carries over. A crystal that
did not start is reported at once, which may write to a ring. -/
theorem wakeEntry_samples (cause : Nat) (w : WakeIn) (s : State) :
    (wakeEntry cause w s).fr.wakeEpoch = s.fr.epoch ∧ (wakeEntry cause w s).host.io33 = w.io33 ∧
      (wakeEntry cause w s).weave.myId = w.wvId.toNat ∧ (w.xtalOk = true → (wakeEntry cause w s).ring = {}) ∧
      (wakeEntry cause w s).adm = {} ∧ (wakeEntry cause w s).sec.level = 0 ∧
      (wakeEntry cause w s).tally.exits = s.tally.exits := by
  obtain ⟨u, hu, wakeEpoch, io33, myId, ring, adm, level, exits⟩ := wakeEntry_of_crystal_samples cause w s
  rw [hu]
  cases w.xtalOk with
  | true => exact ⟨wakeEpoch, io33, myId, fun _ => ring, adm, level, exits⟩
  | false =>
    obtain ⟨wakeEpoch', io33', myId', exits'⟩ := refLossNow_keepsSamples u
    refine ⟨wakeEpoch'.trans wakeEpoch, io33'.trans io33, myId'.trans myId, fun h => Bool.noConfusion h, ?_, ?_, exits'.trans exits⟩
    · simpa using adm
    · simpa using level

/-! WAKE_QUALIFIED (R49, R154). -/

/-- A done qualification that neither TAMPER nor, in HOLD, WET blocks enters WAKE with frames running and PWR_EN high. -/
theorem wakeQualified_of_done (w : WakeIn) {s : State} (hstate : s.top.state = .dormant ∨ s.top.state = .hold)
    (hbor : s.top.coreBor = false) (hdone : s.scout.qualDone = true) (htamper : s.scout.tamperQ = false)
    (hwet : ¬(s.top.state = .hold ∧ s.scout.wetQ = true)) :
    ∃ u, wakeQualified w s = wakeEntry (qualCause s) w u ∧ u.top.coreBor = false ∧ u.fr.running = true ∧ u.scout.pwrEn = true ∧
      u.arr = s.arr ∧ u.tally = s.tally ∧ u.pending = s.pending := by
  have qualified : ((s.top.state = .dormant || s.top.state = .hold) && !s.top.coreBor && s.scout.qualDone && !s.scout.tamperQ &&
      !(s.top.state = .hold && s.scout.wetQ)) = true := by
    simpa [hbor, hdone, htamper] using And.intro hstate (not_and_or.mp hwet)
  exact ⟨_, if_pos qualified, hbor, rfl, rfl, rfl, rfl, rfl⟩

/-! WAKE_QUALIFIER_ABANDON (R154). -/

theorem exec_wakeQualifierAbandon (s : State) : exec .wakeQualifierAbandon s = .next (qualAbandon s) := rfl

theorem qualAbandon_of_spent {s : State} (hstate : s.top.state = .dormant ∨ s.top.state = .hold) (hraised : s.scout.raised = true)
    (hdone : s.scout.qualDone = false) (hspent : 65536 ≤ s.scout.raisedCnt) :
    qualAbandon s = { s with scout := { s.scout with raised := false, raisedCnt := 0, xtal := false, pwrEn := false } } :=
  if_pos (by simp [hstate, hraised, hdone, hspent])

/-! SHIP_COMPARATOR_FIRE (R155). -/

theorem exec_shipComparatorFire (vin : Int) (s : State) : exec (.shipComparatorFire vin) s = .next (shipFire vin s) := rfl

/-- The part as the comparator leaves it, before the sample that fired it is filtered. -/
def shipLeft (s : State) : State :=
  { s with top := { s.top with ship := false }, scout := { s.scout with shipWoke := true, shipFired := true } }

theorem shipFire_of_fired {vin : Int} {s : State} (hstate : s.top.state = .dormant) (hship : s.top.ship = true) (hvin : 9000 ≤ vin) :
    shipFire vin s = raiseStep (vinConvert vin (shipLeft s)) := if_pos (by simp [hstate, hship, hvin])

theorem shipFire_of_low {vin : Int} (s : State) (hvin : vin < 9000) : shipFire vin s = s :=
  if_neg (by simp [Int.not_le.mpr hvin])

/-- A rise of the rate moves Scout alone, and not what woke the part. -/
theorem raiseStep_scout (s : State) : raiseStep s = { s with scout := (raiseStep s).scout } ∧
    (raiseStep s).scout.shipWoke = s.scout.shipWoke := by
  unfold raiseStep
  split <;> exact ⟨rfl, rfl⟩

theorem vinConvert_scout (vin : Int) (s : State) : vinConvert vin s = { s with scout := (vinConvert vin s).scout } ∧
    (vinConvert vin s).scout.shipWoke = s.scout.shipWoke := ⟨rfl, rfl⟩

theorem shipFire_marks {vin : Int} {s : State} (hstate : s.top.state = .dormant) (hship : s.top.ship = true) (hvin : 9000 ≤ vin) :
    (shipFire vin s).top = { s.top with ship := false } ∧ (shipFire vin s).scout.shipWoke = true ∧
      shipFire vin s = { s with top := (shipFire vin s).top, scout := (shipFire vin s).scout } := by
  obtain ⟨sample, woke⟩ := vinConvert_scout vin (shipLeft s)
  obtain ⟨rise, woke'⟩ := raiseStep_scout (vinConvert vin (shipLeft s))
  have top : (raiseStep (vinConvert vin (shipLeft s))).top = { s.top with ship := false } := by simp [shipLeft]
  rw [shipFire_of_fired hstate hship hvin]
  refine ⟨top, woke'.trans woke, ?_⟩
  rw [top]
  exact rise

/-- Settles O19: each end of the qualifier by its own lemma; a wake's samples are those of every wake. -/
theorem wakeQualifier : Obligations.WakeQualifier := by
  refine ⟨fun w s hstate hbor hdone htamper hwet => ⟨_, exec_wakeQualified w s, ?_⟩, fun s hstate hraised hdone hspent => ?_,
    fun vin s hstate hship hvin => ⟨_, exec_shipComparatorFire vin s, shipFire_marks hstate hship hvin⟩, fun vin s hvin => ?_⟩
  · obtain ⟨u, hu, uBor, uRunning, uPwrEn, uArr, uTally, uPending⟩ := wakeQualified_of_done w hstate hbor hdone htamper hwet
    obtain ⟨state, phase, cause, running, refLoss, pwrEn⟩ := wakeEntry_begins (qualCause s) w uBor
    obtain ⟨wakeEpoch, io33, myId, ring, adm, level, exits⟩ := wakeEntry_samples (qualCause s) w u
    have epoch : (wakeEntry (qualCause s) w u).fr.epoch = u.fr.epoch := by simp
    have arr : (wakeEntry (qualCause s) w u).arr = u.arr := by simp
    have pending : (wakeEntry (qualCause s) w u).pending = u.pending := by simp
    rw [hu]
    exact ⟨state, phase, cause, running.trans uRunning, wakeEpoch.trans epoch.symm, pwrEn.trans uPwrEn, io33, myId, refLoss, ring, adm,
      level, arr.trans uArr, exits.trans (by rw [uTally]), pending.trans uPending⟩
  · rw [exec_wakeQualifierAbandon, qualAbandon_of_spent hstate hraised hdone hspent]
  · rw [exec_shipComparatorFire, shipFire_of_low s hvin]

end Sys2Proof.Machine
end

section
/-! PROOFS. The post buffer, and the writes that reach no register: what a write that leaves the buffer meets (04, R7, R30, R43, R72,
R77 to R82, R90). -/

namespace Sys2Proof.Machine

/-! The buffer (R78, R79). -/

theorem exec_postBufferEnter (e : PostEntry) (s : State) : exec (.postBufferEnter e) s = .next (postEnter e s) := rfl

theorem regOff_of_aligned {off : Nat} (h4 : off % 4 = 0) (hlt : off < 256) : regOff off = true := by simp [regOff, h4, hlt]

theorem postEnter_of_room {e : PostEntry} {s : State} (hup : accessUp s = true) (hoff : regOff e.off = true)
    (hnone : s.host.waiting = none) (hroom : s.host.post.length < 8) :
    postEnter e s = { s with host := { s.host with post := s.host.post ++ [e] } } := by
  simp [postEnter, hup, hoff, hnone, hroom]

theorem postEnter_of_full {e : PostEntry} {s : State} (hup : accessUp s = true) (hoff : regOff e.off = true)
    (hnone : s.host.waiting = none) (hfull : ¬ s.host.post.length < 8) :
    postEnter e s = { s with host := { s.host with waiting := some e } } := by
  simp [postEnter, hup, hoff, hnone, hfull]

/-- The oldest entry leaves, and the write that waited takes the place that it leaves free. -/
theorem takePost_of_waiting {x e : PostEntry} {xs : List PostEntry} {s : State} (hpost : s.host.post = x :: xs)
    (hwait : s.host.waiting = some e) :
    takePost x s = some { s with host := { s.host with post := xs ++ [e], waiting := none } } := by
  simp [takePost, hpost, hwait]

/-- Settles O27: a write enters where an entry is free, and else is the one that waits. -/
theorem postBuffer : Obligations.PostBuffer := by
  refine ⟨fun e s hup h4 hlt hnone => ?_, fun x e xs s hpost hwait => ⟨_, takePost_of_waiting hpost hwait, rfl, rfl⟩⟩
  have hoff := regOff_of_aligned h4 hlt
  rw [exec_postBufferEnter]
  by_cases hroom : s.host.post.length < 8
  · rw [postEnter_of_room hup hoff hnone hroom, if_pos hroom, if_pos hroom, ← hnone]
  · rw [postEnter_of_full hup hoff hnone hroom, if_neg hroom, if_neg hroom]

/-! The machine that a write has left. -/

/-- Only the buffer and the write that waits on HRDY differ from the machine before. -/
theorem popped_buffer (s : State) :
    ∃ post waiting, popped s = { s with host := { s.host with post := post, waiting := waiting } } := by
  unfold popped
  split
  · exact ⟨s.host.post, s.host.waiting, rfl⟩
  · exact ⟨_, _, rfl⟩

theorem powered_popped (s : State) : powered (popped s) = powered s := by simp [powered]

theorem busUp_popped (s : State) : busUp (popped s) = busUp s := by
  obtain ⟨post, waiting, hpop⟩ := popped_buffer s
  rw [hpop]
  rfl

/-- The oldest write leaves the buffer for the common tests (R78). -/
theorem leave_of_oldest {e : PostEntry} {s : State} (f : State → State) (ho : oldest e s = true)
    (hsync : (s.host.post.isEmpty && s.host.syncWait) = false) : leave e f s = gate e f (popped s) := by
  have taken : takePost e s = some (popped s) := by
    unfold takePost popped
    cases hpost : s.host.post with
    | nil => rfl
    | cons p ps =>
      have hpe : p = e := by simpa [oldest, hpost] using ho
      exact if_pos hpe
  rw [leave, if_neg (by simp [hsync]), taken]

/-- No access is made before synchronous mode starts (R72). -/
theorem leave_of_syncWait (e : PostEntry) (f : State → State) {s : State} (hpost : s.host.post = [])
    (hsync : s.host.syncWait = true) : leave e f s = s := if_pos (by simp [hpost, hsync])

theorem exec_registerWrite (e : PostEntry) (s : State) : exec (.registerWrite e) s = .next (registerWrite e s) := rfl

/-- A register's write leaves the buffer once no table fetch holds it there (R90). -/
theorem registerWrite_of_idle {e : PostEntry} {s : State} (hoff : regOff e.off = true) (hbusy : e.off = 0x2C → s.host.tblBusy = false) :
    registerWrite e s = leave e (applyReg e.off e.data e.be) s := by
  obtain ⟨off, data, be⟩ := e
  rw [registerWrite, if_neg (by simp [hoff])]
  by_cases h2C : off = 0x2C
  · subst h2C
    rw [if_pos rfl, leaveTblData, if_neg (by simp [hbusy])]
    rfl
  · rw [if_neg h2C]

theorem registerWrite_of_syncWait (e : PostEntry) {s : State} (hpost : s.host.post = []) (hsync : s.host.syncWait = true) :
    registerWrite e s = s := by
  rw [registerWrite, leaveTblData, leave_of_syncWait _ _ hpost hsync, leave_of_syncWait _ _ hpost hsync]
  simp

theorem registerWrite_of_tblBusy {e : PostEntry} {s : State} (hoff : e.off = 0x2C) (hbusy : s.host.tblBusy = true) :
    registerWrite e s = s := by
  rw [registerWrite, leaveTblData, if_pos hoff, if_pos hbusy]
  simp

/-! What the common tests turn away, in their order. -/

section
variable {e : PostEntry} {s : State} (f : State → State)

theorem gate_of_reserved (hoff : e.off = 0xF8) : gate e f s = s := by simp [gate, hoff]

theorem gate_of_window (hup : busUp s = true) (hF8 : e.off ≠ 0xF8) (hwindow : s.top.window = true) (h3C : e.off ≠ 0x3C)
    (h14 : e.off ≠ 0x14) : gate e f s = postRejSet s := by
  simp [gate, hup, hF8, hwindow, h3C, h14]

/-- HOSTCFG.PART_ERR is set (R77). -/
def partMarked (s : State) : State := { s with host := { s.host with partErr := true } }

theorem gate_of_partial (hup : busUp s = true) (hwindow : s.top.window = false ∨ e.off = 0x14 ∨ e.off = 0x3C)
    (hatomic : wordAtomic e.off = true) (hbe : e.be ≠ allBe) :
    gate e f s = tally 0x0C 2 (BitVec.ofNat 32 e.off) (partMarked s) := by
  have hF8 : e.off ≠ 0xF8 := fun h => by simp [h, wordAtomic] at hatomic
  have inside : (s.top.window && e.off != 0x3C && e.off != 0x14) = false := by
    rcases hwindow with h | h | h <;> simp [h]
  rw [gate, if_pos hup, if_neg hF8, if_neg (by simp [inside]), if_pos (by simp [hatomic, hbe]), partMarked]

theorem gate_of_noByte (hup : busUp s = true) (hwindow : s.top.window = false) (hatomic : wordAtomic e.off = false) (hbe : e.be = 0)
    (h2C : e.off ≠ 0x2C) : gate e f s = s := by
  simp [gate, hup, hwindow, hatomic, hbe, h2C]

theorem gate_of_wake (hup : busUp s = true) (hF8 : e.off ≠ 0xF8) (hwindow : s.top.window = false) (hatomic : wordAtomic e.off = false)
    (hbe : e.be ≠ 0) (hstate : s.top.state = .wake) (haccept : wakeAccepts e.off = false) : gate e f s = reject e.off 0 s := by
  rw [gate, if_pos hup, if_neg hF8, if_neg (by simp [hwindow]), if_neg (by simp [hatomic]), if_neg fun h => hbe h.1,
    if_pos (by simp [hstate, haccept])]

end

/-! The marks that they leave. -/

theorem busUp_powered {s : State} (h : busUp s = true) : powered s = true := by
  simp only [busUp, Bool.and_eq_true] at h
  simp only [h]

theorem setInt_top (i : Nat) (s : State) : (setInt i s).top = s.top := by simp [setInt]

/-- A message's kind and address are its source's latest (R331). -/
theorem tally_latest {src : Nat} (kind : Nat) (addr : Word) {s : State} (hp : powered s = true) (h48 : src ≠ 0x48) :
    (srcOf (tally src kind addr s) src).lastKind = kind ∧ (srcOf (tally src kind addr s) src).lastAddr = addr := by
  obtain ⟨record, -⟩ := tally_src src kind addr s hp h48
  rw [record]
  exact ⟨rfl, rfl⟩

/-- A dropped write's message is of kind REJECT (R41). -/
theorem reject_lastKind (off tid : Nat) {s : State} (hp : powered s = true) : (srcOf (reject off tid s) 0x0C).lastKind = 1 := by
  unfold reject
  extract_lets _ s1
  have hp1 : powered (setInt 14 s1) = true := by rw [powered, setInt_top]; exact hp
  obtain ⟨kind, -⟩ := tally_latest 1 (BitVec.ofNat 32 (off + tid * 2 ^ 24)) hp1 (by decide : (0x0C : Nat) ≠ 0x48)
  exact kind

theorem postRejSet_marks {s : State} (hp : powered s = true) :
    (postRejSet s).top = { s.top with postRej := true } ∧ (postRejSet s).host.intStat.getLsbD 14 = true :=
  ⟨setInt_top _ _, setInt_sets (by decide) hp⟩

theorem postRejSet_onlyReports (s : State) : onlyReports s (postRejSet s) := by simp [onlyReports]

theorem reject_onlyReports (off tid : Nat) (s : State) : onlyReports s (reject off tid s) := by simp [onlyReports]

/-- What a report leaves of the registers that a word-atomic write is for. -/
theorem Reports.keepsWordAtomic {s t : State} (h : Reports s t) :
    t.host.partErr = s.host.partErr ∧ t.top.reject = s.top.reject ∧ t.top.trig.req = s.top.trig.req ∧
      t.host.tblTid = s.host.tblTid ∧ t.host.tblIdx = s.host.tblIdx ∧ t.host.tblBusy = s.host.tblBusy ∧ t.host.h2c = s.host.h2c ∧
      t.host.h2cFull = s.host.h2cFull ∧ ∀ r, ringOf t r = ringOf s r := by
  obtain ⟨-, host, ring, -, top, -⟩ := h
  exact ⟨by rw [host], by rw [top], by rw [top], by rw [host], by rw [host], by rw [host], by rw [host], by rw [host],
    fun r => by rw [ringOf, ring, ringOf]⟩

/-- Settles O28: each of the five tests that turn a write away, and the two things that hold one back. -/
theorem writeTurnedAway : Obligations.WriteTurnedAway := by
  refine ⟨fun e s hup h4 hlt ho hsync hbusy => ?_, fun e s hpost hsync => ?_, fun e s hoff hbusy => ?_⟩
  · have left : registerWrite e s = gate e (applyReg e.off e.data e.be) (popped s) :=
      (registerWrite_of_idle (regOff_of_aligned h4 hlt) hbusy).trans (leave_of_oldest _ ho hsync)
    have hpow : powered (popped s) = true := (powered_popped s).trans (busUp_powered hup)
    have htop : (popped s).top = s.top := by simp
    have kept : ∀ t, onlyReports (popped s) t → onlyReports s t := fun t h => by simpa [onlyReports] using h
    rw [← busUp_popped] at hup
    refine ⟨_, exec_registerWrite e s, ?_⟩
    rw [left]
    refine ⟨fun hF8 => gate_of_reserved _ hF8, fun hF8 hwindow h3C h14 => ?_, fun hwindow hatomic hbe => ?_,
      fun hwindow hatomic hbe h2C => ?_, fun hwindow hatomic hF8 hbe hstate haccept => ?_⟩
    · rw [gate_of_window _ hup hF8 (by rw [htop]; exact hwindow) h3C h14]
      obtain ⟨top, int⟩ := postRejSet_marks hpow
      exact ⟨by rw [top, htop], kept _ (postRejSet_onlyReports _), int⟩
    · rw [gate_of_partial _ hup (by rw [htop]; exact hwindow) (decide_eq_true hatomic) hbe]
      obtain ⟨post, waiting, hpop⟩ := popped_buffer s
      have hpart : powered (partMarked (popped s)) = true := hpow
      obtain ⟨kind, addr⟩ := tally_latest 2 (BitVec.ofNat 32 e.off) hpart (by decide : (0x0C : Nat) ≠ 0x48)
      obtain ⟨partErr, reject, req, tid, idx, busy, h2c, h2cFull, rings⟩ :=
        (tally_reports 0x0C 2 (BitVec.ofNat 32 e.off) (partMarked (popped s))).keepsWordAtomic
      have others := kept _ (tally_onlyReports 0x0C 2 (BitVec.ofNat 32 e.off) (partMarked (popped s)))
      rw [hpop] at *
      exact ⟨partErr, kind, addr, reject, req, tid, idx, busy, h2c, h2cFull, rings, others⟩
    · exact gate_of_noByte _ hup (by rw [htop]; exact hwindow) hatomic hbe h2C
    · rw [gate_of_wake _ hup hF8 (by rw [htop]; exact hwindow) hatomic hbe (by rw [htop]; exact hstate) haccept]
      obtain ⟨marked, lastRej⟩ := reject_marks e.off 0 (popped s)
      exact ⟨marked, lastRej, reject_lastKind e.off 0 hpow, kept _ (reject_onlyReports e.off 0 _)⟩
  · rw [exec_registerWrite, registerWrite_of_syncWait e hpost hsync]
  · rw [exec_registerWrite, registerWrite_of_tblBusy hoff hbusy]

end Sys2Proof.Machine
end

section
/-! PROOFS. Host reads with their side effects, and the interrupt register (04, R80, R81, R86 to R88, R95, R169). -/

namespace Sys2Proof.Machine

/-! Reads. -/

/-- No read completes with a write in the buffer, or without the bus (R69, R80). -/
theorem busRead_of_unready (f : State → Word × State) {s : State} (h : accessUp s = false ∨ s.host.post ≠ []) : busRead f s = s :=
  if_neg (by rcases h with h | h <;> simp [h])

theorem exec_tblDataRead (s : State) : exec .tblDataRead s = .next (if s.host.tblBusy then s else busRead readTblData s) := rfl

/-- Settles O30: a completed read is its own side effect with its register's value driven. -/
theorem readsWithSideEffects : Obligations.ReadsWithSideEffects := by
  refine ⟨fun s hup hpost => ?_, fun s c hc h => ?_⟩
  · have completes : ∀ f : State → Word × State, (.next (busRead f s) : Out) = _ := fun f =>
      congrArg Host.Outcome.next (busRead_ready f s hup hpost)
    exact ⟨completes readInt, completes readVin, completes readVstore, completes readThrottle, completes readFaultPin,
      completes readRtc, completes readC2h⟩
  · have waits : ∀ f : State → Word × State, (.next (busRead f s) : Out) = .next s := fun f =>
      congrArg Host.Outcome.next (busRead_of_unready f h)
    simp only [List.mem_cons, List.not_mem_nil, or_false] at hc
    rcases hc with rfl | rfl | rfl | rfl | rfl | rfl | rfl | rfl | rfl
    · exact waits readInt
    · exact waits readVin
    · exact waits readVstore
    · exact waits readThrottle
    · exact waits readFaultPin
    · exact waits readRtc
    · exact waits readC2h
    · rw [exec_tblDataRead, busRead_of_unready readTblData h, ite_self]
    · exact waits readRingPort

/-! INT_STAT (R87). -/

theorem exec_intStatRead (s : State) : exec .intStatRead s = .next (busRead readInt s) := rfl

theorem exec_intStatW1c (data : Word) (be : ByteEn) (s : State) :
    exec (.intStatW1c data be) s = .next (leave ⟨0x1C, data, be⟩ (clearInt (data &&& beMask be)) s) := rfl

theorem exec_intForceWrite (data : Word) (be : ByteEn) (s : State) :
    exec (.intForceWrite data be) s = .next (leave ⟨0x24, data, be⟩ (forceInt (data &&& beMask be)) s) := rfl

/-- A write clears the bits written with 1 that neither this frame nor the open watch has set, and ends the watch. -/
theorem clearInt_host (v : Word) (s : State) :
    (clearInt v s).host.intStat = s.host.intStat &&& ~~~(v.truncate 15 &&&
      ~~~(s.host.intFrame ||| (if s.host.watch then s.host.watchSet else 0))) ∧
    (clearInt v s).host.watch = false ∧ (clearInt v s).host.watchSet = 0 ∧ clearInt v s = { s with host := (clearInt v s).host } := by
  unfold clearInt
  extract_lets h keep left s1
  split <;> exact ⟨rfl, rfl, rfl, rfl⟩

/-! INT_FORCE (R88). -/

/-- t is s after settings of the bits b: they join INT_STAT, the frame's settings and those of an open watch. -/
def IntsSet (b : BitVec 15) (s t : State) : Prop :=
  t.host.intStat = s.host.intStat ||| b ∧ t.host.intFrame = s.host.intFrame ||| b ∧
    t.host.watchSet = (if s.host.watch then s.host.watchSet ||| b else s.host.watchSet) ∧ t.host.watch = s.host.watch ∧
    t = { s with host := t.host }

theorem IntsSet.refl (s : State) : IntsSet 0 s s := by simp [IntsSet]

theorem IntsSet.trans {b c : BitVec 15} {s t u : State} (h : IntsSet b s t) (k : IntsSet c t u) : IntsSet (b ||| c) s u := by
  obtain ⟨stat, frame, watchSet, watch, only⟩ := h
  obtain ⟨stat', frame', watchSet', watch', only'⟩ := k
  refine ⟨by rw [stat', stat, BitVec.or_assoc], by rw [frame', frame, BitVec.or_assoc], ?_, watch'.trans watch, ?_⟩
  · rw [watchSet', watchSet, watch]
    cases s.host.watch <;> simp [BitVec.or_assoc]
  · rw [only', only]

theorem IntsSet.powered {b : BitVec 15} {s t : State} (h : IntsSet b s t) : powered t = powered s := by
  obtain ⟨-, -, -, -, only⟩ := h
  rw [only]
  rfl

theorem setInt_intsSet (i : Nat) {s : State} (hp : powered s = true) : IntsSet (BitVec.ofNat 15 (2 ^ i)) s (setInt i s) := by
  unfold setInt
  rw [if_pos hp]
  exact ⟨rfl, rfl, rfl, rfl, rfl⟩

/-- The bits of v that a list names. -/
def namedInts (v : Word) : List Nat → BitVec 15
  | [] => 0
  | i :: is => (if v.getLsbD i then BitVec.ofNat 15 (2 ^ i) else 0) ||| namedInts v is

theorem namedInts_getLsbD (v : Word) {j : Nat} (hj : j < 15) :
    ∀ is : List Nat, (namedInts v is).getLsbD j = (decide (j ∈ is) && v.getLsbD j)
  | [] => by simp [namedInts]
  | i :: is => by
    have bit : (BitVec.ofNat 15 (2 ^ i)).getLsbD j = decide (i = j) := by
      rw [BitVec.getLsbD_ofNat, Nat.testBit_two_pow, decide_eq_true hj, Bool.true_and]
    have here : (if v.getLsbD i then BitVec.ofNat 15 (2 ^ i) else 0).getLsbD j = (decide (j = i) && v.getLsbD j) := by
      by_cases h : j = i
      · subst h
        cases v.getLsbD j <;> simp only [if_true, if_false, Bool.false_eq_true, bit] <;> simp
      · cases v.getLsbD i <;> simp only [if_true, if_false, Bool.false_eq_true, bit] <;> simp [h, Ne.symm h]
    rw [namedInts, BitVec.getLsbD_or, here, namedInts_getLsbD v hj is]
    cases v.getLsbD j <;> simp

/-- All of INT_FORCE's bits are named. -/
theorem namedInts_range (v : Word) : namedInts v (List.range 15) = v.truncate 15 := by
  apply BitVec.eq_of_getLsbD_eq
  intro j hj
  rw [namedInts_getLsbD v hj]
  simp [hj]

theorem forceInt_intsSet (v : Word) {s : State} (hp : powered s = true) : IntsSet (v.truncate 15) s (forceInt v s) := by
  have settings : ∀ (is : List Nat) {s : State}, powered s = true →
      IntsSet (namedInts v is) s (is.foldl (fun (s : State) i => if v.getLsbD i then setInt i s else s) s) := by
    intro is
    induction is with
    | nil => exact fun _ => .refl _
    | cons i is ih =>
      intro s hp
      have first : IntsSet (if v.getLsbD i then BitVec.ofNat 15 (2 ^ i) else 0) s (if v.getLsbD i then setInt i s else s) := by
        split
        · exact setInt_intsSet i hp
        · exact .refl s
      exact first.trans (ih (first.powered.trans hp))
  rw [← namedInts_range]
  exact settings _ hp

/-- Settles O31: the two writes act on the machine that they have left, where INT_STAT, the frame's settings and the watch are as
before. -/
theorem interruptRegister : Obligations.InterruptRegister := by
  refine ⟨fun s hup hpost => ?_, fun data be s hr ho => ?_, fun data be s hr ho => ?_⟩
  · rw [exec_intStatRead, busRead_ready _ s hup hpost]
    rfl
  · have cleared := clearInt_host (data &&& beMask be) (popped s)
    refine ⟨_, exec_intStatW1c data be s, ?_⟩
    rw [leave_reaches _ _ s hr ho]
    obtain ⟨post, waiting, hpop⟩ := popped_buffer s
    rw [hpop] at cleared ⊢
    exact cleared
  · have forced := forceInt_intsSet (data &&& beMask be) ((powered_popped s).trans (reaches_powered hr))
    refine ⟨_, exec_intForceWrite data be s, ?_⟩
    rw [leave_reaches _ _ s hr ho]
    obtain ⟨post, waiting, hpop⟩ := popped_buffer s
    rw [hpop] at forced ⊢
    exact forced

end Sys2Proof.Machine
end

section
/-! PROOFS. Writes that reach their register: INT_EN, ARRAY_ADDR, DOORBELL_H2C and HOSTCFG, and the rows that name a register's write
(04, R41, R72, R76, R86). -/

namespace Sys2Proof.Machine

/-! A field's value in its word, bit by bit. -/

theorem fmask_getLsbD (lo n i : Nat) : (fmask lo n).getLsbD i = (decide (i < 32) && decide (lo ≤ i) && decide (i - lo < n)) := by
  rw [fmask, BitVec.getLsbD_ofNat, Nat.testBit_mul_two_pow, Nat.testBit_two_pow_sub_one, Bool.and_assoc]

theorem mergeBits_getLsbD (old new mask : Word) (i : Nat) :
    (mergeBits old new mask).getLsbD i = if mask.getLsbD i then new.getLsbD i else old.getLsbD i := by
  rw [mergeBits, BitVec.getLsbD_or, BitVec.getLsbD_and, BitVec.getLsbD_and, BitVec.getLsbD_not]
  by_cases hi : i < 32
  · cases mask.getLsbD i <;> simp [hi]
  · simp [BitVec.getLsbD_of_ge _ i (Nat.le_of_not_lt hi)]

theorem mergeBits_allBe (old new : Word) : mergeBits old new (beMask allBe) = new := by
  have hmask : beMask allBe = BitVec.allOnes 32 := by decide
  rw [mergeBits, hmask, BitVec.not_allOnes, BitVec.and_zero, BitVec.zero_or, BitVec.and_allOnes]

/-- A field takes its bits of the value it is given. -/
theorem putBits_getLsbD_inside {d : FDesc} {i : Nat} (v : Nat) (w : Word) (hlo : d.lo ≤ i) (hhi : i - d.lo < d.width) (hi : i < 32) :
    (putBits (d, v) w).getLsbD i = v.testBit (i - d.lo) := by
  rw [putBits, mergeBits_getLsbD, fmask_getLsbD, if_pos (by simp [hlo, hhi, hi]), BitVec.getLsbD_ofNat, Nat.testBit_mul_two_pow]
  simp [hi, hlo]

/-- The other bits of the word stay. -/
theorem putBits_getLsbD_outside {d : FDesc} {i : Nat} (v : Nat) (w : Word) (h : i < d.lo ∨ d.width ≤ i - d.lo) :
    (putBits (d, v) w).getLsbD i = w.getLsbD i := by
  rw [putBits, mergeBits_getLsbD, fmask_getLsbD, if_neg]
  rcases h with h | h <;> simp [h]

theorem fld_testBit (x : Word) (lo n i : Nat) : (fld x lo n).testBit i = (decide (i < n) && x.getLsbD (lo + i)) := by
  rw [fld, Nat.testBit_mod_two_pow, Nat.testBit_div_two_pow, Nat.add_comm, BitVec.testBit_toNat]

/-- A field at bit 0 gives its low bits back. -/
theorem putBits_truncate {d : FDesc} {n : Nat} (data w : Word) (hlo : d.lo = 0) (hn : n ≤ d.width) (h32 : d.width ≤ 32) :
    (putBits (d, fld data 0 d.width) w).truncate n = data.truncate n := by
  apply BitVec.eq_of_getLsbD_eq
  intro i hi
  have hwidth : i < d.width := Nat.lt_of_lt_of_le hi hn
  rw [BitVec.truncate_eq_setWidth, BitVec.getLsbD_setWidth,
    putBits_getLsbD_inside _ w (by simp [hlo]) (by simpa [hlo] using hwidth) (Nat.lt_of_lt_of_le hwidth h32), fld_testBit]
  simp [hlo, hwidth]

/-! A live field in force. -/

theorem putField_cw {d : FDesc} {idx v : Nat} (s : State) (hcls : d.cls ≠ .frame) :
    cw (putField false idx s (d, v)) d.tid idx d.word = putBits (d, v) (cw s d.tid idx d.word) := by
  have now : (false || d.cls != .frame) = true := by simp [hcls]
  simp only [cw, putField, now, if_true]
  exact Sparse.get_modify resetWord s.conf.cur _ _

theorem putField_others {d : FDesc} {idx v k : Nat} (s : State) (hk : k ≠ ckey d.tid idx d.word) :
    Sparse.get resetWord (putField false idx s (d, v)).conf.cur k = Sparse.get resetWord s.conf.cur k := by
  simp only [putField]
  split
  · exact Sparse.get_modify_ne resetWord _ _ hk
  · rfl

/-- Live fields of one word are put into it in turn. -/
theorem foldl_putField_cw {tid idx word : Nat} : ∀ (ps : List Piece) (s : State),
    (∀ p ∈ ps, p.1.tid = tid ∧ p.1.word = word ∧ p.1.cls ≠ .frame) →
    cw (ps.foldl (putField false idx) s) tid idx word = ps.foldl (fun w p => putBits p w) (cw s tid idx word)
  | [], _, _ => rfl
  | (d, v) :: ps, s, h => by
    obtain ⟨⟨htid, hword, hcls⟩, rest⟩ := List.forall_mem_cons.1 h
    rw [List.foldl_cons, foldl_putField_cw ps _ rest, List.foldl_cons, ← htid, ← hword, putField_cw s hcls]

theorem foldl_putField_conf (idx : Nat) : ∀ (ps : List Piece) (s : State),
    ps.foldl (putField false idx) s = { s with conf := (ps.foldl (putField false idx) s).conf }
  | [], _ => rfl
  | p :: ps, s => foldl_putField_conf idx ps (putField false idx s p)

/-- A write of which every field takes its value drops nothing. -/
theorem writeReg_of_taken {off : Nat} {data mask : Word} {s : State}
    (h : ∀ p ∈ piecesOf s 0 0 (off / 4) data mask, fieldTakes s false 0 p = true) :
    writeReg off data mask s = (piecesOf s 0 0 (off / 4) data mask).foldl (putField false 0) s := by
  have all : (piecesOf s 0 0 (off / 4) data mask).filter (fieldTakes s false 0) = piecesOf s 0 0 (off / 4) data mask :=
    List.filter_eq_self.2 h
  simp [writeReg, putPieces, all]

theorem reaches_busUp {e : PostEntry} {s : State} (h : reaches e s = true) : busUp s = true := by
  simp only [reaches, Bool.and_eq_true] at h
  simp only [h]

/-! A register's write, as it leaves the buffer. -/

theorem registerWrite_reaches {off : Nat} {data : Word} {be : ByteEn} {s : State} (hoff : regOff off = true) (h2C : off ≠ 0x2C)
    (hr : reaches ⟨off, data, be⟩ s = true) (ho : oldest ⟨off, data, be⟩ s = true) :
    exec (.registerWrite ⟨off, data, be⟩) s = .next (applyReg off data be (popped s)) := by
  rw [exec_registerWrite, registerWrite_of_idle hoff fun h => absurd h h2C, leave_reaches _ _ s hr ho]

/-! INT_EN (R86). -/

/-- INT_EN's field. -/
def intEnField : FDesc := regF 0x20 0 15 .live

theorem writeReg_intEn (data : Word) (s : State) :
    writeReg 0x20 data (beMask allBe) s = putField false 0 s (intEnField, fld data 0 15) := by
  have fields : touched 0 0 (0x20 / 4) (beMask allBe) = [intEnField] := by decide
  have pieces : piecesOf s 0 0 (0x20 / 4) data (beMask allBe) = [(intEnField, fld data 0 15)] := by
    rw [piecesOf, fields, mergeBits_allBe]
    rfl
  rw [writeReg_of_taken, pieces]
  · rfl
  · rw [pieces]
    exact List.forall_mem_singleton.2 rfl

theorem applyReg_intEn (data : Word) (s : State) :
    applyReg 0x20 data allBe s = hintFollow (putField false 0 s (intEnField, fld data 0 15)) := by
  rw [← writeReg_intEn]
  rfl

theorem hintFollow_host {s : State} (hup : busUp s = true) :
    (hintFollow s).host.hint = ((s.host.intStat &&& intEn s) != 0) ∧ (hintFollow s).host.intStat = s.host.intStat := by
  simp [hintFollow, hup]

theorem intEn_putField (data : Word) (s : State) :
    intEn (putField false 0 s (intEnField, fld data 0 15)) = data.truncate 15 :=
  (congrArg (BitVec.truncate 15) (putField_cw (d := intEnField) s (by decide))).trans
    (putBits_truncate (d := intEnField) data _ rfl (by decide) (by decide))

/-- A whole write of INT_EN takes its bits, and HINT_N follows. -/
theorem intEn_applied (data : Word) {s : State} (hup : busUp s = true) : let t := applyReg 0x20 data allBe s
    intEn t = data.truncate 15 ∧ t.host.hint = ((s.host.intStat &&& data.truncate 15) != 0) ∧ t.host.intStat = s.host.intStat ∧
      (∀ k, k ≠ ckey 0 0 8 → Sparse.get resetWord t.conf.cur k = Sparse.get resetWord s.conf.cur k) ∧
      t = { s with host := t.host, conf := t.conf } := by
  intro t
  have ht : t = hintFollow (putField false 0 s (intEnField, fld data 0 15)) := applyReg_intEn data s
  have enabled := intEn_putField data s
  obtain ⟨hint, stat⟩ := hintFollow_host (s := putField false 0 s (intEnField, fld data 0 15)) hup
  rw [ht]
  exact ⟨enabled, by rw [hint, enabled]; rfl, stat, fun k hk => putField_others (d := intEnField) s hk, rfl⟩

/-! HOSTCFG (R72). -/

/-- HOSTCFG's fields; the first is SYNC. -/
def hostcfgFields : List FDesc := [regF 0x18 0 1 .live, regF 0x18 1 1 .live, regF 0x18 2 1 .live]

theorem touched_hostcfg : ∀ be : ByteEn, touched 0 0 (0x18 / 4) (beMask be) = if be.getLsbD 0 then hostcfgFields else [] := by
  decide

theorem beMask_getLsbD_zero : ∀ be : ByteEn, (beMask be).getLsbD 0 = be.getLsbD 0 := by decide

/-- The pieces of a HOSTCFG write: each field takes its value, whatever it is. -/
theorem hostcfg_takes {data : Word} {be : ByteEn} {s : State} {p : Piece} (hp : p ∈ piecesOf s 0 0 (0x18 / 4) data (beMask be)) :
    fieldTakes s false 0 p = true := by
  obtain ⟨d, hd, rfl⟩ := List.mem_map.1 hp
  have hfield : d ∈ hostcfgFields := by
    rw [touched_hostcfg] at hd
    split at hd
    · exact hd
    · exact absurd hd List.not_mem_nil
  simp only [hostcfgFields, List.mem_cons, List.not_mem_nil, or_false] at hfield
  rcases hfield with rfl | rfl | rfl <;> rfl

/-- HOSTCFG's configurable word after a write. -/
def hostcfgWritten (data : Word) (be : ByteEn) (s : State) : State :=
  (piecesOf s 0 0 (0x18 / 4) data (beMask be)).foldl (putField false 0) s

theorem hostcfgWritten_sync (data : Word) (be : ByteEn) (s : State) :
    crb (hostcfgWritten data be s) 0x18 0 = if be.getLsbD 0 then data.getLsbD 0 else crb s 0x18 0 := by
  have mask := beMask_getLsbD_zero be
  rw [hostcfgWritten, piecesOf, touched_hostcfg]
  cases hbe : be.getLsbD 0 with
  | false => rfl
  | true =>
    have merged : (mergeBits (cwShadow s 0 0 (0x18 / 4)) data (beMask be)).getLsbD 0 = data.getLsbD 0 := by
      rw [mergeBits_getLsbD, mask, hbe, if_pos rfl]
    rw [if_pos rfl, if_pos rfl, crb, cr, foldl_putField_cw]
    · rw [hostcfgFields, List.map_cons, List.map_cons, List.map_cons, List.map_nil, List.foldl_cons, List.foldl_cons, List.foldl_cons,
        List.foldl_nil, putBits_getLsbD_outside _ _ (by decide), putBits_getLsbD_outside _ _ (by decide),
        putBits_getLsbD_inside _ _ (by decide) (by decide) (by decide), fld_testBit]
      exact merged
    · simp [hostcfgFields, regF]

/-- SYNC = 1 waits for its start where the mode is not yet in effect, and SYNC = 0 ends it at once. -/
theorem regHook_hostcfg (mask : Word) (s : State) :
    (regHook 0x18 mask s).host.sync = (s.host.sync && crb s 0x18 0) ∧
      (crb s 0x18 0 = true → s.host.sync = false → (regHook 0x18 mask s).host.syncWait = true) ∧
      (crb s 0x18 0 = false → (regHook 0x18 mask s).host.syncWait = false) ∧
      regHook 0x18 mask s = { s with host := (regHook 0x18 mask s).host } := by
  rw [regHook, if_pos rfl]
  cases crb s 0x18 0 with
  | false => simp
  | true =>
    rw [if_pos rfl]
    split <;> simp_all

theorem clearBits_hostcfg (v : Word) (s : State) : clearBits 0x18 v s = { s with host := { s.host with
    mboxOvf := s.host.mboxOvf && !v.getLsbD 10, partErr := s.host.partErr && !v.getLsbD 11 } } := rfl

theorem applyReg_hostcfg (data : Word) (be : ByteEn) (s : State) :
    applyReg 0x18 data be s = clearBits 0x18 (data &&& beMask be) (regHook 0x18 (beMask be) (hostcfgWritten data be s)) := by
  rw [hostcfgWritten, ← writeReg_of_taken fun _ => hostcfg_takes]
  rfl

/-- A write of HOSTCFG: SYNC where its byte is enabled, and the mode that follows. -/
theorem hostcfg_applied (data : Word) (be : ByteEn) (s : State) : let t := applyReg 0x18 data be s
    crb t 0x18 0 = (if be.getLsbD 0 then data.getLsbD 0 else crb s 0x18 0) ∧ t.host.sync = (s.host.sync && crb t 0x18 0) ∧
      (crb t 0x18 0 = true → s.host.sync = false → t.host.syncWait = true) ∧ (crb t 0x18 0 = false → t.host.syncWait = false) ∧
      t = { s with host := t.host, conf := t.conf } := by
  intro t
  have ht : t = _ := applyReg_hostcfg data be s
  have written : hostcfgWritten data be s = _ := foldl_putField_conf 0 (piecesOf s 0 0 (0x18 / 4) data (beMask be)) s
  obtain ⟨sync, starts, ends, only⟩ := regHook_hostcfg (beMask be) (hostcfgWritten data be s)
  have word : crb t 0x18 0 = crb (hostcfgWritten data be s) 0x18 0 := by
    rw [ht, clearBits_hostcfg, only]
    rfl
  have before : (hostcfgWritten data be s).host = s.host := by rw [written]
  rw [word, ← hostcfgWritten_sync]
  rw [before] at sync starts
  rw [ht, clearBits_hostcfg]
  refine ⟨rfl, sync, starts, ends, ?_⟩
  rw [only, written]

theorem exec_hostcfgSyncWrite (data : Word) (be : ByteEn) (s : State) :
    exec (.hostcfgSyncWrite data be) s = .next (leave ⟨0x18, data, be⟩ (applyReg 0x18 data be) s) := rfl

theorem exec_syncModeStart (s : State) : exec .syncModeStart s = .next (syncStart s) := rfl

/-- A row that is the way of a register's write out of the buffer is that register's write. -/
theorem row_eq_registerWrite {c : Instr} {off : Nat} {data : Word} {be : ByteEn} {s : State}
    (h : regOff off = true ∧ exec c s =
      .next (if off = 0x2C then leaveTblData data be s else leave ⟨off, data, be⟩ (applyReg off data be) s)) :
    exec c s = exec (.registerWrite ⟨off, data, be⟩) s := by
  obtain ⟨hoff, row⟩ := h
  rw [row, exec_registerWrite]
  simp only [registerWrite, hoff, Bool.not_true, Bool.false_eq_true, if_false]

/-- Settles O29: each register by what its write does to the machine that the write has left. -/
theorem writeReaches : Obligations.WriteReaches := by
  refine ⟨fun data s hr ho => ?_, fun data be s hr ho => ?_, fun data be s hr ho => ?_, fun data be s hr ho => ?_, fun s => ?_,
    fun data be s c off hc => ?_, fun key be s c off fields hc => ?_⟩
  · have applied := intEn_applied data ((busUp_popped s).trans (reaches_busUp hr))
    refine ⟨_, registerWrite_reaches (by decide) (by decide) hr ho, ?_⟩
    obtain ⟨post, waiting, hpop⟩ := popped_buffer s
    rw [hpop] at applied ⊢
    exact applied
  · rw [registerWrite_reaches (by decide) (by decide) hr ho]
    obtain ⟨post, waiting, hpop⟩ := popped_buffer s
    rw [hpop]
    rfl
  · rw [registerWrite_reaches (by decide) (by decide) hr ho]
    obtain ⟨post, waiting, hpop⟩ := popped_buffer s
    rw [hpop]
    rfl
  · refine ⟨_, (exec_hostcfgSyncWrite data be s).trans (congrArg Host.Outcome.next (leave_reaches _ _ s hr ho)), ?_⟩
    have applied := hostcfg_applied data be (popped s)
    obtain ⟨post, waiting, hpop⟩ := popped_buffer s
    rw [hpop] at applied ⊢
    exact applied
  · rw [exec_syncModeStart, syncStart]
    simp
  · refine row_eq_registerWrite ?_
    simp only [List.mem_cons, Prod.mk.injEq, List.not_mem_nil, or_false] at hc
    rcases hc with ⟨rfl, rfl⟩ | ⟨rfl, rfl⟩ | ⟨rfl, rfl⟩ | ⟨rfl, rfl⟩ | ⟨rfl, rfl⟩ | ⟨rfl, rfl⟩ | ⟨rfl, rfl⟩ | ⟨rfl, rfl⟩ |
      ⟨rfl, rfl⟩ | ⟨rfl, rfl⟩ | ⟨rfl, rfl⟩ | ⟨rfl, rfl⟩ <;> exact ⟨by decide, rfl⟩
  · refine row_eq_registerWrite ?_
    simp only [List.mem_cons, Prod.mk.injEq, List.not_mem_nil, or_false] at hc
    rcases hc with ⟨rfl, rfl, rfl⟩ | ⟨rfl, rfl, rfl⟩ | ⟨rfl, rfl, rfl⟩ | ⟨rfl, rfl, rfl⟩ | ⟨rfl, rfl, rfl⟩ | ⟨rfl, rfl, rfl⟩ |
      ⟨rfl, rfl, rfl⟩ | ⟨rfl, rfl, rfl⟩ | ⟨rfl, rfl, rfl⟩ | ⟨rfl, rfl, rfl⟩ | ⟨rfl, rfl, rfl⟩ | ⟨rfl, rfl, rfl⟩ | ⟨rfl, rfl, rfl⟩ |
      ⟨rfl, rfl, rfl⟩ <;> exact ⟨by decide, rfl⟩

end Sys2Proof.Machine
end

section
/-! PROOFS. The mailbox: the host's write and read, a core's take and post, and what firmware answers (04, R95 to R97). -/

namespace Sys2Proof.Machine

/-! The host's side. -/

theorem exec_mboxH2cWrite (data : Word) (be : ByteEn) (s : State) :
    exec (.mboxH2cWrite data be) s = .next (leave ⟨0xB8, data, be⟩ (applyMbox data) s) := rfl

theorem exec_mboxC2hRead (s : State) : exec .mboxC2hRead s = .next (busRead readC2h s) := rfl

theorem applyMbox_host (data : Word) (s : State) : applyMbox data s = { s with
    host := if s.host.h2cFull then { s.host with mboxOvf := true } else { s.host with h2c := data, h2cFull := true } } := by
  unfold applyMbox
  split <;> rfl

theorem popped_h2cFull (s : State) : (popped s).host.h2cFull = s.host.h2cFull := by
  obtain ⟨post, waiting, hpop⟩ := popped_buffer s
  rw [hpop]

/-! A core's window (R314, R315). -/

/-- A window instruction of a running core acts on the machine that its drained buffer leaves; a step's end is the core's own. -/
theorem windowInsn_of_drained {b : Bool} {s x : State} (f : State → State) (hruns : coreRuns s b = true)
    (hdrain : drainAll b (takeAsync b s) = some x) : ∃ t, windowInsn b f s = .next t ∧ t.host = (f x).host := by
  have drained : drainedInsn b f s = .next (setStalled b false (f x)) := by rw [drainedInsn, hdrain]; rfl
  unfold windowInsn oneInsn
  beta_reduce
  rw [if_pos hruns, drained]
  refine ⟨_, rfl, ?_⟩
  split <;> simp [setStalled]

/-- Draining moves no state: the islands are powered as before. -/
theorem drained_powered {b : Bool} {s x : State} (hruns : coreRuns s b = true) (hdrain : drainAll b (takeAsync b s) = some x) :
    powered x = true := by
  obtain ⟨state, coreBor, -⟩ := drainAll_keeps b _ x hdrain
  obtain ⟨state', coreBor', -⟩ := takeAsync_keeps b s
  simp only [coreRuns, Bool.and_eq_true] at hruns
  obtain ⟨⟨⟨hp, -⟩, -⟩, -⟩ := hruns
  rw [powered, state, state', coreBor, coreBor']
  exact hp

theorem extReturn_winUe (b : Bool) (s : State) : (extReturn b s).hive.winUe = s.hive.winUe := by
  unfold extReturn
  split <;> rfl

/-- A take of a waiting message gives it to firmware and clears H2C_FULL. -/
theorem takeH2c_host {b : Bool} {s : State} (hue : s.hive.winUe.contains 0 = false) (hfull : s.host.h2cFull = true) :
    (takeH2c b s).host.h2cFull = false ∧ (takeH2c b s).host.taken = some s.host.h2c := by
  rw [takeH2c, if_neg (by rw [hue]; exact Bool.false_ne_true)]
  simp [hfull]

theorem winMark_host (off : Nat) (s : State) : (winMark off s).host = s.host ∧ (winMark off s).top = s.top := by
  unfold winMark injectUse
  split <;> exact ⟨rfl, rfl⟩

/-- A post replaces MBOX_C2H, sets C2H_FULL and INT_STAT.MBOX, and leaves the rest of the mailbox. -/
theorem postC2h_host (w : Word) {s : State} (hp : powered s = true) :
    (postC2h w s).host.c2h = w ∧ (postC2h w s).host.c2hFull = true ∧ (postC2h w s).host.intStat.getLsbD 9 = true ∧
      (postC2h w s).host.taken = s.host.taken ∧ (postC2h w s).host.dbC2h = s.host.dbC2h := by
  unfold postC2h
  obtain ⟨marked, top⟩ := winMark_host 4 { s with host := { s.host with c2h := w, c2hFull := true } }
  have hp' : powered (winMark 4 { s with host := { s.host with c2h := w, c2hFull := true } }) = true := by
    rw [powered, top]
    exact hp
  have mbox := setInt_sets (i := 9) (by decide) hp'
  obtain ⟨-, host, -⟩ := setInt_reports 9 (winMark 4 { s with host := { s.host with c2h := w, c2hFull := true } })
  refine ⟨?_, ?_, mbox, ?_, ?_⟩ <;> rw [host, marked]

theorem exec_h2cTake (b : Bool) (s : State) : exec (.h2cTake b) s = windowInsn b (fun x => takeH2c b (extReturn b x)) s := rfl

theorem exec_c2hPost (b : Bool) (data : Word) (s : State) :
    exec (.c2hPost b data) s = windowInsn b (fun x => postC2h data (extReturn b x)) s := rfl

/-! Firmware's answers (R95, R96). -/

/-- The word that answers message w with a STATUS and a RESULT: TAG and CMD are the message's own. -/
def answerWord (status result : Nat) (w : Word) : Word :=
  pack [(result, 8, 0), (status, 8, 8), (fld w 16 8, 8, 16), (fld w 24 8, 8, 24)]

theorem fwServes_powered {s : State} (h : fwServes s = true) : powered s = true := by
  simp only [fwServes, Bool.and_eq_true] at h
  simp only [h]

theorem answerMbox_of_idle {p : Word → Bool} {f : Word → Nat × Nat} {s : State} (h : fwServes s = false ∨ mboxMsg s = none) :
    answerMbox p f s = s := by
  unfold answerMbox
  rcases h with h | h
  · split
    · simp [h]
    · rfl
  · rw [h]

/-- Firmware that serves answers the message that it may: the answer is posted, and nothing is taken any more. -/
theorem answerMbox_of_message {p : Word → Bool} {f : Word → Nat × Nat} {s : State} {w : Word} (hserves : fwServes s = true)
    (hmsg : mboxMsg s = some w) (hmay : p w = true) : let t := answerMbox p f s
    t.host.c2h = answerWord (f w).1 (f w).2 w ∧ t.host.c2hFull = true ∧ t.host.taken = none ∧ t.host.intStat.getLsbD 9 = true ∧
      t.host.dbC2h = s.host.dbC2h := by
  intro t
  have ht : t = postC2h (answerWord (f w).1 (f w).2 w) { s with host := { s.host with
      taken := none, h2cFull := if s.host.taken.isSome then s.host.h2cFull else false } } := by
    simp only [t, answerMbox, hmsg, hserves, hmay, Bool.and_self, if_true]
    rfl
  obtain ⟨c2h, full, mbox, taken, db⟩ := postC2h_host (answerWord (f w).1 (f w).2 w) (s := { s with host := { s.host with
      taken := none, h2cFull := if s.host.taken.isSome then s.host.h2cFull else false } }) (fwServes_powered hserves)
  rw [ht]
  exact ⟨c2h, full, taken, mbox, db⟩

/-- What a report leaves of the mailbox and of firmware. -/
theorem Reports.keepsMailbox {s t : State} (h : Reports s t) (hhive : t.hive = s.hive) :
    mboxMsg t = mboxMsg s ∧ fwServes t = fwServes s ∧ t.host.dbC2h = s.host.dbC2h := by
  obtain ⟨-, host, -, -, top, -, -, halted, -⟩ := h
  refine ⟨?_, ?_, by rw [host]⟩
  · rw [mboxMsg, host, mboxMsg]
  · rw [fwServes, powered, top, hhive, halted, fwServes, powered]

theorem ringC2h_log (s : State) : Reports { s with host := { s.host with dbC2h := s.host.dbC2h ||| 1 } } (ringC2h 1 s) := by
  have bit : (1 : Word) &&& 0xFFFF0003 = 1 := by decide
  rw [ringC2h, bit, if_neg (by decide)]
  exact setInt_reports 10 _

theorem logMark_of_idle {s : State} (h : fwServes s = false ∨ mboxMsg s = none) : logMark s = s := by
  unfold logMark
  rcases h with h | h
  · split
    · simp [h]
    · rfl
  · rw [h]

/-- LOG_MARK logs its record and sets DOORBELL_C2H.LOG; the message still waits for its answer. -/
theorem logMark_of_message {s : State} {w : Word} (hserves : fwServes s = true) (hmsg : mboxMsg s = some w) (hcmd : mCmd w = 3) :
    mboxMsg (logMark s) = some w ∧ fwServes (logMark s) = true ∧ (logMark s).host.dbC2h = s.host.dbC2h ||| 1 := by
  have marked : logMark s = ringC2h 1 (logEv 12 0 (BitVec.ofNat 16 (mArg w)) 0 s) := by
    simp [logMark, hmsg, hserves, hcmd]
  have logged := logEv_reports 12 0 (BitVec.ofNat 16 (mArg w)) 0 s
  obtain ⟨msg, serves, db⟩ := logged.keepsMailbox (by simp)
  obtain ⟨msg', serves', db'⟩ := (ringC2h_log (logEv 12 0 (BitVec.ofNat 16 (mArg w)) 0 s)).keepsMailbox (by simp)
  rw [marked, msg', serves', db']
  exact ⟨msg.trans hmsg, serves.trans hserves, congrArg (· ||| 1) db⟩

theorem extReturn_firmware (b : Bool) (s : State) : mboxMsg (extReturn b s) = mboxMsg s ∧ fwServes (extReturn b s) = fwServes s := by
  unfold extReturn
  split <;> exact ⟨rfl, rfl⟩

/-- t answers message w of s with a STATUS and a RESULT, and shows nothing else but reports and firmware's own doing. -/
def Answered (status result : Nat) (w : Word) (s t : State) : Prop :=
  t.host.c2h = answerWord status result w ∧ t.host.c2hFull = true ∧ t.host.taken = none ∧ t.host.intStat.getLsbD 9 = true ∧
    onlyReports s { t with hive := s.hive }

/-- The answer may come from a machine in which firmware has begun to act on the message. -/
theorem answered_of_message {p : Word → Bool} {f : Word → Nat × Nat} {s u : State} {w : Word} {status result : Nat}
    (hserves : fwServes u = true) (hmsg : mboxMsg u = some w) (hmay : p w = true) (hf : f w = (status, result))
    (hacted : onlyReports s { u with hive := s.hive }) : Answered status result w s (answerMbox p f u) := by
  obtain ⟨c2h, full, taken, mbox, -⟩ := answerMbox_of_message (f := f) hserves hmsg hmay
  rw [hf] at c2h
  exact ⟨c2h, full, taken, mbox, by simpa [onlyReports] using hacted⟩

theorem onlyReports_refl (s : State) : onlyReports s { s with hive := s.hive } := by simp [onlyReports]

theorem exec_mboxPing (s : State) : exec .mboxPing s = .next (answerMbox (fun w => mCmd w == 1) (fun _ => (0, 0xA5)) s) := rfl

theorem exec_mboxFwVersion (s : State) :
    exec .mboxFwVersion s = .next (answerMbox (fun w => mCmd w == 2) (fwVersionByte s) s) := rfl

theorem exec_mboxLogMark (s : State) :
    exec .mboxLogMark s = .next (answerMbox (fun w => mCmd w == 3) (fun _ => (0, 0)) (logMark s)) := rfl

theorem exec_mboxUnknown (s : State) : exec .mboxUnknown s =
    .next (answerMbox (fun w => !(mCmd w == 1 || mCmd w == 2 || mCmd w == 3) && decide (mCmd w < 0x80)) (fun _ => (1, 0)) s) := rfl

/-- The machine in which firmware answers an extension command: the extension's activation for it has returned (R96, R327). -/
def extAnswering (s : State) : State :=
  if (mboxMsg s).any fun w => fwServes s && decide (0x80 ≤ mCmd w) then extReturn true s else s

theorem exec_mboxExtension (r : BitVec 8) (s : State) : exec (.mboxExtension r) s =
    .next (answerMbox (fun w => decide (0x80 ≤ mCmd w)) (fun _ => if extReady s then (0, r.toNat) else (4, 0)) (extAnswering s)) := by
  change execMboxExtension r s = _
  unfold execMboxExtension extAnswering
  cases mboxMsg s <;> rfl

theorem extAnswering_of_idle {s : State} (h : fwServes s = false ∨ mboxMsg s = none) : extAnswering s = s := by
  unfold extAnswering
  rcases h with h | h
  · cases mboxMsg s <;> simp [h]
  · simp [h]

theorem extAnswering_firmware (s : State) :
    mboxMsg (extAnswering s) = mboxMsg s ∧ fwServes (extAnswering s) = fwServes s ∧
      onlyReports s { extAnswering s with hive := s.hive } := by
  unfold extAnswering
  split
  · obtain ⟨msg, serves⟩ := extReturn_firmware true s
    exact ⟨msg, serves, by simp [onlyReports]⟩
  · exact ⟨rfl, rfl, onlyReports_refl s⟩

/-- Settles O33: the host's and a core's accesses by what each does to the mailbox, firmware's answers by their command. -/
theorem mailbox : Obligations.Mailbox := by
  refine ⟨fun data s hr ho => ?_, fun b s x hruns hdrain hue hfull => ?_, fun b data s x hruns hdrain => ?_,
    fun s hup hpost => ?_, fun c s w r status result hserves hmsg hc hping hversion hmark hext hunknown => ?_,
    fun c s r hc hidle => ?_⟩
  · rw [exec_mboxH2cWrite, leave_reaches _ _ s hr ho, applyMbox_host, popped_h2cFull]
  · obtain ⟨t, row, host⟩ := windowInsn_of_drained (fun x => takeH2c b (extReturn b x)) hruns hdrain
    have samehost : (extReturn b x).host = x.host := by simp
    obtain ⟨cleared, taken⟩ := takeH2c_host (b := b) (s := extReturn b x) (by rw [extReturn_winUe]; exact hue)
      (by rw [samehost]; exact hfull)
    refine ⟨t, (exec_h2cTake b s).trans row, ?_⟩
    rw [host]
    exact ⟨cleared, taken.trans (by rw [samehost])⟩
  · obtain ⟨t, row, host⟩ := windowInsn_of_drained (fun x => postC2h data (extReturn b x)) hruns hdrain
    have hp : powered (extReturn b x) = true := by simpa [powered] using drained_powered hruns hdrain
    obtain ⟨c2h, full, mbox, -⟩ := postC2h_host data hp
    refine ⟨t, (exec_c2hPost b data s).trans row, ?_⟩
    rw [host]
    exact ⟨c2h, full, mbox⟩
  · rw [exec_mboxC2hRead, busRead_ready _ s hup hpost]
    rfl
  · obtain ⟨t, row, ⟨c2h, full, taken, mbox, acted⟩, db⟩ : ∃ t, exec c s = .next t ∧ Answered status result w s t ∧
        (c = .mboxLogMark → t.host.dbC2h = s.host.dbC2h ||| 1) := by
      simp only [List.mem_cons, Prod.mk.injEq, List.not_mem_nil, or_false] at hc
      rcases hc with ⟨rfl, rfl, rfl⟩ | ⟨rfl, rfl, rfl⟩ | ⟨rfl, rfl, rfl⟩ | ⟨rfl, rfl, rfl⟩ | ⟨rfl, rfl, rfl⟩
      case inl =>
        exact ⟨_, exec_mboxPing s, answered_of_message hserves hmsg (by simp [hping rfl]) rfl (onlyReports_refl s), nofun⟩
      case inr.inl =>
        refine ⟨_, exec_mboxFwVersion s, answered_of_message hserves hmsg (by simp [hversion rfl]) ?_ (onlyReports_refl s), nofun⟩
        unfold fwVersionByte
        split <;> rfl
      case inr.inr.inl =>
        obtain ⟨msg', serves', db⟩ := logMark_of_message hserves hmsg (hmark rfl)
        have logged : onlyReports s { logMark s with hive := s.hive } := by simp [onlyReports]
        refine ⟨_, exec_mboxLogMark s, answered_of_message serves' msg' (by simp [hmark rfl]) rfl logged, fun _ => ?_⟩
        obtain ⟨-, -, -, -, db'⟩ := answerMbox_of_message (p := fun w => mCmd w == 3) (f := fun _ => (0, 0)) serves' msg'
          (by simp [hmark rfl])
        exact db'.trans db
      case inr.inr.inr.inl =>
        obtain ⟨msg', serves', acted⟩ := extAnswering_firmware s
        refine ⟨_, exec_mboxExtension r s, answered_of_message (serves'.trans hserves) (msg'.trans hmsg) (by simp [hext rfl]) ?_ acted,
          nofun⟩
        split <;> rfl
      case inr.inr.inr.inr =>
        obtain ⟨hlt, hother⟩ := hunknown rfl
        simp only [List.mem_cons, List.not_mem_nil, or_false, not_or] at hother
        obtain ⟨h1, h2, h3⟩ := hother
        exact ⟨_, exec_mboxUnknown s, answered_of_message hserves hmsg (by simp [h1, h2, h3, hlt]) rfl (onlyReports_refl s), nofun⟩
    exact ⟨t, row, c2h, full, taken, mbox, db, acted⟩
  · simp only [List.mem_cons, List.not_mem_nil, or_false] at hc
    rcases hc with rfl | rfl | rfl | rfl | rfl
    · rw [exec_mboxPing, answerMbox_of_idle hidle]
    · rw [exec_mboxFwVersion, answerMbox_of_idle hidle]
    · rw [exec_mboxLogMark, logMark_of_idle hidle, answerMbox_of_idle hidle]
    · rw [exec_mboxExtension, extAnswering_of_idle hidle, answerMbox_of_idle hidle]
    · rw [exec_mboxUnknown, answerMbox_of_idle hidle]

end Sys2Proof.Machine
end

section
/-! PROOFS. The unlock exchange: requests, responses, relocks, the time limits and the lockout (04, 16, R98, R99, R363 to R366, log
entry 44). -/

namespace Sys2Proof.Machine

/-! A message of source 0x27. -/

theorem unlockMsg_latest (kind lvl ch res : Nat) {s : State} (hp : powered s = true) :
    (srcOf (unlockMsg kind lvl ch res s) 0x27).lastKind = kind := by
  obtain ⟨latest, -⟩ := tally_latest kind (BitVec.ofNat 32 (lvl % 4 + ch % 4 * 4 + res % 16 * 16)) hp (by decide : (0x27 : Nat) ≠ 0x48)
  exact latest

theorem unlockMsg_ovr (kind lvl ch res : Nat) (s : State) : (unlockMsg kind lvl ch res s).scout.ovr = s.scout.ovr := by
  unfold unlockMsg
  obtain ⟨-, -, -, scout, -⟩ := tally_reports 0x27 kind (BitVec.ofNat 32 (lvl % 4 + ch % 4 * 4 + res % 16 * 16)) s
  rw [scout]

theorem unlockMsg_sec (kind lvl ch res : Nat) (s : State) : (unlockMsg kind lvl ch res s).sec = s.sec := by simp

theorem cancelExchange_of_idle {s : State} (h : s.sec.chal = none) : cancelExchange s = s := if_neg (by simp [h])

/-! A request (R98, R364). -/

/-- The word of a request for a level. -/
def requestWord (lvl : Nat) : Word := BitVec.ofNat 32 (0x554C0000 + lvl)

theorem requestWord_level {lvl : Nat} (h1 : 1 ≤ lvl) (h3 : lvl ≤ 3) : requestWord lvl ≠ 0x554C0000 ∧ fld (requestWord lvl) 0 2 = lvl ∧
    (requestWord lvl = 0x554C0001 ∨ requestWord lvl = 0x554C0002 ∨ requestWord lvl = 0x554C0003) := by
  interval_cases lvl <;> decide

theorem applyUnlock_of_request {lvl : Nat} {s : State} (h1 : 1 ≤ lvl) (h3 : lvl ≤ 3) (hidle : s.sec.chal = none) :
    applyUnlock (requestWord lvl) s = unlockAsk 0 lvl s := by
  obtain ⟨hrelock, hlevel, hreq⟩ := requestWord_level h1 h3
  simp only [applyUnlock, if_neg hrelock, hidle, hlevel]
  rw [if_pos (by simpa [or_assoc] using hreq)]

/-- The channel and the level asked for are noted with any request (R363). -/
def asked (lvl : Nat) (s : State) : State := { s with sec := { s.sec with reqLevel := lvl, channel := 0 } }

theorem unlockAsk_of_permitted {lvl : Nat} {s : State} (hidle : s.sec.chal = none) (hr : refuseUnlock s 0 lvl = 0) :
    unlockAsk 0 lvl s = { asked lvl s with
      sec := { (asked lvl s).sec with chal := some (Config.challenge s.free), chalAge := 0 }, free := s.free + 1 } := by
  simp only [unlockAsk, cancelExchange_of_idle hidle, hr, if_true]
  rfl

theorem unlockAsk_of_refused {lvl : Nat} {s : State} (hidle : s.sec.chal = none) (hr : refuseUnlock s 0 lvl ≠ 0) :
    unlockAsk 0 lvl s = unlockMsg 3 lvl 0 (refuseUnlock s 0 lvl)
      { asked lvl s with sec := { (asked lvl s).sec with result := refuseUnlock s 0 lvl } } := by
  simp only [unlockAsk, cancelExchange_of_idle hidle, if_neg hr]
  rfl

/-- A request with no exchange pending starts one or ends with its RESULT, and leaves the level. -/
theorem unlockAsk_sec {lvl : Nat} {s : State} (hp : powered s = true) (hidle : s.sec.chal = none) : let t := unlockAsk 0 lvl s
    t.sec.reqLevel = lvl ∧ t.sec.channel = 0 ∧ t.sec.level = s.sec.level ∧
      (refuseUnlock s 0 lvl = 0 → t.sec.chal = some (Config.challenge s.free) ∧ t.sec.chalAge = 0) ∧
      (refuseUnlock s 0 lvl ≠ 0 → t.sec.chal = none ∧ t.sec.result = refuseUnlock s 0 lvl ∧ (srcOf t 0x27).lastKind = 3) := by
  intro t
  by_cases hr : refuseUnlock s 0 lvl = 0
  · have ht : t = _ := unlockAsk_of_permitted hidle hr
    rw [ht]
    exact ⟨rfl, rfl, rfl, fun _ => ⟨rfl, rfl⟩, fun h => absurd hr h⟩
  · have ht : t = _ := unlockAsk_of_refused hidle hr
    have kind := unlockMsg_latest 3 lvl 0 (refuseUnlock s 0 lvl)
      (s := { asked lvl s with sec := { (asked lvl s).sec with result := refuseUnlock s 0 lvl } }) hp
    rw [ht, unlockMsg_sec]
    exact ⟨rfl, rfl, rfl, fun h => absurd h hr, fun _ => ⟨hidle, rfl, kind⟩⟩

/-! A response (R98, R364 to R366). -/

theorem applyUnlock_of_response {data chal : Word} {s : State} (hchal : s.sec.chal = some chal) (hchannel : s.sec.channel = 0)
    (hrelock : data ≠ 0x554C0000) : applyUnlock data s = unlockAnswer data s := by
  rw [applyUnlock, if_neg hrelock]
  simp [hchal, hchannel]

/-- The level granted is in force, with the failures forgotten. -/
def granted (s : State) : State :=
  { s with sec := { s.sec with chal := none, level := s.sec.reqLevel, result := 1, fails := 0, raisedAge := 0 } }

theorem unlockAnswer_of_right {data chal : Word} {s : State} (hchal : s.sec.chal = some chal)
    (hright : data = unlockResp s chal s.sec.reqLevel) :
    unlockAnswer data s = unlockMsg 1 s.sec.reqLevel s.sec.channel 1 (openEntry s.sec.reqLevel (granted s)) := by
  simp only [unlockAnswer, hchal, if_pos hright]
  rfl

/-- A failure is counted, and the third starts the lockout (R365). -/
def failed (s : State) : State :=
  { s with sec := { s.sec with chal := none, result := 2, fails := satInc 3 s.sec.fails
                               lockLeft := if satInc 3 s.sec.fails = 3 then 2 ^ 28 + 1 else s.sec.lockLeft } }

theorem unlockAnswer_of_wrong {data chal : Word} {s : State} (hchal : s.sec.chal = some chal)
    (hwrong : data ≠ unlockResp s chal s.sec.reqLevel) :
    unlockAnswer data s = unlockMsg 2 s.sec.reqLevel s.sec.channel 2 (failed s) := by
  simp only [unlockAnswer, hchal, if_neg hwrong]
  rfl

theorem openEntry_sec (lvl : Nat) (s : State) : (openEntry lvl s).sec.chal = s.sec.chal ∧ (openEntry lvl s).sec.level = s.sec.level ∧
    (openEntry lvl s).sec.result = s.sec.result ∧ (openEntry lvl s).sec.fails = s.sec.fails ∧
    (lvl = 3 → s.sec.life.inUse = true → (openEntry lvl s).sec.keysClosed = true) := by
  unfold openEntry
  by_cases h : lvl = 3 ∧ s.sec.life.inUse = true
  · rw [if_pos h]
    exact ⟨rfl, rfl, rfl, rfl, fun _ _ => rfl⟩
  · rw [if_neg h]
    exact ⟨rfl, rfl, rfl, rfl, fun h3 hu => absurd ⟨h3, hu⟩ h⟩

theorem satInc_three {n : Nat} (h2 : 2 ≤ n) (h3 : n ≤ 3) : satInc 3 n = 3 := by
  interval_cases n <;> rfl

theorem unlockAnswer_sec {data chal : Word} {s : State} (hchal : s.sec.chal = some chal) : let t := unlockAnswer data s
    t.sec.chal = none ∧
      (data = unlockResp s chal s.sec.reqLevel → t.sec.level = s.sec.reqLevel ∧ t.sec.result = 1 ∧ t.sec.fails = 0 ∧
        (s.sec.reqLevel = 3 → s.sec.life.inUse = true → t.sec.keysClosed = true)) ∧
      (data ≠ unlockResp s chal s.sec.reqLevel → t.sec.level = s.sec.level ∧ t.sec.result = 2 ∧
        t.sec.fails = satInc 3 s.sec.fails ∧ (2 ≤ s.sec.fails → s.sec.fails ≤ 3 → t.sec.fails = 3) ∧
        (t.sec.fails = 3 → t.sec.lockLeft = 2 ^ 28 + 1)) := by
  intro t
  by_cases hright : data = unlockResp s chal s.sec.reqLevel
  · have ht : t = _ := unlockAnswer_of_right hchal hright
    obtain ⟨chal', level, result, fails, closed⟩ := openEntry_sec s.sec.reqLevel (granted s)
    rw [ht, unlockMsg_sec]
    exact ⟨chal', fun _ => ⟨level, result, fails, closed⟩, fun h => absurd hright h⟩
  · have ht : t = _ := unlockAnswer_of_wrong hchal hright
    rw [ht, unlockMsg_sec]
    exact ⟨rfl, fun h => absurd h hright, fun _ => ⟨rfl, rfl, rfl, satInc_three, fun h => if_pos h⟩⟩

/-! A relock (R98, R363). -/

theorem relock_sec (ch : Nat) (s : State) :
    (relock ch s).sec.level = 0 ∧ (relock ch s).sec.chal = none ∧ (relock ch s).sec.result = 7 ∧ (relock ch s).scout.ovr = [] := by
  unfold relock
  rw [unlockMsg_sec, unlockMsg_ovr]
  exact ⟨rfl, rfl, rfl, rfl⟩

theorem relock_lastKind (ch : Nat) {s : State} (hp : powered s = true) : (srcOf (relock ch s) 0x27).lastKind = 4 := by
  unfold relock
  refine unlockMsg_latest _ _ _ _ ?_
  simp only [powered]
  split <;> exact hp

/-! The time limits (R99, R363, R365). -/

theorem exec_unlockTimeout (s : State) : exec .unlockTimeout s = .next (unlockTimeout s) := rfl
theorem exec_relockExpiry (s : State) : exec .relockExpiry s = .next (relockExpiry s) := rfl
theorem exec_lockoutEnd (s : State) : exec .lockoutEnd s = .next (lockoutEnd s) := rfl

theorem unlockTimeout_eq (s : State) : unlockTimeout s = if s.sec.chal.isSome = true ∧ 2 ^ 24 ≤ s.sec.chalAge then
    { s with sec := { s.sec with chal := none, result := 8 } } else s := by
  unfold unlockTimeout
  by_cases h : s.sec.chal.isSome = true ∧ 2 ^ 24 ≤ s.sec.chalAge
  · rw [if_pos h, if_pos (by simpa using h)]
    exact if_pos h.1
  · rw [if_neg h, if_neg (by simpa using h)]

theorem relockExpiry_of_due {s : State} (hraised : 0 < s.sec.level) (hk : 0 < crf s 0xC8 4 4)
    (hage : 2 ^ (crf s 0xC8 4 4 + 20) ≤ s.sec.raisedAge) : relockExpiry s = relock s.sec.channel s :=
  if_pos (by simp [hraised, hk, hage])

theorem relockExpiry_of_early {s : State}
    (h : s.sec.level = 0 ∨ crf s 0xC8 4 4 = 0 ∨ s.sec.raisedAge < 2 ^ (crf s 0xC8 4 4 + 20)) : relockExpiry s = s :=
  if_neg (by rcases h with h | h | h <;> simp [h])

/-! UNLOCK's rows. -/

theorem exec_unlockRequest (data : Word) (be : ByteEn) (s : State) :
    exec (.unlockRequest data be) s = .next (leave ⟨0xFC, data, be⟩ (applyUnlock data) s) := rfl

theorem exec_unlockResponse (data : Word) (be : ByteEn) (s : State) : exec (.unlockResponse data be) s =
    .next (leave ⟨0xFC, data, be⟩ (fun s => if s.sec.chal.isSome then applyUnlock data s else s) s) := rfl

theorem exec_unlockRelock (be : ByteEn) (s : State) :
    exec (.unlockRelock be) s = .next (leave ⟨0xFC, 0x554C0000, be⟩ (applyUnlock 0x554C0000) s) := rfl

/-- Settles O34: a request, a response and a relock each act on the machine that their write has left, whose exchange is as before. -/
theorem unlockExchange : Obligations.UnlockExchange := by
  refine ⟨fun lvl s h1 h3 hr ho hidle => ?_, fun data chal s hr ho hchal hchannel hrelock => ?_, fun s hr ho => ?_, fun s => ?_,
    fun s => ⟨fun hraised hk hage => ?_, fun h => ?_⟩, fun s => exec_lockoutEnd s⟩
  · have hp : powered (popped s) = true := (powered_popped s).trans (reaches_powered hr)
    have idle : (popped s).sec.chal = none := by simpa using hidle
    have row : exec (.unlockRequest (requestWord lvl) allBe) s = .next (unlockAsk 0 lvl (popped s)) := by
      rw [exec_unlockRequest, leave_reaches ⟨0xFC, requestWord lvl, allBe⟩ _ s hr ho, applyUnlock_of_request h1 h3 idle]
    obtain ⟨level, channel, kept, permitted, refused⟩ := unlockAsk_sec (lvl := lvl) hp idle
    have others : onlyReports s { unlockAsk 0 lvl (popped s) with sec := s.sec } := by simp [onlyReports]
    refine ⟨_, row, ?_⟩
    obtain ⟨post, waiting, hpop⟩ := popped_buffer s
    rw [hpop] at level channel kept permitted refused others ⊢
    exact ⟨level, channel, kept, permitted, refused, others⟩
  · have chal' : (popped s).sec.chal = some chal := by simpa using hchal
    have row : exec (.unlockResponse data allBe) s = .next (unlockAnswer data (popped s)) := by
      rw [exec_unlockResponse, leave_reaches _ _ s hr ho, if_pos (by rw [chal']; rfl),
        applyUnlock_of_response chal' (by simpa using hchannel) hrelock]
    obtain ⟨ended, right, wrong⟩ := unlockAnswer_sec (data := data) chal'
    have others : onlyReports s { unlockAnswer data (popped s) with sec := s.sec } := by simp [onlyReports]
    refine ⟨_, row, ?_⟩
    obtain ⟨post, waiting, hpop⟩ := popped_buffer s
    rw [hpop] at ended right wrong others ⊢
    exact ⟨ended, right, wrong, others⟩
  · have row : exec (.unlockRelock allBe) s = .next (relock 0 (popped s)) := by
      rw [exec_unlockRelock, leave_reaches _ _ s hr ho, applyUnlock, if_pos rfl]
    obtain ⟨level, chal, result, ovr⟩ := relock_sec 0 (popped s)
    have kind := relock_lastKind 0 ((powered_popped s).trans (reaches_powered hr))
    exact ⟨_, row, level, chal, result, kind, ovr, by simp [onlyReports]⟩
  · rw [exec_unlockTimeout, unlockTimeout_eq]
  · obtain ⟨level, chal, result, -⟩ := relock_sec s.sec.channel s
    refine ⟨_, exec_relockExpiry s, ?_⟩
    rw [relockExpiry_of_due hraised hk hage]
    exact ⟨level, result, chal, by simp [onlyReports]⟩
  · rw [exec_relockExpiry, relockExpiry_of_early h]

end Sys2Proof.Machine
end

section
/-! PROOFS. The table port: a fetch and its end, failed accesses, a read of a latched word, and the commit of a mode register (04, 09,
R41, R90 to R94). -/

namespace Sys2Proof.Machine

/-! TBL_ADDR and the end of a fetch (R90). -/

theorem exec_tblAddrWrite (data : Word) (be : ByteEn) (s : State) :
    exec (.tblAddrWrite data be) s = .next (leave ⟨0x28, data, be⟩ (applyTblAddr data) s) := rfl

theorem exec_tableFetchDone (s : State) : exec .tableFetchDone s = .next (fetchDone s) := rfl

/-- t may differ from s in the blocks that no report touches. -/
theorem Reports.of_blocks {s t : State} (fr : t.fr = s.fr) (host : t.host = s.host) (ring : t.ring = s.ring) (scout : t.scout = s.scout)
    (top : t.top = s.top) (weave : t.weave = s.weave) (tally : t.tally = s.tally) : Reports s t := by
  simp [Reports, fr, host, ring, scout, top, weave, tally]

/-- A fetch's reads may be reported. -/
theorem readWord_reports (w : Nat) (s : State) : Reports s (readWord w s).2 := by
  unfold readWord
  split
  · exact tally_reports _ _ _ s
  · split
    · exact tally_reports _ _ _ s
    · exact .refl s

theorem logRead_reports (p : Nat × Record) (y : Bool) (s : State) : Reports s (logRead p y s).2 := by
  unfold logRead
  extract_lets first
  have read := readWord_reports (logOff p.1 y first / 8) s
  split
  next h => rwa [h] at read
  next h =>
    rw [h] at read
    split
    · exact read
    · exact read.trans (readWord_reports _ _)

theorem logFetch_reports (idx : Nat) (s : State) : Reports s (logFetch idx s).2 := by
  unfold logFetch
  split
  · extract_lets x y
    have read : Reports s y.2 := (logRead_reports _ false s).trans (logRead_reports _ true x.2)
    split <;> exact read
  · exact .refl s

theorem modLost_reports (i : Nat) (f : Lost → Lost) (s : State) : Reports s (modLost i f s) := by
  unfold modLost
  split <;> exact .of_blocks rfl rfl rfl rfl rfl rfl rfl

theorem storeRead_reports (tid idx w : Nat) (s : State) : Reports s (storeRead tid idx w s).2 := by
  unfold storeRead
  extract_lets a k
  split
  · split
    · split
      · exact tally_reports _ _ _ s
      · split
        · exact (modLost_reports _ _ s).trans (tally_reports _ _ _ _)
        · exact .refl s
    · exact .refl s
  · split
    · exact tally_reports _ _ _ s
    · split
      · exact .trans (.of_blocks rfl rfl rfl rfl rfl rfl rfl) (tally_reports _ _ _ _)
      · exact .refl s

/-- The reads of an entry's words, whether one was uncorrectable. -/
def readStored (tid idx : Nat) (a : Bool × State) (w : Nat) : Bool × State :=
  let x := storeRead tid idx w a.2
  (a.1 || x.1, x.2)

theorem readStored_reports (tid idx : Nat) : ∀ (ws : List Nat) (a : Bool × State), Reports a.2 (ws.foldl (readStored tid idx) a).2
  | [], a => .refl a.2
  | w :: ws, a => (storeRead_reports tid idx w a.2).trans (readStored_reports tid idx ws (readStored tid idx a w))

theorem entryFetch_reports (hi : BitVec 16) (tid idx : Nat) (s : State) : Reports s (entryFetch hi tid idx s).2 := by
  unfold entryFetch
  split
  · exact logFetch_reports idx s
  · exact readStored_reports tid idx _ (false, s)

/-! What a sound entry's fetch leaves. -/

/-- A word with no error of its own reads as it stands. -/
theorem storeRead_of_sound {tid idx w : Nat} {s : State} (h12 : tid ≠ 12)
    (hsound : storeKey s tid idx w ∉ s.conf.tblUe ∧ storeKey s tid idx w ∉ s.conf.tblCe) : storeRead tid idx w s = (false, s) := by
  obtain ⟨hue, hce⟩ := hsound
  simp [storeRead, h12, hue, hce]

theorem entryFetch_of_stored {hi : BitVec 16} {tid idx : Nat} {s : State} (h13 : tid ≠ 13) : entryFetch hi tid idx s =
    let r := (List.range (tblWords tid)).foldl (readStored tid idx) (false, s)
    (if r.1 then none else some (tblEntry r.2 hi tid idx), r.2) := if_neg h13

theorem entryFetch_of_sound {hi : BitVec 16} {tid idx : Nat} {s : State} (h12 : tid ≠ 12) (h13 : tid ≠ 13)
    (hsound : ∀ w, storeKey s tid idx w ∉ s.conf.tblUe ∧ storeKey s tid idx w ∉ s.conf.tblCe) :
    entryFetch hi tid idx s = (some (tblEntry s hi tid idx), s) := by
  have reads : ∀ ws : List Nat, ws.foldl (readStored tid idx) (false, s) = (false, s) := by
    intro ws
    induction ws with
    | nil => rfl
    | cons w ws ih =>
      have first : readStored tid idx (false, s) w = (false, s) := by rw [readStored, storeRead_of_sound h12 (hsound w)]; rfl
      rw [List.foldl_cons, first, ih]
  rw [entryFetch_of_stored h13, reads]
  rfl

/-- With no byte staged, a refreshed latch is the entry as it stands. -/
theorem refreshWords_of_unstaged (old new : List Word) : refreshWords old [] new = new := by
  have keep : ∀ x y : Word, mergeBits x y (beMask 0) = x := fun x y => by
    have noByte : ~~~beMask 0 = BitVec.allOnes 32 ∧ beMask 0 = 0 := by decide
    rw [mergeBits, noByte.1, noByte.2, BitVec.and_allOnes]
    simp
  simp only [refreshWords, List.getD_nil, keep]
  exact List.zipIdx_map_fst 0 new

/-- The port idles, with no byte staged. -/
def fetched (s : State) : State := { s with host := { s.host with tblBusy := false, stagedBe := [] } }

theorem fetchDone_of_busy {s : State} (h : s.host.tblBusy = true) : fetchDone s = latchFill (fetched s) := if_pos h

theorem fetchDone_of_idle {s : State} (h : s.host.tblBusy = false) : fetchDone s = s := if_neg (by simp [h])

theorem latchFill_tblBusy (s : State) : (latchFill s).host.tblBusy = s.host.tblBusy := by
  unfold latchFill
  extract_lets h r
  have kept : r.2.host.tblBusy = s.host.tblBusy := by
    obtain ⟨-, host, -⟩ := entryFetch_reports s.fr.latchHi h.tblTid h.tblIdx s
    rw [host]
  split
  · rfl
  · split <;> exact kept

/-- A fetch that meets no error latches the entry as it stands, and does nothing else. -/
theorem latchFill_of_sound {s : State} (hcode : tblCode s s.host.tblTid s.host.tblIdx = 0) (h12 : s.host.tblTid ≠ 12)
    (h13 : s.host.tblTid ≠ 13) (hsound : ∀ w, storeKey s s.host.tblTid s.host.tblIdx w ∉ s.conf.tblUe ∧
      storeKey s s.host.tblTid s.host.tblIdx w ∉ s.conf.tblCe) (hstaged : s.host.stagedBe = []) :
    latchFill s = { s with host := { s.host with
      latch := tblEntry s s.fr.latchHi s.host.tblTid s.host.tblIdx, latchUe := false } } := by
  rw [latchFill, if_neg (by simp [hcode]), entryFetch_of_sound h12 h13 hsound, hstaged]
  simp only [refreshWords_of_unstaged]

theorem tblEntry_fetched (s : State) (hi : BitVec 16) (tid idx : Nat) : tblEntry (fetched s) hi tid idx = tblEntry s hi tid idx := rfl

/-! Accesses of the latched entry (R91, R94). -/

theorem exec_tblDataWrite (data : Word) (be : ByteEn) (s : State) :
    exec (.tblDataWrite data be) s = .next (leaveTblData data be s) := rfl

theorem readTblData_of_failed {s : State} (h : accessCode s ≠ 0) : readTblData s = (0, tblFail (accessCode s) s) := by
  unfold readTblData
  split
  next hcode => exact absurd hcode h
  next => rfl

/-- A latched word that is not live is read from the latch. -/
theorem readTblData_of_latched {s : State} (hcode : accessCode s = 0) (hword : s.host.tblWord ≠ 0) (hue : s.host.latchUe = false)
    (hrc : rcMask s.host.tblTid s.host.tblIdx s.host.tblWord = 0) :
    readTblData s = (s.host.latch.getD s.host.tblWord 0, tblAdvance s) := by
  simp [readTblData, hcode, hword, hue, liveWord, hrc]

theorem applyTblData_of_failed {data : Word} {be : ByteEn} {s : State} (h : accessCode s ≠ 0) :
    applyTblData data be s = tblFail (accessCode s) s := by
  unfold applyTblData
  split
  next hcode => exact absurd hcode h
  next => rfl

theorem applyTblData_of_readOnly {data : Word} {be : ByteEn} {s : State} (hcode : accessCode s = 0)
    (hro : roTable s.host.tblTid = true) : applyTblData data be s = tblFail 3 s := by
  simp [applyTblData, hcode, hro]

theorem applyTblData_of_writable {data : Word} {be : ByteEn} {s : State} (hcode : accessCode s = 0)
    (hro : roTable s.host.tblTid = false) (hword : roWord s.host.tblTid s.host.tblIdx s.host.tblWord = false)
    (h5 : s.host.tblTid ≠ 5) : applyTblData data be s = tblAdvance (stageData data be s) := by
  simp [applyTblData, hcode, hro, hword, h5]

/-- The port holds a whole word staged no longer: it has gone to its commit. -/
def unstaged (data : Word) (s : State) : State := { s with host := { s.host with latch := [data], stagedBe := [] } }

/-- A whole write to an entry of one word commits it. -/
theorem stageData_of_oneWord {data : Word} {s : State} (hone : tblWords s.host.tblTid = 1) (hword : s.host.tblWord = 0) :
    stageData data allBe s = commitEntry s.host.tblTid s.host.tblIdx [(data, allBe)] (unstaged data s) := by
  have whole : ∀ be : ByteEn, be ||| allBe = allBe := by decide
  simp [stageData, hone, hword, mergeBe, mergeBits_allBe, whole, unstaged]

/-! The mode registers (R41, R215). -/

/-- The indexes of DDRMR whose word is one I-class field. -/
def modeIndexes : List Nat := [0, 1, 2, 3, 4, 5, 6, 8, 13, 14, 16]

/-- The field of such an index. -/
def modeField (i : Nat) : FDesc :=
  if i ≤ 6 then ⟨10, 0, 6, 0, 0, 18, .idle⟩ else if i = 8 then ⟨10, 8, 8, 0, 0, 21, .idle⟩
  else if i = 16 then ⟨10, 16, 16, 0, 0, 21, .idle⟩ else ⟨10, 13, 14, 0, 0, 18, .idle⟩

theorem modeField_only : ∀ i ∈ modeIndexes, touched 10 i 0 (beMask allBe) = [modeField i] ∧ (modeField i).tid = 10 ∧
    (modeField i).word = 0 ∧ (modeField i).lo = 0 ∧ 18 ≤ (modeField i).width ∧ (modeField i).width ≤ 32 ∧
    (modeField i).cls = .idle ∧ roWord 10 i 0 = false := by decide

theorem modeField_takes {i v : Nat} (hi : i ∈ modeIndexes) (s : State) : fieldTakes s false i (modeField i, v) = !ddrBusy s := by
  simp only [modeIndexes, List.mem_cons, List.not_mem_nil, or_false] at hi
  rcases hi with rfl | rfl | rfl | rfl | rfl | rfl | rfl | rfl | rfl | rfl | rfl <;>
    simp [fieldTakes, reservedValue, modeField, fieldBusy]

theorem wordEffects_mode {i : Nat} (hi : i ∈ modeIndexes) (w : Nat) (data mask : Word) (s : State) :
    wordEffects 10 i w data mask s = s := by
  simp only [modeIndexes, List.mem_cons, List.not_mem_nil, or_false] at hi
  rcases hi with rfl | rfl | rfl | rfl | rfl | rfl | rfl | rfl | rfl | rfl | rfl <;> rfl

theorem storeWrite_whole (tid idx w : Nat) (s : State) :
    storeWrite tid idx w allBe s = (true, storeMark (storeKey s tid idx w) s) := by simp [storeWrite]

/-- The commit of a mode register: its one field takes its value or is dropped. -/
theorem commitEntry_mode {i : Nat} (hi : i ∈ modeIndexes) (data : Word) (s : State) :
    commitEntry 10 i [(data, allBe)] s =
      if ddrBusy s then reject 0x2C 10 (readyCheck (storeMark (storeKey s 10 i 0) s))
      else readyCheck (putField false i (storeMark (storeKey s 10 i 0) s) (modeField i, fld data 0 (modeField i).width)) := by
  obtain ⟨fields, -, -, lo, -⟩ := modeField_only i hi
  have enabled : ¬ allBe = 0#4 := by decide
  have takes := modeField_takes (v := fld data 0 (modeField i).width) hi s
  cases hbusy : ddrBusy s <;> rw [hbusy] at takes <;>
    simp [commitEntry, List.zipIdx_cons, enabled, storeWrite_whole, fields, lo, takes, wordEffects_mode hi]

/-- What the check of the mode registers' legality leaves (R212). -/
theorem readyCheck_reports (s : State) : Reports s (readyCheck s) := by
  unfold readyCheck
  extract_lets r _ s1
  have checked : Reports s s1 := .of_blocks rfl rfl rfl rfl rfl rfl rfl
  exact .ite (checked.trans (tally_reports _ _ _ _)) checked

theorem reject_filt (off tid : Nat) (s : State) : (reject off tid s).scout.filt = s.scout.filt := by
  unfold reject
  extract_lets _ s1
  obtain ⟨-, -, -, scout, -⟩ := (setInt_reports 14 s1).trans (tally_reports 0x0C 1 (BitVec.ofNat 32 (off + tid * 2 ^ 24)) _)
  rw [scout]

theorem readyCheck_filt (s : State) : (readyCheck s).scout.filt = s.scout.filt := by
  obtain ⟨-, -, -, scout, -⟩ := readyCheck_reports s
  rw [scout]

theorem storeMark_kept (k : Nat) (s : State) : (storeMark k s).conf.cur = s.conf.cur ∧ (storeMark k s).conf.shadow = s.conf.shadow ∧
    (storeMark k s).scout = s.scout := by
  simp [storeMark, injectUse]

theorem putField_cwShadow {d : FDesc} {idx v : Nat} (image : Bool) (s : State) :
    cwShadow (putField image idx s (d, v)) d.tid idx d.word = putBits (d, v) (cwShadow s d.tid idx d.word) :=
  Sparse.get_modify resetWord s.conf.shadow _ _

/-- Low bits of a word by its truncation. -/
theorem fld_zero (x : Word) (n : Nat) : fld x 0 n = (x.truncate n).toNat := by simp [fld]

theorem cw_congr {s t : State} (h : t.conf.cur = s.conf.cur) (tid idx w : Nat) : cw t tid idx w = cw s tid idx w := by
  rw [cw, h, cw]

theorem cwShadow_congr {s t : State} (h : t.conf.shadow = s.conf.shadow) (tid idx w : Nat) :
    cwShadow t tid idx w = cwShadow s tid idx w := by
  rw [cwShadow, h, cwShadow]

/-- The words of a commit, in force and as written last, and all that it leaves. -/
theorem commitEntry_mode_words {i : Nat} (hi : i ∈ modeIndexes) (data : Word) (s : State) :
    let t := commitEntry 10 i [(data, allBe)] s
    (ddrBusy s = false → fld (cw t 10 i 0) 0 18 = fld data 0 18 ∧ fld (cwShadow t 10 i 0) 0 18 = fld data 0 18) ∧
      (ddrBusy s = true → cw t 10 i 0 = cw s 10 i 0 ∧ t.top.reject = true ∧ t.top.lastRej = 0x2C) ∧
      (∀ k, k ≠ ckey 10 i 0 → Sparse.get resetWord t.conf.cur k = Sparse.get resetWord s.conf.cur k) ∧
      t.arr = s.arr ∧ t.adm = s.adm ∧ t.store = s.store ∧ t.scout.filt = s.scout.filt := by
  intro t
  have ht : t = _ := commitEntry_mode hi data s
  obtain ⟨cur, shadow, scout⟩ := storeMark_kept (storeKey s 10 i 0) s
  cases hbusy : ddrBusy s with
  | true =>
    rw [hbusy, if_pos rfl] at ht
    have conf : t.conf.cur = s.conf.cur := by rw [ht]; simpa using cur
    obtain ⟨marked, lastRej⟩ := reject_marks 0x2C 10 (readyCheck (storeMark (storeKey s 10 i 0) s))
    refine ⟨nofun, fun _ => ⟨cw_congr conf 10 i 0, by rw [ht]; exact marked, by rw [ht]; exact lastRej⟩, fun k _ => by rw [conf], ?_⟩
    rw [ht, reject_filt, readyCheck_filt, scout]
    simp
  | false =>
    rw [hbusy, if_neg Bool.false_ne_true] at ht
    obtain ⟨-, htid, hword, hlo, hwidth, hmax, hcls, -⟩ := modeField_only i hi
    have conf : t.conf = (putField false i (storeMark (storeKey s 10 i 0) s) (modeField i, fld data 0 (modeField i).width)).conf := by
      rw [ht]; simp
    have low : ∀ w : Word, fld (putBits (modeField i, fld data 0 (modeField i).width) w) 0 18 = fld data 0 18 := fun w => by
      rw [fld_zero (putBits _ w) 18, fld_zero data 18, putBits_truncate data w hlo hwidth hmax]
    have word := putField_cw (d := modeField i) (idx := i) (v := fld data 0 (modeField i).width) (storeMark (storeKey s 10 i 0) s)
      (by rw [hcls]; decide)
    have written := putField_cwShadow (d := modeField i) (idx := i) (v := fld data 0 (modeField i).width) false
      (storeMark (storeKey s 10 i 0) s)
    rw [htid, hword] at word written
    have others : ∀ k, k ≠ ckey 10 i 0 → Sparse.get resetWord t.conf.cur k = Sparse.get resetWord s.conf.cur k := fun k hk => by
      rw [conf, putField_others (d := modeField i) _ (by rwa [htid, hword]), cur]
    refine ⟨fun _ => ⟨?_, ?_⟩, nofun, others, ?_⟩
    · rw [cw_congr (congrArg Conf.cur conf), word, low]
    · rw [cwShadow_congr (congrArg Conf.shadow conf), written, low]
    · rw [ht, readyCheck_filt]
      simp [scout]

/-- An access that does not fail is of one of the entry's words (R94). -/
theorem accessCode_word {s : State} (h : accessCode s = 0) : s.host.tblWord < tblWords s.host.tblTid := by
  unfold accessCode at h
  extract_lets c at h
  by_contra hword
  by_cases hc : c = 0
  · simp [hc, Nat.le_of_not_lt hword] at h
  · simp [hc] at h

/-- A whole TBL_DATA write: it fails with its code, or commits a mode register. -/
theorem applyTblData_applied (data : Word) (s : State) : let t := applyTblData data allBe s
    (accessCode s ≠ 0 → t.host.tblCode = accessCode s ∧ t = { s with host := t.host }) ∧
      (accessCode s = 0 → s.host.tblTid ∈ [8, 9, 12, 13] → t.host.tblCode = 3 ∧ t = { s with host := t.host }) ∧
      (∀ i, i ∈ modeIndexes → accessCode s = 0 → s.host.tblTid = 10 → s.host.tblIdx = i →
        (ddrBusy s = false → fld (cw t 10 i 0) 0 18 = fld data 0 18 ∧ fld (cwShadow t 10 i 0) 0 18 = fld data 0 18) ∧
        (ddrBusy s = true → cw t 10 i 0 = cw s 10 i 0 ∧ t.top.reject = true ∧ t.top.lastRej = 0x2C) ∧
        (∀ k, k ≠ ckey 10 i 0 → Sparse.get resetWord t.conf.cur k = Sparse.get resetWord s.conf.cur k) ∧
        t.arr = s.arr ∧ t.adm = s.adm ∧ t.store = s.store ∧ t.scout.filt = s.scout.filt) := by
  intro t
  refine ⟨fun hcode => ?_, fun hcode htid => ?_, fun i hi hcode htid hidx => ?_⟩
  · have ht : t = tblFail (accessCode s) s := applyTblData_of_failed hcode
    rw [ht]
    exact ⟨rfl, rfl⟩
  · have ro : roTable s.host.tblTid = true := by
      simp only [List.mem_cons, List.not_mem_nil, or_false] at htid
      rcases htid with h | h | h | h <;> rw [h] <;> rfl
    have ht : t = tblFail 3 s := applyTblData_of_readOnly hcode ro
    rw [ht]
    exact ⟨rfl, rfl⟩
  · have first : s.host.tblWord = 0 := by
      have := accessCode_word hcode
      rw [htid] at this
      exact Nat.lt_one_iff.1 this
    obtain ⟨-, -, -, -, -, -, -, writable⟩ := modeField_only i hi
    have ht : t = tblAdvance (commitEntry 10 i [(data, allBe)] (unstaged data s)) := by
      have staged := stageData_of_oneWord (data := data) (s := s) (by rw [htid]; rfl) first
      rw [htid, hidx] at staged
      rw [← staged]
      exact applyTblData_of_writable hcode (by rw [htid]; rfl) (by rw [htid, hidx, first]; exact writable) (by rw [htid]; decide)
    have committed := commitEntry_mode_words hi data (unstaged data s)
    have advanced : ∀ u : State, (tblAdvance u).conf = u.conf ∧ (tblAdvance u).top = u.top ∧ (tblAdvance u).arr = u.arr ∧
        (tblAdvance u).adm = u.adm ∧ (tblAdvance u).store = u.store ∧ (tblAdvance u).scout = u.scout := fun u => by simp
    obtain ⟨conf, top, arr, adm, store, scout⟩ := advanced (commitEntry 10 i [(data, allBe)] (unstaged data s))
    rw [ht, cw_congr (congrArg Conf.cur conf), cwShadow_congr (congrArg Conf.shadow conf), conf, top, arr, adm, store, scout]
    exact committed

/-- A TBL_DATA read of the port at rest: a failed access reads 0, a latched word reads as latched. -/
theorem exec_tblDataRead_of_idle {s : State} (hbusy : s.host.tblBusy = false) (hup : accessUp s = true) (hpost : s.host.post = []) :
    exec .tblDataRead s = .next { (readTblData s).2 with
      host := { (readTblData s).2.host with hd := (readTblData s).1 }, free := (readTblData s).2.free + 1 } := by
  rw [exec_tblDataRead, if_neg (by simp [hbusy]), busRead_ready _ s hup hpost]

/-- Settles O32: a write of TBL_ADDR or TBL_DATA acts on the machine that it has left, whose port is as before. -/
theorem tablePort : Obligations.TablePort := by
  refine ⟨fun data s hr ho => ?_, fun s hbusy => ?_, fun s hbusy => ?_, fun s hbusy => ?_, fun s hbusy hup hpost => ?_,
    fun data s hbusy hr ho => ?_⟩
  · refine ⟨_, (exec_tblAddrWrite data allBe s).trans (congrArg Host.Outcome.next (leave_reaches _ _ s hr ho)), ?_⟩
    obtain ⟨post, waiting, hpop⟩ := popped_buffer s
    rw [hpop]
    exact ⟨rfl, rfl, rfl, rfl, rfl, rfl⟩
  · refine ⟨_, exec_tableFetchDone s, ?_⟩
    rw [fetchDone_of_busy hbusy]
    refine ⟨latchFill_tblBusy (fetched s), fun hcode h12 h13 hsound => ?_⟩
    have latched : latchFill (fetched s) = _ := latchFill_of_sound (s := fetched s) hcode h12 h13 hsound rfl
    rw [latched, tblEntry_fetched]
    exact ⟨rfl, rfl⟩
  · rw [exec_tableFetchDone, fetchDone_of_idle hbusy]
  · rw [exec_tblDataRead, if_pos hbusy]
  · refine ⟨_, exec_tblDataRead_of_idle hbusy hup hpost, fun hcode => ?_, fun hcode hword hue hrc => ?_⟩
    · rw [readTblData_of_failed hcode]
      exact ⟨rfl, rfl, rfl, rfl⟩
    · rw [readTblData_of_latched hcode hword hue hrc]
  · have row : exec (.tblDataWrite data allBe) s = .next (applyTblData data allBe (popped s)) := by
      rw [exec_tblDataWrite, leaveTblData, if_neg (by simp [hbusy]), leave_reaches _ _ s hr ho]
    have applied := applyTblData_applied data (popped s)
    refine ⟨_, row, ?_⟩
    obtain ⟨post, waiting, hpop⟩ := popped_buffer s
    rw [hpop] at applied ⊢
    exact applied

end Sys2Proof.Machine
end

section
/-! PROOFS. The host's ring registers: RING_SEL, RING_PORT both ways, RING_DOORBELL, and the resets of a ring (05, R106, R110, R112,
log entries 52 and 53). -/

namespace Sys2Proof.Machine

/-! The four rows, on the machine that the write has left. -/

theorem exec_ringSelWrite (data : Word) (be : ByteEn) (s : State) :
    exec (.ringSelWrite data be) s = .next (leave ⟨0x34, data, be⟩ (applyRingSel data be) s) := rfl
theorem exec_ringPortWrite (data : Word) (be : ByteEn) (s : State) :
    exec (.ringPortWrite data be) s = .next (leave ⟨0x38, data, be⟩ (applyRingPort data) s) := rfl
theorem exec_ringPortRead (s : State) : exec .ringPortRead s = .next (busRead readRingPort s) := rfl
theorem exec_ringDoorbellWrite (data : Word) (be : ByteEn) (s : State) :
    exec (.ringDoorbellWrite data be) s = .next (leave ⟨0x3C, data, be⟩ (applyDoorbell data) s) := rfl
theorem exec_ringReset (r : Nat) (s : State) : exec (.ringReset r) s = .next (ringReset r s) := rfl

@[simp] theorem ringOf_popped (s : State) (r : Nat) : ringOf (popped s) r = ringOf s r := by simp [ringOf]
@[simp] theorem selRing_popped (s : State) : selRing (popped s) = selRing s := by simp [selRing, crf, cr, cw]

theorem rUsable_congr {s u : State} (h : u.conf = s.conf) (r : Nat) : rUsable u r = rUsable s r :=
  show rUsable { s with conf := u.conf } r = rUsable s r by rw [h]

/-- AVAIL rests on the tables, on the ring and on its tenant (R111). -/
theorem avail_congr {s u : State} (conf : u.conf = s.conf) (ring : u.ring = s.ring) (r : Nat) : avail u r = avail s r := by
  simp [avail, rUsable_congr conf, occupancy, pendingOf, rDepth, tPendMax, ringOf, tenOf, cw, conf, ring]

@[simp] theorem rUsable_popped (s : State) (r : Nat) : rUsable (popped s) r = rUsable s r := rUsable_congr (by simp) r
@[simp] theorem avail_popped (s : State) (r : Nat) : avail (popped s) r = avail s r := avail_congr (by simp) (by simp) r

@[simp] theorem portErr_marks (c : Nat) (s : State) : (portErr c s).ring = { s.ring with portErr := true, cause := c } := rfl
@[simp] theorem portErr_ringOf (c : Nat) (s : State) (r : Nat) : ringOf (portErr c s) r = ringOf s r := rfl

/-! RING_SEL. -/

/-- What a write of RING_SEL does to the ring that was selected: its part entry, or its read place, goes (R110). -/
def partDropped (s : State) : State :=
  if selRing s % 4 = 3 then modRing (selRing s) (fun g => { g with rdWord := 0 }) s
  else if (ringOf s (selRing s)).part.isEmpty then s
  else portErr 3 (modRing (selRing s) (fun g => { g with part := [], partUe := [], partCe := [] }) s)

theorem applyRingSel_eq (data : Word) (s : State) : applyRingSel data allBe s = { partDropped s with conf := { (partDropped s).conf with
    cur := Sparse.put resetWord (partDropped s).conf.cur (ckey 0 0 (0x34 / 4)) (data &&& 0xFF)
    shadow := Sparse.put resetWord (partDropped s).conf.shadow (ckey 0 0 (0x34 / 4)) (data &&& 0xFF) } } := by
  have low : allBe.getLsbD 0 = true := by decide
  unfold applyRingSel
  rw [if_pos low]
  rfl

theorem applyRingSel_ring (data : Word) (s : State) : (applyRingSel data allBe s).ring = (partDropped s).ring := by
  rw [applyRingSel_eq]

/-- RING_SEL's byte comes into force as written. -/
theorem applyRingSel_selRing (data : Word) (s : State) : selRing (applyRingSel data allBe s) = fld data 0 8 := by
  have low : fld (data &&& 0xFF) 0 8 = fld data 0 8 := by
    have mask : data.toNat &&& 255 = data.toNat % 2 ^ 8 := Nat.and_two_pow_sub_one_eq_mod data.toNat 8
    simp only [fld, BitVec.toNat_and]
    change (data.toNat &&& 255) / 2 ^ 0 % 2 ^ 8 = _
    rw [mask]
    omega
  have put : cr (applyRingSel data allBe s) 0x34 = data &&& 0xFF := by
    rw [applyRingSel_eq]
    exact Sparse.get_put _ _ _ _
  rw [selRing, crf, put, low]

theorem partDropped_others (s : State) : partDropped s = { s with ring := (partDropped s).ring } := by
  unfold partDropped
  split <;> [rfl; (split <;> rfl)]

/-- Neither touches an entry that is staged, published or unread. -/
theorem partDropped_queues (s : State) (r : Nat) : (ringOf (partDropped s) r).staged = (ringOf s r).staged ∧
    (ringOf (partDropped s) r).pub = (ringOf s r).pub ∧ (ringOf (partDropped s) r).unread = (ringOf s r).unread := by
  by_cases hr : r = selRing s
  · subst hr
    unfold partDropped
    split
    · rw [modRing_ringOf]; exact ⟨rfl, rfl, rfl⟩
    · split
      · exact ⟨rfl, rfl, rfl⟩
      · rw [portErr_ringOf, modRing_ringOf]; exact ⟨rfl, rfl, rfl⟩
  · have other : ringOf (partDropped s) r = ringOf s r := by
      unfold partDropped
      split <;> [skip; split] <;> simp only [portErr_ringOf, modRing_ringOf_ne _ s hr]
    rw [other]
    exact ⟨rfl, rfl, rfl⟩

/-- A part entry of a producer ring is discarded, and told (R110). -/
theorem partDropped_partial {s : State} (hproducer : selRing s % 4 ≠ 3) (hpart : (ringOf s (selRing s)).part ≠ []) :
    (partDropped s).ring.portErr = true ∧ (partDropped s).ring.cause = 3 ∧ (ringOf (partDropped s) (selRing s)).part = [] := by
  rw [partDropped, if_neg hproducer, if_neg (by simpa using hpart), portErr_ringOf, modRing_ringOf]
  exact ⟨rfl, rfl, rfl⟩

/-! A word written to RING_PORT (R110). -/

theorem applyRingPort_of_wrong (data : Word) {s : State} (h : rUsable s (selRing s) = false ∨ selRing s % 4 = 3) :
    applyRingPort data s = portErr 1 s := if_pos (by rcases h with h | h <;> simp [h])

/-- A ring whose DISCARD is set: its part entry is gone. -/
def discarding (r : Nat) (s : State) : State :=
  modRing r (fun g => { g with discard := true, part := [], partUe := [], partCe := [] }) s

theorem applyRingPort_of_full (data : Word) {s : State} (husable : rUsable s (selRing s) = true) (hproducer : selRing s % 4 ≠ 3)
    (hpart : (ringOf s (selRing s)).part = []) (havail : avail s (selRing s) = 0) :
    applyRingPort data s = portErr 0 (discarding (selRing s) s) := by
  unfold applyRingPort
  rw [if_neg (by simp [husable, hproducer]), if_pos (by simp [hpart, havail])]
  rfl

theorem injectUse_rings (chk : Nat) (s : State) : (injectUse chk s).1.ring = s.ring := by
  unfold injectUse
  split <;> rfl

/-- With credit a word joins the part entry, and the fourth completes it. -/
theorem applyRingPort_of_credit (data : Word) {s : State} (husable : rUsable s (selRing s) = true) (hproducer : selRing s % 4 ≠ 3)
    (hcredit : ¬((ringOf s (selRing s)).part = [] ∧ avail s (selRing s) = 0)) :
    ∃ f : Ring → Ring, applyRingPort data s = modRing (selRing s) f (injectUse 5 s).1 ∧
      ((ringOf s (selRing s)).part.length < 3 → ∀ g, (f g).part = (ringOf s (selRing s)).part ++ [data] ∧ (f g).staged = g.staged) ∧
      (∀ a b c, (ringOf s (selRing s)).part = [a, b, c] → ∀ g, (f g).part = [] ∧
        (f g).staged.map (fun x => [x.w0, x.w1, x.w2, x.w3]) = g.staged.map (fun x => [x.w0, x.w1, x.w2, x.w3]) ++ [[a, b, c, data]]) := by
  unfold applyRingPort
  rw [if_neg (by simp [husable, hproducer]), if_neg (by simpa using hcredit)]
  dsimp only
  split
  next a b c hpart =>
    refine ⟨_, rfl, fun hlt => absurd hlt (by simp [hpart]), fun a' b' c' hpart' g => ⟨rfl, ?_⟩⟩
    obtain ⟨rfl, rfl, rfl⟩ : a = a' ∧ b = b' ∧ c = c' := by simpa [hpart] using hpart'
    exact List.map_append
  next hpart => exact ⟨_, rfl, fun _ g => ⟨rfl, rfl⟩, fun a b c h => absurd h (hpart a b c)⟩

/-- A word written to RING_PORT concerns the selected ring alone. -/
theorem applyRingPort_ringOf_ne (data : Word) {s : State} {q : Nat} (h : q ≠ selRing s) :
    ringOf (applyRingPort data s) q = ringOf s q := by
  by_cases hwrong : rUsable s (selRing s) = false ∨ selRing s % 4 = 3
  · rw [applyRingPort_of_wrong data hwrong, portErr_ringOf]
  simp only [not_or, Bool.not_eq_false] at hwrong
  obtain ⟨husable, hproducer⟩ := hwrong
  by_cases hfull : (ringOf s (selRing s)).part = [] ∧ avail s (selRing s) = 0
  · obtain ⟨hpart, havail⟩ := hfull
    rw [applyRingPort_of_full data husable hproducer hpart havail, portErr_ringOf, discarding, modRing_ringOf_ne _ s h]
  · obtain ⟨f, took, -⟩ := applyRingPort_of_credit data husable hproducer hfull
    rw [took, modRing_ringOf_ne f _ h, ringOf, injectUse_rings, ringOf]

/-! A word read from RING_PORT (R110). -/

theorem readRingPort_of_wrong {s : State} (h : rUsable s (selRing s) = false ∨ selRing s % 4 ≠ 3) :
    readRingPort s = (0, portErr 1 s) := if_pos (by rcases h with h | h <;> simp [h])

theorem readRingPort_of_empty {s : State} (husable : rUsable s (selRing s) = true) (hevent : selRing s % 4 = 3)
    (hunread : (ringOf s (selRing s)).unread = []) : readRingPort s = (0, portErr 2 s) := by
  unfold readRingPort
  rw [if_neg (by simp [husable, hevent])]
  simp only [hunread]

/-- What the removal after word 3, or the step to the next word, makes of the ring. -/
def ringRead (g : Ring) : Ring :=
  if g.rdWord = 3 then { g with unread := g.unread.tail, rdWord := 0 } else { g with rdWord := g.rdWord + 1 }

theorem readRingPort_of_sound {s : State} {x : Entry} {rest : List Entry} (husable : rUsable s (selRing s) = true)
    (hevent : selRing s % 4 = 3) (hunread : (ringOf s (selRing s)).unread = x :: rest) (hue : x.ueW = []) (hce : x.ceW = [])
    (hword : (ringOf s (selRing s)).rdWord < 4) :
    (readRingPort s).1 = [x.w0, x.w1, x.w2, x.w3].getD (ringOf s (selRing s)).rdWord 0 ∧
      ringOf (readRingPort s).2 (selRing s) = ringRead (ringOf s (selRing s)) := by
  unfold readRingPort
  rw [if_neg (by simp [husable, hevent])]
  simp only [hunread, hue, hce, List.contains_nil, Bool.false_eq_true, if_false]
  constructor
  · generalize (ringOf s (selRing s)).rdWord = k at hword
    match k, hword with
    | 0, _ => rfl
    | 1, _ => rfl
    | 2, _ => rfl
    | 3, _ => rfl
  · by_cases hlast : (ringOf s (selRing s)).rdWord = 3
    · rw [if_pos hlast, modRing_ringOf, ringRead, if_pos hlast, hunread, List.tail_cons]
    · rw [if_neg hlast, modRing_ringOf, ringRead, if_neg hlast]

/-- A read leaves every other ring as it is. -/
theorem readRingPort_ringOf_ne {s : State} {q : Nat} (h : q ≠ selRing s) : ringOf (readRingPort s).2 q = ringOf s q := by
  have reported : ∀ (a : Word) (k : Nat) (t : State), ringOf (tally 0x14 k a t) q = ringOf t q := fun a k t =>
    (tally_reports 0x14 k a t).keepsWordAtomic.2.2.2.2.2.2.2.2 q
  have moved : ∀ (f : Ring → Ring) (t : State), ringOf (modRing (selRing s) f t) q = ringOf t q := fun f t => modRing_ringOf_ne f t h
  unfold readRingPort
  extract_lets r g
  split
  · rfl
  · split
    · rfl
    · extract_lets w s1
      have stepped : ringOf s1 q = ringOf s q := by unfold s1; split <;> exact moved _ s
      split
      · exact (reported _ 2 s1).trans stepped
      · split
        · exact (reported _ 1 _).trans ((moved _ s1).trans stepped)
        · exact stepped

/-! RING_DOORBELL (R112). -/

/-- DB_ERR sets, and is counted for its ring. -/
def dbErrSet (r : Nat) (s : State) : State :=
  modRing r (fun g => { g with dbErr := satInc 65535 g.dbErr }) { s with ring := { s.ring with dbErr := true } }

theorem applyDoorbell_of_zero {data : Word} (s : State) (h : fld data 8 8 = 0) : applyDoorbell data s = s := if_pos h

theorem applyDoorbell_of_unusable {data : Word} {s : State} (hn : fld data 8 8 ≠ 0) (h : rUsable s (fld data 0 8) = false) :
    applyDoorbell data s = dbErrSet (fld data 0 8) s := by
  unfold applyDoorbell
  rw [if_neg hn, if_pos (by simp [h])]
  rfl

/-- The entries that a host has read are taken from an EVENT ring. -/
def released (r n : Nat) (s : State) : State := modRing r (fun g => { g with unread := g.unread.drop n, rdWord := 0 }) s

theorem applyDoorbell_of_event {data : Word} {s : State} (hn : fld data 8 8 ≠ 0) (husable : rUsable s (fld data 0 8) = true)
    (hevent : fld data 0 8 % 4 = 3) : applyDoorbell data s = if (ringOf s (fld data 0 8)).unread.length < fld data 8 8
      then dbErrSet (fld data 0 8) (released (fld data 0 8) (fld data 8 8) s) else released (fld data 0 8) (fld data 8 8) s := by
  unfold applyDoorbell
  rw [if_neg hn, if_neg (by simp [husable]), if_pos hevent]
  rfl

/-- Staged entries with their places in publish order. -/
def numbered (first : Nat) (es : List Entry) : List Entry := es.zipIdx.map fun p => { p.1 with ord := first + p.2 }

theorem numbered_words (first : Nat) (es : List Entry) : (numbered first es).map (fun x => [x.w0, x.w1, x.w2, x.w3]) =
    es.map fun x => [x.w0, x.w1, x.w2, x.w3] := by
  have words : (fun x : Entry => [x.w0, x.w1, x.w2, x.w3]) ∘ (fun p : Entry × Nat => { p.1 with ord := first + p.2 }) =
      (fun x : Entry => [x.w0, x.w1, x.w2, x.w3]) ∘ Prod.fst := rfl
  rw [numbered, List.map_map, words, ← List.map_map, List.zipIdx_map_fst]

/-- The oldest n staged entries are published, as many as there are. -/
def published (r n : Nat) (s : State) : State :=
  modRing r (fun g => { g with
      fresh := g.fresh ++ numbered s.ring.pubSeq ((ringOf s r).staged.take n), staged := g.staged.drop n })
    { s with ring := { s.ring with pubSeq := s.ring.pubSeq + (numbered s.ring.pubSeq ((ringOf s r).staged.take n)).length } }

theorem applyDoorbell_of_producer {data : Word} {s : State} (hn : fld data 8 8 ≠ 0) (husable : rUsable s (fld data 0 8) = true)
    (hproducer : fld data 0 8 % 4 ≠ 3) : applyDoorbell data s = if (ringOf s (fld data 0 8)).staged.length < fld data 8 8
      then dbErrSet (fld data 0 8) (published (fld data 0 8) (fld data 8 8) s) else published (fld data 0 8) (fld data 8 8) s := by
  unfold applyDoorbell
  rw [if_neg hn, if_neg (by simp [husable]), if_neg hproducer]
  rfl

theorem dbErrSet_dbErr (r : Nat) (s : State) : (dbErrSet r s).ring.dbErr = true := rfl
theorem dbErrSet_ringOf (r : Nat) (s : State) :
    ringOf (dbErrSet r s) r = { ringOf s r with dbErr := satInc 65535 (ringOf s r).dbErr } := modRing_ringOf r _ _
theorem dbErrSet_ringOf_ne {r q : Nat} (s : State) (h : q ≠ r) : ringOf (dbErrSet r s) q = ringOf s q := modRing_ringOf_ne _ _ h
theorem released_ringOf (r n : Nat) (s : State) :
    ringOf (released r n s) r = { ringOf s r with unread := (ringOf s r).unread.drop n, rdWord := 0 } := modRing_ringOf r _ s
theorem released_ringOf_ne {r q : Nat} (n : Nat) (s : State) (h : q ≠ r) : ringOf (released r n s) q = ringOf s q :=
  modRing_ringOf_ne _ s h
theorem published_ringOf (r n : Nat) (s : State) : ringOf (published r n s) r = { ringOf s r with
      fresh := (ringOf s r).fresh ++ numbered s.ring.pubSeq ((ringOf s r).staged.take n), staged := (ringOf s r).staged.drop n } :=
  modRing_ringOf r _ _
theorem published_ringOf_ne {r q : Nat} (n : Nat) (s : State) (h : q ≠ r) : ringOf (published r n s) q = ringOf s q :=
  modRing_ringOf_ne _ _ h

theorem applyDoorbell_others (data : Word) (s : State) : applyDoorbell data s = { s with ring := (applyDoorbell data s).ring } := by
  unfold applyDoorbell
  dsimp only
  (repeat' split) <;> rfl

/-- A doorbell concerns the ring that it names alone. -/
theorem applyDoorbell_ringOf_ne {data : Word} {s : State} {q : Nat} (h : q ≠ fld data 0 8) :
    ringOf (applyDoorbell data s) q = ringOf s q := by
  by_cases hn : fld data 8 8 = 0
  · rw [applyDoorbell_of_zero s hn]
  cases husable : rUsable s (fld data 0 8) with
  | false => rw [applyDoorbell_of_unusable hn husable, dbErrSet_ringOf_ne s h]
  | true =>
    by_cases hevent : fld data 0 8 % 4 = 3
    · rw [applyDoorbell_of_event hn husable hevent]
      split <;> simp only [dbErrSet_ringOf_ne _ h, released_ringOf_ne _ s h]
    · rw [applyDoorbell_of_producer hn husable hevent]
      split <;> simp only [dbErrSet_ringOf_ne _ h, published_ringOf_ne _ s h]

section
variable {data : Word} {s : State} {r n : Nat} (hr : fld data 0 8 = r) (hn : fld data 8 8 = n) (hsome : n ≠ 0)
  (husable : rUsable s r = true)
include hr hn hsome husable

/-- A producer's doorbell: the published entries follow those of the frame, and a missing one sets DB_ERR. -/
theorem applyDoorbell_published (hproducer : r % 4 ≠ 3) :
    ((ringOf (applyDoorbell data s) r).staged = (ringOf s r).staged.drop n ∧ (ringOf (applyDoorbell data s) r).pub = (ringOf s r).pub ∧
      (ringOf (applyDoorbell data s) r).fresh = (ringOf s r).fresh ++ numbered s.ring.pubSeq ((ringOf s r).staged.take n)) ∧
      (applyDoorbell data s).ring.dbErr = (s.ring.dbErr || decide ((ringOf s r).staged.length < n)) := by
  subst hr hn
  rw [applyDoorbell_of_producer hsome husable hproducer]
  split
  next hfew =>
    rw [dbErrSet_ringOf, published_ringOf, dbErrSet_dbErr, decide_eq_true hfew, Bool.or_true]
    exact ⟨⟨rfl, rfl, rfl⟩, rfl⟩
  next henough =>
    rw [published_ringOf, decide_eq_false henough, Bool.or_false]
    exact ⟨⟨rfl, rfl, rfl⟩, rfl⟩

/-- An EVENT ring's doorbell: what is read leaves, and a missing entry sets DB_ERR. -/
theorem applyDoorbell_released (hevent : r % 4 = 3) :
    (ringOf (applyDoorbell data s) r).unread = (ringOf s r).unread.drop n ∧
      (applyDoorbell data s).ring.dbErr = (s.ring.dbErr || decide ((ringOf s r).unread.length < n)) := by
  subst hr hn
  rw [applyDoorbell_of_event hsome husable hevent]
  split
  next hfew =>
    rw [dbErrSet_ringOf, released_ringOf, dbErrSet_dbErr, decide_eq_true hfew, Bool.or_true]
    exact ⟨rfl, rfl⟩
  next henough =>
    rw [released_ringOf, decide_eq_false henough, Bool.or_false]
    exact ⟨rfl, rfl⟩

end

/-! RING_RESET and the resets of a boundary (R106). -/

theorem ringReset_of_open (r : Nat) {s : State} (hup : busUp s = true) (hwake : s.top.state ≠ .wake) (hwindow : s.top.window = false) :
    ringReset r s = askReset r s := if_pos (by simp [hup, hwake, hwindow])

theorem ringReset_of_closed (r : Nat) {s : State} (h : busUp s = false ∨ s.top.state = .wake ∨ s.top.window = true) :
    ringReset r s = s := if_neg (by rcases h with h | h | h <;> simp [h])

/-- A ring with its entries discarded and no reset asked for. -/
def Ring.emptied (g : Ring) : Ring :=
  { g with
    part := [], partUe := [], partCe := [], nextSlot := 0, staged := [], fresh := [], pub := [], unread := [], rdWord := 0
    discard := false, reset := 0 }

/-- The table of the rings after one reset. -/
theorem emptyRing_rings (r : Nat) (keep : Bool) (s : State) :
    (emptyRing r keep s).ring.rings = (modRing r Ring.emptied s).ring.rings := by
  unfold emptyRing
  dsimp only
  (repeat' split) <;> rfl

theorem emptyRing_ringOf (r : Nat) (keep : Bool) (s : State) (q : Nat) :
    ringOf (emptyRing r keep s) q = if q = r then (ringOf s r).emptied else ringOf s q := by
  rw [ringOf, emptyRing_rings]
  split
  next h => rw [h]; exact modRing_ringOf r _ s
  next h => exact modRing_ringOf_ne _ s h

/-- A reset takes a tenant's pending entries only with its DIRTY ring. -/
theorem emptyRing_pend (r : Nat) (keep : Bool) (s : State) (t : Nat) :
    (tenOf (emptyRing r keep s) t).pend = if r = 4 * t then [] else (tenOf s t).pend := by
  have changed : ∀ (k : Nat) (f : Tenant → Tenant) (u : State), (tenOf (modTenant k f u) t).pend =
      if t = k then (f (tenOf u k)).pend else (tenOf u t).pend := by
    intro k f u
    split
    next h => rw [h, modTenant_tenOf]
    next h => rw [modTenant_tenOf_ne f u h]
  unfold emptyRing
  extract_lets k kept s1 keepDirty keepClean
  have same : tenOf s1 t = tenOf s t := rfl
  split
  next hdirty =>
    refine (changed k _ _).trans ?_
    by_cases ht : t = k
    · rw [if_pos ht, if_pos (by omega)]
    · rw [if_neg ht, if_neg (by omega)]
      exact congrArg Tenant.pend same
  next hdirty =>
    have hr : r ≠ 4 * t := by omega
    rw [if_neg hr]
    split
    · refine (changed k _ _).trans ?_
      split
      next ht => rw [ht]; rfl
      next => rfl
    · split <;> rfl

/-- The fold of a boundary's resets: a ring of the list is emptied, every other one stays. -/
theorem foldl_emptyRing_ringOf (keep : Nat → Bool) (q : Nat) : ∀ (l : List Nat) (s : State),
    ringOf (l.foldl (fun s r => emptyRing r (keep r) s) s) q = if q ∈ l then (ringOf s q).emptied else ringOf s q
  | [], _ => by simp
  | r :: l, s => by
    rw [List.foldl_cons, foldl_emptyRing_ringOf keep q l, emptyRing_ringOf]
    by_cases hq : q = r
    · subst hq
      simp [Ring.emptied]
    · simp [hq]

theorem foldl_emptyRing_pend (keep : Nat → Bool) (t : Nat) : ∀ (l : List Nat) (s : State),
    (tenOf (l.foldl (fun s r => emptyRing r (keep r) s) s) t).pend = if 4 * t ∈ l then [] else (tenOf s t).pend
  | [], _ => by simp
  | r :: l, s => by
    rw [List.foldl_cons, foldl_emptyRing_pend keep t l, emptyRing_pend]
    by_cases hr : r = 4 * t <;> simp [hr, eq_comm]

/-- The rings that have asked for a reset. -/
def dueResets (s : State) : List Nat := (List.range 256).filter fun r => (ringOf s r).reset == 1

theorem mem_dueResets {s : State} {r : Nat} : r ∈ dueResets s ↔ r < 256 ∧ (ringOf s r).reset = 1 := by simp [dueResets]

/-- The resets asked for, before the EVENT rings' decided answers go with them. -/
def ringsEmptied (s : State) : State :=
  (dueResets s).foldl (fun u r => emptyRing r (!(dueResets s).contains (r / 4 * 4 + 3)) u) s

/-- A decided answer takes only the head of its CLEAN ring with it. -/
theorem dropAnswers_ringOf (t : Nat) {s : State} {q : Nat} (h : (ringOf s q).pub = [] ∨ q % 4 ≠ 1) :
    ringOf (dropAnswers t s) q = ringOf s q := by
  unfold dropAnswers
  extract_lets gone src s1 s2
  have same : ringOf s2 q = ringOf s q := rfl
  split
  · by_cases hq : q = 4 * t + 1
    · have hpub : (ringOf s (4 * t + 1)).pub = [] := by
        rcases h with h | h
        · rwa [hq] at h
        · omega
      subst hq
      refine (modRing_ringOf (4 * t + 1) _ (setClean t .waiting s2)).trans ?_
      change { ringOf s (4 * t + 1) with pub := (ringOf s (4 * t + 1)).pub.tail } = ringOf s (4 * t + 1)
      rw [hpub, List.tail_nil, ← hpub]
    · exact (modRing_ringOf_ne _ (setClean t .waiting s2) hq).trans same
  · exact same

theorem dropAnswers_pend (t : Nat) {s : State} {u : Nat} (h : (tenOf s u).pend = []) : (tenOf (dropAnswers t s) u).pend = [] := by
  have kept : ∀ (f : Tenant → Tenant) (x : State), ((f (tenOf x t)).pend = [] ∨ u ≠ t) → (tenOf x u).pend = [] →
      (tenOf (modTenant t f x) u).pend = [] := by
    intro f x hf hx
    by_cases hu : u = t
    · rw [hu, modTenant_tenOf]
      exact hf.resolve_right fun hne => hne hu
    · rwa [modTenant_tenOf_ne f x hu]
  unfold dropAnswers
  extract_lets gone src s1 s2
  have after : (tenOf s2 u).pend = [] := by
    refine kept _ s1 ?_ h
    by_cases hu : u = t
    · have none : (tenOf s1 t).pend = [] := hu ▸ h
      exact .inl (by simp only [none])
    · exact .inr hu
  split
  · change (tenOf (setClean t .waiting s2) u).pend = []
    refine kept _ s2 ?_ after
    by_cases hu : u = t
    · exact .inl (hu ▸ after)
    · exact .inr hu
  · exact after

theorem foldl_dropAnswers_ringOf {q : Nat} : ∀ (l : List Nat) {s : State}, ((ringOf s q).pub = [] ∨ q % 4 ≠ 1) →
    ringOf (l.foldl (fun s r => dropAnswers (r / 4) s) s) q = ringOf s q
  | [], _, _ => rfl
  | r :: l, s, h => by
    have first := dropAnswers_ringOf (r / 4) h
    rw [List.foldl_cons, foldl_dropAnswers_ringOf l (by rwa [first]), first]

theorem foldl_dropAnswers_pend {u : Nat} : ∀ (l : List Nat) {s : State}, (tenOf s u).pend = [] →
    (tenOf (l.foldl (fun s r => dropAnswers (r / 4) s) s) u).pend = []
  | [], _, h => h
  | r :: l, _, h => foldl_dropAnswers_pend l (dropAnswers_pend (r / 4) h)

theorem resetsDue_eq (s : State) : resetsDue s =
    ((dueResets s).filter fun r => r % 4 == 3).foldl (fun s r => dropAnswers (r / 4) s) (ringsEmptied s) := by
  rw [resetsDue, ringsEmptied, dueResets]

theorem ringsEmptied_ringOf (s : State) (q : Nat) :
    ringOf (ringsEmptied s) q = if q ∈ dueResets s then (ringOf s q).emptied else ringOf s q := by
  rw [ringsEmptied, foldl_emptyRing_ringOf fun r => !(dueResets s).contains (r / 4 * 4 + 3)]

theorem ringsEmptied_pend (s : State) (t : Nat) :
    (tenOf (ringsEmptied s) t).pend = if 4 * t ∈ dueResets s then [] else (tenOf s t).pend := by
  rw [ringsEmptied, foldl_emptyRing_pend fun r => !(dueResets s).contains (r / 4 * 4 + 3)]

/-- A ring whose reset is due comes out of it empty. -/
theorem resetsDue_ringOf {s : State} {r : Nat} (h : r ∈ dueResets s) : ringOf (resetsDue s) r = (ringOf s r).emptied := by
  have emptied : ringOf (ringsEmptied s) r = (ringOf s r).emptied := by rw [ringsEmptied_ringOf, if_pos h]
  rw [resetsDue_eq, foldl_dropAnswers_ringOf _ (.inl (by rw [emptied]; rfl)), emptied]

/-- A ring whose reset is not due stays, but for the head of a CLEAN ring, whose answer its EVENT ring may take with it. -/
theorem resetsDue_ringOf_other {s : State} {q : Nat} (h : q ∉ dueResets s) (hclean : q % 4 ≠ 1) :
    ringOf (resetsDue s) q = ringOf s q := by
  rw [resetsDue_eq, foldl_dropAnswers_ringOf _ (.inr hclean), ringsEmptied_ringOf, if_neg h]

theorem resetsDue_pend {s : State} {t : Nat} (h : 4 * t ∈ dueResets s) : (tenOf (resetsDue s) t).pend = [] := by
  rw [resetsDue_eq]
  exact foldl_dropAnswers_pend _ (by rw [ringsEmptied_pend, if_pos h])

/-! The statement. -/

/-- To the other blocks a write of RING_PORT is no more than a report. -/
theorem applyRingPort_onlyReports (data : Word) (s : State) : onlyReports s (applyRingPort data (popped s)) := by simp [onlyReports]

theorem readRingPort_onlyReports (s : State) : onlyReports s (readRingPort s).2 := by
  simp [onlyReports]

/-- Settles O35: each register's write acts on the machine that it has left, whose rings are as before. -/
theorem ringRegisters : Obligations.RingRegisters := by
  refine ⟨fun data s hr ho => ?_, fun data s hr ho => ?_, fun s hup hpost => ?_, fun data s hr ho => ?_,
    fun r s hup hwake hwindow => ?_, fun r s h => ?_, fun s => ⟨fun r hlt hreset => ?_, fun q hreset hclean => ?_, ?_⟩⟩
  · refine ⟨_, (exec_ringSelWrite data allBe s).trans (congrArg Host.Outcome.next (leave_reaches _ _ s hr ho)),
      applyRingSel_selRing data _, fun hproducer hpart => ?_, fun r => ?_, ?_⟩
    · have dropped := partDropped_partial (s := popped s) (by simpa using hproducer) (by simpa using hpart)
      rw [selRing_popped] at dropped
      rwa [ringOf, applyRingSel_ring]
    · have queues := partDropped_queues (popped s) r
      rw [ringOf_popped] at queues
      rwa [ringOf, applyRingSel_ring]
    · rw [applyRingSel_eq, partDropped_others]
      obtain ⟨post, waiting, hpop⟩ := popped_buffer s
      rw [hpop]
  · have row : exec (.ringPortWrite data allBe) s = .next (applyRingPort data (popped s)) := by
      rw [exec_ringPortWrite, leave_reaches _ _ s hr ho]
    refine ⟨_, row, applyRingPort_onlyReports data s, fun q hq => ?_, fun husable hproducer hcredit => ?_,
      fun husable hproducer hpart havail => ?_, fun hwrong => ?_⟩
    · rw [applyRingPort_ringOf_ne data (by simpa using hq), ringOf_popped]
    · obtain ⟨f, took, part, last⟩ := applyRingPort_of_credit data (s := popped s) (by simpa using husable) (by simpa using hproducer)
        (by simpa using hcredit)
      have ring : ringOf (applyRingPort data (popped s)) (selRing s) = f (ringOf s (selRing s)) := by
        rw [took, selRing_popped, modRing_ringOf, ringOf, injectUse_rings, ← ringOf, ringOf_popped]
      rw [ring]
      rw [selRing_popped, ringOf_popped] at part last
      exact ⟨fun hlt => part hlt _, fun a b c h => last a b c h _⟩
    · rw [applyRingPort_of_full data (by simpa using husable) (by simpa using hproducer) (by simpa using hpart) (by simpa using havail),
        selRing_popped, portErr_ringOf, discarding, modRing_ringOf, ringOf_popped]
      exact ⟨rfl, rfl, rfl⟩
    · rw [applyRingPort_of_wrong data (by simpa using hwrong), portErr_ringOf, ringOf_popped]
      exact ⟨rfl, rfl, rfl⟩
  · have row : exec .ringPortRead s = _ := (exec_ringPortRead s).trans (congrArg Host.Outcome.next (busRead_ready readRingPort s hup hpost))
    refine ⟨_, row, readRingPort_onlyReports s, fun q hq => congrArg Ring.staged (readRingPort_ringOf_ne hq),
      fun x rest husable hevent hunread hue hce hword => ?_, fun husable hevent hunread => ?_, fun hwrong => ?_⟩
    · obtain ⟨word, ring⟩ := readRingPort_of_sound husable hevent hunread hue hce hword
      refine ⟨word, fun hlast => ?_, fun hmore => ?_⟩
      · change (ringOf (readRingPort s).2 (selRing s)).unread = rest ∧ (ringOf (readRingPort s).2 (selRing s)).rdWord = 0
        rw [ring, ringRead, if_pos hlast, hunread]
        exact ⟨rfl, rfl⟩
      · change (ringOf (readRingPort s).2 (selRing s)).unread = _ ∧ (ringOf (readRingPort s).2 (selRing s)).rdWord = _
        rw [ring, ringRead, if_neg hmore]
        exact ⟨rfl, rfl⟩
    · rw [readRingPort_of_empty husable hevent hunread]
      exact ⟨rfl, rfl, rfl⟩
    · rw [readRingPort_of_wrong hwrong]
      exact ⟨rfl, rfl, rfl⟩
  · have row : exec (.ringDoorbellWrite data allBe) s = .next (applyDoorbell data (popped s)) := by
      rw [exec_ringDoorbellWrite, leave_reaches _ _ s hr ho]
    have ring : (popped s).ring = s.ring := by simp
    refine ⟨_, row, ?_, fun q hq => ?_, fun hn => ?_, fun hn husable hproducer => ?_, fun hn husable hevent => ?_, fun hn husable => ?_⟩
    · rw [applyDoorbell_others]
      obtain ⟨post, waiting, hpop⟩ := popped_buffer s
      rw [hpop]
    · rw [applyDoorbell_ringOf_ne hq, ringOf_popped]
    · rw [applyDoorbell_of_zero _ hn, ring]
    · obtain ⟨⟨staged, pub, fresh⟩, dbErr⟩ := applyDoorbell_published rfl rfl hn (s := popped s) (by simpa using husable) hproducer
      rw [staged, pub, fresh, dbErr, List.map_append, numbered_words, ringOf_popped, ring]
      exact ⟨rfl, rfl, rfl, rfl⟩
    · obtain ⟨unread, dbErr⟩ := applyDoorbell_released rfl rfl hn (s := popped s) (by simpa using husable) hevent
      rw [unread, dbErr, ringOf_popped, ring]
      exact ⟨rfl, rfl⟩
    · rw [applyDoorbell_of_unusable hn (by simpa using husable), dbErrSet_ringOf, ringOf_popped]
      exact ⟨rfl, rfl, rfl⟩
  · refine ⟨_, (exec_ringReset r s).trans (congrArg Host.Outcome.next (ringReset_of_open r hup hwake hwindow)),
      modRing_ringOf r _ s, fun q hq => modRing_ringOf_ne _ s hq, rfl⟩
  · rw [exec_ringReset, ringReset_of_closed r h]
  · have due : r ∈ dueResets s := mem_dueResets.2 ⟨hlt, hreset⟩
    rw [resetsDue_ringOf due]
    refine ⟨rfl, rfl, rfl, rfl, rfl, rfl, fun hdirty => resetsDue_pend ?_⟩
    rwa [show 4 * (r / 4) = r by omega]
  · exact resetsDue_ringOf_other (fun due => hreset (mem_dueResets.1 due).2) hclean
  · simp

end Sys2Proof.Machine
end

section
/-! PROOFS. What the decisions on ring entries rest on, what an event, a queued item and a service of the heads leave of it, and the
answer to an entry (05, 06, R55, R113 to R117). -/

namespace Sys2Proof.Machine

/-! What decides whether an entry is answered now. -/

/-- u serves the rings as s does: the same tables, rings, deferred work, ticks and state; a tenant may differ in its count of DIRTY
cells only. -/
def SameService (s u : State) : Prop :=
  u.conf = s.conf ∧ u.ring.rings = s.ring.rings ∧ u.ring.late = s.ring.late ∧ u.ring.answers = s.ring.answers ∧
  u.fr.acct = s.fr.acct ∧ u.top.state = s.top.state ∧ u.top.phase = s.top.phase ∧ u.top.window = s.top.window ∧
  ∀ t, tenOf u t = { tenOf s t with dirtyNow := (tenOf u t).dirtyNow }

theorem SameService.refl (s : State) : SameService s s := ⟨rfl, rfl, rfl, rfl, rfl, rfl, rfl, rfl, fun _ => rfl⟩

theorem SameService.trans {s t u : State} (h : SameService s t) (k : SameService t u) : SameService s u := by
  obtain ⟨conf, rings, late, answers, acct, state, phase, window, tens⟩ := h
  obtain ⟨conf', rings', late', answers', acct', state', phase', window', tens'⟩ := k
  exact ⟨conf'.trans conf, rings'.trans rings, late'.trans late, answers'.trans answers, acct'.trans acct, state'.trans state,
    phase'.trans phase, window'.trans window, fun k => by rw [tens' k, tens k]⟩

theorem SameService.foldl {β : Type} (f : State → β → State) (h : ∀ s x, SameService s (f s x)) :
    ∀ (l : List β) (s : State), SameService s (l.foldl f s)
  | [], s => .refl s
  | x :: l, s => (h s x).trans (SameService.foldl f h l (f s x))

/-- What a report leaves of the rings. -/
theorem Reports.keepsRings {s u : State} (h : Reports s u) : u.ring.rings = s.ring.rings ∧ u.ring.tenants = s.ring.tenants ∧
    u.ring.late = s.ring.late ∧ u.ring.answers = s.ring.answers := by
  obtain ⟨-, -, ring, -⟩ := h
  exact ⟨by rw [ring], by rw [ring], by rw [ring], by rw [ring]⟩

theorem Reports.sameService {s u : State} (h : Reports s u) (conf : u.conf = s.conf) : SameService s u := by
  obtain ⟨rings, tenants, late, answers⟩ := h.keepsRings
  obtain ⟨fr, -, -, -, top, -⟩ := h
  exact ⟨conf, rings, late, answers, by rw [fr], by rw [top], by rw [top], by rw [top], fun t => by rw [tenOf, tenants, ← tenOf]⟩

theorem tally_sameService (src kind : Nat) (addr : Word) (s : State) : SameService s (tally src kind addr s) :=
  (tally_reports src kind addr s).sameService (by simp)

/-- The end of a ledger item only leaves the list of ended work. -/
theorem takeDone_eq {w : Work} {s s0 : State} (h : takeDone w s = some s0) :
    ∃ done, s0 = { s with fr := { s.fr with done := done } } := by
  unfold takeDone at h
  (repeat' split at h) <;> cases h
  exact ⟨_, rfl⟩

theorem takeDone_sameService {w : Work} {s s0 : State} (h : takeDone w s = some s0) : SameService s s0 := by
  obtain ⟨done, rfl⟩ := takeDone_eq h
  exact ⟨rfl, rfl, rfl, rfl, rfl, rfl, rfl, rfl, fun _ => rfl⟩

theorem entryRead_reports (r : Nat) (e : Entry) (s : State) : Reports s (entryRead r e s) :=
  (Reports.foldl _ (fun s w => tally_reports 0x14 1 (poolAddr s r e w) s) e.ceW s).trans
    (Reports.foldl _ (fun s w => tally_reports 0x14 2 (poolAddr s r e w) s) e.ueW _)

theorem entryRead_sameService (r : Nat) (e : Entry) (s : State) : SameService s (entryRead r e s) :=
  (entryRead_reports r e s).sameService (by simp)

section
variable {s u : State} (h : SameService s u)
include h

theorem SameService.ringOf (r : Nat) : Machine.ringOf u r = Machine.ringOf s r := by
  obtain ⟨-, rings, -⟩ := h
  rw [Machine.ringOf, rings, Machine.ringOf]

theorem SameService.pend (t : Nat) : (tenOf u t).pend = (tenOf s t).pend := by
  obtain ⟨-, -, -, -, -, -, -, -, tens⟩ := h
  rw [tens t]

theorem SameService.clean (t : Nat) : (tenOf u t).clean = (tenOf s t).clean := by
  obtain ⟨-, -, -, -, -, -, -, -, tens⟩ := h
  rw [tens t]

theorem SameService.admitCnt (t : Nat) : (tenOf u t).admitCnt = (tenOf s t).admitCnt := by
  obtain ⟨-, -, -, -, -, -, -, -, tens⟩ := h
  rw [tens t]

theorem SameService.badCode (r : Nat) (e : Entry) : Machine.badCode u r e = Machine.badCode s r e := by
  obtain ⟨conf, -⟩ := h
  change Machine.badCode { s with conf := u.conf } r e = _
  rw [conf]

theorem SameService.answerRoom (t : Nat) : Machine.answerRoom u t = Machine.answerRoom s t := by
  have room := h.ringOf (4 * t + 3)
  obtain ⟨conf, -⟩ := h
  rw [Machine.answerRoom, evFree, room, rUsable_congr conf, rDepth, cw, conf]
  rfl

theorem SameService.ledLeft (res : Nat) : Machine.ledLeft u res = Machine.ledLeft s res := by
  obtain ⟨-, -, -, -, acct, state, -⟩ := h
  rw [Machine.ledLeft, budget, state, acctOf, acct]
  rfl

theorem SameService.ringsFree : Machine.ringsFree u = Machine.ringsFree s := by
  have ticks := h.ledLeft 12
  obtain ⟨-, -, late, -⟩ := h
  rw [Machine.ringsFree, late, ticks]
  rfl

theorem SameService.answersNow : Machine.answersNow u = Machine.answersNow s := by
  obtain ⟨-, -, -, -, -, state, phase, window, -⟩ := h
  rw [Machine.answersNow, state, phase, window]
  rfl

end

/-! Ticks of resource 12. -/

theorem ledLeft_spend (n : Nat) (s : State) : ledLeft (spend 12 n s) 12 = ledLeft s 12 - n := by
  rw [ledLeft, spend_acctOf, ledLeft]
  change budget s 12 - ((acctOf s 12).usedNow + n) = budget s 12 - (acctOf s 12).usedNow - n
  omega

theorem ringsFree_of_ticks {s : State} (hlate : s.ring.late = []) (hticks : 2 ≤ ledLeft s 12) : ringsFree s = true := by
  simp only [ringsFree, hlate, List.isEmpty_nil, Bool.true_and, decide_eq_true_eq]
  omega

theorem ringsFree_spend {s : State} (hlate : s.ring.late = []) (hticks : 2 ≤ ledLeft s 12) : ringsFree (spend 12 1 s) = true := by
  have late : (spend 12 1 s).ring.late = [] := hlate
  simp only [ringsFree, late, List.isEmpty_nil, Bool.true_and, decide_eq_true_eq, ledLeft_spend]
  omega

/-! A queued item. -/

theorem consider_reports (it : Item) (s : State) : Reports { s with fr := (consider it s).1.fr } (consider it s).1 := by
  cases h : ledgerDecide (itemCost s it) it.gran (ledLeft s it.res) (budget s it.res) <;> simp only [consider, h]
  case whole => exact .of_blocks rfl rfl rfl rfl rfl rfl rfl
  case part => exact .of_blocks rfl rfl rfl rfl rfl rfl rfl
  case later => exact .refl s
  case refuse =>
    obtain ⟨fr, host, ring, scout, top, weave, told⟩ := tally_reports 0x08 1
      (BitVec.ofNat 32 (it.res + itemCost s it % 2 ^ 24 * 256)) (bumpAcct it.res (fun a => { a with refusals := satInc 0xFFFF a.refusals }) s)
    exact ⟨rfl, host, ring, scout, top, weave, told⟩

/-- A queued item is charged to the ledger; a refused one is told. -/
theorem queueItem_reports (it : Item) (s : State) : Reports { s with fr := (queueItem it s).fr } (queueItem it s) := by
  unfold queueItem
  split
  · exact .of_blocks rfl rfl rfl rfl rfl rfl rfl
  · have considered := consider_reports it s
    split
    next h => rwa [h] at considered
    next h =>
      rw [h] at considered
      obtain ⟨-, host, ring, scout, top, weave, told⟩ := considered
      exact ⟨rfl, host, ring, scout, top, weave, told⟩

theorem queueItem_keepsRings (it : Item) (s : State) : (queueItem it s).ring.rings = s.ring.rings ∧
    (queueItem it s).ring.tenants = s.ring.tenants ∧ (queueItem it s).ring.late = s.ring.late ∧
    (queueItem it s).ring.answers = s.ring.answers := (queueItem_reports it s).keepsRings

@[simp] theorem queueItem_tenOf (it : Item) (s : State) (t : Nat) : tenOf (queueItem it s) t = tenOf s t := by
  obtain ⟨-, tenants, -⟩ := queueItem_keepsRings it s
  rw [tenOf, tenants, ← tenOf]

/-! The energy terms that follow the counts. -/

theorem refresh_reports (s : State) : Reports s (refresh s) := by
  unfold refresh
  extract_lets need credit short newShort low src s1 s2
  have h1 : Reports s s1 := .of_blocks rfl rfl rfl rfl rfl rfl rfl
  have h2 : Reports s s2 := .ite (h1.trans (tally_reports _ _ _ s1)) h1
  exact .ite (h2.trans (setInt_reports 1 s2)) h2

/-- ENERGY_NEED follows DIRTY_TOTAL (R136); the map and the counts stay. -/
theorem refresh_adm (s : State) : (refresh s).adm.need = needOf s s.adm.dirtyTotal ∧ (refresh s).adm.map = s.adm.map ∧
    (refresh s).adm.dirtyTotal = s.adm.dirtyTotal ∧ (refresh s).adm.now = s.adm.now ∧ (refresh s).adm.recount = s.adm.recount := by
  unfold refresh
  extract_lets need credit short newShort low src s1 s2
  have h2 : s2.adm = s1.adm := by unfold s2; split <;> simp
  have h : (if low = true then setInt 1 s2 else s2).adm = s1.adm := by split <;> simp [h2]
  rw [h]
  exact ⟨rfl, rfl, rfl, rfl, rfl⟩

theorem refresh_sameService (s : State) : SameService s (refresh s) := (refresh_reports s).sameService (by simp)

/-! The service of the heads (R120 to R124). -/

/-- y is x after heads have been served: entries may have begun their scans. -/
def HeadServed (x y : Tenant) : Prop :=
  y = { x with pend := y.pend, clean := y.clean } ∧ y.pend.length = x.pend.length ∧ (x.clean ≠ .waiting → y.clean = x.clean)

theorem HeadServed.refl (x : Tenant) : HeadServed x x := ⟨rfl, rfl, fun _ => rfl⟩

theorem HeadServed.trans {x y z : Tenant} (h : HeadServed x y) (k : HeadServed y z) : HeadServed x z := by
  obtain ⟨same, length, clean⟩ := h
  obtain ⟨same', length', clean'⟩ := k
  refine ⟨by rw [same', same], length'.trans length, fun hx => ?_⟩
  rw [clean' (by rwa [clean hx]), clean hx]

/-- A service of the heads leaves the rings, and serves every tenant. -/
def HeadsServed (s u : State) : Prop := u.ring.rings = s.ring.rings ∧ ∀ t, HeadServed (tenOf s t) (tenOf u t)

theorem HeadsServed.refl (s : State) : HeadsServed s s := ⟨rfl, fun _ => .refl _⟩

theorem HeadsServed.trans {s t u : State} (h : HeadsServed s t) (k : HeadsServed t u) : HeadsServed s u := by
  obtain ⟨rings, tens⟩ := h
  obtain ⟨rings', tens'⟩ := k
  exact ⟨rings'.trans rings, fun t => (tens t).trans (tens' t)⟩

theorem HeadsServed.foldl {β : Type} (f : State → β → State) (h : ∀ s x, HeadsServed s (f s x)) :
    ∀ (l : List β) (s : State), HeadsServed s (l.foldl f s)
  | [], s => .refl s
  | x :: l, s => (h s x).trans (HeadsServed.foldl f h l (f s x))

theorem modTenant_headsServed {t : Nat} {f : Tenant → Tenant} {s : State} (h : HeadServed (tenOf s t) (f (tenOf s t))) :
    HeadsServed s (modTenant t f s) := by
  refine ⟨rfl, fun k => ?_⟩
  by_cases hk : k = t
  · rw [hk, modTenant_tenOf]
    exact h
  · rw [modTenant_tenOf_ne f s hk]
    exact .refl _

theorem queueItem_headsServed (it : Item) (s : State) : HeadsServed s (queueItem it s) := by
  obtain ⟨rings, -⟩ := queueItem_keepsRings it s
  exact ⟨rings, fun t => by rw [queueItem_tenOf]; exact .refl _⟩

theorem cleanServe_headsServed (t : Nat) (s : State) : HeadsServed s (cleanServe t s) := by
  unfold cleanServe
  split
  · split
    next hwait =>
      have begun : HeadServed (tenOf s t) { tenOf s t with clean := .scanning } := ⟨rfl, rfl, fun h => absurd hwait h⟩
      exact (modTenant_headsServed begun).trans (queueItem_headsServed _ (setClean t .scanning s))
    next => exact .refl s
  · exact .refl s

theorem dirtyServe_headsServed (t : Nat) (s : State) : HeadsServed s (dirtyServe t s) := by
  unfold dirtyServe
  split
  · extract_lets s1
    have begun : HeadsServed s s1 := by
      refine modTenant_headsServed ⟨rfl, ?_, fun _ => rfl⟩
      dsimp only
      split
      next h => rw [h]; rfl
      next h => exact h ▸ rfl
    exact begun.trans (HeadsServed.trans ⟨rfl, fun _ => .refl _⟩ (queueItem_headsServed _ (servedLast t s1)))
  · exact .refl s

theorem serveHeads_headsServed (s : State) : HeadsServed s (serveHeads s) := by
  unfold serveHeads
  extract_lets s1
  have clean : HeadsServed s s1 := by
    unfold s1
    split
    · exact .foldl _ (fun s t => cleanServe_headsServed t s) _ s
    · exact .refl s
  split
  · exact clean.trans (.foldl _ (fun s _ => .foldl _ (fun s t => dirtyServe_headsServed t s) _ s) _ s1)
  · exact clean

/-! An answer. -/

theorem setInt_ring (i : Nat) (s : State) : (setInt i s).ring = s.ring := by simp [setInt]

theorem injectMany_ring (chk : Nat) : ∀ (n : Nat) (s : State), (injectMany chk n s).1.ring = s.ring
  | 0, _ => rfl
  | n + 1, s => by rw [injectMany, injectUse_rings, injectMany_ring chk n s]

/-- The ring that a posted event leaves (R116): all else that it touches is no ring's. -/
theorem putEvent_ring (r : Nat) (e : Entry) (unsol notify : Bool) (s : State) :
    ∃ x : Entry, x.w0 = e.w0 ∧ (putEvent r e unsol notify s).ring = (modRing r (fun g => { g with
      unread := g.unread ++ [x], doneCnt := satInc 65535 g.doneCnt, nextSlot := (g.nextSlot + 1) % rDepth s r }) s).ring := by
  have injected : (injectMany 5 4 s).1.conf = s.conf ∧ (injectMany 5 4 s).1.ring = s.ring :=
    ⟨(injectMany_blocks 5 4 s).1, injectMany_ring 5 4 s⟩
  obtain ⟨conf, ring⟩ := injected
  unfold putEvent
  extract_lets j e1 s1
  have after : s1.ring = (modRing r (fun g => { g with
      unread := g.unread ++ [e1], doneCnt := satInc 65535 g.doneCnt, nextSlot := (g.nextSlot + 1) % rDepth s r }) s).ring := by
    change (modRing r _ j.1).ring = _
    rw [modRing, modRing, ring, rDepth, cw, conf]
  refine ⟨e1, rfl, ?_⟩
  split
  · rw [setInt_ring, after]
  · exact after

/-- What the counts of a tenant make of an answer (R100). -/
def Tenant.answered (v : Verdict) (x : Tenant) : Tenant :=
  match v with
  | .accept => { x with admitCnt := satInc 65535 x.admitCnt }
  | .refuse c => { x with refuseCnt := satInc 65535 x.refuseCnt, lastRefuse := c }
  | .bad _ => { x with badCnt := satInc 65535 x.badCnt }
  | _ => x

theorem Tenant.answered_heads (v : Verdict) (x : Tenant) : (x.answered v).pend = x.pend ∧ (x.answered v).clean = x.clean := by
  cases v <;> exact ⟨rfl, rfl⟩

theorem postAnswer_tenOf (r : Nat) (e : Entry) (v : Verdict) (s : State) :
    tenOf (postAnswer r e v s) (r / 4) = (tenOf s (r / 4)).answered v := by
  unfold postAnswer
  extract_lets t isBad s1
  have same : tenOf s1 (r / 4) = tenOf s (r / 4) := by
    obtain ⟨x, -, ring⟩ := putEvent_ring (4 * t + 3) (answerEvent e v s) isBad (eFlags e % 2 == 1) { s with free := s.free + 3 }
    rw [tenOf, ring]
    rfl
  rw [← same]
  cases v with
  | accept => exact modTenant_tenOf _ _ s1
  | refuse c => exact modTenant_tenOf _ _ s1
  | bad c => exact modTenant_tenOf (r / 4) (fun x => { x with badCnt := satInc 65535 x.badCnt }) s1
  | cleaned => rfl
  | demandDone st => rfl

theorem postAnswer_tenOf_ne {r k : Nat} (e : Entry) (v : Verdict) (s : State) (h : k ≠ r / 4) :
    tenOf (postAnswer r e v s) k = tenOf s k := by
  unfold postAnswer
  extract_lets t isBad s1
  have same : tenOf s1 k = tenOf s k := by
    obtain ⟨x, -, ring⟩ := putEvent_ring (4 * t + 3) (answerEvent e v s) isBad (eFlags e % 2 == 1) { s with free := s.free + 3 }
    rw [tenOf, ring]
    rfl
  rw [← same]
  cases v with
  | accept => exact modTenant_tenOf_ne _ s1 h
  | refuse c => exact modTenant_tenOf_ne _ s1 h
  | bad c => exact modTenant_tenOf_ne (fun x => { x with badCnt := satInc 65535 x.badCnt }) s1 h
  | cleaned => rfl
  | demandDone st => rfl

/-- A change of a ring that moves no entry. -/
theorem modRing_entries {r : Nat} {f : Ring → Ring} (hf : ∀ g, (f g).pub = g.pub ∧ (f g).unread = g.unread) (s : State) (q : Nat) :
    (ringOf (modRing r f s) q).pub = (ringOf s q).pub ∧ (ringOf (modRing r f s) q).unread = (ringOf s q).unread := by
  by_cases hq : q = r
  · rw [hq, modRing_ringOf]
    exact hf _
  · rw [modRing_ringOf_ne f s hq]
    exact ⟨rfl, rfl⟩

/-- An answer adds its event to the tenant's EVENT ring, and moves no other entry of any ring (R116). -/
theorem postAnswer_entries (r : Nat) (e : Entry) (v : Verdict) (s : State) :
    ∃ x : Entry, x.w0 = (answerEvent e v s).w0 ∧ ∀ q, (ringOf (postAnswer r e v s) q).pub = (ringOf s q).pub ∧
      (ringOf (postAnswer r e v s) q).unread = (ringOf s q).unread ++ if q = 4 * (r / 4) + 3 then [x] else [] := by
  unfold postAnswer
  extract_lets t isBad s1
  obtain ⟨x, hx, ring⟩ := putEvent_ring (4 * t + 3) (answerEvent e v s) isBad (eFlags e % 2 == 1) { s with free := s.free + 3 }
  have posted : ∀ q, (ringOf s1 q).pub = (ringOf s q).pub ∧
      (ringOf s1 q).unread = (ringOf s q).unread ++ if q = 4 * t + 3 then [x] else [] := by
    intro q
    rw [ringOf, ring, ← ringOf]
    by_cases hq : q = 4 * t + 3
    · rw [if_pos hq, hq, modRing_ringOf]
      exact ⟨rfl, rfl⟩
    · rw [if_neg hq, modRing_ringOf_ne _ _ hq, List.append_nil]
      exact ⟨rfl, rfl⟩
  refine ⟨x, hx, fun q => ?_⟩
  cases v with
  | accept => exact posted q
  | refuse c => exact posted q
  | cleaned => exact posted q
  | demandDone st => exact posted q
  | bad c =>
    obtain ⟨pub, unread⟩ := modRing_entries (r := r) (f := fun g => { g with badDrop := satInc 65535 g.badDrop, lastBad := c })
      (fun _ => ⟨rfl, rfl⟩) (modTenant t (fun x => { x with badCnt := satInc 65535 x.badCnt }) s1) q
    obtain ⟨pub', unread'⟩ := posted q
    exact ⟨pub.trans pub', unread.trans unread'⟩

/-- The words that the host will read of an EVENT ring gain the answer's. -/
theorem postAnswer_event (r : Nat) (e : Entry) (v : Verdict) (s : State) :
    (ringOf (postAnswer r e v s) (4 * (r / 4) + 3)).unread.map (·.w0) =
      (ringOf s (4 * (r / 4) + 3)).unread.map (·.w0) ++ [(answerEvent e v s).w0] := by
  obtain ⟨x, hx, posted⟩ := postAnswer_entries r e v s
  obtain ⟨-, unread⟩ := posted (4 * (r / 4) + 3)
  rw [unread, if_pos rfl, List.map_append, List.map_singleton, hx]

theorem postAnswer_pub (r : Nat) (e : Entry) (v : Verdict) (s : State) (q : Nat) :
    (ringOf (postAnswer r e v s) q).pub = (ringOf s q).pub := by
  obtain ⟨x, -, posted⟩ := postAnswer_entries r e v s
  exact (posted q).1

/-! What waits for its answer goes on. -/

/-- Events may have been posted: every ring's unread entries stand, in their order, and no pending list has changed its length. -/
def Posted (s u : State) : Prop :=
  (∀ q, (ringOf s q).unread <+: (ringOf u q).unread) ∧ ∀ t, (tenOf u t).pend.length = (tenOf s t).pend.length

theorem Posted.refl (s : State) : Posted s s := ⟨fun _ => List.prefix_rfl, fun _ => rfl⟩

theorem Posted.trans {s t u : State} (h : Posted s t) (k : Posted t u) : Posted s u := by
  obtain ⟨unread, pend⟩ := h
  obtain ⟨unread', pend'⟩ := k
  exact ⟨fun q => (unread q).trans (unread' q), fun t => (pend' t).trans (pend t)⟩

theorem Posted.of_rings {s u : State} (rings : u.ring.rings = s.ring.rings)
    (pend : ∀ t, (tenOf u t).pend.length = (tenOf s t).pend.length) : Posted s u :=
  ⟨fun q => by rw [ringOf, ringOf, rings], pend⟩

theorem SameService.posted {s u : State} (h : SameService s u) : Posted s u := by
  refine .of_rings ?_ fun t => by rw [h.pend t]
  obtain ⟨-, rings, -⟩ := h
  exact rings

theorem HeadsServed.posted {s u : State} (h : HeadsServed s u) : Posted s u := by
  obtain ⟨rings, tens⟩ := h
  refine .of_rings rings fun t => ?_
  obtain ⟨-, length, -⟩ := tens t
  exact length

theorem serveHeads_posted (s : State) : Posted s (serveHeads s) := (serveHeads_headsServed s).posted

theorem queueItem_posted (it : Item) (s : State) : Posted s (queueItem it s) := (queueItem_headsServed it s).posted

theorem postAnswer_pend (r : Nat) (e : Entry) (v : Verdict) (s : State) (t : Nat) :
    (tenOf (postAnswer r e v s) t).pend = (tenOf s t).pend ∧ (tenOf (postAnswer r e v s) t).clean = (tenOf s t).clean := by
  by_cases ht : t = r / 4
  · rw [ht, postAnswer_tenOf]
    exact Tenant.answered_heads v _
  · rw [postAnswer_tenOf_ne e v s ht]
    exact ⟨rfl, rfl⟩

theorem postAnswer_posted (r : Nat) (e : Entry) (v : Verdict) (s : State) : Posted s (postAnswer r e v s) := by
  obtain ⟨x, -, posted⟩ := postAnswer_entries r e v s
  refine ⟨fun q => ?_, fun t => ?_⟩
  · obtain ⟨-, unread⟩ := posted q
    rw [unread]
    exact List.prefix_append _ _
  · obtain ⟨pend, -⟩ := postAnswer_pend r e v s t
    rw [pend]

theorem modRing_posted {r : Nat} {f : Ring → Ring} (hf : ∀ g, (f g).unread = g.unread) (s : State) : Posted s (modRing r f s) := by
  refine ⟨fun q => ?_, fun _ => rfl⟩
  by_cases hq : q = r
  · rw [hq, modRing_ringOf, hf]
  · rw [modRing_ringOf_ne f s hq]

theorem setClean_posted (t : Nat) (st : Stage) (s : State) : Posted s (setClean t st s) := by
  refine .of_rings rfl fun k => ?_
  by_cases hk : k = t
  · rw [hk, setClean, modTenant_tenOf]
  · rw [setClean, modTenant_tenOf_ne _ s hk]

theorem ringsWait_ring (r : Nat) (s : State) : (ringsWait r s).ring = { s.ring with late := (ringsWait r s).ring.late } := by
  unfold ringsWait
  split <;> rfl

theorem ringsWait_posted (r : Nat) (s : State) : Posted s (ringsWait r s) := by
  have ring := ringsWait_ring r s
  exact .of_rings (by rw [ring]) fun t => by rw [tenOf, ring]; rfl

/-! The answer to a decided DIRTY head (R113, R115, R116). -/

/-- The head of t's pending list leaves it. -/
def headGone (t : Nat) (s : State) : State := modTenant t (fun x => { x with pend := x.pend.tail }) s

section
variable {t : Nat} {s : State} {p : Pend} {ps : List Pend} {v : Verdict} (hpend : (tenOf s t).pend = p :: ps)
  (hstage : p.stage = .decided v) (hnow : answersNow s = true) (hroom : answerRoom s t = true) (hfree : ringsFree s = true)
include hpend hstage hnow hroom hfree

theorem answerDirty_of_decided : answerDirty t s = serveHeads (postAnswer (4 * t) p.e v (headGone t s)) := by
  rw [answerDirty, hpend]
  simp only [hstage, hnow, hroom, hfree, Bool.and_true, if_true]
  rfl

/-- The answer is counted, and the head is gone. -/
theorem answerDirty_tenOf : HeadServed ({ tenOf s t with pend := ps }.answered v) (tenOf (answerDirty t s) t) := by
  obtain ⟨-, served⟩ := serveHeads_headsServed (postAnswer (4 * t) p.e v (headGone t s))
  have counted := postAnswer_tenOf (4 * t) p.e v (headGone t s)
  rw [Nat.mul_div_cancel_left t (by decide : 0 < 4), headGone, modTenant_tenOf, hpend, List.tail_cons] at counted
  rw [answerDirty_of_decided hpend hstage hnow hroom hfree]
  have here := served t
  rw [headGone, counted] at here
  exact here

theorem answerDirty_pend : (tenOf (answerDirty t s) t).pend.length = ps.length := by
  obtain ⟨-, length, -⟩ := answerDirty_tenOf hpend hstage hnow hroom hfree
  obtain ⟨pend, -⟩ := Tenant.answered_heads v { tenOf s t with pend := ps }
  rw [length, pend]

/-- Its event is the last that the host will read of the tenant's EVENT ring. -/
theorem answerDirty_event : (ringOf (answerDirty t s) (4 * t + 3)).unread.map (·.w0) =
    (ringOf s (4 * t + 3)).unread.map (·.w0) ++ [(answerEvent p.e v s).w0] := by
  obtain ⟨rings, -⟩ := serveHeads_headsServed (postAnswer (4 * t) p.e v (headGone t s))
  have event := postAnswer_event (4 * t) p.e v (headGone t s)
  rw [Nat.mul_div_cancel_left t (by decide : 0 < 4)] at event
  rw [answerDirty_of_decided hpend hstage hnow hroom hfree, ringOf, rings, ← ringOf, event]
  cases v <;> rfl

end

end Sys2Proof.Machine
end

section
/-! PROOFS. The decision on a head DIRTY entry (05, 06, R115, R116, R136 to R141, log entries 45 and 54). -/

namespace Sys2Proof.Machine

theorem exec_admitScanDone (t : Nat) (s : State) : exec (.admitScanDone t) s = .next (admitScanDone t s) := rfl

/-! What the scan meets in an entry and a map without errors. -/

/-- An entry without a fault has no uncorrectable word (R125). -/
theorem ueW_of_badCode {s : State} {r : Nat} {e : Entry} (h : badCode s r e = 0) : e.ueW = [] := by
  by_contra hue
  have unsound : e.ueW.isEmpty = false := by simpa using hue
  unfold badCode at h
  extract_lets op sound at h
  rw [unsound] at h
  (repeat' split at h) <;> simp_all

theorem entryRead_of_sound {r : Nat} {e : Entry} (s : State) (hue : e.ueW = []) (hce : e.ceW = []) : entryRead r e s = s := by
  rw [entryRead, hue, hce]
  rfl

theorem scanWords_of_sound (first count : Nat) {s : State} (hue : s.adm.ueWords = []) (hce : s.adm.ceWords = []) :
    scanWords first count s = s := by
  simp [scanWords, readWords, hue, hce]

/-- The entry has been scanned, and waits for its decision. -/
def scannedHead (p : Pend) : Pend := { p with stage := .ready }

/-- The scan of t's head has ended. -/
def headScanned (t : Nat) (p : Pend) (done : List Item) (s : State) : State :=
  setHead t (scannedHead p) { s with fr := { s.fr with done := done } }

theorem admitScanDone_of_sound {t : Nat} {s s0 : State} {p : Pend} {ps : List Pend} {done : List Item}
    (hpend : (tenOf s t).pend = p :: ps) (hscan : p.stage = .scanning) (htake : takeDone (.admitScan t) s = some s0)
    (hs0 : s0 = { s with fr := { s.fr with done := done } }) (hue : s.adm.ueWords = []) (hce : s.adm.ceWords = [])
    (hceW : p.e.ceW = []) (hbad : badCode s (4 * t) p.e = 0) : admitScanDone t s =
      if dirtyDecides s then decideHead t (scannedHead p) (headScanned t p done s) else headScanned t p done s := by
  have corrected : ({ p with stage := .ready, e := { p.e with ceW := [] } } : Pend) = scannedHead p := by rw [scannedHead, ← hceW]
  have adm : s0.adm = s.adm := by rw [hs0]
  rw [admitScanDone, hpend]
  simp only [hscan, if_true, htake, hbad, corrected, entryRead_of_sound s0 (ueW_of_badCode hbad) hceW]
  rw [scanWords_of_sound _ _ (adm ▸ hue) (adm ▸ hce), hs0]
  rfl

/-! The energy test rests on the counts, which a change of one pending entry does not touch. -/

/-- Entries under other keys stay, with their places. -/
theorem Sparse.filter_put {α : Type} [DecidableEq α] (d : Nat → α) (k : Nat) (v : α) (m : List (Nat × α)) :
    (Sparse.put d m k v).filter (fun p => p.1 != k) = m.filter fun p => p.1 != k := by
  have inserted : ∀ m : List (Nat × α), (Sparse.insert m k v).filter (fun p => p.1 != k) = m.filter fun p => p.1 != k := by
    intro m
    induction m with
    | nil => simp [Sparse.insert]
    | cons q m ih =>
      obtain ⟨j, w⟩ := q
      unfold Sparse.insert
      split
      next h => simp [h]
      next h => split <;> simp [List.filter_cons, ih]
  unfold Sparse.put
  split
  · rw [List.filter_filter]
    simp
  · exact inserted m

section
variable (t : Nat) (q : Pend) (done : List Item) (s : State)

theorem setHead_tenOf_dirtyNow (k : Nat) : (tenOf (setHead t q s) k).dirtyNow = (tenOf s k).dirtyNow := by
  by_cases hk : k = t
  · rw [hk, setHead, modTenant_tenOf]
  · rw [setHead, modTenant_tenOf_ne _ s hk]

theorem setHead_outranked : outranked (setHead t q s) t = outranked s t := by
  have others : ∀ u : State, outranked u t = (u.ring.tenants.filter fun p => p.1 != t).any fun p =>
      decide (tRank u t ≤ tRank u p.1) && (match p.2.pend with | q :: _ => q.stage == .held && q.byNeed | [] => false) := by
    intro u
    rw [List.any_filter, outranked]
    exact congrArg (List.any _) (funext fun p => Bool.and_assoc _ _ _)
  have same : (setHead t q s).ring.tenants.filter (fun p => p.1 != t) = s.ring.tenants.filter fun p => p.1 != t :=
    Sparse.filter_put (fun _ => ({} : Tenant)) t _ s.ring.tenants
  rw [others, others, same]
  rfl

theorem setHead_energyFits (n : Nat) : energyFits (setHead t q s) t n = energyFits s t n := by
  have counts := setHead_tenOf_dirtyNow t q s
  have floors : floorsOf (setHead t q s) t = floorsOf s t := by
    simp only [floorsOf, counts]
    rfl
  have crit : critDirty (setHead t q s) = critDirty s := by
    simp only [critDirty, counts]
    rfl
  have test : testNeed (setHead t q s) t n = testNeed s t n := by
    rw [testNeed, floors]
    rfl
  rw [energyFits, test, crit]
  rfl

theorem setHead_admitCheck (n wait : Nat) : admitCheck (setHead t q s) t n wait = admitCheck s t n wait := by
  have counts := setHead_tenOf_dirtyNow t q s t
  have test : energyTest (setHead t q s) t n = energyTest s t n := by
    rw [energyTest, setHead_energyFits, setHead_outranked, counts]
    rfl
  rw [admitCheck, test, counts]
  rfl

end

/-! The cases of the decision. -/

/-- The entry with the n of the present map (R137). -/
def countedHead (s : State) (p : Pend) : Pend := { p with n := newCells s p.e }

/-- The admission: a tick, the counts, the map write to come and the energy terms (R135, R141). -/
def admitted (t : Nat) (p : Pend) (s : State) : State :=
  refresh (queueItem ⟨13, ceilDiv (eCount p.e) 16, 1, 0, .admitWrite t p.e.ord (eFirst p.e) (eCount p.e)⟩
    (setHead t { p with stage := .writing } (addDirty t p.n (spend 12 1 s))))

section
variable {t : Nat} {p : Pend} {s : State} (hbad : badCode s (4 * t) p.e = 0)
include hbad

theorem dirtyVerdict_of_sound : dirtyVerdict s t (countedHead s p) = admitCheck s t (newCells s p.e) p.wait := by
  have sound : badCode s (4 * t) (countedHead s p).e = 0 := hbad
  rw [dirtyVerdict, sound]
  rfl

theorem decideHead_of_held (h : admitCheck s t (newCells s p.e) p.wait = none) : decideHead t p s =
    setHead t { countedHead s p with stage := .held, byNeed := !energyFits s t (newCells s p.e) } s := by
  have verdict := dirtyVerdict_of_sound hbad
  rw [h, countedHead] at verdict
  rw [decideHead, verdict]
  rfl

variable (hrest : namesUnrestored s p.e = false)
include hrest

theorem decideHead_of_noRoom (hready : p.stage = .ready) (h : admitCheck s t (newCells s p.e) p.wait ≠ none)
    (hroom : answerRoom s t = false) : decideHead t p s = setHead t (countedHead s p) s := by
  obtain ⟨v, hv⟩ := Option.ne_none_iff_exists'.1 h
  have verdict := dirtyVerdict_of_sound hbad
  rw [hv, countedHead] at verdict
  have stays : (if p.stage = .held then countedHead s p else { countedHead s p with stage := .ready }) = countedHead s p := by
    rw [if_neg (by simp [hready]), countedHead, hready]
  rw [countedHead] at stays
  rw [decideHead, verdict]
  simp only [hrest, hroom, Bool.and_false, Bool.false_eq_true, if_false, stays]
  rfl

variable (hroom : answerRoom s t = true) (hfree : ringsFree s = true)
include hroom hfree

theorem decideHead_of_admitted (h : admitCheck s t (newCells s p.e) p.wait = some .accept) (hn : 0 < newCells s p.e) :
    decideHead t p s = admitted t (countedHead s p) s := by
  have verdict := dirtyVerdict_of_sound hbad
  rw [h, countedHead] at verdict
  rw [decideHead, verdict]
  simp only [hrest, hroom, hfree, hn, Bool.and_false, Bool.false_eq_true, if_false, if_true, decide_true, Bool.and_true]
  rfl

theorem decideHead_of_answered {v : Verdict} (h : admitCheck s t (newCells s p.e) p.wait = some v)
    (hv : v ≠ .accept ∨ newCells s p.e = 0) :
    decideHead t p s = answerDirty t (setHead t { countedHead s p with stage := .decided v } (spend 12 1 s)) := by
  have verdict := dirtyVerdict_of_sound hbad
  rw [h, countedHead] at verdict
  have answered : (decide (v = .accept) && decide (0 < newCells s p.e)) = false := by rcases hv with hv | hv <;> simp [hv]
  rw [decideHead, verdict]
  simp only [hrest, hroom, hfree, answered, Bool.and_false, Bool.false_eq_true, if_false, if_true]
  rfl

end

/-! What each case leaves. -/

/-- No decision writes the map. -/
theorem decideHead_map (t : Nat) (p : Pend) (s : State) : (decideHead t p s).adm.map = s.adm.map := by
  have kept : ∀ u : State, (refresh u).adm.map = u.adm.map := fun u => by
    obtain ⟨-, map, -⟩ := refresh_adm u
    exact map
  unfold decideHead
  extract_lets q s1
  split
  · rfl
  · split
    · rfl
    · split
      · split
        · split
          · rw [kept]; simp [addDirty, s1]
          · simp [s1]
        · simp
      · rfl

theorem setHead_pend {t : Nat} {s : State} {p : Pend} {ps : List Pend} (q : Pend) (hpend : (tenOf s t).pend = p :: ps) :
    (tenOf (setHead t q s) t).pend = q :: ps := by
  rw [setHead, modTenant_tenOf, hpend, List.tail_cons]

/-- The terms of ENERGY_NEED: the tables, the DRAM's image and Scout's temperatures (R131 to R135). -/
theorem needOf_congr {s u : State} (conf : u.conf = s.conf) (dram : u.dram = s.dram) (pub : u.scout.pub = s.scout.pub)
    (pubF0 : u.scout.pubF0 = s.scout.pubF0) (pubF1 : u.scout.pubF1 = s.scout.pubF1) (dirty : Nat) : needOf u dirty = needOf s dirty := by
  change needOf { s with
    conf := u.conf, dram := u.dram, scout := { s.scout with pub := u.scout.pub, pubF0 := u.scout.pubF0, pubF1 := u.scout.pubF1 } } dirty = _
  rw [conf, dram, pub, pubF0, pubF1]

theorem needOf_mono (s : State) {a b : Nat} (h : a ≤ b) : needOf s a ≤ needOf s b := by
  have more : eT s * a ≤ eT s * b := Nat.mul_le_mul_left _ h
  exact Nat.div_le_div_right (by omega)

section
variable (t : Nat) (p : Pend) (s : State)

theorem admitted_tenOf : tenOf (admitted t p s) t =
    { tenOf s t with dirtyNow := (tenOf s t).dirtyNow + p.n, pend := { p with stage := .writing } :: (tenOf s t).pend.tail } := by
  obtain ⟨-, tenants, -⟩ := (refresh_reports (queueItem ⟨13, ceilDiv (eCount p.e) 16, 1, 0, .admitWrite t p.e.ord (eFirst p.e) (eCount p.e)⟩
    (setHead t { p with stage := .writing } (addDirty t p.n (spend 12 1 s))))).keepsRings
  rw [admitted, tenOf, tenants, ← tenOf, queueItem_tenOf, setHead, modTenant_tenOf, addDirty, modTenant_tenOf]
  rfl

/-- DIRTY_TOTAL rises by n, and ENERGY_NEED follows (R135, R136). -/
theorem admitted_adm : (admitted t p s).adm.dirtyTotal = s.adm.dirtyTotal + p.n ∧ (admitted t p s).adm.now = s.adm.now ∧
    (admitted t p s).adm.need = needOf s (s.adm.dirtyTotal + p.n) := by
  rw [admitted]
  generalize hit : Item.mk 13 (ceilDiv (eCount p.e) 16) 1 0 (.admitWrite t p.e.ord (eFirst p.e) (eCount p.e)) = it
  generalize hx : setHead t { p with stage := .writing } (addDirty t p.n (spend 12 1 s)) = x
  have total : (queueItem it x).adm = { s.adm with dirtyTotal := s.adm.dirtyTotal + p.n } := by
    simp [← hx, addDirty]
  obtain ⟨need, -, dirtyTotal, now, -⟩ := refresh_adm (queueItem it x)
  obtain ⟨-, -, -, scout, -⟩ := queueItem_reports it x
  have terms : ∀ d, needOf (queueItem it x) d = needOf s d := fun d =>
    needOf_congr (by simp [← hx]) (by simp [← hx]) (by rw [scout, ← hx]; rfl) (by rw [scout, ← hx]; rfl) (by rw [scout, ← hx]; rfl) d
  rw [dirtyTotal, now, need, terms, total]
  exact ⟨rfl, rfl, rfl⟩

end

/-- What admits new cells without overcommit leaves ENERGY_NOW at or above what they need with the others (R136, R139). -/
theorem needOf_of_accept {s : State} {t n wait : Nat} (h : admitCheck s t n wait = some .accept) (hn : 0 < n)
    (hoc : s.adm.ocActive = false) : needOf s (s.adm.dirtyTotal + n) ≤ s.adm.now := by
  have fits : energyTest s t n = true := by
    unfold admitCheck at h
    split at h
    · cases h
    · split at h
      · cases h
      · rw [if_neg (by omega)] at h
        split at h
        · cases h
        · split at h
          next fits => exact fits
          next => split at h <;> cases h
  simp only [energyTest, energyFits, Bool.and_eq_true, decide_eq_true_eq] at fits
  obtain ⟨⟨⟨limit, -⟩, -⟩, -⟩ := fits
  have now : limitL s = s.adm.now := by simp [limitL, hoc]
  rw [now, testNeed] at limit
  exact (needOf_mono s (by omega)).trans limit

/-- A decision made with two ticks left is answered in the frame (R114, R116). -/
theorem setHead_answered {t : Nat} {s : State} {p q : Pend} {ps : List Pend} {v : Verdict} (hpend : (tenOf s t).pend = p :: ps)
    (hstage : q.stage = .decided v) (hnow : answersNow s = true) (hroom : answerRoom s t = true) (hlate : s.ring.late = [])
    (hticks : 2 ≤ ledLeft s 12) : let u := answerDirty t (setHead t q (spend 12 1 s))
    HeadServed ({ tenOf s t with pend := ps }.answered v) (tenOf u t) ∧ (tenOf u t).pend.length = ps.length := by
  have head : (tenOf (setHead t q (spend 12 1 s)) t).pend = q :: ps := setHead_pend (p := p) q hpend
  have same : ({ tenOf (setHead t q (spend 12 1 s)) t with pend := ps } : Tenant) = { tenOf s t with pend := ps } := by
    rw [setHead, modTenant_tenOf]
    rfl
  have free : ringsFree (setHead t q (spend 12 1 s)) = true := ringsFree_spend hlate hticks
  rw [← same]
  exact ⟨answerDirty_tenOf head hstage hnow hroom free, answerDirty_pend head hstage hnow hroom free⟩

/-- Where DIRTY entries are decided, decided ones are answered. -/
theorem answersNow_of_dirtyDecides {s : State} (h : dirtyDecides s = true) : answersNow s = true := by
  simp only [dirtyDecides, Bool.and_eq_true] at h
  obtain ⟨⟨⟨state, -⟩, -⟩, -⟩ := h
  rw [answersNow, state, Bool.true_or]

/-- Settles O36: the scan of a sound entry leaves its head ready; the decision's cases are then those of the checks. -/
theorem admissionDecides : Obligations.AdmissionDecides := by
  intro t s s0 p ps hpend hscan htake hue hce hceW hbad hrest n free
  obtain ⟨done, hs0⟩ := takeDone_eq htake
  have scanned := admitScanDone_of_sound hpend hscan htake hs0 hue hce hceW hbad
  have check : ∀ v, admitCheck (headScanned t p done s) t n p.wait = v ↔ admitCheck s t n p.wait = v := fun v => by
    rw [headScanned, setHead_admitCheck]
    rfl
  have head : (tenOf (headScanned t p done s) t).pend = scannedHead p :: ps := setHead_pend (p := p) _ hpend
  have decided : dirtyDecides s = true → admitScanDone t s = decideHead t (scannedHead p) (headScanned t p done s) := fun h => by
    rw [scanned, if_pos h]
  have ticks : free = true → answerRoom s t = true ∧ s.ring.late = [] ∧ 2 ≤ ledLeft s 12 := fun h => by
    simpa only [free, Bool.and_eq_true, List.isEmpty_iff, decide_eq_true_eq, and_assoc] using h
  refine ⟨_, exec_admitScanDone t s, ?_, ?_, ?_, fun hno => ?_, fun hyes h => ?_, fun hyes h hroom => ?_, fun hyes h hn hfree => ?_,
    fun hyes h hn hfree => ?_, fun c hyes h hfree => ?_⟩
  · have map : (admitScanDone t s).adm.map = s.adm.map := by
      rw [scanned]
      split
      · rw [decideHead_map]; rfl
      · rfl
    exact fun c => by rw [nibble, map, nibble]
  · rw [scanned]
    split <;> simp [headScanned]
  · rw [scanned]
    split <;> simp [headScanned]
  · rw [scanned, if_neg (by simp [hno])]
    exact ⟨head, rfl⟩
  · rw [decided hyes, decideHead_of_held (s := headScanned t p done s) (p := scannedHead p) hbad ((check _).2 h)]
    refine ⟨?_, rfl⟩
    rw [setHead_pend _ head, headScanned, setHead_energyFits]
    rfl
  · rw [decided hyes, decideHead_of_noRoom (s := headScanned t p done s) (p := scannedHead p) hbad hrest rfl
      (fun hn => h ((check _).1 hn)) hroom]
    exact ⟨setHead_pend _ head, rfl⟩
  · obtain ⟨hroom, hlate, hticks⟩ := ticks hfree
    rw [decided hyes, decideHead_of_admitted (s := headScanned t p done s) (p := scannedHead p) hbad hrest hroom
      (ringsFree_of_ticks hlate hticks) ((check _).2 h) hn]
    obtain ⟨total, now, need⟩ := admitted_adm t (countedHead (headScanned t p done s) (scannedHead p)) (headScanned t p done s)
    have ten := admitted_tenOf t (countedHead (headScanned t p done s) (scannedHead p)) (headScanned t p done s)
    refine ⟨?_, ?_, total, fun hoc => ?_⟩
    · rw [ten, head]
      rfl
    · rw [ten, headScanned, setHead_tenOf_dirtyNow]
      rfl
    · rw [covered, need, now]
      exact decide_eq_true (needOf_of_accept ((check _).2 h) hn hoc)
  · obtain ⟨hroom, hlate, hticks⟩ := ticks hfree
    rw [decided hyes, decideHead_of_answered (s := headScanned t p done s) (p := scannedHead p) hbad hrest hroom
      (ringsFree_of_ticks hlate hticks) ((check _).2 h) (.inr hn)]
    obtain ⟨⟨same, -⟩, length⟩ := setHead_answered
      (q := { countedHead (headScanned t p done s) (scannedHead p) with stage := .decided .accept }) head rfl
      (answersNow_of_dirtyDecides hyes) hroom hlate hticks
    refine ⟨?_, length, by simp [headScanned]⟩
    rw [same, headScanned, setHead, modTenant_tenOf]
    rfl
  · obtain ⟨hroom, hlate, hticks⟩ := ticks hfree
    rw [decided hyes, decideHead_of_answered (s := headScanned t p done s) (p := scannedHead p) hbad hrest hroom
      (ringsFree_of_ticks hlate hticks) ((check _).2 h) (.inl (by simp))]
    obtain ⟨⟨same, -⟩, length⟩ := setHead_answered
      (q := { countedHead (headScanned t p done s) (scannedHead p) with stage := .decided (.refuse c) }) head rfl
      (answersNow_of_dirtyDecides hyes) hroom hlate hticks
    refine ⟨?_, ?_, length, by simp [headScanned]⟩
    · rw [same]
      rfl
    · rw [same, headScanned, setHead, modTenant_tenOf]
      rfl

end Sys2Proof.Machine
end

section
/-! PROOFS. The map writes of an admission and of a cleaning, and the start of a cleaning (05, 06, 10, R115, R127, R141, R228). -/

namespace Sys2Proof.Machine

theorem exec_admitMapWriteDone (t : Nat) (s : State) : exec (.admitMapWriteDone t) s = .next (admitMapWriteDone t s) := rfl
theorem exec_cleanWriteDone (t : Nat) (s : State) : exec (.cleanWriteDone t) s = .next (cleanWriteDone t s) := rfl
theorem exec_cleanScanDone (t : Nat) (s : State) : exec (.cleanScanDone t) s = .next (cleanScanDone t s) := rfl

/-! Cells. -/

theorem mem_rangeOf {first count c : Nat} : c ∈ rangeOf first count ↔ first ≤ c ∧ c < first + count := by
  simp only [rangeOf, List.mem_map, List.mem_range]
  exact ⟨fun ⟨i, hi, h⟩ => by omega, fun h => ⟨c - first, by omega, by omega⟩⟩

theorem nibble_congr {s u : State} (h : u.adm.map = s.adm.map) (c : Nat) : nibble u c = nibble s c := by rw [nibble, h, nibble]

theorem writeCell_nibble (c st gen : Nat) (s : State) (b : Nat) :
    nibble (writeCell c st gen s) b = if b = c then st + 4 * gen else nibble s b := by
  obtain ⟨same, others, -⟩ := writeCell_laws c st gen s
  split
  next h => rw [h, same]
  next h => exact others b h

theorem injectUse_others (chk : Nat) (s : State) : (injectUse chk s).1 = { s with tally := (injectUse chk s).1.tally } := by
  unfold injectUse
  split <;> rfl

/-- An injection marks words of the map, and changes no cell. -/
theorem mapWrites_others (first count : Nat) (s : State) : mapWrites first count s = { s with
    tally := (mapWrites first count s).tally
    adm := { s.adm with ceWords := (mapWrites first count s).adm.ceWords, ueWords := (mapWrites first count s).adm.ueWords } } := by
  have marks : ∀ (f : State → Nat → State), (∀ u i, ∃ told ce ue, f u i = { u with
      tally := told, adm := { u.adm with ceWords := ce, ueWords := ue } }) → ∀ (l : List Nat) (u : State), ∃ told ce ue,
      l.foldl f u = { u with tally := told, adm := { u.adm with ceWords := ce, ueWords := ue } } := by
    intro f hf l
    induction l with
    | nil => exact fun u => ⟨_, _, _, rfl⟩
    | cons i l ih =>
      intro u
      obtain ⟨told, ce, ue, first⟩ := hf u i
      obtain ⟨told', ce', ue', rest⟩ := ih (f u i)
      exact ⟨told', ce', ue', by rw [List.foldl_cons, rest, first]⟩
  have marked : ∃ told ce ue, mapWrites first count s = { s with tally := told, adm := { s.adm with ceWords := ce, ueWords := ue } } := by
    unfold mapWrites
    split
    · refine marks _ (fun u i => ?_) _ s
      have used := injectUse_others 8 u
      dsimp only
      rw [used]
      split
      · exact ⟨_, _, _, rfl⟩
      · split <;> exact ⟨_, _, _, rfl⟩
    · exact ⟨_, _, _, rfl⟩
  obtain ⟨told, ce, ue, h⟩ := marked
  rw [h]

theorem mapWrites_sameService (first count : Nat) (s : State) : SameService s (mapWrites first count s) := by
  rw [mapWrites_others]
  exact ⟨rfl, rfl, rfl, rfl, rfl, rfl, rfl, rfl, fun _ => rfl⟩

theorem mapWrites_nibble (first count : Nat) (s : State) (c : Nat) : nibble (mapWrites first count s) c = nibble s c := by
  rw [mapWrites_others]
  rfl

theorem mapWrites_dirtyTotal (first count : Nat) (s : State) : (mapWrites first count s).adm.dirtyTotal = s.adm.dirtyTotal := by
  rw [mapWrites_others]

/-! The write of an admission (R127). -/

/-- A cell that is not DIRTY becomes so, with the present GEN. -/
def dirtied (s : State) (c : Nat) : State := if cellState s c = 1 then s else writeCell c 1 (genNow s) s

theorem writeDirty_eq (first count : Nat) (s : State) :
    writeDirty first count s = if count = 0 then s else mapWrites first count ((rangeOf first count).foldl dirtied s) := rfl

theorem dirtied_others (s : State) (c : Nat) : dirtied s c =
    { s with adm := { s.adm with map := (dirtied s c).adm.map, trickledTotal := (dirtied s c).adm.trickledTotal } } := by
  unfold dirtied
  split <;> rfl

theorem dirtied_nibble (s : State) (c b : Nat) :
    nibble (dirtied s c) b = if b = c ∧ cellState s b ≠ 1 then 1 + 4 * genNow s else nibble s b := by
  unfold dirtied
  by_cases hb : b = c
  · subst hb
    by_cases hd : cellState s b = 1
    · simp [hd]
    · rw [if_neg hd, writeCell_nibble, if_pos rfl, if_pos ⟨rfl, hd⟩]
  · have other : ¬(b = c ∧ cellState s b ≠ 1) := fun h => hb h.1
    rw [if_neg other]
    split
    · rfl
    · rw [writeCell_nibble, if_neg hb]

theorem foldl_dirtied_nibble (b : Nat) : ∀ (l : List Nat) (s : State),
    nibble (l.foldl dirtied s) b = if b ∈ l ∧ cellState s b ≠ 1 then 1 + 4 * genNow s else nibble s b
  | [], s => by simp
  | c :: l, s => by
    have gen : genNow (dirtied s c) = genNow s := by rw [dirtied_others]; rfl
    rw [List.foldl_cons, foldl_dirtied_nibble b l, gen, cellState, dirtied_nibble]
    by_cases hb : b = c ∧ cellState s b ≠ 1
    · obtain ⟨rfl, hd⟩ := hb
      have dirty : (1 + 4 * genNow s) % 4 = 1 := by omega
      simp [hd, dirty]
    · rw [if_neg hb, ← cellState]
      have same : (b ∈ c :: l ∧ cellState s b ≠ 1) ↔ b ∈ l ∧ cellState s b ≠ 1 := by
        rw [List.mem_cons]
        exact ⟨fun ⟨h, hd⟩ => ⟨h.resolve_left fun hc => hb ⟨hc, hd⟩, hd⟩, fun ⟨h, hd⟩ => ⟨.inr h, hd⟩⟩
      simp only [same]

theorem foldl_dirtied_others (l : List Nat) (s : State) : SameService s (l.foldl dirtied s) ∧
    (l.foldl dirtied s).adm.dirtyTotal = s.adm.dirtyTotal := by
  refine ⟨.foldl dirtied (fun s c => ?_) l s, foldl_proj dirtied (·.adm.dirtyTotal) (fun s c => ?_) l s⟩
  · rw [dirtied_others]
    exact ⟨rfl, rfl, rfl, rfl, rfl, rfl, rfl, rfl, fun _ => rfl⟩
  · rw [dirtied_others]

/-- The named cells that were not DIRTY are, with the present GEN; all else of the map stays. -/
theorem writeDirty_nibble (first count : Nat) (s : State) (c : Nat) : nibble (writeDirty first count s) c =
    if first ≤ c ∧ c < first + count ∧ cellState s c ≠ 1 then 1 + 4 * genNow s else nibble s c := by
  have named : (first ≤ c ∧ c < first + count ∧ cellState s c ≠ 1) ↔ c ∈ rangeOf first count ∧ cellState s c ≠ 1 := by
    rw [mem_rangeOf, and_assoc]
  simp only [named]
  rw [writeDirty_eq]
  split
  next h => rw [if_neg]; simp [h, rangeOf]
  next => rw [mapWrites_nibble, foldl_dirtied_nibble]

theorem writeDirty_others (first count : Nat) (s : State) : SameService s (writeDirty first count s) ∧
    (writeDirty first count s).adm.dirtyTotal = s.adm.dirtyTotal := by
  obtain ⟨service, total⟩ := foldl_dirtied_others (rangeOf first count) s
  rw [writeDirty_eq]
  split
  · exact ⟨.refl s, rfl⟩
  · exact ⟨service.trans (mapWrites_sameService _ _ _), (mapWrites_dirtyTotal _ _ _).trans total⟩

/-! The answers that a map write makes ready. -/

/-- After its write an admission is answered, or its kept answer is (R106, R115). -/
def admissionWritten (t o : Nat) (s : State) : State :=
  match (tenOf s t).pend with
  | p :: _ =>
    if p.stage = .writing && p.e.ord = o then answerDirty t (setHead t { p with stage := .decided .accept } s)
    else answerKept t (keptReady o s)
  | [] => answerKept t (keptReady o s)

theorem admitMapWriteDone_of_done {t o first count : Nat} {s s0 : State} (hend : endedWrite false t s = some (o, first, count))
    (htake : takeDone (.admitWrite t o first count) s = some s0) :
    admitMapWriteDone t s = admissionWritten t o (writeDirty first count s0) := by
  rw [admitMapWriteDone, hend]
  simp only [htake]
  rfl

theorem admissionWritten_blocks (t o : Nat) (s : State) : (admissionWritten t o s).adm = s.adm ∧
    (admissionWritten t o s).conf = s.conf ∧ (admissionWritten t o s).arr = s.arr := by
  unfold admissionWritten
  split
  · split <;> simp
  · simp

theorem admissionWritten_of_head {t o : Nat} {s : State} {p : Pend} {ps : List Pend} (hpend : (tenOf s t).pend = p :: ps)
    (hstage : p.stage = .writing) (hord : p.e.ord = o) :
    admissionWritten t o s = answerDirty t (setHead t { p with stage := .decided .accept } s) := by
  rw [admissionWritten, hpend]
  exact if_pos (by simp [hstage, hord])

/-! The write of a cleaning (R141, R147, R228). -/

/-- A cell that leaves DIRTY keeps its GEN; the counts follow. -/
theorem undirty_map (c : Nat) (s : State) : (undirty c 0 s).adm.map = (writeCell c 0 (cellGen s c) s).adm.map := by
  unfold undirty
  extract_lets s1
  split
  · split <;> rfl
  · rfl

theorem undirty_sameService (c : Nat) (s : State) : SameService s (undirty c 0 s) := by
  have written : SameService s (writeCell c 0 (cellGen s c) s) := ⟨rfl, rfl, rfl, rfl, rfl, rfl, rfl, rfl, fun _ => rfl⟩
  unfold undirty
  extract_lets s1
  split
  · split
    next t _ =>
      refine written.trans ⟨rfl, rfl, rfl, rfl, rfl, rfl, rfl, rfl, fun k => ?_⟩
      by_cases hk : k = t
      · rw [hk, subDirty, modTenant_tenOf]
        rfl
      · rw [subDirty, modTenant_tenOf_ne _ _ hk]
        rfl
    next => exact ⟨rfl, rfl, rfl, rfl, rfl, rfl, rfl, rfl, fun _ => rfl⟩
  · exact written

theorem undirty_nibble (c : Nat) (s : State) (b : Nat) :
    nibble (undirty c 0 s) b = if b = c then 4 * cellGen s c else nibble s b := by
  rw [nibble_congr (undirty_map c s), writeCell_nibble, Nat.zero_add]

/-- The cells of a list read CLEAN; every other one stays. -/
theorem foldl_undirty_nibble (b : Nat) : ∀ (l : List Nat) (s : State),
    (b ∈ l → cellState (l.foldl (fun s c => undirty c 0 s) s) b = 0) ∧
      (b ∉ l → nibble (l.foldl (fun s c => undirty c 0 s) s) b = nibble s b)
  | [], s => ⟨nofun, fun _ => rfl⟩
  | c :: l, s => by
    obtain ⟨named, others⟩ := foldl_undirty_nibble b l (undirty c 0 s)
    rw [List.foldl_cons]
    refine ⟨fun hb => ?_, fun hb => ?_⟩
    · by_cases hl : b ∈ l
      · exact named hl
      · have hc : b = c := (List.mem_cons.1 hb).resolve_right hl
        rw [cellState, others hl, undirty_nibble, if_pos hc]
        omega
    · rw [List.mem_cons, not_or] at hb
      obtain ⟨hc, hl⟩ := hb
      rw [others hl, undirty_nibble, if_neg hc]

/-- A cell that the map does not list is CLEAN (R126). -/
theorem Sparse.get_of_unlisted {α : Type} {d : Nat → α} {k : Nat} : ∀ {m : List (Nat × α)}, k ∉ m.map (·.1) → Sparse.get d m k = d k
  | [], _ => rfl
  | (j, w) :: m, h => by
    rw [List.map_cons, List.mem_cons, not_or] at h
    obtain ⟨hj, hm⟩ := h
    rw [Sparse.get, if_neg (Ne.symm hj), Sparse.get_of_unlisted hm]

/-- The listed cells of a range. -/
def listedIn (first count : Nat) (s : State) : List Nat :=
  (s.adm.map.filter fun p => decide (first ≤ p.1) && decide (p.1 < first + count)).map (·.1)

theorem mem_listedIn {first count c : Nat} {s : State} :
    c ∈ listedIn first count s ↔ c ∈ s.adm.map.map (·.1) ∧ first ≤ c ∧ c < first + count := by
  simp only [listedIn, List.mem_map, List.mem_filter, Bool.and_eq_true, decide_eq_true_eq]
  constructor
  · rintro ⟨p, ⟨hp, hr⟩, rfl⟩
    exact ⟨⟨p, hp, rfl⟩, hr⟩
  · rintro ⟨⟨p, hp, rfl⟩, hr⟩
    exact ⟨p, ⟨hp, hr⟩, rfl⟩

/-- The plan without the cells of a range. -/
def planWithout (first count : Nat) (plan : List Nat) : List Nat :=
  plan.filter fun c => !(decide (first ≤ c) && decide (c < first + count))

theorem mem_planWithout {first count c : Nat} {plan : List Nat} :
    c ∈ planWithout first count plan ↔ c ∈ plan ∧ ¬(first ≤ c ∧ c < first + count) := by
  simp only [planWithout, List.mem_filter, Bool.not_eq_true', Bool.and_eq_false_iff, decide_eq_false_iff_not, not_and_or]

/-- The cells of a cleaning, before the energy terms follow. -/
def cellsCleaned (first count : Nat) (s : State) : State := (listedIn first count s).foldl (fun s c => undirty c 0 s) s

/-- And they are out of the plan. -/
def cellsUnplanned (first count : Nat) (s : State) : State := { cellsCleaned first count s with
  harv := { (cellsCleaned first count s).harv with plan := planWithout first count (cellsCleaned first count s).harv.plan } }

theorem cellsUnplanned_plan (first count : Nat) (s : State) :
    (cellsUnplanned first count s).harv.plan = planWithout first count s.harv.plan := by
  have harv : (cellsCleaned first count s).harv = s.harv := by simp [cellsCleaned]
  rw [cellsUnplanned, harv]

theorem writeClean_of_some {first count : Nat} (s : State) (h : count ≠ 0) :
    writeClean first count s = mapWrites first count (refresh (cellsUnplanned first count s)) := if_neg h

theorem cellsUnplanned_sameService (first count : Nat) (s : State) : SameService s (cellsUnplanned first count s) :=
  SameService.foldl (fun s c => undirty c 0 s) (fun s c => undirty_sameService c s) (listedIn first count s) s

theorem writeClean_sameService (first count : Nat) (s : State) : SameService s (writeClean first count s) := by
  by_cases h : count = 0
  · rw [h]
    exact .refl s
  · rw [writeClean_of_some s h]
    exact (cellsUnplanned_sameService first count s).trans ((refresh_sameService _).trans (mapWrites_sameService _ _ _))

theorem writeClean_nibble {first count : Nat} (s : State) (h : count ≠ 0) (c : Nat) :
    nibble (writeClean first count s) c = nibble (cellsCleaned first count s) c := by
  obtain ⟨-, map, -⟩ := refresh_adm (cellsUnplanned first count s)
  rw [writeClean_of_some s h, mapWrites_nibble, nibble_congr map]
  rfl

theorem writeClean_cellState {first count c : Nat} (s : State) (hlo : first ≤ c) (hhi : c < first + count) :
    cellState (writeClean first count s) c = 0 := by
  obtain ⟨named, others⟩ := foldl_undirty_nibble c (listedIn first count s) s
  rw [cellState, writeClean_nibble s (by omega)]
  by_cases hc : c ∈ listedIn first count s
  · exact named hc
  · have unlisted : c ∉ s.adm.map.map (·.1) := fun h => hc (mem_listedIn.2 ⟨h, hlo, hhi⟩)
    have zero : nibble s c = 0 := Sparse.get_of_unlisted unlisted
    rw [cellsCleaned, others hc, zero]

theorem writeClean_nibble_outside {first count c : Nat} (s : State) (h : c < first ∨ first + count ≤ c) :
    nibble (writeClean first count s) c = nibble s c := by
  by_cases hcount : count = 0
  · rw [hcount]
    rfl
  · obtain ⟨-, others⟩ := foldl_undirty_nibble c (listedIn first count s) s
    rw [writeClean_nibble s hcount]
    exact others fun hc => by
      obtain ⟨-, hlo, hhi⟩ := mem_listedIn.1 hc
      omega

theorem mem_writeClean_plan {first count c : Nat} (s : State) :
    c ∈ (writeClean first count s).harv.plan ↔ c ∈ s.harv.plan ∧ ¬(first ≤ c ∧ c < first + count) := by
  by_cases h : count = 0
  · rw [h]
    exact ⟨fun hc => ⟨hc, by omega⟩, fun hc => hc.1⟩
  · have plan : (writeClean first count s).harv.plan = planWithout first count s.harv.plan := by
      rw [writeClean_of_some s h, ← cellsUnplanned_plan]
      simp
    rw [plan, mem_planWithout]

/-- After its write a cleaning is answered, or its kept answer is (R106, R115). -/
def cleaningWritten (t o : Nat) (s : State) : State :=
  match (ringOf s (4 * t + 1)).pub with
  | e :: _ =>
    if (tenOf s t).clean = .writing && e.ord = o then answerClean t (setClean t (.decided .cleaned) s)
    else answerKept t (keptReady o s)
  | [] => answerKept t (keptReady o s)

theorem cleanWriteDone_of_done {t o first count : Nat} {s s0 : State} (hend : endedWrite true t s = some (o, first, count))
    (htake : takeDone (.cleanWrite t o first count) s = some s0) :
    cleanWriteDone t s = cleaningWritten t o (writeClean first count s0) := by
  rw [cleanWriteDone, hend]
  simp only [htake]
  rfl

theorem cleaningWritten_blocks (t o : Nat) (s : State) : (cleaningWritten t o s).adm = s.adm ∧
    (cleaningWritten t o s).harv = s.harv ∧ (cleaningWritten t o s).conf = s.conf ∧ (cleaningWritten t o s).arr = s.arr := by
  unfold cleaningWritten
  split
  · split <;> simp
  · simp

theorem cleaningWritten_of_head {t o : Nat} {s : State} {e : Entry} {es : List Entry} (hpub : (ringOf s (4 * t + 1)).pub = e :: es)
    (hclean : (tenOf s t).clean = .writing) (hord : e.ord = o) :
    cleaningWritten t o s = answerClean t (setClean t (.decided .cleaned) s) := by
  rw [cleaningWritten, hpub]
  exact if_pos (by simp [hclean, hord])

/-- A decided CLEAN head leaves its ring with its answer (R115, R116). -/
theorem answerClean_pub {t : Nat} {s : State} {e : Entry} {es : List Entry} {v : Verdict} (hpub : (ringOf s (4 * t + 1)).pub = e :: es)
    (hclean : (tenOf s t).clean = .decided v) (hnow : answersNow s = true) (hroom : answerRoom s t = true)
    (hfree : ringsFree s = true) : (ringOf (answerClean t s) (4 * t + 1)).pub = es := by
  have answered : answerClean t s = serveHeads (postAnswer (4 * t + 1) e v
      (modRing (4 * t + 1) (fun g => { g with pub := g.pub.tail, doneCnt := satInc 65535 g.doneCnt }) (setClean t .waiting s))) := by
    rw [answerClean, hpub, hclean]
    simp only [hnow, hroom, hfree, Bool.and_true, if_true]
  obtain ⟨rings, -⟩ := serveHeads_headsServed (postAnswer (4 * t + 1) e v
      (modRing (4 * t + 1) (fun g => { g with pub := g.pub.tail, doneCnt := satInc 65535 g.doneCnt }) (setClean t .waiting s)))
  rw [answered, ringOf, rings, ← ringOf, postAnswer_pub, modRing_ringOf]
  change (ringOf s (4 * t + 1)).pub.tail = es
  rw [hpub, List.tail_cons]

/-! The start of a cleaning (R125, R141, R228). -/

/-- The cleaning of a sound entry: a tick, its cells leave the plan, and its write is queued. -/
def cleaningStarted (t : Nat) (e : Entry) (s : State) : State :=
  serveHeads (queueItem ⟨13, ceilDiv (eCount e) 16, 1, 0, .cleanWrite t e.ord (eFirst e) (eCount e)⟩ (setClean t .writing
    { s with fr := (spend 12 1 s).fr, harv := { s.harv with plan := planWithout (eFirst e) (eCount e) s.harv.plan } }))

theorem decideCleanHead_of_sound {t : Nat} {e : Entry} {s : State} (hbad : badCode s (4 * t + 1) e = 0)
    (hset : namesReturnSet s e = false) (hroom : answerRoom s t = true) (hfree : ringsFree s = true) :
    decideCleanHead t e s = cleaningStarted t e s := by
  unfold decideCleanHead
  simp only [hbad, hset, hroom, hfree, decide_true, Bool.and_false, Bool.false_eq_true, if_false, if_true, ne_eq, not_true_eq_false]
  rfl

theorem cleaningStarted_clean (t : Nat) (e : Entry) (s : State) : (tenOf (cleaningStarted t e s) t).clean = .writing := by
  unfold cleaningStarted
  generalize Item.mk 13 (ceilDiv (eCount e) 16) 1 0 (.cleanWrite t e.ord (eFirst e) (eCount e)) = it
  generalize ({ s with fr := (spend 12 1 s).fr, harv := { s.harv with plan := planWithout (eFirst e) (eCount e) s.harv.plan } } : State) = x
  obtain ⟨-, served⟩ := serveHeads_headsServed (queueItem it (setClean t .writing x))
  have queued : (tenOf (queueItem it (setClean t .writing x)) t).clean = .writing := by rw [queueItem_tenOf, setClean, modTenant_tenOf]
  obtain ⟨-, -, clean⟩ := served t
  rw [clean (by rw [queued]; simp), queued]

theorem cleaningStarted_blocks (t : Nat) (e : Entry) (s : State) :
    (cleaningStarted t e s).harv.plan = planWithout (eFirst e) (eCount e) s.harv.plan ∧ (cleaningStarted t e s).adm = s.adm ∧
      (cleaningStarted t e s).conf = s.conf ∧ (cleaningStarted t e s).arr = s.arr := by
  simp [cleaningStarted]

/-- The scan of t's CLEAN head has ended. -/
def cleanScanned (t : Nat) (e : Entry) (done : List Item) (s : State) : State :=
  setClean t .ready (modRing (4 * t + 1) (fun g => { g with pub := e :: g.pub.tail }) { s with fr := { s.fr with done := done } })

theorem cleanScanned_answerRoom (t : Nat) (e : Entry) (done : List Item) (s : State) :
    answerRoom (cleanScanned t e done s) t = answerRoom s t := by
  have ring : ringOf (cleanScanned t e done s) (4 * t + 3) = ringOf s (4 * t + 3) :=
    modRing_ringOf_ne (fun g => { g with pub := e :: g.pub.tail }) { s with fr := { s.fr with done := done } }
      (by omega : 4 * t + 3 ≠ 4 * t + 1)
  rw [answerRoom, evFree, ring]
  rfl

theorem cleanScanDone_of_sound {t : Nat} {s s0 : State} {e : Entry} {es : List Entry} {done : List Item}
    (hpub : (ringOf s (4 * t + 1)).pub = e :: es) (hscan : (tenOf s t).clean = .scanning) (hdecides : cleanDecides s = true)
    (htake : takeDone (.cleanScan t) s = some s0) (hs0 : s0 = { s with fr := { s.fr with done := done } }) (hue : s.adm.ueWords = [])
    (hce : s.adm.ceWords = []) (hceW : e.ceW = []) (hbad : badCode s (4 * t + 1) e = 0) :
    cleanScanDone t s = decideCleanHead t e (cleanScanned t e done s) := by
  have corrected : ({ e with ceW := [] } : Entry) = e := by rw [← hceW]
  have adm : s0.adm = s.adm := by rw [hs0]
  rw [cleanScanDone, hpub]
  simp only [hscan, hdecides, if_true, htake, hbad, corrected, entryRead_of_sound s0 (ueW_of_badCode hbad) hceW]
  rw [scanWords_of_sound _ _ (by simpa [adm] using hue) (by simpa [adm] using hce), hs0]
  rfl

end Sys2Proof.Machine

namespace Sys2Proof

open Machine

/-- Settles O37: a map write leaves what serves the rings, so that its answer finds them as they were. -/
theorem mapWrites : Obligations.MapWrites := by
  refine ⟨fun t o first count s s0 hend htake => ?_, fun t o first count s s0 hend htake => ?_,
    fun t s s0 e es hpub hscan hdecides htake hue hce hceW hbad hset hroom hfree => ?_⟩
  · refine ⟨_, exec_admitMapWriteDone t s, ?_⟩
    rw [admitMapWriteDone_of_done hend htake]
    obtain ⟨service, total⟩ := writeDirty_others first count s0
    obtain ⟨adm, conf, arr⟩ := admissionWritten_blocks t o (writeDirty first count s0)
    have cells := writeDirty_nibble first count s0
    have serves := (takeDone_sameService htake).trans service
    obtain ⟨done, rfl⟩ := takeDone_eq htake
    refine ⟨fun c => by rw [nibble_congr (congrArg GuardB.map adm), cells]; rfl, by rw [adm, total], by rw [conf]; simp,
      by rw [arr]; simp, fun p ps hpend hstage hord hnow hroom hfree => ?_⟩
    have pend := (serves.pend t).trans hpend
    rw [admissionWritten_of_head pend hstage hord]
    generalize writeDirty first count _ = x at pend serves
    have head : (tenOf (setHead t { p with stage := .decided .accept } x) t).pend = _ := setHead_pend _ pend
    have now : answersNow (setHead t { p with stage := .decided .accept } x) = true := serves.answersNow.trans hnow
    have room : answerRoom (setHead t { p with stage := .decided .accept } x) t = true := (serves.answerRoom t).trans hroom
    have free : ringsFree (setHead t { p with stage := .decided .accept } x) = true := serves.ringsFree.trans hfree
    obtain ⟨same, length, -⟩ := answerDirty_tenOf head rfl now room free
    refine ⟨?_, length⟩
    rw [same, setHead, modTenant_tenOf]
    exact congrArg (satInc 65535) (serves.admitCnt t)
  · refine ⟨_, exec_cleanWriteDone t s, ?_⟩
    rw [cleanWriteDone_of_done hend htake]
    obtain ⟨adm, harv, conf, arr⟩ := cleaningWritten_blocks t o (writeClean first count s0)
    have map := nibble_congr (congrArg GuardB.map adm)
    have serves := (takeDone_sameService htake).trans (writeClean_sameService first count s0)
    refine ⟨fun c hlo hhi => ?_, fun c hc => ?_, fun c => ?_, ?_, ?_, fun e es hpub hclean hord hnow hroom hfree => ?_⟩
    · rw [cellState, map]
      exact writeClean_cellState s0 hlo hhi
    · rw [map, writeClean_nibble_outside s0 hc]
      obtain ⟨done, rfl⟩ := takeDone_eq htake
      rfl
    · rw [harv, mem_writeClean_plan]
      obtain ⟨done, rfl⟩ := takeDone_eq htake
      rfl
    · obtain ⟨done, rfl⟩ := takeDone_eq htake
      rw [conf]
      simp
    · obtain ⟨done, rfl⟩ := takeDone_eq htake
      rw [arr]
      simp
    · have pub : (ringOf (writeClean first count s0) (4 * t + 1)).pub = e :: es := by rw [serves.ringOf, hpub]
      rw [cleaningWritten_of_head pub ((serves.clean t).trans hclean) hord]
      have decided : (tenOf (setClean t (.decided .cleaned) (writeClean first count s0)) t).clean = .decided .cleaned := by
        rw [setClean, modTenant_tenOf]
      exact answerClean_pub (e := e) pub decided (serves.answersNow.trans hnow) ((serves.answerRoom t).trans hroom)
        (serves.ringsFree.trans hfree)
  · refine ⟨_, exec_cleanScanDone t s, ?_⟩
    obtain ⟨done, hs0⟩ := takeDone_eq htake
    rw [cleanScanDone_of_sound hpub hscan hdecides htake hs0 hue hce hceW hbad,
      decideCleanHead_of_sound (s := cleanScanned t e done s) hbad hset ((cleanScanned_answerRoom t e done s).trans hroom) hfree]
    obtain ⟨plan, adm, conf, arr⟩ := cleaningStarted_blocks t e (cleanScanned t e done s)
    refine ⟨cleaningStarted_clean t e _, fun c => ?_, by rw [adm]; rfl, by rw [conf]; rfl, by rw [arr]; rfl⟩
    rw [plan, mem_planWithout]
    rfl

end Sys2Proof
end

section
/-! PROOFS. Entries that wait: the end of a held entry's time, a recount of the map, what waited for EVENT space, and DEMAND lookups (05,
06, 12, R106, R115, R116, R124, R130, R139, R283). -/

namespace Sys2Proof.Machine

theorem exec_admitWaitExpiry (t : Nat) (s : State) : exec (.admitWaitExpiry t) s = .next (admitWaitExpiry t s) := rfl
theorem exec_mapRecountDone (s : State) : exec .mapRecountDone s = .next (mapRecountDone s) := rfl
theorem exec_answerPostDeferred (t : Nat) (s : State) : exec (.answerPostDeferred t) s = .next (answerPostDeferred t s) := rfl
theorem exec_demandLookupDone (r : Nat) (s : State) : exec (.demandLookupDone r) s = .next (demandLookupDone r s) := rfl

/-! A held entry whose time is over (R115, R139). -/

theorem admitWaitExpiry_of_due {t : Nat} {s : State} {p : Pend} {ps : List Pend} (hpend : (tenOf s t).pend = p :: ps)
    (hheld : p.stage = .held) (hwait : 2 ^ tWait s t ≤ p.wait) (hdecides : dirtyDecides s = true) (hroom : answerRoom s t = true)
    (hfree : ringsFree s = true) :
    admitWaitExpiry t s = answerDirty t (setHead t { p with stage := .decided (.refuse 1) } (spend 12 1 s)) := by
  rw [admitWaitExpiry, hpend]
  simp only [hheld, hwait, hdecides, hroom, hfree, decide_true, Bool.and_true, if_true]

theorem admitWaitExpiry_of_early {t : Nat} {s : State} {p : Pend} {ps : List Pend} (hpend : (tenOf s t).pend = p :: ps)
    (h : p.stage ≠ .held ∨ p.wait < 2 ^ tWait s t ∨ dirtyDecides s = false ∨ answerRoom s t = false) : admitWaitExpiry t s = s := by
  have early : (decide (p.stage = .held) && decide (2 ^ tWait s t ≤ p.wait) && dirtyDecides s && answerRoom s t) = false := by
    rcases h with h | h | h | h <;> simp [h]
  rw [admitWaitExpiry, hpend]
  simp only [early, Bool.false_eq_true, if_false]

/-! A recount (R130). -/

/-- Words that only have correctable errors are corrected, and no cell changes. -/
theorem readWords_map {s : State} (p : Nat → Bool) (h : s.adm.ueWords = []) : (readWords p s).adm.map = s.adm.map := by
  unfold readWords
  extract_lets s1
  have ue : s1.adm.ueWords = [] :=
    (foldl_proj (fun s w => correctWord w s) (·.adm.ueWords) (fun s w => by simp [correctWord]) _ s).trans h
  have map : s1.adm.map = s.adm.map :=
    foldl_proj (fun s w => correctWord w s) (·.adm.map) (fun s w => by simp [correctWord]) _ s
  rw [ue]
  exact map

/-- Tenants that are given their count one after the other have it in the end. -/
theorem foldl_dirtyNow (count : Nat → Nat) (t : Nat) : ∀ (l : List Nat) (s : State),
    (tenOf (l.foldl (fun s k => modTenant k (fun x => { x with dirtyNow := count k }) s) s) t).dirtyNow =
      if t ∈ l then count t else (tenOf s t).dirtyNow
  | [], s => by simp
  | k :: l, s => by
    rw [List.foldl_cons, foldl_dirtyNow count t l]
    by_cases hk : t = k
    · subst hk
      simp
    · simp [hk]

/-- The listed DIRTY cells that lie in a tenant's partition. -/
def dirtyOf (s : State) (t : Nat) : Nat :=
  (((s.adm.map.filter fun p => p.2 % 4 == 1).map (·.1)).filter fun c =>
    tEnable s t && decide (tBase s t ≤ c) && decide (c ≤ tLast s t)).length

theorem dirtyOf_eq (s : State) (t : Nat) : dirtyOf s t = (s.adm.map.filter fun p => p.2 % 4 == 1 && tEnable s t &&
    decide (tBase s t ≤ p.1) && decide (p.1 ≤ tLast s t)).length := by
  rw [dirtyOf, List.filter_map, List.length_map, List.filter_filter]
  refine congrArg List.length (List.filter_congr fun p _ => ?_)
  simp only [Function.comp_apply]
  rw [Bool.and_comm]
  simp only [Bool.and_assoc]

/-- The counts are those of the map; the energy terms are still to follow. -/
def recounted (s : State) : State :=
  let s2 := (List.range 64).foldl (fun u t => modTenant t (fun x => { x with dirtyNow := dirtyOf s t }) u) s
  { s2 with adm := { s2.adm with dirtyTotal := (s.adm.map.filter fun p => p.2 % 4 == 1).length, recount := false } }

theorem recounted_adm (s : State) : (recounted s).adm =
    { s.adm with dirtyTotal := (s.adm.map.filter fun p => p.2 % 4 == 1).length, recount := false } := by
  simp [recounted]

theorem recounted_dirtyNow (s : State) {t : Nat} (h : t < 64) : (tenOf (recounted s) t).dirtyNow = dirtyOf s t :=
  (foldl_dirtyNow (dirtyOf s) t (List.range 64) s).trans (if_pos (List.mem_range.2 h))

theorem mapRecountDone_of_done {s s0 : State} (h : takeDone .recount s = some s0) :
    mapRecountDone s = refresh (recounted (readWords (fun _ => true) s0)) := by
  rw [mapRecountDone, h]
  simp only [List.length_map]
  rfl

/-! What a service of one ring goes on with. -/

/-- Every ring's unread events stand, in their order. -/
def EventsStand (s u : State) : Prop := ∀ q, (ringOf s q).unread <+: (ringOf u q).unread

theorem EventsStand.trans {s t u : State} (h : EventsStand s t) (k : EventsStand t u) : EventsStand s u :=
  fun q => (h q).trans (k q)

theorem Posted.eventsStand {s u : State} (h : Posted s u) : EventsStand s u := by
  obtain ⟨unread, -⟩ := h
  exact unread

theorem EventsStand.of_rings {s u : State} (h : u.ring.rings = s.ring.rings) : EventsStand s u :=
  fun q => by rw [ringOf, ringOf, h]

theorem spend_posted (res n : Nat) (s : State) : Posted s (spend res n s) := .of_rings rfl fun _ => rfl

theorem answerClean_posted (t : Nat) (s : State) : Posted s (answerClean t s) := by
  unfold answerClean
  split
  next v e rest _ _ =>
    split
    · split
      · refine .trans ?_ (serveHeads_posted _)
        refine .trans ?_ (postAnswer_posted _ e v _)
        refine (setClean_posted t .waiting s).trans (modRing_posted ?_ _)
        exact fun _ => rfl
      · exact ringsWait_posted _ s
    · exact .refl s
  next => exact .refl s

theorem decideCleanHead_posted (t : Nat) (e : Entry) (s : State) : Posted s (decideCleanHead t e s) := by
  unfold decideCleanHead
  extract_lets bc s1 src s2
  have ticked : Posted s s1 := spend_posted 12 1 s
  split
  · exact .refl s
  · split
    · split
      · split
        · exact ticked.trans ((setClean_posted t _ s1).trans (answerClean_posted t _))
        · have unplanned : Posted s1 s2 := .of_rings rfl fun _ => rfl
          exact ticked.trans (unplanned.trans ((setClean_posted t _ s2).trans ((queueItem_posted _ _).trans (serveHeads_posted _))))
      · exact ringsWait_posted _ s
    · exact .refl s

theorem decideClean_posted (t : Nat) (s : State) : Posted s (decideClean t s) := by
  unfold decideClean
  split
  · split
    · exact decideCleanHead_posted t _ s
    · exact .refl s
  · exact .refl s

theorem demandAnswer_posted (r : Nat) (e : Entry) (v : Verdict) (s : State) : Posted s (demandAnswer r e v s) := by
  unfold demandAnswer
  extract_lets s1
  have ticked : Posted s s1 := by
    refine (modRing_posted ?_ s).trans (spend_posted 12 1 _)
    exact fun _ => rfl
  split
  · exact ticked.trans (postAnswer_posted r e v s1)
  · refine ticked.trans (.trans ?_ (ringsWait_posted _ _))
    exact .of_rings rfl fun _ => rfl

theorem demandNow_posted (r : Nat) (s : State) : Posted s (demandNow r s) := by
  unfold demandNow
  split
  next st e rest _ _ =>
    split
    · exact .refl s
    · split
      · split
        · refine .trans ?_ (demandAnswer_posted r e _ _)
          refine (entryRead_sameService r e s).posted.trans (modRing_posted ?_ _)
          exact fun _ => rfl
        · exact ringsWait_posted _ s
      · exact .refl s
  next => exact .refl s

theorem answerServed_posted (r : Nat) (s : State) : Posted s (answerServed r s) := by
  unfold answerServed
  split
  · split
    · split
      · refine .trans ?_ (demandAnswer_posted r _ _ _)
        exact .of_rings rfl fun _ => rfl
      · exact ringsWait_posted _ s
    · exact .refl s
  · exact .refl s

theorem answerDirty_eventsStand (t : Nat) (s : State) : EventsStand s (answerDirty t s) := by
  unfold answerDirty
  split
  · split
    · split
      · split
        · refine .trans ?_ ((postAnswer_posted _ _ _ (headGone t s)).trans (serveHeads_posted _)).eventsStand
          exact .of_rings rfl
        · exact (ringsWait_posted _ s).eventsStand
      · exact .of_rings rfl
    · exact .of_rings rfl
  · exact .of_rings rfl

theorem decideHead_eventsStand (t : Nat) (p : Pend) (s : State) : EventsStand s (decideHead t p s) := by
  unfold decideHead
  extract_lets q s1
  split
  · exact .of_rings rfl
  · split
    · exact .of_rings rfl
    · split
      · split
        · split
          · refine .trans ?_ ((queueItem_posted _ _).trans (refresh_sameService _).posted).eventsStand
            exact .of_rings rfl
          · refine .trans ?_ (answerDirty_eventsStand t _)
            exact .of_rings rfl
        · refine .trans ?_ (ringsWait_posted _ _).eventsStand
          exact .of_rings rfl
      · exact .of_rings rfl

theorem decideDirty_eventsStand (t : Nat) (s : State) : EventsStand s (decideDirty t s) := by
  unfold decideDirty
  split
  · split
    · exact decideHead_eventsStand t _ s
    · exact .of_rings rfl
  · exact .of_rings rfl

theorem decideDirty_map (t : Nat) (s : State) : (decideDirty t s).adm.map = s.adm.map := by
  unfold decideDirty
  split
  · split
    · exact decideHead_map t _ s
    · rfl
  · rfl

/-! The four rings of a tenant. -/

section
variable (t : Nat) (s : State)

theorem serveRing_dirty : serveRing (4 * t) s = answerDirty t (decideDirty t s) := by
  rw [serveRing, if_pos (by omega), Nat.mul_div_cancel_left t (by decide : 0 < 4)]

theorem serveRing_clean : serveRing (4 * t + 1) s = answerClean t (decideClean t s) := by
  have tenant : (4 * t + 1) / 4 = t := by omega
  rw [serveRing, if_neg (by omega), if_pos (by omega), tenant]

theorem serveRing_demand : serveRing (4 * t + 2) s = demandNow (4 * t + 2) (answerServed (4 * t + 2) s) := by
  rw [serveRing, if_neg (by omega), if_neg (by omega), if_pos (by omega)]

theorem serveRing_event : serveRing (4 * t + 3) s = answerKept t s := by
  have tenant : (4 * t + 3) / 4 = t := by omega
  rw [serveRing, if_neg (by omega), if_neg (by omega), if_neg (by omega), tenant]

/-- The answers that outlived their rings go first, then the tenant's heads. -/
theorem answerPostDeferred_eq : answerPostDeferred t s =
    demandNow (4 * t + 2) (answerServed (4 * t + 2) (answerClean t (decideClean t (answerDirty t (decideDirty t (answerKept t s)))))) := by
  rw [answerPostDeferred, serveRing_event, serveRing_dirty, serveRing_clean, serveRing_demand]

/-- A service of the CLEAN and the DEMAND ring posts events. -/
theorem cleanAndDemand_posted : Posted s (demandNow (4 * t + 2) (answerServed (4 * t + 2) (answerClean t (decideClean t s)))) :=
  (decideClean_posted t s).trans ((answerClean_posted t _).trans ((answerServed_posted _ _).trans (demandNow_posted _ _)))

theorem answerPostDeferred_map : (answerPostDeferred t s).adm.map = s.adm.map := by
  rw [answerPostDeferred_eq]
  simp [decideDirty_map]

theorem answerPostDeferred_eventsStand : EventsStand (answerKept t s) (answerPostDeferred t s) := by
  rw [answerPostDeferred_eq]
  exact (decideDirty_eventsStand t _).trans ((answerDirty_eventsStand t _).trans (cleanAndDemand_posted t _).eventsStand)

end

/-- The words of events that stand are the first of those that the host will read. -/
theorem EventsStand.words {s u : State} (h : EventsStand s u) (q : Nat) :
    (ringOf s q).unread.map (·.w0) <+: (ringOf u q).unread.map (·.w0) := (h q).map _

/-! The answers that outlived their rings (R106). -/

theorem answerKept_of_none {t : Nat} {s : State} (h : s.ring.answers.find? (fun a => a.tenant == t && a.ready) = none) :
    answerKept t s = s := by
  rw [answerKept, h]

theorem answerKept_event {t : Nat} {s : State} {a : Answer} (hkind : a.kind < 4)
    (hfind : s.ring.answers.find? (fun a => a.tenant == t && a.ready) = some a) (hroom : answerRoom s t = true)
    (hfree : ringsFree s = true) : (ringOf (answerKept t s) (4 * t + 3)).unread.map (·.w0) =
      (ringOf s (4 * t + 3)).unread.map (·.w0) ++ [(answerEvent a.e a.v s).w0] := by
  have tenant : (4 * t + a.kind) / 4 = t := by omega
  have event := postAnswer_event (4 * t + a.kind) a.e a.v { s with ring := { s.ring with answers := s.ring.answers.erase a } }
  have same : answerEvent a.e a.v { s with ring := { s.ring with answers := s.ring.answers.erase a } } = answerEvent a.e a.v s := by
    cases a.v <;> rfl
  rw [tenant, same] at event
  rw [answerKept, hfind]
  simp only [hroom, hfree, if_true]
  exact event

theorem decideDirty_of_decided {t : Nat} {s : State} {p : Pend} {ps : List Pend} {v : Verdict} (hpend : (tenOf s t).pend = p :: ps)
    (hstage : p.stage = .decided v) : decideDirty t s = s := by
  rw [decideDirty, hpend]
  exact if_neg (by simp [hstage])

/-- Where nothing of a tenant waits, nothing happens. -/
theorem answerPostDeferred_of_idle {t : Nat} {s : State} (hkept : s.ring.answers.find? (fun a => a.tenant == t && a.ready) = none)
    (hpend : (tenOf s t).pend = []) (hclean : (ringOf s (4 * t + 1)).pub = []) (hdemand : (ringOf s (4 * t + 2)).pub = [])
    (hserved : s.ret.demands.any (fun d => d.ring == 4 * t + 2) = false) : answerPostDeferred t s = s := by
  have dirty : answerDirty t (decideDirty t s) = s := by
    have undecided : decideDirty t s = s := by rw [decideDirty, hpend]
    rw [undecided, answerDirty, hpend]
  have clean : answerClean t (decideClean t s) = s := by
    have undecided : decideClean t s = s := by rw [decideClean, hclean]
    rw [undecided, answerClean, hclean]
    cases (tenOf s t).clean <;> rfl
  have served : answerServed (4 * t + 2) s = s := by
    have none : s.ret.demands.find? (fun d => d.ring == 4 * t + 2) = none := by
      rw [List.find?_eq_none]
      simpa using hserved
    rw [answerServed, none]
  have demand : demandNow (4 * t + 2) s = s := by
    rw [demandNow, hdemand]
    cases demandStatus s <;> rfl
  rw [answerPostDeferred_eq, answerKept_of_none hkept, dirty, clean, served, demand]

/-! DEMAND. -/

/-- The state in which the event of a DEMAND is posted, its tick spent. -/
theorem demandAnswer_of_ticks {s : State} (r : Nat) (e : Entry) (v : Verdict) (hlate : s.ring.late = []) (hticks : 2 ≤ ledLeft s 12) :
    demandAnswer r e v s = postAnswer r e v (spend 12 1 (modRing r (fun g => { g with doneCnt := satInc 65535 g.doneCnt }) s)) := by
  have free : ringsFree (spend 12 1 (modRing r (fun g => { g with doneCnt := satInc 65535 g.doneCnt }) s)) = true :=
    ringsFree_spend hlate hticks
  rw [demandAnswer]
  exact if_pos free

/-- The answer leaves the ring's published entries, and its event joins the EVENT ring. -/
theorem demandAnswer_entries {s : State} {r : Nat} (e : Entry) (st : Nat) (hlate : s.ring.late = [])
    (hticks : 2 ≤ ledLeft s 12) : (ringOf (demandAnswer r e (.demandDone st) s) r).pub = (ringOf s r).pub ∧
      (ringOf (demandAnswer r e (.demandDone st) s) (4 * (r / 4) + 3)).unread.map (·.w0) =
        (ringOf s (4 * (r / 4) + 3)).unread.map (·.w0) ++ [BitVec.ofNat 32 (0x86 + st * 256 + (eTag e).toNat * 65536)] := by
  obtain ⟨pub, -⟩ := modRing_entries (r := r) (f := fun g => { g with doneCnt := satInc 65535 g.doneCnt }) (fun _ => ⟨rfl, rfl⟩) s r
  obtain ⟨-, unread⟩ := modRing_entries (r := r) (f := fun g => { g with doneCnt := satInc 65535 g.doneCnt }) (fun _ => ⟨rfl, rfl⟩) s
    (4 * (r / 4) + 3)
  rw [demandAnswer_of_ticks r e _ hlate hticks, postAnswer_pub, postAnswer_event]
  exact ⟨pub, congrArg (fun l => l.map (·.w0) ++ [_]) unread⟩

/-- The head of a DEMAND ring is answered at once (R124). -/
theorem demandLookupDone_of_now {r st : Nat} {s : State} {e : Entry} {es : List Entry} (hr : r % 4 = 2) (hpub : (ringOf s r).pub = e :: es)
    (hserved : s.ret.demands.any (fun d => d.ring == r) = false) (hstatus : demandStatus s = some st) (hbad : badCode s r e = 0)
    (hroom : answerRoom s (r / 4) = true) (hfree : ringsFree s = true) :
    demandLookupDone r s = demandAnswer r e (.demandDone st) (modRing r (fun g => { g with pub := es }) (entryRead r e s)) := by
  have none : s.ret.demands.find? (fun d => d.ring == r && !d.looked) = none := by
    rw [List.find?_eq_none]
    rw [List.any_eq_false] at hserved
    intro d hd
    simp [hserved d hd]
  have now : demandLookupDone r s = demandNow r s := by
    rw [demandLookupDone, if_neg (by simp [hr]), none]
  rw [now, demandNow, hstatus, hpub]
  simp only [hserved, hroom, hfree, hbad, Bool.false_eq_true, if_false, if_true, ne_eq, not_true_eq_false]

/-- The entry after its lookup: the cells that its lanes have still to restore (R283). -/
def lookedUp (s : State) (d : Demand) : Demand :=
  let named := s.ret.cells.filter fun p => decide (eFirst d.e ≤ p.1) && decide (p.1 < eFirst d.e + eCount d.e)
  { d with
    looked := true
    left := (named.filter fun p => p.2.status == 1).map (·.1)
    tillDone := s.ret.locFull && decide (named.length < eCount d.e) }

/-- It takes its place among the entries in service. -/
def inService (d : Demand) (s : State) : State :=
  { s with ret := { s.ret with demands := s.ret.demands.replace d (lookedUp s d) } }

theorem lookUp_of_sound {d : Demand} {s : State} (hbad : badCode s d.ring d.e = 0) :
    lookUp d s = if served (lookedUp s d) then finishServed (inService d s) else inService d s := by
  unfold lookUp
  simp only [hbad, ne_eq, not_true_eq_false, if_false, decide_false, Bool.not_false, Bool.true_and]
  rfl

theorem demandLookupDone_of_done {r : Nat} {s s0 : State} {d : Demand} (hr : r % 4 = 2)
    (hfind : s.ret.demands.find? (fun d => d.ring == r && !d.looked) = some d) (htake : takeDone (.demandLookup r) s = some s0) :
    demandLookupDone r s = lookUp d (entryRead r d.e s0) := by
  rw [demandLookupDone, if_neg (by simp [hr]), hfind, htake]

/-- The only entry in service, resolved, is answered with its status (R116, R283). -/
theorem finishServed_of_single {s : State} {d : Demand} (hdemands : s.ret.demands = [d]) (hserved : served d = true)
    (hbad : badCode s d.ring d.e = 0) (hroom : answerRoom s (d.ring / 4) = true) (hfree : ringsFree s = true) :
    finishServed s = demandAnswer d.ring d.e (.demandDone (servedStatus s d.e)) { s with ret := { s.ret with demands := [] } } := by
  have verdict : servedVerdict s d = .demandDone (servedStatus s d.e) := by
    rw [servedVerdict, hbad]
    rfl
  have only : finishServed s = answerServed d.ring s := by
    rw [finishServed, hdemands, List.filter_cons_of_pos hserved]
    rfl
  rw [only, answerServed, hdemands, List.find?_cons_of_pos (by simp)]
  simp only [hserved, hroom, hfree, Bool.and_true, if_true, verdict, List.erase_cons_head]

theorem dirtyOf_congr {s u : State} (conf : u.conf = s.conf) (map : u.adm.map = s.adm.map) (t : Nat) : dirtyOf u t = dirtyOf s t := by
  change dirtyOf { s with conf := u.conf, adm := { s.adm with map := u.adm.map } } t = _
  rw [conf, map]

/-- Every count is exact after a recount (R130). -/
theorem mapRecountDone_counts {s s0 : State} (h : takeDone .recount s = some s0) : (mapRecountDone s).adm.recount = false ∧
    (mapRecountDone s).adm.dirtyTotal = ((mapRecountDone s).adm.map.filter fun p => p.2 % 4 == 1).length ∧
    ∀ t, t < 64 → (tenOf (mapRecountDone s) t).dirtyNow = dirtyOf (mapRecountDone s) t := by
  rw [mapRecountDone_of_done h]
  generalize readWords (fun _ => true) s0 = w
  obtain ⟨-, map, total, -, recount⟩ := refresh_adm (recounted w)
  obtain ⟨-, tenants, -⟩ := (refresh_reports (recounted w)).keepsRings
  refine ⟨?_, ?_, fun t ht => ?_⟩
  · rw [recount, recounted_adm]
  · rw [total, map, recounted_adm]
  · have conf : (refresh (recounted w)).conf = w.conf := by simp [recounted]
    rw [tenOf, tenants, ← tenOf, recounted_dirtyNow w ht, dirtyOf_congr conf]
    rw [map, recounted_adm]

/-- A recount of a map without uncorrectable words leaves it; the tables and the arrays stay in any case. -/
theorem mapRecountDone_leaves {s s0 : State} (h : takeDone .recount s = some s0) :
    (s.adm.ueWords = [] → (mapRecountDone s).adm.map = s.adm.map) ∧ (mapRecountDone s).conf = s.conf ∧ (mapRecountDone s).arr = s.arr := by
  obtain ⟨done, hs0⟩ := takeDone_eq h
  rw [mapRecountDone_of_done h, hs0]
  refine ⟨fun hue => ?_, by simp [recounted], by simp [recounted]⟩
  obtain ⟨-, map, -⟩ := refresh_adm (recounted (readWords (fun _ => true) { s with fr := { s.fr with done := done } }))
  rw [map, recounted_adm]
  exact readWords_map (s := { s with fr := { s.fr with done := done } }) _ hue

/-- The head of a DEMAND ring answered in the frame: it is gone, and its event is the last of the tenant's (R116, R124). -/
theorem demandLookupDone_entries {r st : Nat} {s : State} {e : Entry} {es : List Entry} (hr : r % 4 = 2)
    (hpub : (ringOf s r).pub = e :: es) (hserved : s.ret.demands.any (fun d => d.ring == r) = false)
    (hstatus : demandStatus s = some st) (hbad : badCode s r e = 0) (hroom : answerRoom s (r / 4) = true) (hlate : s.ring.late = [])
    (hticks : 2 ≤ ledLeft s 12) : (ringOf (demandLookupDone r s) r).pub = es ∧
      (demandLookupDone r s).adm = s.adm ∧ (demandLookupDone r s).conf = s.conf ∧
      (ringOf (demandLookupDone r s) (4 * (r / 4) + 3)).unread.map (·.w0) =
        (ringOf s (4 * (r / 4) + 3)).unread.map (·.w0) ++ [BitVec.ofNat 32 (0x86 + st * 256 + (eTag e).toNat * 65536)] := by
  rw [demandLookupDone_of_now hr hpub hserved hstatus hbad hroom (ringsFree_of_ticks hlate hticks)]
  have same := entryRead_sameService r e s
  have ticks : 2 ≤ ledLeft (modRing r (fun g => { g with pub := es }) (entryRead r e s)) 12 := (same.ledLeft 12).symm ▸ hticks
  have event := same.ringOf (4 * (r / 4) + 3)
  obtain ⟨-, -, late, -⟩ := same
  obtain ⟨pub, unread⟩ := demandAnswer_entries (s := modRing r (fun g => { g with pub := es }) (entryRead r e s)) (r := r) e st
    (late.trans hlate) ticks
  refine ⟨?_, by simp, by simp, ?_⟩
  · rw [pub, modRing_ringOf]
  · rw [unread, modRing_ringOf_ne _ _ (by omega), event]

/-- The lookup of an entry that reads without errors, from its read on. -/
theorem lookUp_of_done {r : Nat} {s s0 : State} {d : Demand} (hr : r % 4 = 2)
    (hfind : s.ret.demands.find? (fun d => d.ring == r && !d.looked) = some d) (htake : takeDone (.demandLookup r) s = some s0)
    (hbad : badCode s r d.e = 0) : ∃ u, SameService s u ∧ u.ret = s.ret ∧ u.adm = s.adm ∧
      demandLookupDone r s = if served (lookedUp s d) then finishServed (inService d u) else inService d u := by
  have same := (takeDone_sameService htake).trans (entryRead_sameService r d.e s0)
  obtain ⟨done, hs0⟩ := takeDone_eq htake
  have ret : (entryRead r d.e s0).ret = s.ret := by simp [hs0]
  have ring : d.ring = r := by
    have found := List.find?_some hfind
    simp only [Bool.and_eq_true, beq_iff_eq] at found
    exact found.1
  refine ⟨entryRead r d.e s0, same, ret, by simp [hs0], ?_⟩
  have sound : badCode (entryRead r d.e s0) d.ring d.e = 0 := by rw [ring, same.badCode, hbad]
  have looked : lookedUp (entryRead r d.e s0) d = lookedUp s d := by rw [lookedUp, ret, lookedUp]
  rw [demandLookupDone_of_done hr hfind htake, lookUp_of_sound sound, looked]

/-- Where cells are still to restore, the entry waits for them (R283). -/
theorem demandLookupDone_of_left {r : Nat} {s s0 : State} {d : Demand} (hr : r % 4 = 2)
    (hfind : s.ret.demands.find? (fun d => d.ring == r && !d.looked) = some d) (htake : takeDone (.demandLookup r) s = some s0)
    (hbad : badCode s r d.e = 0) (hleft : (lookedUp s d).left ≠ []) :
    (demandLookupDone r s).adm = s.adm ∧ (demandLookupDone r s).ret.demands = s.ret.demands.replace d (lookedUp s d) := by
  obtain ⟨u, -, ret, adm, looked⟩ := lookUp_of_done hr hfind htake hbad
  have waits : served (lookedUp s d) = false := by simp [served, hleft]
  rw [looked, if_neg (by simp [waits]), inService, lookedUp, ret, ← lookedUp]
  exact ⟨adm, rfl⟩


/-- Where no cell is left to restore, the only entry in service is answered at once (R116, R283). -/
theorem demandLookupDone_of_restored {s s0 : State} {d : Demand} (hr : d.ring % 4 = 2) (hlooked : d.looked = false)
    (hdemands : s.ret.demands = [d]) (htake : takeDone (.demandLookup d.ring) s = some s0) (hbad : badCode s d.ring d.e = 0)
    (hserved : served (lookedUp s d) = true) (hroom : answerRoom s (d.ring / 4) = true) (hlate : s.ring.late = [])
    (hticks : 2 ≤ ledLeft s 12) : (demandLookupDone d.ring s).ret.demands = [] ∧ (demandLookupDone d.ring s).adm = s.adm ∧
      (ringOf (demandLookupDone d.ring s) (4 * (d.ring / 4) + 3)).unread.map (·.w0) =
        (ringOf s (4 * (d.ring / 4) + 3)).unread.map (·.w0) ++
          [BitVec.ofNat 32 (0x86 + servedStatus s d.e * 256 + (eTag d.e).toNat * 65536)] := by
  have hfind : s.ret.demands.find? (fun d' => d'.ring == d.ring && !d'.looked) = some d := by
    rw [hdemands, List.find?_cons_of_pos (by simp [hlooked])]
  obtain ⟨u, same, ret, adm, looked⟩ := lookUp_of_done hr hfind htake hbad
  have service : SameService s (inService d u) := same
  have only : (inService d u).ret.demands = [lookedUp s d] := by
    rw [inService, lookedUp, ret, ← lookedUp, hdemands]
    simp
  have status : servedStatus (inService d u) d.e = servedStatus s d.e := by
    rw [servedStatus, inService, ret]
    rfl
  have answered := finishServed_of_single only hserved (service.badCode d.ring d.e ▸ hbad) (service.answerRoom (d.ring / 4) ▸ hroom)
    (service.ringsFree ▸ ringsFree_of_ticks hlate hticks)
  have event := same.ringOf (4 * (d.ring / 4) + 3)
  have ticks := same.ledLeft 12
  obtain ⟨-, -, late, -⟩ := same
  obtain ⟨-, unread⟩ := demandAnswer_entries (s := { inService d u with ret := { (inService d u).ret with demands := [] } }) (r := d.ring) d.e
    (servedStatus s d.e) (late.trans hlate) (ticks.symm ▸ hticks)
  rw [looked, if_pos hserved, answered]
  have posted : servedStatus (inService d u) (lookedUp s d).e = servedStatus s d.e := status
  rw [posted]
  refine ⟨by simp, by simp [inService, adm], unread.trans ?_⟩
  exact congrArg (fun g => g.unread.map (·.w0) ++ [_]) event

/-- An entry none of whose cells waits is served by its lookup, unless the catalog has more (R283). -/
theorem served_lookedUp {s : State} {d : Demand} (hfull : s.ret.locFull = false)
    (hcells : s.ret.cells.any (fun p => decide (eFirst d.e ≤ p.1) && decide (p.1 < eFirst d.e + eCount d.e) && p.2.status == 1) = false) :
    served (lookedUp s d) = true := by
  have none : (s.ret.cells.filter fun p => decide (eFirst d.e ≤ p.1) && decide (p.1 < eFirst d.e + eCount d.e)).filter
      (fun p => p.2.status == 1) = [] := by
    rw [List.filter_filter, List.filter_eq_nil_iff]
    intro p hp
    rw [Bool.and_comm]
    exact List.any_eq_false.1 hcells p hp
  simp only [served, lookedUp, none, hfull, List.map_nil, List.isEmpty_nil, Bool.false_and, Bool.not_false, Bool.and_self]

/-- Settles O38: a clause per wait; what one service does is followed through the services after it, which only post events. -/
theorem waitingEntries : Obligations.WaitingEntries := by
  refine ⟨fun t s p ps hpend hheld hwait hdecides hroom hlate hticks => ?due, fun t s p ps hpend h => ?early, fun s s0 htake => ?recount,
    fun t s a hkind hfind hroom hfree => ?kept, fun t s p ps v hkept hpend hstage hnow hroom hfree => ?decided,
    fun t s hkept hpend hclean hdemand hserved => ?idle, fun r st s e es hr hpub hserved hstatus hbad hroom hlate hticks => ?now,
    fun r s s0 d hr hfind htake hbad hleft => ?looked,
    fun r s s0 d hr hring hlooked hdemands htake hbad hfull hcells hroom hlate hticks => ?answered⟩
  case due =>
    refine ⟨_, exec_admitWaitExpiry t s, ?_⟩
    rw [admitWaitExpiry_of_due hpend hheld hwait hdecides hroom (ringsFree_of_ticks hlate hticks)]
    obtain ⟨⟨same, -⟩, length⟩ := setHead_answered (q := { p with stage := .decided (.refuse 1) }) hpend rfl
      (answersNow_of_dirtyDecides hdecides) hroom hlate hticks
    exact ⟨by simp, by simp, by rw [same]; rfl, by rw [same]; rfl, length⟩
  case early => rw [exec_admitWaitExpiry, admitWaitExpiry_of_early hpend h]
  case recount =>
    obtain ⟨recount, total, tenants⟩ := mapRecountDone_counts htake
    obtain ⟨map, conf, arr⟩ := mapRecountDone_leaves htake
    refine ⟨_, exec_mapRecountDone s, recount, total, fun t ht => ?_, map, conf, arr⟩
    rw [tenants t ht, dirtyOf_eq, tEnable, tBase, tLast, cw, cw, cw, conf]
    rfl
  case kept =>
    refine ⟨_, exec_answerPostDeferred t s, answerPostDeferred_map t s, by simp, ?_⟩
    rw [← answerKept_event hkind hfind hroom hfree]
    exact (answerPostDeferred_eventsStand t s).words _
  case decided =>
    have dirty : answerPostDeferred t s =
        demandNow (4 * t + 2) (answerServed (4 * t + 2) (answerClean t (decideClean t (answerDirty t s)))) := by
      rw [answerPostDeferred_eq, answerKept_of_none hkept, decideDirty_of_decided hpend hstage]
    have posted := cleanAndDemand_posted t (answerDirty t s)
    rw [← dirty] at posted
    refine ⟨_, exec_answerPostDeferred t s, ?_, answerPostDeferred_map t s, by simp, ?_⟩
    · obtain ⟨-, pend⟩ := posted
      rw [pend, answerDirty_pend hpend hstage hnow hroom hfree]
    · rw [← answerDirty_event hpend hstage hnow hroom hfree]
      exact posted.eventsStand.words _
  case idle => rw [exec_answerPostDeferred, answerPostDeferred_of_idle hkept hpend hclean hdemand hserved]
  case now => exact ⟨_, exec_demandLookupDone r s, demandLookupDone_entries hr hpub hserved hstatus hbad hroom hlate hticks⟩
  case looked => exact ⟨_, exec_demandLookupDone r s, demandLookupDone_of_left hr hfind htake hbad hleft⟩
  case answered =>
    subst hring
    exact ⟨_, exec_demandLookupDone d.ring s,
      demandLookupDone_of_restored hr hlooked hdemands htake hbad (served_lookedUp hfull hcells) hroom hlate hticks⟩

end Sys2Proof.Machine
end

section
/-! PROOFS. A Trickle pass: its start, the choice of its cells, a copied cell, and its end (chapters 6 and 9, R146, R218 to R220). -/

namespace Sys2Proof.Machine

/-! The table port's write of TRICKLE, whose word holds GO and CANCEL and no field (R92, R218, R220). -/

theorem exec_trickleGo (be : ByteEn) (s : State) :
    exec (.trickleGo be) s = .next (if atDdr s 15 then leaveTblData 1 be s else s) := rfl
theorem exec_trickleCancel (be : ByteEn) (s : State) :
    exec (.trickleCancel be) s = .next (if atDdr s 15 then leaveTblData 2 be s else s) := rfl
theorem exec_trickleCellCopied (c : Nat) (s : State) : exec (.trickleCellCopied c) s = .next (trickleCopied c s) := rfl
theorem exec_tricklePassEnd (s : State) : exec .tricklePassEnd s = .next (tricklePassEnd s) := rfl

theorem touched_trickle : touched 10 15 0 (beMask allBe) = [] := by decide

/-- The machine on which a whole write of TRICKLE acts: the write has left the buffer, and its word is stored. -/
def trickleWritten (data : Word) (s : State) : State := storeMark (storeKey s 10 15 0) (unstaged data (popped s))

theorem trickleWritten_others (data : Word) (s : State) : ∃ host told ue ce, trickleWritten data s =
    { s with host := host, tally := told, conf := { s.conf with tblUe := ue, tblCe := ce } } := by
  obtain ⟨post, waiting, hpop⟩ := popped_buffer s
  rw [trickleWritten, storeMark, hpop]
  dsimp only
  rw [injectUse_others]
  exact ⟨_, _, _, _, rfl⟩

/-- A commit of TRICKLE is its command, and a check of the mode registers (R212). -/
theorem commitEntry_trickle {data : Word} {f : State → State} (hf : ∀ s, wordEffects 10 15 0 data (beMask allBe) s = f s) (s : State) :
    commitEntry 10 15 [(data, allBe)] s = readyCheck (f (storeMark (storeKey s 10 15 0) s)) := by
  have enabled : ¬ allBe = 0#4 := by decide
  simp [commitEntry, List.zipIdx_cons, enabled, storeWrite_whole, touched_trickle, hf]

theorem leaveTblData_trickle {data : Word} {f : State → State} (hf : ∀ s, wordEffects 10 15 0 data (beMask allBe) s = f s) {s : State}
    (hr : reaches ⟨0x2C, data, allBe⟩ s = true) (ho : oldest ⟨0x2C, data, allBe⟩ s = true) (hbusy : s.host.tblBusy = false)
    (hat : atDdr s 15 = true) : leaveTblData data allBe s = tblAdvance (readyCheck (f (trickleWritten data s))) := by
  simp only [atDdr, Bool.and_eq_true, beq_iff_eq] at hat
  obtain ⟨⟨htid, hidx⟩, hword⟩ := hat
  rw [leaveTblData, if_neg (by simp [hbusy]), leave_reaches _ _ s hr ho, trickleWritten]
  obtain ⟨post, waiting, hpop⟩ := popped_buffer s
  rw [hpop]
  generalize hu : ({ s with host := { s.host with post := post, waiting := waiting } } : State) = u
  have tid : u.host.tblTid = 10 := by rw [← hu]; exact htid
  have idx : u.host.tblIdx = 15 := by rw [← hu]; exact hidx
  have word : u.host.tblWord = 0 := by rw [← hu]; exact hword
  have named : accessCode u = 0 := by simp [accessCode, tblCode, tid, idx, word, tblWords, tblCount]
  rw [applyTblData_of_writable named (by rw [tid]; rfl) (by rw [tid, idx, word]; rfl) (by rw [tid]; decide),
    stageData_of_oneWord (by rw [tid]; rfl) word, tid, idx, commitEntry_trickle hf]
  subst hu
  rfl


/-! What the check of the mode registers and the port's advance leave. -/

theorem readyCheck_dram (s : State) : (readyCheck s).dram = { s.dram with readyWas := ready s } := by
  unfold readyCheck
  extract_lets r _ s1
  split
  · simp [s1, r]
  · rfl

/-- A write of TRICKLE leaves what its command leaves, but for the check of the mode registers. -/
theorem tblAdvance_readyCheck (s : State) : let t := tblAdvance (readyCheck s)
    t.adm = s.adm ∧ t.arr = s.arr ∧ t.conf = s.conf ∧ t.nand = s.nand ∧ t.dram = { s.dram with readyWas := ready s } ∧
      t.top.reject = s.top.reject ∧ t.top.lastRej = s.top.lastRej ∧ ∀ k, tenOf t k = tenOf s k := by
  obtain ⟨-, tenants, -⟩ := (readyCheck_reports s).keepsRings
  obtain ⟨-, -, -, -, top, -⟩ := readyCheck_reports s
  have advanced : (tblAdvance (readyCheck s)).top = (readyCheck s).top := by simp
  refine ⟨by simp, by simp, by simp, by simp, by simp [readyCheck_dram], by rw [advanced, top], by rw [advanced, top], fun k => ?_⟩
  have ring : (tblAdvance (readyCheck s)).ring = (readyCheck s).ring := by simp
  rw [tenOf, ring, tenants, ← tenOf]

/-! GO (R218, R259). -/

/-- The conditions of GO. -/
def mayGo (s : State) : Prop :=
  s.top.state = .guard ∧ ready s = true ∧ s.dram.active = false ∧ fld (cw s 10 10 0) 0 16 ≠ 0 ∧ 0 < winCount s ∧
    winFirst s + winCount s ≤ cellsCfg s ∧ s.nand.valid = true ∧ s.nand.armed = true ∧
    s.dram.passes.foldl (fun a p => a + p.2) 0 + winCount s ≤ trkRes s ∧ s.dram.passes.length < 32

/-- No tenant has a TRICKLED cell of the pass that begins. -/
def untrickled (s : State) : State := (List.range 64).foldl (fun s t => modTenant t (fun x => { x with trickled := 0 }) s) s

/-- The pass of s's window starts in a machine u. -/
def passBegun (s u : State) : State :=
  { u with
    dram := { u.dram with
      active := true, imgOpen := true, nextCell := winFirst s, copying := [], passes := s.dram.passes ++ [(winFirst s, winCount s)] }
    nand := { u.nand with power := true } }

theorem passBegun_tenOf (s u : State) (k : Nat) : tenOf (passBegun s u) k = tenOf u k := rfl

theorem trickleGo_of_may {s : State} (h : mayGo s) : trickleGo s = refresh (passBegun s (untrickled s)) := by
  obtain ⟨guard, rdy, idle, mask, count, cells, valid, armed, room, passes⟩ := h
  exact if_pos (by simp [guard, rdy, idle, mask, count, cells, valid, armed, room, passes])

theorem trickleGo_of_not_may {s : State} (h : ¬ mayGo s) : trickleGo s = reject 0x2C 10 s := by
  refine if_neg fun hgo => h ?_
  simp only [Bool.and_eq_true, decide_eq_true_eq, Bool.not_eq_true', bne_iff_ne] at hgo
  obtain ⟨⟨⟨⟨⟨⟨⟨⟨⟨guard, rdy⟩, idle⟩, mask⟩, count⟩, cells⟩, valid⟩, armed⟩, room⟩, passes⟩ := hgo
  exact ⟨guard, rdy, idle, mask, count, cells, valid, armed, room, passes⟩

theorem foldl_untrickled (k : Nat) : ∀ (l : List Nat) (s : State),
    (tenOf (l.foldl (fun s t => modTenant t (fun x => { x with trickled := 0 }) s) s) k).trickled =
      if k ∈ l then 0 else (tenOf s k).trickled
  | [], s => by simp
  | t :: l, s => by
    rw [List.foldl_cons, foldl_untrickled k l]
    by_cases hk : k = t
    · subst hk
      simp
    · simp [hk]

theorem refresh_tenOf (s : State) (k : Nat) : tenOf (refresh s) k = tenOf s k := by
  obtain ⟨-, tenants, -⟩ := (refresh_reports s).keepsRings
  rw [tenOf, tenants, ← tenOf]

theorem passBegun_trickled {s : State} {k : Nat} (h : k < 64) : (tenOf (refresh (passBegun s (untrickled s))) k).trickled = 0 := by
  rw [refresh_tenOf, passBegun_tenOf, untrickled, foldl_untrickled, if_pos (List.mem_range.2 h)]

/-- A write of GO = 1. -/
theorem trickleGo_leaves (s : State) : (trickleGo s).adm.map = s.adm.map ∧ (trickleGo s).adm.dirtyTotal = s.adm.dirtyTotal ∧
    (trickleGo s).arr = s.arr ∧ (trickleGo s).conf = s.conf ∧
    (mayGo s → (trickleGo s).dram = (passBegun s s).dram ∧ (trickleGo s).nand.power = true ∧
      ∀ k, k < 64 → (tenOf (trickleGo s) k).trickled = 0) ∧
    (¬ mayGo s → (trickleGo s).dram = s.dram ∧ (trickleGo s).adm = s.adm ∧ (trickleGo s).top.reject = true ∧
      (trickleGo s).top.lastRej = 0x2C) := by
  by_cases h : mayGo s
  · obtain ⟨-, map, total, -⟩ := refresh_adm (passBegun s (untrickled s))
    have adm : (passBegun s (untrickled s)).adm = s.adm := by simp [passBegun, untrickled]
    rw [trickleGo_of_may h]
    exact ⟨by rw [map, adm], by rw [total, adm], by simp [passBegun, untrickled], by simp [passBegun, untrickled],
      fun _ => ⟨by simp [passBegun, untrickled], by simp [passBegun], fun k hk => passBegun_trickled hk⟩, fun hno => absurd h hno⟩
  · obtain ⟨marked, lastRej⟩ := reject_marks 0x2C 10 s
    rw [trickleGo_of_not_may h]
    exact ⟨by simp, by simp, by simp, by simp, fun hgo => absurd hgo h, fun _ => ⟨by simp, by simp, marked, lastRej⟩⟩

/-- READY rests on the mode registers and on the trained rates (R212). -/
theorem ready_congr {s t : State} (hcur : t.conf.cur = s.conf.cur) (host : t.dram.setHost = s.dram.setHost)
    (rate : t.dram.set2400 = s.dram.set2400) : ready t = ready s := by
  simp only [ready, mrErr, trainHost, train2400, geomKey, speed3200, h2400, ret2400, geomW, cellsCfg, cw_congr hcur, host, rate]
  rfl

theorem trickleGo_ready (s : State) : ready (trickleGo s) = ready s := by
  obtain ⟨-, -, -, conf, begun, dropped⟩ := trickleGo_leaves s
  by_cases h : mayGo s
  · obtain ⟨dram, -⟩ := begun h
    exact ready_congr (by rw [conf]) (by rw [dram]; rfl) (by rw [dram]; rfl)
  · obtain ⟨dram, -⟩ := dropped h
    exact ready_congr (by rw [conf]) (by rw [dram]) (by rw [dram])

/-! The next cell (R219). -/

/-- The least key of a list's entries, as a fold finds it. -/
theorem foldl_minKey {α : Type} : ∀ (l : List (Nat × α)) (a : Option Nat) (c : Nat),
    l.foldl (fun a p => match a with | none => some p.1 | some b => some (min b p.1)) a = some c →
    (a = some c ∨ c ∈ l.map (·.1)) ∧ (∀ b, a = some b → c ≤ b) ∧ ∀ d, d ∈ l.map (·.1) → c ≤ d
  | [], a, c, h => ⟨.inl h, fun b hb => by simp_all, nofun⟩
  | p :: l, none, c, h => by
    obtain ⟨found, start, least⟩ := foldl_minKey l (some p.1) c h
    have first := start p.1 rfl
    simp only [List.map_cons, List.mem_cons]
    refine ⟨.inr ?_, nofun, fun d hd => hd.elim (fun hd => hd ▸ first) (least d)⟩
    exact found.imp (fun h => (Option.some.inj h).symm) id
  | p :: l, some b, c, h => by
    obtain ⟨found, start, least⟩ := foldl_minKey l (some (min b p.1)) c h
    have first := start _ rfl
    simp only [List.map_cons, List.mem_cons]
    refine ⟨?_, fun b' hb => ?_, fun d hd => hd.elim (fun hd => by omega) (least d)⟩
    · rcases found with h | h
      · have := Option.some.inj h
        rcases Nat.le_total b p.1 with hb | hb
        · exact .inl (by rw [← this, Nat.min_eq_left hb])
        · exact .inr (.inl (by omega))
      · exact .inr (.inr h)
    · have := Option.some.inj hb
      omega

/-- A DIRTY cell stands in the map (R126). -/
theorem listed_of_dirty {s : State} {c : Nat} (h : cellState s c = 1) : c ∈ s.adm.map.map (·.1) := by
  by_contra hc
  have zero : nibble s c = 0 := Sparse.get_of_unlisted hc
  simp [cellState, zero] at h

theorem dirty_of_mayTrickle {s : State} {c : Nat} (h : mayTrickle s c = true) : cellState s c = 1 := by
  simp only [mayTrickle, Bool.and_eq_true, beq_iff_eq] at h
  obtain ⟨⟨-, dirty⟩, -⟩ := h
  exact dirty

/-- The cells that the pass may copy, from the next one on. -/
theorem mem_trickles {s : State} {c : Nat} :
    c ∈ (s.adm.map.filter fun p => decide (s.dram.nextCell ≤ p.1) && mayTrickle s p.1).map (·.1) ↔
      s.dram.nextCell ≤ c ∧ mayTrickle s c = true := by
  simp only [List.mem_map, List.mem_filter, Bool.and_eq_true, decide_eq_true_eq]
  constructor
  · rintro ⟨p, ⟨-, h⟩, rfl⟩
    exact h
  · intro h
    obtain ⟨p, hp, rfl⟩ := List.mem_map.1 (listed_of_dirty (dirty_of_mayTrickle h.2))
    exact ⟨p, ⟨hp, h⟩, rfl⟩

theorem nextTrickle_least {s : State} {c : Nat} (h : nextTrickle s = some c) :
    (s.dram.nextCell ≤ c ∧ mayTrickle s c = true) ∧ ∀ d, s.dram.nextCell ≤ d ∧ mayTrickle s d = true → c ≤ d := by
  obtain ⟨found, -, least⟩ := foldl_minKey _ _ _ h
  exact ⟨mem_trickles.1 (found.resolve_left nofun), fun d hd => least d (mem_trickles.2 hd)⟩


/-! A cell whose pages are programmed (R146, R219). -/

/-- Cell c is out of the copies under way. -/
def copyEnded (c : Nat) (s : State) : State := { s with dram := { s.dram with copying := removeNat c s.dram.copying } }

/-- A copied cell that was DIRTY turns TRICKLED, with its GEN. -/
def trickledCell (c : Nat) (s : State) : State := mapWrites c 1 (writeCell c 2 (cellGen s c) (copyEnded c s))

/-- A cell of tenant o leaves its DIRTY counts and enters its TRICKLED one. -/
def trickledOf (o : Nat) (s : State) : State := modTenant o (fun x => { x with trickled := x.trickled + 1 }) (subDirty o 1 s)

theorem not_mem_removeNat (c : Nat) (cs : List Nat) : c ∉ removeNat c cs := by simp [removeNat]

theorem trickledCell_nibble (c : Nat) (s : State) (b : Nat) :
    nibble (trickledCell c s) b = if b = c then 2 + 4 * cellGen s c else nibble s b := by
  rw [trickledCell, mapWrites_nibble, writeCell_nibble]
  rfl

section
variable {c : Nat} {s : State} (hactive : s.dram.active = true) (hguard : s.top.state = .guard) (hcopy : c ∈ s.dram.copying)
  (hunits : (s.nand.units.any fun u => u.pages.any fun p => p.cell == c) = false)
include hactive hguard hcopy hunits

theorem trickleCopied_of_clean (h : cellState s c ≠ 1) : trickleCopied c s = copyEnded c s := by
  simp [trickleCopied, hactive, hguard, hcopy, hunits, h, copyEnded]

theorem trickleCopied_of_dirty (h : cellState s c = 1) : trickleCopied c s =
    refresh (match ownerOf s c with | some o => trickledOf o (trickledCell c s) | none => trickledCell c s) := by
  have copied : (s.dram.active && s.top.state = .guard && s.dram.copying.contains c &&
      !(s.nand.units.any fun u => u.pages.any fun p => p.cell == c)) = true := by simp [hactive, hguard, hcopy, hunits]
  rw [trickleCopied, if_pos copied]
  dsimp only
  rw [if_pos h]
  rfl

theorem trickleCopied_owned {o : Nat} (h : cellState s c = 1) (howner : ownerOf s c = some o) :
    trickleCopied c s = refresh (trickledOf o (trickledCell c s)) := by
  rw [trickleCopied_of_dirty hactive hguard hcopy hunits h, howner]

end

theorem trickledOf_tenOf (o : Nat) (s : State) : tenOf (trickledOf o s) o =
    { tenOf s o with dirtyNow := (tenOf s o).dirtyNow - 1, trickled := (tenOf s o).trickled + 1 } := by
  rw [trickledOf, modTenant_tenOf, subDirty, modTenant_tenOf]
  rfl

theorem trickledCell_tenOf (c : Nat) (s : State) (k : Nat) : tenOf (trickledCell c s) k = tenOf s k := by
  rw [trickledCell, mapWrites_others]
  rfl

/-- What a copied cell leaves, whatever it was. -/
theorem trickleCopied_leaves {c : Nat} {s : State} (hactive : s.dram.active = true) (hguard : s.top.state = .guard)
    (hcopy : c ∈ s.dram.copying) (hunits : (s.nand.units.any fun u => u.pages.any fun p => p.cell == c) = false) :
    (trickleCopied c s).dram = (copyEnded c s).dram ∧ (∀ d, d ≠ c → nibble (trickleCopied c s) d = nibble s d) := by
  by_cases h : cellState s c = 1
  · have others : ∀ d, d ≠ c → nibble (trickledCell c s) d = nibble s d := fun d hd => by rw [trickledCell_nibble, if_neg hd]
    rw [trickleCopied_of_dirty hactive hguard hcopy hunits h]
    have dram : (trickledCell c s).dram = (copyEnded c s).dram := by simp [trickledCell]
    split
    next o _ =>
      obtain ⟨-, map, -⟩ := refresh_adm (trickledOf o (trickledCell c s))
      exact ⟨by simp [trickledOf, dram], fun d hd => (nibble_congr map d).trans (others d hd)⟩
    next =>
      obtain ⟨-, map, -⟩ := refresh_adm (trickledCell c s)
      exact ⟨by simp [dram], fun d hd => (nibble_congr map d).trans (others d hd)⟩
  · rw [trickleCopied_of_clean hactive hguard hcopy hunits h]
    exact ⟨rfl, fun _ _ => rfl⟩

/-- A DIRTY cell of a tenant leaves the counts as it turns TRICKLED. -/
theorem trickleCopied_counts {c o : Nat} {s : State} (hactive : s.dram.active = true) (hguard : s.top.state = .guard)
    (hcopy : c ∈ s.dram.copying) (hunits : (s.nand.units.any fun u => u.pages.any fun p => p.cell == c) = false)
    (h : cellState s c = 1) (howner : ownerOf s c = some o) :
    nibble (trickleCopied c s) c = 2 + 4 * cellGen s c ∧ (trickleCopied c s).adm.dirtyTotal = s.adm.dirtyTotal - 1 ∧
      (tenOf (trickleCopied c s) o).dirtyNow = (tenOf s o).dirtyNow - 1 ∧
      (tenOf (trickleCopied c s) o).trickled = (tenOf s o).trickled + 1 := by
  have total : (trickledCell c s).adm.dirtyTotal = s.adm.dirtyTotal := mapWrites_dirtyTotal _ _ _
  obtain ⟨-, map, left, -⟩ := refresh_adm (trickledOf o (trickledCell c s))
  rw [trickleCopied_owned hactive hguard hcopy hunits h howner, refresh_tenOf, trickledOf_tenOf, trickledCell_tenOf]
  refine ⟨?_, left.trans (congrArg (· - 1) total), rfl, rfl⟩
  rw [nibble_congr map]
  exact (trickledCell_nibble c s c).trans (if_pos rfl)

theorem trickleCopied_of_idle {c : Nat} {s : State} (h : c ∉ s.dram.copying ∨ s.dram.active = false) : trickleCopied c s = s := by
  refine if_neg fun hcopy => ?_
  simp only [Bool.and_eq_true, List.contains_iff_mem] at hcopy
  obtain ⟨⟨⟨active, -⟩, copying⟩, -⟩ := hcopy
  rcases h with h | h
  · exact h copying
  · exact Bool.false_ne_true (h.symm.trans active)

/-! The end of a pass (R220). -/

/-- Clears the pass under way in a machine u. -/
def passCleared (cut : Bool) (u : State) : State :=
  { u with
    dram := { u.dram with active := false, cut := u.dram.cut || cut, ownReq := false, copying := [] }
    harv := { u.harv with lanes := [] }
    nand := { u.nand with power := u.nand.prep || u.nand.bringUp } }

theorem endPass_of_active (cut : Bool) {s : State} (h : s.dram.active = true) : endPass cut s =
    passCleared cut (((List.range 64).filter fun t => decide (0 < (tenOf s t).trickled)).foldl (fun s t =>
      postUnsol t 0x83 1 0 (BitVec.ofNat 32 (armedId s)) (BitVec.ofNat 32 (tenOf s t).trickled) s) s) := if_pos h

theorem endPass_dram (cut : Bool) (s : State) : (endPass cut s).dram =
    if s.dram.active then { s.dram with active := false, cut := s.dram.cut || cut, ownReq := false, copying := [] } else s.dram := by
  split
  next h =>
    rw [endPass_of_active cut h]
    generalize hl : (List.range 64).filter _ = l
    simp [passCleared]
  next h => exact congrArg State.dram (if_neg h)

theorem tricklePassEnd_of_over {s : State} (hactive : s.dram.active = true) (hnext : nextTrickle s = none)
    (hcopy : s.dram.copying = []) (hlanes : ∀ p, p ∈ s.harv.lanes → p.2.cells = []) :
    tricklePassEnd s = endPass false { s with dram := { s.dram with nextCell := winFirst s + winCount s } } :=
  if_pos (by simpa [hactive, hnext, hcopy] using fun l lane hl => hlanes (l, lane) hl)

theorem tricklePassEnd_of_running {s : State} (h : s.dram.active = false ∨ (nextTrickle s).isSome = true) : tricklePassEnd s = s := by
  refine if_neg fun hover => ?_
  simp only [Bool.and_eq_true, Option.isNone_iff_eq_none] at hover
  obtain ⟨⟨⟨active, none⟩, -⟩, -⟩ := hover
  rcases h with h | h
  · exact Bool.false_ne_true (h.symm.trans active)
  · simp [none] at h

/-! A write of CANCEL = 1 on the machine that it has left (R220). -/

theorem wordEffects_go (s : State) : wordEffects 10 15 0 1 (beMask allBe) s = trickleGo s := rfl
theorem wordEffects_cancel (s : State) : wordEffects 10 15 0 2 (beMask allBe) s = endPass true s := rfl

end Sys2Proof.Machine

namespace Sys2Proof

open Machine

/-- Settles O42: GO and CANCEL act on the machine that their write has left; the next cell is the least of those that may be copied, and
the end of a copy or of a pass is its own row. -/
theorem tricklePass : Obligations.TricklePass := by
  unfold Obligations.TricklePass
  refine ⟨fun s => ?_, fun s => ?_, fun s c hnext => ?_,
    fun c s hactive hguard hcopy hunits => ?_, fun c s h => ?_, fun s hactive hnext hcopy hlanes => ?_, fun s h => ?_⟩
  · intro e may hr ho hbusy hat
    refine ⟨_, (exec_trickleGo allBe s).trans (congrArg _ (if_pos hat)), ?_⟩
    rw [leaveTblData_trickle wordEffects_go hr ho hbusy hat]
    obtain ⟨host, told, ue, ce, hw⟩ := trickleWritten_others 1 s
    obtain ⟨map, total, arr, conf, begun, dropped⟩ := trickleGo_leaves (trickleWritten 1 s)
    obtain ⟨adm', arr', conf', nand', dram', reject', lastRej', ten'⟩ := tblAdvance_readyCheck (trickleGo (trickleWritten 1 s))
    have allowed : mayGo (trickleWritten 1 s) ↔ mayGo s := by rw [hw]; exact Iff.rfl
    have rdy : ready (trickleGo (trickleWritten 1 s)) = ready s := by
      rw [trickleGo_ready, hw]
      exact ready_congr rfl rfl rfl
    rw [adm', arr', conf', nand', dram', reject', lastRej', map, total, arr, conf, rdy]
    refine ⟨by rw [hw], by rw [hw], by rw [hw], by rw [hw], fun hgo => ?_, fun hno => ?_⟩
    · obtain ⟨dram, power, ten⟩ := begun (allowed.2 hgo)
      refine ⟨?_, ?_, ?_, ?_, ?_, power, fun k hk => by rw [ten', ten k hk]⟩ <;> rw [dram, hw] <;> rfl
    · obtain ⟨dram, adm, reject, lastRej⟩ := dropped fun hgo => hno (allowed.1 hgo)
      rw [dram, adm, reject, lastRej, hw]
      exact ⟨rfl, rfl, rfl, rfl⟩
  · intro e hr ho hbusy hat
    refine ⟨_, (exec_trickleCancel allBe s).trans (congrArg _ (if_pos hat)), ?_⟩
    rw [leaveTblData_trickle wordEffects_cancel hr ho hbusy hat]
    obtain ⟨host, told, ue, ce, hw⟩ := trickleWritten_others 2 s
    obtain ⟨adm', arr', -, -, dram', -⟩ := tblAdvance_readyCheck (endPass true (trickleWritten 2 s))
    rw [adm', arr', dram', endPass_dram, hw]
    cases hactive : s.dram.active <;> simp [hactive]
  · obtain ⟨⟨from', may⟩, least⟩ := nextTrickle_least hnext
    exact ⟨may, from', fun d hd hmay => least d ⟨hd, hmay⟩⟩
  · refine ⟨_, exec_trickleCellCopied c s, ?_⟩
    obtain ⟨dram, others⟩ := trickleCopied_leaves hactive hguard hcopy hunits
    refine ⟨by rw [dram]; exact not_mem_removeNat c _, by rw [dram]; rfl, others, fun h => ?_,
      fun o h howner => trickleCopied_counts hactive hguard hcopy hunits h howner, by simp [onlyReports]⟩
    rw [trickleCopied_of_clean hactive hguard hcopy hunits h]
    rfl
  · rw [exec_trickleCellCopied, trickleCopied_of_idle h]
  · refine ⟨_, exec_tricklePassEnd s, ?_⟩
    rw [tricklePassEnd_of_over hactive hnext hcopy hlanes, endPass_dram]
    simp [hactive]
  · rw [exec_tricklePassEnd, tricklePassEnd_of_running h]

end Sys2Proof
end

section
/-! PROOFS. Harvest saves cells: the units of a lane, the status of their programs, and targets and lanes that are out (chapters 6, 10
and 11, R126, R233, R253 to R257, R263). -/

namespace Sys2Proof.Machine

theorem exec_cellSaved (l : Nat) (s : State) : exec (.cellSaved l) s = .next (cellSaved l s) := rfl
theorem exec_nandProgramStatus (g page : Nat) (pass : Bool) (s : State) :
    exec (.nandProgramStatus g page pass) s = .next (programStatus g page pass s) := rfl
theorem exec_targetTimeout (g : Nat) (s : State) :
    exec (.targetTimeout g) s = .next (settleLanes (settleRewrites (targetTimeout g s))) := rfl

/-! What the making, the voiding and the rewriting of program units leave. -/

/-- The array and the registers stay, and so do the failures counted, a target that is out, the stripes found bad and the header's
page. -/
structure UnitsMove (s t : State) : Prop where
  arr : t.arr = s.arr
  conf : t.conf = s.conf
  progFail : ∀ k, (chanOf t k).progFail = (chanOf s k).progFail
  fails : ∀ g, (tgtOf t g).fails = (tgtOf s g).fails
  out : ∀ g, (tgtOf s g).out = true → (tgtOf t g).out = true
  bad : s.nand.badFound ⊆ t.nand.badFound
  hdrPage : t.harv.hdrPage = s.harv.hdrPage

namespace UnitsMove

theorem of_same {s t : State} (arr : t.arr = s.arr) (conf : t.conf = s.conf) (chans : t.nand.chans = s.nand.chans)
    (targets : t.nand.targets = s.nand.targets) (bad : s.nand.badFound ⊆ t.nand.badFound)
    (hdrPage : t.harv.hdrPage = s.harv.hdrPage) : UnitsMove s t :=
  ⟨arr, conf, fun k => by rw [chanOf, chans, ← chanOf], fun g => by rw [tgtOf, targets, ← tgtOf],
    fun g h => by rwa [tgtOf, targets, ← tgtOf], bad, hdrPage⟩

theorem refl (s : State) : UnitsMove s s := of_same rfl rfl rfl rfl (List.Subset.refl _) rfl

theorem trans {s t u : State} (h : UnitsMove s t) (k : UnitsMove t u) : UnitsMove s u :=
  ⟨k.arr.trans h.arr, k.conf.trans h.conf, fun c => (k.progFail c).trans (h.progFail c), fun g => (k.fails g).trans (h.fails g),
    fun g hg => k.out g (h.out g hg), fun _ hx => k.bad (h.bad hx), k.hdrPage.trans h.hdrPage⟩

theorem foldl {β : Type} {f : State → β → State} (h : ∀ s x, UnitsMove s (f s x)) :
    ∀ (l : List β) (s : State), UnitsMove s (l.foldl f s)
  | [], s => refl s
  | x :: l, s => (h s x).trans (foldl h l (f s x))

end UnitsMove

theorem refresh_unitsMove (s : State) : UnitsMove s (refresh s) := .of_same (by simp) (by simp) (by simp) (by simp) (by simp) (by simp)

theorem tally_unitsMove (src kind : Nat) (addr : Word) (s : State) : UnitsMove s (tally src kind addr s) :=
  .of_same (by simp) (by simp) (by simp) (by simp) (by simp) (by simp)

theorem modLane_unitsMove (l : Nat) (f : Lane → Lane) (s : State) : UnitsMove s (modLane l f s) :=
  .of_same rfl rfl rfl rfl (List.Subset.refl _) rfl

/-! One unit of a lane (R251, R253): its pages are the first that wait, its target is one of the lane's, and the cells of rewritten
pages are SAVED with it. -/

/-- Cells that have no page waiting any longer are SAVED. -/
def saveIfWritten (s : State) (c : Nat) : State := if cellState s c = 1 && !pageWaits s c then save c s else s

/-- A unit of lane l has been made of the pages taken. -/
structure UnitMade (l : Nat) (s t : State) : Prop where
  others : ∃ units chains fill pageAt trkFill trkAt lanes, t = { s with
    nand := { s.nand with units := units, chains := chains, fill := fill, pageAt := pageAt, trkFill := trkFill, trkAt := trkAt }
    harv := { s.harv with lanes := lanes } }
  units : ∃ u, u.target ∈ laneTargets s l ∧ t.nand.units = s.nand.units ++ [u]
  lane : ∃ n turn, laneOf t l = { laneOf s l with pages := (laneOf s l).pages.drop n, turn := turn }

theorem linkAll_nand (id l : Nat) : ∀ (ps : List PageOut) (s : State),
    ∃ chains, (linkAll id l ps s).2 = { s with nand := { s.nand with chains := chains } }
  | [], s => ⟨_, rfl⟩
  | p :: ps, s => by
    obtain ⟨chains, h⟩ := linkAll_nand id l ps (linkPage id l p s).2
    exact ⟨chains, by rw [linkAll, h]; rfl⟩

theorem putFill_nand (trk : Bool) (t : Nat) (xs : List Nat) (row : Nat) (s : State) : ∃ fill pageAt trkFill trkAt,
    putFill trk t xs row s = { s with nand := { s.nand with fill := fill, pageAt := pageAt, trkFill := trkFill, trkAt := trkAt } } := by
  unfold putFill
  split
  · exact ⟨_, _, _, _, rfl⟩
  · exact ⟨_, _, _, _, rfl⟩

theorem chosen_mem {ts : List Nat} (p : Nat → Bool) (h : ts.isEmpty = false) : (ts.find? p).getD (ts.headD 0) ∈ ts := by
  cases hfind : ts.find? p with
  | some t => exact List.mem_of_find?_eq_some hfind
  | none =>
    cases ts with
    | nil => simp at h
    | cons t ts => simp

theorem formUnits_succ (l : Nat) (all : Bool) (n : Nat) (s : State) : formUnits l all (n + 1) s = s ∨
    ∃ (t : State) (cs : List Nat), UnitMade l s t ∧ (∀ c, c ∈ cs → ∃ w, w ∈ (laneOf s l).pages ∧ w.kind = 3) ∧
      formUnits l all (n + 1) s = formUnits l all n (cs.foldl saveIfWritten t) := by
  rw [formUnits]
  split
  next => exact .inl rfl
  next w ws hpages =>
    extract_lets trk k take ts turn t row full outs s1 s2 nand s3 again
    split
    next => exact .inl rfl
    next hroom =>
      obtain ⟨chains, linked⟩ := linkAll_nand (combNow s) l
        (take.map (fun w => pageFor s (some w)) ++ List.replicate (k - take.length) (pageFor s none)) s
      obtain ⟨fill, pageAt, trkFill, trkAt, filled⟩ := putFill_nand trk t (if full then (fillOf s trk t).tail else fillOf s trk t)
        (if full then 0 else row) s1
      have moved : s1 = modLane l (fun x => { x with pages := x.pages.drop take.length, turn := t % 4 + 1 })
        { s with nand := { s.nand with chains := chains } } := congrArg (modLane l _) linked
      have filled : s2 = _ := filled
      clear_value s2
      subst filled
      clear_value s1
      subst moved
      have targets : ts.isEmpty = false := by
        simp only [Bool.or_eq_true, not_or, Bool.not_eq_true] at hroom
        exact hroom.1
      have made : s3 = { modLane l (fun x => { x with pages := x.pages.drop take.length, turn := t % 4 + 1 }) s with
          nand := { s.nand with
            units := s.nand.units ++ [⟨t, (fillOf s trk t).headD 0, row - 1, outs.1, s.fr.epoch⟩]
            chains := chains, fill := fill, pageAt := pageAt, trkFill := trkFill, trkAt := trkAt } } := by
        rfl
      refine .inr ⟨s3, again, ⟨?_, ⟨⟨t, (fillOf s trk t).headD 0, row - 1, outs.1, s.fr.epoch⟩, ?_, ?_⟩, ?_⟩, ?_, rfl⟩
      · rw [made]
        exact ⟨_, _, _, _, _, _, _, rfl⟩
      · exact List.mem_of_mem_filter (chosen_mem _ targets)
      · rw [made]
      · rw [made]
        exact ⟨_, _, modLane_laneOf _ _ _⟩
      · intro c hc
        obtain ⟨w, hw, rfl⟩ := List.mem_map.1 (List.mem_eraseDups.1 hc)
        obtain ⟨hw, kind⟩ := List.mem_filter.1 hw
        refine ⟨w, ?_, by simpa using kind⟩
        rw [hpages]
        exact (List.takeWhile_sublist _).subset (List.mem_of_mem_take hw)

theorem UnitMade.unitsMove {l : Nat} {s t : State} (h : UnitMade l s t) : UnitsMove s t := by
  obtain ⟨units, chains, fill, pageAt, trkFill, trkAt, lanes, rfl⟩ := h.others
  exact .of_same rfl rfl rfl rfl (List.Subset.refl _) rfl

theorem save_harv (c : Nat) (s : State) : (save c s).harv = { s.harv with saved := s.harv.saved + 1 } := by
  unfold save
  split <;> simp

theorem saveIfWritten_unitsMove (s : State) (c : Nat) : UnitsMove s (saveIfWritten s c) := by
  unfold saveIfWritten
  split
  · exact .of_same (by simp) (by simp) (by simp) (by simp) (by simp) (by rw [save_harv])
  · exact .refl s

theorem formUnits_unitsMove (l : Nat) (all : Bool) : ∀ (n : Nat) (s : State), UnitsMove s (formUnits l all n s)
  | 0, s => .refl s
  | n + 1, s => by
    rcases formUnits_succ l all n s with h | ⟨t, cs, made, -, h⟩
    · rw [h]
      exact .refl s
    · rw [h]
      exact (made.unitsMove.trans (.foldl saveIfWritten_unitsMove cs t)).trans (formUnits_unitsMove l all n _)

/-- The units under way on target g. -/
def unitsOn (s : State) (g : Nat) : List ProgUnit := s.nand.units.filter fun u => u.target == g

theorem not_mem_laneTargets {s : State} {g : Nat} (l : Nat) (h : (tgtOf s g).out = true) : g ∉ laneTargets s l := by
  simp [laneTargets, h]

theorem unitsOn_congr {s t : State} (h : t.nand.units = s.nand.units) (g : Nat) : unitsOn t g = unitsOn s g := by
  rw [unitsOn, h, unitsOn]

/-- A target that is out takes no further unit. -/
theorem UnitMade.unitsOn_of_out {l g : Nat} {s t : State} (h : UnitMade l s t) (hg : (tgtOf s g).out = true) :
    unitsOn t g = unitsOn s g := by
  obtain ⟨u, hu, units⟩ := h.units
  have other : (u.target == g) = false := beq_false_of_ne fun hug => not_mem_laneTargets l hg (hug ▸ hu)
  rw [unitsOn, units, List.filter_append, List.filter_singleton, other]
  simp [unitsOn]

theorem saveIfWritten_nand (s : State) (c : Nat) : (saveIfWritten s c).nand = s.nand := by
  unfold saveIfWritten
  split <;> simp

theorem formUnits_unitsOn_of_out (l : Nat) (all : Bool) {g : Nat} : ∀ (n : Nat) (s : State), (tgtOf s g).out = true →
    unitsOn (formUnits l all n s) g = unitsOn s g
  | 0, s, _ => rfl
  | n + 1, s, hg => by
    rcases formUnits_succ l all n s with h | ⟨t, cs, made, -, h⟩
    · rw [h]
    · have out := (made.unitsMove.trans (.foldl saveIfWritten_unitsMove cs t)).out g hg
      have nand : (cs.foldl saveIfWritten t).nand = t.nand := by rw [foldl_proj _ (·.nand) saveIfWritten_nand]
      rw [h, formUnits_unitsOn_of_out l all n _ out, unitsOn_congr (s := t) (by rw [nand]), made.unitsOn_of_out hg]

/-- With no page of a rewrite waiting on the lane, units are made and no cell is SAVED. -/
theorem formUnits_of_noRewrite (l : Nat) (all : Bool) : ∀ (n : Nat) (s : State), (∀ w, w ∈ (laneOf s l).pages → w.kind ≠ 3) →
    (formUnits l all n s).adm = s.adm ∧ (formUnits l all n s).harv.saved = s.harv.saved ∧
      (laneOf (formUnits l all n s) l).cells = (laneOf s l).cells
  | 0, s, _ => ⟨rfl, rfl, rfl⟩
  | n + 1, s, hpages => by
    rcases formUnits_succ l all n s with h | ⟨t, cs, made, rewritten, h⟩
    · rw [h]
      exact ⟨rfl, rfl, rfl⟩
    · obtain rfl : cs = [] := List.eq_nil_iff_forall_not_mem.2 fun c hc => by
        obtain ⟨w, hw, kind⟩ := rewritten c hc
        exact hpages w hw kind
      obtain ⟨k, turn, lane⟩ := made.lane
      obtain ⟨adm, saved, cells⟩ := formUnits_of_noRewrite l all n t fun w hw => hpages w (by
        rw [lane] at hw
        exact List.mem_of_mem_drop hw)
      obtain ⟨_, _, _, _, _, _, _, ht⟩ := made.others
      rw [h, List.foldl_nil, adm, saved, cells, lane]
      exact ⟨by rw [ht], by rw [ht], rfl⟩

/-! Cells that go back, a lane that is out, and the units of a lane (R233, R235, R236, R254). -/

theorem unsave_harv (c : Nat) (s : State) : ∃ n, (unsave c s).harv = { s.harv with saved := n } := by
  unfold unsave
  split
  · split <;> exact ⟨_, rfl⟩
  · exact ⟨_, rfl⟩

/-- The cells go back, and the units, the lanes and the counts stay. -/
structure CellsGiven (s t : State) : Prop where
  arr : t.arr = s.arr
  conf : t.conf = s.conf
  nand : ∃ rewrites, t.nand = { s.nand with rewrites := rewrites }
  lanes : t.harv.lanes = s.harv.lanes
  hdrPage : t.harv.hdrPage = s.harv.hdrPage

theorem CellsGiven.unitsMove {s t : State} (h : CellsGiven s t) : UnitsMove s t := by
  obtain ⟨rewrites, nand⟩ := h.nand
  exact .of_same h.arr h.conf (by rw [nand]) (by rw [nand]) (by rw [nand]; exact List.Subset.refl _) h.hdrPage

theorem foldl_unsave_given (cs : List Nat) (s : State) : CellsGiven s (cs.foldl (fun s c => unsave c s) s) := by
  have kept : ∀ t c, (unsave c t).harv.lanes = t.harv.lanes ∧ (unsave c t).harv.hdrPage = t.harv.hdrPage := fun t c => by
    obtain ⟨n, harv⟩ := unsave_harv c t
    rw [harv]
    exact ⟨rfl, rfl⟩
  exact ⟨by simp, by simp, ⟨s.nand.rewrites, by simp⟩, foldl_proj _ (·.harv.lanes) (fun t c => (kept t c).1) cs s,
    foldl_proj _ (·.harv.hdrPage) (fun t c => (kept t c).2) cs s⟩

theorem CellsGiven.trans {s t u : State} (h : CellsGiven s t) (k : CellsGiven t u) : CellsGiven s u := by
  obtain ⟨_, nand⟩ := h.nand
  obtain ⟨_, nand'⟩ := k.nand
  exact ⟨k.arr.trans h.arr, k.conf.trans h.conf, ⟨_, nand'.trans (by rw [nand])⟩, k.lanes.trans h.lanes, k.hdrPage.trans h.hdrPage⟩

theorem refresh_given (s : State) : CellsGiven s (refresh s) := ⟨by simp, by simp, ⟨s.nand.rewrites, by simp⟩, by simp, by simp⟩

theorem giveBack_given (cs : List Nat) (s : State) : CellsGiven s (giveBack cs s) := by
  unfold giveBack
  extract_lets cs' s1 kept s2
  have given : CellsGiven s s2 := (foldl_unsave_given cs' s).trans ⟨rfl, rfl, ⟨_, rfl⟩, rfl, rfl⟩
  refine .trans (given.trans ?_) (refresh_given _)
  split
  · exact ⟨rfl, rfl, ⟨_, rfl⟩, rfl, rfl⟩
  · exact ⟨rfl, rfl, ⟨_, rfl⟩, rfl, rfl⟩

theorem CellsGiven.unitsOn {s t : State} (h : CellsGiven s t) (g : Nat) : unitsOn t g = unitsOn s g := by
  obtain ⟨_, nand⟩ := h.nand
  exact unitsOn_congr (by rw [nand]) g

theorem CellsGiven.laneOf {s t : State} (h : CellsGiven s t) (l : Nat) : laneOf t l = laneOf s l := by
  rw [Machine.laneOf, h.lanes, ← Machine.laneOf]

theorem tally_given (src kind : Nat) (addr : Word) (s : State) : CellsGiven s (tally src kind addr s) :=
  ⟨by simp, by simp, ⟨s.nand.rewrites, by simp⟩, by simp, by simp⟩

theorem laneGone_unitsMove (l : Nat) (s : State) : UnitsMove s (laneGone l s) := by
  have lane : UnitsMove s (modLane l (fun x => { x with out := true, cells := [], moved := 0, pages := [] }) s) := modLane_unitsMove _ _ _
  have chan : ∀ t : State, UnitsMove t (modChan l (fun c => { c with out := true }) t) := fun t =>
    ⟨rfl, rfl, fun k => by by_cases hk : k = l <;> simp [hk], fun _ => rfl, fun _ h => h, List.Subset.refl _, rfl⟩
  have dropped : ∀ t : State, UnitsMove t { t with nand := { t.nand with units := t.nand.units.filter fun u => u.target / 4 != l } } :=
    fun t => .of_same rfl rfl rfl rfl (List.Subset.refl _) rfl
  unfold laneGone
  split
  · exact .refl s
  · extract_lets x s1 gone s2
    split
    · exact (lane.trans (chan _)).trans (tally_unitsMove _ _ _ _)
    · exact (((lane.trans (chan _)).trans (dropped _)).trans (giveBack_given _ _).unitsMove).trans (tally_unitsMove _ _ _ _)

/-- A lane that is declared out only takes units away. -/
theorem laneGone_unitsOn (l : Nat) (s : State) (g : Nat) : (unitsOn (laneGone l s) g).Sublist (unitsOn s g) := by
  unfold laneGone
  split
  · exact List.Sublist.refl _
  · extract_lets x s1 gone nand s2
    split
    · rw [(tally_given _ _ _ _).unitsOn]
      exact List.Sublist.refl _
    · rw [(tally_given _ _ _ _).unitsOn, (giveBack_given _ _).unitsOn]
      exact List.filter_sublist.filter _

theorem laneGone_out (l : Nat) (s : State) : (laneOf (laneGone l s) l).out = true := by
  unfold laneGone
  split
  · assumption
  · extract_lets x s1 gone nand s2
    have out : (laneOf s1 l).out = true := congrArg Lane.out (modLane_laneOf l _ s)
    split
    · rw [(tally_given _ _ _ _).laneOf, out]
    · rw [(tally_given _ _ _ _).laneOf, (giveBack_given _ _).laneOf]
      exact out

theorem pump_cases (l : Nat) (all : Bool) (s : State) :
    let t := formUnits l all ((laneOf s l).pages.length + 1) s
    pump l all s = t ∨ pump l all s = laneGone l t := by
  unfold pump
  extract_lets t
  split
  · exact .inl rfl
  · split
    · exact .inr rfl
    · exact .inl rfl

theorem pump_unitsMove (l : Nat) (all : Bool) (s : State) : UnitsMove s (pump l all s) := by
  have formed := formUnits_unitsMove l all ((laneOf s l).pages.length + 1) s
  rcases pump_cases l all s with h | h
  · rw [h]
    exact formed
  · rw [h]
    exact formed.trans (laneGone_unitsMove l _)

theorem pump_unitsOn (l : Nat) (all : Bool) {s : State} {g : Nat} (hg : (tgtOf s g).out = true) :
    (unitsOn (pump l all s) g).Sublist (unitsOn s g) := by
  have formed := formUnits_unitsOn_of_out l all ((laneOf s l).pages.length + 1) s hg
  rcases pump_cases l all s with h | h
  · rw [h, formed]
  · rw [h, ← formed]
    exact laneGone_unitsOn l _ g

/-! A unit that is void (R253, R254). -/

theorem retireStripe_unitsMove (g x : Nat) (s : State) : UnitsMove s (retireStripe g x s) ∧
    (g, x) ∈ (retireStripe g x s).nand.badFound ∧ (retireStripe g x s).nand.units = s.nand.units := by
  unfold retireStripe
  extract_lets s1 nand
  obtain ⟨_, _, _, _, filled⟩ := putFill_nand false g (fillOf s false g).tail 0 s
  have first : s1.arr = s.arr ∧ s1.conf = s.conf ∧ s1.harv = s.harv ∧ s1.nand.chans = s.nand.chans ∧
      s1.nand.targets = s.nand.targets ∧ s1.nand.badFound = s.nand.badFound ∧ s1.nand.units = s.nand.units := by
    simp only [s1]
    split
    · rw [filled]
      simp
    · simp
  obtain ⟨arr, conf, harv, chans, targets, bad, units⟩ := first
  have added : (g, x) ∈ (if s1.nand.badFound.contains (g, x) then s1.nand.badFound else s1.nand.badFound ++ [(g, x)]) ∧
      s.nand.badFound ⊆ (if s1.nand.badFound.contains (g, x) then s1.nand.badFound else s1.nand.badFound ++ [(g, x)]) := by
    rw [bad]
    split
    next h => exact ⟨List.contains_iff_mem.1 h, List.Subset.refl _⟩
    next => exact ⟨by simp, List.subset_append_left _ _⟩
  obtain ⟨here, others⟩ := added
  exact ⟨.of_same arr conf chans targets others (congrArg HarvB.hdrPage harv), here, units⟩

/-- A void unit is no longer under way, and its cells are to be written again. -/
def unitErased (u : ProgUnit) (s : State) : State :=
  { s with nand := { s.nand with
    units := s.nand.units.erase u, rewrites := (unitCells u).foldl (fun a c => insertNat c a) s.nand.rewrites } }

/-- Nor does its stripe take anything more. -/
def unitVoided (u : ProgUnit) (s : State) : State :=
  (unitCells u).eraseDups.foldl (fun s c => unsave c s) (retireStripe u.target u.stripe (unitErased u s))

theorem voidUnit_eq (u : ProgUnit) (s : State) : ∃ (all : Bool) (pages : List WaitPage), voidUnit u s =
    refresh (pump (u.target / 4) all (modLane (u.target / 4) (fun x => { x with pages := pages ++ x.pages }) (unitVoided u s))) :=
  ⟨_, _, rfl⟩

theorem unitVoided_unitsMove (u : ProgUnit) (s : State) : UnitsMove s (unitVoided u s) ∧
    (u.target, u.stripe) ∈ (unitVoided u s).nand.badFound ∧ (unitVoided u s).nand.units = s.nand.units.erase u := by
  obtain ⟨retired, bad, units⟩ := retireStripe_unitsMove u.target u.stripe (unitErased u s)
  have given := foldl_unsave_given (unitCells u).eraseDups (retireStripe u.target u.stripe (unitErased u s))
  have erased : UnitsMove s (unitErased u s) := .of_same rfl rfl rfl rfl (List.Subset.refl _) rfl
  obtain ⟨_, nand⟩ := given.nand
  exact ⟨erased.trans (retired.trans given.unitsMove), given.unitsMove.bad bad, (congrArg NandB.units nand).trans units⟩

theorem voidUnit_unitsMove (u : ProgUnit) (s : State) : UnitsMove s (voidUnit u s) ∧
    (u.target, u.stripe) ∈ (voidUnit u s).nand.badFound := by
  obtain ⟨all, pages, h⟩ := voidUnit_eq u s
  obtain ⟨voided, bad, -⟩ := unitVoided_unitsMove u s
  have after := ((modLane_unitsMove (u.target / 4) (fun x => { x with pages := pages ++ x.pages }) (unitVoided u s)).trans
    (pump_unitsMove (u.target / 4) all _)).trans (refresh_unitsMove _)
  rw [h]
  exact ⟨voided.trans after, after.bad bad⟩

/-- A void unit leaves its target, and a target that is out takes no other one. -/
theorem voidUnit_unitsOn (u : ProgUnit) {s : State} {g : Nat} (hg : (tgtOf s g).out = true) :
    (unitsOn (voidUnit u s) g).Sublist ((unitsOn s g).erase u) := by
  obtain ⟨all, pages, h⟩ := voidUnit_eq u s
  obtain ⟨voided, -, units⟩ := unitVoided_unitsMove u s
  have pumped := pump_unitsOn (u.target / 4) all
    (((modLane_unitsMove (u.target / 4) (fun x => { x with pages := pages ++ x.pages }) (unitVoided u s)).out g) (voided.out g hg))
  rw [h, (refresh_given _).unitsOn]
  have left : unitsOn (unitVoided u s) g = (unitsOn s g).erase u := by rw [unitsOn, units, unitsOn, List.erase_filter]
  exact left ▸ pumped

/-- Once all the units of a target that is out are void, the target has none. -/
theorem foldl_voidUnit_unitsOn {g : Nat} : ∀ (us : List ProgUnit) (s : State), (tgtOf s g).out = true →
    (unitsOn s g).Sublist us → unitsOn (us.foldl (fun s u => voidUnit u s) s) g = []
  | [], s, _, h => List.sublist_nil.1 h
  | u :: us, s, hg, h => by
    refine foldl_voidUnit_unitsOn us (voidUnit u s) ((voidUnit_unitsMove u s).1.out g hg) ((voidUnit_unitsOn u hg).trans ?_)
    have := h.erase u
    rwa [List.erase_cons_head] at this

/-! The head cell of a lane is SAVED (R126, R233). -/

/-- A cell that leaves DIRTY, or any other state, for state st keeps its GEN; the counts follow. -/
theorem undirty_writes (c st : Nat) (s : State) : (undirty c st s).adm.map = (writeCell c st (cellGen s c) s).adm.map := by
  unfold undirty
  extract_lets s1
  split
  · split <;> rfl
  · rfl

theorem save_nibble (c : Nat) (s : State) (b : Nat) : nibble (save c s) b = if b = c then 3 + 4 * cellGen s c else nibble s b := by
  have written : nibble (mapWrites c 1 (undirty c 3 s)) b = if b = c then 3 + 4 * cellGen s c else nibble s b := by
    rw [mapWrites_nibble, nibble_congr (undirty_writes c 3 s), writeCell_nibble]
  rw [← written]
  unfold save
  split <;> rfl

/-- The lane's head cell is SAVED and its pages wait for their units. -/
def headSaved (l c : Nat) (cs : List Nat) (s : State) : State :=
  modLane l (fun x => { x with
    cells := cs, moved := if cs.isEmpty then 0 else x.moved - 65536
    pages := x.pages ++ (List.range 4).map fun q => ⟨c, q, 2⟩ }) (save c s)

section
variable {l c : Nat} {cs : List Nat} {s : State}

theorem cellSaved_of_head (hcells : (laneOf s l).cells = c :: cs) (hwriting : writing s = true) (hmoved : 65536 ≤ (laneOf s l).moved) :
    cellSaved l s = refresh (pump l false (headSaved l c cs s)) := by
  rw [cellSaved, hcells]
  exact if_pos (by simp [hwriting, hmoved])

theorem cellSaved_of_none (h : writing s = false ∨ (laneOf s l).cells = [] ∨ (laneOf s l).moved < 65536) : cellSaved l s = s := by
  unfold cellSaved
  extract_lets x
  split
  next c cs hcells =>
    refine if_neg fun hsaves => ?_
    obtain ⟨hwriting, hmoved⟩ := Bool.and_eq_true_iff.1 hsaves
    rcases h with h | h | h
    · exact Bool.false_ne_true (h.symm.trans hwriting)
    · exact List.cons_ne_nil c cs (hcells.symm.trans h)
    · exact Nat.not_lt.2 (of_decide_eq_true hmoved) h
  next => rfl

theorem headSaved_lane (l c : Nat) (cs : List Nat) (s : State) : (laneOf (headSaved l c cs s) l).cells = cs ∧
    (laneOf (headSaved l c cs s) l).pages = (laneOf s l).pages ++ (List.range 4).map fun q => ⟨c, q, 2⟩ := by
  have lane : laneOf (save c s) l = laneOf s l := by rw [laneOf, save_harv, ← laneOf]
  rw [headSaved, modLane_laneOf, lane]
  exact ⟨rfl, rfl⟩

theorem headSaved_noRewrite (cs : List Nat) (h : ∀ w, w ∈ (laneOf s l).pages → w.kind ≠ 3) :
    ∀ w, w ∈ (laneOf (headSaved l c cs s) l).pages → w.kind ≠ 3 := by
  intro w hw
  rw [(headSaved_lane l c cs s).2, List.mem_append, List.mem_map] at hw
  rcases hw with hw | ⟨q, -, rfl⟩
  · exact h w hw
  · exact (by decide : (2 : Nat) ≠ 3)

/-- While the lane stays in use, its head cell is SAVED and gone from it. -/
theorem cellSaved_saves (hcells : (laneOf s l).cells = c :: cs) (hwriting : writing s = true) (hmoved : 65536 ≤ (laneOf s l).moved)
    (hpages : ∀ w, w ∈ (laneOf s l).pages → w.kind ≠ 3) (hout : (laneOf (cellSaved l s) l).out = false) :
    (∀ d, nibble (cellSaved l s) d = if d = c then 3 + 4 * cellGen s c else nibble s d) ∧ (laneOf (cellSaved l s) l).cells = cs ∧
      (cellSaved l s).harv.saved = s.harv.saved + 1 := by
  have lane : laneOf (cellSaved l s) l = laneOf (pump l false (headSaved l c cs s)) l := by
    rw [cellSaved_of_head hcells hwriting hmoved, (refresh_given _).laneOf]
  rcases pump_cases l false (headSaved l c cs s) with h | h
  · obtain ⟨adm, saved, cells⟩ := formUnits_of_noRewrite l false ((laneOf (headSaved l c cs s) l).pages.length + 1) _
      (headSaved_noRewrite (c := c) cs hpages)
    rw [← h] at adm saved cells
    refine ⟨fun d => ?_, ?_, ?_⟩
    · obtain ⟨-, map, -⟩ := refresh_adm (pump l false (headSaved l c cs s))
      rw [cellSaved_of_head hcells hwriting hmoved, nibble_congr map, nibble_congr (s := headSaved l c cs s) (by rw [adm])]
      exact save_nibble c s d
    · rw [lane, cells, (headSaved_lane l c cs s).1]
    · have harv : (refresh (pump l false (headSaved l c cs s))).harv = (pump l false (headSaved l c cs s)).harv := by simp
      rw [cellSaved_of_head hcells hwriting hmoved, harv, saved]
      exact congrArg HarvB.saved (save_harv c s)
  · rw [lane, h, laneGone_out] at hout
    exact absurd hout (by decide)

theorem cellSaved_unitsMove (l : Nat) (s : State) : UnitsMove s (cellSaved l s) := by
  unfold cellSaved
  extract_lets x
  split
  next c cs _ =>
    split
    · have saved : UnitsMove s (headSaved l c cs s) :=
        .of_same (by simp [headSaved]) (by simp [headSaved]) (by simp [headSaved]) (by simp [headSaved]) (by simp [headSaved])
          (by simp [headSaved, save_harv])
      exact (saved.trans (pump_unitsMove l false _)).trans (refresh_unitsMove _)
    · exact .refl s
  next => exact .refl s

end

/-! The status of a program (R253, R254, R255, R257). -/

/-- Target g is declared out, and its lane with its last target. -/
theorem targetGone_unitsMove (g page : Nat) (s : State) : UnitsMove s (targetGone g page s) ∧
    (tgtOf (targetGone g page s) g).out = true := by
  have marked : UnitsMove s (modTgt g (fun x => { x with out := true }) s) :=
    ⟨rfl, rfl, fun _ => rfl, fun k => by by_cases hk : k = g <;> simp [hk], fun k hk => by by_cases hg : k = g <;> simp [hg, hk],
      List.Subset.refl _, rfl⟩
  unfold targetGone
  split
  next h => exact ⟨.refl s, h⟩
  next =>
    extract_lets s1
    have told : UnitsMove s s1 := marked.trans (tally_unitsMove _ _ _ _)
    have out : (tgtOf s1 g).out = true := (tally_unitsMove _ _ _ _).out g (congrArg Target.out (modTgt_tgtOf _ _ _))
    split
    · exact ⟨told.trans (laneGone_unitsMove _ _), (laneGone_unitsMove _ _).out g out⟩
    · exact ⟨told, out⟩

/-- A program that fails counts against its channel and its target. -/
def failCounted (g page : Nat) (s : State) : State := modTgt g (fun x => { x with fails := x.fails + 1 }) (progFailed g page s)

theorem progFailed_progFail (g page : Nat) (s : State) :
    (chanOf (progFailed g page s) (g / 4)).progFail = satInc 0xFFFF (chanOf s (g / 4)).progFail := by
  rw [progFailed, (tally_unitsMove _ _ _ _).progFail, modChan_chanOf]

theorem progFailed_fails (g page : Nat) (s : State) : (tgtOf (progFailed g page s) g).fails = (tgtOf s g).fails := by
  rw [progFailed, (tally_unitsMove _ _ _ _).fails]
  rfl

theorem failCounted_fails (g page : Nat) (s : State) : (tgtOf (failCounted g page s) g).fails = (tgtOf s g).fails + 1 := by
  rw [failCounted, modTgt_tgtOf, ← progFailed_fails g page s]

/-- The header of a unit that carries one goes to the next page. -/
def headerMoved (u : ProgUnit) (s : State) : State :=
  if u.pages.any (fun p => p.kind == 1) then { s with harv := { s.harv with hdrPage := s.harv.hdrPage + 1 } } else s

/-- The unit that fails is void, or its header goes to the next page. -/
def unitFailed (u : ProgUnit) (s : State) : State := if u.pages.any (fun p => p.kind == 1) then headerAgain u s else voidUnit u s

theorem unitFailed_unitsMove (u : ProgUnit) (s : State) : UnitsMove (headerMoved u s) (unitFailed u s) := by
  unfold headerMoved unitFailed
  split
  · exact .of_same rfl rfl rfl rfl (List.Subset.refl _) rfl
  · exact (voidUnit_unitsMove u s).1

/-- The third failure declares the target out. -/
def thirdFails (g page : Nat) (s : State) : State := if 3 ≤ (tgtOf s g).fails then targetGone g page s else s

theorem thirdFails_unitsMove (g page : Nat) (s : State) : UnitsMove s (thirdFails g page s) := by
  unfold thirdFails
  split
  · exact (targetGone_unitsMove g page s).1
  · exact .refl s

section
variable {g page : Nat} {u : ProgUnit} {s : State}
  (hfind : s.nand.units.find? (fun u => u.target == g && decide (page ≤ u.page) && decide (u.page < page + unitRows s false)) = some u)
include hfind

theorem unitStatus_of_pass (h : u.page = page) :
    unitStatus g page true s = settleRewrites { s with nand := { s.nand with units := s.nand.units.erase u } } := by
  rw [unitStatus, hfind]
  exact if_pos h.symm

theorem unitStatus_of_fail : unitStatus g page false s = thirdFails g page (unitFailed u (failCounted g page s)) := by
  rw [unitStatus, hfind]
  rfl

theorem unitStatus_fails : let t := unitStatus g page false s
    t.arr = s.arr ∧ t.conf = s.conf ∧ (chanOf t (g / 4)).progFail = satInc 0xFFFF (chanOf s (g / 4)).progFail ∧
      (tgtOf t g).fails = (tgtOf s g).fails + 1 ∧ (2 ≤ (tgtOf s g).fails → (tgtOf t g).out = true) ∧
      (u.pages.any (fun p => p.kind == 1) = false → (g, u.stripe) ∈ t.nand.badFound) ∧
      (u.pages.any (fun p => p.kind == 1) = true → t.harv.hdrPage = s.harv.hdrPage + 1) := by
  intro t
  have ht : t = thirdFails g page (unitFailed u (failCounted g page s)) := unitStatus_of_fail hfind
  have failed := unitFailed_unitsMove u (failCounted g page s)
  have last := thirdFails_unitsMove g page (unitFailed u (failCounted g page s))
  have whole : UnitsMove (headerMoved u (failCounted g page s)) t := ht ▸ failed.trans last
  have same : (headerMoved u (failCounted g page s)).arr = s.arr ∧ (headerMoved u (failCounted g page s)).conf = s.conf ∧
      (headerMoved u (failCounted g page s)).nand = (failCounted g page s).nand := by
    unfold headerMoved
    split <;> simp [failCounted]
  obtain ⟨arr, conf, nand⟩ := same
  have fails : (tgtOf (headerMoved u (failCounted g page s)) g).fails = (tgtOf s g).fails + 1 := by
    rw [tgtOf, nand, ← tgtOf, failCounted_fails]
  refine ⟨whole.arr.trans arr, whole.conf.trans conf, ?_, (whole.fails g).trans fails, fun h => ?_, fun h => ?_, fun h => ?_⟩
  · rw [whole.progFail, chanOf, nand, ← chanOf]
    exact progFailed_progFail g page s
  · have third : 3 ≤ (tgtOf (unitFailed u (failCounted g page s)) g).fails := by
      rw [failed.fails, fails]
      omega
    rw [ht, thirdFails, if_pos third]
    exact (targetGone_unitsMove g page _).2
  · have on : u.target = g := by
      have found := List.find?_some hfind
      simp only [Bool.and_eq_true, beq_iff_eq] at found
      obtain ⟨⟨target, -⟩, -⟩ := found
      exact target
    have bad : (u.target, u.stripe) ∈ (unitFailed u (failCounted g page s)).nand.badFound := by
      rw [unitFailed, h]
      exact (voidUnit_unitsMove u _).2
    rw [ht]
    exact last.bad (on ▸ bad)
  · rw [whole.hdrPage, headerMoved, if_pos h]
    simp [failCounted]

end

/-- In Harvest, out of the seal, a unit's status counts. -/
theorem programStatus_of_unit {g page : Nat} {pass : Bool} {s : State} (hwriting : writing s = true) (hseal : s.harv.sealStep ≠ 1) :
    programStatus g page pass s = unitStatus g page pass s := by
  rw [programStatus, if_pos hwriting]
  exact if_neg fun h => hseal h.1

theorem programStatus_of_sealPage {g page : Nat} {e : CatEntry} {s : State} (hwriting : writing s = true) (hseal : s.harv.sealStep = 1)
    (hwait : (g, page) ∈ s.harv.sealWait) (he : combEntry s = some e) (hmore : s.harv.sealWait.erase (g, page) ≠ []) :
    programStatus g page true s = { s with harv := { s.harv with sealWait := s.harv.sealWait.erase (g, page) } } := by
  rw [programStatus, if_pos hwriting, if_pos ⟨hseal, List.contains_iff_mem.2 hwait⟩, sealStatus, he]
  exact if_neg (by simpa using hmore)

theorem programStatus_of_guard {g page : Nat} {pass : Bool} {s : State} (h : s.top.state = .guard) :
    programStatus g page pass s = trickleStatus g page pass s := by
  have idle : ¬ writing s = true := by simp [writing, h]
  rw [programStatus, if_neg idle, if_pos h]

/-! A Trickle page that fails ends the arming (R219, R263), and preparation begins (R262). -/

/-- The bytes of the array, the channels' counts and the arming stay. -/
structure ArmingKept (s t : State) : Prop where
  stored : SameStored s t
  chans : t.nand.chans = s.nand.chans
  armed : t.nand.armed = s.nand.armed

namespace ArmingKept

theorem refl (s : State) : ArmingKept s s := ⟨.refl s, rfl, rfl⟩

theorem trans {s t u : State} (h : ArmingKept s t) (k : ArmingKept t u) : ArmingKept s u :=
  ⟨h.stored.trans k.stored, k.chans.trans h.chans, k.armed.trans h.armed⟩

theorem foldl {β : Type} {f : State → β → State} (h : ∀ s x, ArmingKept s (f s x)) :
    ∀ (l : List β) (s : State), ArmingKept s (l.foldl f s)
  | [], s => refl s
  | x :: l, s => (h s x).trans (foldl h l (f s x))

theorem of_same {s t : State} (arr : t.arr = s.arr) (nand : t.nand = s.nand) : ArmingKept s t :=
  ⟨.of_arr arr, by rw [nand], by rw [nand]⟩

end ArmingKept

theorem modTgt_armingKept (g : Nat) (f : Target → Target) (s : State) : ArmingKept s (modTgt g f s) := ⟨.of_arr rfl, rfl, rfl⟩

theorem keepGeom_armingKept (kind val : Nat) (s : State) : ArmingKept s (keepGeom kind val s) :=
  ⟨keepRecord_sameStored _ _ _ _ _ s, by simp, by simp⟩

theorem markBad_armingKept (g x : Nat) (s : State) : ArmingKept s (markBad g x s) := by
  unfold markBad
  split
  · exact .refl s
  · exact (modTgt_armingKept _ _ s).trans (keepGeom_armingKept _ _ _)

theorem factoryScan_armingKept (s : State) : ArmingKept s (factoryScan s) := by
  unfold factoryScan
  split
  · exact .refl s
  · extract_lets s1 s2
    have cleared : ArmingKept s s1 := .foldl (fun t g => modTgt_armingKept g _ t) _ s
    have marked : ArmingKept s1 s2 := .foldl (fun (t : State) (p : Nat × Nat) => markBad_armingKept p.1 p.2 t) _ s1
    exact (cleared.trans marked).trans ⟨.of_arr rfl, rfl, rfl⟩

theorem prepStart_armingKept (s : State) : ArmingKept s (prepStart s) := by
  refine (factoryScan_armingKept s).trans ?_
  unfold prepStart
  extract_lets s r first id e s1 nand
  split
  · exact ⟨.of_arr rfl, rfl, rfl⟩
  · have passed : ArmingKept s s1 := .foldl (fun t g => by
      split
      · exact modTgt_armingKept _ _ t
      · exact .refl t) _ s
    exact passed.trans ⟨.of_arr rfl, rfl, rfl⟩

theorem prepMaybe_armingKept (s : State) : ArmingKept s (prepMaybe s) := by
  unfold prepMaybe
  split
  · exact prepStart_armingKept s
  · exact .refl s

theorem endEntry_armingKept (kind id : Nat) (s : State) : ArmingKept s (endEntry kind id s) := by
  unfold endEntry
  split
  · exact ⟨submit_sameStored _ s, by simp, by simp⟩
  · exact .refl s

theorem endPass_armingKept (cut : Bool) (s : State) : ArmingKept s (endPass cut s) := by
  cases h : s.dram.active with
  | false => rw [show endPass cut s = s from if_neg (by simp [h])]; exact .refl s
  | true =>
    rw [endPass_of_active cut h]
    generalize (List.range 64).filter _ = l
    exact ⟨.of_arr (by simp [passCleared]), by simp [passCleared], by simp [passCleared]⟩

/-- A TRICKLED cell whose Comb is void is DIRTY again. -/
def untrickledCell (s : State) (c : Nat) : State :=
  let s' := writeCell c 1 (genNow s) s
  match ownerOf s c with
  | some t => addDirty t 1 s'
  | none => { s' with adm := { s'.adm with dirtyTotal := s'.adm.dirtyTotal + 1 } }

theorem untrickledCell_armingKept (s : State) (c : Nat) : ArmingKept s (untrickledCell s c) := by
  unfold untrickledCell
  extract_lets s'
  split
  · exact .of_same (by simp [s']) (by simp [s'])
  · exact .of_same rfl rfl

/-- The arming and the passes of its image are gone. -/
def disarm (s : State) : State := { s with nand := { s.nand with armed := false }, dram := { s.dram with passes := [] } }

/-- The Trickle image is closed. -/
def imageShut (s : State) : State := { s with dram := { s.dram with imgOpen := false } }

/-- The TRICKLED cells. -/
def trickledCells (s : State) : List Nat := (s.adm.map.filter fun p => p.2 % 4 == 2).map (·.1)

/-- The Comb of the image is void. -/
def imageVoid (s : State) : State :=
  (trickledCells (endEntry 3 (armedId s) s)).foldl untrickledCell (endEntry 3 (armedId s) s)

theorem armLoss_of_armed {s : State} (h : s.nand.armed = true) :
    armLoss s = prepMaybe (refresh (tally 0x2C 4 0 (imageShut (endPass true (disarm (imageVoid s)))))) := if_pos h

theorem armLoss_ends (s : State) : SameStored s (armLoss s) ∧ (armLoss s).nand.chans = s.nand.chans ∧
    (armLoss s).nand.armed = false := by
  cases h : s.nand.armed with
  | false =>
    rw [show armLoss s = s from if_neg (by simp [h])]
    exact ⟨.refl s, rfl, h⟩
  | true =>
    have void : ArmingKept s (imageVoid s) := (endEntry_armingKept 3 (armedId s) s).trans (.foldl untrickledCell_armingKept _ _)
    have ended := endPass_armingKept true (disarm (imageVoid s))
    have shut : ArmingKept (endPass true (disarm (imageVoid s))) (armLoss s) := by
      rw [armLoss_of_armed h]
      exact .trans (.of_same (by simp [imageShut]) (by simp [imageShut])) (prepMaybe_armingKept _)
    obtain ⟨stored, chans, armed⟩ := ended.trans shut
    exact ⟨void.stored.trans stored, chans.trans void.chans, armed⟩

theorem trickleStatus_of_unit {g page : Nat} {u : ProgUnit} {s : State}
    (hfind : s.nand.units.find? (fun u => u.target == g && u.page == page) = some u) :
    trickleStatus g page true s = { s with nand := { s.nand with units := s.nand.units.erase u } } ∧
      trickleStatus g page false s = trickleFails g page s := by
  simp [trickleStatus, hfind]

theorem trickleFails_ends (g page : Nat) (s : State) : (trickleFails g page s).nand.armed = false ∧
    (trickleFails g page s).arr.mem = s.arr.mem ∧
    (chanOf (trickleFails g page s) (g / 4)).progFail = satInc 0xFFFF (chanOf s (g / 4)).progFail := by
  obtain ⟨⟨mem, -, -⟩, chans, armed⟩ := armLoss_ends (progFailed g page s)
  refine ⟨armed, mem.trans (by simp), ?_⟩
  rw [trickleFails, chanOf, chans, ← chanOf, progFailed_progFail]

/-! A target that does not report (R254, R278). -/

theorem targetTimeout_of_off {g : Nat} {s : State} (h : tgtOn s g = false) : targetTimeout g s = s := if_pos (by simp [h])

/-- Target g is out, and it is reported. -/
def targetLate (g : Nat) (u : ProgUnit) (s : State) : State :=
  tally 0x2E 3 (BitVec.ofNat 32 (g + u.page % 2 ^ 24 * 256)) (modTgt g (fun x => { x with out := true }) s)

/-- A lane whose last target is out is out. -/
def lastTarget (g : Nat) (s : State) : State := if tc s (g / 4) = 0 then laneGone (g / 4) s else s

theorem targetTimeout_of_late {g : Nat} {u : ProgUnit} {us : List ProgUnit} {s : State} (hon : tgtOn s g = true)
    (hwriting : writing s = true) (hlate : lateUnits g s = u :: us) :
    targetTimeout g s = lastTarget g ((unitsOn s g).foldl (fun s u => voidUnit u s) (targetLate g u s)) := by
  rw [targetTimeout, if_neg (by simp [hon]), if_pos hwriting, hlate]
  rfl

theorem targetTimeout_of_return {g : Nat} {s : State} (hon : tgtOn s g = true) (hstate : s.top.state = .ret ∨ s.top.state = .early)
    (hidle : s.dram.active = false) : targetTimeout g s = targetGone g 0 s := by
  have notWriting : ¬ writing s = true := by
    rcases hstate with h | h <;> simp [writing, h]
  rw [targetTimeout, if_neg (by simp [hon]), if_neg notWriting, if_neg (by simp [hidle])]
  exact if_pos (by simpa using hstate)

theorem lastTarget_leaves (g k : Nat) (s : State) : UnitsMove s (lastTarget g s) ∧
    (unitsOn (lastTarget g s) k).Sublist (unitsOn s k) := by
  unfold lastTarget
  split
  · exact ⟨laneGone_unitsMove _ s, laneGone_unitsOn _ s k⟩
  · exact ⟨.refl s, List.Sublist.refl _⟩

theorem foldl_voidUnit_unitsMove (us : List ProgUnit) (s : State) : UnitsMove s (us.foldl (fun s u => voidUnit u s) s) :=
  .foldl (fun s u => (voidUnit_unitsMove u s).1) us s

theorem targetTimeout_leaves {g : Nat} {s : State} (hon : tgtOn s g = true) (hwriting : writing s = true) (hlate : lateUnits g s ≠ []) :
    let t := targetTimeout g s
    (tgtOf t g).out = true ∧ unitsOn t g = [] ∧ t.arr = s.arr ∧ t.conf = s.conf := by
  obtain ⟨u, us, hlate⟩ := List.exists_cons_of_ne_nil hlate
  have out : (tgtOf (targetLate g u s) g).out = true :=
    (tally_unitsMove _ _ _ _).out g (congrArg Target.out (modTgt_tgtOf _ _ _))
  have units : unitsOn (targetLate g u s) g = unitsOn s g := (tally_given _ _ _ _).unitsOn g
  have none := foldl_voidUnit_unitsOn (unitsOn s g) (targetLate g u s) out (by rw [units])
  have voided := foldl_voidUnit_unitsMove (unitsOn s g) (targetLate g u s)
  obtain ⟨last, left⟩ := lastTarget_leaves g g ((unitsOn s g).foldl (fun s u => voidUnit u s) (targetLate g u s))
  rw [none, List.sublist_nil] at left
  intro t
  have ht : t = _ := targetTimeout_of_late hon hwriting hlate
  have whole := voided.trans last
  rw [ht]
  exact ⟨whole.out g out, left, whole.arr.trans (by simp [targetLate]), whole.conf.trans (by simp [targetLate])⟩

/-! Cells that Return loses (R126, R277, R278). -/

/-- A lost run is added: the return set's cells and all but Return's lists stay. -/
structure LostAdded (s t : State) : Prop where
  conf : t.conf = s.conf
  adm : t.adm = s.adm
  nand : t.nand = s.nand
  arr : t.arr = s.arr
  cells : t.ret.cells = s.ret.cells
  flight : t.ret.flight = s.ret.flight
  more : s.ret.lost.length ≤ t.ret.lost.length

theorem recordLost_added (r : CellRun) (cause id : Nat) (s : State) : LostAdded s (recordLost r cause id s) := by
  obtain ⟨conf, adm, -, -, -, nand, ret, arr, -⟩ := injectMany_blocks 6 4 s
  have cells := congrArg RetB.cells ret
  have flight := congrArg RetB.flight ret
  have lost := congrArg RetB.lost ret
  unfold recordLost
  extract_lets j x s1
  split
  · exact ⟨conf, adm, nand, arr, cells, flight, by simp [← lost, s1, j]⟩
  · split
    · exact ⟨conf, adm, nand, arr, cells, flight, Nat.le_of_eq (congrArg _ lost.symm)⟩
    · exact ⟨conf, adm, nand, arr, cells, flight, Nat.le_of_eq (congrArg _ lost.symm)⟩

/-- Cell c's record says that it is lost, and its run is added. -/
def lossRecorded (c : Nat) (x : RCell) (s : State) : State :=
  recordLost ⟨c, 1, x.tenant, false⟩ 1 x.combId (modCell c (fun y => { y with status := 3 }) s)

theorem lossRecorded_added (c : Nat) (x : RCell) (s : State) :
    LostAdded (modCell c (fun y => { y with status := 3 }) s) (lossRecorded c x s) := recordLost_added _ _ _ _

theorem markLost_of_rec {c : Nat} {x : RCell} {s : State} (hrec : cellRec s c = some x) : markLost c s =
    refresh (mapWrites c 1 (undirty c 0 (postUnsol x.tenant 0x85 0 0 (BitVec.ofNat 32 c) 1 (lossRecorded c x s)))) := by
  rw [markLost, hrec]
  rfl

theorem markLost_others (c : Nat) (s : State) : let t := markLost c s
    t.conf = s.conf ∧ t.nand = s.nand ∧ t.arr = s.arr := by
  cases hrec : cellRec s c with
  | none =>
    rw [markLost, hrec]
    exact ⟨rfl, rfl, rfl⟩
  | some x =>
    obtain ⟨conf, -, nand, arr, -⟩ := lossRecorded_added c x s
    rw [markLost_of_rec hrec]
    simp [conf, nand, arr]

theorem loseCell_others (c : Nat) (s : State) : let t := loseCell c s
    t.conf = s.conf ∧ t.nand = s.nand ∧ t.arr = s.arr := by
  obtain ⟨conf, nand, arr⟩ := markLost_others c s
  simp [loseCell, conf, nand, arr]

theorem settleLanes_others (s : State) : let t := settleLanes s
    t.conf = s.conf ∧ t.nand = s.nand ∧ t.arr = s.arr := by
  have kept : ∀ (cs : List Nat) (t : State), let u := cs.foldl (fun s c => loseCell c s) t
      u.conf = t.conf ∧ u.nand = t.nand ∧ u.arr = t.arr := fun cs t =>
    ⟨foldl_proj _ (·.conf) (fun u c => (loseCell_others c u).1) cs t, foldl_proj _ (·.nand) (fun u c => (loseCell_others c u).2.1) cs t,
      foldl_proj _ (·.arr) (fun u c => (loseCell_others c u).2.2) cs t⟩
  unfold settleLanes
  split
  · exact kept _ s
  · exact ⟨rfl, rfl, rfl⟩

theorem harvest_of_writing {s : State} (h : writing s = true) : s.top.state = .harvest := by
  simp only [writing, Bool.and_eq_true, decide_eq_true_eq] at h
  obtain ⟨⟨state, -⟩, -⟩ := h
  exact state

theorem settleLanes_of_state {s : State} (h : s.top.state ≠ .ret) (hearly : s.top.state ≠ .early) : settleLanes s = s :=
  if_neg (by simp [h, hearly])

theorem settleRewrites_of_nil {s : State} (h : s.nand.rewrites = []) : settleRewrites s = s := by
  rw [settleRewrites, h, List.filter_nil, ← h]

end Sys2Proof.Machine

namespace Sys2Proof

open Machine

/-- Settles O43: units that are made, void or written again keep the failures counted and the targets that are out; a lane whose stripes
are used up is out; a target that is out takes no unit. -/
theorem harvestSaves : Obligations.HarvestSaves := by
  unfold Obligations.HarvestSaves
  refine ⟨fun l c cs s hcells hwriting hmoved hpages => ?_, fun l s h => ?_,
    fun g page u s hwriting hseal hfind => ⟨fun hpage => ?_, ?_⟩,
    fun g page e s hwriting hseal hwait he hmore => ?_, fun g page u s hguard hfind => ⟨?_, ?_⟩, fun g s hon hwriting hlate => ?_,
    fun g s hon hstate hidle => ?_, fun g s hoff hrewrites hret hearly => ?_⟩
  · obtain ⟨arr, conf, -⟩ := cellSaved_unitsMove l s
    refine ⟨_, exec_cellSaved l s, conf, arr, by simp, fun hout => ?_⟩
    obtain ⟨nibbles, cells, saved⟩ := cellSaved_saves hcells hwriting hmoved hpages hout
    exact ⟨by rw [nibbles, if_pos rfl], fun d hd => by rw [nibbles, if_neg hd], cells, saved⟩
  · rw [exec_cellSaved, cellSaved_of_none h]
  · refine ⟨_, exec_nandProgramStatus g page true s, ?_⟩
    rw [programStatus_of_unit hwriting hseal, unitStatus_of_pass hfind hpage]
    exact ⟨rfl, rfl, rfl, rfl, rfl, rfl⟩
  · refine ⟨_, exec_nandProgramStatus g page false s, ?_⟩
    rw [programStatus_of_unit hwriting hseal]
    exact unitStatus_fails hfind
  · rw [exec_nandProgramStatus, programStatus_of_sealPage hwriting hseal hwait he hmore]
  · obtain ⟨pass, -⟩ := trickleStatus_of_unit hfind
    rw [exec_nandProgramStatus, programStatus_of_guard hguard, pass]
  · obtain ⟨-, fail⟩ := trickleStatus_of_unit hfind
    obtain ⟨armed, mem, count⟩ := trickleFails_ends g page s
    refine ⟨_, exec_nandProgramStatus g page false s, ?_⟩
    rw [programStatus_of_guard hguard, fail]
    exact ⟨armed, by simp, mem, count⟩
  · obtain ⟨out, units, arr, conf⟩ := targetTimeout_leaves hon hwriting hlate
    have harvest := harvest_of_writing hwriting
    refine ⟨_, exec_targetTimeout g s, ?_⟩
    rw [settleLanes_of_state (by simp [harvest]) (by simp [harvest])]
    refine ⟨out, fun u hu htarget => ?_, by simp [arr], by simp [conf]⟩
    have on : u ∈ unitsOn (targetTimeout g s) g := List.mem_filter.2 ⟨hu, beq_iff_eq.2 htarget⟩
    simp [units] at on
  · obtain ⟨moved, out⟩ := targetGone_unitsMove g 0 s
    obtain ⟨conf, nand, arr⟩ := settleLanes_others (settleRewrites (targetGone g 0 s))
    refine ⟨_, exec_targetTimeout g s, ?_⟩
    rw [targetTimeout_of_return hon hstate hidle, conf, arr, tgtOf, nand]
    exact ⟨out, moved.arr, moved.conf⟩
  · rw [exec_targetTimeout, targetTimeout_of_off hoff, settleRewrites_of_nil hrewrites, settleLanes_of_state hret hearly]

end Sys2Proof
end

section
/-! PROOFS. Return's pages and cells: accepted and damaged pages, restored and lost cells, and the END words (chapters 6 and 12, R126,
R277, R278, R285). -/

namespace Sys2Proof.Machine

theorem exec_restorePageRead (p : PageRead) (s : State) : exec (.restorePageRead p) s = .next (pageRead p s) := rfl
theorem exec_cellRestored (l : Nat) (s : State) : exec (.cellRestored l) s = .next (cellRestored l s) := rfl
theorem exec_endWordRetry (okA okB : Bool) (s : State) : exec (.endWordRetry okA okB) s = .next (endRetry okA okB s) := rfl

/-! The records of the return set. -/

theorem find?_modCell (c : Nat) (f : RCell → RCell) : ∀ cells : List (Nat × RCell),
    ((cells.map fun p => if p.1 == c then (p.1, f p.2) else p).find? fun p => p.1 == c).map (·.2) =
      ((cells.find? fun p => p.1 == c).map (·.2)).map f
  | [] => rfl
  | p :: cells => by
    rw [List.map_cons]
    by_cases h : p.1 = c
    · simp [h]
    · rw [if_neg (by simpa using h), List.find?_cons_of_neg (by simpa using h), List.find?_cons_of_neg (by simpa using h),
        find?_modCell c f cells]

theorem cellRec_modCell (c : Nat) (f : RCell → RCell) (s : State) : cellRec (modCell c f s) c = (cellRec s c).map f :=
  find?_modCell c f s.ret.cells

theorem cellRec_congr {s t : State} (h : t.ret.cells = s.ret.cells) (c : Nat) : cellRec t c = cellRec s c := by
  rw [cellRec, h, cellRec]

/-! A resolved cell (R279, R283) leaves the flight, and the answers it brings leave the return set as it is. -/

/-- The return set, its flight and its losses stay. -/
structure ReturnSetKept (s t : State) : Prop where
  cells : t.ret.cells = s.ret.cells
  flight : t.ret.flight = s.ret.flight
  lost : t.ret.lost = s.ret.lost

theorem ReturnSetKept.of_ret {s t : State} (h : t.ret = s.ret) : ReturnSetKept s t := ⟨by rw [h], by rw [h], by rw [h]⟩

theorem ReturnSetKept.trans {s t u : State} (h : ReturnSetKept s t) (k : ReturnSetKept t u) : ReturnSetKept s u :=
  ⟨k.cells.trans h.cells, k.flight.trans h.flight, k.lost.trans h.lost⟩

theorem answerServed_keepsReturnSet (r : Nat) (s : State) : ReturnSetKept s (answerServed r s) := by
  have waits : (ringsWait r s).ret = s.ret := by simp
  unfold answerServed
  split
  · split
    · split
      · exact ⟨by simp, by simp, by simp⟩
      · exact .of_ret waits
    · exact ⟨rfl, rfl, rfl⟩
  · exact ⟨rfl, rfl, rfl⟩

theorem foldl_answerServed_keepsReturnSet : ∀ (ds : List Demand) (s : State),
    ReturnSetKept s (ds.foldl (fun s d => answerServed d.ring s) s)
  | [], _ => ⟨rfl, rfl, rfl⟩
  | d :: ds, s => (answerServed_keepsReturnSet d.ring s).trans (foldl_answerServed_keepsReturnSet ds _)

theorem criticalCheck_keepsReturnSet (s : State) : ReturnSetKept s (criticalCheck s) := by
  unfold criticalCheck
  split
  · extract_lets ret s1
    split
    · exact ⟨by simp [s1, ret], by simp [s1, ret], by simp [s1, ret]⟩
    · exact ⟨by simp [s1, ret], by simp [s1, ret], by simp [s1, ret]⟩
  · exact ⟨rfl, rfl, rfl⟩

theorem resolved_returnSet (c : Nat) (s : State) : (resolved c s).ret.cells = s.ret.cells ∧
    (resolved c s).ret.flight = removeNat c s.ret.flight ∧ (resolved c s).ret.lost = s.ret.lost := by
  unfold resolved
  extract_lets ret s1 s2
  obtain ⟨cells, flight, lost⟩ :=
    (foldl_answerServed_keepsReturnSet (s1.ret.demands.filter served) s1).trans (criticalCheck_keepsReturnSet _)
  exact ⟨cells, flight, lost⟩

theorem not_mem_flight_resolved (c : Nat) (s : State) : c ∉ (resolved c s).ret.flight := by
  obtain ⟨-, flight, -⟩ := resolved_returnSet c s
  rw [flight]
  simp [removeNat]

/-! A lost cell is CLEAN (R126, R277). -/

section
variable {c : Nat} {x : RCell} {s : State} (hrec : cellRec s c = some x)
include hrec

theorem markLost_nibble (b : Nat) : nibble (markLost c s) b = if b = c then 4 * cellGen s c else nibble s b := by
  have told : ∀ d, nibble (postUnsol x.tenant 0x85 0 0 (BitVec.ofNat 32 c) 1 (lossRecorded c x s)) d = nibble s d := fun d =>
    nibble_congr (by simp [(lossRecorded_added c x s).adm]) d
  rw [markLost_of_rec hrec]
  generalize postUnsol _ _ _ _ _ _ _ = u at told
  obtain ⟨-, map, -⟩ := refresh_adm (mapWrites c 1 (undirty c 0 u))
  rw [nibble_congr map, mapWrites_nibble, undirty_nibble, cellGen, told, told, ← cellGen]

theorem markLost_returnSet : cellRec (markLost c s) c = some { x with status := 3 } ∧
    s.ret.lost.length ≤ (markLost c s).ret.lost.length := by
  have added := lossRecorded_added c x s
  have ret : (markLost c s).ret = (lossRecorded c x s).ret := by
    rw [markLost_of_rec hrec]
    simp
  refine ⟨?_, by rw [ret]; exact added.more⟩
  rw [cellRec_congr (s := modCell c (fun y => { y with status := 3 }) s) (by rw [ret, added.cells]), cellRec_modCell, hrec]
  rfl

end

/-! A page that has been read (R277). -/

/-- The page stands for its quarter. -/
def pageAccepted (p : PageRead) : Bool := p.unc == 0 && decide (p.retries ≤ 8) && p.footerOk && p.chainOk

/-- The page joins its cell's accepted or rejected ones. -/
def pageJoins (p : PageRead) (y : RCell) : RCell :=
  if pageAccepted p then { y with acc := insertNat p.quarter y.acc } else { y with bad := y.bad ++ [p.quarter] }

/-- Cell c is in flight. -/
def putInFlight (c : Nat) (s : State) : State :=
  { s with ret := { s.ret with flight := if s.ret.flight.contains c then s.ret.flight else s.ret.flight ++ [c] } }

/-- The page's codewords count on its lane. -/
def codewordsCounted (p : PageRead) (s : State) : State :=
  modChan p.lane (fun c => { c with cwCorr := min 0xFFFF (c.cwCorr + p.corr), cwUnc := min 0xFFFF (c.cwUnc + p.unc) }) s

/-- A page that contradicts its lane's sealed tail is reported. -/
def tailTold (p : PageRead) (s : State) : State :=
  if p.tailBad then tally 0x30 3 (BitVec.ofNat 32 p.lane) { s with ret := { s.ret with tailErr := true } } else s

/-- A page has been read, whatever comes of its cell. -/
def pageTaken (p : PageRead) (s : State) : State :=
  tailTold p (codewordsCounted p (modCell p.cell (pageJoins p) (putInFlight p.cell s)))

/-- No copy of the page's quarter is left. -/
def noCopyLeft (p : PageRead) (x : RCell) : Bool :=
  !pageAccepted p && !x.acc.contains p.quarter && decide (quarterN p.quarter x.occ ≤ quarterN p.quarter x.bad + 1)

/-- The page's cell is damaged: it is lost. -/
def pageDamages (p : PageRead) (s : State) : State :=
  resolved p.cell (tally 0x30 2 (BitVec.ofNat 32 p.cell) (markLost p.cell s))

/-- What a page that has been read leaves. -/
structure PageTaken (p : PageRead) (x : RCell) (s t : State) : Prop where
  arr : t.arr = s.arr
  conf : t.conf = s.conf
  adm : t.adm = s.adm
  cwCorr : (chanOf t p.lane).cwCorr = min 0xFFFF ((chanOf s p.lane).cwCorr + p.corr)
  cwUnc : (chanOf t p.lane).cwUnc = min 0xFFFF ((chanOf s p.lane).cwUnc + p.unc)
  record : cellRec t p.cell = some (pageJoins p x)
  flight : p.cell ∈ t.ret.flight
  lost : t.ret.lost = s.ret.lost

theorem tailTold_others (p : PageRead) (s : State) : let t := tailTold p s
    t.arr = s.arr ∧ t.conf = s.conf ∧ t.adm = s.adm ∧ t.nand = s.nand ∧ t.ret.cells = s.ret.cells ∧ t.ret.flight = s.ret.flight ∧
      t.ret.lost = s.ret.lost := by
  unfold tailTold
  split <;> simp

theorem mem_flight_putInFlight (c : Nat) (s : State) : c ∈ (putInFlight c s).ret.flight := by
  show c ∈ if s.ret.flight.contains c then s.ret.flight else s.ret.flight ++ [c]
  split
  next h => exact List.contains_iff_mem.1 h
  next => simp

theorem pageTaken_taken {p : PageRead} {x : RCell} {s : State} (hrec : cellRec s p.cell = some x) :
    PageTaken p x s (pageTaken p s) := by
  obtain ⟨arr, conf, adm, nand, cells, flight, lost⟩ :=
    tailTold_others p (codewordsCounted p (modCell p.cell (pageJoins p) (putInFlight p.cell s)))
  have chan : chanOf (pageTaken p s) p.lane = { chanOf s p.lane with
      cwCorr := min 0xFFFF ((chanOf s p.lane).cwCorr + p.corr), cwUnc := min 0xFFFF ((chanOf s p.lane).cwUnc + p.unc) } := by
    rw [chanOf, pageTaken, nand, ← chanOf, codewordsCounted, modChan_chanOf]
    rfl
  refine ⟨arr, conf, adm, by rw [chan], by rw [chan], ?_, ?_, lost⟩
  · refine (cellRec_congr (s := modCell p.cell (pageJoins p) (putInFlight p.cell s)) cells p.cell).trans ?_
    rw [cellRec_modCell]
    exact congrArg (Option.map (pageJoins p)) hrec
  · rw [pageTaken, flight]
    exact mem_flight_putInFlight p.cell s

section
variable {p : PageRead} {x : RCell} {s : State} (hrec : cellRec s p.cell = some x) (hrestoring : restoring s = true)
  (hlane : x.lane = p.lane) (hstatus : x.status = 1) (hread : mayRead s p.lane p.cell = true)
include hrec hrestoring hlane hstatus hread

theorem pageRead_of_read : pageRead p s = if noCopyLeft p x then pageDamages p (pageTaken p s) else pageTaken p s := by
  rw [pageRead, hrec]
  exact if_pos (by simp [hrestoring, hlane, hstatus, hread])

/-- What a page read in place leaves, with its cell damaged or not. -/
theorem pageRead_leaves : (pageRead p s).arr = s.arr ∧ (pageRead p s).conf = s.conf ∧
    (∀ c, c ≠ p.cell → nibble (pageRead p s) c = nibble s c) ∧
    (chanOf (pageRead p s) p.lane).cwCorr = min 0xFFFF ((chanOf s p.lane).cwCorr + p.corr) ∧
    (chanOf (pageRead p s) p.lane).cwUnc = min 0xFFFF ((chanOf s p.lane).cwUnc + p.unc) := by
  have taken := pageTaken_taken hrec
  obtain ⟨conf, nand, arr⟩ := markLost_others p.cell (pageTaken p s)
  rw [pageRead_of_read hrec hrestoring hlane hstatus hread]
  split
  · have damaged : (pageDamages p (pageTaken p s)).nand = (pageTaken p s).nand := by simp [pageDamages, nand]
    refine ⟨by simp [pageDamages, arr, taken.arr], by simp [pageDamages, conf, taken.conf], fun c hc => ?_, ?_, ?_⟩
    · rw [pageDamages, nibble_congr (s := markLost p.cell (pageTaken p s)) (by simp), markLost_nibble taken.record, if_neg hc,
        nibble_congr (s := s) (by rw [taken.adm])]
    · rw [chanOf, damaged, ← chanOf, taken.cwCorr]
    · rw [chanOf, damaged, ← chanOf, taken.cwUnc]
  · exact ⟨taken.arr, taken.conf, fun c _ => nibble_congr (by rw [taken.adm]) c, taken.cwCorr, taken.cwUnc⟩

theorem pageRead_of_accepted (h : pageAccepted p = true) : nibble (pageRead p s) p.cell = nibble s p.cell ∧
    ∃ y, cellRec (pageRead p s) p.cell = some y ∧ p.quarter ∈ y.acc ∧ y.status = 1 ∧ p.cell ∈ (pageRead p s).ret.flight := by
  have taken := pageTaken_taken hrec
  have left : ¬ noCopyLeft p x = true := by simp [noCopyLeft, h]
  rw [pageRead_of_read hrec hrestoring hlane hstatus hread, if_neg left]
  refine ⟨nibble_congr (by rw [taken.adm]) _, _, taken.record, ?_, ?_, taken.flight⟩
  · simp [pageJoins, h]
  · simp [pageJoins, h, hstatus]

theorem pageRead_of_damaged (h : noCopyLeft p x = true) :
    ∃ y, cellRec (pageRead p s) p.cell = some y ∧ y.status = 3 ∧ p.cell ∉ (pageRead p s).ret.flight ∧
      cellState (pageRead p s) p.cell = 0 ∧ s.ret.lost.length ≤ (pageRead p s).ret.lost.length := by
  have taken := pageTaken_taken hrec
  obtain ⟨record, more⟩ := markLost_returnSet taken.record
  obtain ⟨cells, -, lost⟩ := resolved_returnSet p.cell (tally 0x30 2 (BitVec.ofNat 32 p.cell) (markLost p.cell (pageTaken p s)))
  rw [pageRead_of_read hrec hrestoring hlane hstatus hread, if_pos h]
  refine ⟨_, (cellRec_congr (s := markLost p.cell (pageTaken p s)) (cells.trans (by simp)) p.cell).trans record, rfl,
    not_mem_flight_resolved _ _, ?_, ?_⟩
  · rw [cellState, pageDamages, nibble_congr (s := markLost p.cell (pageTaken p s)) (by simp), markLost_nibble taken.record, if_pos rfl]
    omega
  · rw [pageDamages, lost]
    simpa [taken.lost] using more

end

theorem pageRead_of_idle {p : PageRead} {s : State} (h : cellRec s p.cell = none ∨ restoring s = false) : pageRead p s = s := by
  unfold pageRead
  split
  next x hrec =>
    refine if_neg fun hreads => ?_
    simp only [Bool.and_eq_true] at hreads
    obtain ⟨⟨⟨hrestoring, -⟩, -⟩, -⟩ := hreads
    rcases h with h | h
    · simp [hrec] at h
    · exact Bool.false_ne_true (h.symm.trans hrestoring)
  next => rfl

/-! A cell with its four quarters is restored (R126, R278). -/

/-- Whether a cell has its four quarters. -/
def wholeCell (s : State) (c : Nat) : Bool :=
  match cellRec s c with
  | some x => [0, 1, 2, 3].all fun q => x.acc.contains q
  | none => false

/-- Cell c's record says that it is restored. -/
def recordBack (c : Nat) (s : State) : State := modCell c (fun y => { y with status := 2 }) (injectUse 6 s).1

/-- Cell c is SAVED again and its tenant's count rises. -/
def cellBack (c : Nat) (x : RCell) (s : State) : State :=
  modTenant x.tenant (fun y => if s.top.phase = .critical then { y with restC := y.restC + 1 } else { y with restB := y.restB + 1 })
    (mapWrites c 1 (undirty c 3 (recordBack c s)))

theorem cellBack_nibble (c : Nat) (x : RCell) (s : State) (b : Nat) :
    nibble (cellBack c x s) b = if b = c then 3 + 4 * cellGen s c else nibble s b := by
  have same : ∀ d, nibble (recordBack c s) d = nibble s d := fun d => by
    rw [recordBack, injectUse_others]
    rfl
  have written : nibble (mapWrites c 1 (undirty c 3 (recordBack c s))) b =
      if b = c then 3 + 4 * cellGen s c else nibble s b := by
    rw [mapWrites_nibble, nibble_congr (undirty_writes _ _ _), writeCell_nibble, cellGen, same, same, ← cellGen]
  exact written

theorem cellBack_record {c : Nat} {x : RCell} {s : State} (hrec : cellRec s c = some x) :
    cellRec (cellBack c x s) c = some { x with status := 2 } := by
  have cells : (cellBack c x s).ret.cells = (recordBack c s).ret.cells := by
    simp [cellBack]
  rw [cellRec_congr cells, recordBack, cellRec_modCell, injectUse_others]
  exact congrArg (Option.map fun y => { y with status := 2 }) hrec

/-- The bytes that lanes have moved, after a cell. -/
def withMoved (moved : List (Nat × Nat)) (s : State) : State := { s with ret := { s.ret with moved := moved } }

theorem withMoved_ret (moved : List (Nat × Nat)) (s : State) :
    (withMoved moved s).ret.cells = s.ret.cells ∧ (withMoved moved s).ret.flight = s.ret.flight := ⟨rfl, rfl⟩

theorem cellRestored_of_whole {l c : Nat} {x : RCell} {s : State} (hfind : (laneFlight s l).find? (wholeCell s) = some c)
    (hrec : cellRec s c = some x) (hrestoring : restoring s = true) (hmoved : 65536 ≤ Sparse.get (fun _ => 0) s.ret.moved l) :
    ∃ moved, cellRestored l s = withMoved moved (resolved c (refresh (cellBack c x s))) := by
  have restores : (restoring s && decide (65536 ≤ Sparse.get (fun _ => 0) s.ret.moved l)) = true := by simp [hrestoring, hmoved]
  unfold cellRestored
  extract_lets full m
  split
  next d hd =>
    obtain rfl : d = c := Option.some.inj (hd.symm.trans hfind)
    rw [if_pos restores]
    split
    next y hy =>
      obtain rfl : y = x := Option.some.inj (hy.symm.trans hrec)
      extract_lets s1 s2 s3 more
      have back : s2 = cellBack d y s := rfl
      clear_value s2
      subst back
      exact ⟨_, rfl⟩
    next hnone => exact absurd (hnone.symm.trans hrec) nofun
  next hnone => exact absurd (hnone.symm.trans hfind) nofun

theorem cellRestored_of_idle {l : Nat} {s : State} (h : restoring s = false) : cellRestored l s = s := by
  unfold cellRestored
  extract_lets full m
  split
  · exact if_neg (by simp [h])
  · rfl

theorem refresh_ret (s : State) : (refresh s).ret = s.ret := by simp

theorem cellRestored_leaves {l c : Nat} {x : RCell} {s : State} (hfind : (laneFlight s l).find? (wholeCell s) = some c)
    (hrec : cellRec s c = some x) (hrestoring : restoring s = true) (hmoved : 65536 ≤ Sparse.get (fun _ => 0) s.ret.moved l) :
    (∀ d, nibble (cellRestored l s) d = if d = c then 3 + 4 * cellGen s c else nibble s d) ∧
      cellRec (cellRestored l s) c = some { x with status := 2 } ∧ c ∉ (cellRestored l s).ret.flight := by
  obtain ⟨moved, ht⟩ := cellRestored_of_whole hfind hrec hrestoring hmoved
  obtain ⟨cells, -, -⟩ := resolved_returnSet c (refresh (cellBack c x s))
  obtain ⟨-, map, -⟩ := refresh_adm (cellBack c x s)
  have adm : (cellRestored l s).adm = (refresh (cellBack c x s)).adm := by simp [ht, withMoved]
  obtain ⟨cells', flight⟩ := withMoved_ret moved (resolved c (refresh (cellBack c x s)))
  have kept : (cellRestored l s).ret.cells = (cellBack c x s).ret.cells := by
    rw [ht, cells', cells, refresh_ret]
  refine ⟨fun d => ?_, ?_, ?_⟩
  · rw [nibble_congr (s := cellBack c x s) (by rw [adm, map]), cellBack_nibble]
  · rw [cellRec_congr kept, cellBack_record hrec]
  · rw [ht, flight]
    exact not_mem_flight_resolved c _

/-! END words (R285). -/

/-- The entry of a Comb that Return ends. -/
def entryEnded (e : CatEntry) (s : State) : CatEntry := { e with ended := 1, endEpoch := s.fr.epoch }

/-- The END word in the banks whose programs succeed. -/
def endWritten (okA okB : Bool) (e : CatEntry) (s : State) : State :=
  let s1 := if okA then setWord (catOff e.slot 15 false / 8) (catWord (entryEnded e s) 15) s else s
  if okB then setWord (catOff e.slot 15 true / 8) (catWord (entryEnded e s) 15) s1 else s1

theorem endWord_banks (slot : Nat) : catOff slot 15 false / 8 ≠ catOff slot 15 true / 8 := by
  simp only [catOff, if_true, Bool.false_eq_true, if_false]
  omega

/-- Bank A's word, or bank B's where bank A's program failed, is the END word. -/
theorem endWritten_word {okA okB : Bool} (e : CatEntry) (s : State) (h : okA = true ∨ okB = true) :
    arrWord (endWritten okA okB e s) (catOff e.slot 15 (!okA) / 8) = catWord (entryEnded e s) 15 := by
  unfold endWritten
  cases okA with
  | false =>
    have inB : okB = true := h.resolve_left nofun
    rw [inB]
    exact (setWord_laws _ _ _).1
  | true =>
    cases okB with
    | false => exact (setWord_laws _ _ _).1
    | true => exact ((setWord_laws _ _ _).2.1 _ (endWord_banks e.slot)).trans (setWord_laws _ _ _).1

theorem endWritten_conf (okA okB : Bool) (e : CatEntry) (s : State) : (endWritten okA okB e s).conf = s.conf := by
  cases okA <;> cases okB <;> rfl

section
variable {okA okB : Bool} {id : Nat} {ids : List Nat} {e : CatEntry} {s : State} (hretry : s.ret.endRetry = some 0)
  (hleft : s.ret.endsLeft = id :: ids) (hfind : s.nand.catalog.find? (fun e => e.combId == id && e.ended == 0) = some e)
include hretry hleft hfind

theorem endRetry_of_written (h : okA = true ∨ okB = true) : ∃ retry,
    let u := endDone id (modEntry e.slot (fun _ => entryEnded e s) (endWritten okA okB e s))
    endRetry okA okB s = { u with ret := { u.ret with endRetry := retry } } := by
  have ok : (okA || okB) = true := by simpa using h
  unfold endRetry
  split
  next id' ids' _ hleft' =>
    obtain ⟨rfl, -⟩ : id' = id ∧ ids' = ids := by simpa using hleft'.symm.trans hleft
    split
    next e' he =>
      obtain rfl : e' = e := Option.some.inj (he.symm.trans hfind)
      rw [if_pos ok]
      exact ⟨_, rfl⟩
    next hnone => exact absurd (hnone.symm.trans hfind) nofun
  next hidle => exact absurd hleft (hidle _ _ hretry)

theorem endRetry_of_failed (hA : okA = false) (hB : okB = false) :
    endRetry okA okB s = tally 0x30 5 (BitVec.ofNat 32 id) { s with ret := { s.ret with endRetry := some 65536 } } := by
  subst hA hB
  simp [endRetry, hretry, hleft, hfind, endFails]

theorem endRetry_conf : (endRetry okA okB s).conf = s.conf := by
  by_cases h : okA = true ∨ okB = true
  · obtain ⟨retry, ht⟩ := endRetry_of_written hretry hleft hfind h
    rw [ht]
    exact endWritten_conf okA okB e s
  · simp only [not_or, Bool.not_eq_true] at h
    obtain ⟨hA, hB⟩ := h
    rw [endRetry_of_failed hretry hleft hfind hA hB]
    simp

end

theorem endRetry_of_idle {okA okB : Bool} {s : State} (h : s.ret.endRetry ≠ some 0) : endRetry okA okB s = s := by
  unfold endRetry
  split
  next hretry _ => exact absurd hretry h
  next => rfl

end Sys2Proof.Machine

namespace Sys2Proof

open Machine

/-- Settles O46: a page joins its cell's record and damages the cell when no copy is left; a whole cell is SAVED again; an END word that
is in place ends its Comb. -/
theorem returnRestores : Obligations.ReturnRestores := by
  unfold Obligations.ReturnRestores
  refine ⟨fun p x s hrec hrestoring hlane hstatus hread => ?_, fun p s h => ?_, fun l c x s hfind hrec hrestoring hmoved => ?_,
    fun l s h => ?_, fun okA okB id ids e s hretry hleft hfind => ?_, fun okA okB s h => ?_⟩
  · obtain ⟨arr, conf, others, corr, unc⟩ := pageRead_leaves hrec hrestoring hlane hstatus hread
    refine ⟨_, exec_restorePageRead p s, arr, conf, others, corr, unc, fun hunc hretries hfooter hchain => ?_,
      fun hbad hacc hcopies => ?_⟩
    · exact pageRead_of_accepted hrec hrestoring hlane hstatus hread (by simp [pageAccepted, hunc, hretries, hfooter, hchain])
    · have rejected : pageAccepted p = false := by
        rcases hbad with h | h | h | h <;> simp [pageAccepted, h]
      exact pageRead_of_damaged hrec hrestoring hlane hstatus hread (by simp [noCopyLeft, rejected, hacc, hcopies])
  · rw [exec_restorePageRead, pageRead_of_idle h]
  · have whole : (laneFlight s l).find? (wholeCell s) = some c := hfind
    obtain ⟨nibbles, record, flight⟩ := cellRestored_leaves whole hrec hrestoring hmoved
    exact ⟨_, exec_cellRestored l s, by rw [nibbles, if_pos rfl], fun d hd => by rw [nibbles, if_neg hd], ⟨_, record, rfl⟩, flight,
      by simp, by simp⟩
  · rw [exec_cellRestored, cellRestored_of_idle h]
  · refine ⟨_, exec_endWordRetry okA okB s, endRetry_conf hretry hleft hfind, fun h => ?_, fun hA hB => ?_⟩
    · obtain ⟨retry, ht⟩ := endRetry_of_written hretry hleft hfind h
      rw [ht]
      exact ⟨by simp [endDone, removeNat], endWritten_word e s h⟩
    · rw [endRetry_of_failed hretry hleft hfind hA hB]
      refine ⟨by simp, by simp, by simp, fun hp => ?_⟩
      obtain ⟨kind, -⟩ := tally_latest (src := 0x30) 5 (BitVec.ofNat 32 id)
        (s := { s with ret := { s.ret with endRetry := some 65536 } }) hp (by decide)
      exact kind
  · rw [exec_endWordRetry, endRetry_of_idle h]

end Sys2Proof
end

section
/-! PROOFS. Scout's samples: which steps leave the filters and the series of conversions alone, and what a VIN sample and a
multiplexed conversion move (07, R151, R156, R168). -/

namespace Sys2Proof.Machine

/-! What Scout has converted, and where its series stand. -/

/-- The filters with which are loaded, VIN's MIN, the places of the two counted series, and STORE_LOW. -/
structure Samples where
  filt : List (Nat × Dyadic)
  loaded : List Nat
  vinMin : Option Nat
  muxPos : Nat
  muxAlt : Bool
  dormCnt : Nat
  storeLow : Bool

def samplesOf (s : State) : Samples :=
  ⟨s.scout.filt, s.scout.loaded, s.scout.vinMin, s.scout.muxPos, s.scout.muxAlt, s.scout.dormCnt, s.scout.storeLow⟩

theorem samplesOf_of_scout {s t : State} (h : t.scout = s.scout) : samplesOf t = samplesOf s := by
  rw [samplesOf, h, samplesOf]

theorem filt_of_samples {s t : State} (h : samplesOf t = samplesOf s) (ch : Nat) : filt t ch = filt s ch := by
  have kept : t.scout.filt = s.scout.filt := congrArg Samples.filt h
  rw [filt, kept, filt]

theorem samplesOf_ite {c : Prop} [Decidable c] {a b : State} {m : Samples} (ha : samplesOf a = m) (hb : samplesOf b = m) :
    samplesOf (if c then a else b) = m := by
  split <;> assumption

/-! A report and a TAMPER leave the samples alone. -/

theorem Reports.samples {s t : State} (h : Reports s t) : samplesOf t = samplesOf s := by
  obtain ⟨-, -, -, scout, -⟩ := h
  rw [samplesOf, scout, samplesOf]

theorem tally_samples (src kind : Nat) (addr : Word) (s : State) : samplesOf (tally src kind addr s) = samplesOf s :=
  (tally_reports src kind addr s).samples

theorem setInt_samples (i : Nat) (s : State) : samplesOf (setInt i s) = samplesOf s := (setInt_reports i s).samples

theorem tripCause_samples (x : BitVec 8) (drive : Bool) (s : State) : samplesOf (tripCause x drive s) = samplesOf s :=
  (tripCause_reports x drive s).samples

/-- In Scout's block t differs from s at most in what the qualification of TAMPER and its outcome write (R359, R360). -/
def TamperOnly (s t : State) : Prop :=
  t.scout = { s.scout with
    tamperQ := t.scout.tamperQ, tamperSeen := t.scout.tamperSeen, qualAt := t.scout.qualAt, ovr := t.scout.ovr
    killMade := t.scout.killMade, tallyTrip := t.scout.tallyTrip, tripSeen := t.scout.tripSeen }

theorem TamperOnly.trans {s t u : State} (h : TamperOnly s t) (k : TamperOnly t u) : TamperOnly s u := by
  rw [TamperOnly] at *
  rw [k, h]

theorem TamperOnly.ite {c : Prop} [Decidable c] {s t u : State} (h : TamperOnly s t) (k : TamperOnly s u) :
    TamperOnly s (if c then t else u) := by split <;> assumption

theorem TamperOnly.of_scout {s t : State} (h : t.scout = s.scout) : TamperOnly s t := by
  rw [TamperOnly, h]

theorem Reports.tamperOnly {s t : State} (h : Reports s t) : TamperOnly s t := by
  obtain ⟨-, -, -, scout, -⟩ := h
  rw [TamperOnly, scout]

theorem closeLevel_tamperOnly (s : State) : TamperOnly s (closeLevel s) := by
  have cancelled : (cancelExchange s).scout = s.scout := by simp
  exact (TamperOnly.of_scout cancelled).trans rfl

theorem kill_tamperOnly (s : State) : TamperOnly s (kill s) := by
  unfold kill
  split
  · exact .of_scout rfl
  · extract_lets s1 e
    have closed : TamperOnly s s1 := .trans (.of_scout rfl) (closeLevel_tamperOnly (clearKeys s))
    clear_value s1
    exact (closed.trans rfl).trans (tally_reports _ _ _ _).tamperOnly

theorem tamperQualify_tamperOnly (s : State) : TamperOnly s (tamperQualify s) := by
  unfold tamperQualify
  extract_lets acts _ _ s0 s1 s2 mark s3
  have marked : ∀ {t}, TamperOnly s t → TamperOnly s (mark t) := fun h => h.trans rfl
  have first : TamperOnly s s1 := .ite rfl rfl
  have told : TamperOnly s s2 := first.trans (tally_reports _ _ _ _).tamperOnly
  have tripped : TamperOnly s s3 := told.trans (tripCause_reports _ _ _).tamperOnly
  have killed : ∀ {t}, TamperOnly s t → TamperOnly s (kill t) := fun h => h.trans (kill_tamperOnly _)
  have closed : ∀ {t}, TamperOnly s t → TamperOnly s (closeLevel t) := fun h => h.trans (closeLevel_tamperOnly _)
  refine .ite told ?_
  split
  · exact killed told
  · exact killed told
  · exact killed told
  · exact marked (killed told)
  · exact .ite (killed told) (marked (killed told))
  · exact .ite (marked (killed tripped)) (.ite (marked (closed tripped)) (closed (told.trans rfl)))
  · exact .ite (marked (closed tripped)) (marked (killed tripped))

theorem TamperOnly.samples {s t : State} (h : TamperOnly s t) : samplesOf t = samplesOf s := by
  rw [TamperOnly] at h
  rw [samplesOf, h, samplesOf]

/-! The conditions on VIN and on the pins (R157 to R161, R388). -/

theorem bump_samples (i : Nat) (c : Bool) (s : State) : samplesOf (bump i c s) = samplesOf s := rfl

/-- Two counts of one condition, its qualification's and its clearing's. -/
theorem bump_bump_samples (i j : Nat) (c d : Bool) (s : State) : samplesOf (bump i c (bump j d s)) = samplesOf s :=
  (bump_samples i c (bump j d s)).trans (bump_samples j d s)

theorem vgoodStep_samples (s : State) : samplesOf (vgoodStep s) = samplesOf s := by
  unfold vgoodStep
  extract_lets g s1
  have counted : samplesOf s1 = samplesOf s := bump_samples _ _ s
  clear_value s1
  exact counted

theorem warnStep_samples (s : State) : samplesOf (warnStep s) = samplesOf s := by
  unfold warnStep
  extract_lets y s1
  have counted : samplesOf s1 = samplesOf s := bump_bump_samples _ _ _ _ s
  clear_value s1
  exact samplesOf_ite counted (samplesOf_ite counted counted)

theorem tripStep_samples (sns : Int) (low : Nat) (s : State) : samplesOf (tripStep sns low s) = samplesOf s := by
  unfold tripStep
  extract_lets y s1
  have counted : samplesOf s1 = samplesOf s := bump_bump_samples _ _ _ _ s
  clear_value s1
  refine samplesOf_ite ?_ (samplesOf_ite ?_ (samplesOf_ite counted counted))
  · exact (tripCause_samples _ _ _).trans counted
  · exact (tally_samples _ _ _ _).trans ((tripCause_samples _ _ _).trans counted)

theorem pretripStep_samples (s : State) : samplesOf (pretripStep s) = samplesOf s := by
  unfold pretripStep
  extract_lets ok s1 q
  have counted : samplesOf s1 = samplesOf s := bump_samples _ _ s
  clear_value s1
  exact counted

theorem pgStep_samples (pgHigh : Bool) (s : State) : samplesOf (pgStep pgHigh s) = samplesOf s := by
  unfold pgStep
  extract_lets y bad good n s1 armed _ s2 _ _ s3
  have counted : samplesOf s1 = samplesOf s := bump_bump_samples _ _ _ _ s
  clear_value s1
  have qualified : samplesOf s3 = samplesOf s := counted
  refine samplesOf_ite (samplesOf_ite (samplesOf_ite ?_ qualified) counted) (samplesOf_ite counted counted)
  exact (tripCause_samples _ _ s3).trans qualified

theorem wetStep_samples (high : Bool) (s : State) : samplesOf (wetStep high s) = samplesOf s := by
  unfold wetStep
  extract_lets h s1 _ s2 _ _ s3
  have counted : samplesOf s2 = samplesOf s := samplesOf_ite (bump_samples 7 h s) (bump_samples 7 h s)
  clear_value s2
  have qualified : samplesOf s3 = samplesOf s := counted
  exact samplesOf_ite rfl (samplesOf_ite (samplesOf_ite ((tripCause_samples _ _ s3).trans qualified) qualified) counted)

theorem tamperStep_samples (low : Bool) (s : State) : samplesOf (tamperStep low s) = samplesOf s := by
  unfold tamperStep
  extract_lets l s1 _ s2
  have counted : samplesOf s2 = samplesOf s := samplesOf_ite (bump_samples 8 l s) (bump_samples 8 l s)
  exact samplesOf_ite ((tamperQualify_tamperOnly s2).samples.trans counted) counted

theorem abortStep_samples (s : State) : samplesOf (abortStep s) = samplesOf s := samplesOf_ite rfl rfl

theorem lineStep_samples (low : Bool) (s : State) : samplesOf (lineStep low s) = samplesOf s := by
  unfold lineStep
  refine samplesOf_ite rfl ?_
  extract_lets highs lows handled armed w s1 s2
  refine samplesOf_ite ?_ rfl
  rw [tally_samples, setInt_samples, tripCause_samples]
  rfl

theorem driveStep_samples (s : State) : samplesOf (driveStep s) = samplesOf s := samplesOf_ite rfl rfl

theorem markLevels_samples (s : State) : samplesOf (markLevels s) = samplesOf s := rfl

theorem rampAll_samples (s : State) : samplesOf (rampAll s) = samplesOf s := rfl

theorem raisedStep_samples (s : State) : samplesOf (raisedStep s) = samplesOf s := rfl

/-- Whatever a VIN sample concludes, its conversion is all that it converts. -/
theorem vinSample_samples (x : VinSample) {s : State} (h : s.top.state.runs = true ∨ s.scout.raised = true) :
    samplesOf (vinSample x s) = samplesOf (vinConvert x.vin s) := by
  unfold vinSample
  split
  next =>
    rw [rampAll_samples, markLevels_samples, driveStep_samples, abortStep_samples, lineStep_samples, tamperStep_samples,
      wetStep_samples, pgStep_samples, pretripStep_samples, tripStep_samples, warnStep_samples, vgoodStep_samples]
  next hruns =>
    rw [if_pos (h.resolve_left hruns)]
    calc samplesOf (raisedStep (tamperStep x.tamperLow (wetStep x.wetHigh (vgoodStep (vinConvert x.vin s)))))
        = _ := by rw [raisedStep_samples, tamperStep_samples, wetStep_samples, vgoodStep_samples]

/-! A conversion passes through its own channel's filter (R156). -/

theorem convert_filt (ch a : Nat) (x : Int) (s : State) :
    filt (convert ch a x s) ch = if ch ∈ s.scout.loaded then dyFilter a (filt s ch) x else dy x := Sparse.get_put _ _ _ _

theorem convert_filt_ne {c ch : Nat} (a : Nat) (x : Int) (s : State) (h : c ≠ ch) : filt (convert ch a x s) c = filt s c :=
  Sparse.get_put_ne _ _ _ h

/-- The filtered VIN with which a conversion of VIN leaves its filter. -/
theorem vinConvert_filt (vin : Int) (s : State) : filt (vinConvert vin s) 0 =
    if 0 ∈ s.scout.loaded then dyFilter (vinIir s) (filt s 0) (rawOf s 0 vin) else dy (rawOf s 0 vin) :=
  convert_filt 0 (vinIir s) (rawOf s 0 vin) s

theorem vinConvert_filt_ne {ch : Nat} (vin : Int) (s : State) (h : ch ≠ 0) : filt (vinConvert vin s) ch = filt s ch :=
  convert_filt_ne (vinIir s) (rawOf s 0 vin) s h

theorem exec_scoutVinSample (x : VinSample) (s : State) : exec (.scoutVinSample x) s = .next (vinSample x s) := rfl

theorem vinSample_of_idle (x : VinSample) {s : State} (hruns : s.top.state.runs = false) (hraised : s.scout.raised = false) :
    vinSample x s = s := by
  simp [vinSample, hruns, hraised]

/-- Settles O16: a VIN sample leaves the samples as its conversion of VIN does. -/
theorem vinSampleFilters : Obligations.VinSampleFilters := by
  refine ⟨fun x s h => ⟨_, exec_scoutVinSample x s, ?_⟩, fun x s hruns hraised => ?_⟩
  · have samples := vinSample_samples x h
    have min : (vinSample x s).scout.vinMin = (vinConvert x.vin s).scout.vinMin := congrArg Samples.vinMin samples
    rw [filt_of_samples samples, min]
    refine ⟨vinConvert_filt x.vin s, fun ch hch => ?_, rfl, by simp [onlyReports]⟩
    rw [filt_of_samples samples, vinConvert_filt_ne x.vin s hch]
  · rw [exec_scoutVinSample, vinSample_of_idle x hruns hraised]

end Sys2Proof.Machine
end

section
/-! PROOFS. The multiplexed conversions: the place of the cycle and its channel's filter (07, R151, R156), and the Charge Governor's
conditions, which convert nothing (08, R178, R181). -/

namespace Sys2Proof.Machine

/-! The conditions on the multiplexed channels (R161). -/

/-- A thermistor's fault is a flag, no sample. -/
theorem thFault_samples (c : Prop) [Decidable c] (v : Bool) (s : State) :
    samplesOf (if c then { s with scout := { s.scout with th0Fault := v } } else { s with scout := { s.scout with th1Fault := v } }) =
      samplesOf s := samplesOf_ite rfl rfl

theorem thFaultStep_samples (i : Nat) (s : State) : samplesOf (thFaultStep i s) = samplesOf s := by
  unfold thFaultStep
  extract_lets y out s1 was setF
  have counted : samplesOf s1 = samplesOf s := bump_bump_samples _ _ _ _ s
  clear_value s1
  have flagged : ∀ v, samplesOf (setF v s1) = samplesOf s := fun v => (thFault_samples _ v s1).trans counted
  refine samplesOf_ite ?_ (samplesOf_ite (flagged false) counted)
  rw [tally_samples, setInt_samples]
  exact flagged true

theorem talarmStep_samples (i : Nat) (s : State) : samplesOf (talarmStep i s) = samplesOf s := by
  unfold talarmStep
  extract_lets k s1 cool _ s2 s3
  have counted : samplesOf s1 = samplesOf s := bump_bump_samples _ _ _ _ s
  clear_value s1
  have told : samplesOf s3 = samplesOf s := samplesOf_ite ((tally_samples _ _ _ s2).trans counted) counted
  exact samplesOf_ite (samplesOf_ite ((setInt_samples 13 s3).trans told) told) (samplesOf_ite counted counted)

theorem adcStep_samples (s : State) : samplesOf (adcStep s) = samplesOf s := by
  unfold adcStep
  extract_lets y s1
  have counted : samplesOf s1 = samplesOf s := bump_samples _ _ s
  clear_value s1
  refine samplesOf_ite ?_ counted
  rw [tally_samples, setInt_samples]
  exact counted

/-! A conversion of one channel. -/

/-- Of the samples, t differs from s at most in the filter of channel ch and in which filters are loaded. -/
structure ConvertsOnly (ch : Nat) (s t : State) : Prop where
  filt : ∀ c, c ≠ ch → filt t c = filt s c
  muxPos : t.scout.muxPos = s.scout.muxPos
  muxAlt : t.scout.muxAlt = s.scout.muxAlt
  dormCnt : t.scout.dormCnt = s.scout.dormCnt

theorem ConvertsOnly.refl (ch : Nat) (s : State) : ConvertsOnly ch s s := ⟨fun _ _ => rfl, rfl, rfl, rfl⟩

/-- What leaves the samples alone may follow. -/
theorem ConvertsOnly.then_samples {ch : Nat} {s t u : State} (h : ConvertsOnly ch s t) (k : samplesOf u = samplesOf t) :
    ConvertsOnly ch s u where
  filt c hc := (filt_of_samples k c).trans (h.filt c hc)
  muxPos := (congrArg Samples.muxPos k).trans h.muxPos
  muxAlt := (congrArg Samples.muxAlt k).trans h.muxAlt
  dormCnt := (congrArg Samples.dormCnt k).trans h.dormCnt

theorem convert_only (ch a : Nat) (x : Int) (s : State) : ConvertsOnly ch s (convert ch a x s) :=
  ⟨fun _ hc => convert_filt_ne a x s hc, rfl, rfl, rfl⟩

theorem vstConvert_only (x : Int) (s : State) : ConvertsOnly 1 s (vstConvert x s) :=
  ⟨fun _ hc => convert_filt_ne 3 (rawOf s 1 x) s hc, rfl, rfl, rfl⟩

theorem thFilter_only (i : Nat) (code : Int) (s : State) : ConvertsOnly (16 + i) s (thFilter i code s) := by
  unfold thFilter
  split
  · exact convert_only _ _ _ s
  · exact .refl _ s

theorem thConvert_only (i : Nat) (code : Int) (s : State) : ConvertsOnly (16 + i) s (thConvert i code s) := by
  unfold thConvert
  split
  · exact (thFilter_only i code s).then_samples ((talarmStep_samples i _).trans (thFaultStep_samples i _))
  · exact .refl _ s

/-- The cycle has moved on to its next place; position 19 alternates (R151). -/
def muxMoved (s : State) : State :=
  { s with scout := { s.scout with
      muxPos := if s.scout.muxPos = 19 then 0 else s.scout.muxPos + 1
      muxAlt := if s.scout.muxPos = 19 then !s.scout.muxAlt else s.scout.muxAlt } }

/-- The conversion of the channel at the place that the cycle leaves. -/
theorem muxConvert_only (raw : Int) (s : State) :
    ConvertsOnly (muxChannel (cellsN s) s.scout.muxPos s.scout.muxAlt) (muxMoved s) (muxConvert raw s).1 := by
  unfold muxConvert
  extract_lets ch last _ s1 s2
  change ConvertsOnly ch s1 s2
  clear_value s1 ch
  unfold s2
  split_ifs with vstore die th0 th1 ref
  · exact vstore ▸ vstConvert_only raw s1
  · exact die ▸ convert_only 15 4 _ s1
  · exact th0 ▸ thConvert_only 0 raw s1
  · exact th1 ▸ thConvert_only 1 raw s1
  · exact ref ▸ (convert_only 19 0 _ s1).then_samples (adcStep_samples _)
  · exact convert_only ch 3 _ s1

/-! What the Charge Governor concludes converts nothing (R178, R181, R183). -/

theorem fitSample_samples (ch : Nat) (raw : Int) (s : State) : samplesOf (fitSample ch raw s) = samplesOf s :=
  samplesOf_of_scout (by simp)

theorem chargerTrip_samples (kind v : Nat) (s : State) : samplesOf (chargerTrip kind v s) = samplesOf s := by
  rw [chargerTrip, tally_samples, setCharge, setInt_samples]
  rfl

theorem regrade_samples (s : State) : samplesOf (regrade s) = samplesOf s := by
  refine samplesOf_ite rfl ?_
  rw [tally_samples, setCharge, setInt_samples]
  rfl

theorem cellFails_samples (cell : Nat) (s : State) : samplesOf (cellFails cell s) = samplesOf s := by
  refine samplesOf_ite rfl ?_
  rw [regrade_samples, tally_samples, setCharge, setInt_samples]
  rfl

theorem ovStep_samples (s : State) : samplesOf (ovStep s) = samplesOf s := by
  unfold ovStep
  extract_lets y s1
  have counted : samplesOf s1 = samplesOf s := bump_samples _ _ s
  exact samplesOf_ite ((chargerTrip_samples _ _ _).trans counted) counted

theorem cellStep_samples (i : Nat) (s : State) : samplesOf (cellStep i s) = samplesOf s := by
  unfold cellStep
  extract_lets v short s1 _ s2 s3
  have counted : samplesOf s1 = samplesOf s := bump_bump_samples _ _ _ _ s
  clear_value s1
  have tested : samplesOf s3 = samplesOf s := samplesOf_ite ((chargerTrip_samples _ _ s2).trans counted) counted
  exact samplesOf_ite ((cellFails_samples _ s3).trans tested) tested

theorem ct0Step_samples (s : State) : samplesOf (ct0Step s) = samplesOf s := by
  unfold ct0Step
  extract_lets s1
  have counted : samplesOf s1 = samplesOf s := bump_samples _ _ s
  exact samplesOf_ite ((cellFails_samples _ s1).trans counted) counted

theorem topStep_samples (s : State) : samplesOf (topStep s) = samplesOf s := by
  unfold topStep
  extract_lets d v lim s1
  have counted : samplesOf s1 = samplesOf s := bump_samples _ _ s
  exact samplesOf_ite ((cellFails_samples _ s1).trans counted) counted

theorem muxStep_samples (raw : Int) {s : State} (h : s.top.state.runs = true) :
    samplesOf (muxStep raw s) = samplesOf (muxConvert raw s).1 := by
  unfold muxStep
  rw [if_pos h]
  extract_lets r s1 ch s2 s3 s4 s5
  have fitted : samplesOf s2 = samplesOf s1 := fitSample_samples _ _ s1
  have vstore : samplesOf s3 = samplesOf s1 := samplesOf_ite ((ovStep_samples s2).trans fitted) fitted
  have bottom : samplesOf s4 = samplesOf s1 := samplesOf_ite ((ct0Step_samples s3).trans vstore) vstore
  have cell : samplesOf s5 = samplesOf s1 := samplesOf_ite ((cellStep_samples _ s4).trans bottom) bottom
  exact samplesOf_ite (samplesOf_ite ((topStep_samples s5).trans cell) cell) rfl

/-! SCOUT_MUX_CONVERSION. -/

theorem exec_scoutMuxConversion (raw : Int) (s : State) : exec (.scoutMuxConversion raw) s = .next (muxStep raw s) := rfl

theorem muxStep_only (raw : Int) {s : State} (h : s.top.state.runs = true) :
    ConvertsOnly (muxChannel (cellsN s) s.scout.muxPos s.scout.muxAlt) (muxMoved s) (muxStep raw s) :=
  (muxConvert_only raw s).then_samples (muxStep_samples raw h)

theorem muxStep_of_idle (raw : Int) {s : State} (h : s.top.state.runs = false) : muxStep raw s = s := if_neg (by simp [h])

/-- Settles O17: the cycle moves on, and of the filters only that of the channel at the place it leaves. -/
theorem muxConversionCycles : Obligations.MuxConversionCycles := by
  refine ⟨fun raw s h => ⟨_, exec_scoutMuxConversion raw s, ?_⟩, fun raw s h => by rw [exec_scoutMuxConversion, muxStep_of_idle raw h]⟩
  obtain ⟨filt, muxPos, muxAlt, -⟩ := muxStep_only raw h
  exact ⟨muxPos, muxAlt, filt, by simp [onlyReports]⟩

end Sys2Proof.Machine
end

section
/-! PROOFS. The slow samples of HOLD and DORMANT, and the DORMANT overlay's records that come into force when the store is low (02,
R23, R36; 07, R152, R153, R161). -/

namespace Sys2Proof.Machine

/-! Slow conversions other than VIN's leave VIN's filter alone (R152, R153). -/

theorem ConvertsOnly.vin {ch : Nat} {s t : State} (h : ConvertsOnly ch s t) (hch : 0 ≠ ch) :
    Machine.filt t 0 = Machine.filt s 0 := h.filt 0 hch

theorem tempsConvert_vin (x : SlowSample) (s : State) :
    filt (tempsConvert x s) 0 = filt s 0 ∧ (tempsConvert x s).scout.dormCnt = s.scout.dormCnt := by
  have die := convert_only 15 4 (rawOf s 15 x.die) s
  have th0 := thFilter_only 0 x.th0 (convert 15 4 (rawOf s 15 x.die) s)
  have th1 := thFilter_only 1 x.th1 (thFilter 0 x.th0 (convert 15 4 (rawOf s 15 x.die) s))
  refine ⟨?_, th1.dormCnt.trans (th0.dormCnt.trans die.dormCnt)⟩
  exact (th1.vin (by decide)).trans ((th0.vin (by decide)).trans (die.vin (by decide)))

theorem storeLowStep_filt (s : State) (ch : Nat) : filt (storeLowStep s) ch = filt s ch := by
  unfold storeLowStep
  extract_lets v s1
  have counted : filt s1 ch = filt s ch := filt_of_samples (bump_bump_samples _ _ _ _ s) ch
  clear_value s1
  split_ifs <;> exact counted

theorem raiseStep_samples (s : State) : samplesOf (raiseStep s) = samplesOf s := by
  unfold raiseStep
  extract_lets s1
  have counted : samplesOf s1 = samplesOf s := bump_samples 9 false s
  clear_value s1
  exact samplesOf_ite counted rfl

/-- A low-rate sample leaves the samples as its conversion of VIN does. -/
theorem lowSample_samples (x : SlowSample) (s : State) : samplesOf (lowSample x s) = samplesOf (vinConvert x.vin s) := by
  rw [lowSample, raiseStep_samples, tamperStep_samples, wetStep_samples]

/-! HOLD's conversions (R152). -/

theorem holdConvert_vin (x : SlowSample) (s : State) : filt (holdConvert x s) 0 =
    if s.scout.raised then filt s 0
    else if 0 ∈ s.scout.loaded then dyFilter (vinIir s) (filt s 0) (rawOf s 0 x.vin) else dy (rawOf s 0 x.vin) := by
  unfold holdConvert
  extract_lets t s1 s3 _ s2 s3' _ s4
  have vin : filt s1 0 = if s.scout.raised then filt s 0 else filt (vinConvert x.vin s) 0 := by
    unfold s1
    split
    · rfl
    · exact filt_of_samples (lowSample_samples x s) 0
  clear_value s1
  have store : filt s2 0 = filt s1 0 := by
    unfold s2
    split
    · exact (storeLowStep_filt (vstConvert x.vstore s1) 0).trans ((vstConvert_only x.vstore s1).vin (by decide))
    · rfl
  clear_value s2
  have temps : filt s4 0 = filt s2 0 := by
    unfold s4
    split
    · exact (tempsConvert_vin x s2).1
    · rfl
  clear_value s4
  rw [← vinConvert_filt, ← vin, ← store, ← temps]
  split <;> rfl

/-! The DORMANT overlay's records convert nothing and leave STORE_LOW (R36, R38, R92). -/

theorem samplesOf_foldl {β : Type} {f : State → β → State} (h : ∀ s x, samplesOf (f s x) = samplesOf s) (l : List β) (s : State) :
    samplesOf (l.foldl f s) = samplesOf s := foldl_proj f samplesOf h l s

theorem reject_samples (off tid : Nat) (s : State) : samplesOf (reject off tid s) = samplesOf s := by
  rw [reject, tally_samples, setInt_samples]
  rfl

theorem refresh_samples (s : State) : samplesOf (refresh s) = samplesOf s := (refresh_reports s).samples

theorem readyCheck_samples (s : State) : samplesOf (readyCheck s) = samplesOf s := (readyCheck_reports s).samples

/-- An update of other blocks, its values abstract, so that no comparison of states computes them. -/
theorem samplesOf_conf (c : Conf) (s : State) : samplesOf { s with conf := c } = samplesOf s := rfl

theorem samplesOf_dram_nand (d : DramB) (n : NandB) (s : State) : samplesOf { s with dram := d, nand := n } = samplesOf s := rfl

theorem trickledCleared_samples (l : List Nat) (s : State) :
    samplesOf (l.foldl (fun s t => modTenant t (fun x => { x with trickled := 0 }) s) s) = samplesOf s :=
  samplesOf_foldl (fun _ _ => samplesOf_of_scout (modTenant_scout _ _ _)) l s

theorem trickleGo_samples (s : State) : samplesOf (trickleGo s) = samplesOf s := by
  unfold trickleGo
  extract_lets sum s1
  have counted : samplesOf s1 = samplesOf s := trickledCleared_samples _ s
  exact samplesOf_ite ((refresh_samples _).trans ((samplesOf_dram_nand _ _ s1).trans counted)) (reject_samples _ _ s)

theorem endPass_samples (cut : Bool) (s : State) : samplesOf (endPass cut s) = samplesOf s := by
  unfold endPass
  extract_lets ts s1
  have told : samplesOf s1 = samplesOf s := samplesOf_foldl (fun t k => (postUnsol_reports _ _ _ _ _ _ t).samples) ts s
  clear_value s1
  exact samplesOf_ite told rfl

theorem trainFails_samples (s : State) : samplesOf (trainFails s) = samplesOf s := tally_samples 0x28 3 _ _

theorem trainStart_samples (s : State) : samplesOf (trainStart s) = samplesOf s :=
  samplesOf_ite (reject_samples _ _ s) (samplesOf_ite rfl (trainFails_samples s))

/-- The effects of a committed word's bits that are no fields: a ring's reset, a sticky bit, and DDRMR's commands. -/
theorem wordEffects_samples (tid idx w : Nat) (data mask : Word) (s : State) :
    samplesOf (wordEffects tid idx w data mask s) = samplesOf s := by
  unfold wordEffects
  extract_lets hit s1 _ s2
  have asked : samplesOf (askReset idx s) = samplesOf s := samplesOf_of_scout (by simp [askReset])
  have went : samplesOf s1 = samplesOf s := samplesOf_ite (trickleGo_samples s) rfl
  have cleared : samplesOf s2 = samplesOf s := samplesOf_ite rfl rfl
  clear_value s1 s2
  refine samplesOf_ite (samplesOf_ite asked rfl) (samplesOf_ite (samplesOf_ite (samplesOf_of_scout (by simp)) rfl)
    (samplesOf_ite (samplesOf_ite ?trickle (samplesOf_ite (samplesOf_ite rfl rfl) (samplesOf_ite ?train (samplesOf_ite rfl rfl)))) rfl))
  case trickle => exact samplesOf_ite ((endPass_samples true s1).trans went) went
  case train => exact samplesOf_ite ((trainStart_samples s2).trans cleared) cleared

/-! A table word as written through TBL_DATA (R92, R322). -/

theorem storeWrite_samples (tid idx w : Nat) (be : ByteEn) (s : State) :
    samplesOf (storeWrite tid idx w be s).2 = samplesOf s := by
  unfold storeWrite
  extract_lets k s1
  split
  · rw [tally_samples, ueWriteSet, setInt_samples]
    rfl
  · have told : samplesOf s1 = samplesOf s := samplesOf_ite (tally_samples _ _ _ s) rfl
    exact (samplesOf_of_scout (storeMark_kept k s1).2.2).trans told

theorem putFields_samples (image : Bool) (idx : Nat) (ps : List Piece) (s : State) :
    samplesOf (ps.foldl (putField image idx) s) = samplesOf s := samplesOf_foldl (f := putField image idx) (fun _ _ => rfl) ps s

theorem commitEntry_samples (tid idx : Nat) (ws : List (Word × ByteEn)) (s : State) :
    samplesOf (commitEntry tid idx ws s) = samplesOf s := by
  unfold commitEntry
  extract_lets step r ps ok ok1 s1 s2 s3
  have stored : samplesOf r.2 = samplesOf s := by
    refine foldl_snd_proj step samplesOf (fun a x => ?_) _ _
    dsimp only [step]
    split
    · rfl
    · exact storeWrite_samples _ _ _ _ _
  clear_value r
  have fields : samplesOf s1 = samplesOf s := (putFields_samples _ _ _ _).trans stored
  have effects : samplesOf s2 = samplesOf s := (samplesOf_foldl (fun t x => wordEffects_samples _ _ _ _ _ t) r.1 s1).trans fields
  have checked : samplesOf s3 = samplesOf s := samplesOf_ite ((readyCheck_samples s2).trans effects) effects
  have staged : ∀ (t : State) (x : Nat × Word × Word), samplesOf (stageWord idx x.2.1 x.2.2 t) = samplesOf t := fun _ _ => rfl
  refine samplesOf_ite ((samplesOf_foldl staged r.1 r.2).trans stored) (samplesOf_ite ?_ checked)
  exact (reject_samples _ _ s3).trans checked

theorem tblAdvance_samples (s : State) : samplesOf (tblAdvance s) = samplesOf s := samplesOf_of_scout (by simp)

theorem stageData_samples (data : Word) (be : ByteEn) (s : State) : samplesOf (stageData data be s) = samplesOf s := by
  unfold stageData
  extract_lets h n latch bes s1
  exact samplesOf_ite (commitEntry_samples _ _ _ _) rfl

theorem applyTblData_samples (data : Word) (be : ByteEn) (s : State) : samplesOf (applyTblData data be s) = samplesOf s := by
  unfold applyTblData
  split
  · refine samplesOf_ite rfl (samplesOf_ite ?_ ?_)
    · exact (tblAdvance_samples _).trans (samplesOf_ite rfl (reject_samples _ _ s))
    · exact (tblAdvance_samples _).trans (stageData_samples _ _ s)
  · rfl

/-! Records and overlays (R36). -/

theorem writeSpecial_samples (off : Nat) (data mask : Word) (s : State) : samplesOf (writeSpecial off data mask s) = samplesOf s := by
  unfold writeSpecial
  extract_lets v be
  exact samplesOf_ite rfl (samplesOf_ite (applyTblData_samples v be s) (samplesOf_ite rfl (samplesOf_ite rfl rfl)))

theorem regHook_samples (off : Nat) (mask : Word) (s : State) : samplesOf (regHook off mask s) = samplesOf s :=
  samplesOf_of_scout (by unfold regHook; split_ifs <;> rfl)

theorem applyRec_samples (s : State) (r : ImgRec) : samplesOf (applyRec s r) = samplesOf s := by
  unfold applyRec
  extract_lets x s1
  have fields : samplesOf x.1 = samplesOf s := putFields_samples _ _ _ s
  clear_value x
  have marked : ∀ k, samplesOf (storeMark k x.1) = samplesOf s := fun k =>
    (samplesOf_of_scout (storeMark_kept k x.1).2.2).trans fields
  have written : samplesOf s1 = samplesOf s :=
    samplesOf_ite ((regHook_samples _ _ x.1).trans fields) ((wordEffects_samples _ _ _ _ _ _).trans (marked _))
  clear_value s1
  exact samplesOf_ite (writeSpecial_samples _ _ _ s) (samplesOf_ite ((reject_samples _ _ s1).trans written) written)

theorem revertRec_samples (s : State) (r : ImgRec) : samplesOf (revertRec s r) = samplesOf s := by
  unfold revertRec
  extract_lets k b m back _ s1
  have base : samplesOf s1 = samplesOf s := samplesOf_conf _ s
  refine samplesOf_ite (writeSpecial_samples _ _ _ s) (samplesOf_ite ?_ ?_)
  · exact (regHook_samples _ _ s1).trans base
  · exact (wordEffects_samples _ _ _ _ _ s1).trans base

theorem enterOverlay_samples (st : DevState) (s : State) : samplesOf (enterOverlay st s) = samplesOf s := by
  unfold enterOverlay
  split
  · extract_lets recs s1 s2
    have reverted : samplesOf s1 = samplesOf s := samplesOf_foldl revertRec_samples _ s
    have applied : samplesOf s2 = samplesOf s := (samplesOf_foldl applyRec_samples recs s1).trans reverted
    clear_value s2
    exact applied
  · rfl

theorem aonOverlay_samples (s : State) : samplesOf (aonOverlay s) = samplesOf s := enterOverlay_samples .dormant s

/-! HOLD_SAMPLE (R152, R161). -/

theorem holdSample_of_hold (x : SlowSample) {s : State} (hstate : s.top.state = .hold) (hbor : s.top.coreBor = false) :
    holdSample x s = if (holdConvert x s).scout.storeLow then aonOverlay (setState .dormant .none (holdConvert x s))
      else holdConvert x s := if_pos (by simp [hstate, hbor])

theorem holdSample_of_other (x : SlowSample) {s : State} (h : s.top.state ≠ .hold) : holdSample x s = s := if_neg (by simp [h])

/-- The overlay of a low store converts nothing: the samples are as the conversions leave them. -/
theorem holdSample_samples (x : SlowSample) {s : State} (hstate : s.top.state = .hold) (hbor : s.top.coreBor = false) :
    samplesOf (holdSample x s) = samplesOf (holdConvert x s) := by
  rw [holdSample_of_hold x hstate hbor]
  exact samplesOf_ite (aonOverlay_samples _) rfl

/-- The overlay of a low store applies to the configuration and to Scout alone. -/
theorem aonOverlay_frame (s : State) : aonOverlay s = { s with conf := (aonOverlay s).conf, scout := (aonOverlay s).scout } := rfl

theorem holdSample_leaves (x : SlowSample) {s : State} (hstate : s.top.state = .hold) (hbor : s.top.coreBor = false) :
    let t := holdSample x s
    t.top.state = (if t.scout.storeLow then .dormant else .hold) ∧ (t.scout.storeLow = false → t.conf = s.conf) ∧
      t.fr.epoch = s.fr.epoch ∧ t.arr = s.arr ∧ t.nand = s.nand ∧ t.adm = s.adm ∧ t.dram = s.dram ∧ t.store = s.store ∧
      t.pending = s.pending := by
  intro t
  have low : t.scout.storeLow = (holdConvert x s).scout.storeLow := congrArg Samples.storeLow (holdSample_samples x hstate hbor)
  have ht : t = _ := holdSample_of_hold x hstate hbor
  rw [low]
  cases hlow : (holdConvert x s).scout.storeLow with
  | true =>
    rw [ht, hlow, if_pos rfl, aonOverlay_frame]
    exact ⟨rfl, nofun, by simp [setState]⟩
  | false =>
    rw [ht, hlow, if_neg Bool.false_ne_true]
    simp [hstate]

/-! DORMANT_WAKEUP (R153). -/

theorem exec_dormantWakeup (x : SlowSample) (s : State) : exec (.dormantWakeup x) s = .next (dormantWakeup x s) := rfl

theorem dormantWakeup_of_other (x : SlowSample) {s : State} (h : s.top.state ≠ .dormant) : dormantWakeup x s = s :=
  if_neg (by simp [h])

/-- The wakeup has counted (R153). -/
def wakeCounted (s : State) : State := { s with scout := { s.scout with dormCnt := s.scout.dormCnt + 1 } }

theorem dormantWakeup_of_dormant (x : SlowSample) {s : State} (hstate : s.top.state = .dormant) (hship : s.top.ship = false)
    (hraised : s.scout.raised = false) : dormantWakeup x s =
      if (lowSample x (wakeCounted s)).scout.dormCnt % 8 = 0 then tempsConvert x (vstConvert x.vstore (lowSample x (wakeCounted s)))
      else lowSample x (wakeCounted s) := if_pos (by simp [hstate, hship, hraised])

/-- A wakeup counts and converts VIN; on every 8th one the store and the temperatures pass other filters. -/
theorem dormantWakeup_leaves (x : SlowSample) {s : State} (hstate : s.top.state = .dormant) (hship : s.top.ship = false)
    (hraised : s.scout.raised = false) :
    filt (dormantWakeup x s) 0 = filt (vinConvert x.vin (wakeCounted s)) 0 ∧
      (dormantWakeup x s).scout.dormCnt = s.scout.dormCnt + 1 := by
  have samples := lowSample_samples x (wakeCounted s)
  have vin : filt (lowSample x (wakeCounted s)) 0 = filt (vinConvert x.vin (wakeCounted s)) 0 := filt_of_samples samples 0
  have count : (lowSample x (wakeCounted s)).scout.dormCnt = s.scout.dormCnt + 1 := congrArg Samples.dormCnt samples
  rw [dormantWakeup_of_dormant x hstate hship hraised]
  generalize lowSample x (wakeCounted s) = u at *
  split
  · have store := vstConvert_only x.vstore u
    obtain ⟨temps, count'⟩ := tempsConvert_vin x (vstConvert x.vstore u)
    exact ⟨temps.trans ((store.vin (by decide)).trans vin), count'.trans (store.dormCnt.trans count)⟩
  · exact ⟨vin, count⟩

/-- Settles O18: HOLD's conversions decide its end, whose overlay converts nothing; DORMANT's begin with the low-rate sample. -/
theorem slowSamples : Obligations.SlowSamples := by
  refine ⟨fun x s hstate hbor => ⟨_, exec_holdSample x s, ?_⟩, fun x s hstate hship hraised => ⟨_, exec_dormantWakeup x s, ?_⟩,
    fun x s h => by rw [exec_holdSample, holdSample_of_other x h], fun x s h => by rw [exec_dormantWakeup, dormantWakeup_of_other x h]⟩
  · obtain ⟨state, others⟩ := holdSample_leaves x hstate hbor
    exact ⟨state, (filt_of_samples (holdSample_samples x hstate hbor) 0).trans (holdConvert_vin x s), others⟩
  · obtain ⟨vin, count⟩ := dormantWakeup_leaves x hstate hship hraised
    exact ⟨count, vin.trans (vinConvert_filt x.vin (wakeCounted s)), by simp [onlyReports]⟩

end Sys2Proof.Machine
end

section
/-! PROOFS. The tamper and wet latches (07, R161, R166; 16, R359). -/

namespace Sys2Proof.Machine

/-! TAMPER_EDGE_LATCH (R166). -/

theorem exec_tamperEdgeLatch (s : State) : exec .tamperEdgeLatch s = .next (edgeLatch s) := rfl

/-- A TAMPER that qualifies keeps the edge latched and the quiet time at its start. -/
theorem tamperQualify_edge (s : State) :
    (tamperQualify s).scout.edge = s.scout.edge ∧ (tamperQualify s).scout.tamHigh = s.scout.tamHigh := by
  have marks : TamperOnly s (tamperQualify s) := tamperQualify_tamperOnly s
  rw [TamperOnly] at marks
  rw [marks]
  exact ⟨rfl, rfl⟩

theorem edgeLatch_latches {s : State} (h : s.top.state ≠ .off) :
    (edgeLatch s).scout.edge = true ∧ (edgeLatch s).scout.tamHigh = 0 := by
  unfold edgeLatch
  rw [if_neg h]
  split
  · exact tamperQualify_edge _
  · exact ⟨rfl, rfl⟩

/-! TAMPER_CLEAR and WET_CLEAR (R161, R359). -/

theorem exec_tamperClear (s : State) : exec .tamperClear s = .next (tamperClear s) := rfl

theorem exec_wetClear (s : State) : exec .wetClear s = .next (wetClear s) := rfl

theorem wetClear_eq (s : State) : wetClear s = if s.scout.wetQ = true ∧ 32768 ≤ s.scout.wetLow ∧
    ¬(s.top.state = .dormant ∧ s.top.ship = true) then { s with scout := { s.scout with wetQ := false } } else s :=
  if_congr (by simp [and_assoc, imp_iff_not_or]) rfl rfl

/-- Settles O20: each latch by its own rule. -/
theorem tamperAndWetLatches : Obligations.TamperAndWetLatches := by
  refine ⟨fun s h => ⟨_, exec_tamperEdgeLatch s, ?_⟩, exec_tamperClear, fun s => by rw [exec_wetClear, wetClear_eq]⟩
  obtain ⟨edge, tamHigh⟩ := edgeLatch_latches h
  exact ⟨edge, tamHigh, by simp [onlyReports]⟩

end Sys2Proof.Machine
end

section
/-! PROOFS. The real-time clock: a tick with its TRIM, the oscillator's stop and a write of RTC_SEC (07, R169, R170; 08, R196). -/

namespace Sys2Proof.Machine

/-! RTC_TICK (R169, R170). -/

theorem exec_rtcTick (s : State) : exec .rtcTick s = .next (rtcAdvance s) := rfl

/-- Seconds and ticks of a count below 2^47 make up that count. -/
theorem secondsAndTicks {n : Nat} (h : n < 2 ^ 47) : (BitVec.ofNat 32 (n / 32768)).toNat * 32768 + n % 32768 = n := by
  have seconds : n / 32768 < 2 ^ 32 := by omega
  rw [BitVec.toNat_ofNat, Nat.mod_eq_of_lt seconds, Nat.div_add_mod']

/-- The tick is the last of 2^20, at which TRIM acts. -/
def trimDue (s : State) : Bool := s.scout.trimTicks + 1 = 2 ^ 20

/-- Ticks that wait to be dropped, this one the first of them. -/
def dropsWaiting (s : State) : Nat := s.scout.trimDrop + (if trimDue s then (-rtcTrim s).toNat else 0)

/-- What the tick adds to the count: nothing where it is dropped, else itself and a positive TRIM that is due. -/
def tickAdds (s : State) : Nat := if 0 < dropsWaiting s then 0 else 1 + (if trimDue s then (rtcTrim s).toNat else 0)

theorem rtcAdvance_counts {s : State} (h : s.top.state ≠ .off) : let t := rtcAdvance s
    t.scout.rtcSec.toNat * 32768 + t.scout.rtcTick = (s.scout.rtcSec.toNat * 32768 + s.scout.rtcTick + tickAdds s) % 2 ^ 47 ∧
      t.scout.freeTicks = s.scout.freeTicks + tickAdds s ∧ t.scout.trimDrop = dropsWaiting s - 1 ∧
      t.scout.trimTicks = (if trimDue s then 0 else s.scout.trimTicks + 1) ∧
      t = { s with sec := { s.sec with blow := t.sec.blow }, scout := t.scout } ∧ t.scout.filt = s.scout.filt := by
  intro t
  have count : (s.scout.rtcSec.toNat * 32768 + s.scout.rtcTick + tickAdds s) % 2 ^ 47 < 2 ^ 47 := Nat.mod_lt _ (by decide)
  have whole := secondsAndTicks count
  unfold t rtcAdvance
  rw [if_neg h]
  simpa only [tickAdds, dropsWaiting, trimDue, decide_eq_true_eq, and_true] using whole

/-! RTC_STOP and RTC_OSC_OK (R170). -/

theorem exec_rtcStop (s : State) : exec .rtcStop s = .next (rtcStops s) := rfl

theorem exec_rtcOscOk (s : State) : exec .rtcOscOk s = .next (rtcOsc s) := rfl

/-- The state that the stop's message finds. -/
def rtcStopped (s : State) : State := { s with scout := { s.scout with rtcStop := true, oscOk := false } }

theorem rtcStops_of_first {s : State} (h : s.top.state ≠ .off) (hosc : s.scout.oscOk = true) :
    rtcStops s = tally 0x22 1 s.scout.rtcSec (rtcStopped s) := if_pos (by simp [h, hosc])

theorem rtcStops_of_stopped {s : State} (h : s.scout.oscOk = false) : rtcStops s = s := if_neg (by simp [h])

theorem rtcOsc_of_on {s : State} (h : s.top.state ≠ .off) : rtcOsc s = { s with scout := { s.scout with oscOk := true } } := if_neg h

/-- The message leaves the clock as the stop left it, and tells it. -/
theorem rtcStops_leaves {s : State} (h : s.top.state ≠ .off) (hosc : s.scout.oscOk = true) : let t := rtcStops s
    t.scout.rtcStop = true ∧ t.scout.oscOk = false ∧ t.scout.rtcSec = s.scout.rtcSec ∧
      (powered s = true → (srcOf t 0x22).lastKind = 1) ∧ onlyReports s t := by
  intro t
  have ht : t = _ := rtcStops_of_first h hosc
  obtain ⟨-, -, -, scout, -⟩ := tally_reports 0x22 1 s.scout.rtcSec (rtcStopped s)
  have others : onlyReports s t := by simp [t, onlyReports]
  rw [ht] at others ⊢
  refine ⟨by rw [scout]; rfl, by rw [scout]; rfl, by rw [scout]; rfl, fun hp => ?_, others⟩
  obtain ⟨kind, -⟩ := tally_latest (src := 0x22) 1 s.scout.rtcSec (s := rtcStopped s) hp (by decide)
  exact kind

/-! RTC_SEC (R196). -/

theorem exec_rtcSecWrite (data : Word) (be : ByteEn) (s : State) :
    exec (.rtcSecWrite data be) s = .next (leave ⟨0x78, data, be⟩ (applyRtc data (beMask be)) s) := rfl

/-- Settles O21: a tick by its count, the stop by its message, and the write on the machine that it has left. -/
theorem realTimeClock : Obligations.RealTimeClock := by
  refine ⟨fun s h => ⟨_, exec_rtcTick s, ?_⟩, fun s h hosc => ⟨_, exec_rtcStop s, rtcStops_leaves h hosc⟩,
    fun s h => by rw [exec_rtcStop, rtcStops_of_stopped h], fun s h => by rw [exec_rtcOscOk, rtcOsc_of_on h], fun data be s hr ho => ?_⟩
  · obtain ⟨count, free, drop, ticks, others⟩ := rtcAdvance_counts h
    exact ⟨⟨count, free, drop, ticks⟩, others⟩
  · refine ⟨_, (exec_rtcSecWrite data be s).trans (congrArg Host.Outcome.next (leave_reaches _ _ s hr ho)), ?_⟩
    obtain ⟨post, waiting, hpop⟩ := popped_buffer s
    rw [hpop]
    exact ⟨rfl, rfl, rfl⟩

end Sys2Proof.Machine
end

section
/-! PROOFS. The Charge Governor's commands: the reserve's release, the requests of CHARGE_CTRL, the step test from RAMP to its result,
and the mark of a demand interval's end (08, R175, R178, R182, R183, R190, R193). -/

namespace Sys2Proof.Machine

/-! The reserve, a test that is due again and a demand interval's end (R183, R190, R193). -/

theorem exec_reserveRelease (s : State) : exec .reserveRelease s = .next (reserveRelease s) := rfl

theorem reserveRelease_eq (s : State) : reserveRelease s = if s.store.reserve = true ∧ 256 ≤ s.store.margin then
    { s with store := { s.store with reserve := false } } else s := if_congr (by simp) rfl rfl

theorem exec_stepTestDueAgain (s : State) : exec .stepTestDueAgain s = .next (testDueAgain s) := rfl

theorem testDueAgain_of_some {s : State} {e : Epoch} (h : s.store.test.againAt = some e) :
    testDueAgain s = if e.toNat ≤ s.fr.epoch.toNat then
      { s with store := { s.store with test := { s.store.test with due := true, againAt := none } } } else s := by
  rw [testDueAgain, h]

theorem exec_intervalEnd (s : State) : exec .intervalEnd s = .next (intervalEnd s) := rfl

theorem intervalEnd_eq (s : State) : intervalEnd s = if s.store.intOpen = true ∧ 0 < dintSec s ∧
    alignedIdx s s.scout.rtcSec ≠ alignedIdx s s.store.intStart then { s with store := { s.store with intMark := true } } else s :=
  if_congr (by simp [and_assoc]) rfl rfl

/-! STEP and REFCAP of CHARGE_CTRL (R41, R182). -/

theorem exec_chargeCtrlStep (be : ByteEn) {data : Word} (s : State) (h : data.getLsbD 24 = true) :
    exec (.chargeCtrlStep be data) s = .next (leave ⟨0x6C, data, be⟩ (applyCharge data (beMask be)) s) :=
  congrArg Host.Outcome.next (if_pos h)

theorem exec_chargeCtrlRefcap (be : ByteEn) {data : Word} (s : State) (h : data.getLsbD 25 = true) :
    exec (.chargeCtrlRefcap be data) s = .next (leave ⟨0x6C, data, be⟩ (applyCharge data (beMask be)) s) :=
  congrArg Host.Outcome.next (if_pos h)

/-- The fourth byte of a write, with STEP and REFCAP, is enabled or not as a whole. -/
theorem masked_requests {data : Word} {be : ByteEn} (h : be.getLsbD 3 = true) :
    (data &&& beMask be).getLsbD 24 = data.getLsbD 24 ∧ (data &&& beMask be).getLsbD 25 = data.getLsbD 25 := by
  have enabled : ∀ be : ByteEn, be.getLsbD 3 = true → (beMask be).getLsbD 24 = true ∧ (beMask be).getLsbD 25 = true := by decide
  obtain ⟨h24, h25⟩ := enabled be h
  simp [h24, h25]

/-- A request is taken unless a test or bleed runs; REFCAP in SERVICE alone (R182). -/
def requestTaken (refcap : Bool) (s : State) : Prop := testBusy s = false ∧ (refcap = true → s.top.state = .service)

/-- The RW fields of a CHARGE_CTRL write have taken their values. -/
def chargeFields (data mask : Word) (s : State) : State := (putPieces false 0 (piecesOf s 0 0 (0x6C / 4) data mask) s).1

section
variable {data mask : Word} {refcap : Bool} {s : State}
  (hstep : (data &&& mask).getLsbD 24 = !refcap) (href : (data &&& mask).getLsbD 25 = refcap)
include hstep href

/-- A taken request stands, whether or not an RW field is dropped beside it. -/
theorem applyCharge_store_of_taken (h : requestTaken refcap s) : (applyCharge data mask s).store = (testRequest refcap s).store := by
  obtain ⟨idle, service⟩ := h
  simp only [applyCharge, hstep, href]
  cases refcap with
  | false => simp [testRequest, idle]
  | true => simp [testRequest, idle, service rfl]

theorem applyCharge_of_dropped (h : ¬requestTaken refcap s) :
    applyCharge data mask s = reject 0x6C 0 (chargeFields data mask s) := by
  have refused : testBusy s = false → refcap = true ∧ s.top.state ≠ .service := by simpa [requestTaken] using h
  simp only [applyCharge, hstep, href]
  cases busy : testBusy s with
  | false =>
    obtain ⟨rfl, state⟩ := refused busy
    simp [chargeFields, state]
  | true => cases refcap <;> simp [chargeFields]

theorem applyCharge_marks_of_dropped (h : ¬requestTaken refcap s) : (applyCharge data mask s).store = s.store ∧
    (applyCharge data mask s).top.reject = true ∧ (applyCharge data mask s).top.lastRej = 0x6C := by
  rw [applyCharge_of_dropped hstep href h]
  exact ⟨by simp [chargeFields], reject_marks 0x6C 0 _⟩

end

/-- A request that its write brings to CHARGE_CTRL, on the machine that the write has left. -/
theorem chargeRequest_leaves {data : Word} {be : ByteEn} {refcap : Bool} {s : State} (hr : reaches ⟨0x6C, data, be⟩ s = true)
    (ho : oldest ⟨0x6C, data, be⟩ s = true) (hbe : be.getLsbD 3 = true) (hstep : data.getLsbD 24 = !refcap)
    (href : data.getLsbD 25 = refcap) : let t := leave ⟨0x6C, data, be⟩ (applyCharge data (beMask be)) s
    onlyReports s { t with conf := s.conf, store := s.store } ∧
      (requestTaken refcap s → t.store = (testRequest refcap s).store) ∧
      (¬requestTaken refcap s → t.store = s.store ∧ t.top.reject = true ∧ t.top.lastRej = 0x6C) := by
  intro t
  have ht : t = applyCharge data (beMask be) (popped s) := leave_reaches _ _ s hr ho
  obtain ⟨enabled24, enabled25⟩ := masked_requests (data := data) hbe
  have hstep' := enabled24.trans hstep
  have href' := enabled25.trans href
  have hstore : (popped s).store = s.store := by simp
  have same : requestTaken refcap (popped s) ↔ requestTaken refcap s := by simp [requestTaken, testBusy]
  rw [ht]
  refine ⟨by simp [onlyReports], fun taken => ?_, fun dropped => ?_⟩
  · rw [applyCharge_store_of_taken hstep' href' (same.mpr taken), testRequest, testRequest, hstore]
  · have marks := applyCharge_marks_of_dropped hstep' href' (mt same.mp dropped)
    rwa [hstore] at marks

/-! STEP_TEST_STEP (R175, R178). -/

theorem exec_stepTestStep (s : State) : exec .stepTestStep s = .next (stepTestStep s) := rfl

theorem stepTestStep_of_early {s : State} (h : s.store.test.stage ≠ 2 ∨ s.store.test.frames < 65536) : stepTestStep s = s :=
  if_neg fun ⟨stage, frames⟩ => h.elim (· stage) (Nat.not_lt.mpr frames)

/-- RAMP's current flows where the charger may run and VSTORE is below VFULL. -/
def rampMay (s : State) : Bool := mayCharge s && dyLt (pubd s 1) (Int.ofNat (vfull s))

theorem stepTestStep_of_due {s : State} (hstage : s.store.test.stage = 2) (hframes : 65536 ≤ s.store.test.frames) :
    stepTestStep s = { s with store := { s.store with
      duty := if rampMay s then 32000 else 0
      chgEn := rampMay s
      test := { s.store.test with stage := 3, base := s.store.test.fits, fits := [], ts := s.store.test.k } } } :=
  if_pos ⟨hstage, hframes⟩

/-! A result in whole units (log entry 18). -/

theorem le_roundFree {n : Nat} {q : ℚ} (h : (n : ℚ) ≤ q) : n ≤ roundFree q := by
  have floor : (n : Int) ≤ q.floor := Rat.le_floor_iff.mpr (by exact_mod_cast h)
  unfold roundFree
  split_ifs <;> omega

theorem roundFree_le {n : Nat} {q : ℚ} (h : q ≤ (n : ℚ)) : roundFree q ≤ n := by
  have below : (q.floor : ℚ) ≤ q := Rat.floor_le q
  have floor : q.floor ≤ (n : Int) := by exact_mod_cast below.trans h
  have fraction : q.den ≠ 1 → q.floor < (n : Int) := fun hden => by
    have strict : q ≠ (n : ℚ) := fun whole => hden (by rw [whole, Rat.den_natCast])
    exact_mod_cast below.trans_lt (lt_of_le_of_ne h strict)
  unfold roundFree
  split_ifs with hden
  · omega
  · have := fraction hden
    omega
  · omega

/-! What a report on the health of the store leaves of it and of INT_STAT (R181, R186, R197). -/

theorem logEv_keepsStampAndInts (type : Nat) (x : BitVec 8) (a : BitVec 16) (b : Word) (s : State) :
    KeepsStampAndInts s (logEv type x a b s) := by
  unfold logEv
  extract_lets s1
  have logged : KeepsStampAndInts s s1 := logRec_keepsStampAndInts type x a b s
  refine .ite ((logged.trans (.of_eq ?_ ?_)).trans (tally_keepsStampAndInts _ _ _ _)) logged <;> rfl

/-- t's store is s's but for the grade and CELL_FAIL, and t has every INT_STAT bit that s has. -/
structure HealthOnly (s t : State) : Prop where
  store : t.store = { s.store with grade := t.store.grade, cellFail := t.store.cellFail }
  ints : KeepsStampAndInts s t

theorem HealthOnly.refl (s : State) : HealthOnly s s := ⟨rfl, .refl s⟩

theorem HealthOnly.trans {s t u : State} (h : HealthOnly s t) (k : HealthOnly t u) : HealthOnly s u :=
  ⟨by rw [k.store, h.store], h.ints.trans k.ints⟩

/-- A change of the store's health is told by INT_STAT.CHARGE and a message. -/
theorem healthTold {s t : State} (kind : Nat) (addr : Word)
    (h : t.store = { s.store with grade := t.store.grade, cellFail := t.store.cellFail }) (hints : KeepsStampAndInts s t) :
    HealthOnly s (tally 0x1A kind addr (setCharge t)) where
  store := by simpa using h
  ints := (hints.trans (setInt_keepsStampAndInts 11 t)).trans (tally_keepsStampAndInts _ _ _ _)

theorem regrade_healthOnly (s : State) : HealthOnly s (regrade s) := by
  unfold regrade
  extract_lets g
  split
  · exact .refl s
  · exact healthTold 3 _ rfl (.of_eq rfl rfl)

theorem cellFails_healthOnly (cell : Nat) (s : State) : HealthOnly s (cellFails cell s) := by
  unfold cellFails
  split
  · exact .refl s
  · refine HealthOnly.trans ?_ (regrade_healthOnly _)
    exact healthTold 1 _ rfl (.of_eq rfl rfl)

/-! STEP_TEST_RESULT (R181, R183, R186, R197). -/

theorem exec_stepTestResult (s : State) : exec .stepTestResult s = .next (stepTestResult s) := rfl

theorem stepTestResult_of_early {s : State} (h : s.store.test.stage ≠ 3 ∨ s.store.test.frames < 1114368) : stepTestResult s = s :=
  if_neg fun ⟨stage, frames⟩ => h.elim (· stage) (Nat.not_lt.mpr frames)

/-- The state that the message of an invalid test finds: the next try is 2^24 frames later. -/
def testFailed (s : State) : State :=
  { s with store := { s.store with
      testFail := true
      test := { due := false, refcap := s.store.test.refcap, againAt := some (s.fr.epoch + 0x1000000) } } }

theorem testInvalid_of_running {s : State} (h : 2 ≤ s.store.test.stage) :
    testInvalid s = tally 0x1A 2 0 (setCharge (testFailed s)) := if_pos h

/-- A valid test's C in 0.01 F and ESR_25 in 0.1 mΩ are in force. -/
def testPassed (c e25 : Nat) (s : State) : State :=
  { s with store := { s.store with
      cValid := true
      cMeas := c
      esr25 := e25
      nvEsr25 := some e25
      nvEsrRef := if s.store.test.refcap then e25 else s.store.nvEsrRef
      testFail := false
      test := {} } }

/-- They are kept in the array, and told by INT_STAT.CHARGE and a record. -/
def passReported (c e25 : Nat) (s : State) : State :=
  logEv 4 (BitVec.ofNat 8 (1 + 2 * b2n s.store.test.refcap)) (BitVec.ofNat 16 (min 0xFFFF c)) (BitVec.ofNat 32 e25)
    (setCharge (esrKeep s.store.test.refcap e25 (testPassed c e25 s)))

/-- C lies within R183's bounds, in units of 0.01 F. -/
def cInBounds (s : State) (c : Nat) : Prop := ratedC s / 4 ≤ c ∧ c ≤ 2 * ratedC s

theorem cInBounds_roundFree {s : State} {q : ℚ} (hlow : (ratedC s : ℚ) / 4 ≤ q) (hhigh : q ≤ 2 * (ratedC s : ℚ)) :
    cInBounds s (roundFree q) :=
  ⟨le_roundFree (Nat.cast_div_le.trans (by exact_mod_cast hlow)), roundFree_le (by exact_mod_cast hhigh)⟩

/-- A test that has run its time is invalid, or reports a C within the bounds and then what it says of the store's health. -/
theorem stepTestResult_cases {s : State} (hstage : s.store.test.stage = 3) (hframes : 1114368 ≤ s.store.test.frames) :
    stepTestResult s = testInvalid s ∨
      ∃ c e25, cInBounds s c ∧ HealthOnly (passReported c e25 s) (stepTestResult s) ∧
        (stepTestResult s).arr = (passReported c e25 s).arr := by
  unfold stepTestResult
  rw [if_pos ⟨hstage, hframes⟩]
  extract_lets i v c e rated ok n esr mean bad cw e25 st s1 s2
  by_cases hok : ok = true
  · right
    rw [if_pos hok]
    have bounds : cInBounds s cw := by
      simp only [ok, Bool.and_eq_true, decide_eq_true_eq] at hok
      obtain ⟨⟨⟨⟨-, low⟩, high⟩, -⟩, -⟩ := hok
      exact cInBounds_roundFree low high
    refine ⟨cw, e25, bounds, ?_⟩
    change HealthOnly s2 _ ∧ _ = s2.arr
    clear_value s2
    cases bad with
    | none => exact ⟨regrade_healthOnly s2, by simp⟩
    | some k => exact ⟨(cellFails_healthOnly k s2).trans (regrade_healthOnly _), by simp⟩
  · exact .inl (if_neg hok)

theorem passReported_store (c e25 : Nat) (s : State) : (passReported c e25 s).store = (testPassed c e25 s).store := by
  simp [passReported]

theorem passReported_sameStored (c e25 : Nat) (s : State) : SameStored s (passReported c e25 s) := by
  have kept : SameStored (testPassed c e25 s) (esrKeep s.store.test.refcap e25 (testPassed c e25 s)) := by
    unfold esrKeep
    extract_lets s1
    have first : SameStored (testPassed c e25 s) s1 := keepRecord_sameStored _ _ _ _ _ _
    split
    · exact first.trans (keepRecord_sameStored _ _ _ _ _ _)
    · exact first
  exact SameStored.trans (t := testPassed c e25 s) ⟨rfl, rfl, rfl⟩ (kept.trans (.of_arr (by simp [passReported])))

theorem passReported_intCharge (c e25 : Nat) {s : State} (hp : powered s = true) :
    (passReported c e25 s).host.intStat.getLsbD 11 = true := by
  have kept : powered (esrKeep s.store.test.refcap e25 (testPassed c e25 s)) = true := by
    simpa [powered, testPassed] using hp
  exact (logEv_keepsStampAndInts _ _ _ _ _).2 11 (setInt_sets (by decide) kept)

theorem testInvalid_intCharge {s : State} (hp : powered s = true) (h : 2 ≤ s.store.test.stage) :
    (testInvalid s).host.intStat.getLsbD 11 = true := by
  have failed : powered (testFailed s) = true := hp
  rw [testInvalid_of_running h]
  exact (tally_keepsStampAndInts _ _ _ _).2 11 (setInt_sets (by decide) failed)

theorem testInvalid_store {s : State} (h : 2 ≤ s.store.test.stage) : (testInvalid s).store = (testFailed s).store := by
  rw [testInvalid_of_running h]
  simp

theorem stepTestResult_leaves {s : State} (hp : powered s = true) (hstage : s.store.test.stage = 3)
    (hframes : 1114368 ≤ s.store.test.frames) : let t := stepTestResult s
    t.store.test.stage = 0 ∧ t.host.intStat.getLsbD 11 = true ∧
      ((t.store.cValid = true ∧ t.store.testFail = false ∧ t.store.nvEsr25 = some t.store.esr25 ∧
          ratedC s / 4 ≤ t.store.cMeas ∧ t.store.cMeas ≤ 2 * ratedC s) ∨
        (t.store.testFail = true ∧ t.store.test.againAt = some (s.fr.epoch + 0x1000000) ∧ t.store.cMeas = s.store.cMeas ∧
          t.arr = s.arr)) ∧ t.arr.mem = s.arr.mem ∧
      onlyReports s { t with store := s.store, arr := s.arr } := by
  intro t
  have others : onlyReports s { t with store := s.store, arr := s.arr } := by simp [t, onlyReports]
  rcases stepTestResult_cases hstage hframes with invalid | ⟨c, e25, ⟨low, high⟩, ⟨store, -, ints⟩, arr⟩
  · have running : 2 ≤ s.store.test.stage := by omega
    have ht : t = testInvalid s := invalid
    have arr : (testInvalid s).arr = s.arr := by simp
    rw [ht] at others ⊢
    rw [testInvalid_store running, arr]
    exact ⟨rfl, testInvalid_intCharge hp running, .inr ⟨rfl, rfl, rfl, rfl⟩, rfl, others⟩
  · obtain ⟨mem, -⟩ := passReported_sameStored c e25 s
    rw [passReported_store] at store
    refine ⟨?_, ints 11 (passReported_intCharge c e25 hp), .inl ?_, (congrArg ArrB.mem arr).trans mem, others⟩
    · rw [store]; rfl
    · rw [store]
      exact ⟨rfl, rfl, rfl, low, high⟩

/-- Settles O39: a request by what CHARGE_CTRL takes of it, a result by the two ends of its test, the others by their rules. -/
theorem chargeGovernor : Obligations.ChargeGovernor := by
  refine ⟨fun s => by rw [exec_reserveRelease, reserveRelease_eq], ?_, ?_,
    fun s hstage hframes => ⟨_, exec_stepTestStep s, ?_⟩,
    fun s h => by rw [exec_stepTestStep, stepTestStep_of_early h],
    fun s hp hstage hframes => ⟨_, exec_stepTestResult s, stepTestResult_leaves hp hstage hframes⟩,
    fun s h => by rw [exec_stepTestResult, stepTestResult_of_early h],
    fun s e h => by rw [exec_stepTestDueAgain, testDueAgain_of_some h], fun s => by rw [exec_intervalEnd, intervalEnd_eq]⟩
  · intro data be s e hr ho hbe hstep href
    obtain ⟨others, taken, dropped⟩ := chargeRequest_leaves (refcap := false) hr ho hbe hstep href
    refine ⟨_, exec_chargeCtrlStep be s hstep, others, fun idle => ?_, fun busy => dropped (by simp [requestTaken, busy])⟩
    simpa [testRequest] using taken ⟨idle, by simp⟩
  · intro data be s e hr ho hbe hstep href
    obtain ⟨others, taken, dropped⟩ := chargeRequest_leaves (refcap := true) hr ho hbe hstep href
    refine ⟨_, exec_chargeCtrlRefcap be s href, others, fun idle service => ?_, fun refused => dropped fun ⟨idle, service⟩ => ?_⟩
    · simpa [testRequest] using taken ⟨idle, fun _ => service⟩
    · exact refused.elim (by simp [idle]) (· (service rfl))
  · rw [stepTestStep_of_due hstage hframes]
    exact ⟨rfl, rfl, rfl, rfl, rfl, rfl⟩

end Sys2Proof.Machine
end

section
/-! PROOFS. DRAM ownership: the isolating switch, refreshes and ZQCS, a fall of OWN_GNT, and the address map (09, R200, R203 to R205,
R210, log entries 32 and 57). -/

namespace Sys2Proof.Machine

theorem exec_ownGntIsolate (tick : Nat) (s : State) : exec (.ownGntIsolate tick) s = .next (ownGntIsolate s) := rfl
theorem exec_forcedIsolation (s : State) : exec .forcedIsolation s = .next (forcedIsolation s) := rfl
theorem exec_refreshDue (rank : Nat) (s : State) : exec (.refreshDue rank) s = .next (refreshDue rank s) := rfl
theorem exec_zqcsDue (s : State) : exec .zqcsDue s = .next (zqcsDue s) := rfl
theorem exec_gntDrop (s : State) : exec .gntDrop s = .next (gntDrop s) := rfl

/-! The isolating switch (R203). -/

/-- H-ISOLATE has not opened the switches yet. -/
def isolationWaits (s : State) : Prop := s.top.state = .harvest ∧ s.top.phase = .hIsolate ∧ s.dram.iso = 0

theorem ownGntIsolate_of_inTime {s : State} (hwaits : isolationWaits s) (htime : s.dram.sinceT ≤ 3) : ownGntIsolate s =
    { s with dram := { s.dram with gnt := true, dswOeHigh := true, iso := 1, bus := s.dram.bus ++ [(none, .oe true)] } } := by
  obtain ⟨state, phase, iso⟩ := hwaits
  exact if_pos (by simp [state, phase, iso, htime])

theorem forcedIsolation_of_late {s : State} (hwaits : isolationWaits s) (hlate : 4 ≤ s.dram.sinceT) : forcedIsolation s =
    { s with dram := { s.dram with dswOeHigh := true, iso := 1, forced := true, bus := s.dram.bus ++ [(some 0, .oe true)] } } := by
  obtain ⟨state, phase, iso⟩ := hwaits
  exact if_pos (by simp [state, phase, iso, hlate])

theorem ownGntIsolate_of_late {s : State} (h : 4 ≤ s.dram.sinceT) : ownGntIsolate s = s :=
  if_neg (by simp only [Bool.and_eq_true, decide_eq_true_eq]; omega)

theorem forcedIsolation_of_inTime {s : State} (h : s.dram.sinceT ≤ 3) : forcedIsolation s = s :=
  if_neg (by simp only [Bool.and_eq_true, decide_eq_true_eq]; omega)

theorem isolation_of_not_waits {s : State} (h : s.top.phase ≠ .hIsolate ∨ s.dram.iso ≠ 0) :
    ownGntIsolate s = s ∧ forcedIsolation s = s := by
  rcases h with h | h <;> exact ⟨if_neg (by simp [h]), if_neg (by simp [h])⟩

/-! The command bus (R210). -/

/-- A command to each of at most 48 ranks takes one tick at either data rate (log entry 57). -/
theorem ddrSpend_oneTick {n : Nat} (hone : 1 ≤ n) (hfew : n ≤ 48) (s : State) : ddrSpend n s = spend 0 1 s := by
  have ticks : ceilDiv n (if speed3200 s && !s.dram.rate2400 then 64 else 48) = 1 := by
    unfold ceilDiv
    split <;> omega
  rw [ddrSpend, ticks]

theorem ranksN_bounds (s : State) : 1 ≤ ranksN s ∧ ranksN s ≤ 48 := by
  have : fld (geomW s) 0 2 < 2 ^ 2 := Nat.mod_lt _ (by decide)
  unfold ranksN
  omega

theorem spend_usedNow (res n : Nat) (s : State) : (acctOf (spend res n s) res).usedNow = (acctOf s res).usedNow + n := by
  rw [spend_acctOf]

theorem refreshing_iff (s : State) : refreshing s = true ↔ s.dram.owned = true ∧ s.dram.iso ≠ 2 := by simp [refreshing]

/-! The refresh of a rank (R208, R210). -/

/-- The refreshes that a rank still owes, and the half ticks since its latest interval ran out. -/
def owedOf (s : State) (rank : Nat) : Nat := Sparse.get (fun _ => 0) s.dram.debt rank
def sinceOf (s : State) (rank : Nat) : Int := Sparse.get (fun _ => 0) s.dram.refAcc rank

/-- What a rank owes after a postponed REFRESH: in a takeover's frame the inherited ones have all gone before it. -/
def owedLeft (rank : Nat) (s : State) : Nat := if s.dram.taken || s.dram.iso == 3 then 0 else owedOf s rank - 1

/-- A postponed REFRESH of a rank is commanded. -/
def owedServed (rank : Nat) (s : State) : State :=
  { s with dram := { s.dram with debt := Sparse.put (fun _ => 0) s.dram.debt rank (owedLeft rank s) } }

/-- The REFRESH of an interval that runs out in this frame is commanded. -/
def intervalServed (rank : Nat) (s : State) : State :=
  { s with dram := { s.dram with refAcc := Sparse.put (fun _ => 0) s.dram.refAcc rank (sinceOf s rank - refInterval s) } }

section
variable {rank : Nat} {s : State}

theorem refreshDue_of_refreshing (hup : refreshing s = true) (hrank : rank < ranksN s) : refreshDue rank s =
    if 0 < owedOf s rank then ddrSpend 1 (owedServed rank s)
    else if refInterval s ≤ sinceOf s rank + 200 then ddrSpend 1 (intervalServed rank s) else s :=
  if_pos (by simp [hup, hrank])

theorem refreshDue_of_owed (hup : refreshing s = true) (hrank : rank < ranksN s) (howed : 0 < owedOf s rank) :
    refreshDue rank s = spend 0 1 (owedServed rank s) := by
  rw [refreshDue_of_refreshing hup hrank, if_pos howed, ddrSpend_oneTick (by decide) (by decide)]

theorem refreshDue_of_expired (hup : refreshing s = true) (hrank : rank < ranksN s) (hnone : owedOf s rank = 0)
    (hdue : refInterval s ≤ sinceOf s rank + 200) : refreshDue rank s = spend 0 1 (intervalServed rank s) := by
  rw [refreshDue_of_refreshing hup hrank, if_neg (by omega), if_pos hdue, ddrSpend_oneTick (by decide) (by decide)]

theorem refreshDue_of_not_refreshing (h : refreshing s = false ∨ ranksN s ≤ rank) : refreshDue rank s = s :=
  if_neg (by rcases h with h | h <;> simp [h])

theorem refreshDue_of_early (hnone : owedOf s rank = 0) (hearly : sinceOf s rank + 200 < refInterval s) : refreshDue rank s = s := by
  by_cases h : refreshing s = true ∧ rank < ranksN s
  · obtain ⟨hup, hrank⟩ := h
    rw [refreshDue_of_refreshing hup hrank, if_neg (by omega), if_neg (by omega)]
  · exact if_neg (by simpa using h)

/-- A rank's REFRESH takes a tick of the command bus, and pays what the rank owes or else restarts its interval. -/
theorem refreshDue_leaves (hup : refreshing s = true) (hrank : rank < ranksN s)
    (hdue : 0 < owedOf s rank ∨ refInterval s ≤ sinceOf s rank + 200) : let t := refreshDue rank s
    (acctOf t 0).usedNow = (acctOf s 0).usedNow + 1 ∧
      (0 < owedOf s rank → owedOf t rank = (if s.dram.taken = true ∨ s.dram.iso = 3 then 0 else owedOf s rank - 1) ∧
        t.dram.refAcc = s.dram.refAcc) ∧
      (owedOf s rank = 0 → t.dram.debt = s.dram.debt ∧ sinceOf t rank = sinceOf s rank - refInterval s) ∧
      (∀ r, r ≠ rank → owedOf t r = owedOf s r) ∧
      t = { s with dram := { s.dram with debt := t.dram.debt, refAcc := t.dram.refAcc }, fr := { s.fr with acct := t.fr.acct } } := by
  intro t
  by_cases howed : 0 < owedOf s rank
  · have ht : t = spend 0 1 (owedServed rank s) := refreshDue_of_owed hup hrank howed
    rw [ht]
    refine ⟨spend_usedNow 0 1 _, fun _ => ⟨?_, rfl⟩, fun hnone => by omega, fun r hr => Sparse.get_put_ne _ _ _ hr, rfl⟩
    have paid : owedOf (spend 0 1 (owedServed rank s)) rank = owedLeft rank s := Sparse.get_put _ _ _ _
    simpa [owedLeft] using paid
  · have ht : t = spend 0 1 (intervalServed rank s) :=
      refreshDue_of_expired hup hrank (Nat.eq_zero_of_not_pos howed) (hdue.resolve_left howed)
    rw [ht]
    exact ⟨spend_usedNow 0 1 _, fun h => absurd h howed, fun _ => ⟨rfl, Sparse.get_put _ _ _ _⟩, fun _ _ => rfl, rfl⟩

end

/-! ZQCS (R210). -/

/-- Every rank has got its ZQCS. -/
def calibrated (s : State) : State := { s with dram := { s.dram with zqFrames := 0 } }

theorem zqcsDue_of_due {s : State} (hup : refreshing s = true) (hdue : 31999 ≤ s.dram.zqFrames) :
    zqcsDue s = spend 0 1 (calibrated s) := by
  obtain ⟨hone, hfew⟩ := ranksN_bounds s
  rw [← ddrSpend_oneTick hone hfew]
  exact if_pos (by simp [hup, hdue])

theorem zqcsDue_of_early {s : State} (h : s.dram.owned = false ∨ s.dram.zqFrames < 31999) : zqcsDue s = s :=
  if_neg (by rcases h with h | h <;> simp [refreshing, h])

/-! A fall of OWN_GNT (R204, R205). -/

/-- The sampled OWN_GNT is low. -/
def gntLow (s : State) : State := { s with dram := { s.dram with gnt := false } }

theorem gntDrop_of_asked {s : State} (howned : s.dram.owned = true) (hreq : s.dram.ownReq = true) :
    gntDrop s = tally 0x28 4 (s.fr.epoch.truncate 32) (gntLow s) := if_pos (by simp [howned, hreq])

theorem gntDrop_of_unasked {s : State} (h : s.dram.owned = false ∨ s.dram.ownReq = false) : gntDrop s = gntLow s :=
  if_neg (by rcases h with h | h <;> simp [h])

theorem gntDrop_dram (s : State) : (gntDrop s).dram = (gntLow s).dram := by simp [gntDrop, gntLow]

/-! The address map (R200). -/

/-- The ranks that the map of GEOM.MAP = 1 tells apart. -/
def rankFan (s : State) : Nat := if fld (geomW s) 0 2 = 3 then 4 else 2

/-- An address is its place below the row and the rank, and what lies above it. -/
theorem dramAddr_low (s : State) (a : Nat) : let x := dramAddr s a
    a = x.byte + 8 * x.col + 2 ^ 13 * x.bg + 2 ^ 15 * x.ba + 2 ^ 17 * (a / 2 ^ 17) := by
  simp only [dramAddr]
  omega

theorem dramAddr_bounds (s : State) (a : Nat) : let x := dramAddr s a
    x.byte < 8 ∧ x.col < 1024 ∧ x.bg < 4 ∧ x.ba < 4 := by
  simp only [dramAddr]
  omega

/-- A rank is a whole number of rows of 128 KiB over all banks. -/
theorem rankSize_rows (s : State) : rankSize s = 2 ^ 17 * (rankSize s / 2 ^ 17) :=
  (Nat.mul_div_cancel' ⟨65536 * (2 ^ (fld (geomW s) 2 2 % 2) * 2 ^ fld (geomW s) 4 1), by unfold rankSize; ring⟩).symm

/-- With GEOM.MAP = 0 the row lies below the rank. -/
theorem dramAddr_above_rowFirst {s : State} (hmap : fld (geomW s) 5 1 = 0) (a : Nat) :
    2 ^ 17 * (a / 2 ^ 17) = 2 ^ 17 * (dramAddr s a).row + rankSize s * (dramAddr s a).rank := by
  have row : (dramAddr s a).row = a / 2 ^ 17 % (rankSize s / 2 ^ 17) := by simp [dramAddr, hmap]
  have rank : (dramAddr s a).rank = a / 2 ^ 17 / (rankSize s / 2 ^ 17) := by
    rw [Nat.div_div_eq_div_mul, ← rankSize_rows]
    simp [dramAddr, hmap]
  calc 2 ^ 17 * (a / 2 ^ 17)
      = 2 ^ 17 * (a / 2 ^ 17 % (rankSize s / 2 ^ 17)) + 2 ^ 17 * (rankSize s / 2 ^ 17) * (a / 2 ^ 17 / (rankSize s / 2 ^ 17)) := by
        rw [Nat.mul_assoc, ← Nat.mul_add, Nat.mod_add_div]
    _ = 2 ^ 17 * (dramAddr s a).row + rankSize s * (dramAddr s a).rank := by rw [← rankSize_rows, row, rank]

/-- With GEOM.MAP = 1 the rank lies below the row. -/
theorem dramAddr_above_rankFirst {s : State} (hmap : fld (geomW s) 5 1 = 1) (a : Nat) :
    2 ^ 17 * (a / 2 ^ 17) = 2 ^ 17 * (dramAddr s a).rank + 2 ^ 17 * rankFan s * (dramAddr s a).row := by
  have row : (dramAddr s a).row = a / 2 ^ 17 / rankFan s := by simp [dramAddr, hmap, rankFan]
  have rank : (dramAddr s a).rank = a / 2 ^ 17 % rankFan s := by simp [dramAddr, hmap, rankFan]
  rw [row, rank, Nat.mul_assoc, ← Nat.mul_add, Nat.mod_add_div]

/-- Settles O40: an isolation by its two windows, a refresh by what its rank owes, and an address by what lies above its bank. -/
theorem dramOwnership : Obligations.DramOwnership := by
  unfold Obligations.DramOwnership
  refine ⟨fun tick s state phase iso htime => ?_, fun tick s state phase iso hlate => ?_, fun tick s h => ?_,
    fun rank s => ?_, fun rank s h => ?_,
    fun s howned hiso hdue => ⟨_, exec_zqcsDue s, ?_⟩, fun s h => by rw [exec_zqcsDue, zqcsDue_of_early h],
    fun s => ⟨_, exec_gntDrop s, gntDrop_dram s, fun howned hreq hp => ?_, fun h => ?_, by simp [onlyReports]⟩, fun a s => ?_⟩
  · have waits : isolationWaits s := ⟨state, phase, iso⟩
    rw [exec_ownGntIsolate, exec_forcedIsolation, ownGntIsolate_of_inTime waits htime, forcedIsolation_of_inTime htime]
    exact ⟨rfl, rfl⟩
  · have waits : isolationWaits s := ⟨state, phase, iso⟩
    rw [exec_ownGntIsolate, exec_forcedIsolation, forcedIsolation_of_late waits hlate, ownGntIsolate_of_late hlate]
    exact ⟨rfl, rfl⟩
  · obtain ⟨own, forced⟩ := isolation_of_not_waits h
    rw [exec_ownGntIsolate, exec_forcedIsolation, own, forced]
    exact ⟨rfl, rfl⟩
  · intro owed acc howned hiso hrank hdue
    exact ⟨_, exec_refreshDue rank s, refreshDue_leaves ((refreshing_iff s).2 ⟨howned, hiso⟩) hrank hdue⟩
  · rw [exec_refreshDue]
    rcases h with h | h | h | ⟨hnone, hearly⟩
    · rw [refreshDue_of_not_refreshing (.inl (by simp [refreshing, h]))]
    · rw [refreshDue_of_not_refreshing (.inl (by simp [refreshing, h]))]
    · rw [refreshDue_of_not_refreshing (.inr h)]
    · rw [refreshDue_of_early hnone hearly]
  · rw [zqcsDue_of_due ((refreshing_iff s).2 ⟨howned, hiso⟩) hdue]
    exact ⟨rfl, spend_usedNow 0 1 _, rfl⟩
  · rw [gntDrop_of_asked howned hreq]
    have hpow : powered (gntLow s) = true := hp
    obtain ⟨kind, -⟩ := tally_latest 4 (s.fr.epoch.truncate 32) hpow (by decide : (0x28 : Nat) ≠ 0x48)
    exact kind
  · rw [gntDrop_of_unasked h]
    rfl
  · intro x k low
    obtain ⟨byte, col, bg, ba⟩ := dramAddr_bounds s a
    have whole : a = low + 2 ^ 17 * (a / 2 ^ 17) := dramAddr_low s a
    refine ⟨byte, col, bg, ba, fun hmap => ?_, fun hmap => ?_⟩
    · rw [Nat.add_assoc, ← dramAddr_above_rowFirst hmap]
      exact whole
    · have above : 2 ^ 17 * (a / 2 ^ 17) = 2 ^ 17 * x.rank + 2 ^ 17 * k * x.row := dramAddr_above_rankFirst hmap a
      rw [Nat.add_assoc, ← above]
      exact whole

end Sys2Proof.Machine
end

section
/-! PROOFS. DRAM training: where TRAIN starts, the end of a data rate's training and of the last one, and the sets that it writes (09,
R41, R215, R216, R223; 13, R290; log entry 57). -/

namespace Sys2Proof.Machine

theorem exec_trainStart (be : ByteEn) (s : State) :
    exec (.trainStart be) s = .next (if atDdr s 20 then leaveTblData 1 be s else s) := rfl
theorem exec_trainDone (okHost ok2400 : Bool) (s : State) :
    exec (.trainDone okHost ok2400) s = .next (trainDone okHost ok2400 s) := rfl

/-! The table port's write of a DDRMR word that holds commands and no field (R92). -/

/-- The machine on which a whole write of such a word acts: the write has left the buffer, and its word is stored. -/
def commandWritten (idx : Nat) (data : Word) (s : State) : State := storeMark (storeKey s 10 idx 0) (unstaged data (popped s))

theorem commandWritten_others (idx : Nat) (data : Word) (s : State) : ∃ host told ue ce, commandWritten idx data s =
    { s with host := host, tally := told, conf := { s.conf with tblUe := ue, tblCe := ce } } := by
  obtain ⟨post, waiting, hpop⟩ := popped_buffer s
  rw [commandWritten, storeMark, hpop]
  dsimp only
  rw [injectUse_others]
  exact ⟨_, _, _, _, rfl⟩

section
variable {idx : Nat} (hfields : touched 10 idx 0 (beMask allBe) = [])
include hfields

/-- A commit of such a word is its commands, and a check of the mode registers (R212). -/
theorem commitEntry_command (data : Word) (s : State) : commitEntry 10 idx [(data, allBe)] s =
    readyCheck (wordEffects 10 idx 0 data (beMask allBe) (storeMark (storeKey s 10 idx 0) s)) := by
  have enabled : ¬ allBe = 0#4 := by decide
  simp [commitEntry, List.zipIdx_cons, enabled, storeWrite_whole, hfields]

theorem applyTblData_command {data : Word} {s : State} (hcount : idx < 32) (hrw : roWord 10 idx 0 = false) (hat : atDdr s idx = true) :
    applyTblData data allBe s = tblAdvance (readyCheck (wordEffects 10 idx 0 data (beMask allBe)
      (storeMark (storeKey s 10 idx 0) (unstaged data s)))) := by
  simp only [atDdr, Bool.and_eq_true, beq_iff_eq] at hat
  obtain ⟨⟨tid, hidx⟩, word⟩ := hat
  have named : accessCode s = 0 := by simp [accessCode, tblCode, tid, hidx, word, tblWords, tblCount, hcount]
  rw [applyTblData_of_writable named (by rw [tid]; rfl) (by rw [tid, hidx, word]; exact hrw) (by rw [tid]; decide),
    stageData_of_oneWord (by rw [tid]; rfl) word, tid, hidx, commitEntry_command hfields]
  rfl

theorem leaveTblData_command {data : Word} {s : State} (hcount : idx < 32) (hrw : roWord 10 idx 0 = false)
    (hr : reaches ⟨0x2C, data, allBe⟩ s = true) (ho : oldest ⟨0x2C, data, allBe⟩ s = true) (hbusy : s.host.tblBusy = false)
    (hat : atDdr s idx = true) : leaveTblData data allBe s =
      tblAdvance (readyCheck (wordEffects 10 idx 0 data (beMask allBe) (commandWritten idx data s))) := by
  obtain ⟨post, waiting, hpop⟩ := popped_buffer s
  have hat' : atDdr (popped s) idx = true := by rw [hpop]; exact hat
  have key : storeKey (popped s) 10 idx 0 = storeKey s 10 idx 0 := by rw [hpop]; rfl
  rw [leaveTblData, if_neg (by simp [hbusy]), leave_reaches _ _ s hr ho, applyTblData_command hfields hcount hrw hat', key,
    commandWritten]

end

theorem touched_train : touched 10 20 0 (beMask allBe) = [] := by decide

theorem wordEffects_train (s : State) : wordEffects 10 20 0 1 (beMask allBe) s = trainStart s := rfl

/-- A READY that does not fall sends no message (R212). -/
theorem readyCheck_of_quiet {s : State} (h : s.dram.readyWas = false ∨ ready s = true) :
    readyCheck s = { s with dram := { s.dram with readyWas := ready s } } :=
  if_neg (by rcases h with h | h <;> simp [h])

/-! TRAIN (R41, R215, R223). -/

/-- The conditions of TRAIN. -/
def mayTrain (s : State) : Prop :=
  mrErr s = 0 ∧ (s.top.state = .service ∨ (s.top.state = .ret ∧ s.top.phase = .waitGnt ∧ ready s = false))

/-- The training of GEOM.SPEED has begun, and with it the exclusive request. -/
def trainBegun (s : State) : State :=
  { s with dram := { s.dram with training := true, train2 := false, trainBad := false, ownReq := true, reqWas := true } }

/-- TRAIN_FAIL is set. -/
def trainFailed (s : State) : State := { s with dram := { s.dram with trainFail := true } }

theorem trainFails_eq (s : State) : trainFails s = tally 0x28 3 (s.fr.epoch.truncate 32) (trainFailed s) := rfl

theorem trainFails_dram (s : State) : (trainFails s).dram = (trainFailed s).dram := by simp [trainFails_eq]

theorem trainFails_lastKind {s : State} (hp : powered s = true) : (srcOf (trainFails s) 0x28).lastKind = 3 := by
  have up : powered (trainFailed s) = true := hp
  obtain ⟨kind, -⟩ := tally_latest 3 (s.fr.epoch.truncate 32) up (by decide : (0x28 : Nat) ≠ 0x48)
  exact kind

section
variable {s : State}

theorem trainStart_of_busy (h : ddrBusy s = true) : trainStart s = reject 0x2C 10 s := if_pos h

theorem trainStart_of_idle (h : ddrBusy s = false) : trainStart s =
    if mrErr s == 0 && (s.top.state = .service || (s.top.state = .ret && s.top.phase = .waitGnt && !ready s)) then trainBegun s
    else trainFails s := if_neg (by simp [h])

theorem trainStart_of_may (hidle : ddrBusy s = false) (h : mayTrain s) : trainStart s = trainBegun s := by
  rw [trainStart_of_idle hidle]
  exact if_pos (by simpa [mayTrain, and_assoc] using h)

theorem trainStart_of_not_may (hidle : ddrBusy s = false) (h : ¬ mayTrain s) : trainStart s = trainFails s := by
  rw [trainStart_of_idle hidle]
  exact if_neg (by simpa [mayTrain, and_assoc] using h)

end

/-- The command changes neither a mode register nor a set, so READY stays. -/
theorem trainStart_ready (s : State) : ready (trainStart s) = ready s := by
  have conf : (trainStart s).conf.cur = s.conf.cur := by simp
  obtain ⟨host, rate⟩ : (trainStart s).dram.setHost = s.dram.setHost ∧ (trainStart s).dram.set2400 = s.dram.set2400 := by
    unfold trainStart
    split
    · simp
    · split
      · exact ⟨rfl, rfl⟩
      · rw [trainFails_dram]
        exact ⟨rfl, rfl⟩
  exact ready_congr conf host rate

/-- The check of the mode registers and the port's advance after TRAIN. -/
theorem tblAdvance_trainStart (s : State) : let t := tblAdvance (readyCheck (trainStart s))
    t.dram = { (trainStart s).dram with readyWas := ready s } ∧ t.conf = s.conf ∧ t.top.reject = (trainStart s).top.reject ∧
      t.top.lastRej = (trainStart s).top.lastRej ∧
      ((trainStart s).dram.readyWas = false ∨ ready s = true → t.tally = (trainStart s).tally) ∧
      onlyReports s { t with dram := s.dram } := by
  intro t
  obtain ⟨-, -, conf, -, dram, reject, lastRej, -⟩ := tblAdvance_readyCheck (trainStart s)
  rw [trainStart_ready] at dram
  refine ⟨dram, by rw [conf]; simp, reject, lastRej, fun quiet => ?_, by simp [onlyReports, t]⟩
  have told : t.tally = (readyCheck (trainStart s)).tally := by simp [t]
  rw [← trainStart_ready] at quiet
  rw [told, readyCheck_of_quiet quiet]

/-- A write of TRAIN = 1. -/
theorem trainStart_leaves (s : State) : let t := tblAdvance (readyCheck (trainStart s))
    (ddrBusy s = false → mayTrain s → t.dram = { (trainBegun s).dram with readyWas := ready s }) ∧
      (ddrBusy s = false → ¬ mayTrain s → t.dram = { (trainFailed s).dram with readyWas := ready s } ∧
        (powered s = true → s.dram.readyWas = false ∨ ready s = true → (srcOf t 0x28).lastKind = 3)) ∧
      (ddrBusy s = true → t.dram = { s.dram with readyWas := ready s } ∧ t.top.reject = true ∧ t.top.lastRej = 0x2C) := by
  intro t
  obtain ⟨dram, -, rejected, lastRej, told, -⟩ := tblAdvance_trainStart s
  refine ⟨fun hidle hmay => ?_, fun hidle hno => ⟨?_, fun hp hquiet => ?_⟩, fun hbusy => ?_⟩
  · rw [dram, trainStart_of_may hidle hmay]
  · rw [dram, trainStart_of_not_may hidle hno, trainFails_dram]
  · have failed := trainStart_of_not_may hidle hno
    have sources : t.tally = (trainFails s).tally := by
      rw [← failed]
      exact told (by rwa [failed, trainFails_dram])
    rw [srcOf, sources]
    exact trainFails_lastKind hp
  · obtain ⟨marked, off⟩ := reject_marks 0x2C 10 s
    have turnedAway := trainStart_of_busy hbusy
    rw [dram, rejected, lastRej, turnedAway]
    exact ⟨by simp, marked, off⟩

/-! The records of a set that passed (R290, R292). -/

/-- With nothing under way, an operation starts at once. -/
theorem submit_of_idle {o : ArrOp} {s : State} (hreq : o.req = .engine) (herase : o.erase = false) (hrun : s.arr.run = none)
    (hqueue : s.arr.queue = []) (hsusp : s.arr.susp = none) :
    submit o s = { s with arr := { s.arr with run := some o, queue := [] } } := by
  simp [submit, setHstate, setPort, hreq, startNext, hrun, hqueue, hsusp, herase]

/-- Behind an operation that runs, one waits. -/
theorem submit_of_running {o a : ArrOp} {s : State} (hreq : o.req = .engine) (hrun : s.arr.run = some a) :
    submit o s = { s with arr := { s.arr with queue := s.arr.queue ++ [o] } } := by
  simp [submit, setHstate, setPort, hreq, startNext, hrun]

theorem le_foldl_max_succ : ∀ (l : List Nat) (a : Nat), a ≤ l.foldl (fun a w => max a (w + 1)) a
  | [], a => Nat.le_refl a
  | w :: l, a => (Nat.le_max_left a (w + 1)).trans (le_foldl_max_succ l (max a (w + 1)))

/-- A record's word lies in its sectors or after them. -/
theorem le_recordSlot (s : State) (lo hi : Nat) : lo * 2048 ≤ recordSlot s lo hi := le_foldl_max_succ _ _

/-- The program of a record's word in bank A or B. -/
def recordProgram (w tag arg : Nat) (d : DWord) (b : Bool) : ArrOp :=
  { req := .engine, erase := false, off := 8 * w + 0x200000 * b2n b, data := d, tag := tag, arg := 2 * arg + b2n b }

theorem recordProgram_sec (w tag arg : Nat) (d : DWord) : secOf (recordProgram w tag arg d false).off = w / 2048 := by
  simp only [recordProgram, secOf, b2n, Bool.false_eq_true, if_false]
  omega

/-- With nothing under way and room in its sectors, a record is programmed in bank A, then in bank B. -/
theorem keepRecord_of_room {lo hi tag arg : Nat} {d : DWord} {s : State} (hrun : s.arr.run = none) (hqueue : s.arr.queue = [])
    (hsusp : s.arr.susp = none) (hroom : recordSlot s lo hi < (hi + 1) * 2048) : keepRecord lo hi tag arg d s =
      { s with arr := { s.arr with
        run := some (recordProgram (recordSlot s lo hi) tag arg d false)
        queue := [recordProgram (recordSlot s lo hi) tag arg d true] } } := by
  have first : submit (recordProgram (recordSlot s lo hi) tag arg d false) s = _ := submit_of_idle rfl rfl hrun hqueue hsusp
  have room : ¬ (hi + 1) * 2048 ≤ recordSlot s lo hi := by omega
  have programs : keepRecord lo hi tag arg d s =
      submit (recordProgram (recordSlot s lo hi) tag arg d true) (submit (recordProgram (recordSlot s lo hi) tag arg d false) s) := by
    simp [keepRecord, room, recordProgram]
  rw [programs, first]
  exact submit_of_running rfl rfl

/-- Sectors 98 and 99 take a training set in both banks. -/
theorem storeSet_programs (second : Bool) {s : State} (hrun : s.arr.run = none) (hqueue : s.arr.queue = [])
    (hsusp : s.arr.susp = none) (hroom : recordSlot s 98 99 < 100 * 2048) :
    ∃ a b, (storeSet second s).arr.run = some a ∧ (storeSet second s).arr.queue = [b] ∧ a.tag = 6 ∧ b.tag = 6 ∧ a.erase = false ∧
      a.data = b.data ∧ b.off = a.off + 0x200000 ∧ 98 ≤ secOf a.off ∧ secOf a.off ≤ 99 := by
  have base : 98 * 2048 ≤ recordSlot s 98 99 := le_recordSlot s 98 99
  rw [storeSet, keepRecord_of_room hrun hqueue hsusp hroom]
  refine ⟨_, _, rfl, rfl, rfl, rfl, rfl, rfl, rfl, ?_, ?_⟩ <;> rw [recordProgram_sec] <;> omega

theorem storeSet_mem (second : Bool) (s : State) : (storeSet second s).arr.mem = s.arr.mem := by
  obtain ⟨mem, -⟩ := keepRecord_sameStored 98 99 6 (b2n second) (Config.recordWord (b2n second) s.free) s
  exact mem

/-! The end of a data rate's training (R215, log entry 57). -/

/-- The rate under training has trained, with its write training in TRAIN_CELL. -/
def rateTrained (okHost ok2400 : Bool) (s : State) : Bool := (if s.dram.train2 then ok2400 else okHost) && trainCellOk s

/-- The set of a rate that has trained goes to the array; else the training has failed. -/
def rateEnded (ok : Bool) (s : State) : State :=
  if ok then storeSet s.dram.train2 s else { s with dram := { s.dram with trainBad := true } }

/-- The training of 2400 MT/s begins. -/
def secondRate (s : State) : State := { s with dram := { s.dram with train2 := true, rate2400 := true } }

section
variable (okHost ok2400 : Bool) {s : State} (htraining : s.dram.training = true) (howned : s.dram.owned = true)
include htraining howned

theorem trainDone_of_more (hmore : (trainsBoth s && !s.dram.train2) = true) :
    trainDone okHost ok2400 s = secondRate (rateEnded (rateTrained okHost ok2400 s) s) := by
  rw [trainDone, if_pos (by simp [htraining, howned])]
  exact if_pos hmore

theorem trainDone_of_last (hlast : (trainsBoth s && !s.dram.train2) = false) :
    trainDone okHost ok2400 s = readyCheck (trainEnds (rateEnded (rateTrained okHost ok2400 s) s)) := by
  rw [trainDone, if_pos (by simp [htraining, howned])]
  exact if_neg (by simp [hlast])

end

theorem trainDone_of_idle (okHost ok2400 : Bool) {s : State} (h : s.dram.training = false ∨ s.dram.owned = false) :
    trainDone okHost ok2400 s = s :=
  if_neg (by rcases h with h | h <;> simp [h])

theorem rateEnded_dram (ok : Bool) (s : State) :
    (rateEnded ok s).dram = { s.dram with trainBad := s.dram.trainBad || !ok } := by
  cases ok <;> simp [rateEnded]

theorem rateEnded_top (ok : Bool) (s : State) : (rateEnded ok s).top = s.top := by
  cases ok <;> simp [rateEnded]

theorem rateEnded_mem (ok : Bool) (s : State) : (rateEnded ok s).arr.mem = s.arr.mem := by
  cases ok
  · rfl
  · exact storeSet_mem _ s

/-- Only the rate's end touches the array. -/
theorem trainDone_arr {s : State} (okHost ok2400 : Bool) (htraining : s.dram.training = true) (howned : s.dram.owned = true) :
    (trainDone okHost ok2400 s).arr = (rateEnded (rateTrained okHost ok2400 s) s).arr := by
  cases hmore : trainsBoth s && !s.dram.train2
  · rw [trainDone_of_last okHost ok2400 htraining howned hmore]
    simp
  · rw [trainDone_of_more okHost ok2400 htraining howned hmore]
    rfl

/-! The end of the training (R214, R215). -/

/-- No rate is under training. -/
def trainCleared (s : State) : State := { s with dram := { s.dram with training := false, train2 := false, trainBad := false } }

/-- In SERVICE the DRAM goes back; in WAIT_GNT the device keeps it at GEOM.SPEED. -/
def trainHandsOver (s : State) : State :=
  if s.top.state = .service then handBack (trainCleared s)
  else { trainCleared s with dram := { (trainCleared s).dram with rate2400 := false } }

theorem trainEnds_eq (s : State) : trainEnds s = if s.dram.trainBad then trainFails (trainHandsOver s) else trainHandsOver s := rfl

theorem trainEnds_dram (s : State) :
    (trainEnds s).dram = { (trainHandsOver s).dram with trainFail := s.dram.trainBad || (trainHandsOver s).dram.trainFail } := by
  rw [trainEnds_eq]
  cases hbad : s.dram.trainBad
  · simp
  · exact trainFails_dram _

theorem handBack_kept (s : State) : (handBack s).dram.training = s.dram.training ∧ (handBack s).dram.setHost = s.dram.setHost ∧
    (handBack s).dram.set2400 = s.dram.set2400 := by
  unfold handBack
  split <;> exact ⟨rfl, rfl, rfl⟩

theorem handBack_hand {s : State} (howned : s.dram.owned = true) (hhand : s.dram.hand = 0) :
    (handBack s).dram.hand = if s.dram.rate2400 then 1 else 2 := by
  rw [handBack, if_pos (by simp [howned, hhand])]

theorem trainHandsOver_kept (s : State) : (trainHandsOver s).dram.training = false ∧
    (trainHandsOver s).dram.setHost = s.dram.setHost ∧ (trainHandsOver s).dram.set2400 = s.dram.set2400 := by
  unfold trainHandsOver
  split
  · exact handBack_kept (trainCleared s)
  · exact ⟨rfl, rfl, rfl⟩

/-- What the end of the last rate leaves of the DRAM block. -/
theorem trainEnds_leaves (s : State) : let d := (readyCheck (trainEnds s)).dram
    d.setHost = s.dram.setHost ∧ d.set2400 = s.dram.set2400 ∧ d.training = false ∧ (s.dram.trainBad = true → d.trainFail = true) ∧
      (s.top.state = .service → s.dram.owned = true → s.dram.hand = 0 → d.hand = if s.dram.rate2400 then 1 else 2) ∧
      (s.top.state = .ret → d.owned = s.dram.owned ∧ d.rate2400 = false) := by
  intro d
  have hd : d = { (trainEnds s).dram with readyWas := ready (trainEnds s) } := readyCheck_dram _
  obtain ⟨training, setHost, set2400⟩ := trainHandsOver_kept s
  rw [hd, trainEnds_dram]
  refine ⟨setHost, set2400, training, fun hbad => by simp [hbad], fun hstate howned hhand => ?_, fun hstate => ?_⟩
  · have given : trainHandsOver s = handBack (trainCleared s) := if_pos hstate
    rw [given]
    exact handBack_hand howned hhand
  · have kept : trainHandsOver s = { trainCleared s with dram := { (trainCleared s).dram with rate2400 := false } } :=
      if_neg (by simp [hstate])
    rw [kept]
    exact ⟨rfl, rfl⟩

/-- What the end of a rate's training leaves of the DRAM block. -/
theorem trainDone_dram (okHost ok2400 : Bool) {s : State} (htraining : s.dram.training = true) (howned : s.dram.owned = true) :
    let d := (trainDone okHost ok2400 s).dram
    let ok := rateTrained okHost ok2400 s
    let more := trainsBoth s && !s.dram.train2
    d.setHost = s.dram.setHost ∧ d.set2400 = s.dram.set2400 ∧
      (more = true → d.training = true ∧ d.train2 = true ∧ d.rate2400 = true ∧ d.trainBad = (s.dram.trainBad || !ok)) ∧
      (more = false → d.training = false ∧ (s.dram.trainBad = true ∨ ok = false → d.trainFail = true) ∧
        (s.top.state = .service → s.dram.hand = 0 → d.hand = (if s.dram.rate2400 then 1 else 2)) ∧
        (s.top.state = .ret → d.owned = true ∧ d.rate2400 = false)) := by
  intro d ok more
  have ended := rateEnded_dram ok s
  cases hmore : more
  · have hd : d = (readyCheck (trainEnds (rateEnded ok s))).dram :=
      congrArg State.dram (trainDone_of_last okHost ok2400 htraining howned hmore)
    obtain ⟨setHost, set2400, training, failed, given, kept⟩ := trainEnds_leaves (rateEnded ok s)
    rw [ended] at setHost set2400 failed given kept
    rw [rateEnded_top] at given kept
    rw [hd]
    refine ⟨setHost, set2400, nofun, fun _ => ⟨training, fun hbad => failed ?_, fun hstate hhand => given hstate howned hhand,
      fun hstate => ?_⟩⟩
    · rcases hbad with hbad | hbad <;> simp [hbad]
    · obtain ⟨owned, rate⟩ := kept hstate
      exact ⟨owned.trans howned, rate⟩
  · have hd : d = (secondRate (rateEnded ok s)).dram :=
      congrArg State.dram (trainDone_of_more okHost ok2400 htraining howned hmore)
    rw [hd, secondRate, ended]
    exact ⟨rfl, rfl, fun _ => ⟨htraining, rfl, rfl, rfl⟩, nofun⟩

/-! A set counts once it is stored (R216). -/

theorem geomKey_congr {s t : State} (hcur : t.conf.cur = s.conf.cur) : geomKey t = geomKey s := by
  rw [geomKey, geomW, cw_congr hcur]
  rfl

theorem setStored_geomKey (second : Bool) (s : State) : geomKey (setStored second s) = geomKey s :=
  geomKey_congr (by simp)

theorem trainHost_setStored (s : State) : trainHost (setStored false s) = true := by
  have set : (setStored false s).dram.setHost = some (geomKey s) := by rw [setStored, readyCheck_dram]; rfl
  rw [trainHost, set, setStored_geomKey]
  exact beq_self_eq_true _

theorem train2400_setStored {s : State} (hspeed : speed3200 s = true) : train2400 (setStored true s) = true := by
  have set : (setStored true s).dram.set2400 = some (geomKey s) := by rw [setStored, readyCheck_dram]; rfl
  have speed : speed3200 (setStored true s) = speed3200 s := by
    have cur : (setStored true s).conf.cur = s.conf.cur := by simp
    rw [speed3200, geomW, cw_congr cur]
    rfl
  rw [train2400, speed, hspeed, if_pos rfl, set, setStored_geomKey]
  exact beq_self_eq_true _

/-- Settles O41: TRAIN acts on the machine that its write has left; the end of a rate stores its set or marks the failure, and goes to
the second rate or to the end of the training. -/
theorem dramTraining : Obligations.DramTraining := by
  unfold Obligations.DramTraining
  refine ⟨fun s => ?_, fun s hat => ?_, fun okHost ok2400 s htraining howned => ?_, fun okHost ok2400 s h => ?_, fun second s => ?_⟩
  · intro e may hr ho hbusy hat
    refine ⟨_, (exec_trainStart allBe s).trans (congrArg _ (if_pos hat)), ?_⟩
    rw [leaveTblData_command touched_train (by decide) rfl hr ho hbusy hat, wordEffects_train]
    obtain ⟨host, told, ue, ce, hw⟩ := commandWritten_others 20 1 s
    have up : powered s = true := reaches_powered hr
    have rdy : ready (commandWritten 20 1 s) = ready s := by rw [hw]; exact ready_congr rfl rfl rfl
    obtain ⟨-, conf, -, -, -, others⟩ := tblAdvance_trainStart (commandWritten 20 1 s)
    obtain ⟨begun, failed, dropped⟩ := trainStart_leaves (commandWritten 20 1 s)
    rw [rdy] at begun failed dropped
    generalize tblAdvance (readyCheck (trainStart (commandWritten 20 1 s))) = t at *
    rw [hw] at conf begun failed dropped others
    obtain ⟨-, rest⟩ := others
    refine ⟨by rw [conf], begun, fun hidle hno => ?_, dropped, rfl, rest⟩
    obtain ⟨dram, kind⟩ := failed hidle hno
    exact ⟨dram, kind up⟩
  · rw [exec_trainStart, if_neg (by simp [hat])]
  · intro ok more
    obtain ⟨setHost, set2400, next, last⟩ := trainDone_dram okHost ok2400 htraining howned
    have arr := trainDone_arr okHost ok2400 htraining howned
    refine ⟨_, exec_trainDone okHost ok2400 s, by rw [arr, rateEnded_mem], setHost, set2400, fun hok => ?_,
      fun hok hrun hqueue hsusp hroom => ?_, next, last, by simp [onlyReports]⟩
    · have failed : rateTrained okHost ok2400 s = false := hok
      rw [arr, failed]
      rfl
    · have trained : rateTrained okHost ok2400 s = true := hok
      rw [arr, trained]
      exact storeSet_programs s.dram.train2 hrun hqueue hsusp hroom
  · rw [exec_trainDone, trainDone_of_idle okHost ok2400 h]
  · refine ⟨fun hsecond => by rw [hsecond]; exact trainHost_setStored s, fun hsecond => ?_⟩
    cases hspeed : speed3200 s
    · exact .inr rfl
    · exact .inl (by rw [hsecond]; exact train2400_setStored hspeed)

end Sys2Proof.Machine
end

section
/-! PROOFS. The stripes of a preparation and the NAND bring-up (R244, R246, R261, R262). -/

namespace Sys2Proof.Machine

theorem exec_nandEraseDone (g x : Nat) (pass : Bool) (s : State) : exec (.nandEraseDone g x pass) s = .next (eraseDone g x pass s) := rfl
theorem exec_nandBringUpDone (b : BringUp) (s : State) : exec (.nandBringUpDone b) s = .next (bringUpDone b s) := rfl

/-! The end of a preparation: ARM is programmed, or the Comb is armed again (R262, R265). -/

/-- The words of an entry wait for the array; of the NAND block only the entry's ARM frame changes. -/
theorem prepArm_nand {e : CatEntry} {s : State} (h : s.nand.prepEntry = some e) :
    (prepArm s).nand = { s.nand with prepEntry := some { e with armEpoch := s.fr.epoch } } := by
  rw [prepArm, h]
  simp

theorem prepArm_of_none {s : State} (h : s.nand.prepEntry = none) : prepArm s = s := by rw [prepArm, h]

theorem prepArm_sameStored (s : State) : SameStored s (prepArm s) := by
  unfold prepArm
  split
  · extract_lets e nand s1
    have words : SameStored s1 ((List.range 12).foldl (fun s i => catProgram e (i + 1) s) s1) :=
      .foldl _ (fun t i => submit_sameStored _ t) _ s1
    exact .trans (.of_arr rfl) (words.trans (submit_sameStored _ _))
  · exact .refl s

/-- No end of a preparation stores a byte, changes a target or brings a stripe back. -/
theorem prepEnd_leaves (s : State) : SameStored s (prepEnd s) ∧ (prepEnd s).nand.targets = s.nand.targets ∧
    (s.nand.prepLeft = [] → (prepEnd s).nand.prepLeft = []) := by
  unfold prepEnd
  split
  · split
    · exact ⟨.of_arr rfl, rfl, fun _ => rfl⟩
    · exact ⟨.refl s, rfl, id⟩
  · refine ⟨prepArm_sameStored s, ?_⟩
    cases h : s.nand.prepEntry with
    | none => rw [prepArm_of_none h]; exact ⟨rfl, id⟩
    | some e => rw [prepArm_nand h]; exact ⟨rfl, id⟩

theorem prepEnd_of_rearm {e : CatEntry} {s : State} (hrearm : s.nand.prepRearm = true) (he : s.nand.prepEntry = some e) :
    prepEnd s = armComb e s := by
  rw [prepEnd, if_pos hrearm, he]

theorem prepEnd_of_new {s : State} (h : s.nand.prepRearm = false) : prepEnd s = prepArm s := if_neg (by simp [h])

/-! A stripe of the reservation that is erased, or is not (R261, R262). -/

/-- Stripe x of target g is no longer waited for. -/
def stripeReported (g x : Nat) (s : State) : State :=
  { s with nand := { s.nand with prepLeft := s.nand.prepLeft.filter (· != (g, x)), bbmScan := false } }

/-- It is erased. -/
def stripeErased (g x : Nat) (s : State) : State :=
  { stripeReported g x s with nand := { (stripeReported g x s).nand with prepDone := s.nand.prepDone ++ [(g, x)] } }

/-- It is bad, and the failure counts. -/
def stripeFailed (g x : Nat) (s : State) : State :=
  tally 0x2E 4 (BitVec.ofNat 32 (g + x % 2 ^ 24 * 256))
    (modChan (g / 4) (fun c => { c with erFail := satInc 0xFFFF c.erFail }) (markBad g x (stripeReported g x s)))

/-- Another free stripe of target g takes its place, where there is one. -/
def stripeReplaced (g : Nat) (s : State) : State :=
  match (freeStripes s g).find? (fun x => !(s.nand.prepLeft ++ s.nand.prepDone).contains (g, x)) with
  | some x => modTgt g (passStripe (gBpp s) x) { s with nand := { s.nand with prepLeft := s.nand.prepLeft ++ [(g, x)] } }
  | none => geomShort s

theorem not_mem_stripeReported (g x : Nat) (s : State) : (g, x) ∉ (stripeReported g x s).nand.prepLeft := by
  simp [stripeReported]

section
variable {g x : Nat} {s : State} (hprep : s.nand.prep = true) (hleft : (g, x) ∈ s.nand.prepLeft)
include hprep hleft

theorem eraseDone_of_pass : eraseDone g x true s =
    if (stripeErased g x s).nand.prepLeft.isEmpty then prepEnd (stripeErased g x s) else stripeErased g x s :=
  if_pos (by simp [hprep, hleft])

theorem eraseDone_of_fail : eraseDone g x false s = stripeReplaced g (stripeFailed g x s) :=
  if_pos (by simp [hprep, hleft])

/-- While stripes are left, the preparation goes on. -/
theorem eraseDone_of_more (h : (eraseDone g x true s).nand.prepLeft ≠ []) : eraseDone g x true s = stripeErased g x s := by
  rw [eraseDone_of_pass hprep hleft] at h ⊢
  split
  next hempty =>
    rw [if_pos hempty] at h
    obtain ⟨-, -, none⟩ := prepEnd_leaves (stripeErased g x s)
    exact absurd (none (List.isEmpty_iff.1 hempty)) h
  next => rfl

/-- The last stripe ends it. -/
theorem eraseDone_of_last (h : ∀ p, p ∈ s.nand.prepLeft → p = (g, x)) : eraseDone g x true s = prepEnd (stripeErased g x s) := by
  have none : (stripeErased g x s).nand.prepLeft = [] := List.filter_eq_nil_iff.2 fun p hp => by simp [h p hp]
  rw [eraseDone_of_pass hprep hleft, none]
  rfl

theorem eraseDone_pass_leaves : let t := eraseDone g x true s
    (g, x) ∉ t.nand.prepLeft ∧ t.nand.targets = s.nand.targets ∧ SameStored s t := by
  intro t
  have reported := not_mem_stripeReported g x s
  obtain ⟨stored, targets, none⟩ := prepEnd_leaves (stripeErased g x s)
  have ht : t = _ := eraseDone_of_pass hprep hleft
  rw [ht]
  split
  next hempty =>
    have gone := none (List.isEmpty_iff.1 hempty)
    exact ⟨by simp [gone], targets, stored⟩
  next => exact ⟨reported, rfl, .of_arr rfl⟩

end

theorem eraseDone_of_idle {g x : Nat} {s : State} (pass : Bool) (h : s.nand.prep = false ∨ (g, x) ∉ s.nand.prepLeft) :
    eraseDone g x pass s = s :=
  if_neg (by rcases h with h | h <;> simp [h])

/-! The bad-stripe map (R261). -/

/-- A stripe that the map does not hold yet joins it, and is recorded. -/
theorem markBad_of_new {g x : Nat} {s : State} (h : ¬ (tgtOf s g).bad.contains x = true) : markBad g x s =
    keepGeom 3 (g * 2 ^ 20 + x) (modTgt g (fun t => { t with bad := insertNat x t.bad }) s) :=
  if_neg h

theorem markBad_of_held {g x : Nat} {s : State} (h : (tgtOf s g).bad.contains x = true) : markBad g x s = s := if_pos h

/-- Of the NAND block, a mark changes the targets. -/
theorem markBad_nand (g x : Nat) (s : State) :
    (markBad g x s).nand = { s.nand with targets := (markBad g x s).nand.targets } := by
  by_cases h : (tgtOf s g).bad.contains x
  · rw [markBad_of_held h]
  · simp [markBad_of_new h, modTgt]

theorem keepGeom_tgtOf (kind val k : Nat) (s : State) : tgtOf (keepGeom kind val s) k = tgtOf s k := by simp [tgtOf]

theorem mem_markBad (g x : Nat) (s : State) : x ∈ (tgtOf (markBad g x s) g).bad := by
  by_cases h : (tgtOf s g).bad.contains x
  · rw [markBad_of_held h]
    exact List.contains_iff_mem.1 h
  · rw [markBad_of_new h, keepGeom_tgtOf, modTgt_tgtOf]
    exact mem_insertNat.2 (.inl rfl)

theorem modTgt_tgtId {f : Target → Target} (h : ∀ t, (f t).id = t.id) (g k : Nat) (s : State) :
    (tgtOf (modTgt g f s) k).id = (tgtOf s k).id := by
  by_cases hk : k = g
  · rw [hk, modTgt_tgtOf, h]
  · rw [modTgt_tgtOf_ne f s hk]

/-- A mark changes no identification. -/
theorem markBad_tgtId (g x k : Nat) (s : State) : (tgtOf (markBad g x s) k).id = (tgtOf s k).id := by
  by_cases h : (tgtOf s g).bad.contains x
  · rw [markBad_of_held h]
  · rw [markBad_of_new h, keepGeom_tgtOf]
    exact modTgt_tgtId (fun _ => by rfl) g k s

/-! A stripe that fails (R261, R262). -/

theorem stripeFailed_leaves (g x : Nat) (s : State) : let t := stripeFailed g x s
    x ∈ (tgtOf t g).bad ∧ (chanOf t (g / 4)).erFail = satInc 0xFFFF (chanOf s (g / 4)).erFail ∧
      t.nand.geomErr = s.nand.geomErr ∧ SameStored s t := by
  intro t
  let u := markBad g x (stripeReported g x s)
  have nand : t.nand = (modChan (g / 4) (fun c => { c with erFail := satInc 0xFFFF c.erFail }) u).nand := by simp [t, u, stripeFailed]
  have marked : u.nand = { (stripeReported g x s).nand with targets := u.nand.targets } := markBad_nand g x _
  obtain ⟨stored, -, -⟩ := markBad_armingKept g x (stripeReported g x s)
  refine ⟨?_, ?_, ?_, .trans (t := u) (.trans (.of_arr rfl) stored) (.of_arr (by simp [t, u, stripeFailed]))⟩
  · rw [tgtOf, nand]
    exact mem_markBad g x _
  · rw [chanOf, nand, ← chanOf, modChan_chanOf, chanOf, marked]
    rfl
  · rw [nand, modChan_nand_geomErr, marked]
    rfl

/-- A replacement, or the want of one, changes neither a map nor a count. -/
theorem stripeReplaced_leaves (g : Nat) (s : State) : let t := stripeReplaced g s
    (∀ k, (tgtOf t k).bad = (tgtOf s k).bad) ∧ t.nand.chans = s.nand.chans ∧ t.arr = s.arr ∧
      (t.nand.prepLeft ≠ [] → t.nand.geomErr = s.nand.geomErr) := by
  intro t
  simp only [t, stripeReplaced]
  split
  next y _ =>
    refine ⟨fun k => ?_, rfl, rfl, fun _ => rfl⟩
    by_cases hk : k = g
    · rw [hk, modTgt_tgtOf]
      rfl
    · rw [modTgt_tgtOf_ne _ _ hk]
      rfl
  next => exact ⟨fun _ => rfl, rfl, rfl, fun h => absurd rfl h⟩

theorem eraseDone_fail_leaves {g x : Nat} {s : State} (hprep : s.nand.prep = true) (hleft : (g, x) ∈ s.nand.prepLeft) :
    let t := eraseDone g x false s
    x ∈ (tgtOf t g).bad ∧ (chanOf t (g / 4)).erFail = satInc 0xFFFF (chanOf s (g / 4)).erFail ∧
      (t.nand.prepLeft ≠ [] → t.nand.geomErr = s.nand.geomErr) ∧ t.arr.mem = s.arr.mem := by
  intro t
  have ht : t = _ := eraseDone_of_fail hprep hleft
  obtain ⟨bad, fails, geomErr, mem, -, -⟩ := stripeFailed_leaves g x s
  obtain ⟨maps, chans, arr, goes⟩ := stripeReplaced_leaves g (stripeFailed g x s)
  rw [ht]
  refine ⟨(maps g).symm ▸ bad, ?_, fun h => (goes h).trans geomErr, by rw [arr, mem]⟩
  rw [chanOf, chans]
  exact fails

/-! What bring-up found (R244, R246). -/

/-- t shows what bring-up found in s; VALID and GEOM_ERR agree in t if they do in s. -/
structure FoundKept (s t : State) : Prop where
  bringUp : t.nand.bringUp = s.nand.bringUp
  broughtUp : t.nand.broughtUp = s.nand.broughtUp
  marks : t.nand.marks = s.nand.marks
  chans : t.nand.chans = s.nand.chans
  ids : ∀ k, (tgtOf t k).id = (tgtOf s k).id
  judged : (s.nand.valid = true ↔ s.nand.geomErr = 0) → (t.nand.valid = true ↔ t.nand.geomErr = 0)

namespace FoundKept

theorem refl (s : State) : FoundKept s s := ⟨rfl, rfl, rfl, rfl, fun _ => rfl, id⟩

theorem trans {s t u : State} (h : FoundKept s t) (k : FoundKept t u) : FoundKept s u :=
  ⟨k.bringUp.trans h.bringUp, k.broughtUp.trans h.broughtUp, k.marks.trans h.marks, k.chans.trans h.chans,
    fun g => (k.ids g).trans (h.ids g), fun j => k.judged (h.judged j)⟩

theorem foldl {β : Type} {f : State → β → State} (h : ∀ s x, FoundKept s (f s x)) :
    ∀ (l : List β) (s : State), FoundKept s (l.foldl f s)
  | [], s => refl s
  | x :: l, s => (h s x).trans (foldl h l (f s x))

/-- Neither the targets nor what bring-up sets change. -/
theorem of_fields {s t : State} (bringUp : t.nand.bringUp = s.nand.bringUp) (broughtUp : t.nand.broughtUp = s.nand.broughtUp)
    (marks : t.nand.marks = s.nand.marks) (chans : t.nand.chans = s.nand.chans) (targets : t.nand.targets = s.nand.targets)
    (valid : t.nand.valid = s.nand.valid) (geomErr : t.nand.geomErr = s.nand.geomErr) : FoundKept s t :=
  ⟨bringUp, broughtUp, marks, chans, fun k => by rw [tgtOf, targets, tgtOf], by rw [valid, geomErr]; exact id⟩

/-- Of the NAND block only the targets change, and no identification. -/
theorem of_targets {s t : State} (nand : t.nand = { s.nand with targets := t.nand.targets })
    (ids : ∀ k, (tgtOf t k).id = (tgtOf s k).id) : FoundKept s t :=
  ⟨by rw [nand], by rw [nand], by rw [nand], by rw [nand], ids, by rw [nand]; exact id⟩

end FoundKept

theorem modTgt_foundKept {f : Target → Target} (h : ∀ t, (f t).id = t.id) (g : Nat) (s : State) : FoundKept s (modTgt g f s) :=
  .of_targets rfl fun k => modTgt_tgtId h g k s

theorem markBad_foundKept (g x : Nat) (s : State) : FoundKept s (markBad g x s) :=
  .of_targets (markBad_nand g x s) fun k => markBad_tgtId g x k s

theorem factoryScan_foundKept (s : State) : FoundKept s (factoryScan s) := by
  unfold factoryScan
  split
  · exact .refl s
  · extract_lets s1 s2
    have cleared : FoundKept s s1 := .foldl (fun t g => modTgt_foundKept (fun _ => by rfl) g t) _ s
    have marked : FoundKept s1 s2 := .foldl (fun (t : State) (p : Nat × Nat) => markBad_foundKept p.1 p.2 t) _ s1
    exact (cleared.trans marked).trans (.of_fields rfl rfl rfl rfl rfl rfl rfl)

/-- With too few stripes, VALID goes and code 0x8 comes. -/
theorem geomShort_foundKept (s : State) : FoundKept s (geomShort s) :=
  ⟨rfl, rfl, rfl, rfl, fun _ => rfl, fun _ => by simp [geomShort]⟩

theorem prepStart_foundKept (s : State) : FoundKept s (prepStart s) := by
  refine (factoryScan_foundKept s).trans ?_
  unfold prepStart
  extract_lets s r first id e s1 nand
  split
  · exact geomShort_foundKept s
  · have passed : FoundKept s s1 := .foldl (fun t g => by
      split
      next p _ => exact modTgt_foundKept (f := passStripe (gBpp t) p.2) (fun _ => rfl) g t
      next => exact .refl t) _ s
    exact passed.trans (.of_fields rfl rfl rfl rfl rfl rfl rfl)

theorem prepMaybe_foundKept (s : State) : FoundKept s (prepMaybe s) := by
  unfold prepMaybe
  split
  · exact prepStart_foundKept s
  · exact .refl s

theorem armComb_foundKept (e : CatEntry) (s : State) : FoundKept s (armComb e s) :=
  .of_fields rfl rfl rfl rfl rfl rfl rfl

theorem rearm_foundKept (unerased : List (Nat × Nat)) (s : State) : FoundKept s (rearm unerased s) := by
  unfold rearm
  split
  · split
    · extract_lets left
      split
      · exact armComb_foundKept _ s
      · exact .of_fields rfl rfl rfl rfl rfl rfl rfl
    · exact .refl s
  · exact .refl s

theorem tally_foundKept (src kind : Nat) (addr : Word) (s : State) : FoundKept s (tally src kind addr s) :=
  have nand : (tally src kind addr s).nand = s.nand := by simp
  .of_fields (by rw [nand]) (by rw [nand]) (by rw [nand]) (by rw [nand]) (by rw [nand]) (by rw [nand]) (by rw [nand])

/-! Bring-up in steps (R244, R246, R262). -/

/-- Channel c shows its enabled chips that are present. -/
def chipsShown (b : BringUp) (s : State) (c : Nat) : State :=
  modChan c (fun x => { x with present := fld (b.present &&& BitVec.ofNat 32 (ceEn s c * 2 ^ (4 * c))) (4 * c) 4 }) s

/-- Target g shows its identification, if it is enabled and present. -/
def idShown (b : BringUp) (s : State) (g : Nat) : State :=
  modTgt g (fun x => { x with id := if tgtOn s g && b.present.getLsbD g then b.ids.getD g 0 else 0 }) s

/-- The chips and the identifications of all channels and targets. -/
def chipsFound (b : BringUp) (s : State) : State := (List.range 32).foldl (idShown b) ((List.range 8).foldl (chipsShown b) s)

/-- The geometry checks decide VALID. -/
def geometryJudged (b : BringUp) (s : State) : State :=
  { s with nand := { s.nand with
    bringUp := false, broughtUp := true, valid := geomCode s (some b) == 0, geomErr := geomCode s (some b), marks := b.marks } }

/-- An armed Comb is armed again, or the failing code is told. -/
def verdictServed (code : Nat) (b : BringUp) (s : State) : State :=
  if code = 0 then rearm b.unerased s else tally 0x2E 1 (BitVec.ofNat 32 code) s

/-- The NAND's power after bring-up. -/
def powerSettled (s : State) : State :=
  { s with nand := { s.nand with
    power := s.nand.valid && ((s.top.state = .harvest || s.top.state = .ret || s.top.state = .early) || s.nand.prep || s.dram.active) } }

theorem geometryJudged_agrees (b : BringUp) (s : State) :
    (geometryJudged b s).nand.valid = true ↔ (geometryJudged b s).nand.geomErr = 0 := beq_iff_eq

theorem geometryJudged_tgtOf (b : BringUp) (g : Nat) (s : State) : tgtOf (geometryJudged b s) g = tgtOf s g := rfl

theorem bringUpDone_of_running (b : BringUp) {s : State} (h : s.nand.bringUp = true) : bringUpDone b s =
    powerSettled (prepMaybe (verdictServed (geomCode (chipsFound b s) (some b)) b (geometryJudged b (chipsFound b s)))) :=
  if_pos h

theorem bringUpDone_of_idle (b : BringUp) {s : State} (h : s.nand.bringUp = false) : bringUpDone b s = s := if_neg (by simp [h])

/-- The channel's bits of a mask over all channels. -/
theorem fld_channel_mask (w : Word) (n : Nat) {c : Nat} (hc : c < 8) :
    fld (w &&& BitVec.ofNat 32 (n * 2 ^ (4 * c))) (4 * c) 4 = fld w (4 * c) 4 &&& n := by
  refine Nat.eq_of_testBit_eq fun i => ?_
  rw [Nat.testBit_and, fld_testBit, fld_testBit, BitVec.getLsbD_and, BitVec.getLsbD_ofNat, Nat.testBit_mul_two_pow]
  by_cases hi : i < 4
  · have inside : 4 * c + i < 32 := by omega
    simp [hi, inside]
  · simp [hi]

theorem tgtOn_congr {s t : State} (h : t.conf.cur = s.conf.cur) (g : Nat) : tgtOn t g = tgtOn s g := by rw [tgtOn, cw_congr h, tgtOn]

theorem foldl_chipsShown (b : BringUp) (s : State) : ∀ n, n ≤ 8 → ∀ c, c < n →
    (chanOf ((List.range n).foldl (chipsShown b) s) c).present = fld b.present (4 * c) 4 &&& ceEn s c
  | n + 1, hn, c, hc => by
    rw [List.range_succ, List.foldl_append]
    have conf := foldl_conf (f := chipsShown b) (fun _ _ => rfl) (List.range n) s
    by_cases hcn : c = n
    · rw [hcn, List.foldl_cons, List.foldl_nil, chipsShown, modChan_chanOf, ceEn, cw_congr (congrArg _ conf), ← ceEn]
      exact fld_channel_mask b.present _ hn
    · rw [List.foldl_cons, List.foldl_nil, chipsShown, modChan_chanOf_ne _ _ hcn]
      exact foldl_chipsShown b s n (by omega) c (by omega)

theorem foldl_idShown (b : BringUp) (s : State) : ∀ n g, g < n →
    (tgtOf ((List.range n).foldl (idShown b) s) g).id = if tgtOn s g && b.present.getLsbD g then b.ids.getD g 0 else 0
  | n + 1, g, hg => by
    rw [List.range_succ, List.foldl_append]
    have conf := foldl_conf (f := idShown b) (fun _ _ => rfl) (List.range n) s
    by_cases hgn : g = n
    · rw [hgn, List.foldl_cons, List.foldl_nil, idShown, modTgt_tgtOf, tgtOn_congr (congrArg _ conf)]
    · rw [List.foldl_cons, List.foldl_nil, idShown, modTgt_tgtOf_ne _ _ hgn]
      exact foldl_idShown b s n g (by omega)

/-- The configuration, the admission map and the array stay. -/
theorem chipsFound_blocks (b : BringUp) (s : State) : (chipsFound b s).conf = s.conf ∧ (chipsFound b s).adm = s.adm ∧
    (chipsFound b s).arr = s.arr := by
  simp [chipsFound, chipsShown, idShown]

theorem chipsFound_shows (b : BringUp) (s : State) :
    (∀ c, c < 8 → (chanOf (chipsFound b s) c).present = fld b.present (4 * c) 4 &&& ceEn s c) ∧
      (∀ g, g < 32 → (tgtOf (chipsFound b s) g).id = if tgtOn s g && b.present.getLsbD g then b.ids.getD g 0 else 0) := by
  let t := (List.range 8).foldl (chipsShown b) s
  have chans : (chipsFound b s).nand.chans = t.nand.chans := foldl_proj (idShown b) (·.nand.chans) (fun _ _ => rfl) _ t
  have conf : t.conf = s.conf := foldl_conf (f := chipsShown b) (fun _ _ => rfl) _ s
  refine ⟨fun c hc => ?_, fun g hg => ?_⟩
  · rw [chanOf, chans]
    exact foldl_chipsShown b s 8 (Nat.le_refl 8) c hc
  · rw [← tgtOn_congr (congrArg _ conf)]
    exact foldl_idShown b t 32 g hg

theorem geometryJudged_others (b : BringUp) (s : State) : let t := geometryJudged b s
    t.conf = s.conf ∧ t.adm = s.adm ∧ t.arr = s.arr := ⟨rfl, rfl, rfl⟩

theorem verdictServed_leaves (code : Nat) (b : BringUp) (s : State) : let t := verdictServed code b s
    FoundKept s t ∧ t.conf = s.conf ∧ t.adm = s.adm ∧ t.arr = s.arr := by
  intro t
  simp only [t, verdictServed]
  split
  · exact ⟨rearm_foundKept _ s, by simp, by simp, by simp⟩
  · exact ⟨tally_foundKept _ _ _ s, by simp, by simp, by simp⟩

/-- What follows the geometry checks keeps what they and the chips show. -/
theorem bringUpDone_keeps_found (b : BringUp) {s : State} (h : s.nand.bringUp = true) :
    FoundKept (geometryJudged b (chipsFound b s)) (bringUpDone b s) := by
  obtain ⟨served, -⟩ := verdictServed_leaves (geomCode (chipsFound b s) (some b)) b (geometryJudged b (chipsFound b s))
  rw [bringUpDone_of_running b h]
  exact (served.trans (prepMaybe_foundKept _)).trans (.of_fields rfl rfl rfl rfl rfl rfl rfl)

theorem bringUpDone_blocks_kept (b : BringUp) {s : State} (h : s.nand.bringUp = true) : let t := bringUpDone b s
    t.arr.mem = s.arr.mem ∧ t.adm = s.adm ∧ t.conf = s.conf := by
  intro t
  have ht : t = _ := bringUpDone_of_running b h
  obtain ⟨conf, adm, arr⟩ := chipsFound_blocks b s
  obtain ⟨confJudged, admJudged, arrJudged⟩ := geometryJudged_others b (chipsFound b s)
  obtain ⟨-, confServed, admServed, arrServed⟩ :=
    verdictServed_leaves (geomCode (chipsFound b s) (some b)) b (geometryJudged b (chipsFound b s))
  generalize verdictServed _ b _ = u at ht confServed admServed arrServed
  obtain ⟨⟨mem, -, -⟩, -, -⟩ := prepMaybe_armingKept u
  obtain ⟨-, confKept, -, -, -, admKept, -⟩ := prepMaybe_blocks u
  rw [ht]
  refine ⟨mem.trans ?_, admKept.trans ?_, confKept.trans ?_⟩
  · rw [arrServed, arrJudged, arr]
  · rw [admServed, admJudged, adm]
  · rw [confServed, confJudged, conf]

/-- Settles O44: the end of a preparation neither brings a stripe back nor stores a byte, and a replacement keeps the failed stripe in
the map; what follows the geometry checks of bring-up keeps the chips shown, and VALID goes only with a code. -/
theorem nandUpkeep : Obligations.NandUpkeep := by
  unfold Obligations.NandUpkeep
  refine ⟨fun g x s hprep hleft => ⟨?_, ?_⟩, fun g x pass s h => ?_, fun b s h => ?_, fun b s h => ?_⟩
  · obtain ⟨reported, targets, mem, -, -⟩ := eraseDone_pass_leaves hprep hleft
    refine ⟨_, exec_nandEraseDone g x true s, reported, targets, by simp, by simp, mem, fun hmore => ?_, fun hlast hrearm he => ?_,
      fun e hlast hnew he => ?_⟩
    · rw [eraseDone_of_more hprep hleft hmore]
      exact ⟨rfl, rfl⟩
    · obtain ⟨e, he⟩ := Option.isSome_iff_exists.1 he
      rw [eraseDone_of_last hprep hleft hlast, prepEnd_of_rearm (s := stripeErased g x s) hrearm he]
      exact ⟨rfl, rfl⟩
    · rw [eraseDone_of_last hprep hleft hlast, prepEnd_of_new (s := stripeErased g x s) hnew, prepArm_nand (s := stripeErased g x s) he]
      exact ⟨rfl, rfl⟩
  · obtain ⟨bad, fails, geomErr, mem⟩ := eraseDone_fail_leaves hprep hleft
    exact ⟨_, exec_nandEraseDone g x false s, bad, fails, geomErr, mem, by simp, by simp⟩
  · rw [exec_nandEraseDone, eraseDone_of_idle pass h]
  · obtain ⟨bringUp, broughtUp, marks, chans, ids, judged⟩ := bringUpDone_keeps_found b h
    obtain ⟨present, shown⟩ := chipsFound_shows b s
    refine ⟨_, exec_nandBringUpDone b s, bringUp, broughtUp, judged (geometryJudged_agrees _ _), marks, fun c hc => ?_,
      fun g hg => ?_, bringUpDone_blocks_kept b h⟩
    · rw [chanOf, chans]
      exact present c hc
    · rw [ids, geometryJudged_tgtOf]
      exact shown g hg
  · rw [exec_nandBringUpDone, bringUpDone_of_idle b h]

end Sys2Proof.Machine
end

section
/-! PROOFS. Steps and the queue: a step runs the oldest waiting command, and no command sends another (95, log entry 3). -/

namespace Sys2Proof.Machine

theorem step_cons {c : Instr} {cs : List Instr} {s : State} (h : s.pending = c :: cs) : step s = exec c { s with pending := cs } := by
  rw [step, h]

theorem step_nil {s : State} (h : s.pending = []) : step s = .next s := by
  rw [step, h]

/-- Settles O1: the two cases of the queue. -/
theorem stepRunsOldestCommand : Obligations.StepRunsOldestCommand :=
  ⟨fun _ _ _ h => step_cons h, fun _ h => step_nil h⟩

theorem frameBoundary_pending (f : FrameIn) (s : State) : (frameBoundary f s).pending = s.pending := by
  cases hp : powered s with
  | false => rw [frameBoundary_off f s hp]
  | true => exact (frameBoundary_moves f s hp).2.1

/-- No command touches the queue behind it. -/
theorem exec_pending {c : Instr} {s t : State} (h : exec c s = .next t) : t.pending = s.pending := by
  cases hc : movesState c with
  | false =>
    obtain ⟨-, -, -, -, pending⟩ := exec_stays c s t hc h
    exact pending
  | true =>
    rcases movesState_cases hc with ⟨f, rfl⟩ | ⟨x, rfl⟩ | ⟨w, rfl⟩ | rfl | rfl | rfl | ⟨w, rfl⟩ <;> cases h
    · exact frameBoundary_pending f s
    · obtain ⟨-, -, -, pending, -⟩ := holdSample_moved x s
      exact pending
    · rcases wakeQualified_moved w s with h | ⟨-, -, -, -, -, pending⟩
      · rw [h]
      · exact pending
    · obtain ⟨-, -, -, -, pending⟩ := aonPor_moved s
      exact pending
    · rcases aonPorRelease_moved s with h | ⟨-, -, -, -, -, pending⟩
      · rw [h]
      · exact pending
    · rcases coreBor_moved s with h | ⟨-, -, -, -, -, pending⟩
      · rw [h]
      · exact pending
    · rcases coreBorRelease_moved w s with h | ⟨-, -, pending, -⟩
      · rw [h]
      · exact pending

/-- Settles O2: the step takes the head off the queue, and the command leaves the rest. -/
theorem stepConsumesOneCommand : Obligations.StepConsumesOneCommand := by
  intro s t h
  cases hq : s.pending with
  | nil =>
    rw [step_nil hq] at h
    cases h
    exact hq
  | cons c cs =>
    rw [step_cons hq] at h
    exact exec_pending h

end Sys2Proof.Machine
end

section
/-! PROOFS. The array's words: which functions of the model leave them as they are (13_internal_array.md, R289). Only `setWord` and
`blankSector` write them; each function that calls neither keeps them, and here it says so once. -/

namespace Sys2Proof.Machine

section
variable (c : Prop) [Decidable c]
@[simp] theorem mem_ite (a b : ArrB) : (if c then a else b).mem = if c then a.mem else b.mem := apply_ite _ _ _ _
end
@[simp] theorem foldl_mem {β : Type} (f : State → β → State) (h : ∀ s x, (f s x).arr.mem = s.arr.mem) (l : List β) (s : State) :
    (l.foldl f s).arr.mem = s.arr.mem := foldl_proj f (·.arr.mem) h l s
@[simp] theorem setPort_mem (r : Requester) (p : ArrPort) (s : State) : (setPort r p s).arr.mem = s.arr.mem := by
  unfold setPort; split <;> rfl

@[simp] theorem gate_mem (e : PostEntry) (f : State → State) (s : State) (h : ∀ s, (f s).arr.mem = s.arr.mem) : (gate e f s).arr.mem = s.arr.mem := by
  simp [gate, h]

@[simp] theorem leave_mem (e : PostEntry) (f : State → State) (s : State) (h : ∀ s, (f s).arr.mem = s.arr.mem) : (leave e f s).arr.mem = s.arr.mem := by
  have ht : ∀ u, takePost e s = some u → u.arr = s.arr := by
    intro u hu
    unfold takePost at hu
    (repeat' split at hu) <;> cases hu <;> rfl
  unfold leave
  repeat' split
  · rfl
  · next u hu => rw [gate_mem _ _ _ h, ht u hu]
  · rfl

@[simp] theorem busRead_mem (f : State → Word × State) (s : State) (h : ∀ s, (f s).2.arr.mem = s.arr.mem) : (busRead f s).arr.mem = s.arr.mem := by
  simp [busRead, h]

theorem consider_arr (it : Item) (s : State) : (consider it s).1.arr = s.arr := by
  unfold consider
  dsimp only
  split <;> simp [bumpAcct]

@[simp] theorem considerAll_arr : ∀ (q : List Item) (bl : List Nat) (s : State), (considerAll q bl s).1.arr = s.arr
  | [], _, _ => rfl
  | it :: q, bl, s => by
    have hk := consider_arr it s
    unfold considerAll
    split
    · exact considerAll_arr q bl s
    · split
      · next s1 heq => rw [heq] at hk; rw [considerAll_arr q bl s1, hk]
      · next s1 it1 heq => rw [heq] at hk; exact (considerAll_arr q (it1.res :: bl) s1).trans hk

theorem takeDone_arr {w : Work} {s t : State} (h : takeDone w s = some t) : t.arr = s.arr := by
  unfold takeDone at h
  (repeat' split at h) <;> cases h <;> rfl

@[simp] theorem ledgerClose_arr (st : DevState) (s : State) : (ledgerClose st s).arr = s.arr := by
  simp [ledgerClose]

@[simp] theorem ledgerOpen_arr (s : State) : (ledgerOpen s).arr = s.arr := by
  simp [ledgerOpen]

@[simp] theorem admitScanDone_arr (t : Nat) (s : State) : (admitScanDone t s).arr = s.arr := by
  unfold admitScanDone
  split
  · split
    · split
      · next h => dsimp only; (repeat' split) <;> simp [takeDone_arr h]
      · rfl
    · rfl
  · rfl

@[simp] theorem mapRecountDone_arr (s : State) : (mapRecountDone s).arr = s.arr := by
  unfold mapRecountDone
  split
  · next h => simp [takeDone_arr h]
  · rfl

@[simp] theorem admitMapWriteDone_arr (t : Nat) (s : State) : (admitMapWriteDone t s).arr = s.arr := by
  unfold admitMapWriteDone
  (repeat' split) <;> try rfl
  next h => dsimp only; (repeat' split) <;> simp [takeDone_arr h]

@[simp] theorem cleanScanDone_arr (t : Nat) (s : State) : (cleanScanDone t s).arr = s.arr := by
  unfold cleanScanDone
  split
  · split
    · split
      · next h => dsimp only; (repeat' split) <;> simp [takeDone_arr h]
      · rfl
    · rfl
  · rfl

@[simp] theorem cleanWriteDone_arr (t : Nat) (s : State) : (cleanWriteDone t s).arr = s.arr := by
  unfold cleanWriteDone
  (repeat' split) <;> try rfl
  next h => dsimp only; (repeat' split) <;> simp [takeDone_arr h]

@[simp] theorem demandLookupDone_arr (r : Nat) (s : State) : (demandLookupDone r s).arr = s.arr := by
  unfold demandLookupDone
  split
  · rfl
  · split
    · next h => simp [takeDone_arr h]
    · simp

@[simp] theorem setHstate_mem (r : Requester) (h : Nat) (s : State) : (setHstate r h s).arr.mem = s.arr.mem := by
  simp [setHstate]

@[simp] theorem endCmd_mem (r : Requester) (h : Nat) (s : State) : (endCmd r h s).arr.mem = s.arr.mem := by
  simp [endCmd]

@[simp] theorem rejCmd_mem (r : Requester) (code : Nat) (s : State) : (rejCmd r code s).arr.mem = s.arr.mem := by
  simp [rejCmd]

@[simp] theorem resumeSusp_mem (minRun : Nat) (s : State) : (resumeSusp minRun s).arr.mem = s.arr.mem := by
  unfold resumeSusp; split <;> simp

@[simp] theorem startNext_mem (s : State) : (startNext s).arr.mem = s.arr.mem := by
  unfold startNext; (repeat' split) <;> simp

@[simp] theorem submit_mem (o : ArrOp) (s : State) : (submit o s).arr.mem = s.arr.mem := by
  simp [submit]

@[simp] theorem keepRecord_mem (lo hi tag arg : Nat) (d : DWord) (s : State) : (keepRecord lo hi tag arg d s).arr.mem = s.arr.mem := by
  simp [keepRecord]

@[simp] theorem suspendRun_mem (cause : Nat) (s : State) : (suspendRun cause s).arr.mem = s.arr.mem := by
  unfold suspendRun; split <;> simp

@[simp] theorem touchBank_mem (off : Nat) (s : State) : (touchBank off s).arr.mem = s.arr.mem := by
  unfold touchBank; split <;> simp

@[simp] theorem serveRead_mem (r : Requester) (off : Nat) (s : State) : (serveRead r off s).arr.mem = s.arr.mem := by
  obtain ⟨-, -, -, -, -, -, -, arr, -⟩ := readWord_blocks (off / 8) (touchBank off s)
  unfold serveRead
  split <;> next heq => rw [heq] at arr; dsimp only at arr; simp [arr]

@[simp] theorem serveBlank_mem (r : Requester) (off : Nat) (s : State) : (serveBlank r off s).arr.mem = s.arr.mem := by
  simp only [serveBlank]; (repeat' split) <;> simp

@[simp] theorem stallRead_mem (r : Requester) (blank : Bool) (off : Nat) (erase : Bool) (s : State) : (stallRead r blank off erase s).arr.mem = s.arr.mem := by
  simp [stallRead]

@[simp] theorem tryRead_mem (r : Requester) (blank : Bool) (off : Nat) (s : State) : (tryRead r blank off s).arr.mem = s.arr.mem := by
  unfold tryRead; (repeat' split) <;> simp

@[simp] theorem serveWaits_mem (s : State) : (serveWaits s).arr.mem = s.arr.mem := by
  unfold serveWaits
  refine foldl_mem _ (fun s r => ?_) _ _
  (repeat' split) <;> simp

@[simp] theorem arrCmd_mem (r : Requester) (op key arg : Nat) (s : State) : (arrCmd r op key arg s).arr.mem = s.arr.mem := by
  unfold arrCmd; (repeat' split) <;> simp

@[simp] theorem arrCmdWord_mem (r : Requester) (data : Word) (be : ByteEn) (s : State) : (arrCmdWord r data be s).arr.mem = s.arr.mem := by
  simp [arrCmdWord]

@[simp] theorem arrRow_mem (r : Requester) (op key arg : Nat) (be : ByteEn) (s : State) : (arrRow r op key arg be s).arr.mem = s.arr.mem := by
  unfold arrRow; split <;> simp

@[simp] theorem suspended_mem (r : Requester) (s : State) : (suspended r s).arr.mem = s.arr.mem := by
  simp [suspended]

@[simp] theorem suspendEffect_mem (s : State) : (suspendEffect s).arr.mem = s.arr.mem := by
  unfold suspendEffect; split <;> simp

@[simp] theorem autoResume_mem (s : State) : (autoResume s).arr.mem = s.arr.mem := by
  unfold autoResume; split <;> simp

@[simp] theorem arrBoundary_mem (s : State) : (arrBoundary s).arr.mem = s.arr.mem := by
  simp [arrBoundary]

@[simp] theorem arrCharge_mem (s : State) : (arrCharge s).arr.mem = s.arr.mem := by
  unfold arrCharge; split <;> simp

@[simp] theorem harvestFlush_mem (s : State) : (harvestFlush s).arr.mem = s.arr.mem := by
  simp [harvestFlush]

@[simp] theorem arrSoft_mem (s : State) : (arrSoft s).arr.mem = s.arr.mem := by
  simp [arrSoft]

@[simp] theorem arrWatchdog_mem (b : Bool) (s : State) : (arrWatchdog b s).arr.mem = s.arr.mem := by
  simp [arrWatchdog]

/-- The read inside an access of a core. -/
theorem readPair_mem {w : Nat} {s t : State} (ht : t.arr.mem = s.arr.mem) :
    (match readWord w t with
      | (some d, s1) => (ArrAccess.value d, s1)
      | (none, s1) => (ArrAccess.fault, s1)).2.arr.mem = s.arr.mem := by
  have hr : (readWord w t).2.arr.mem = t.arr.mem := by simp
  split <;> next heq => rw [heq] at hr; exact hr.trans ht

@[simp] theorem coreAccess_mem (b : Bool) (off : Nat) (isFetch : Bool) (s : State) : (coreAccess b off isFetch s).2.arr.mem = s.arr.mem := by
  unfold coreAccess
  extract_lets p stat read
  split
  · exact readPair_mem (touchBank_mem off s)
  · split <;> simp
  · split
    · rfl
    · split
      · exact readPair_mem ((touchBank_mem off _).trans (suspendRun_mem 1 s))
      · split <;> simp
  · split <;> rfl

@[simp] theorem markAccess_mem (b : Bool) (a : ArrAccess) (s : State) : (markAccess b a s).arr.mem = s.arr.mem := by
  unfold markAccess; split <;> simp

@[simp] theorem storeWindow_arr (b : Bool) (off size : Nat) (data : Word) (s : State) : (storeWindow b off size data s).arr = s.arr := by
  have hk : (storeFlag (off / 4 * 4) size (off % 4) data s).2.arr = s.arr := by simp
  unfold storeWindow
  extract_lets w d ext dm
  repeat' split
  case h_1 heq => rw [heq] at hk; simpa using hk
  case h_2 heq => rw [heq] at hk; exact hk
  all_goals simp

@[simp] theorem storeArrWin_mem (b : Bool) (off size : Nat) (data : Word) (s : State) : (storeArrWin b off size data s).arr.mem = s.arr.mem := by
  simp [storeArrWin]

@[simp] theorem loadArrWin_mem (b : Bool) (off size : Nat) (s : State) : (loadArrWin b off size s).arr.mem = s.arr.mem := by
  simp [loadArrWin]

theorem performStore_mem {b : Bool} {w : BufStore} {s t : State} (h : performStore b w s = some t) : t.arr.mem = s.arr.mem := by
  obtain ⟨-, -, -, -, -, -, -, arr, -⟩ := ramWrite_blocks b w.addr.toNat w.size w.data s
  unfold performStore at h
  extract_lets a at h
  (repeat' split at h)
  · cases h
  · cases h; simp
  · next heq => cases h; rw [heq] at arr; dsimp only at arr; simp [arr]
  · next heq => cases h; rw [heq] at arr; dsimp only at arr; simp [arr]

theorem performHead_mem {b : Bool} {s t : State} (h : performHead b s = some t) : t.arr.mem = s.arr.mem := by
  unfold performHead at h
  split at h
  · cases h; rfl
  · rw [performStore_mem h]; simp

theorem drain_mem {b : Bool} : ∀ {n : Nat} {s t : State}, drain b n s = some t → t.arr.mem = s.arr.mem
  | 0, s, t, h => by cases h; rfl
  | n + 1, s, t, h => by
    unfold drain at h
    split at h
    · next s1 h1 => rw [drain_mem h, performHead_mem h1]
    · cases h

theorem drainAll_mem {b : Bool} {s t : State} (h : drainAll b s = some t) : t.arr.mem = s.arr.mem := drain_mem h

@[simp] theorem watchdogReset_mem (b : Bool) (s : State) : (watchdogReset b s).arr.mem = s.arr.mem := by
  simp [watchdogReset]

@[simp] theorem haltCore_mem (b : Bool) (s : State) : (haltCore b s).arr.mem = s.arr.mem := by
  simp [haltCore]

@[simp] theorem quiesceCore_mem (b : Bool) (s : State) : (quiesceCore b s).arr.mem = s.arr.mem := by
  unfold quiesceCore
  refine (foldl_mem _ (fun s w => ?_) _ _).trans (by simp)
  cases h : performStore b w s with
  | none => rfl
  | some t => exact performStore_mem h

@[simp] theorem trainDone_mem (okHost ok2400 : Bool) (s : State) : (trainDone okHost ok2400 s).arr.mem = s.arr.mem := by
  simp [trainDone, storeSet_mem]

@[simp] theorem trickleGo_arr (s : State) : (trickleGo s).arr = s.arr := by
  simp [trickleGo]

@[simp] theorem keepGeom_mem (kind val : Nat) (s : State) : (keepGeom kind val s).arr.mem = s.arr.mem := by
  simp [keepGeom]

@[simp] theorem geomWake_mem (s : State) : (geomWake s).arr.mem = s.arr.mem := by
  simp [geomWake]

@[simp] theorem markBad_mem (t x : Nat) (s : State) : (markBad t x s).arr.mem = s.arr.mem := by
  simp [markBad]

@[simp] theorem catProgram_mem (e : CatEntry) (w : Nat) (s : State) : (catProgram e w s).arr.mem = s.arr.mem := by
  simp [catProgram]

@[simp] theorem endEntry_mem (kind : Nat) (id : Nat) (s : State) : (endEntry kind id s).arr.mem = s.arr.mem := by
  unfold endEntry; split <;> simp

@[simp] theorem factoryScan_mem (s : State) : (factoryScan s).arr.mem = s.arr.mem := by
  simp [factoryScan]

@[simp] theorem prepStart_mem (s : State) : (prepStart s).arr.mem = s.arr.mem := by
  unfold prepStart
  dsimp only
  split
  · simp
  · refine (foldl_mem _ (fun s t => ?_) _ _).trans (by simp)
    split <;> simp

@[simp] theorem prepMaybe_mem (s : State) : (prepMaybe s).arr.mem = s.arr.mem := by
  simp [prepMaybe]

@[simp] theorem prepArm_mem (s : State) : (prepArm s).arr.mem = s.arr.mem := by
  unfold prepArm; split <;> simp

@[simp] theorem prepEnd_mem (s : State) : (prepEnd s).arr.mem = s.arr.mem := by
  unfold prepEnd; (repeat' split) <;> simp

@[simp] theorem eraseDone_mem (t stripe : Nat) (pass : Bool) (s : State) : (eraseDone t stripe pass s).arr.mem = s.arr.mem := by
  simp only [eraseDone]; (repeat' split) <;> simp

@[simp] theorem armLoss_mem (s : State) : (armLoss s).arr.mem = s.arr.mem := by
  unfold armLoss
  split
  · extract_lets s1 cells s2 _ _ s3
    have h2 : s2.arr.mem = s1.arr.mem := foldl_mem _ (fun s c => by dsimp only; split <;> simp) cells s1
    simp [s3, h2, s1]
  · rfl

@[simp] theorem bringUpDone_mem (b : BringUp) (s : State) : (bringUpDone b s).arr.mem = s.arr.mem := by
  simp [bringUpDone]

@[simp] theorem voidUnit_arr (u : ProgUnit) (s : State) : (voidUnit u s).arr = s.arr := by
  simp [voidUnit]

@[simp] theorem unitStatus_arr (t page : Nat) (pass : Bool) (s : State) : (unitStatus t page pass s).arr = s.arr := by
  unfold unitStatus; split <;> simp

@[simp] theorem trickleFails_mem (t page : Nat) (s : State) : (trickleFails t page s).arr.mem = s.arr.mem := by
  simp [trickleFails]

@[simp] theorem trickleStatus_mem (t page : Nat) (pass : Bool) (s : State) : (trickleStatus t page pass s).arr.mem = s.arr.mem := by
  unfold trickleStatus; split <;> simp

@[simp] theorem targetTimeout_mem (t : Nat) (s : State) : (targetTimeout t s).arr.mem = s.arr.mem := by
  unfold targetTimeout; (repeat' split) <;> simp

@[simp] theorem compact_mem (s : State) : (compact s).arr.mem = s.arr.mem := by
  simp [compact]

@[simp] theorem dispatch_arr : ∀ (n : Nat) (s : State), (dispatch n s).arr = s.arr
  | 0, _ => rfl
  | n + 1, s => by
    unfold dispatch
    split
    · rfl
    · split
      · exact (dispatch_arr n _).trans (by simp)
      · next c cs _ _ =>
        have hk : (scanHead c s).2.arr = s.arr := by simp
        split
        · next heq => rw [heq] at hk; exact ((dispatch_arr n _).trans (by simp)).trans hk
        · next heq => rw [heq] at hk; exact hk
      · rfl

@[simp] theorem drainFrame_arr (s : State) : (drainFrame s).arr = s.arr := by
  simp [drainFrame]

@[simp] theorem clearViews_arr (s : State) : (clearViews s).arr = s.arr := by
  simp [clearViews]

@[simp] theorem harvestBegin_arr (s : State) : (harvestBegin s).arr = s.arr := by
  simp [harvestBegin]

@[simp] theorem openComb_mem (e : CatEntry) (s : State) : (openComb e s).arr.mem = s.arr.mem := by
  simp [openComb]

@[simp] theorem drainEntry_mem (s : State) : (drainEntry s).arr.mem = s.arr.mem := by
  unfold drainEntry; (repeat' split) <;> simp

@[simp] theorem sealSuspend_mem (s : State) : (sealSuspend s).arr.mem = s.arr.mem := by
  unfold sealSuspend; split <;> simp

@[simp] theorem sealEntry_mem (stop : Bool) (s : State) : (sealEntry stop s).arr.mem = s.arr.mem := by
  simp [sealEntry]

@[simp] theorem sealWord_mem (s : State) : (sealWord s).arr.mem = s.arr.mem := by
  unfold sealWord; split <;> simp

@[simp] theorem dropRewrites_arr (s : State) : (dropRewrites s).arr = s.arr := by
  simp [dropRewrites]

@[simp] theorem sealFrame_mem (s : State) : (sealFrame s).arr.mem = s.arr.mem := by
  have hk : (scanOver s).1.arr.mem = s.arr.mem := by simp
  unfold sealFrame
  extract_lets waits
  split
  · split <;> simp
  · split
    · split
      · next heq => rw [heq] at hk; dsimp only at hk ⊢; (repeat' split) <;> simp [hk]
      · rfl
    · rfl

@[simp] theorem sealStatus_mem (t page : Nat) (pass : Bool) (s : State) : (sealStatus t page pass s).arr.mem = s.arr.mem := by
  unfold sealStatus; split <;> simp

@[simp] theorem programStatus_mem (t page : Nat) (pass : Bool) (s : State) : (programStatus t page pass s).arr.mem = s.arr.mem := by
  simp [programStatus]

@[simp] theorem cellSaved_arr (l : Nat) (s : State) : (cellSaved l s).arr = s.arr := by
  simp only [cellSaved]; (repeat' split) <;> simp

@[simp] theorem recordLost_arr (r : CellRun) (cause id : Nat) (s : State) : (recordLost r cause id s).arr = s.arr := by
  simp only [recordLost]; (repeat' split) <;> simp [injectMany_blocks]

@[simp] theorem markLost_arr (c : Nat) (s : State) : (markLost c s).arr = s.arr := by
  unfold markLost; split <;> simp

@[simp] theorem loseCell_arr (c : Nat) (s : State) : (loseCell c s).arr = s.arr := by
  simp [loseCell]

@[simp] theorem settleLanes_arr (s : State) : (settleLanes s).arr = s.arr := by
  simp [settleLanes]

@[simp] theorem returnBegin_arr (pending : List Nat) (s : State) : (returnBegin pending s).arr = s.arr := by
  simp [returnBegin]

@[simp] theorem enterRun_arr (id : Nat) (r : CellRun) (s : State) : (enterRun id r s).arr = s.arr := by
  simp [enterRun]

@[simp] theorem verifyDone_arr (v : VerifyIn) (s : State) : (verifyDone v s).arr = s.arr := by
  unfold verifyDone; (repeat' split) <;> simp

@[simp] theorem locate_arr (key : Nat) (f : Footer) (s : State) : (locate key f s).2.arr = s.arr := by
  simp only [locate]; (repeat' split) <;> simp [injectMany_blocks]

@[simp] theorem recordFooter_arr (id lane : Nat) (h : CombHdr) (f : Footer) (s : State) : (recordFooter id lane h f s).arr = s.arr := by
  unfold recordFooter; split <;> simp

@[simp] theorem sweepClose_arr (s : State) : (sweepClose s).arr = s.arr := by
  simp [sweepClose]

@[simp] theorem sweepUnit_arr (l : Nat) (fs : List Footer) (s : State) : (sweepUnit l fs s).arr = s.arr := by
  unfold sweepUnit; (repeat' split) <;> simp

@[simp] theorem waitGntBegin_arr (s : State) : (waitGntBegin s).arr = s.arr := by
  simp [waitGntBegin]

@[simp] theorem pageRead_arr (p : PageRead) (s : State) : (pageRead p s).arr = s.arr := by
  unfold pageRead; split <;> simp

@[simp] theorem sealBad_mem (s : State) : (sealBad s).arr.mem = s.arr.mem := by
  simp [sealBad]

@[simp] theorem doneBegin_mem (s0 : State) : (doneBegin s0).arr.mem = s0.arr.mem := by
  simp [doneBegin]

@[simp] theorem restoreCharge_arr (s : State) : (restoreCharge s).arr = s.arr := by
  unfold restoreCharge
  refine foldl_arr _ (fun s l => ?_) _ _
  split <;> simp [arr_ite]

@[simp] theorem returnFrame_arr (s : State) : (returnFrame s).arr = s.arr := by
  simp [returnFrame]

@[simp] theorem dintLoad_mem (load : State → State) (s : State) (h : ∀ s, (load s).arr.mem = s.arr.mem) :
    (dintLoad load s).arr.mem = s.arr.mem := by
  unfold dintLoad; split <;> simp [h]

@[simp] theorem esrKeep_mem (refcap : Bool) (e25 : Nat) (s : State) : (esrKeep refcap e25 s).arr.mem = s.arr.mem := by
  simp [esrKeep]

@[simp] theorem stepTestResult_mem (s : State) : (stepTestResult s).arr.mem = s.arr.mem := by
  simp only [stepTestResult]; (repeat' split) <;> simp

@[simp] theorem rcClear_arr (tid idx w : Nat) (s : State) : (rcClear tid idx w s).arr = s.arr := by
  simp [rcClear]

@[simp] theorem wordEffects_arr (tid idx w : Nat) (data mask : Word) (s : State) : (wordEffects tid idx w data mask s).arr = s.arr := by
  simp [wordEffects]

@[simp] theorem foldl_snd_arr {β γ : Type} (f : γ × State → β → γ × State) (h : ∀ a x, (f a x).2.arr = a.2.arr) :
    ∀ (l : List β) (a : γ × State), (l.foldl f a).2.arr = a.2.arr
  | [], _ => rfl
  | x :: l, a => (foldl_snd_arr f h l (f a x)).trans (h a x)

@[simp] theorem commitEntry_arr (tid idx : Nat) (ws : List (Word × ByteEn)) (s : State) : (commitEntry tid idx ws s).arr = s.arr := by
  unfold commitEntry
  extract_lets step r ps ok ok1 s1 s2 s3
  have hr : r.2.arr = s.arr := foldl_snd_arr _ (fun a x => by dsimp only [step]; split <;> simp) _ _
  clear_value r
  split
  · simp [hr]
  · simp [s3, s2, s1, hr]

@[simp] theorem logRead_mem (p : Nat × Record) (y : Bool) (s : State) : (logRead p y s).2.arr.mem = s.arr.mem := by
  unfold logRead
  extract_lets first
  have hk : (readWord (logOff p.1 y first / 8) s).2.arr.mem = s.arr.mem := by simp
  split <;> next heq =>
    rw [heq] at hk
    dsimp only at hk ⊢
    (repeat' split) <;> simp [hk]

@[simp] theorem logFetch_mem (idx : Nat) (s : State) : (logFetch idx s).2.arr.mem = s.arr.mem := by
  simp only [logFetch]; (repeat' split) <;> simp

@[simp] theorem foldl_snd_mem {β γ : Type} (f : γ × State → β → γ × State) (h : ∀ a x, (f a x).2.arr.mem = a.2.arr.mem) :
    ∀ (l : List β) (a : γ × State), (l.foldl f a).2.arr.mem = a.2.arr.mem
  | [], _ => rfl
  | x :: l, a => (foldl_snd_mem f h l (f a x)).trans (h a x)

@[simp] theorem entryFetch_mem (hi : BitVec 16) (tid idx : Nat) (s : State) : (entryFetch hi tid idx s).2.arr.mem = s.arr.mem := by
  unfold entryFetch
  split
  · simp
  · refine foldl_snd_mem _ (fun a x => ?_) _ _
    simp

@[simp] theorem latchFill_mem (s : State) : (latchFill s).arr.mem = s.arr.mem := by
  simp only [latchFill]; (repeat' split) <;> simp

@[simp] theorem fetchDone_mem (s : State) : (fetchDone s).arr.mem = s.arr.mem := by
  simp [fetchDone]

@[simp] theorem liveWord_arr (w : Word) (s : State) : (liveWord w s).2.arr = s.arr := by
  simp [liveWord]

@[simp] theorem readTblData_mem (s : State) : (readTblData s).2.arr.mem = s.arr.mem := by
  unfold readTblData; split <;> simp

@[simp] theorem stageData_arr (data : Word) (be : ByteEn) (s : State) : (stageData data be s).arr = s.arr := by
  simp [stageData]

@[simp] theorem applyTblData_arr (data : Word) (be : ByteEn) (s : State) : (applyTblData data be s).arr = s.arr := by
  unfold applyTblData; split <;> simp

@[simp] theorem leaveTblData_mem (data : Word) (be : ByteEn) (s : State) : (leaveTblData data be s).arr.mem = s.arr.mem := by
  simp [leaveTblData]

@[simp] theorem writeSpecial_mem (off : Nat) (data mask : Word) (s : State) : (writeSpecial off data mask s).arr.mem = s.arr.mem := by
  simp [writeSpecial]

@[simp] theorem applyRec_mem (s : State) (r : ImgRec) : (applyRec s r).arr.mem = s.arr.mem := by
  simp [applyRec]

@[simp] theorem revertRec_mem (s : State) (r : ImgRec) : (revertRec s r).arr.mem = s.arr.mem := by
  simp [revertRec]

@[simp] theorem enterOverlay_mem (st : DevState) (s : State) : (enterOverlay st s).arr.mem = s.arr.mem := by
  unfold enterOverlay; split <;> simp

@[simp] theorem aonOverlay_mem (s : State) : (aonOverlay s).arr.mem = s.arr.mem := by
  simp [aonOverlay]

@[simp] theorem ringsQuiet_arr (s : State) : (ringsQuiet s).arr = s.arr := by
  simp [ringsQuiet]

@[simp] theorem baseLoad_mem (s : State) : (baseLoad s).arr.mem = s.arr.mem := by
  simp [baseLoad]

@[simp] theorem commitStart_mem (s : State) : (commitStart s).arr.mem = s.arr.mem := by
  simp [commitStart]

@[simp] theorem overlayCommit_mem (s : State) : (overlayCommit s).arr.mem = s.arr.mem := by
  simp [overlayCommit]

@[simp] theorem applyOverlaySel_mem (data : Word) (be : ByteEn) (s : State) : (applyOverlaySel data be s).arr.mem = s.arr.mem := by
  simp [applyOverlaySel]

@[simp] theorem retire_mem (sec : Nat) (s : State) : (retire sec s).arr.mem = s.arr.mem := by
  simp [retire]

@[simp] theorem eraseFail_mem (sec : Nat) (s : State) : (eraseFail sec s).arr.mem = s.arr.mem := by
  simp [eraseFail]

@[simp] theorem endAll_mem (s : State) : (endAll s).arr.mem = s.arr.mem := by
  simp [endAll]

@[simp] theorem catalogScan_mem (headers : List Nat) (s : State) : (catalogScan headers s).arr.mem = s.arr.mem := by
  simp [catalogScan]

@[simp] theorem logCut_mem (s : State) : (logCut s).arr.mem = s.arr.mem := by
  simp only [logCut]; (repeat' split) <;> simp

@[simp] theorem softClear_mem (s0 : State) : (softClear s0).arr.mem = s0.arr.mem := by
  simp [softClear]

@[simp] theorem enterActive_mem (st : DevState) (ph : Phase) (s : State) : (enterActive st ph s).arr.mem = s.arr.mem := by
  simp [enterActive]

@[simp] theorem enterGuard_mem (s : State) : (enterGuard s).arr.mem = s.arr.mem := by
  simp [enterGuard]

@[simp] theorem enterWatch_mem (s : State) : (enterWatch s).arr.mem = s.arr.mem := by
  simp [enterWatch]

@[simp] theorem enterService_mem (s : State) : (enterService s).arr.mem = s.arr.mem := by
  simp [enterService]

@[simp] theorem enterReturn_mem (ids : List Nat) (s : State) : (enterReturn ids s).arr.mem = s.arr.mem := by
  simp [enterReturn]

@[simp] theorem enterEarly_mem (s : State) : (enterEarly s).arr.mem = s.arr.mem := by
  simp [enterEarly]

@[simp] theorem enterHarvest_mem (ph : Phase) (s : State) : (enterHarvest ph s).arr.mem = s.arr.mem := by
  simp [enterHarvest]

@[simp] theorem enterDecide_mem (s : State) : (enterDecide s).arr.mem = s.arr.mem := by
  simp [enterDecide]

@[simp] theorem enterIsolate_mem (wet pg tam later : Bool) (s : State) : (enterIsolate wet pg tam later s).arr.mem = s.arr.mem := by
  simp [enterIsolate]

@[simp] theorem enterReturnStop_mem (wet pg trip later : Bool) (s : State) : (enterReturnStop wet pg trip later s).arr.mem = s.arr.mem := by
  simp [enterReturnStop]

@[simp] theorem abortHarvest_mem (s : State) : (abortHarvest s).arr.mem = s.arr.mem := by
  simp [abortHarvest]

@[simp] theorem discardNow_mem (s : State) : (discardNow s).arr.mem = s.arr.mem := by
  simp [discardNow]

@[simp] theorem returnFails_mem (c : Cause) (later : Bool) (s : State) : (returnFails c later s).arr.mem = s.arr.mem := by
  simp [returnFails]

@[simp] theorem holdSample_mem (x : SlowSample) (s : State) : (holdSample x s).arr.mem = s.arr.mem := by
  simp [holdSample]

@[simp] theorem coreBorRelease_mem (w : WakeIn) (s : State) : (coreBorRelease w s).arr.mem = s.arr.mem := by
  simp [coreBorRelease]

@[simp] theorem sealEnd_mem (s : State) : (sealEnd s).arr.mem = s.arr.mem := by
  simp [sealEnd]

@[simp] theorem logErase_mem (k : Nat) (bankB : Bool) (s : State) : (logErase k bankB s).arr.mem = s.arr.mem := by
  simp [logErase]

@[simp] theorem logProgram_mem (i : Nat) (r : Record) (s : State) : (logProgram i r s).arr.mem = s.arr.mem := by
  simp [logProgram]

@[simp] theorem logStart_mem (s : State) : (logStart s).arr.mem = s.arr.mem := by
  unfold logStart; split <;> simp

@[simp] theorem logPrepare_mem (s : State) : (logPrepare s).arr.mem = s.arr.mem := by
  simp [logPrepare]

@[simp] theorem logYield_mem (s : State) : (logYield s).arr.mem = s.arr.mem := by
  unfold logYield; split <;> simp

@[simp] theorem logBoundary_mem (s : State) : (logBoundary s).arr.mem = s.arr.mem := by
  simp only [logBoundary]; (repeat' split) <;> simp

@[simp] theorem logStep_mem (i : Nat) (ok : Bool) (s : State) : (logStep i ok s).arr.mem = s.arr.mem := by
  unfold logStep; split <;> simp

@[simp] theorem logErased_mem (arg : Nat) (s : State) : (logErased arg s).arr.mem = s.arr.mem := by
  simp [logErased]

theorem endFails_arr (id : Nat) (s : State) : (endFails id s).arr = s.arr := by
  unfold endFails; split <;> simp

@[simp] theorem catFails_arr (arg : Nat) (s : State) : (catFails arg s).arr = s.arr := by
  unfold catFails; split <;> simp [arr_ite, endFails_arr]

@[simp] theorem catEnd_mem (o : ArrOp) (ok : Bool) (s : State) : (catEnd o ok s).arr.mem = s.arr.mem := by
  simp [catEnd]

@[simp] theorem notePulses_mem (r : Requester) (n : Nat) (s : State) : (notePulses r n s).arr.mem = s.arr.mem := by
  simp [notePulses]

@[simp] theorem windowEnd_arr (src : Nat) (s : State) : (windowEnd src s).arr = s.arr := by
  simp [windowEnd]

@[simp] theorem tallyBoundary_mem (s : State) : (tallyBoundary s).arr.mem = s.arr.mem := by
  simp only [tallyBoundary]; (repeat' split) <;> simp

@[simp] theorem tickFracs_arr (t : TickIn) (s : State) : (tickFracs t s).arr = s.arr := by
  simp [tickFracs]

@[simp] theorem tickTake_arr (t : TickIn) (s : State) : (tickTake t s).arr = s.arr := by
  simp [tickTake]

@[simp] theorem tickReceive_arr (t : TickIn) (s : State) : (tickReceive t s).arr = s.arr := by
  simp [tickReceive]

@[simp] theorem clearSticky_arr (g : Nat) (v : Word) (s : State) : (clearSticky g v s).arr = s.arr := by
  simp [clearSticky]

@[simp] theorem clearBits_arr (off : Nat) (v : Word) (s : State) : (clearBits off v s).arr = s.arr := by
  simp [clearBits]

@[simp] theorem applyReg_mem (off : Nat) (data : Word) (be : ByteEn) (s : State) : (applyReg off data be s).arr.mem = s.arr.mem := by
  simp [applyReg]

@[simp] theorem registerWrite_mem (e : PostEntry) (s : State) : (registerWrite e s).arr.mem = s.arr.mem := by
  simp [registerWrite]

@[simp] theorem orfRun_mem (name : List Nat) (p : List (List Nat) → Bool) (g : State → Bool) (f : State → State) (s : State)
    (h : ∀ s, (f s).arr.mem = s.arr.mem) : (orfRun name p g f s).arr.mem = s.arr.mem := by
  simp [orfRun, h]

@[simp] theorem sideWrite_mem (off : Nat) (d : Word) (f : State → State) (s : State) (h : ∀ s, (f s).arr.mem = s.arr.mem) :
    (sideWrite off d f s).1.arr.mem = s.arr.mem := by
  simp [sideWrite, unquiet, quiet, gate_mem _ _ _ h]

@[simp] theorem orfWr_mem (off : Nat) (val : Word) (s : State) : (orfWr off val s).arr.mem = s.arr.mem := by
  simp [orfWr]

@[simp] theorem ownEntry_mem (tid idx : Nat) (s : State) : (ownEntry tid idx s).2.arr.mem = s.arr.mem := by
  simp [ownEntry]

@[simp] theorem orfTb_mem (tid idx : Nat) (s : State) : (orfTb tid idx s).arr.mem = s.arr.mem := by
  have hk := ownEntry_mem tid idx s
  unfold orfTb
  split
  · simp
  · split
    · simp
    · split <;> next heq => rw [heq] at hk; simpa using hk

@[simp] theorem entryWrite_mem (tid idx : Nat) (ws : List Word) (s : State) : (entryWrite tid idx ws s).1.arr.mem = s.arr.mem := by
  unfold entryWrite
  dsimp only
  split
  · rfl
  · refine sideWrite_mem _ _ _ _ fun s => ?_
    split <;> simp

@[simp] theorem orfTl_mem (tid idx : Nat) (ws : List Word) (s : State) : (orfTl tid idx ws s).arr.mem = s.arr.mem := by
  unfold orfTl; split <;> simp

@[simp] theorem arrPrint_arr : ∀ (w n : Nat) (s : State), (arrPrint w n s).2.2.arr = s.arr
  | _, 0, _ => rfl
  | w, n + 1, s => by
    obtain ⟨-, -, -, -, -, -, -, arr, -⟩ := readWord_blocks w s
    unfold arrPrint
    repeat' split
    · rfl
    · next heq => rw [heq] at arr; exact (arrPrint_arr (w + 1) n _).trans arr
    · next heq => rw [heq] at arr; exact arr

@[simp] theorem orfAr_mem (off n : Nat) (s0 : State) : (orfAr off n s0).arr.mem = s0.arr.mem := by
  simp [orfAr]

@[simp] theorem logPrint_mem : ∀ (q n : Nat) (s : State), (logPrint q n s).2.2.arr.mem = s.arr.mem
  | _, 0, _ => rfl
  | q, n + 1, s => by
    have hk := logFetch_mem (q % 16384) s
    unfold logPrint
    split
    · next heq => rw [heq] at hk; exact (logPrint_mem (q + 1) n _).trans hk
    · next heq => rw [heq] at hk; exact hk

@[simp] theorem orfLg_mem (seq : Option Nat) (n : Nat) (s : State) : (orfLg seq n s).arr.mem = s.arr.mem := by
  simp [orfLg]

@[simp] theorem orfOv_mem (p : List (List Nat) → Bool) (f : State → State) (s : State) (h : ∀ s, (f s).arr.mem = s.arr.mem) :
    (orfOv p f s).arr.mem = s.arr.mem := by
  simp [orfOv, h]

@[simp] theorem orfDisarm_mem (s : State) : (orfDisarm s).arr.mem = s.arr.mem := by
  simp [orfDisarm]

@[simp] theorem orfSpoil_mem (bankB ovl : Bool) (s : State) : (orfSpoil bankB ovl s).arr.mem = s.arr.mem := by
  simp [orfSpoil]

@[simp] theorem irRun_mem (code : BitVec 8) (ok : State → Bool) (f : State → State) (s : State) (h : ∀ s, (f s).arr.mem = s.arr.mem) :
    (irRun code ok f s).arr.mem = s.arr.mem := by
  simp [irRun, h]

@[simp] theorem observeOp_mem (op : ObsOp) (s : State) : (observeOp op s).arr.mem = s.arr.mem := by
  cases op with
  | reg off => simp only [observeOp]; split <;> simp
  | entry tid idx =>
    have hk := entryFetch_mem ((s.fr.epoch >>> 32).truncate 16) tid idx s
    simp only [observeOp]
    split
    · split <;> next heq => rw [heq] at hk; simpa using hk
    · rfl

@[simp] theorem serviceOp_mem (op : SvcOp) (s : State) : (serviceOp op s).arr.mem = s.arr.mem := by
  unfold serviceOp; split <;> simp

@[simp] theorem blocksClose_mem (f : FrameIn) (s : State) : (blocksClose f s).arr.mem = s.arr.mem := by
  simp [blocksClose]

@[simp] theorem recordsClose_arr (f : FrameIn) (s : State) : (recordsClose f s).arr = s.arr := by
  simp [recordsClose]

@[simp] theorem frameClose_mem (f : FrameIn) (s : State) : (frameClose f s).arr.mem = s.arr.mem := by
  simp [frameClose]

@[simp] theorem frameOpen_arr (s : State) : (frameOpen s).arr = s.arr := by
  simp [frameOpen]

@[simp] theorem ringBoundary_arr (s : State) : (ringBoundary s).arr = s.arr := by
  simp [ringBoundary]

@[simp] theorem ocEpisode_arr (s : State) : (ocEpisode s).arr = s.arr := by
  simp [ocEpisode]

@[simp] theorem lowCount_arr (s : State) : (lowCount s).arr = s.arr := by
  simp [lowCount]

@[simp] theorem energyBoundary_arr (s : State) : (energyBoundary s).arr = s.arr := by
  simp [energyBoundary]

@[simp] theorem serveTenant_arr (t : Nat) (s : State) : (serveTenant t s).arr = s.arr := by
  simp only [serveTenant]; (repeat' split) <;> simp

@[simp] theorem demandAll_arr (r : Nat) : ∀ (n : Nat) (s : State), (demandAll r n s).arr = s.arr
  | 0, _ => rfl
  | n + 1, s => by simp [demandAll, demandAll_arr r n]

@[simp] theorem serveClean_arr (t : Nat) (s : State) : (serveClean t s).arr = s.arr := by
  simp [serveClean]

@[simp] theorem recountMaybe_arr (s : State) : (recountMaybe s).arr = s.arr := by
  simp [recountMaybe]

@[simp] theorem serveBoundary_arr (s : State) : (serveBoundary s).arr = s.arr := by
  simp [serveBoundary]

@[simp] theorem harvestFrame_mem (s : State) : (harvestFrame s).arr.mem = s.arr.mem := by
  simp [harvestFrame]

@[simp] theorem scanResolve_mem (s : State) : (scanResolve s).arr.mem = s.arr.mem := by
  simp [scanResolve]

@[simp] theorem frameWork_mem (f : FrameIn) (was : Bool) (s : State) : (frameWork f was s).arr.mem = s.arr.mem := by
  simp [frameWork]

end Sys2Proof.Machine
end

section
/-! PROOFS. The array's canonical form (13_internal_array.md, R289, R293, R294). -/

namespace Sys2Proof.Machine

/-! The commands that write the array (R289, R293, R294). -/

/-- The array's words are in canonical form. -/
abbrev ArrWf (s : State) : Prop := Sparse.wf (fun _ => erasedWord) s.arr.mem = true

theorem ArrWf.of_mem {s t : State} (hs : ArrWf s) (h : t.arr.mem = s.arr.mem) : ArrWf t := by rwa [ArrWf, h]

theorem setWord_wf (w : Nat) (d : DWord) {s : State} (hs : ArrWf s) : ArrWf (setWord w d s) := Sparse.put_wf _ w d hs

theorem blankSector_wf (sec : Nat) {s : State} (hs : ArrWf s) : ArrWf (blankSector sec s) := Sparse.filter_wf _ _ hs

theorem eraseOk_wf (sec : Nat) {s : State} (hs : ArrWf s) : ArrWf (eraseOk sec s) := blankSector_wf sec hs

theorem foldl_wf {β : Type} (f : State → β → State) (h : ∀ s x, ArrWf s → ArrWf (f s x)) (l : List β) :
    ∀ {s : State}, ArrWf s → ArrWf (l.foldl f s) := by
  induction l with
  | nil => exact id
  | cons x l ih => exact fun hs => ih (h _ x hs)

theorem ArrWf.of_some {t u : State} (hu : ArrWf u) (h : some u = some t) : ArrWf t := Option.some.inj h ▸ hu

theorem wf_map {f : State → State} {s : State} (hs : ArrWf s) (hf : ∀ s, (f s).arr.mem = s.arr.mem) : ArrWf (f s) :=
  hs.of_mem (hf s)

/-- What a branch keeps, the choice keeps. -/
theorem ite_wf {c : Prop} [Decidable c] {a b : State} (ha : ArrWf a) (hb : ArrWf b) : ArrWf (if c then a else b) := by
  split <;> assumption

theorem arrCut_wf {s : State} (hs : ArrWf s) : ArrWf (arrCut s) := by
  cases hr : s.arr.run with
  | none => exact hs.of_mem (by simp [arrCut, hr])
  | some o =>
    refine (ite_wf (c := o.erase = true) hs (setWord_wf (o.off / 8) (Config.undefinedWord s.free) hs)).of_mem ?_
    cases ho : o.erase <;> simp [arrCut, hr, ho]

theorem powerCut_wf {s : State} (hs : ArrWf s) : ArrWf (powerCut s) := by
  rw [ArrWf, powerCut_arr]
  exact arrCut_wf (hs.of_mem (logCut_mem s))

theorem porState_wf {s : State} (hs : ArrWf s) : ArrWf (porState s) := powerCut_wf hs

theorem coreBor_wf {s : State} (hs : ArrWf s) : ArrWf (coreBor s) := by
  unfold coreBor
  split
  · exact ite_wf (wf_map (f := stopFrames) (powerCut_wf (hs.of_mem (by simp))) (by simp)) (powerCut_wf (hs.of_mem (by simp)))
  · exact hs

theorem sleepEntry_wf (st : DevState) (ship : Bool) {s : State} (hs : ArrWf s) : ArrWf (sleepEntry st ship s) := by
  refine wf_map (f := fun s => scoutSleep (stopFrames s)) (powerCut_wf (hs.of_mem ?_)) (by simp)
  simp only [setState_blocks, dramPark_blocks]
  split <;> simp

theorem enterDormant_wf (ship : Bool) {s : State} (hs : ArrWf s) : ArrWf (enterDormant ship s) := sleepEntry_wf _ _ hs

theorem enterHold_wf (empty : Bool) {s : State} (hs : ArrWf s) : ArrWf (enterHold empty s) := sleepEntry_wf .hold false hs

theorem takeReq_wf (w : WakeIn) (a : ReqAction) {s : State} (hs : ArrWf s) : ArrWf (takeReq w a s) := by
  cases a with
  | serviceEnter => exact hs.of_mem (by simp [takeReq])
  | serviceLeave => exact hs.of_mem (by simp only [takeReq]; split <;> simp)
  | early => exact hs
  | discard => exact hs.of_mem (by simp only [takeReq]; (repeat' split) <;> simp)
  | dormant => exact enterDormant_wf false hs
  | ship => exact enterDormant_wf true hs
  | softReset => exact hs.of_mem (by simp [takeReq])

theorem tamperDown_wf {s : State} (hs : ArrWf s) : ArrWf (tamperDown s) :=
  enterDormant_wf false (hs.of_mem (by split <;> simp))

theorem tamperExit_wf {s t : State} {c : Bool} (hs : ArrWf s) (ht : t.arr.mem = s.arr.mem) :
    ArrWf (if c then t else tamperDown s) := ite_wf (hs.of_mem ht) (tamperDown_wf hs)

theorem fromGuard_wf {c : Cause} {s t : State} (hs : ArrWf s) (h : fromGuard c s = some t) : ArrWf t := by
  unfold fromGuard at h
  split at h
  · exact (tamperExit_wf hs (by simp)).of_some h
  repeat' split at h
  case isTrue.isFalse => exact (enterHold_wf true hs).of_some h
  case isFalse => cases h
  all_goals exact (hs.of_mem (by simp)).of_some h

theorem fromDecide_wf {c : Cause} {s t : State} (hs : ArrWf s) (h : fromDecide c s = some t) : ArrWf t := by
  unfold fromDecide at h
  split at h
  · exact (tamperExit_wf hs (by simp)).of_some h
  repeat' split at h
  · exact (hs.of_mem (by simp)).of_some h
  · exact (hs.of_mem (by simp)).of_some h
  · exact (enterHold_wf true hs).of_some h
  · exact (hs.of_mem (by simp)).of_some h
  · cases h

theorem fromSeal_wf {s t : State} (hs : ArrWf s) (h : fromSeal s = some t) : ArrWf t := by
  unfold fromSeal at h
  split at h
  · extract_lets _ _ s1 back gave r at h
    have h1 : ArrWf s1 := hs
    have hb : ArrWf back := by
      dsimp only [back]
      split
      · exact ite_wf (h1.of_mem (by simp)) h1
      · exact h1
    have hg : ArrWf gave := ite_wf (wf_map (f := dramGive) hb (by simp)) hb
    have hr : ArrWf r := hg.of_mem (by simp [r])
    split at h
    · exact (enterDormant_wf false h1).of_some h
    · split at h
      · split at h
        · exact hr.of_some h
        · exact (hr.of_mem (by simp)).of_some h
      · exact (enterHold_wf _ h1).of_some h
  · cases h

theorem fromHarvest_wf {iso : Bool} {s t : State} (hs : ArrWf s) (h : fromHarvest iso s = some t) : ArrWf t := by
  unfold fromHarvest at h
  split at h
  · exact (enterDormant_wf false (hs.of_mem (by simp))).of_some h
  · split at h
    · split at h
      · exact (hs.of_mem (by simp)).of_some h
      · cases h
    · split at h
      · split at h
        · exact (hs.of_mem (by simp)).of_some h
        · cases h
      · exact fromSeal_wf hs h

theorem returnPhases_mem {take : Bool} {s t : State} (h : returnPhases take s = some t) : t.arr.mem = s.arr.mem := by
  unfold returnPhases at h
  (repeat' split at h) <;> first | (rw [← Option.some.inj h]; simp) | cases h

theorem fromReturn_wf {c : Cause} {take : Bool} {s t : State} (hs : ArrWf s) (h : fromReturn c take s = some t) : ArrWf t := by
  unfold fromReturn at h
  repeat' split at h
  · exact (hs.of_mem (by simp)).of_some h
  · exact (enterDormant_wf false (hs.of_mem (by simp))).of_some h
  · exact (hs.of_mem (by simp)).of_some h
  · next hr => exact (hs.of_mem (returnPhases_mem hr)).of_some h
  · exact (hs.of_mem (by simp)).of_some h
  · cases h

theorem fromWake_wf {c : Cause} {s t : State} (hs : ArrWf s) (h : fromWake c s = some t) : ArrWf t := by
  unfold fromWake at h
  split at h
  · exact (enterDormant_wf false hs).of_some h
  repeat' split at h
  case isTrue.isFalse => cases h
  case isFalse.isTrue.isFalse => cases h
  case isFalse.isFalse.isFalse => cases h
  all_goals exact (hs.of_mem (by simp)).of_some h

theorem fromService_wf {c : Cause} {s t : State} (hs : ArrWf s) (h : fromService c s = some t) : ArrWf t := by
  unfold fromService at h
  split at h
  · exact (enterDormant_wf false hs).of_some h
  · cases h

theorem decides_wf {iso take : Bool} {s t : State} (hs : ArrWf s) (h : decides iso take s = some t) : ArrWf t := by
  unfold decides at h
  extract_lets c at h
  split at h
  · exact fromGuard_wf hs h
  · exact fromGuard_wf hs h
  · split at h
    · exact fromDecide_wf hs h
    · exact fromHarvest_wf hs h
  · exact fromReturn_wf hs h
  · exact fromReturn_wf hs h
  · exact fromWake_wf hs h
  · exact fromService_wf hs h
  · cases h

/-- The state that step 2 of the boundary reaches, before the triggers it leaves. -/
theorem taken_wf (w : WakeIn) (iso take : Bool) {s : State} (hs : ArrWf s) : ArrWf (
    match decides iso take s, s.top.trig.req with
    | some t, some _ => if powered t then refuseReq 2 t else t
    | some t, none => t
    | none, r =>
      if s.top.trig.softWake then
        if r.isSome then refuseReq 2 (wakeEntry 4 w (softClear (leaveState s))) else wakeEntry 4 w (softClear (leaveState s))
      else match r with
        | some a => takeReq w a s
        | none => s) := by
  have soft : ArrWf (wakeEntry 4 w (softClear (leaveState s))) := hs.of_mem (by simp)
  have refuse (n : Nat) {t : State} (ht : ArrWf t) : ArrWf (refuseReq n t) := ht.of_mem (by simp)
  split
  · next hd _ => exact ite_wf (refuse 2 (decides_wf hs hd)) (decides_wf hs hd)
  · next hd _ => exact decides_wf hs hd
  · split
    · exact ite_wf (refuse 2 soft) soft
    · split
      · exact takeReq_wf w _ hs
      · exact hs

theorem transition_wf (w : WakeIn) (iso take : Bool) {s : State} (hs : ArrWf s) : ArrWf (transition w iso take s) :=
  ite_wf (wf_map (f := openWindow _ _ _) (taken_wf w iso take hs) (by simp)) (taken_wf w iso take hs)

theorem frameBoundary_wf (f : FrameIn) {s : State} (hs : ArrWf s) : ArrWf (frameBoundary f s) := by
  unfold frameBoundary
  split
  · have moved := transition_wf f.wk (isoDone s) (takeoverDone s)
      (s := { tallyBoundary (frameOpen (frameClose f s)) with fr := { (tallyBoundary (frameOpen (frameClose f s))).fr with vdd := f.vdd } })
      (hs.of_mem (by simp))
    exact ite_wf (wf_map (f := frameWork f s.dram.owned) moved (by simp [frameWork])) moved
  · exact hs

/-! The keys' records (R352, R354, R362). -/

theorem keyWords_wf (sec first n : Nat) {s : State} (hs : ArrWf s) : ArrWf (keyWords sec first n s) :=
  (foldl_wf _ (fun _ _ h => setWord_wf _ _ (setWord_wf _ _ h)) (List.range n) hs).of_mem rfl

theorem keyAppend_wf (n : Nat) {s : State} (hs : ArrWf s) : ArrWf (keyAppend n s) := by
  unfold keyAppend
  split
  · exact keyWords_wf _ _ _ hs
  · exact keyWords_wf _ _ _ (eraseOk_wf _ (eraseOk_wf _ (keyWords_wf _ _ _ hs)))

theorem keyWake_wf (i : ImageIn) {s : State} (hs : ArrWf s) : ArrWf (keyWake i s) := by
  have record {u : State} (hu : ArrWf u) :
      ArrWf (keyAppend 5 (eraseOk 229 (eraseOk 228 (eraseOk 101 (eraseOk 100 u))))) :=
    keyAppend_wf 5 (eraseOk_wf _ (eraseOk_wf _ (eraseOk_wf _ (eraseOk_wf _ hu))))
  unfold keyWake
  dsimp only
  split
  · split
    · split <;> simp [ArrWf, record, hs]
    · simp [ArrWf, hs]
  · exact hs

theorem imageLoad_wf (i : ImageIn) {s : State} (hs : ArrWf s) : ArrWf (imageLoad i s) := by
  unfold imageLoad
  split
  · simp [ArrWf, keyWake_wf, arr_ite, hs]
  · exact hs

theorem keyEffect_wf (op slot : Nat) {s : State} (hs : ArrWf s) : ArrWf (keyEffect op slot s) := by
  unfold keyEffect
  dsimp only
  (repeat' split) <;> simp [ArrWf, keyAppend_wf, hs]

theorem keyDone_wf (ok : Bool) {s : State} (hs : ArrWf s) : ArrWf (keyDone ok s) := by
  unfold keyDone
  split
  · cases ok <;> simp [ArrWf, keyEffect_wf, hs]
  · exact hs

theorem eraseKeys_wf {s : State} (hs : ArrWf s) : ArrWf (eraseKeys s) :=
  foldl_wf _ (fun _ x h => eraseOk_wf x h) [100, 101, 102, 103, 228, 229, 230, 231] hs

theorem endPlaced_wf {s : State} (hs : ArrWf s) : ArrWf (endPlaced s) :=
  foldl_wf _ (fun u e hu => by simp [ArrWf, setWord_wf, hu]) _ hs

theorem lifeEffect_wf (cmd : Nat) {s : State} (hs : ArrWf s) : ArrWf (lifeEffect cmd s) := by
  unfold lifeEffect
  dsimp only
  (repeat' split) <;> simp [ArrWf, keyAppend_wf, eraseKeys_wf, endPlaced_wf, hs]

theorem lifeDone_wf (ok : Bool) {s : State} (hs : ArrWf s) : ArrWf (lifeDone ok s) := by
  unfold lifeDone
  dsimp only
  split
  · (repeat' split) <;> simp [ArrWf, lifeEffect_wf, hs]
  · exact hs

/-! The ends of programs, erases and the scan (R28, R285, R293, R294). -/

theorem programEnd_wf (pulses : Nat) (ok : Bool) {s : State} (hs : ArrWf s) : ArrWf (programEnd pulses ok s) := by
  unfold programEnd
  split
  · split
    · cases ok <;> simp [ArrWf, arr_ite, setWord_wf, hs]
    · exact hs
  · exact hs

theorem eraseEnd_wf (pulses : Nat) (ok : Bool) {s : State} (hs : ArrWf s) : ArrWf (eraseEnd pulses ok s) := by
  unfold eraseEnd
  split
  · split
    · cases ok <;> simp [ArrWf, arr_ite, eraseOk_wf, hs]
    · exact hs
  · exact hs

theorem endRetry_wf (okA okB : Bool) {s : State} (hs : ArrWf s) : ArrWf (endRetry okA okB s) := by
  unfold endRetry
  split
  · split
    · cases okA <;> cases okB <;> simp [ArrWf, endFails_arr, setWord_wf, hs]
    · exact hs.of_mem (by simp)
  · exact hs

theorem scanDone_wf (failed : List Nat) {s : State} (hs : ArrWf s) : ArrWf (scanDone failed s) := by
  unfold scanDone
  split
  · refine foldl_wf _ (fun u x hu => ?_) (toResolve s) (s := { s with arr := { s.arr with retCnt := min 255 s.arr.retired.length } }) hs
    dsimp only
    split <;> simp [ArrWf, eraseOk_wf, hu]
  · exact hs

/-! The Hive's commands and the step. -/

theorem drained_mem {b : Bool} {f : State → State} {x u : State} (h : orRefuse ((drainAll b x).map f) = .next u)
    (hf : ∀ y, (f y).arr.mem = y.arr.mem) : u.arr.mem = x.arr.mem := by
  obtain ⟨y, hy, rfl⟩ := Option.map_eq_some_iff.mp (orRefuse_next h)
  rw [hf, drainAll_mem hy]

theorem next_mem {t u : State} (h : (.next u : Out) = .next t) : t.arr.mem = u.arr.mem := by cases h; rfl

theorem preciseFault_mem {b : Bool} {a : Word} {x u : State} (h : preciseFault b a x = .next u) : u.arr.mem = x.arr.mem :=
  drained_mem h fun y => by simp

theorem oneInsn_mem {b : Bool} {f : State → Out} {s u : State} (hf : ∀ t, f s = .next t → t.arr.mem = s.arr.mem)
    (h : oneInsn b f s = .next u) : u.arr.mem = s.arr.mem := by
  unfold oneInsn at h
  split at h
  · next t ht => rw [next_mem h, ← hf t ht]; split <;> simp
  · exact hf u h

theorem drainedInsn_mem {b : Bool} {f : State → State} {s u : State} (h : drainedInsn b f s = .next u)
    (hf : ∀ y, (f y).arr.mem = y.arr.mem) : u.arr.mem = s.arr.mem :=
  (drained_mem h fun y => by simp [hf]).trans (by simp)

theorem windowInsn_mem {b : Bool} {f : State → State} {s u : State} (h : windowInsn b f s = .next u)
    (hf : ∀ y, (f y).arr.mem = y.arr.mem) : u.arr.mem = s.arr.mem := by
  refine oneInsn_mem (fun u h => ?_) h
  split at h
  · exact drainedInsn_mem h hf
  · exact next_mem h

theorem arrayRead_mem {b : Bool} {addr : Word} {size : Nat} {fill : Bool} {x u : State}
    (h : arrayRead b addr size fill x = .next u) : u.arr.mem = x.arr.mem := by
  unfold arrayRead at h
  dsimp only at h
  split at h
  · exact (next_mem h).trans (by simp)
  · exact (next_mem h).trans (by simp)
  · exact (preciseFault_mem h).trans (by simp)
  · exact (next_mem h).trans (by simp)

theorem commitStore_mem {b : Bool} {addr : Word} {size : Nat} {data : Word} {s u : State}
    (h : commitStore b addr size data s = .next u) : u.arr.mem = s.arr.mem := by
  unfold commitStore at h
  extract_lets a s1 at h
  repeat' split at h
  · exact next_mem h
  · exact (preciseFault_mem h).trans (by simp)
  · exact drainedInsn_mem h fun y => by simp
  · exact (next_mem h).trans (by simp [s1])
  · exact (next_mem h).trans (by simp [s1])

theorem doLoad_mem {b : Bool} {addr : Word} {size : Nat} {s u : State}
    (h : doLoad b addr size s = .next u) : u.arr.mem = s.arr.mem := by
  unfold doLoad at h
  extract_lets a s1 at h
  have h1 : s1.arr.mem = s.arr.mem := by simp [s1]
  clear_value s1
  have hr : (ramRead b a size s1).2.arr = s1.arr := by simp
  repeat' split at h
  · exact next_mem h
  · exact (preciseFault_mem h).trans (by simp)
  · exact drainedInsn_mem h fun y => by simp
  · exact (next_mem h).trans (by simp [h1])
  · exact (next_mem h).trans (by simp [h1])
  · cases h
  · exact (next_mem h).trans (by simp [h1])
  · exact (arrayRead_mem h).trans h1
  · next heq => rw [heq] at hr; dsimp only at hr; exact (next_mem h).trans (by simp [hr, h1])
  · next heq => rw [heq] at hr; dsimp only at hr; exact (preciseFault_mem h).trans (by simp [hr, h1])


theorem execSyncException_mem {b : Bool} {cause : ExcCause} {addr : Word} {s u : State}
    (h : execSyncException b cause addr s = .next u) : u.arr.mem = s.arr.mem := by
  refine oneInsn_mem (fun u h => ?_) h
  split at h
  · exact preciseFault_mem h
  · exact next_mem h

theorem execArrayFetch_mem {b : Bool} {addr : Word} {fill : Bool} {s u : State}
    (h : execArrayFetch b addr fill s = .next u) : u.arr.mem = s.arr.mem := by
  refine oneInsn_mem (fun u h => ?_) h
  repeat' split at h
  · exact (preciseFault_mem h).trans (by simp)
  · exact (arrayRead_mem h).trans (by simp)
  · exact next_mem h

theorem execStorePerformed_mem {b : Bool} {s u : State} (h : execStorePerformed b s = .next u) : u.arr.mem = s.arr.mem := by
  unfold execStorePerformed at h
  split at h
  · exact performHead_mem (orRefuse_next h)
  · exact next_mem h

theorem execCoreInterrupt_mem {b : Bool} {s u : State} (h : execCoreInterrupt b s = .next u) : u.arr.mem = s.arr.mem := by
  unfold execCoreInterrupt at h
  split at h
  · exact (next_mem h).trans (by simp)
  · exact next_mem h

theorem ArrWf.of_next {t u : State} (h : (.next u : Out) = .next t) (hu : ArrWf u) : ArrWf t := by cases h; exact hu

theorem exec_arrWf (c : Instr) {s t : State} (hs : ArrWf s) (h : exec c s = .next t) : ArrWf t := by
  cases c
  case aonPor => exact .of_next h (porState_wf hs)
  case coreBor => exact .of_next h (coreBor_wf hs)
  case frameBoundary f => exact .of_next h (frameBoundary_wf f hs)
  case wakeScanDone f => exact .of_next h (scanDone_wf f hs)
  case wakeImageLoad i => exact .of_next h (imageLoad_wf i hs)
  case arrayProgramEnd p ok => exact .of_next h (programEnd_wf p ok hs)
  case arrayEraseEnd p ok => exact .of_next h (eraseEnd_wf p ok hs)
  case endWordRetry a b => exact .of_next h (endRetry_wf a b hs)
  case lifecycleCmdDone ok => exact .of_next h (lifeDone_wf ok hs)
  case keyOpDone ok => exact .of_next h (keyDone_wf ok hs)
  case coreStore b addr size data => exact hs.of_mem (oneInsn_mem (fun _ => commitStore_mem) h)
  case coreLoad b addr size => exact hs.of_mem (oneInsn_mem (fun _ => doLoad_mem) h)
  case storePerformed b => exact hs.of_mem (execStorePerformed_mem h)
  case arrayFetch b addr f => exact hs.of_mem (execArrayFetch_mem h)
  case coreFence b => exact hs.of_mem (windowInsn_mem h fun _ => rfl)
  case syncException b cause addr => exact hs.of_mem (execSyncException_mem (cause := cause) h)
  case coreInterrupt b => exact hs.of_mem (execCoreInterrupt_mem h)
  case h2cTake b => exact hs.of_mem (windowInsn_mem h fun x => by simp)
  case c2hPost b d => exact hs.of_mem (windowInsn_mem h fun x => by simp)
  case dbH2cClear b d => exact hs.of_mem (windowInsn_mem h fun x => by simp)
  case dbC2hSet b d => exact hs.of_mem (windowInsn_mem h fun x => by simp)
  case wdogKick b d => exact hs.of_mem (windowInsn_mem h fun x => by simp)
  case stateReqReserved cmd key be =>
    exact ArrWf.of_next ((apply_ite Host.Outcome.next _ _ _).trans h) (ite_wf (hs.of_mem (by simp)) hs)
  case keyReservedOp op =>
    exact ArrWf.of_next ((apply_ite Host.Outcome.next _ _ _).trans h) (ite_wf (hs.of_mem (by simp)) hs)
  all_goals exact .of_next h (hs.of_mem (by simp))

/-- Settles O49: a step is a command on the state with the rest of the queue, and every command that writes the array writes words
by `setWord` and blanks sectors by `blankSector`, which keep the canonical form. -/
theorem stepKeepsArrayCanonical : Obligations.StepKeepsArrayCanonical := by
  intro s t hs h
  cases hq : s.pending with
  | nil => rw [step_nil hq] at h; exact ArrWf.of_next h hs
  | cons c cs => rw [step_cons hq] at h; exact exec_arrWf c (s := { s with pending := cs }) hs h

end Sys2Proof.Machine
end

section
/-! PROOFS. Tally's messages and ends (15_tally.md, R331 to R339, R343). -/

namespace Sys2Proof.Machine

theorem exec_tallyMessage (src kind : Nat) (addr : Word) (s : State) :
    exec (.tallyMessage src kind addr) s = .next (tallyMessage src kind addr s) := rfl
theorem exec_tallyWindowEnd (src : Nat) (s : State) : exec (.tallyWindowEnd src) s = .next (windowEnd src s) := rfl
theorem exec_degradedExit (s : State) : exec .degradedExit s = .next (degradedExit s) := rfl

theorem tallyMessage_sent {src kind : Nat} (addr : Word) {s : State} (hon : s.top.state ≠ .off) (h1 : 1 ≤ kind) (hk : kind ≤ kindsOf src) :
    tallyMessage src kind addr s = tally src kind addr s := by
  rw [tallyMessage, if_pos (by simp [h1, hk, hon])]

theorem tallyMessage_noKind {src kind : Nat} (addr : Word) {s : State} (hk : kind = 0 ∨ kindsOf src < kind) :
    tallyMessage src kind addr s = s := by
  rw [tallyMessage, if_neg (by simp; omega)]

theorem powered_ne_off {s : State} (hp : powered s = true) : s.top.state ≠ .off := by
  rintro h
  simp [powered, h, DevState.runs] at hp

/-- The log's own source reports drops with its only kind, so a message of its own leaves that kind either way (R345). -/
theorem tally_ownSrc {src kind : Nat} (addr : Word) {s : State} (hp : powered s = true) (h1 : 1 ≤ kind) (hk : kind ≤ kindsOf src) :
    (srcOf (tally src kind addr s) src).sticky = true ∧ (srcOf (tally src kind addr s) src).lastKind = kind := by
  by_cases h48 : src = 0x48
  · subst h48
    have hone : kind = 1 := by simp [kindsOf] at hk; omega
    subst hone
    unfold tally
    rw [if_pos hp]
    dsimp only
    split <;> simp [(tallyProcess_src _ _ _ _).1, countMsg]
  · rw [(tally_src src kind addr s hp h48).1]
    exact ⟨rfl, rfl⟩

theorem tally_otherSrc {src : Nat} (kind : Nat) (addr : Word) {s : State} (hp : powered s = true) {n : Nat} (hn : n ≠ src) (h48 : n ≠ 0x48) :
    srcOf (tally src kind addr s) n = srcOf s n := by
  unfold tally
  rw [if_pos hp]
  dsimp only
  split
  · exact ((tallyProcess_src _ _ _ _).2 n h48).trans ((tallyProcess_src src kind addr s).2 n hn)
  · exact (tallyProcess_src src kind addr s).2 n hn

/-- What a message counts (R331 to R334). -/
theorem countMsg_counts (src kind : Nat) (addr : Word) (s : State) :
    let o := srcOf s src
    let thresh := fld (cw s 3 src 0) 16 8
    let c := satInc 255 (if o.open_ = false ∨ o.left = 0 then 0 else o.count)
    let m := (countMsg src kind addr s).1
    m.open_ = true ∧ m.count = (if forced src kind then max c thresh else c) ∧ m.severe = decide (thresh ≤ m.count) ∧
      m.total = satInc 65535 o.total ∧ m.lastAddr = addr ∧ m.lastStamp = s.fr.epoch.truncate 24 := by
  refine ⟨rfl, ?_, rfl, rfl, rfl, rfl⟩
  simp [countMsg]

/-- While TALLY is unpowered an AON source's message sets its sticky bit and is latched (R343). -/
theorem tally_latched {src : Nat} (kind : Nat) (addr : Word) {s : State} (hp : powered s = false) (ha : aonSource src = true) :
    (srcOf (tally src kind addr s) src).sticky = true ∧
    Sparse.get (fun _ => (0, 0)) (tally src kind addr s).tally.aonLatch src = (kind, addr) ∧
    tally src kind addr s = { s with tally := (tally src kind addr s).tally } := by
  have h : tally src kind addr s = { modSrc src (fun o => { o with sticky := true }) s with
      tally := { (modSrc src (fun o => { o with sticky := true }) s).tally with
        aonLatch := Sparse.put (fun _ => (0, 0)) (modSrc src (fun o => { o with sticky := true }) s).tally.aonLatch src (kind, addr) } } := by
    simp [tally, hp, ha]
  rw [h]
  refine ⟨?_, Sparse.get_put .., rfl⟩
  exact congrArg Source.sticky (modSrc_srcOf src (fun o => { o with sticky := true }) s)

theorem windowEnd_due {src : Nat} {s : State} (hp : powered s = true) (ho : (srcOf s src).open_ = true) (hl : (srcOf s src).left = 0) :
    windowEnd src s = modSrc src (fun o => { o with open_ := false, left := 0, count := 0, severe := false, escalated := false }) s := by
  simp [windowEnd, hp, ho, hl]

theorem windowEnd_idle {src : Nat} {s : State} (h : (srcOf s src).open_ = false ∨ 0 < (srcOf s src).left) : windowEnd src s = s := by
  rw [windowEnd, if_neg]
  rcases h with h | h
  · simp [h]
  · simp [Nat.ne_of_gt h]

/-- DEGRADED ends: the exit is counted, and logged by report. -/
theorem degradedExit_due {s : State} (hp : powered s = true) (hd : s.tally.degraded = true) (hh : s.tally.halted = false)
    (hq : 2 ^ crf s 0xAC 16 5 ≤ s.tally.quiet) :
    Reports { s with tally := { s.tally with degraded := false, exits := satInc 0xFFFF s.tally.exits } } (degradedExit s) := by
  simp only [degradedExit, hp, hd, hh, hq, decide_true, Bool.and_self, Bool.not_false, if_true]
  exact logEv_reports ..

theorem degradedExit_idle {s : State} (h : s.tally.degraded = false ∨ s.tally.halted = true ∨ s.tally.quiet < 2 ^ crf s 0xAC 16 5) :
    degradedExit s = s := by
  rw [degradedExit, if_neg]
  rcases h with h | h | h
  · simp [h]
  · simp [h]
  · simp [h]

/-- Settles O53: a message writes its own source's record by `countMsg`; the log's drop message is of source 0x48. -/
theorem tallyMessages : Obligations.TallyMessages := by
  refine ⟨fun src kind addr s hp h1 hk => ?_, fun src kind addr s hp hon h1 hk ha => ?_, fun src kind addr s hk => ?_,
    fun src s hp ho hl => ?_, fun src s h => ?_, fun s => rfl, fun s hp hd hh hq => ?_, fun s h => ?_⟩
  · refine ⟨tally src kind addr s, ?_, (tally_ownSrc addr hp h1 hk).1, (tally_ownSrc addr hp h1 hk).2, fun h48 => ?_,
      fun n hn h48 => tally_otherSrc kind addr hp hn h48, tally_onlyReports src kind addr s⟩
    · rw [exec_tallyMessage, tallyMessage_sent addr (powered_ne_off hp) h1 hk]
    · rw [(tally_src src kind addr s hp h48).1]
      exact countMsg_counts src kind addr s
  · refine ⟨tally src kind addr s, ?_, tally_latched kind addr hp ha⟩
    rw [exec_tallyMessage, tallyMessage_sent addr hon h1 hk]
  · rw [exec_tallyMessage, tallyMessage_noKind addr hk]
  · refine ⟨_, by rw [exec_tallyWindowEnd, windowEnd_due hp ho hl], ?_, fun n hn => modSrc_srcOf_ne _ s hn, rfl⟩
    rw [modSrc_srcOf, ← hl]
  · rw [exec_tallyWindowEnd, windowEnd_idle h]
  · obtain ⟨-, -, -, -, -, -, exits, -, degraded, -⟩ := degradedExit_due hp hd hh hq
    exact ⟨_, exec_degradedExit s, degraded, exits, by simp [onlyReports]⟩
  · rw [exec_degradedExit, degradedExit_idle h]

end Sys2Proof.Machine
end

section
/-! PROOFS. FAULT_INJECT, and the DROP and SNAP records (15_tally.md, R342, R345, R348; 16_security_debug_power.md, R369). -/

namespace Sys2Proof.Machine

theorem exec_faultInjectArm (data : Word) (be : ByteEn) (s : State) :
    exec (.faultInjectArm data be) s = .next (leave ⟨0xA8, data, be⟩ (applyInject data be) s) := rfl
theorem exec_faultInjectCancel (be : ByteEn) (s : State) :
    exec (.faultInjectCancel be) s = .next (leave ⟨0xA8, 0x00010000, be⟩ (applyInject 0x00010000 be) s) := rfl
theorem exec_dropRecordWrite (s : State) : exec .dropRecordWrite s = .next (dropWrite s) := rfl
theorem exec_snapRecordWrite (s : State) : exec .snapRecordWrite s = .next (snapWrite s) := rfl

/-! A field of a word that a write fills. -/

theorem fld_putBits_same {d : FDesc} {v : Nat} (w : Word) (hv : v < 2 ^ d.width) (h32 : d.lo + d.width ≤ 32) :
    fld (putBits (d, v) w) d.lo d.width = v := by
  refine Nat.eq_of_testBit_eq fun i => ?_
  rw [fld_testBit]
  by_cases hi : i < d.width
  · rw [putBits_getLsbD_inside v w (by omega) (by omega) (by omega)]
    simp [hi]
  · have high : v.testBit i = false := Nat.testBit_lt_two_pow (Nat.lt_of_lt_of_le hv (Nat.pow_le_pow_right (by omega) (by omega)))
    simp [hi, high]

theorem fld_putBits_disjoint {d : FDesc} {lo n : Nat} (v : Nat) (w : Word) (h : lo + n ≤ d.lo ∨ d.lo + d.width ≤ lo) :
    fld (putBits (d, v) w) lo n = fld w lo n := by
  refine Nat.eq_of_testBit_eq fun i => ?_
  rw [fld_testBit, fld_testBit]
  by_cases hi : i < n
  · rw [putBits_getLsbD_outside v w (by omega)]
  · simp [hi]

theorem fld_lt (w : Word) (lo n : Nat) : fld w lo n < 2 ^ n := Nat.mod_lt _ (Nat.two_pow_pos n)

/-! FAULT_INJECT's write. -/

/-- FAULT_INJECT's fields: CHK, DBL and COUNT. -/
def injChkField : FDesc := regF 0xA8 0 4 .idle
def injDblField : FDesc := regF 0xA8 4 1 .idle
def injCountField : FDesc := regF 0xA8 8 8 .idle

/-- A whole write's values of them. -/
def injPieces (data : Word) : List Piece := [(injChkField, fld data 0 4), (injDblField, fld data 4 1), (injCountField, fld data 8 8)]

theorem piecesOf_inject (data : Word) (s : State) : piecesOf s 0 0 (0xA8 / 4) data (beMask allBe) = injPieces data := by
  have fields : touched 0 0 (0xA8 / 4) (beMask allBe) = [injChkField, injDblField, injCountField] := by decide
  rw [piecesOf, fields, mergeBits_allBe]
  rfl

/-- While no injection is armed a write with a checker that exists drops none of its fields (R42). -/
theorem writeReg_inject {data : Word} {s : State} (hidle : s.tally.injLeft = 0) (hchk : fld data 0 4 ≤ 9) :
    writeReg 0xA8 data (beMask allBe) s = (injPieces data).foldl (putField false 0) s := by
  rw [writeReg_of_taken, piecesOf_inject]
  rw [piecesOf_inject]
  refine List.forall_mem_cons.2 ⟨?_, List.forall_mem_cons.2 ⟨?_, List.forall_mem_singleton.2 ?_⟩⟩
  · simp [fieldTakes, fieldBusy, injChkField, regF, reservedValue, hidle]; omega
  · simp [fieldTakes, fieldBusy, injDblField, regF, reservedValue, hidle]
  · simp [fieldTakes, fieldBusy, injCountField, regF, reservedValue, hidle]

/-- FAULT_INJECT's word in force after the write. -/
theorem injPieces_word (data : Word) (s : State) :
    cr ((injPieces data).foldl (putField false 0) s) 0xA8 =
      putBits (injCountField, fld data 8 8) (putBits (injDblField, fld data 4 1) (putBits (injChkField, fld data 0 4) (cr s 0xA8))) := by
  rw [cr, foldl_putField_cw]
  · rfl
  · simp [injPieces, injChkField, injDblField, injCountField, regF]

theorem injPieces_fields (data : Word) (s : State) : let t := (injPieces data).foldl (putField false 0) s
    crf t 0xA8 0 4 = fld data 0 4 ∧ crf t 0xA8 4 1 = fld data 4 1 ∧ crf t 0xA8 8 8 = fld data 8 8 := by
  intro t
  simp only [t, crf, injPieces_word]
  refine ⟨?_, ?_, fld_putBits_same (d := injCountField) _ (fld_lt ..) (by decide)⟩
  · rw [fld_putBits_disjoint (d := injCountField) _ _ (by decide), fld_putBits_disjoint (d := injDblField) _ _ (by decide)]
    exact fld_putBits_same (d := injChkField) _ (fld_lt ..) (by decide)
  · rw [fld_putBits_disjoint (d := injCountField) _ _ (by decide)]
    exact fld_putBits_same (d := injDblField) _ (fld_lt ..) (by decide)

theorem getLsbD_eq_fld (w : Word) (i : Nat) : w.getLsbD i = decide (fld w i 1 = 1) := by
  have bit := fld_testBit w i 1 0
  have small : fld w i 1 < 2 := fld_lt w i 1
  simp only [Nat.lt_one_iff, decide_true, Bool.true_and, Nat.add_zero] at bit
  rw [← bit]
  obtain h | h : fld w i 1 = 0 ∨ fld w i 1 = 1 := by omega
  all_goals simp [h]

/-- A write with class S arms the injection (R342, R369). -/
theorem applyInject_arms {data : Word} {s : State} (hs : grantsS s = true) (h16 : data.getLsbD 16 = false) (hidle : s.tally.injLeft = 0)
    (hlo : 1 ≤ fld data 0 4) (hhi : fld data 0 4 ≤ 9) (hcount : fld data 8 8 ≠ 0) : let t := applyInject data allBe s
    t = { s with conf := t.conf, tally := { s.tally with
      injChk := fld data 0 4, injLeft := fld data 8 8, injDbl := data.getLsbD 4 } } := by
  intro t
  have mask : ((beMask allBe &&& 0xFF00) != 0) = true := by decide
  obtain ⟨chk, dbl, count⟩ := injPieces_fields data s
  have ht : t = regHook 0xA8 (beMask allBe) ((injPieces data).foldl (putField false 0) s) := by
    simp only [t, applyInject, h16, hs, Bool.and_false, Bool.false_and, Bool.not_false, Bool.not_true, Bool.and_false, if_false, Bool.false_eq_true,
      writeReg_inject hidle hhi]
  have still : ((injPieces data).foldl (putField false 0) s).tally = s.tally := rfl
  have hbit : crb ((injPieces data).foldl (putField false 0) s) 0xA8 4 = data.getLsbD 4 := by
    rw [crb, getLsbD_eq_fld, getLsbD_eq_fld]
    exact congrArg (fun n => decide (n = 1)) dbl
  rw [ht]
  simp only [regHook, mask, still, hidle, chk, count, hbit]
  have h0 : (fld data 0 4 != 0) = true := by simp; omega
  have h8 : (fld data 8 8 != 0) = true := by simpa using hcount
  simp [h0, h8]

/-- Without class S it is dropped with REJECT (R41). -/
theorem applyInject_refused {data : Word} {s : State} (hs : grantsS s = false) (h16 : data.getLsbD 16 = false) :
    applyInject data allBe s = reject 0xA8 0 s := by
  simp only [applyInject, h16, hs, Bool.and_false, Bool.false_and, Bool.not_false, Bool.and_self, if_true]

/-- A write of CANCEL alone ends the injection and needs no class (R369). -/
theorem applyInject_cancels {be : ByteEn} (s : State) (hbe : be.getLsbD 2 = true) :
    applyInject 0x00010000 be s = { s with tally := { s.tally with injLeft := 0, injChk := 0, injDbl := false } } := by
  have others : ∀ be : ByteEn, ((0x00010000 &&& beMask be) &&& 0x0000FF1F : Word) = 0 := by decide
  have bit : (0x00010000 : Word).getLsbD 16 = true := by decide
  simp only [applyInject, hbe, bit, others, beq_self_eq_true, Bool.and_self, Bool.not_true, Bool.false_and, Bool.false_eq_true, if_false, if_true]

/-! A message arms no injection and uses none up. -/

theorem logAt_injLeft (ep : Epoch) (ty : Nat) (x : BitVec 8) (a : BitVec 16) (b : Word) (s : State) :
    (logAt ep ty x a b s).tally.injLeft = s.tally.injLeft := by
  simp only [logAt]; split <;> rfl

theorem actions_injLeft (src kind : Nat) (addr : Word) (m : BitVec 8) (sev opens esc : Bool) (n : Nat) (s : State) :
    (actions src kind addr m sev opens esc n s).tally.injLeft = s.tally.injLeft := by
  have hlog : ∀ ty x a b s, (logRec ty x a b s).tally.injLeft = s.tally.injLeft := fun ty x a b s => logAt_injLeft _ ty x a b s
  have hpost : ∀ ts op fl tag w1 w2 s, (postAll ts op fl tag w1 w2 s).tally.injLeft = s.tally.injLeft := fun ts op fl tag w1 w2 s =>
    foldl_proj _ (·.tally.injLeft) (fun s t => by simp only [postUnsol]; split <;> rfl) ts s
  have hdegrade : ∀ s, (degradeAct src m s).tally.injLeft = s.tally.injLeft := by
    intro s; simp only [degradeAct]; split <;> simp [hlog]
  have hhalt : ∀ s, (haltAct src s).tally.injLeft = s.tally.injLeft := by
    intro s; simp only [haltAct]; split <;> simp [hlog]
  have hharvest : ∀ s, (harvestAct src m s).tally.injLeft = s.tally.injLeft := by
    intro s; simp only [harvestAct]; split <;> simp [hdegrade, tripCause]
  have hpin : ∀ s, (pinAction s).tally.injLeft = s.tally.injLeft := by
    intro s; simp only [pinAction]; split <;> simp
  unfold actions
  extract_lets s1 s2 s3 s4 s5 s6
  have e1 : s1.tally.injLeft = s.tally.injLeft := by simp only [s1]; split <;> simp [hlog]
  have e2 : s2.tally.injLeft = s.tally.injLeft := by simp only [s2]; split <;> simp [setInt_tally, e1]
  have e3 : s3.tally.injLeft = s.tally.injLeft := by simp only [s3]; split <;> simp [hpost, e2]
  have e4 : s4.tally.injLeft = s.tally.injLeft := by simp only [s4]; split <;> simp [hpin, e3]
  have e5 : s5.tally.injLeft = s.tally.injLeft := by simp only [s5]; split <;> simp [hdegrade, e4]
  have e6 : s6.tally.injLeft = s.tally.injLeft := by simp only [s6]; split <;> simp [hharvest, e5]
  split <;> simp [hhalt, e6]

theorem tallyProcess_injLeft (src kind : Nat) (addr : Word) (s : State) : (tallyProcess src kind addr s).tally.injLeft = s.tally.injLeft :=
  actions_injLeft ..

theorem tally_injLeft (src kind : Nat) (addr : Word) (s : State) : (tally src kind addr s).tally.injLeft = s.tally.injLeft := by
  unfold tally
  dsimp only
  split
  · split <;> simp [tallyProcess_injLeft]
  · split <;> rfl

theorem reject_injLeft (off tid : Nat) (s : State) : (reject off tid s).tally.injLeft = s.tally.injLeft := by
  simp [reject, tally_injLeft, setInt_tally]

/-! DROP and SNAP records. -/

theorem logOpen_powered {s : State} (h : logOpen s = true) : powered s = true := (Bool.and_eq_true_iff.1 h).1

/-- A record joins a queue with room (R345). -/
theorem logAt_room (ep : Epoch) (ty : Nat) (x : BitVec 8) (a : BitVec 16) (b : Word) {s : State} (hp : powered s = true)
    (hroom : s.tally.queue.length < 32) :
    (logAt ep ty x a b s).tally.queue = s.tally.queue ++ [⟨x, ty, logSub ty ep s, 0, ep, a, b, false⟩] ∧
    (logAt ep ty x a b s).tally.drops = s.tally.drops := by
  simp [logAt, logQueue, hp, hroom]

/-- A record changes TALLY only, and neither the snapshot nor what waits to be reported of the drops. -/
theorem logAt_tallyOnly (ep : Epoch) (ty : Nat) (x : BitVec 8) (a : BitVec 16) (b : Word) (s : State) :
    logAt ep ty x a b s = { s with tally := (logAt ep ty x a b s).tally } ∧ (logAt ep ty x a b s).tally.snap = s.tally.snap ∧
    (logAt ep ty x a b s).tally.snapEpoch = s.tally.snapEpoch ∧ (logAt ep ty x a b s).tally.dropSent = s.tally.dropSent := by
  simp only [logAt]
  split <;> exact ⟨rfl, rfl, rfl, rfl⟩

theorem tallyOnly_trans {s u v : State} (hu : u = { s with tally := u.tally }) (hv : v = { u with tally := v.tally }) :
    v = { s with tally := v.tally } := hv.trans (by rw [hu])

/-- The snapshot's records under its stamp. -/
def snapRecords (ps : List (Nat × Word)) (s : State) : State :=
  ps.foldl (fun s p => logAt s.tally.snapEpoch 6 (BitVec.ofNat 8 p.1) 0 p.2 s) s

theorem snapRecords_keeps : ∀ (ps : List (Nat × Word)) (s : State),
    snapRecords ps s = { s with tally := (snapRecords ps s).tally } ∧ (snapRecords ps s).tally.snap = s.tally.snap
  | [], _ => ⟨rfl, rfl⟩
  | p :: ps, s => by
    obtain ⟨only, snap, -⟩ := logAt_tallyOnly s.tally.snapEpoch 6 (BitVec.ofNat 8 p.1) 0 p.2 s
    obtain ⟨rest, snap'⟩ := snapRecords_keeps ps (logAt s.tally.snapEpoch 6 (BitVec.ofNat 8 p.1) 0 p.2 s)
    exact ⟨tallyOnly_trans only rest, snap'.trans snap⟩

/-- With room for all of them, one record per register joins the queue, in order (R348). -/
theorem snapRecords_queue : ∀ (ps : List (Nat × Word)) (s : State), powered s = true → s.tally.queue.length + ps.length ≤ 32 →
    ∃ rs : List Record, (snapRecords ps s).tally.queue = s.tally.queue ++ rs ∧
      rs.map (fun r => (r.type, r.x, r.arg1, r.epoch)) = ps.map (fun p => (6, BitVec.ofNat 8 p.1, p.2, s.tally.snapEpoch))
  | [], s, _, _ => ⟨[], by simp [snapRecords]⟩
  | p :: ps, s, hp, hroom => by
    rw [List.length_cons] at hroom
    obtain ⟨queue, -⟩ := logAt_room s.tally.snapEpoch 6 (BitVec.ofNat 8 p.1) 0 p.2 hp (by omega)
    obtain ⟨only, -, stamp, -⟩ := logAt_tallyOnly s.tally.snapEpoch 6 (BitVec.ofNat 8 p.1) 0 p.2 s
    obtain ⟨rs, all, fields⟩ := snapRecords_queue ps (logAt s.tally.snapEpoch 6 (BitVec.ofNat 8 p.1) 0 p.2 s)
      (by rw [only]; exact hp) (by rw [queue]; simp; omega)
    refine ⟨_, all.trans ((congrArg (· ++ rs) queue).trans (List.append_assoc _ _ _)), ?_⟩
    rw [List.map_append, fields, stamp]
    rfl

theorem snapWrite_due {s : State} (ho : logOpen s = true) (hh : s.top.state ≠ .harvest) (hs : s.tally.snap ≠ []) :
    snapWrite s = snapRecords s.tally.snap { s with tally := { s.tally with snap := [] } } := by
  rw [snapWrite, if_pos (by simp [ho, hh, hs]), snapRecords]

theorem snapWrite_empty {s : State} (hs : s.tally.snap = []) : snapWrite s = s := by
  rw [snapWrite, if_neg (by simp [hs])]

theorem dropWrite_due {s : State} (ho : logOpen s = true) (hd : 0 < s.tally.drops) (hroom : s.tally.queue.length < 32)
    (hb : logBlocked s = false) :
    dropWrite s = logAt s.fr.epoch 14 0 0 (BitVec.ofNat 32 s.tally.drops) { s with tally := { s.tally with drops := 0, dropSent := false } } := by
  rw [dropWrite, if_pos (by simp [ho, hd, hroom, hb]), logRec]

theorem dropWrite_idle {s : State} (h : s.tally.drops = 0 ∨ logBlocked s = true) : dropWrite s = s := by
  rw [dropWrite, if_neg]
  rcases h with h | h <;> simp [h]

/-- Settles O54: FAULT_INJECT by its class, each record by the words it is made of. -/
theorem injectionAndRecords : Obligations.InjectionAndRecords := by
  refine ⟨fun data s => ?_, fun be s => ?_, fun s ho hd hroom hb => ?_, fun s h => ?_, fun s ho hh hs => ?_, fun s hs => ?_⟩
  · intro e hr ho h16 hidle hlo hhi hcount
    have row := exec_faultInjectArm data allBe s
    rw [leave_reaches _ _ s hr ho] at row
    have classS : grantsS (popped s) = grantsS s := by simp [grantsS, powered]
    have idle : (popped s).tally.injLeft = 0 := by simpa using hidle
    refine ⟨_, row, fun hs => ?_, fun hs => ?_⟩
    · rw [applyInject_arms (classS.trans hs) h16 idle hlo hhi hcount]
      exact ⟨rfl, rfl, rfl, by simp [onlyReports]⟩
    · rw [applyInject_refused (classS.trans hs) h16]
      obtain ⟨marked, lastRej⟩ := reject_marks 0xA8 0 (popped s)
      exact ⟨(reject_injLeft ..).trans idle, marked, lastRej, by simp [onlyReports]⟩
  · intro e hr ho hbe
    rw [exec_faultInjectCancel, leave_reaches _ _ s hr ho, applyInject_cancels _ hbe]
    simp
  · refine ⟨_, exec_dropRecordWrite s, ?_⟩
    rw [dropWrite_due ho hd hroom hb]
    obtain ⟨queue, drops⟩ := logAt_room s.fr.epoch 14 0 0 (BitVec.ofNat 32 s.tally.drops)
      (s := { s with tally := { s.tally with drops := 0, dropSent := false } }) (logOpen_powered ho) hroom
    obtain ⟨only, -, -, sent⟩ := logAt_tallyOnly s.fr.epoch 14 0 0 (BitVec.ofNat 32 s.tally.drops)
      { s with tally := { s.tally with drops := 0, dropSent := false } }
    exact ⟨drops, sent, ⟨_, queue, rfl, rfl, rfl⟩, only⟩
  · rw [exec_dropRecordWrite, dropWrite_idle h]
  · refine ⟨_, exec_snapRecordWrite s, ?_⟩
    rw [snapWrite_due ho hh hs]
    obtain ⟨only, snap⟩ := snapRecords_keeps s.tally.snap { s with tally := { s.tally with snap := [] } }
    refine ⟨snap, only, fun hroom => ?_⟩
    obtain ⟨rs, queue, fields⟩ :=
      snapRecords_queue s.tally.snap { s with tally := { s.tally with snap := [] } } (logOpen_powered ho) hroom
    rw [queue, List.drop_left, fields]
  · rw [exec_snapRecordWrite, snapWrite_empty hs]

end Sys2Proof.Machine
end

section
/-! PROOFS. Orfort's line (17_orfort_monitor.md, R372 to R374). -/

namespace Sys2Proof.Machine

theorem exec_orfortCharRx (c : BitVec 8) (timing : Nat) (s : State) : exec (.orfortCharRx c timing) s = .next (charRx c timing s) := rfl
theorem exec_orfortBreak (s : State) : exec .orfortBreak s = .next (orfBreak s) := rfl

/-- The line, with the character that Orfort sends back. -/
def echoed (c : BitVec 8) (s : State) : State := { s with orf := { s.orf with echo := [c] } }

/-- A character at the right rate, by what it is (R373). -/
theorem charRx_line (c : BitVec 8) (timing : Nat) {s : State} (hup : orfUp s = true) (hauto : s.orf.autobaud = false)
    (hready : s.orf.ready = false) :
    charRx c timing s =
      if c = 0x0D then lineEnd (echoed c s)
      else if c = 0x0A ∨ c = 0x03 then echoed c s
      else if c = 0x08 ∨ c = 0x7F then { s with orf := { s.orf with echo := [c], line := s.orf.line.dropLast } }
      else if 120 ≤ s.orf.line.length then { s with orf := { s.orf with echo := [c], tooLong := true } }
      else { s with orf := { s.orf with echo := [c], line := s.orf.line ++ [c] } } := by
  rw [charRx, if_neg (by simp [hup]), if_neg (by simp [hauto]), if_neg (by simp [hready])]
  rfl

theorem charRx_down (c : BitVec 8) (timing : Nat) {s : State} (hup : orfUp s = false) : charRx c timing s = s := by
  simp [charRx, hup]

/-- Before the rate is known only a CR is heard, and it gives the rate where DIV can hold it (R372). -/
theorem charRx_autobaud (c : BitVec 8) (timing : Nat) {s : State} (hup : orfUp s = true) (hauto : s.orf.autobaud = true) :
    charRx c timing s =
      if c = 0x0D ∧ 33 ≤ (timing + 5) / 10 ∧ (timing + 5) / 10 ≤ 10417 then
        { s with orf := { s.orf with div := (timing + 5) / 10, autobaud := false, line := [], tooLong := false } }
      else s := by
  simp [charRx, hup, hauto]

/-- The end of a line keeps the rate and the echo. -/
theorem lineEnd_orfOnly (s : State) : lineEnd s = { s with orf := (lineEnd s).orf } ∧ (lineEnd s).orf.div = s.orf.div ∧
    (lineEnd s).orf.echo = s.orf.echo := by
  unfold lineEnd
  dsimp only
  repeat' split
  all_goals exact ⟨rfl, rfl, rfl⟩

theorem lineEnd_tooLong {s : State} (h : s.orf.tooLong = true) : lineEnd s = orfEnd 1 [] s := by simp [lineEnd, h]

/-- A line of which some character is not a space calls a command, or is answered with its error (R374). -/
theorem lineEnd_checked {s : State} (h : s.orf.tooLong = false) (hx : ∃ x, x ∈ s.orf.line ∧ x ≠ 0x20) :
    lineEnd s = if lineCheck (s.orf.line.map (·.toNat)) = 0 then { s with orf := { s.orf with ready := true, out := [] } }
      else orfEnd (lineCheck (s.orf.line.map (·.toNat))) [] s := by
  have text : (s.orf.line.map (·.toNat)).all (· == 0x20) = false := by
    obtain ⟨x, hmem, hne⟩ := hx
    refine List.all_eq_false.2 ⟨x.toNat, List.mem_map_of_mem hmem, ?_⟩
    rw [beq_iff_eq]
    exact fun h => hne (BitVec.eq_of_toNat_eq h)
  unfold lineEnd
  simp only [h, text, Bool.false_eq_true, if_false]
  split
  · next h0 => rw [if_pos h0]
  · next h0 => rw [if_neg h0]

/-- A character keeps everything but the line's own state. -/
theorem charRx_orfOnly (c : BitVec 8) (timing : Nat) {s : State} (hup : orfUp s = true) (hauto : s.orf.autobaud = false)
    (hready : s.orf.ready = false) :
    charRx c timing s = { s with orf := (charRx c timing s).orf } ∧ (charRx c timing s).orf.div = s.orf.div ∧
      (charRx c timing s).orf.echo = [c] := by
  rw [charRx_line c timing hup hauto hready]
  repeat' split
  · obtain ⟨only, div, echo⟩ := lineEnd_orfOnly (echoed c s)
    exact ⟨only, div, echo⟩
  all_goals exact ⟨rfl, rfl, rfl⟩

/-- A character that is no control character joins the line, or marks it too long. -/
theorem charRx_plain {c : BitVec 8} (timing : Nat) {s : State} (hup : orfUp s = true) (hauto : s.orf.autobaud = false)
    (hready : s.orf.ready = false) (hc : c ∉ [0x0D, 0x0A, 0x03, 0x08, 0x7F]) :
    charRx c timing s = if 120 ≤ s.orf.line.length then { s with orf := { s.orf with echo := [c], tooLong := true } }
      else { s with orf := { s.orf with echo := [c], line := s.orf.line ++ [c] } } := by
  simp only [List.mem_cons, List.not_mem_nil, or_false, not_or] at hc
  obtain ⟨hcr, hlf, hetx, hbs, hdel⟩ := hc
  rw [charRx_line c timing hup hauto hready, if_neg hcr, if_neg (not_or.2 ⟨hlf, hetx⟩), if_neg (not_or.2 ⟨hbs, hdel⟩)]

/-- Settles O58: a split on the character. -/
theorem orfortLine : Obligations.OrfortLine := by
  refine ⟨fun c timing s hup hauto hready => ?_, fun timing s hup hauto hlo hhi => ?_, fun c timing s hup hauto hc => ?_,
    fun s hup => ?_, fun c timing s hup => ?_⟩
  · obtain ⟨only, div, echo⟩ := charRx_orfOnly c timing hup hauto hready
    refine ⟨_, exec_orfortCharRx c timing s, only, div, echo, fun hc hroom => ?_, fun hc hfull => ?_, fun hc => ?_, fun hc hlong => ?_,
      fun hc hlong _ hx => ?_⟩
    · rw [charRx_plain timing hup hauto hready hc, if_neg (by omega)]
    · rw [charRx_plain timing hup hauto hready hc, if_pos hfull]
      exact ⟨rfl, rfl⟩
    · rw [charRx_line c timing hup hauto hready, if_neg (by rcases hc with rfl | rfl <;> decide),
        if_neg (by rcases hc with rfl | rfl <;> decide), if_pos hc]
    · rw [charRx_line c timing hup hauto hready, if_pos hc, lineEnd_tooLong (s := echoed c s) hlong]
      exact ⟨rfl, rfl, rfl⟩
    · rw [charRx_line c timing hup hauto hready, if_pos hc, lineEnd_checked (s := echoed c s) hlong hx]
      by_cases hform : lineCheck (s.orf.line.map (·.toNat)) = 0
      · rw [if_pos hform, if_pos (show lineCheck ((echoed c s).orf.line.map (·.toNat)) = 0 from hform)]
        exact ⟨rfl, rfl⟩
      · rw [if_neg hform, if_neg (show ¬lineCheck ((echoed c s).orf.line.map (·.toNat)) = 0 from hform)]
        exact ⟨rfl, rfl, rfl⟩
  · refine ⟨_, exec_orfortCharRx 0x0D timing s, ?_⟩
    rw [charRx_autobaud 0x0D timing hup hauto, if_pos ⟨rfl, hlo, hhi⟩]
    exact ⟨rfl, rfl, rfl, rfl⟩
  · rw [exec_orfortCharRx, charRx_autobaud c timing hup hauto, if_neg fun h => hc h.1]
  · rw [exec_orfortBreak, orfBreak, if_pos hup]
  · rw [exec_orfortCharRx, charRx_down c timing hup, exec_orfortBreak, orfBreak, if_neg (by simp [hup])]
    exact ⟨rfl, rfl⟩

end Sys2Proof.Machine
end

section
/-! PROOFS. The TAP's instructions (16_security_debug_power.md, R368, R369). -/

namespace Sys2Proof.Machine

theorem exec_jtagBypass (s : State) : exec .jtagBypass s = .next (if tapUp s then irBypass s else s) := rfl
theorem exec_jtagIdcode (s : State) : exec .jtagIdcode s = .next (irRun 0x01 (fun _ => true) (shiftOut [0x264001A3]) s) := rfl
theorem exec_jtagSamplePreload (bits : List Bool) (s : State) : exec (.jtagSamplePreload bits) s =
    .next (irRun 0x02 (fun _ => true) (fun s => { s with jtag := { s.jtag with boundary := bits } }) s) := rfl
theorem exec_jtagExtest (s : State) : exec .jtagExtest s = .next (irDrive 0x03 1 s) := rfl
theorem exec_jtagClamp (s : State) : exec .jtagClamp s = .next (irDrive 0x04 2 s) := rfl
theorem exec_jtagHighz (s : State) : exec .jtagHighz s = .next (irDrive 0x05 3 s) := rfl
theorem exec_jtagUnlock (data : Word) (s : State) :
    exec (.jtagUnlock data) s = .next (irRun 0x10 (privGrants grantsP) (jtagExchange data) s) := rfl
theorem exec_jtagObserve (op : ObsOp) (s : State) :
    exec (.jtagObserve op) s = .next (irRun 0x20 (privGrants grantsO) (observeOp op) s) := rfl
theorem exec_jtagService (op : SvcOp) (s : State) :
    exec (.jtagService op) s = .next (irRun 0x21 (privGrants grantsS) (serviceOp op) s) := rfl
theorem exec_jtagHivedbg (op : DbgOp) (s : State) :
    exec (.jtagHivedbg op) s = .next (irRun 0x30 (privGrants grantsX) (debugOp op) s) := rfl
theorem exec_jtagScan (s : State) : exec .jtagScan s = .next (irRun 0x31 (privGrants grantsX) (fun s => s) s) := rfl
theorem exec_jtagOtpProg (row : Nat) (val : List Word) (s : State) : exec (.jtagOtpProg row val) s =
    .next (irRun 0x40 (fun s => privGrants grantsX s && decide (s.sec.life = .blank)) (otpProg row val) s) := rfl
theorem exec_jtagReserved (code : Nat) (s : State) : exec (.jtagReserved code) s =
    .next (if tapUp s && decide (code < 256) && !jtagCodes.contains code then irBypass s else s) := rfl

/-! An instruction and its cell. -/

theorem irRun_down {code : BitVec 8} {ok : State → Bool} {f : State → State} {s : State} (h : tapUp s = false) :
    irRun code ok f s = s := by simp [irRun, h]

theorem irDrive_down {code : BitVec 8} {drive : Nat} {s : State} (h : tapUp s = false) : irDrive code drive s = s := by
  simp [irDrive, h]

theorem irRun_up {code : BitVec 8} {ok : State → Bool} {f : State → State} {s : State} (h : tapUp s = true) :
    irRun code ok f s = if ok s then f (irSelect code 0 [] s) else irBypass s := by simp [irRun, h]

theorem irDrive_up {code : BitVec 8} {drive : Nat} {s : State} (h : tapUp s = true) :
    irDrive code drive s = if grantsE s then irSelect code drive [] s else irBypass s := by simp [irDrive, h]

/-- What an instruction does where its cell permits it decides the row. -/
theorem irRun_of_permitted {code : BitVec 8} {ok : State → Bool} {f : State → State} {s t : State} (hup : tapUp s = true)
    (h : ok s = true → f (irSelect code 0 [] s) = t) : irRun code ok f s = if ok s then t else irBypass s := by
  rw [irRun_up hup]
  split
  · next hok => exact h hok
  · rfl

section
variable (code : BitVec 8) (drive : Nat) (tdo : List Word) (s : State)

/-- The word that RING_PORT would give does not depend on the TAP. -/
theorem readRingPort_irSelect : (readRingPort (irSelect code drive tdo s)).1 = (readRingPort s).1 := by
  have sel : selRing (irSelect code drive tdo s) = selRing s := rfl
  have usable : ∀ r, rUsable (irSelect code drive tdo s) r = rUsable s r := fun _ => rfl
  have ring : ∀ r, ringOf (irSelect code drive tdo s) r = ringOf s r := fun _ => rfl
  unfold readRingPort
  simp only [sel, usable, ring]
  split
  · rfl
  · split
    · rfl
    · split
      · rfl
      · split <;> rfl

theorem regPeek_irSelect (off : Nat) : regPeek (irSelect code drive tdo s) off = regPeek s off := by
  unfold regPeek
  generalize off / 4 = k
  split
  case h_10 => exact readRingPort_irSelect code drive tdo s
  all_goals rfl

end

/-! UNLOCK (R98, R363, R364). -/

/-- The level and the channel that a request leaves noted. -/
def askedOn (ch lvl : Nat) (s : State) : State := { s with sec := { s.sec with reqLevel := lvl, channel := ch } }

/-- A request on any channel, with no exchange pending, starts one or ends with its RESULT. -/
theorem unlockAsk_of_idle (ch lvl : Nat) {s : State} (hidle : s.sec.chal = none) :
    unlockAsk ch lvl s = if refuseUnlock s ch lvl = 0 then
      { askedOn ch lvl s with sec := { (askedOn ch lvl s).sec with chal := some (Config.challenge s.free), chalAge := 0 }, free := s.free + 1 }
      else unlockMsg 3 lvl ch (refuseUnlock s ch lvl)
        { askedOn ch lvl s with sec := { (askedOn ch lvl s).sec with result := refuseUnlock s ch lvl } } := by
  simp only [unlockAsk, cancelExchange_of_idle hidle]
  rfl

theorem jtagExchange_of_request {lvl : Nat} {s : State} (h1 : 1 ≤ lvl) (h3 : lvl ≤ 3) (hidle : s.sec.chal = none) :
    jtagExchange (requestWord lvl) s = shiftOut [(unlockAsk 2 lvl s).sec.chal.getD 0] (unlockAsk 2 lvl s) := by
  obtain ⟨hrelock, hlevel, hreq⟩ := requestWord_level h1 h3
  have isReq : (requestWord lvl = 0x554C0001 || requestWord lvl = 0x554C0002 || requestWord lvl = 0x554C0003) = true := by
    simpa [or_assoc] using hreq
  simp only [jtagExchange, if_neg hrelock, hidle, hlevel, isReq, if_true]

/-- What a request through the TAP leaves of the exchange, and shifts out. -/
theorem jtagExchange_asks {lvl : Nat} {s : State} (h1 : 1 ≤ lvl) (h3 : lvl ≤ 3) (hidle : s.sec.chal = none) :
    let t := jtagExchange (requestWord lvl) s
    t.sec.reqLevel = lvl ∧ t.sec.channel = 2 ∧ t.sec.level = s.sec.level ∧
      (refuseUnlock s 2 lvl = 0 → t.sec.chal = some (Config.challenge s.free) ∧ t.jtag.tdo = [Config.challenge s.free]) ∧
      (refuseUnlock s 2 lvl ≠ 0 → t.sec.chal = none ∧ t.sec.result = refuseUnlock s 2 lvl ∧ t.jtag.tdo = [0]) := by
  intro t
  have ht : t = _ := jtagExchange_of_request h1 h3 hidle
  rw [ht, unlockAsk_of_idle 2 lvl hidle]
  by_cases hr : refuseUnlock s 2 lvl = 0
  · rw [if_pos hr]
    exact ⟨rfl, rfl, rfl, fun _ => ⟨rfl, rfl⟩, fun h => absurd hr h⟩
  · rw [if_neg hr]
    simp [shiftOut, askedOn, hidle, hr]

/-! SERVICE's write of ARRAY_ADDR. -/

theorem busUp_of_grantsS {s : State} (h : grantsS s = true) (hrst : s.host.hrst = false) : busUp s = true := by
  simp only [grantsS, Bool.and_eq_true, bne_iff_ne, ne_eq, decide_eq_true_eq] at h
  obtain ⟨⟨⟨hp, hw⟩, hh⟩, -⟩ := h
  simp [busUp, quiesced, hp, hrst, hw, hh]

/-- ARRAY_ADDR of the host's port takes a value. -/
def arrayAddrSet (val : Word) (s : State) : State := { s with arr := { s.arr with port := { s.arr.port with addr := val } } }

theorem applyReg_arrayAddr (val : Word) (s : State) : applyReg 0x94 val allBe s = arrayAddrSet val s := by
  have h : applyReg 0x94 val allBe s =
      { s with arr := { s.arr with port := { s.arr.port with addr := mergeBits s.arr.port.addr val (beMask allBe) } } } := rfl
  rw [h, mergeBits_allBe]
  rfl

theorem gate_arrayAddr (val : Word) {s : State} (f : State → State) (hup : busUp s = true) (hwindow : s.top.window = false)
    (hwake : s.top.state ≠ .wake) : gate ⟨0x94, val, allBe⟩ f s = f s := by
  have whole : allBe ≠ 0#4 := by decide
  have plain : wordAtomic 0x94 = false := by decide
  simp [gate, hup, hwindow, hwake, whole, plain]

/-- Another path's write of ARRAY_ADDR takes effect as the host's would, and leaves the marks of earlier refusals. -/
theorem sideWrite_arrayAddr (val : Word) {s : State} (hs : grantsS s = true) (hrst : s.host.hrst = false) (hwindow : s.top.window = false) :
    (sideWrite 0x94 val (applyReg 0x94 val allBe) s).1 = arrayAddrSet val s := by
  have hup : busUp (quiet 0x94 s) = true := busUp_of_grantsS (s := quiet 0x94 s) hs hrst
  have hwake : (quiet 0x94 s).top.state ≠ .wake := by
    simp only [grantsS, Bool.and_eq_true, bne_iff_ne, ne_eq] at hs
    exact hs.1.1.2
  simp only [sideWrite, gate_arrayAddr val _ hup hwindow hwake, applyReg_arrayAddr]
  simp [unquiet, quiet, arrayAddrSet]

/-! The rows. -/

/-- With the TEST island unpowered no instruction is heard. -/
theorem jtag_down {s : State} (h : tapUp s = false) {c : Instr} {bits : List Bool} {data : Word} {row n : Nat} {ob : ObsOp} {op : SvcOp}
    {d : DbgOp} {ws : List Word} (hc : c ∈ [Instr.jtagBypass, .jtagIdcode, .jtagSamplePreload bits, .jtagExtest, .jtagClamp, .jtagHighz,
      .jtagUnlock data, .jtagObserve ob, .jtagService op, .jtagHivedbg d, .jtagScan, .jtagOtpProg row ws, .jtagReserved n]) :
    exec c s = .next s := by
  simp only [List.mem_cons, List.not_mem_nil, or_false] at hc
  rcases hc with rfl | rfl | rfl | rfl | rfl | rfl | rfl | rfl | rfl | rfl | rfl | rfl | rfl
  · rw [exec_jtagBypass, if_neg (by simp [h])]
  · rw [exec_jtagIdcode, irRun_down h]
  · rw [exec_jtagSamplePreload, irRun_down h]
  · rw [exec_jtagExtest, irDrive_down h]
  · rw [exec_jtagClamp, irDrive_down h]
  · rw [exec_jtagHighz, irDrive_down h]
  · rw [exec_jtagUnlock, irRun_down h]
  · rw [exec_jtagObserve, irRun_down h]
  · rw [exec_jtagService, irRun_down h]
  · rw [exec_jtagHivedbg, irRun_down h]
  · rw [exec_jtagScan, irRun_down h]
  · rw [exec_jtagOtpProg, irRun_down h]
  · rw [exec_jtagReserved, if_neg (by simp [h])]

/-- OBSERVE of a register shifts out its value, with no read side effect. -/
theorem observe_reg {off : Nat} (s : State) (h4 : off % 4 = 0) (hoff : off < 256) :
    observeOp (.reg off) (irSelect 0x20 0 [] s) = { irSelect 0x20 0 [regPeek s off] s with free := s.free + 1 } := by
  have inMap : regOff off = true := by simp [regOff, h4, hoff]
  simp only [observeOp, inMap, if_true, regPeek_irSelect]
  rfl

/-- OBSERVE of a sound entry shifts out its words. -/
theorem observe_entry {tid idx : Nat} {s : State} (hcode : tblCode s tid idx = 0) (h : tid ∉ [12, 13])
    (hsound : ∀ w, storeKey s tid idx w ∉ s.conf.tblUe ∧ storeKey s tid idx w ∉ s.conf.tblCe) :
    observeOp (.entry tid idx) (irSelect 0x20 0 [] s) = irSelect 0x20 0 (tblEntry s ((s.fr.epoch >>> 32).truncate 16) tid idx) s := by
  simp only [List.mem_cons, List.not_mem_nil, or_false, not_or] at h
  obtain ⟨h12, h13⟩ := h
  have code : tblCode (irSelect 0x20 0 [] s) tid idx = 0 := hcode
  simp only [observeOp, code, if_true, entryFetch_of_sound (s := irSelect 0x20 0 [] s) h12 h13 hsound]
  rfl

/-- HIVEDBG reads a sound word as it stands. -/
theorem debug_readMem {b : Bool} {a : Word} {s : State} (ha : ramAddr a = true) (hue : ramUe s b a.toNat = false)
    (hce : ramCe s b a.toNat = false) :
    debugOp (.readMem b a) (irSelect 0x30 0 [] s) = irSelect 0x30 0 [ramWord s b a.toNat 4] s := by
  have ue : ramUe (irSelect 0x30 0 [] s) b a.toNat = false := hue
  have ce : ramCe (irSelect 0x30 0 [] s) b a.toNat = false := hce
  simp only [debugOp, ha, ramRead, ue, ce, if_true, Bool.false_eq_true, if_false]
  rfl

/-- OTP_PROG changes no key but its own row's. -/
theorem otpProg_secOnly (row : Nat) (val : List Word) (s : State) : otpProg row val s = { s with sec := (otpProg row val s).sec } := by
  unfold otpProg
  dsimp only
  repeat' split
  all_goals rfl

theorem otpProg_owner (val : List Word) (s : State) :
    (otpProg 0 val s).sec = { s.sec with ukOwner := if s.sec.ukOwner = [] then val else s.sec.ukOwner } := by
  by_cases h : s.sec.ukOwner = [] <;> simp [otpProg, h]

/-- Settles O57: each row is `irRun` or `irDrive` of its instruction, with what that does where its cell permits it. -/
theorem jtagInstructions : Obligations.JtagInstructions := by
  refine ⟨fun s c bits data row n ob op d ws hdown hc => jtag_down hdown hc, fun s hup => ⟨?_, ?_, fun bits => ?_, ?_, ?_, ?_, ?_,
    fun n hn hcodes => ?_, fun off h4 hoff => ?_, fun tid idx hcode htid hsound => ?_, fun lvl h1 h3 hidle => ?_,
    fun ch start ramp hov => ?_, fun val hrst hwindow => ?_, fun b a ha hue hce => ?_, fun b => ⟨?_, ?_, ?_⟩, fun val => ?_⟩⟩
  · rw [exec_jtagBypass, if_pos hup]; rfl
  · rw [exec_jtagIdcode, irRun_up hup]; rfl
  · exact ⟨_, by rw [exec_jtagSamplePreload, irRun_up hup, if_pos rfl], rfl, rfl, rfl, rfl⟩
  · rw [exec_jtagExtest, irDrive_up hup]; rfl
  · rw [exec_jtagClamp, irDrive_up hup]; rfl
  · rw [exec_jtagHighz, irDrive_up hup]; rfl
  · rw [exec_jtagScan, irRun_up hup]; rfl
  · have listed : n ∉ jtagCodes := hcodes
    rw [exec_jtagReserved, if_pos (by simp [hup, hn, listed])]; rfl
  · rw [exec_jtagObserve, irRun_of_permitted hup fun _ => observe_reg s h4 hoff]; rfl
  · rw [exec_jtagObserve, irRun_of_permitted hup fun _ => observe_entry hcode htid hsound]; rfl
  · refine ⟨_, exec_jtagUnlock _ s, fun hok => ?_, fun hno => ?_⟩
    · rw [irRun_up hup, if_pos hok]
      exact jtagExchange_asks (s := irSelect 0x10 0 [] s) h1 h3 hidle
    · rw [irRun_up hup, if_neg (by simp [hno])]; rfl
  · have act : serviceOp (.override ch start ramp) (irSelect 0x21 0 [] s) = ovPut ch start ramp (irSelect 0x21 0 [] s) := if_pos hov
    rw [exec_jtagService, irRun_of_permitted hup fun _ => act]; rfl
  · have act (hok : privGrants grantsS s = true) :
        serviceOp (.reg 0x94 val) (irSelect 0x21 0 [] s) = arrayAddrSet val (irSelect 0x21 0 [] s) :=
      sideWrite_arrayAddr (s := irSelect 0x21 0 [] s) val (Bool.and_eq_true_iff.1 hok).1 hrst hwindow
    rw [exec_jtagService, irRun_of_permitted hup act]; rfl
  · rw [exec_jtagHivedbg, irRun_of_permitted hup fun _ => debug_readMem ha hue hce]; rfl
  · rw [exec_jtagHivedbg, irRun_up hup]; rfl
  · rw [exec_jtagHivedbg, irRun_up hup]; rfl
  · rw [exec_jtagHivedbg, irRun_up hup]; rfl
  · refine ⟨_, exec_jtagOtpProg 0 val s, fun hok hblank => ?_, fun hno => ?_, ?_⟩
    · rw [irRun_up hup, if_pos (by simp [hok, hblank]), otpProg_owner]
      refine ⟨rfl, ?_⟩
      rw [otpProg_secOnly]; rfl
    · rw [irRun_up hup, if_neg (by rcases hno with h | h <;> simp [h])]; rfl
    · rw [irRun_up hup]
      split
      · rw [otpProg_secOnly]; rfl
      · rfl

end Sys2Proof.Machine
end

section
/-! PROOFS. Lifecycle commands and their ends (02, 16_security_debug_power.md, R41, R349, R350). -/

namespace Sys2Proof.Machine

/-! Fields of a packed word. -/

theorem pack_getLsbD : ∀ (fs : List (Nat × Nat × Nat)) (i : Nat), (pack fs).getLsbD i =
    fs.any fun f => decide (i < 32) && decide (f.2.2 ≤ i) && decide (i - f.2.2 < f.2.1) && f.1.testBit (i - f.2.2)
  | [], i => by simp [pack]
  | (v, n, lo) :: fs, i => by
    rw [pack, BitVec.getLsbD_or, pack_getLsbD fs i, List.any_cons, BitVec.getLsbD_ofNat, Nat.testBit_mul_two_pow, Nat.testBit_mod_two_pow]
    simp [Bool.and_assoc]

/-- A field of a packed word whose other fields lie elsewhere is what was packed. -/
theorem fld_pack {fs : List (Nat × Nat × Nat)} {v n lo : Nat} (hmem : (v, n, lo) ∈ fs) (h32 : lo + n ≤ 32)
    (hothers : ∀ f ∈ fs, f ≠ (v, n, lo) → lo + n ≤ f.2.2 ∨ f.2.2 + f.2.1 ≤ lo) : fld (pack fs) lo n = v % 2 ^ n := by
  refine Nat.eq_of_testBit_eq fun i => ?_
  rw [fld_testBit, Nat.testBit_mod_two_pow, pack_getLsbD]
  by_cases hi : i < n
  · simp only [hi, decide_true, Bool.true_and]
    refine Bool.eq_iff_iff.2 ⟨fun h => ?_, fun h => List.any_eq_true.2 ⟨_, hmem, by simp [h, hi]; omega⟩⟩
    obtain ⟨f, hf, hbit⟩ := List.any_eq_true.1 h
    simp only [Bool.and_eq_true, decide_eq_true_eq] at hbit
    obtain ⟨⟨⟨-, hlo⟩, hwidth⟩, htest⟩ := hbit
    by_cases hsame : f = (v, n, lo)
    · subst hsame
      simpa using htest
    · have := hothers f hf hsame
      omega
  · simp [hi]

/-! The LIFECYCLE write. -/

/-- The word that a lifecycle command writes. -/
def lifeWord (cmd : Nat) (key : BitVec 16) : Word := pack [(cmd, 4, 8), (key.toNat, 16, 16)]

theorem lifeWord_fields {cmd : Nat} (key : BitVec 16) (h : cmd < 16) :
    fld (lifeWord cmd key) 8 4 = cmd ∧ fld (lifeWord cmd key) 16 16 = key.toNat := by
  constructor
  · rw [lifeWord, fld_pack (v := cmd) (by simp) (by decide) (by simp)]
    exact Nat.mod_eq_of_lt h
  · rw [lifeWord, fld_pack (v := key.toNat) (by simp) (by decide) (by simp)]
    exact Nat.mod_eq_of_lt key.isLt

theorem and_beMask_allBe (w : Word) : w &&& beMask allBe = w := by
  have hmask : beMask allBe = BitVec.allOnes 32 := by decide
  rw [hmask, BitVec.and_allOnes]

/-- A command that finds the block idle runs, or leaves its code (R350). -/
theorem applyLife_idle {cmd : Nat} (key : BitVec 16) {s : State} (h1 : cmd ≠ 0) (h4 : cmd < 16) (hidle : s.sec.lcBusy = none) :
    applyLife (lifeWord cmd key) allBe s = if lifeRefuse s cmd key.toNat = 0 then { s with sec := { s.sec with lcBusy := some cmd } }
      else { s with sec := { s.sec with lcResult := lifeRefuse s cmd key.toNat } } := by
  obtain ⟨hcmd, hkey⟩ := lifeWord_fields key h4
  have whole : allBe.getLsbD 1 = true := by decide
  simp only [applyLife, and_beMask_allBe, hcmd, hkey, whole, hidle, h1, Option.isSome_none, Bool.not_true, Bool.false_eq_true, if_false]
  split
  · next h0 => rw [if_pos h0]
  · next h0 => rw [if_neg h0]

theorem applyLife_busy (cmd : Nat) (key : BitVec 16) {s : State} (hbusy : s.sec.lcBusy.isSome = true) :
    applyLife (lifeWord cmd key) allBe s = reject 0x0C 0 s := by
  have whole : allBe.getLsbD 1 = true := by decide
  simp only [applyLife, whole, hbusy, Bool.not_true, Bool.false_eq_true, if_false, if_true]

/-- A lifecycle command is its write. -/
theorem exec_lifecycle {c : Instr} {cmd : Nat} {key : BitVec 16} (s : State) (hc : (c, cmd) ∈ [(Instr.lifecycleProvision key allBe, 1),
      (.lifecycleDeploy key allBe, 2), (.lifecycleRma key allBe, 3), (.lifecycleScrap key allBe, 4)]) :
    exec c s = .next (leave ⟨0x0C, lifeWord cmd key, allBe⟩ (applyLife (lifeWord cmd key) allBe) s) ∧ cmd ≠ 0 ∧ cmd < 16 := by
  simp only [List.mem_cons, List.not_mem_nil, or_false, Prod.mk.injEq] at hc
  rcases hc with ⟨rfl, rfl⟩ | ⟨rfl, rfl⟩ | ⟨rfl, rfl⟩ | ⟨rfl, rfl⟩
  all_goals exact ⟨rfl, by decide, by decide⟩

theorem exec_lifecycleCmdDone (ok : Bool) (s : State) : exec (.lifecycleCmdDone ok) s = .next (lifeDone ok s) := rfl

/-! The effects. -/

/-- The erase of the keys' sectors leaves them blank in both banks. -/
theorem foldl_eraseOk_arrWord (w : Nat) : ∀ (xs : List Nat) (s : State),
    arrWord (xs.foldl (fun s x => eraseOk x s) s) w = if secOf (8 * w) ∈ xs then erasedWord else arrWord s w
  | [], _ => by simp
  | x :: xs, s => by
    rw [List.foldl_cons, foldl_eraseOk_arrWord w xs, eraseOk_arrWord]
    by_cases hx : secOf (8 * w) = x <;> simp [hx]

theorem eraseKeys_arrWord (s : State) {w : Nat} (h : secOf (8 * w) % 128 ∈ [100, 101, 102, 103]) (h256 : secOf (8 * w) < 256) :
    arrWord (eraseKeys s) w = erasedWord := by
  have blank := foldl_eraseOk_arrWord w [100, 101, 102, 103, 228, 229, 230, 231] s
  have inKeys : secOf (8 * w) ∈ [100, 101, 102, 103, 228, 229, 230, 231] := by
    simp only [List.mem_cons, List.not_mem_nil, or_false] at h ⊢
    omega
  rw [if_pos inKeys] at blank
  exact blank

/-- The entry as `endPlaced` ends it. -/
def endedEntry (epoch : Epoch) (e : CatEntry) : CatEntry :=
  { e with ended := if e.opened || e.sealed then 2 else 3, endEpoch := epoch }

theorem endedEntry_ended (epoch : Epoch) (e : CatEntry) : (endedEntry epoch e).ended ≠ 0 := by
  simp only [endedEntry]
  split <;> decide

/-- Ends placed for the slots of es: every entry without one has its slot among those still to come. -/
theorem foldl_ended : ∀ (es : List CatEntry) (s : State), (∀ c ∈ s.nand.catalog, c.ended ≠ 0 ∨ ∃ e ∈ es, e.slot = c.slot) →
    ∀ c ∈ (es.foldl (fun s e => modEntry e.slot (fun _ => endedEntry s.fr.epoch e)
      (setWord (catOff e.slot 15 false / 8) (catWord (endedEntry s.fr.epoch e) 15) s)) s).nand.catalog, c.ended ≠ 0
  | [], s, h => fun c hc => (h c hc).resolve_right (by simp)
  | e :: es, s, h => by
    rw [List.foldl_cons]
    refine foldl_ended es _ fun c hc => ?_
    obtain ⟨c0, hc0, rfl⟩ := List.mem_map.1 hc
    by_cases hslot : c0.slot = e.slot
    · left
      simp only [hslot, beq_self_eq_true, if_true]
      exact endedEntry_ended _ _
    · simp only [beq_iff_eq, hslot, if_false]
      refine (h c0 hc0).imp_right fun ⟨x, hx, hs⟩ => ⟨x, ?_, hs⟩
      exact (List.mem_cons.1 hx).resolve_left fun hxe => hslot (by rw [← hs, hxe])

theorem endPlaced_ended (s : State) : ∀ c ∈ (endPlaced s).nand.catalog, c.ended ≠ 0 :=
  foldl_ended _ s fun c hc => by
    by_cases h0 : c.ended = 0
    · exact .inr ⟨c, List.mem_filter.2 ⟨hc, by simp [h0]⟩, rfl⟩
    · exact .inl h0

/-- The lifecycle state a command leads to (Table: Lifecycle commands). -/
def lifeAfter (cmd : Nat) : Lifecycle := if cmd = 1 then .provisioned else if cmd = 2 then .deployed else if cmd = 3 then .rma else .scrapped

theorem lifeEffect_life (cmd : Nat) (s : State) : (lifeEffect cmd s).sec.life = lifeAfter cmd := by
  unfold lifeEffect lifeAfter
  dsimp only
  repeat' split
  all_goals rfl

theorem lifeEffect_scrap (s : State) : lifeEffect 4 s =
    { eraseKeys (endPlaced s) with sec := { (eraseKeys (endPlaced s)).sec with epochFuses := 32, life := .scrapped } } := rfl

/-! The end of a command. -/

/-- t keeps what a command's end shows: RESULT, the lifecycle state, the slots, the array, the catalog, the tables, WAKE to come and
LC_CHANGE's source. -/
def SameLife (s t : State) : Prop :=
  t.sec.lcBusy = s.sec.lcBusy ∧ t.sec.lcResult = s.sec.lcResult ∧ t.sec.life = s.sec.life ∧ t.sec.slots = s.sec.slots ∧
  t.arr = s.arr ∧ t.nand = s.nand ∧ t.conf = s.conf ∧ t.top.trig.softWake = s.top.trig.softWake ∧
  (powered s = true → srcOf t 0x24 = srcOf s 0x24)

theorem SameLife.trans {s t u : State} (h : SameLife s t) (k : SameLife t u) (hp : powered t = powered s) : SameLife s u := by
  obtain ⟨busy, result, life, slots, arr, nand, conf, wake, src⟩ := h
  obtain ⟨busy', result', life', slots', arr', nand', conf', wake', src'⟩ := k
  exact ⟨busy'.trans busy, result'.trans result, life'.trans life, slots'.trans slots, arr'.trans arr, nand'.trans nand,
    conf'.trans conf, wake'.trans wake, fun h => (src' (hp.trans h)).trans (src h)⟩

theorem tally_sameLife {src : Nat} (h24 : 0x24 ≠ src) (kind : Nat) (addr : Word) (s : State) : SameLife s (tally src kind addr s) := by
  obtain ⟨-, -, -, -, top, -⟩ := tally_reports src kind addr s
  refine ⟨by simp, by simp, by simp, by simp, by simp, by simp, by simp, by rw [top], fun hp => ?_⟩
  exact tally_otherSrc kind addr hp h24 (by decide)

/-- The kill's first steps: keys cleared, the level closed, the next epoch fuse blown (R360). -/
def killed (s : State) : State :=
  let s1 := closeLevel (clearKeys s)
  let e := min 32 (s1.sec.epochFuses + 1)
  { s1 with
    sec := { s1.sec with epochFuses := e, killPend := false, blow := if e = s1.sec.epochFuses then 0 else 13 }
    scout := { s1.scout with killMade := true } }

theorem killed_sameLife (s : State) : SameLife s (killed s) := by
  by_cases h : s.sec.chal.isSome = true <;> simp [SameLife, killed, closeLevel, cancelExchange, clearKeys, srcOf, h]

/-- A kill that no lifecycle command holds back. -/
theorem kill_of_idle {s : State} (h : s.sec.lcBusy = none) :
    kill s = tally 0x25 2 (BitVec.ofNat 32 (min 32 ((closeLevel (clearKeys s)).sec.epochFuses + 1))) (killed s) := by
  rw [kill, if_neg (by simp [h])]
  rfl

theorem kill_sameLife {s : State} (h : s.sec.lcBusy = none) : SameLife s (kill s) := by
  rw [kill_of_idle h]
  exact (killed_sameLife s).trans (tally_sameLife (by decide) 2 _ _) (by simp [killed, powered])

/-- The state that a command's end leaves before its message. -/
def lifeEnded (ok : Bool) (cmd : Nat) (s : State) : State :=
  let u := if ok then lifeEffect cmd s else s
  { u with
    sec := { u.sec with lcBusy := none, lcResult := if ok then 1 else 6 }
    top := { u.top with trig := { u.top.trig with softWake := true } } }

/-- The end of a command, with its message. -/
def lifeReported (ok : Bool) (cmd : Nat) (s : State) : State :=
  if ok then tally 0x24 3 (BitVec.ofNat 32 (lifeEnded ok cmd s).sec.life.code) (lifeEnded ok cmd s) else lifeEnded ok cmd s

theorem lifeDone_of_busy {ok : Bool} {cmd : Nat} {s : State} (h : s.sec.lcBusy = some cmd) :
    lifeDone ok s = if (lifeReported ok cmd s).sec.killPend then
      { kill (lifeReported ok cmd s) with top := { (kill (lifeReported ok cmd s)).top with
          trig := { (kill (lifeReported ok cmd s)).top.trig with tamper := true } } }
      else lifeReported ok cmd s := by
  simp only [lifeDone, h]
  rfl

theorem lifeReported_shown (ok : Bool) (cmd : Nat) (s : State) : let t := lifeReported ok cmd s; let u := lifeEnded ok cmd s
    t.sec = u.sec ∧ t.arr = u.arr ∧ t.nand = u.nand ∧ t.conf = s.conf ∧ t.top.trig.softWake = true ∧
    (ok = true → powered s = true → (srcOf t 0x24).lastKind = 3) := by
  intro t u
  cases ok with
  | false => exact ⟨rfl, rfl, rfl, rfl, rfl, nofun⟩
  | true =>
    obtain ⟨-, -, -, -, top, -⟩ := tally_reports 0x24 3 (BitVec.ofNat 32 u.sec.life.code) u
    have conf : u.conf = s.conf := by simp [u, lifeEnded]
    have power : powered u = powered s := by simp [u, lifeEnded, powered]
    have ht : t = tally 0x24 3 (BitVec.ofNat 32 u.sec.life.code) u := rfl
    rw [ht]
    refine ⟨by simp, by simp, by simp, by simp [conf], by rw [top]; rfl, fun _ hp => ?_⟩
    exact (tally_latest 3 _ (power.trans hp) (by decide)).1

/-- A kill that waited changes nothing of what the end shows. -/
theorem lifeDone_sameLife {ok : Bool} {cmd : Nat} {s : State} (h : s.sec.lcBusy = some cmd) : SameLife (lifeReported ok cmd s) (lifeDone ok s) := by
  obtain ⟨sec, -⟩ := lifeReported_shown ok cmd s
  have idle : (lifeReported ok cmd s).sec.lcBusy = none := by rw [sec]; rfl
  rw [lifeDone_of_busy h]
  split
  · exact kill_sameLife idle
  · exact ⟨rfl, rfl, rfl, rfl, rfl, rfl, rfl, rfl, fun _ => rfl⟩

theorem lifeDone_of_idle {ok : Bool} {s : State} (h : s.sec.lcBusy = none) : lifeDone ok s = s := by simp only [lifeDone, h]

/-- Settles O55: a command's end is `lifeEnded`, which its message and a kill that waited leave as it is. -/
theorem lifecycleCommands : Obligations.LifecycleCommands := by
  refine ⟨fun c cmd key s hc => ?_, fun ok cmd s hbusy h1 h4 => ?_, fun ok s hidle => ?_⟩
  · intro e hr ho
    obtain ⟨row, hne, hlt⟩ := exec_lifecycle s hc
    rw [leave_reaches ⟨0x0C, lifeWord cmd key, allBe⟩ _ s hr ho] at row
    have refuse : lifeRefuse (popped s) cmd key.toNat = lifeRefuse s cmd key.toNat := by simp [lifeRefuse]
    refine ⟨_, row, ?_, fun hidle h0 => ?_, fun hidle h0 => ?_, fun hbusy => ?_⟩
    · simp [onlyReports]
    · rw [applyLife_idle key hne hlt (by simpa using hidle), refuse, if_pos h0]
      exact ⟨by simp, by simp⟩
    · rw [applyLife_idle key hne hlt (by simpa using hidle), refuse, if_neg h0]
      simp
    · rw [applyLife_busy cmd key (by simpa using hbusy)]
      obtain ⟨marked, lastRej⟩ := reject_marks 0x0C 0 (popped s)
      exact ⟨by simp, marked, lastRej⟩
  · obtain ⟨sec, arr, nand, conf, wake, kind⟩ := lifeReported_shown ok cmd s
    obtain ⟨busy', result', life', slots', arr', nand', conf', wake', src'⟩ := lifeDone_sameLife (ok := ok) hbusy
    rw [sec] at busy' result' life' slots'
    refine ⟨_, exec_lifecycleCmdDone ok s, busy', result', wake'.trans wake, conf'.trans conf, life'.trans ?_, fun hok h3 => ⟨?_, fun w hw h256 => ?_⟩,
      fun hok hscrap => ⟨?_, ?_⟩, fun hok hp => ?_, fun hok => ?_⟩
    · cases ok with
      | false => rfl
      | true => exact lifeEffect_life cmd s
    · subst hok h3
      exact slots'
    · subst hok h3
      rw [arrWord, arr', arr]
      exact eraseKeys_arrWord s hw h256
    · subst hok hscrap
      exact slots'
    · subst hok hscrap
      rw [nand', nand, List.all_eq_true]
      intro c hc
      have kept : (lifeEnded true 4 s).nand = (endPlaced s).nand := by simp [lifeEnded, lifeEffect_scrap]
      rw [kept] at hc
      simpa using endPlaced_ended s c hc
    · have power : powered (lifeReported ok cmd s) = powered s := by simp [lifeReported, lifeEnded, hok, powered]
      rw [src' (power.trans hp)]
      exact kind hok hp
    · subst hok
      exact arr'.trans arr
  · rw [exec_lifecycleCmdDone, lifeDone_of_idle hidle]

end Sys2Proof.Machine
end

section
/-! PROOFS. KEY_CTRL's operations and their ends (02, 16_security_debug_power.md, R41, R354, R355, R357). -/

namespace Sys2Proof.Machine

/-! The write. -/

/-- The word that a KEY_CTRL operation writes. -/
def keyWord (op slot idx : Nat) (d : BitVec 16) : Word := pack [(op, 4, 0), (slot, 6, 4), (idx, 5, 10), (d.toNat, 16, 16)]

theorem keyWord_fields {op slot idx : Nat} (d : BitVec 16) (hop : op < 16) (hslot : slot < 64) (hidx : idx < 32) :
    fld (keyWord op slot idx d) 0 4 = op ∧ fld (keyWord op slot idx d) 4 6 = slot ∧ fld (keyWord op slot idx d) 10 5 = idx ∧
      (keyWord op slot idx d >>> 16).truncate 16 = d := by
  refine ⟨?_, ?_, ?_, ?_⟩
  · rw [keyWord, fld_pack (v := op) (by simp) (by decide) (by simp)]
    exact Nat.mod_eq_of_lt hop
  · rw [keyWord, fld_pack (v := slot) (by simp) (by decide) (by simp)]
    exact Nat.mod_eq_of_lt hslot
  · rw [keyWord, fld_pack (v := idx) (by simp) (by decide) (by simp)]
    exact Nat.mod_eq_of_lt hidx
  · have upper : fld (keyWord op slot idx d) 16 16 = d.toNat := by
      rw [keyWord, fld_pack (v := d.toNat) (by simp) (by decide) (by simp)]
      exact Nat.mod_eq_of_lt d.isLt
    refine BitVec.eq_of_toNat_eq ?_
    rw [BitVec.truncate_eq_setWidth, BitVec.toNat_setWidth, BitVec.toNat_ushiftRight, Nat.shiftRight_eq_div_pow]
    exact upper

/-- The slot that the write selects (KEY_STAT.SLOT_STATE). -/
def slotSelected (slot : Nat) (s : State) : State := { s with sec := { s.sec with keySlot := slot } }

theorem applyKeyCtrl_busy (w : Word) {s : State} (h : s.sec.keyBusy.isSome = true) : applyKeyCtrl w allBe s = reject 0xD0 0 s := by
  simp only [applyKeyCtrl, h, if_true]

/-- An operation that finds the block idle starts, or leaves its code (R355). -/
theorem applyKeyCtrl_idle {op slot idx : Nat} (d : BitVec 16) {s : State} (h0 : op ≠ 0) (hop : op < 16) (hslot : slot < 64)
    (hidx : idx < 32) (hidle : s.sec.keyBusy = none) :
    applyKeyCtrl (keyWord op slot idx d) allBe s =
      if keyRefuse s op = 0 then keyStart op slot idx d (slotSelected slot s) else keyFail (keyRefuse s op) (slotSelected slot s) := by
  obtain ⟨fop, fslot, fidx, fdata⟩ := keyWord_fields d hop hslot hidx
  rw [applyKeyCtrl, if_neg (by simp [hidle])]
  simp only [mergeBits_allBe, and_beMask_allBe, fop, fslot, fidx, fdata, h0, if_false]
  split
  · next h => rw [if_pos (show keyRefuse s op = 0 from h)]; rfl
  · next h => rw [if_neg (show ¬keyRefuse s op = 0 from h)]; rfl

/-- A KEY_CTRL command is its write. -/
theorem exec_keyOp {c : Instr} {op slot idx : Nat} {d : BitVec 16} {s : State}
    (hc : (c, op, slot, idx, d) ∈ [(Instr.keyGen slot, 1, slot, 0, 0), (.keyLoad idx d, 2, s.sec.keySlot, idx, d), (.keyImport slot, 3, slot, 0, 0),
      (.keyZero slot, 4, slot, 0, 0), (.keyRaiseFw, 5, s.sec.keySlot, 0, 0), (.keyRaiseExt, 6, s.sec.keySlot, 0, 0)] ∨
      (7 ≤ op ∧ op ≤ 15 ∧ c = .keyReservedOp op ∧ slot = s.sec.keySlot ∧ idx = 0 ∧ d = 0)) :
    exec c s = .next (leave ⟨0xD0, keyWord op slot idx d, allBe⟩ (applyKeyCtrl (keyWord op slot idx d) allBe) s) ∧ op ≠ 0 ∧ op < 16 := by
  rcases hc with hc | ⟨h7, h15, rfl, rfl, rfl, rfl⟩
  · simp only [List.mem_cons, List.not_mem_nil, or_false, Prod.mk.injEq] at hc
    rcases hc with ⟨rfl, rfl, -, rfl, rfl⟩ | ⟨rfl, rfl, rfl, -, -⟩ | ⟨rfl, rfl, -, rfl, rfl⟩ | ⟨rfl, rfl, -, rfl, rfl⟩ |
      ⟨rfl, rfl, rfl, rfl, rfl⟩ | ⟨rfl, rfl, rfl, rfl, rfl⟩
    all_goals exact ⟨rfl, by decide, by decide⟩
  · refine ⟨?_, by omega, by omega⟩
    exact if_pos ⟨h7, h15⟩

/-- What an operation that starts leaves besides its own marks. -/
theorem keyStart_slots (op slot idx : Nat) (d : BitVec 16) (s : State) : let t := keyStart op slot idx d s
    t.sec.keySlot = s.sec.keySlot ∧ t.sec.slots = s.sec.slots ∧ t.sec.level = s.sec.level := by
  simp only [keyStart, stageHalf, keyFail]
  repeat' split
  all_goals exact ⟨rfl, rfl, rfl⟩

/-- What the start of an operation leaves, by operation (Table: KEY_CTRL). -/
theorem keyStart_started (op slot idx : Nat) (d : BitVec 16) (s : State) (hidle : s.sec.keyBusy = none) : let t := keyStart op slot idx d s
    (op = 1 ∨ op = 4 → t.sec.keyBusy = some (op, slot)) ∧
    (op = 2 → t.sec.keyBusy = none ∧ (idx, d) ∈ t.sec.staging) ∧
    (op = 3 → if s.sec.staging.length = 32 ∧ (stagedKey s).take 16 ≠ (stagedKey s).drop 16 then
      t.sec.keyBusy = some (3, slot) ∧ t.sec.keyIn = stagedKey s else t.sec.keyErr = true ∧ t.sec.keyCode = 5) ∧
    (op = 5 → if raiseVal s true ≤ s.sec.fwMin then t.sec.keyCode = 7 else t.sec.keyBusy = some (5, slot)) ∧
    (op = 6 → if raiseVal s false ≤ s.sec.extMin then t.sec.keyCode = 7 else t.sec.keyBusy = some (6, slot)) := by
  intro t
  refine ⟨?_, ?_, ?_, ?_, ?_⟩
  · rintro (rfl | rfl) <;> rfl
  · rintro rfl
    exact ⟨hidle, by simp [t, keyStart, stageHalf]⟩
  · rintro rfl
    by_cases hgood : s.sec.staging.length = 32 ∧ (stagedKey s).take 16 ≠ (stagedKey s).drop 16
    · rw [if_pos hgood]
      simp [t, keyStart, hgood.1, hgood.2]
    · have bad : s.sec.staging.length ≠ 32 ∨ (stagedKey s).take 16 = (stagedKey s).drop 16 := by tauto
      rw [if_neg hgood]
      simp [t, keyStart, bad, keyFail]
  · rintro rfl
    split
    · next h => simp [t, keyStart, h, keyFail]
    · next h => simp [t, keyStart, h]
  · rintro rfl
    split
    · next h => simp [t, keyStart, h, keyFail]
    · next h => simp [t, keyStart, h]

/-! The keys' records. -/

/-- t holds what s holds in every word outside the keys' sectors of the two banks. -/
def SameBeyondKeys (s t : State) : Prop := ∀ w, secOf (8 * w) % 128 ∉ [100, 101, 102, 103] → arrWord t w = arrWord s w

theorem SameBeyondKeys.trans {s t u : State} (h : SameBeyondKeys s t) (k : SameBeyondKeys t u) : SameBeyondKeys s u :=
  fun w hw => (k w hw).trans (h w hw)

theorem SameBeyondKeys.foldl_mem {β : Type} {f : State → β → State} : ∀ {l : List β} {s : State},
    (∀ x ∈ l, ∀ s, SameBeyondKeys s (f s x)) → SameBeyondKeys s (l.foldl f s)
  | [], _, _ => fun _ _ => rfl
  | x :: _, s, h => (h x List.mem_cons_self s).trans (SameBeyondKeys.foldl_mem fun y hy => h y (List.mem_cons_of_mem x hy))

theorem setWord_sameBeyondKeys {w : Nat} (d : DWord) (h : secOf (8 * w) % 128 ∈ [100, 101, 102, 103]) (s : State) :
    SameBeyondKeys s (setWord w d s) := fun v hv => (setWord_laws w d s).2.1 v (by rintro rfl; exact hv h)

theorem eraseOk_sameBeyondKeys {sec : Nat} (h : sec % 128 ∈ [100, 101, 102, 103]) (s : State) : SameBeyondKeys s (eraseOk sec s) :=
  fun w hw => by rw [eraseOk_arrWord, if_neg (by rintro rfl; exact hw h)]

/-- Records that begin in the sector the key engine appends to end before sector 103. -/
theorem keyWords_sameBeyondKeys {sec first n : Nat} (hsec : sec = 100 ∨ sec = 101) (hn : first + n ≤ 4096) (s : State) :
    SameBeyondKeys s (keyWords sec first n s) := by
  have records : SameBeyondKeys s ((List.range n).foldl (fun s' i =>
      let d := Config.recordWord (16 + i) s'.free
      setWord (sec * 2048 + first + i + 0x40000) d (setWord (sec * 2048 + first + i) d s')) s) := by
    refine SameBeyondKeys.foldl_mem fun i hi t => ?_
    have hin : i < n := List.mem_range.1 hi
    refine (setWord_sameBeyondKeys _ ?_ t).trans (setWord_sameBeyondKeys _ ?_ _) <;>
      simp only [secOf, List.mem_cons, List.not_mem_nil, or_false] <;> omega
  exact records

theorem keySector_cases (s : State) : keySector s = 100 ∨ keySector s = 101 := by
  unfold keySector
  split
  · exact .inr rfl
  · exact .inl rfl

theorem foldl_used_le {base : Nat} : ∀ (ws : List Nat) (a : Nat), (∀ w ∈ ws, w < base + 2048) → a ≤ 2048 →
    ws.foldl (fun a w => max a (w + 1 - base)) a ≤ 2048
  | [], _, _, ha => ha
  | w :: ws, a, h, ha => by
    have hw := h w List.mem_cons_self
    exact foldl_used_le ws _ (fun v hv => h v (List.mem_cons_of_mem w hv)) (Nat.max_le.2 ⟨ha, by omega⟩)

theorem keyUsed_le (s : State) : keyUsed s ≤ 2048 :=
  foldl_used_le _ 0 (fun w hw => by simpa using (Bool.and_eq_true_iff.1 (List.mem_filter.1 hw).2).2) (by omega)

/-- A slot's record, and the records that move when the sector is full, stay within the keys' sectors (R354). -/
theorem keyAppend_sameBeyondKeys {n : Nat} (hn : n ≤ 2048) {s : State} (hslots : s.sec.slots.length ≤ 64) :
    SameBeyondKeys s (keyAppend n s) := by
  have old := keySector_cases s
  have used := keyUsed_le s
  unfold keyAppend
  split
  · exact keyWords_sameBeyondKeys old (by omega) s
  · extract_lets k s1 s2
    have moved : SameBeyondKeys s s1 := keyWords_sameBeyondKeys (by omega) (by omega) s
    have blank : SameBeyondKeys s1 s2 := (eraseOk_sameBeyondKeys (by rcases old with h | h <;> simp [k, h]) s1).trans
      (eraseOk_sameBeyondKeys (by rcases old with h | h <;> simp [k, h]) _)
    have used2 := keyUsed_le s2
    exact (moved.trans blank).trans (keyWords_sameBeyondKeys (keySector_cases s2) (by omega) s2)

/-! The end of an operation. -/

theorem exec_keyOpDone (ok : Bool) (s : State) : exec (.keyOpDone ok) s = .next (keyDone ok s) := rfl

/-- The slot a key holds. -/
def slotAt (t : State) (k : Nat) : Slot := Sparse.get (fun _ => Slot.empty) t.sec.slots k

theorem putSlot_same (slot : Nat) (v : Slot) (s : State) : slotAt (putSlot slot v s) slot = v := Sparse.get_put _ _ _ _

theorem putSlot_other {slot k : Nat} (v : Slot) (s : State) (h : k ≠ slot) : slotAt (putSlot slot v s) k = slotAt s k :=
  Sparse.get_put_ne _ _ _ h

/-- A slot's operation appends a record before it changes the slot. -/
def slotRecorded (op : Nat) (s : State) : State := if op = 1 ∨ op = 3 ∨ op = 4 then keyAppend 9 s else s

theorem slotRecorded_keeps (op : Nat) (s : State) : let t := slotRecorded op s
    t = { s with arr := t.arr, free := t.free } ∧ (5 ≤ op → t.arr = s.arr) ∧ (s.sec.slots.length ≤ 64 → SameBeyondKeys s t) := by
  simp only [slotRecorded]
  split
  · next h =>
    refine ⟨?_, fun h5 => by omega, fun hslots => keyAppend_sameBeyondKeys (by decide) hslots⟩
    simp only [← keyAppend_blocks 9 s]
  · exact ⟨rfl, fun _ => rfl, fun _ _ _ => rfl⟩

/-- The change that an operation makes once its record is written (Table: KEY_CTRL, R354, R357). -/
theorem keyEffect_eq (op slot : Nat) (s : State) : keyEffect op slot s =
    let u := slotRecorded op s
    if op = 1 then putSlot slot (.generated u.free) { u with free := u.free + 1 }
    else if op = 3 then putSlot slot (.imported u.sec.keyIn) u
    else if op = 4 then putSlot slot .empty u
    else if op = 5 then { u with sec := { u.sec with fwMin := max u.sec.fwMin (raiseVal u true) } }
    else { u with sec := { u.sec with extMin := max u.sec.extMin (raiseVal u false) } } := rfl

/-- What the effect of a key operation leaves as it is. -/
theorem keyEffect_ownOnly (op slot : Nat) (s : State) : let t := keyEffect op slot s
    t = { s with sec := t.sec, arr := t.arr, free := t.free } ∧ t.sec.level = s.sec.level ∧ t.sec.life = s.sec.life ∧
    (∀ k, k ≠ slot → slotAt t k = slotAt s k) ∧ (5 ≤ op → t.arr = s.arr) ∧ (s.sec.slots.length ≤ 64 → SameBeyondKeys s t) := by
  obtain ⟨only, arr, words⟩ := slotRecorded_keeps op s
  rw [keyEffect_eq]
  generalize slotRecorded op s = u at *
  have sec : u.sec = s.sec := by rw [only]
  have slots : ∀ k, slotAt u k = slotAt s k := fun k => by rw [slotAt, sec, slotAt]
  dsimp only
  split
  · exact ⟨by rw [only]; rfl, by rw [only]; rfl, by rw [only]; rfl, fun k hk => (putSlot_other _ _ hk).trans (slots k), fun h5 => by omega, words⟩
  split
  · exact ⟨by rw [only]; rfl, by rw [only]; rfl, by rw [only]; rfl, fun k hk => (putSlot_other _ _ hk).trans (slots k), fun h5 => by omega, words⟩
  split
  · exact ⟨by rw [only]; rfl, by rw [only]; rfl, by rw [only]; rfl, fun k hk => (putSlot_other _ _ hk).trans (slots k), fun h5 => by omega, words⟩
  split <;> exact ⟨by rw [only], by rw [only], by rw [only], fun k _ => slots k, arr, words⟩

/-- What it leaves in its slot, or of its count. -/
theorem keyEffect_own (op slot : Nat) (s : State) : let t := keyEffect op slot s
    (op = 1 → ∃ n, slotAt t slot = .generated n) ∧ (op = 3 → slotAt t slot = .imported s.sec.keyIn) ∧ (op = 4 → slotAt t slot = .empty) ∧
    (op = 5 → t.sec.fwMin = max s.sec.fwMin (raiseVal s true)) ∧ (op = 6 → t.sec.extMin = max s.sec.extMin (raiseVal s false)) := by
  obtain ⟨only, -⟩ := slotRecorded_keeps op s
  have sec : (slotRecorded op s).sec = s.sec := by rw [only]
  intro t
  have ht : t = _ := keyEffect_eq op slot s
  rw [ht]
  refine ⟨?_, ?_, ?_, ?_, ?_⟩
  · rintro rfl
    exact ⟨_, putSlot_same slot _ _⟩
  · rintro rfl
    rw [← sec]
    exact putSlot_same slot _ _
  · rintro rfl
    exact putSlot_same slot _ _
  · rintro rfl
    rfl
  · rintro rfl
    rfl

theorem keyDone_of_busy {ok : Bool} {op slot : Nat} {s : State} (h : s.sec.keyBusy = some (op, slot)) :
    keyDone ok s = let u := if ok then keyEffect op slot s else keyFail 6 s
      { u with sec := { u.sec with keyBusy := none, keyIn := [], staging := if op = 3 then [] else u.sec.staging } } := by
  simp only [keyDone, h]

/-- Settles O56: an operation's write starts it by `keyStart`, and its end is `keyEffect` or code 6. -/
theorem keyOperations : Obligations.KeyOperations := by
  refine ⟨fun c op slot idx d s hc hslot hidx => ?_, fun ok op slot s hbusy h1 h6 h2 => ?_, fun ok s hidle => ?_⟩
  · intro e hr ho
    obtain ⟨row, h0, hop⟩ := exec_keyOp hc
    rw [leave_reaches ⟨0xD0, keyWord op slot idx d, allBe⟩ _ s hr ho] at row
    have refuse : keyRefuse (popped s) op = keyRefuse s op := by simp [keyRefuse]
    refine ⟨_, row, by simp [onlyReports], fun hbusy => ?_, fun hidle => ?_⟩
    · rw [applyKeyCtrl_busy _ (by simpa using hbusy)]
      obtain ⟨marked, lastRej⟩ := reject_marks 0xD0 0 (popped s)
      exact ⟨by simp, marked, lastRej⟩
    · have idle : (popped s).sec.keyBusy = none := by simpa using hidle
      have sec : (popped s).sec = s.sec := by simp
      have hive : (popped s).hive = s.hive := by simp
      rw [applyKeyCtrl_idle d h0 hop hslot hidx idle, refuse]
      by_cases hk : keyRefuse s op = 0
      · obtain ⟨keySlot, slots, level⟩ := keyStart_slots op slot idx d (slotSelected slot (popped s))
        obtain ⟨started, staged, imported, raisedFw, raisedExt⟩ := keyStart_started op slot idx d (slotSelected slot (popped s)) idle
        rw [if_pos hk]
        refine ⟨keySlot, slots.trans (by simp [slotSelected]), level.trans (by simp [slotSelected]), fun h => absurd hk h, fun h7 => ?_, fun _ => started,
          fun _ => staged, fun _ h3 => ?_, fun _ h5 => ?_, fun _ h6 => ?_⟩
        · simp [keyRefuse, h7] at hk
        · simpa [slotSelected, stagedKey, sec] using imported h3
        · simpa [slotSelected, raiseVal, sec, hive] using raisedFw h5
        · simpa [slotSelected, raiseVal, sec, hive] using raisedExt h6
      · rw [if_neg hk]
        refine ⟨rfl, by simp [keyFail, slotSelected], by simp [keyFail, slotSelected], fun _ => ⟨rfl, rfl, idle⟩, fun h7 => ?_, fun h => absurd h hk, fun h => absurd h hk,
          fun h => absurd h hk, fun h => absurd h hk, fun h => absurd h hk⟩
        simp [keyFail, keyRefuse, h7]
  · intro get
    refine ⟨_, exec_keyOpDone ok s, ?_⟩
    rw [keyDone_of_busy hbusy]
    cases ok with
    | false =>
      exact ⟨rfl, rfl, fun _ => rfl, fun _ _ _ => rfl, fun _ _ => rfl, rfl, rfl, fun _ => ⟨rfl, rfl, rfl, rfl, rfl⟩, nofun⟩
    | true =>
      obtain ⟨only, level, life, slots, arr, words⟩ := keyEffect_ownOnly op slot s
      obtain ⟨generated, imported, zeroed, raisedFw, raisedExt⟩ := keyEffect_own op slot s
      refine ⟨rfl, ?_, fun h => arr (by simpa using h), words, slots, level, life, nofun, fun _ => ⟨generated, fun h3 => ⟨imported h3, ?_⟩,
        zeroed, raisedFw, raisedExt⟩⟩
      · simp only [if_true]
        rw [only]
      · simp [h3]
  · rw [exec_keyOpDone]
    simp only [keyDone, hidle]

end Sys2Proof.Machine
end

section
/-! PROOFS. Weave: TICKs and statuses as a member receives them, and its timed disruptions (18_weave_swarm.md, R382 to R394). -/

namespace Sys2Proof.Machine

theorem exec_weaveTickReceive (x : TickIn) (s : State) : exec (.weaveTickReceive x) s = .next (tickReceive x s) := rfl
theorem exec_weaveStatusReceive (x : StatusIn) (s : State) : exec (.weaveStatusReceive x) s = .next (statusReceive x s) := rfl
theorem exec_weaveSyncLoss (s : State) : exec .weaveSyncLoss s = .next (syncLoss s) := rfl
theorem exec_weaveSyncRealign (s : State) : exec .weaveSyncRealign s = .next (syncRealign s) := rfl
theorem exec_masterElection (s : State) : exec .masterElection s = .next (election s) := rfl
theorem exec_tickLockSet (s : State) : exec .tickLockSet s = .next (lockSet s) := rfl
theorem exec_tickLockLoss (s : State) : exec .tickLockLoss s = .next (lockLoss s) := rfl
theorem exec_weaveFrozen (s : State) : exec .weaveFrozen s = .next (frozenSet s) := rfl
theorem exec_peerLiveTimeout (id : Nat) (s : State) : exec (.peerLiveTimeout id) s = .next (peerTimeout id s) := rfl
theorem exec_wvTripLineLow (s : State) : exec .wvTripLineLow s = .next (lineLowNow s) := rfl

/-! The Weave block as its shared operations leave it. -/

@[simp] theorem setInt_weave (i : Nat) (s : State) : (setInt i s).weave = s.weave := by
  simp [setInt]

@[simp] theorem spend_weave (res n : Nat) (s : State) : (spend res n s).weave = s.weave := rfl

@[simp] theorem spend_top (res n : Nat) (s : State) : (spend res n s).top = s.top := rfl

@[simp] theorem putWeave_weave (w : WeaveB) (s : State) : (putWeave w s).weave = w := by
  simp [putWeave]

@[simp] theorem powered_putWeave (w : WeaveB) (s : State) : powered (putWeave w s) = powered s := by
  simp [powered]

/-- A field of R395 that changes sets INT_STAT.WEAVE. -/
theorem putWeave_marks {w : WeaveB} {s : State} (hp : powered s = true) (hw : weaveMarks w ≠ weaveMarks s.weave) :
    (putWeave w s).host.intStat.getLsbD 8 = true := by
  rw [putWeave, if_neg hw]
  exact setInt_sets (by decide) hp

theorem putWeave_hostOnly (w : WeaveB) (s : State) : putWeave w s = { s with host := (putWeave w s).host, weave := w } := by
  simp only [putWeave, setInt]
  split
  · rfl
  · split <;> rfl

/-- A message touches of the Weave block only the trip line. -/
theorem tally_weave (src kind : Nat) (addr : Word) (s : State) :
    (tally src kind addr s).weave = { s.weave with drive := (tally src kind addr s).weave.drive } := by
  obtain ⟨-, -, -, -, -, weave, -⟩ := tally_reports src kind addr s
  exact weave

@[simp] theorem tally_weaveFields (src kind : Nat) (addr : Word) (s : State) :
    let t := tally src kind addr s
    t.weave.masterId = s.weave.masterId ∧ t.weave.peers = s.weave.peers ∧ t.weave.dupId = s.weave.dupId ∧ t.weave.sync = s.weave.sync ∧
    t.weave.lock = s.weave.lock ∧ t.weave.inLock = s.weave.inLock ∧ t.weave.frozen = s.weave.frozen ∧ t.weave.lowSent = s.weave.lowSent := by
  dsimp only
  rw [tally_weave]
  exact ⟨rfl, rfl, rfl, rfl, rfl, rfl, rfl, rfl⟩

theorem masterChange_weave (id : Option Nat) (s : State) :
    (masterChange id s).weave = { s.weave with masterId := id.getD 0, drive := (masterChange id s).weave.drive } := by
  unfold masterChange
  extract_lets v
  split
  next h =>
    rw [← show v = id.getD 0 from rfl, h]
  next => rw [tally_weave, putWeave_weave]

theorem chargeStatus_store (x : StatusIn) (s : State) : (chargeStatus x s).store = s.store := by
  simp only [chargeStatus, store_ite, tally_blocks, putWeave_blocks, setCharge, setInt_blocks, ite_self]

theorem chargeStatus_weave (x : StatusIn) (s : State) :
    (chargeStatus x s).weave.peers = s.weave.peers ∧ (chargeStatus x s).weave.masterId = s.weave.masterId := by
  unfold chargeStatus
  extract_lets before w s1 bad s2
  split
  · split
    · simp [w, before]
    · split
      · split <;> simp [s2, before]
      · exact ⟨rfl, rfl⟩
  · exact ⟨rfl, rfl⟩

theorem statusSend_slotOnly (swf : BitVec 16) (s : State) :
    statusSend swf s = { s with weave := { s.weave with
      sent := (statusSend swf s).weave.sent, slotOut := (statusSend swf s).weave.slotOut } } := by
  unfold statusSend
  split <;> rfl

theorem statusSend_own {swf : BitVec 16} {s : State} (h : s.weave.myId % 16 = fld swf 0 4) (hd : s.weave.dupId = false) :
    (statusSend swf s).weave.sent = some (statusOut s swf) ∧ (statusSend swf s).weave.slotOut = statusPacket (statusOut s swf) := by
  rw [statusSend, if_pos ⟨h, hd⟩]
  exact ⟨rfl, rfl⟩

theorem statusSend_other {swf : BitVec 16} {s : State} (h : s.weave.myId % 16 ≠ fld swf 0 4) : statusSend swf s = s := by
  rw [statusSend, if_neg (fun k => h k.1)]

theorem tickFracs_peersOnly (x : TickIn) (s : State) :
    tickFracs x s = { s with weave := { s.weave with peers := (tickFracs x s).weave.peers } } := by
  unfold tickFracs
  generalize (x.frac.take 4).zipIdx = l
  induction l generalizing s with
  | nil => rfl
  | cons p ps ih => exact ih _

/-- What a member takes from a TICK and forwards (R384 to R386). -/
theorem tickTake_weave (x : TickIn) (s : State) :
    let t := tickTake x s
    t.weave.ringOk = x.ringOk ∧ t.weave.tickMaster = some (x.masterId % 64) ∧ t.weave.noTick = 0 ∧
    t.weave.offset = x.swf - s.fr.epoch.truncate 16 ∧ t.weave.err = x.err ∧
    t.weave.delayOut = x.delay + BitVec.ofNat 16 (fld (cw s 6 s.weave.myId 0) 16 9 + x.latency) ∧
    t.weave.isMaster = s.weave.isMaster ∧ t.weave.masterId = s.weave.masterId ∧
    t.weave.tickOut = tickPacket { x with delay := t.weave.delayOut } := by
  unfold tickTake
  dsimp only
  rw [statusSend_slotOnly, tickFracs_peersOnly, putWeave_weave]
  exact ⟨rfl, rfl, rfl, rfl, rfl, rfl, rfl, rfl, rfl⟩

theorem tickTake_weaveOnly (x : TickIn) (s : State) :
    ∃ w, tickTake x s = { putWeave w (spend 14 1 s) with weave := (tickTake x s).weave } := by
  unfold tickTake
  dsimp only
  rw [statusSend_slotOnly, tickFracs_peersOnly]
  exact ⟨_, rfl⟩

theorem tickTake_onlyReports (x : TickIn) (s : State) : onlyReports s (tickTake x s) := by
  obtain ⟨w, h⟩ := tickTake_weaveOnly x s
  rw [h]
  simp [onlyReports]

/-- The slot of the member in whose frame a TICK passes carries that member's status (R383, R384). -/
theorem tickTake_slot {x : TickIn} {s : State} :
    (s.weave.myId % 16 = fld x.swf 0 4 → s.weave.dupId = false → ∃ y, (tickTake x s).weave.sent = some y ∧
      (tickTake x s).weave.slotOut = statusPacket y ∧ y.id = s.weave.myId ∧ y.state = s.top.state.code ∧
      y.group = wvGroup s ∧ y.chg = wvChg s) ∧
    (s.weave.myId % 16 ≠ fld x.swf 0 4 → (tickTake x s).weave.sent = s.weave.sent ∧ (tickTake x s).weave.slotOut = s.weave.slotOut) := by
  unfold tickTake
  extract_lets w good link f s1
  have own : (tickFracs x s1).weave.myId = s.weave.myId ∧ (tickFracs x s1).weave.dupId = s.weave.dupId ∧
      (tickFracs x s1).weave.sent = s.weave.sent ∧ (tickFracs x s1).weave.slotOut = s.weave.slotOut := by
    rw [tickFracs_peersOnly, putWeave_weave]
    exact ⟨rfl, rfl, rfl, rfl⟩
  obtain ⟨myId, dupId, sent, slotOut⟩ := own
  refine ⟨fun h hd => ?_, fun h => ?_⟩
  · obtain ⟨hsent, hslot⟩ := statusSend_own (swf := x.swf) (myId.symm ▸ h) (dupId.trans hd)
    have conf : (tickFracs x s1).conf = s.conf := by
      rw [tickFracs_peersOnly]
      simp [s1]
    exact ⟨_, hsent, hslot, myId, by simp [statusOut, s1], by simp [statusOut, wvGroup, crf, cr, cw, conf],
      by simp [statusOut, wvChg, crb, cr, cw, conf]⟩
  · rw [statusSend_other (myId.symm ▸ h)]
    exact ⟨sent, slotOut⟩

/-! A TICK, case by case (R382, R385). -/

theorem tickReceive_member {x : TickIn} {s : State} (hl : linkUp s = true) (hc : x.crcOk = true) (hm : s.weave.isMaster = false) :
    tickReceive x s = masterChange (some (x.masterId % 64)) (tickTake x s) := by
  simp [tickReceive, hl, hc, hm]

theorem tickReceive_higher {x : TickIn} {s : State} (hl : linkUp s = true) (hc : x.crcOk = true) (hm : s.weave.isMaster = true)
    (h : s.weave.myId < x.masterId % 64) : tickReceive x s = s := by
  simp [tickReceive, hl, hc, hm, h]

theorem tickReceive_own {x : TickIn} {s : State} (hl : linkUp s = true) (hc : x.crcOk = true) (hm : s.weave.isMaster = true)
    (h : x.masterId % 64 = s.weave.myId) : tickReceive x s = { s with weave := { s.weave with ownBack := 0 } } := by
  simp [tickReceive, hl, hc, hm, h]

theorem tickReceive_lower {x : TickIn} {s : State} (hl : linkUp s = true) (hc : x.crcOk = true) (hm : s.weave.isMaster = true)
    (h : x.masterId % 64 < s.weave.myId) :
    tickReceive x s = { tickTake x s with weave := { (tickTake x s).weave with abdicate := true } } := by
  have hge : ¬ s.weave.myId < x.masterId % 64 := by omega
  have hne : x.masterId % 64 ≠ s.weave.myId := by omega
  simp [tickReceive, hl, hc, hm, hge, hne]

theorem linkUp_powered {s : State} (h : linkUp s = true) : powered s = true := by
  simp only [linkUp, Bool.and_eq_true] at h
  exact h.1.1

/-- A packet whose CRC fails leaves only its message (R382). -/
theorem weaveCrc_message {s : State} (hp : powered s = true) :
    (weaveCrc s).weave = { s.weave with drive := (weaveCrc s).weave.drive } ∧ (srcOf (weaveCrc s) 0x38).lastKind = 2 ∧
      onlyReports s (weaveCrc s) :=
  ⟨tally_weave .., (tally_latest 2 _ hp (by decide)).1, tally_onlyReports ..⟩

/-! A status (R384, R394). -/

theorem statusReceive_peer {x : StatusIn} {s : State} (hl : linkUp s = true) (hc : x.crcOk = true) (hk : x.kind < 3) (hi : x.id < 64)
    (hid : x.id ≠ s.weave.myId) : statusReceive x s = chargeStatus x (peerRecord x (spend 14 1 s)) := by
  simp [statusReceive, hl, hc, hid, Nat.ne_of_lt hk, Nat.not_le.2 hi]

theorem statusReceive_own {x : StatusIn} {s : State} (hl : linkUp s = true) (hc : x.crcOk = true) (hk : x.kind < 3) (hi : x.id < 64)
    (hid : x.id = s.weave.myId) : statusReceive x s = dupFound (spend 14 1 s) := by
  simp only [statusReceive, hl, hc, Bool.not_true, Bool.false_eq_true, if_false]
  rw [if_neg (by omega), if_pos hid]

theorem peerOf_chargeStatus (x : StatusIn) (n : Nat) (s : State) : peerOf (chargeStatus x s) n = peerOf s n := by
  simp only [peerOf, (chargeStatus_weave x s).1]

theorem dupFound_master (s : State) : (dupFound s).weave.masterId = s.weave.masterId := by
  unfold dupFound
  split
  · rfl
  · rw [tally_weave, putWeave_weave]

theorem dupFound_marks {s : State} (hp : powered s = true) (hm : s.weave.isMaster = false) (hd : s.weave.dupId = false) :
    (dupFound s).weave.dupId = true ∧ (srcOf (dupFound s) 0x3C).lastKind = 1 := by
  simp only [dupFound, hm, hd, Bool.or_self, Bool.false_eq_true, if_false]
  refine ⟨by simp, (tally_latest 1 _ (by simpa using hp) (by decide)).1⟩

theorem statusReceive_onlyReports (x : StatusIn) (s : State) : onlyReports s (statusReceive x s) := by
  have store : (statusReceive x s).store = s.store := by
    simp only [statusReceive, store_ite, weaveCrc_blocks, dupFound_blocks, chargeStatus_store, peerRecord_blocks, spend_blocks, ite_self]
  simp [onlyReports, store]

/-! The timed disruptions (R382, R385, R386, R388, R394). -/

theorem syncLoss_now {s : State} (h : linkUp s = true) :
    (syncLoss s).weave.sync = false ∧ (srcOf (syncLoss s) 0x38).lastKind = 1 := by
  rw [syncLoss, if_pos h]
  refine ⟨?_, (tally_latest 1 _ (by simpa [powered] using linkUp_powered h) (by decide)).1⟩
  rw [tally_weave]

theorem election_now {s : State} (hp : powered s = true) (he : eligible s = true) (hm : s.weave.isMaster = false) (hn : 4 ≤ s.weave.noLower) :
    (election s).weave.isMaster = true ∧ (election s).weave.masterId = s.weave.myId := by
  rw [election, if_pos (by simp [hp, he, hm, hn]), masterChange_weave]
  exact ⟨rfl, rfl⟩

theorem lockSet_now {s : State} (hp : powered s = true) (he : wvEn s = true) (hl : s.weave.lock = false) (hr : s.fr.refLoss = false)
    (hn : 16 ≤ s.weave.inLock) : lockSet s = putWeave { s.weave with lock := true } s := by
  rw [lockSet, if_pos (by simp [hp, he, hl, hr, hn])]

theorem lockLoss_now {s : State} (hp : powered s = true) (he : wvEn s = true) (hl : s.weave.lock = true)
    (h : 64 < s.weave.err.natAbs ∨ 16 ≤ s.weave.noTick) :
    (lockLoss s).weave.lock = false ∧ (lockLoss s).weave.inLock = 0 ∧ (srcOf (lockLoss s) 0x3A).lastKind = 1 := by
  rw [lockLoss, if_pos (by simp [hp, he, hl, h])]
  rw [(tally_latest 1 _ (by simpa using hp) (by decide)).1, tally_weave, putWeave_weave]
  exact ⟨rfl, rfl, rfl⟩

theorem frozenSet_now {s : State} (hp : powered s = true) (he : wvEn s = true) (hj : s.weave.joined = true) (hf : s.weave.frozen = false)
    (hn : 64 ≤ s.weave.noRing) : (frozenSet s).weave.frozen = true ∧ (srcOf (frozenSet s) 0x39).lastKind = 1 ∧
      (frozenSet s).host.intStat.getLsbD 8 = true := by
  rw [frozenSet, if_pos (by simp [hp, he, hj, hf, hn])]
  refine ⟨?_, (tally_latest 1 _ (by simpa using hp) (by decide)).1, ?_⟩
  · simp
  · exact (tally_keepsStampAndInts ..).2 8 (putWeave_marks hp (by simp [weaveMarks, hf]))

theorem peerTimeout_now {id : Nat} {s : State} (hp : powered s = true) (hl : (peerOf s id).live = true) (ha : 64 ≤ (peerOf s id).age) :
    peerTimeout id s = modPeer id (fun p => { p with live := false }) s := by
  rw [peerTimeout, if_pos (by simp [hp, hl, peerLive, Nat.not_lt.2 ha])]

theorem lineLowNow_now {s : State} (hp : powered s = true) (he : wvEn s = true) (ha : s.weave.armed = true) (hs : s.weave.lowSent = false)
    (hn : 2 ^ 18 ≤ s.weave.lowFrames) : (lineLowNow s).weave.lowSent = true ∧ (srcOf (lineLowNow s) 0x3B).lastKind = 2 := by
  rw [lineLowNow, if_pos (by simpa [hp, he, ha, hs] using hn)]
  refine ⟨?_, (tally_latest 2 _ (by simpa [powered] using hp) (by decide)).1⟩
  rw [tally_weave]

/-- Settles O60: each packet and each timed disruption by the lemma for its case. -/
theorem weaveEvents : Obligations.WeaveEvents := by
  refine ⟨fun x s hl hc hm => ?_, fun x s hl hc hm => ⟨fun h => ?_, fun h => ?_, fun h => ?_⟩, fun x y s hl hx hy => ?_, fun x y s hl => ?_,
    fun x s hl hc hk hi => ?_, fun s hl => ?_, fun s hp he => ?_, fun s hp he hm hn => ?_, fun s hp he hl hr hn => ?_,
    fun s hp he hl h => ?_, fun s hp he hj hf hn => ?_, fun id s hp hl ha => ?_, fun s hp he ha hs hn => ?_, fun id s c hp hc => ?_⟩
  · refine ⟨_, exec_weaveTickReceive x s, ?_⟩
    obtain ⟨ringOk, tickMaster, noTick, offset, err, delayOut, isMaster, -, tickOut⟩ := tickTake_weave x s
    obtain ⟨own, other⟩ := tickTake_slot (x := x) (s := s)
    rw [tickReceive_member hl hc hm, masterChange_weave]
    exact ⟨rfl, ringOk, tickMaster, noTick, offset, err, delayOut, isMaster.trans hm, tickOut, own, other,
      by simpa [onlyReports] using tickTake_onlyReports x s⟩
  · rw [exec_weaveTickReceive, tickReceive_higher hl hc hm h]
  · rw [exec_weaveTickReceive, tickReceive_own hl hc hm h]
  · refine ⟨_, exec_weaveTickReceive x s, ?_⟩
    obtain ⟨-, tickMaster, -, -, -, -, -, masterId, -⟩ := tickTake_weave x s
    rw [tickReceive_lower hl hc hm h]
    exact ⟨rfl, masterId, tickMaster, tickTake_onlyReports x s⟩
  · have tick : tickReceive x s = weaveCrc s := by simp [tickReceive, hl, hx]
    have status : statusReceive y s = weaveCrc s := by simp [statusReceive, hl, hy]
    exact ⟨⟨_, exec_weaveTickReceive x s, tick ▸ weaveCrc_message (linkUp_powered hl)⟩,
      ⟨_, exec_weaveStatusReceive y s, status ▸ weaveCrc_message (linkUp_powered hl)⟩⟩
  · exact ⟨by simp [exec_weaveTickReceive, tickReceive, hl], by simp [exec_weaveStatusReceive, statusReceive, hl]⟩
  · refine ⟨_, exec_weaveStatusReceive x s, statusReceive_onlyReports x s, ?_, fun hid => ?_, fun hid hm hd => ?_⟩
    · by_cases hid : x.id = s.weave.myId
      · rw [statusReceive_own hl hc hk hi hid, dupFound_master]
        simp
      · rw [statusReceive_peer hl hc hk hi hid, (chargeStatus_weave ..).2]
        simp [peerRecord]
    · rw [statusReceive_peer hl hc hk hi hid]
      simp only [peerOf_chargeStatus]
      have peer : peerOf (peerRecord x (spend 14 1 s)) x.id = _ := modPeer_peerOf x.id _ (spend 14 1 s)
      rw [peer]
      refine ⟨rfl, rfl, rfl, rfl, by simp, fun h0 => by simp [h0], fun n hn => ?_⟩
      rw [peerRecord, modPeer_peerOf_ne _ _ hn]
      simp [peerOf]
    · rw [statusReceive_own hl hc hk hi hid]
      exact dupFound_marks (by simpa [powered] using linkUp_powered hl) (by simpa using hm) (by simpa using hd)
  · obtain ⟨sync, kind⟩ := syncLoss_now hl
    exact ⟨_, exec_weaveSyncLoss s, sync, kind, by simp [onlyReports]⟩
  · rw [exec_weaveSyncRealign, syncRealign, hp, he]
    rfl
  · obtain ⟨isMaster, masterId⟩ := election_now hp he hm hn
    exact ⟨_, exec_masterElection s, isMaster, masterId, by simp [onlyReports]⟩
  · refine ⟨_, exec_tickLockSet s, ?_⟩
    rw [lockSet_now hp he hl hr hn]
    refine ⟨putWeave_weave _ _, putWeave_marks hp (by simp [weaveMarks, hl]), ?_⟩
    rw [putWeave_weave]
    exact putWeave_hostOnly _ _
  · obtain ⟨lock, inLock, kind⟩ := lockLoss_now hp he hl h
    exact ⟨_, exec_tickLockLoss s, lock, inLock, kind, by simp [onlyReports]⟩
  · obtain ⟨frozen, kind, marked⟩ := frozenSet_now hp he hj hf hn
    exact ⟨_, exec_weaveFrozen s, frozen, kind, marked, by simp [onlyReports]⟩
  · refine ⟨_, exec_peerLiveTimeout id s, ?_⟩
    rw [peerTimeout_now hp hl ha]
    exact ⟨modPeer_peerOf .., fun n hn => modPeer_peerOf_ne _ _ hn, rfl⟩
  · obtain ⟨lowSent, kind⟩ := lineLowNow_now hp he ha hs hn
    exact ⟨_, exec_wvTripLineLow s, lowSent, kind, by simp [onlyReports]⟩
  · simp only [List.mem_cons, List.not_mem_nil, or_false] at hc
    rcases hc with rfl | rfl | rfl | rfl | rfl | rfl | rfl | rfl
    · simp [exec_weaveSyncLoss, syncLoss, linkUp, hp]
    · simp [exec_weaveSyncRealign, syncRealign, hp]
    · simp [exec_masterElection, election, hp]
    · simp [exec_tickLockSet, lockSet, hp]
    · simp [exec_tickLockLoss, lockLoss, hp]
    · simp [exec_weaveFrozen, frozenSet, hp]
    · simp [exec_peerLiveTimeout, peerTimeout, hp]
    · simp [exec_wvTripLineLow, lineLowNow, hp]

end Sys2Proof.Machine
end

section
/-! PROOFS. VERIFY's outcomes and the units of the sweep (12_return.md, R271 to R273). -/

namespace Sys2Proof.Machine

theorem exec_verifyCombDone (v : VerifyIn) (s : State) : exec (.verifyCombDone v) s = .next (verifyDone v s) := rfl
theorem exec_sweepUnitDone (l : Nat) (fs : List Footer) (s : State) : exec (.sweepUnitDone l fs) s = .next (sweepUnit l fs s) := rfl

/-! The cells of a range that the map lists in a state. -/

/-- A key whose value is not the default is listed with that value. -/
theorem Sparse.mem_of_get_ne {α : Type} {d : Nat → α} {k : Nat} : ∀ {m : List (Nat × α)}, Sparse.get d m k ≠ d k → (k, Sparse.get d m k) ∈ m
  | [], h => absurd rfl h
  | (j, w) :: m, h => by
    rw [Sparse.get] at h ⊢
    split
    next hj => rw [hj]; exact List.mem_cons_self
    next hj =>
      rw [if_neg hj] at h
      exact List.mem_cons_of_mem _ (Sparse.mem_of_get_ne h)

theorem mem_cellsIn_of_dirty {first count c : Nat} {s : State} (h : cellState s c = 1) (hlo : first ≤ c) (hhi : c < first + count) :
    c ∈ cellsIn s first count 1 := by
  have listed : (c, nibble s c) ∈ s.adm.map := by
    refine Sparse.mem_of_get_ne fun zero => ?_
    rw [cellState, nibble, zero] at h
    cases h
  exact List.mem_map.2 ⟨_, List.mem_filter.2 ⟨listed, by simpa [hlo, hhi, cellState] using h⟩, rfl⟩

/-! LOSTCELL. -/

theorem injectMany_tallyOnly (chk : Nat) : ∀ (n : Nat) (s : State), (injectMany chk n s).1 = { s with tally := (injectMany chk n s).1.tally }
  | 0, _ => rfl
  | n + 1, s => by
    rw [injectMany, injectUse_others, injectMany_tallyOnly chk n s]

/-- A run's record changes LOSTCELL and an armed injection. -/
theorem recordLost_listsOnly (r : CellRun) (cause id : Nat) (s : State) : ∃ tally lost overflow,
    recordLost r cause id s = { s with tally := tally, ret := { s.ret with lost := lost, overflow := overflow } } := by
  unfold recordLost
  dsimp only
  rw [injectMany_tallyOnly]
  split
  · exact ⟨_, _, _, rfl⟩
  · split <;> exact ⟨_, _, _, rfl⟩

/-- t has s's configuration, array and keys, and of Return what VERIFY has found so far. -/
def FindsKept (s t : State) : Prop :=
  t.conf = s.conf ∧ t.arr = s.arr ∧ t.ret.verified = s.ret.verified ∧ t.ret.pending = s.ret.pending ∧
    t.ret.unsealed = s.ret.unsealed ∧ t.ret.sealsOf = s.ret.sealsOf

theorem FindsKept.refl (s : State) : FindsKept s s := ⟨rfl, rfl, rfl, rfl, rfl, rfl⟩

theorem FindsKept.trans {s t u : State} (h : FindsKept s t) (k : FindsKept t u) : FindsKept s u := by
  obtain ⟨conf, arr, verified, pending, unsealed, sealsOf⟩ := h
  obtain ⟨conf', arr', verified', pending', unsealed', sealsOf'⟩ := k
  exact ⟨conf'.trans conf, arr'.trans arr, verified'.trans verified, pending'.trans pending, unsealed'.trans unsealed, sealsOf'.trans sealsOf⟩

/-- A step that keeps these three blocks keeps what VERIFY has found. -/
theorem FindsKept.of_blocks {s t : State} (conf : t.conf = s.conf) (arr : t.arr = s.arr) (ret : t.ret = s.ret) : FindsKept s t := by
  refine ⟨conf, arr, ?_, ?_, ?_, ?_⟩ <;> rw [ret]

theorem recordLost_found (r : CellRun) (cause id : Nat) (s : State) :
    FindsKept s (recordLost r cause id s) ∧ (recordLost r cause id s).adm = s.adm := by
  obtain ⟨tally, lost, overflow, h⟩ := recordLost_listsOnly r cause id s
  rw [h]
  exact ⟨⟨rfl, rfl, rfl, rfl, rfl, rfl⟩, rfl⟩

theorem foldl_recordLost_found {β : Type} (run : State → β → CellRun) (cause id : Nat) : ∀ (l : List β) (s : State),
    FindsKept s (l.foldl (fun s x => recordLost (run s x) cause id s) s) ∧ (l.foldl (fun s x => recordLost (run s x) cause id s) s).adm = s.adm
  | [], s => ⟨.refl s, rfl⟩
  | x :: l, s => by
    obtain ⟨first, adm⟩ := recordLost_found (run s x) cause id s
    obtain ⟨rest, adm'⟩ := foldl_recordLost_found run cause id l (recordLost (run s x) cause id s)
    exact ⟨first.trans rest, adm'.trans adm⟩

/-! The loss list of a verified seal (R272). -/

theorem enterRun_found (id : Nat) (r : CellRun) (s : State) : FindsKept s (enterRun id r s) := by
  unfold enterRun
  extract_lets s1
  have recorded : FindsKept s s1 := (recordLost_found r 0 id s).1
  refine recorded.trans (.of_blocks ?_ ?_ ?_) <;> simp

theorem foldl_undirty_notDirty {x : Nat} (l : List Nat) {s : State} (h : cellState s x = 1 → x ∈ l) :
    cellState (l.foldl (fun s c => undirty c 0 s) s) x ≠ 1 := by
  obtain ⟨named, others⟩ := foldl_undirty_nibble x l s
  by_cases hx : x ∈ l
  · rw [named hx]
    decide
  · rw [cellState, others hx]
    exact fun dirty => hx (h dirty)

theorem enterRun_notDirty {x : Nat} {r : CellRun} (id : Nat) {s : State}
    (h : cellState s x ≠ 1 ∨ r.coarse = false ∧ r.first ≤ x ∧ x < r.first + r.count) : cellState (enterRun id r s) x ≠ 1 := by
  unfold enterRun
  extract_lets s1
  have same : cellState s1 x = cellState s x := by
    rw [cellState, nibble_congr (congrArg GuardB.map (recordLost_found r 0 id s).2), cellState]
  rcases h with clean | ⟨exact, lo, hi⟩
  · split
    · rwa [same]
    · exact foldl_undirty_notDirty _ fun dirty => absurd (same ▸ dirty) clean
  · rw [if_neg (by simp [exact])]
    exact foldl_undirty_notDirty _ fun dirty => mem_cellsIn_of_dirty dirty lo hi

/-- A verified seal's runs are entered: each exact run leaves none of its cells DIRTY. -/
theorem foldl_enterRun (id : Nat) (x : Nat) : ∀ (runs : List CellRun) (s : State),
    FindsKept s (runs.foldl (fun s r => enterRun id r s) s) ∧
    (cellState s x ≠ 1 ∨ (∃ r ∈ runs, r.coarse = false ∧ r.first ≤ x ∧ x < r.first + r.count) →
      cellState (runs.foldl (fun s r => enterRun id r s) s) x ≠ 1)
  | [], s => ⟨.refl s, fun h => h.elim (fun clean => clean) (fun ⟨_, hr, _⟩ => nomatch hr)⟩
  | r :: runs, s => by
    obtain ⟨rest, notDirty⟩ := foldl_enterRun id x runs (enterRun id r s)
    refine ⟨(enterRun_found id r s).trans rest, fun h => notDirty ?_⟩
    rcases h with clean | ⟨q, hq, named⟩
    · exact .inl (enterRun_notDirty id (.inl clean))
    · rcases List.mem_cons.1 hq with rfl | hq
      · exact .inl (enterRun_notDirty id (.inr named))
      · exact .inr ⟨q, hq, named⟩

/-! VERIFY's outcomes (R271). -/

/-- VERIFY has checked a Comb. -/
def combChecked (id : Nat) (s : State) : State := { s with ret := { s.ret with verified := s.ret.verified ++ [id] } }

/-- A Comb is left unsealed. -/
def leftUnsealed (id : Nat) (s : State) : State := { s with ret := { s.ret with unsealed := s.ret.unsealed ++ [id] } }

/-- A usable header is kept. -/
def headerKept (id : Nat) (h : CombHdr) (s : State) : State := { s with ret := { s.ret with hdrs := s.ret.hdrs ++ [(id, h)] } }

/-- A verified seal is kept. -/
def sealKept (id : Nat) (c : SealInfo) (s : State) : State := { s with ret := { s.ret with sealsOf := s.ret.sealsOf ++ [(id, c)] } }

/-- Whether every Comb has been found sealed is noted. -/
def sealedNoted (s : State) : State := { s with ret := { s.ret with sealed := (verifyComb s).isNone && s.ret.unsealed.isEmpty } }

theorem sealedNoted_found (s : State) : FindsKept s (sealedNoted s) ∧ (sealedNoted s).adm = s.adm := ⟨⟨rfl, rfl, rfl, rfl, rfl, rfl⟩, rfl⟩

section
variable {v : VerifyIn} {id : Nat} {s : State} (hstate : s.top.state = .ret) (hphase : s.top.phase = .verify)
  (hcomb : verifyComb s = some id) (hwhen : 1250 * (s.ret.verified.length + 1) ≤ s.top.inPhase + 1)
include hstate hphase hcomb hwhen

theorem verifyDone_noHeader (hh : v.hdr = none) : verifyDone v s = sealedNoted ((enabledTenants s).foldl (fun s t =>
    recordLost ⟨tBase s t, tLast s t + 1 - tBase s t, t, true⟩ 3 id s) (leftUnsealed id (combChecked id s))) := by
  simp only [verifyDone, hcomb, hstate, hphase, hwhen, hh, decide_true, Bool.and_self, if_true]
  rfl

theorem verifyDone_sealed {h : CombHdr} {c : SealInfo} (hh : v.hdr = some h) (hc : v.sealCopy = some c) (hs : combSealed s id = true) :
    verifyDone v s = sealedNoted (refresh (c.runs.foldl (fun s r => enterRun id r s) (sealKept id c (headerKept id h (combChecked id s))))) := by
  simp only [verifyDone, hcomb, hstate, hphase, hwhen, hh, hc, hs, decide_true, Bool.and_self, if_true]
  rfl

theorem verifyDone_noSeal {h : CombHdr} (hh : v.hdr = some h) (hc : v.sealCopy = none ∨ combSealed s id = false) :
    verifyDone v s = sealedNoted (h.tenants.foldl (fun s (t : HdrTenant) => recordLost ⟨t.base, t.last + 1 - t.base, t.tenant, true⟩ 2 id s)
      (leftUnsealed id (headerKept id h (combChecked id s)))) := by
  simp only [verifyDone, hcomb, hstate, hphase, hwhen, hh, decide_true, Bool.and_self, if_true]
  rcases hc with hc | hs
  · simp only [hc]
    rfl
  · cases hc : v.sealCopy with
    | none => rfl
    | some c => simp only [hs, Bool.false_eq_true, if_false]; rfl

end

theorem verifyDone_idle {v : VerifyIn} {s : State} (h : s.top.phase ≠ .verify ∨ verifyComb s = none) : verifyDone v s = s := by
  unfold verifyDone
  split
  next => rfl
  next id hid =>
    have notNow : s.top.phase ≠ .verify := h.resolve_right (by simp [hid])
    exact if_neg (by simp [notNow])

/-! The sweep (R273). -/

/-- t has s's configuration, array and keys, and of the sweep the ticks, the pages counted and the chains that have ended. -/
def SweepKept (s t : State) : Prop :=
  t.conf = s.conf ∧ t.arr = s.arr ∧ t.sec = s.sec ∧ t.ret.ticks = s.ret.ticks ∧ t.ret.pagesAt = s.ret.pagesAt ∧ t.ret.swept = s.ret.swept

theorem SweepKept.refl (s : State) : SweepKept s s := ⟨rfl, rfl, rfl, rfl, rfl, rfl⟩

theorem SweepKept.trans {s t u : State} (h : SweepKept s t) (k : SweepKept t u) : SweepKept s u := by
  obtain ⟨conf, arr, sec, ticks, pagesAt, swept⟩ := h
  obtain ⟨conf', arr', sec', ticks', pagesAt', swept'⟩ := k
  exact ⟨conf'.trans conf, arr'.trans arr, sec'.trans sec, ticks'.trans ticks, pagesAt'.trans pagesAt, swept'.trans swept⟩

theorem SweepKept.foldl {β : Type} {f : State → β → State} (h : ∀ s x, SweepKept s (f s x)) : ∀ (l : List β) (s : State), SweepKept s (l.foldl f s)
  | [], s => .refl s
  | x :: l, s => (h s x).trans (SweepKept.foldl h l (f s x))

theorem locate_swept (key : Nat) (f : Footer) (s : State) : SweepKept s (locate key f s).2 ∧ (locate key f s).2.adm = s.adm := by
  unfold locate
  extract_lets grown putRun full s0 found s1
  have injected : s0 = { s with tally := s0.tally } := injectMany_tallyOnly 6 4 s
  split
  · exact ⟨.refl s, rfl⟩
  · clear_value grown
    cases grown with
    | some r => exact ⟨⟨rfl, rfl, rfl, rfl, rfl, rfl⟩, rfl⟩
    | none =>
      dsimp only
      split
      · split
        · exact ⟨.refl s, rfl⟩
        · exact ⟨by simp [SweepKept, full], by simp⟩
      · dsimp only [s1, found, putRun]
        rw [injected]
        split <;> exact ⟨⟨rfl, rfl, rfl, rfl, rfl, rfl⟩, rfl⟩

theorem recordFooter_swept (id lane : Nat) (h : CombHdr) (f : Footer) (s : State) :
    SweepKept s (recordFooter id lane h f s) ∧ (recordFooter id lane h f s).adm = s.adm := by
  unfold recordFooter
  split
  · split
    · exact locate_swept (id * 8 + lane) f s
    · exact ⟨.refl s, rfl⟩
  · exact ⟨.refl s, rfl⟩

theorem markLost_swept (c : Nat) (s : State) : SweepKept s (markLost c s) := by
  unfold markLost
  split
  next x _ =>
    extract_lets s1
    obtain ⟨tally, lost, overflow, recorded⟩ := recordLost_listsOnly ⟨c, 1, x.tenant, false⟩ 1 x.combId (modCell c (fun y => { y with status := 3 }) s)
    have marked : SweepKept s s1 := by
      dsimp only [s1]
      rw [recorded]
      exact ⟨rfl, rfl, rfl, rfl, rfl, rfl⟩
    exact marked.trans (by simp [SweepKept])
  next => exact .refl s

theorem sweepClose_swept (s : State) : SweepKept s (sweepClose s) := by
  unfold sweepClose
  extract_lets _ s1 s2
  split
  · have closed : SweepKept s1 s2 := .foldl (fun s c => markLost_swept c s) _ _
    exact closed
  · exact .refl s

/-- Where no key slot is LOST, the end of the sweep loses no cell (R354). -/
theorem sweepClose_adm {s : State} (h : ∀ k, slotLost s k = false) : (sweepClose s).adm = s.adm := by
  have none : ∀ u : State, u.sec = s.sec → lostKeyCells u = [] := fun u hu => by
    have slots : ∀ k, slotLost u k = false := fun k => by rw [slotLost, hu]; exact h k
    simp only [lostKeyCells, slots, Bool.and_false, List.map_eq_nil_iff, List.filter_eq_nil_iff]
    intro p _
    cases hdrOf u p.2.combId <;> simp
  unfold sweepClose
  extract_lets _ s1 s2
  split
  · have same : s2 = s1 := by
      dsimp only [s2]
      rw [none s1 rfl]
      rfl
    rw [same]
  · rfl

/-- A unit's ticks and pages (R273). -/
def unitCounted (l id : Nat) (h : CombHdr) (s : State) : State :=
  { s with ret := { s.ret with
      ticks := Sparse.put (fun _ => 0) s.ret.ticks l (Sparse.get (fun _ => 0) s.ret.ticks l - sweepCost s l)
      pagesAt := Sparse.modify (fun _ => 0) s.ret.pagesAt (id * 8 + l) (· + hUnit h) } }

/-- The chain of a lane ends at a unit. -/
def chainEnded (key : Nat) (s : State) : State := { s with ret := { s.ret with swept := insertNat key s.ret.swept } }

section
variable {l id : Nat} {h : CombHdr} {s : State} (hstate : s.top.state = .ret) (hphase : s.top.phase = .waitGnt)
  (hcomb : sweepComb s l = some id) (hhdr : hdrOf s id = some h) (hlane : l ∈ retLanes s)
  (hticks : sweepCost s l ≤ Sparse.get (fun _ => 0) s.ret.ticks l)
include hstate hphase hcomb hhdr hlane hticks

theorem sweepUnit_ends {fs : List Footer} (hs : sealOf s id = none) (hf : fs.length < hUnit h ∨ ∃ f, f ∈ fs ∧ f.combId ≠ id) :
    sweepUnit l fs s = sweepClose (chainEnded (id * 8 + l) (unitCounted l id h s)) := by
  have ends : ((sealOf s id).isNone && (decide (fs.length < hUnit h) || fs.any fun f => f.combId != id)) = true := by
    simpa [hs] using hf
  have reads : (retLanes s).contains l = true := by simpa using hlane
  simp only [sweepUnit, hcomb, hhdr, hstate, hphase, reads, hticks, ends, decide_true, Bool.and_self, if_true]
  rfl

/-- What a unit that counts leaves to the close of the sweep: its footers, none of a void group, or the end of its chain. -/
theorem sweepUnit_counts (fs : List Footer) : ∃ u, sweepUnit l fs s = sweepClose u ∧ u.adm = s.adm ∧ u.sec = s.sec ∧ u.arr = s.arr ∧ u.conf = s.conf ∧
    u.ret.ticks = (unitCounted l id h s).ret.ticks ∧ u.ret.pagesAt = (unitCounted l id h s).ret.pagesAt := by
  have reads : (retLanes s).contains l = true := by simpa using hlane
  simp only [sweepUnit, hcomb, hhdr, hstate, hphase, reads, hticks, decide_true, Bool.and_self, if_true]
  refine ⟨_, rfl, ?_⟩
  split
  · exact ⟨rfl, rfl, rfl, rfl, rfl, rfl⟩
  · split
    · exact ⟨rfl, rfl, rfl, rfl, rfl, rfl⟩
    · obtain ⟨conf, arr, sec, ticks, pagesAt, -⟩ :=
        SweepKept.foldl (fun s f => (recordFooter_swept id l h f s).1) fs (unitCounted l id h s)
      exact ⟨foldl_proj _ (·.adm) (fun s f => (recordFooter_swept id l h f s).2) fs (unitCounted l id h s), sec, arr, conf, ticks, pagesAt⟩

end

theorem sweepUnit_idle {l : Nat} {fs : List Footer} {s : State} (h : s.top.phase ≠ .waitGnt) : sweepUnit l fs s = s := by
  unfold sweepUnit
  split
  · split
    · exact if_neg (by simp [h])
    · rfl
  · rfl

section
variable {v : VerifyIn} {id : Nat} {s : State} (hstate : s.top.state = .ret) (hphase : s.top.phase = .verify)
  (hcomb : verifyComb s = some id) (hwhen : 1250 * (s.ret.verified.length + 1) ≤ s.top.inPhase + 1)
include hstate hphase hcomb hwhen

theorem verifyDone_noHeader_finds (hh : v.hdr = none) : FindsKept (leftUnsealed id (combChecked id s)) (verifyDone v s) := by
  rw [verifyDone_noHeader hstate hphase hcomb hwhen hh]
  exact (foldl_recordLost_found (fun s t => ⟨tBase s t, tLast s t + 1 - tBase s t, t, true⟩) 3 id _ _).1.trans (sealedNoted_found _).1

theorem verifyDone_noSeal_finds {h : CombHdr} (hh : v.hdr = some h) (hc : v.sealCopy = none ∨ combSealed s id = false) :
    FindsKept (leftUnsealed id (headerKept id h (combChecked id s))) (verifyDone v s) ∧ (verifyDone v s).adm = s.adm := by
  rw [verifyDone_noSeal hstate hphase hcomb hwhen hh hc]
  obtain ⟨found, adm⟩ := foldl_recordLost_found (fun _ (t : HdrTenant) => (⟨t.base, t.last + 1 - t.base, t.tenant, true⟩ : CellRun)) 2 id
    h.tenants (leftUnsealed id (headerKept id h (combChecked id s)))
  exact ⟨found.trans (sealedNoted_found _).1, (sealedNoted_found _).2.trans adm⟩

theorem verifyDone_sealed_finds {h : CombHdr} {c : SealInfo} (hh : v.hdr = some h) (hc : v.sealCopy = some c) (hs : combSealed s id = true) :
    FindsKept (sealKept id c (headerKept id h (combChecked id s))) (verifyDone v s) ∧
    ∀ r, r ∈ c.runs → r.coarse = false → ∀ x, r.first ≤ x → x < r.first + r.count → cellState (verifyDone v s) x ≠ 1 := by
  rw [verifyDone_sealed hstate hphase hcomb hwhen hh hc hs]
  refine ⟨?_, fun r hr hexact x hlo hhi => ?_⟩
  · obtain ⟨entered, -⟩ := foldl_enterRun id 0 c.runs (sealKept id c (headerKept id h (combChecked id s)))
    refine (entered.trans (.of_blocks ?_ ?_ ?_)).trans (sealedNoted_found _).1 <;> simp
  · obtain ⟨-, notDirty⟩ := foldl_enterRun id x c.runs (sealKept id c (headerKept id h (combChecked id s)))
    obtain ⟨-, map, -⟩ := refresh_adm (c.runs.foldl (fun s r => enterRun id r s) (sealKept id c (headerKept id h (combChecked id s))))
    rw [cellState, nibble_congr ((congrArg GuardB.map (sealedNoted_found _).2).trans map)]
    exact notDirty (.inr ⟨r, hr, hexact, hlo, hhi⟩)

end

/-- Settles O45: VERIFY's three outcomes, and the unit that a lane sweeps. -/
theorem returnFinds : Obligations.ReturnFinds := by
  refine ⟨fun v id s hstate hphase hcomb hwhen => ?_, fun v s h => ?_, fun l id h fs s hstate hphase hcomb hhdr hlane hticks => ?_,
    fun l fs s h => ?_⟩
  · refine ⟨_, exec_verifyCombDone v s, ?_⟩
    cases hh : v.hdr with
    | none =>
      obtain ⟨conf, arr, verified, pending, unsealed, sealsOf⟩ := verifyDone_noHeader_finds hstate hphase hcomb hwhen hh
      exact ⟨verified, pending, arr, conf, fun _ => ⟨unsealed, sealsOf⟩, nofun, nofun⟩
    | some h =>
      by_cases hnot : v.sealCopy = none ∨ combSealed s id = false
      · obtain ⟨⟨conf, arr, verified, pending, unsealed, -⟩, adm⟩ := verifyDone_noSeal_finds hstate hphase hcomb hwhen hh hnot
        refine ⟨verified, pending, arr, conf, nofun, fun h' c _ hc hs => ?_, fun _ _ _ => ⟨unsealed, adm⟩⟩
        simp [hc, hs] at hnot
      · obtain ⟨c, hc⟩ := Option.ne_none_iff_exists'.1 fun hn => hnot (.inl hn)
        have hs : combSealed s id = true := Bool.eq_true_of_not_eq_false fun hn => hnot (.inr hn)
        obtain ⟨⟨conf, arr, verified, pending, unsealed, sealsOf⟩, notDirty⟩ := verifyDone_sealed_finds hstate hphase hcomb hwhen hh hc hs
        refine ⟨verified, pending, arr, conf, nofun, fun h' c' _ hc' _ => ⟨unsealed, ?_, ?_⟩, fun _ _ hn => absurd hn hnot⟩
        · obtain rfl : c = c' := Option.some.inj (hc.symm.trans hc')
          rw [sealsOf]
          exact List.mem_append_right _ List.mem_cons_self
        · obtain rfl : c = c' := Option.some.inj (hc.symm.trans hc')
          exact notDirty
  · rw [exec_verifyCombDone, verifyDone_idle h]
  · refine ⟨_, exec_sweepUnitDone l fs s, ?_⟩
    obtain ⟨u, ht, adm, sec, arr, conf, ticks, pagesAt⟩ := sweepUnit_counts hstate hphase hcomb hhdr hlane hticks fs
    obtain ⟨conf', arr', -, ticks', pagesAt', -⟩ := sweepClose_swept u
    refine ⟨?_, ?_, fun hs hf => ?_, fun hl => ?_, ?_, ?_⟩
    · rw [ht, ticks', ticks]
      simp [unitCounted]
    · rw [ht, pagesAt', pagesAt]
      simp [unitCounted]
    · rw [sweepUnit_ends hstate hphase hcomb hhdr hlane hticks hs hf]
      obtain ⟨-, -, -, -, -, swept⟩ := sweepClose_swept (chainEnded (id * 8 + l) (unitCounted l id h s))
      rw [swept]
      exact mem_insertNat.2 (.inl rfl)
    · rw [ht, sweepClose_adm (fun k => by rw [slotLost, sec]; exact hl k), adm]
    · rw [ht, arr', arr]
    · rw [ht, conf', conf]
  · rw [exec_sweepUnitDone, sweepUnit_idle h]

end Sys2Proof.Machine
end

section
/-! PROOFS. The array's ports, its queue and the commands that join it (13_internal_array.md, R292, R296, R298, R302). -/

namespace Sys2Proof.Machine

/-! A requester's port. -/

@[simp] theorem portOf_setPort {r : Requester} (hr : r ≠ .engine) (p : ArrPort) (s : State) : portOf (setPort r p s) r = p := by
  rcases r with _ | (_ | _) | _
  · rfl
  · rfl
  · rfl
  · exact absurd rfl hr

/-- A port's write leaves the array's words, its operations and every other port. -/
@[simp] theorem setPort_ops (r : Requester) (p : ArrPort) (s : State) :
    (setPort r p s).arr.run = s.arr.run ∧ (setPort r p s).arr.queue = s.arr.queue ∧ (setPort r p s).arr.susp = s.arr.susp ∧
    (setPort r p s).arr.ufe = s.arr.ufe ∧ (setPort r p s).arr.retired = s.arr.retired ∧ (setPort r p s).arr.autoMin = s.arr.autoMin ∧
    (setPort r p s).arr.ceMarks = s.arr.ceMarks ∧ (setPort r p s).arr.ueMarks = s.arr.ueMarks := by
  rcases r with _ | (_ | _) | _ <;> exact ⟨rfl, rfl, rfl, rfl, rfl, rfl, rfl, rfl⟩

theorem portOf_congr {s t : State} (h : t.arr = s.arr) (r : Requester) : portOf t r = portOf s r := by
  rcases r with _ | (_ | _) | _ <;> simp only [portOf, h]

@[simp] theorem portOf_setHstate {r : Requester} (hr : r ≠ .engine) (h : Nat) (s : State) :
    portOf (setHstate r h s) r = { portOf s r with hstate := h } := portOf_setPort hr _ s

@[simp] theorem setHstate_ops (r : Requester) (h : Nat) (s : State) :
    (setHstate r h s).arr.run = s.arr.run ∧ (setHstate r h s).arr.queue = s.arr.queue ∧ (setHstate r h s).arr.susp = s.arr.susp ∧
    (setHstate r h s).arr.ufe = s.arr.ufe ∧ (setHstate r h s).arr.retired = s.arr.retired ∧ (setHstate r h s).arr.autoMin = s.arr.autoMin ∧
    (setHstate r h s).arr.ceMarks = s.arr.ceMarks ∧ (setHstate r h s).arr.ueMarks = s.arr.ueMarks := setPort_ops r _ s

/-! The end of a command (R302, R305). -/

theorem endCmd_arr (r : Requester) (h : Nat) (s : State) : (endCmd r h s).arr = (setHstate r h s).arr := by
  simp [endCmd]

@[simp] theorem portOf_endCmd {r : Requester} (hr : r ≠ .engine) (h : Nat) (s : State) :
    portOf (endCmd r h s) r = { portOf s r with hstate := h } := by
  rw [portOf_congr (endCmd_arr r h s), portOf_setHstate hr]

theorem endCmd_sameStored (r : Requester) (h : Nat) (s : State) : SameStored s (endCmd r h s) :=
  (setHstate_sameStored r h s).trans (.of_arr (endCmd_arr r h s))

theorem endCmd_tally (r : Requester) (h : Nat) (s : State) : (endCmd r h s).tally = s.tally := by
  unfold endCmd
  dsimp only
  split <;> simp [setInt_tally, setHstate]

/-- A refusal: HSTATE 6 with its code, and nothing else of the array (R302, R304). -/
theorem rejCmd_port {r : Requester} (hr : r ≠ .engine) (code : Nat) (s : State) :
    portOf (rejCmd r code s) r = { portOf s r with rejCode := code, hstate := 6 } := by
  rw [rejCmd, portOf_endCmd hr, portOf_setPort hr]

theorem rejCmd_ops (r : Requester) (code : Nat) (s : State) :
    (rejCmd r code s).arr.queue = s.arr.queue ∧ (rejCmd r code s).arr.run = s.arr.run ∧ (rejCmd r code s).arr.susp = s.arr.susp ∧
    (rejCmd r code s).tally = s.tally := by
  rw [rejCmd, endCmd_tally, endCmd_arr]
  simp

theorem rejCmd_sameStored (r : Requester) (code : Nat) (s : State) : SameStored s (rejCmd r code s) :=
  (setPort_sameStored r _ s).trans (endCmd_sameStored r 6 _)

/-! The queue's head (R292). -/

theorem startNext_of_running {s : State} (h : s.arr.run.isSome = true) : startNext s = s := by
  obtain ⟨o, ho⟩ := Option.isSome_iff_exists.1 h
  simp [startNext, ho]

theorem startNext_of_empty {s : State} (h : s.arr.queue = []) : startNext s = s := by
  cases hr : s.arr.run <;> simp [startNext, h, hr]

/-- The sectors that hold UFE once an operation runs (R294). -/
def ufeWith (o : ArrOp) (ufe : List Nat) : List Nat := if o.erase then insertNat (secOf o.off) ufe else ufe

theorem startNext_of_head {s : State} {o : ArrOp} {q : List ArrOp} (hrun : s.arr.run = none) (hqueue : s.arr.queue = o :: q)
    (hsusp : s.arr.susp = none) :
    startNext s = setHstate o.req 2 { s with arr := { s.arr with run := some o, queue := q, ufe := ufeWith o s.arr.ufe } } := by
  simp only [startNext, hrun, hqueue, hsusp]
  rfl

/-- With no erase suspended the queue's head runs, or waits on in the queue. -/
theorem startNext_head {s : State} {o : ArrOp} {q : List ArrOp} (hqueue : s.arr.queue = o :: q) (hsusp : s.arr.susp = none) :
    (startNext s).arr.susp = none ∧ ((startNext s).arr.run = some o ∨ o ∈ (startNext s).arr.queue) := by
  cases hrun : s.arr.run with
  | none =>
    rw [startNext_of_head hrun hqueue hsusp]
    exact ⟨by simp [hsusp], .inl (by simp)⟩
  | some a =>
    rw [startNext_of_running (by simp [hrun]), hqueue]
    exact ⟨hsusp, .inr List.mem_cons_self⟩

theorem submit_head {o : ArrOp} {s : State} (hrun : s.arr.run = none) (hqueue : s.arr.queue = []) (hsusp : s.arr.susp = none) :
    (submit o s).arr.run = some o ∧ (submit o s).arr.ufe = ufeWith o s.arr.ufe := by
  rw [submit, startNext_of_head (o := o) (q := []) (by simp [hrun]) (by simp [hqueue]) (by simp [hsusp])]
  simp

theorem submit_head_port {o : ArrOp} {s : State} (hr : o.req ≠ .engine) (hrun : s.arr.run = none) (hqueue : s.arr.queue = [])
    (hsusp : s.arr.susp = none) : (portOf (submit o s) o.req).hstate = 2 := by
  rw [submit, startNext_of_head (o := o) (q := []) (by simp [hrun]) (by simp [hqueue]) (by simp [hsusp]), portOf_setHstate hr]

theorem submit_behind {o : ArrOp} {s : State} (hr : o.req ≠ .engine) (hrun : s.arr.run.isSome = true) :
    (submit o s).arr.run = s.arr.run ∧ (submit o s).arr.queue = s.arr.queue ++ [o] ∧ (portOf (submit o s) o.req).hstate = 1 := by
  rw [submit, startNext_of_running (by simpa using hrun), portOf_setHstate hr]
  simp

/-! What reads leave stored (R298, R300). -/

theorem resumeSusp_sameStored (n : Nat) (s : State) : SameStored s (resumeSusp n s) := by
  unfold resumeSusp
  split
  · exact ⟨rfl, rfl, rfl⟩
  · exact .refl s

theorem suspendRun_sameStored (cause : Nat) (s : State) : SameStored s (suspendRun cause s) := by
  unfold suspendRun
  split
  next o _ =>
    split
    · exact SameStored.trans (t := { s with arr := { s.arr with run := none, susp := some ⟨o, cause, 0, 0⟩ } }) ⟨rfl, rfl, rfl⟩
        (startNext_sameStored _)
    · exact .refl s
  next => exact .refl s

theorem touchBank_suspOnly (off : Nat) (s : State) : touchBank off s = { s with arr := { s.arr with susp := (touchBank off s).arr.susp } } := by
  unfold touchBank
  split
  · split <;> rfl
  · rfl

theorem touchBank_sameStored (off : Nat) (s : State) : SameStored s (touchBank off s) := by
  rw [touchBank_suspOnly]
  exact ⟨rfl, rfl, rfl⟩

theorem readWord_arr (w : Nat) (s : State) : (readWord w s).2.arr = s.arr := by simp

/-- A word that is in service and whose check bits hold is read as it is stored (R300). -/
theorem readWord_fine {w : Nat} {s : State} (hret : s.arr.retired.contains (secOf (8 * w)) = false) (hue : w ∉ s.arr.ueMarks) :
    (readWord w s).1 = some (arrWord s w) := by
  have sound : (s.arr.retired.contains (secOf (8 * w)) || s.arr.ueMarks.contains w) = false := by
    simp only [hret, Bool.false_or]
    simpa using hue
  rw [readWord, if_neg (by simp only [sound]; decide)]
  split <;> rfl

theorem secOf_word (off : Nat) : secOf (8 * (off / 8)) = secOf off := by
  simp only [secOf]
  omega

theorem serveRead_sameStored (r : Requester) (off : Nat) (s : State) : SameStored s (serveRead r off s) := by
  have read : SameStored s (readWord (off / 8) (touchBank off s)).2 :=
    (touchBank_sameStored off s).trans (.of_arr (readWord_arr _ _))
  unfold serveRead
  split <;> next heq =>
    rw [heq] at read
    exact (read.trans (setPort_sameStored r _ _)).trans (endCmd_sameStored r _ _)

/-- A READ of a sound word latches it (R302). -/
theorem serveRead_port {r : Requester} (hr : r ≠ .engine) {off : Nat} {s : State} (hret : s.arr.retired.contains (secOf off) = false)
    (hue : off / 8 ∉ s.arr.ueMarks) : (portOf (serveRead r off s) r).latch = arrWord s (off / 8) ∧ (portOf (serveRead r off s) r).hstate = 4 := by
  obtain ⟨mem, ue, retired⟩ := touchBank_sameStored off s
  have word : (readWord (off / 8) (touchBank off s)).1 = some (arrWord s (off / 8)) := by
    rw [readWord_fine (by rw [retired, secOf_word]; exact hret) (by rw [ue]; exact hue), arrWord, mem, arrWord]
  unfold serveRead
  split
  next d u heq =>
    rw [heq] at word
    rw [portOf_endCmd hr, portOf_setPort hr]
    exact ⟨Option.some.inj word, rfl⟩
  next u heq =>
    rw [heq] at word
    cases word

theorem serveBlank_sameStored (r : Requester) (off : Nat) (s : State) : SameStored s (serveBlank r off s) := by
  unfold serveBlank
  extract_lets s1
  have touched : SameStored s s1 := touchBank_sameStored off s
  split <;> exact (touched.trans (setPort_sameStored r _ _)).trans (endCmd_sameStored r _ _)

/-- A BLANK tells whether the sector holds a word (R302). -/
theorem serveBlank_port {r : Requester} (hr : r ≠ .engine) (off : Nat) (s : State) :
    (portOf (serveBlank r off s) r).hstate = if (firstUsed s (secOf off)).isNone then 4 else 5 := by
  have used : firstUsed (touchBank off s) (secOf off) = firstUsed s (secOf off) := by
    rw [touchBank_suspOnly]
    rfl
  unfold serveBlank
  extract_lets s1
  rw [← used]
  split <;> next heq => rw [portOf_endCmd hr, heq]; rfl

theorem stallRead_sameStored (r : Requester) (blank : Bool) (off : Nat) (erase : Bool) (s : State) :
    SameStored s (stallRead r blank off erase s) := by
  unfold stallRead
  extract_lets s1
  have told : s1.arr = s.arr := by simp [s1]
  exact (SameStored.of_arr told).trans (setPort_sameStored r _ _)

theorem tryRead_sameStored (r : Requester) (blank : Bool) (off : Nat) (s : State) : SameStored s (tryRead r blank off s) := by
  unfold tryRead
  extract_lets serve
  have served : ∀ u : State, SameStored u (serve u) := fun u => by
    cases blank with
    | true => exact serveBlank_sameStored r off u
    | false => exact serveRead_sameStored r off u
  split
  · exact served s
  · split
    · exact (suspendRun_sameStored 1 s).trans (served _)
    · exact stallRead_sameStored r blank off true s
  · exact served s
  · exact stallRead_sameStored r blank off false s

theorem tryRead_free {r : Requester} {blank : Bool} {off : Nat} {s : State} (h : busyFor s off = 0) :
    tryRead r blank off s = if blank then serveBlank r off s else serveRead r off s := by
  simp only [tryRead, h]

end Sys2Proof.Machine
end

section
/-! PROOFS. ARRAY_CMD: its effect, or the lowest code that applies (13_internal_array.md, R302, R304 to R306). -/

namespace Sys2Proof.Machine

/-! ARRAY_CMD as the host's post buffer and a core's window give it. -/

/-- The fields of an ARRAY_CMD word. -/
theorem arrCmdWord_fields (r : Requester) {op key arg : Nat} (hop : op < 2 ^ 4) (hkey : key < 2 ^ 16) (harg : arg < 2 ^ 8) (s : State) :
    arrCmdWord r (pack [(op, 4, 0), (arg, 8, 8), (key, 16, 16)]) allBe s = arrCmd r op key arg s := by
  have fop : fld (pack [(op, 4, 0), (arg, 8, 8), (key, 16, 16)]) 0 4 = op % 2 ^ 4 := fld_pack (by simp) (by decide) (by simp)
  have farg : fld (pack [(op, 4, 0), (arg, 8, 8), (key, 16, 16)]) 8 8 = arg % 2 ^ 8 := fld_pack (by simp) (by decide) (by simp)
  have fkey : fld (pack [(op, 4, 0), (arg, 8, 8), (key, 16, 16)]) 16 16 = key % 2 ^ 16 := fld_pack (by simp) (by decide) (by simp)
  rw [Nat.mod_eq_of_lt hop] at fop
  rw [Nat.mod_eq_of_lt harg] at farg
  rw [Nat.mod_eq_of_lt hkey] at fkey
  simp only [arrCmdWord, fop, farg, fkey]
  rfl

/-- NOP does nothing, whatever its other fields hold. -/
theorem arrCmdWord_nop (r : Requester) (key arg : Nat) (s : State) :
    arrCmdWord r (pack [(0, 4, 0), (arg, 8, 8), (key, 16, 16)]) allBe s = s := by
  have fop : fld (pack [(0, 4, 0), (arg, 8, 8), (key, 16, 16)]) 0 4 = 0 % 2 ^ 4 := fld_pack (by simp) (by decide) (by simp)
  simp only [arrCmdWord, fop]
  rfl

/-- t has s's array, and all else that decides on a command. -/
theorem cmdCode_popped (s : State) (r : Requester) (op key arg : Nat) : cmdCode (popped s) r op key arg = cmdCode s r op key arg := by
  unfold popped
  split <;> rfl

theorem arrRow_host {op key arg : Nat} {s : State} (hop : op < 2 ^ 4) (hkey : key < 2 ^ 16) (harg : arg < 2 ^ 8)
    (hr : reaches ⟨0x90, pack [(op, 4, 0), (arg, 8, 8), (key, 16, 16)], allBe⟩ s = true)
    (ho : oldest ⟨0x90, pack [(op, 4, 0), (arg, 8, 8), (key, 16, 16)], allBe⟩ s = true) :
    arrRow .host op key arg allBe s = arrCmd .host op key arg (popped s) :=
  (leave_reaches _ _ s hr ho).trans (arrCmdWord_fields .host hop hkey harg (popped s))

theorem arrRow_core {b : Bool} {op key arg : Nat} {s : State} (hop : op < 2 ^ 4) (hkey : key < 2 ^ 16) (harg : arg < 2 ^ 8)
    (hp : powered s = true) (hreset : (coreOf s b).inReset = false) :
    arrRow (.core b) op key arg allBe s = arrCmd (.core b) op key arg s := by
  have up : (powered s && !(if b then s.hive.b.inReset else s.hive.a.inReset)) = true := by
    cases b <;> simpa [hp, coreOf] using hreset
  simp only [arrRow, up, if_true]
  exact arrCmdWord_fields _ hop hkey harg s

/-! A command, by its code (R302). -/

section
variable {r : Requester} {key arg : Nat} {s : State}

theorem arrCmd_refused {op : Nat} (hop : op ≠ 0) (h : cmdCode s r op key arg ≠ 0) :
    arrCmd r op key arg s = rejCmd r (cmdCode s r op key arg) s := by
  unfold arrCmd
  extract_lets p
  rw [if_neg hop]
  split
  next hc => exact absurd hc h
  next => rfl

theorem arrCmd_read (h : cmdCode s r 5 key arg = 0) : arrCmd r 5 key arg s = tryRead r false (portOf s r).addr.toNat s := by
  simp [arrCmd, h]

theorem arrCmd_program (h : cmdCode s r 6 key arg = 0) : arrCmd r 6 key arg s =
    submit { req := r, erase := false, off := (portOf s r).addr.toNat, data := (portOf s r).latch, mask := BitVec.ofNat 8 arg } s := by
  simp [arrCmd, h]

theorem arrCmd_erase (h : cmdCode s r 7 key arg = 0) :
    arrCmd r 7 key arg s = submit { req := r, erase := true, off := secOf (portOf s r).addr.toNat * 0x4000 } s := by
  simp [arrCmd, h]

theorem arrCmd_blank (h : cmdCode s r 8 key arg = 0) : arrCmd r 8 key arg s = tryRead r true (portOf s r).addr.toNat s := by
  simp [arrCmd, h]

theorem arrCmd_suspend (h : cmdCode s r 9 key arg = 0) : arrCmd r 9 key arg s = setPort r { portOf s r with suspReq := true } s := by
  simp [arrCmd, h]

theorem arrCmd_resume (h : cmdCode s r 10 key arg = 0) : arrCmd r 10 key arg s = startNext (setHstate r 2 (resumeSusp 0 s)) := by
  simp [arrCmd, h]

theorem cmdCode_reserved {op : Nat} (h : 11 ≤ op) : cmdCode s r op key arg = 1 := by
  simp [cmdCode, h]

/-- An erase is refused while one is suspended (code 8). -/
theorem susp_of_eraseAccepted (h : cmdCode s r 7 key arg = 0) : s.arr.susp = none := by
  by_contra hn
  have some : s.arr.susp.isSome = true := Option.isSome_iff_ne_none.2 hn
  simp only [cmdCode, some] at h
  revert h
  repeat' split
  all_goals simp_all

end

/-- No command stores a word, and none retires a sector (R302). -/
theorem arrCmd_sameStored (r : Requester) (op key arg : Nat) (s : State) : SameStored s (arrCmd r op key arg s) := by
  have ended : ∀ (h : Nat) (p : ArrPort), SameStored s (endCmd r h (setPort r p s)) := fun h p =>
    (setPort_sameStored r p s).trans (endCmd_sameStored r h _)
  unfold arrCmd
  extract_lets p
  split
  · exact .refl s
  · split
    · split
      · exact ended 4 _
      split
      · exact ended 4 _
      split
      · exact ended 4 _
      split
      · exact ended 4 _
      split
      · exact tryRead_sameStored r false _ s
      split
      · exact submit_sameStored _ s
      split
      · exact submit_sameStored _ s
      split
      · exact tryRead_sameStored r true _ s
      split
      · exact setPort_sameStored r _ s
      · exact ((resumeSusp_sameStored 0 s).trans (setHstate_sameStored r 2 _)).trans (startNext_sameStored _)
    · exact rejCmd_sameStored r _ s

theorem arrCmd_confAdm (r : Requester) (op key arg : Nat) (s : State) :
    (arrCmd r op key arg s).conf = s.conf ∧ (arrCmd r op key arg s).adm = s.adm := by
  unfold arrCmd
  extract_lets p
  split
  · exact ⟨rfl, rfl⟩
  · split <;> simp

/-- The erase that a RESUME brings back stands first in the queue (R296). -/
theorem resumeSusp_head {z : Susp} {s : State} (h : s.arr.susp = some z) :
    (resumeSusp 0 s).arr.queue = z.op :: s.arr.queue ∧ (resumeSusp 0 s).arr.susp = none := by
  simp [resumeSusp, h]

/-- What a command of ARRAY_CMD from READ on leaves (R302, R304 to R306): the statement of the obligation, for the state it acts on. -/
def CommandEnds (r : Requester) (op key arg : Nat) (s t : State) : Prop :=
  let code := cmdCode s r op key arg; let off := (portOf s r).addr.toNat
  t.arr.mem = s.arr.mem ∧ t.arr.retired = s.arr.retired ∧ t.conf = s.conf ∧ t.adm = s.adm ∧
      (code ≠ 0 → (portOf t r).hstate = 6 ∧ (portOf t r).rejCode = code ∧ (portOf t r).addr = (portOf s r).addr ∧
        t.arr.queue = s.arr.queue ∧ t.arr.run = s.arr.run ∧ t.arr.susp = s.arr.susp ∧ t.tally = s.tally) ∧
      (11 ≤ op → code = 1) ∧
      (code = 0 → op = 5 → busyFor s off = 0 → s.arr.retired.contains (secOf off) = false → off / 8 ∉ s.arr.ueMarks →
        (portOf t r).latch = arrWord s (off / 8) ∧ (portOf t r).hstate = 4) ∧
      (code = 0 → op = 6 → s.arr.run = none → s.arr.queue = [] → s.arr.susp = none →
        t.arr.run = some { req := r, erase := false, off := off, data := (portOf s r).latch, mask := BitVec.ofNat 8 arg } ∧ (portOf t r).hstate = 2) ∧
      (code = 0 → op = 7 → s.arr.run = none → s.arr.queue = [] →
        t.arr.run = some { req := r, erase := true, off := secOf off * 0x4000 } ∧ secOf off ∈ t.arr.ufe) ∧
      (code = 0 → (op = 6 ∨ op = 7) → s.arr.run.isSome = true → t.arr.run = s.arr.run ∧ t.arr.queue.length = s.arr.queue.length + 1 ∧
        (portOf t r).hstate = 1) ∧
      (code = 0 → op = 8 → busyFor s off = 0 → (portOf t r).hstate = if (firstUsed s (secOf off)).isNone then 4 else 5) ∧
      (code = 0 → op = 9 → (portOf t r).suspReq = true ∧ t.arr.run = s.arr.run) ∧
      (code = 0 → op = 10 → ∀ z, s.arr.susp = some z → t.arr.susp = none ∧ (t.arr.run = some z.op ∨ z.op ∈ t.arr.queue))

theorem arrCmd_ends {r : Requester} (hr : r ≠ .engine) {op : Nat} (hop : op ≠ 0) (key arg : Nat) (s : State) :
    CommandEnds r op key arg s (arrCmd r op key arg s) := by
  unfold CommandEnds
  intro code off
  obtain ⟨mem, -, retired⟩ := arrCmd_sameStored r op key arg s
  obtain ⟨conf, adm⟩ := arrCmd_confAdm r op key arg s
  refine ⟨mem, retired, conf, adm, fun h => ?_, fun h => cmdCode_reserved h, ?_, ?_, ?_, ?_, ?_, ?_, ?_⟩
  · rw [arrCmd_refused hop h, rejCmd_port hr]
    exact ⟨rfl, rfl, rfl, rejCmd_ops r code s⟩
  · rintro h rfl hfree hret hue
    rw [arrCmd_read h, tryRead_free hfree]
    exact serveRead_port hr hret hue
  · rintro h rfl hrun hqueue hsusp
    rw [arrCmd_program h]
    exact ⟨(submit_head hrun hqueue hsusp).1, submit_head_port hr hrun hqueue hsusp⟩
  · rintro h rfl hrun hqueue
    rw [arrCmd_erase h]
    obtain ⟨run, ufe⟩ := submit_head (o := { req := r, erase := true, off := secOf off * 0x4000 }) hrun hqueue (susp_of_eraseAccepted h)
    refine ⟨run, ?_⟩
    have sec : secOf (secOf off * 0x4000) = secOf off := Nat.mul_div_cancel _ (by decide)
    rw [ufe, ufeWith, if_pos rfl, sec]
    exact mem_insertNat.2 (.inl rfl)
  · rintro h (rfl | rfl) hrun
    · rw [arrCmd_program h]
      obtain ⟨run, queue, hstate⟩ := submit_behind
        (o := { req := r, erase := false, off := off, data := (portOf s r).latch, mask := BitVec.ofNat 8 arg }) hr hrun
      exact ⟨run, (congrArg List.length queue).trans (by simp), hstate⟩
    · rw [arrCmd_erase h]
      obtain ⟨run, queue, hstate⟩ := submit_behind (o := { req := r, erase := true, off := secOf off * 0x4000 }) hr hrun
      exact ⟨run, (congrArg List.length queue).trans (by simp), hstate⟩
  · rintro h rfl hfree
    rw [arrCmd_blank h, tryRead_free hfree]
    exact serveBlank_port hr off s
  · rintro h rfl
    rw [arrCmd_suspend h, portOf_setPort hr]
    exact ⟨rfl, (setPort_ops r _ s).1⟩
  · rintro h rfl z hz
    rw [arrCmd_resume h]
    obtain ⟨queue, susp⟩ := resumeSusp_head hz
    exact startNext_head (by simpa using queue) (by simpa using susp)

/-- The same command on a state whose array, configuration, admission and Tally are another's, with the same code, ends as there. -/
theorem CommandEnds.of_popped {r : Requester} {op key arg : Nat} {s t : State} (h : CommandEnds r op key arg (popped s) t) :
    CommandEnds r op key arg s t := by
  have code := cmdCode_popped s r op key arg
  unfold popped at h
  split at h
  · exact h
  · exact h

/-! The latch commands (R302). -/

theorem setInt_hostOnly (i : Nat) (s : State) : setInt i s = { s with host := (setInt i s).host } := by
  unfold setInt
  split <;> rfl

theorem popped_hostOnly (s : State) : ∃ host, popped s = { s with host := host } := by
  unfold popped
  split <;> exact ⟨_, rfl⟩

/-- LDLO, LDHI, GETLO and GETHI move halves of the latch. -/
def latchMoved (op : Nat) (p : ArrPort) : ArrPort :=
  { p with
    hstate := 4
    latch := if op = 1 then (p.latch &&& 0xFFFFFFFF00000000) ||| p.addr.zeroExtend 64
      else if op = 2 then (p.latch &&& 0xFFFFFFFF) ||| (p.addr.zeroExtend 64 <<< 32) else p.latch
    addr := if op = 3 then p.latch.truncate 32 else if op = 4 then (p.latch >>> 32).truncate 32 else p.addr }

theorem arrCmd_latch {op : Nat} {s : State} (hop : op = 1 ∨ op = 2 ∨ op = 3 ∨ op = 4) (h : cmdCode s .host op 0 0 = 0) :
    arrCmd .host op 0 0 s = setInt 7 { s with arr := { s.arr with port := latchMoved op s.arr.port } } := by
  rcases hop with rfl | rfl | rfl | rfl <;> simp only [arrCmd, h] <;> rfl

/-- A command of ARRAY_CMD with its fields, from a requester that may send one (R302, R307). -/
def MaySend (r : Requester) (op key arg : Nat) (s : State) : Prop :=
  match r with
  | .host => reaches ⟨0x90, pack [(op, 4, 0), (arg, 8, 8), (key, 16, 16)], allBe⟩ s = true ∧
      oldest ⟨0x90, pack [(op, 4, 0), (arg, 8, 8), (key, 16, 16)], allBe⟩ s = true
  | .core b => powered s = true ∧ (coreOf s b).inReset = false
  | .engine => False

theorem arrRow_ends {r : Requester} {op key arg : Nat} {s : State} (hsend : MaySend r op key arg s) (hop : op ≠ 0) (hop16 : op < 2 ^ 4)
    (hkey : key < 2 ^ 16) (harg : arg < 2 ^ 8) : CommandEnds r op key arg s (arrRow r op key arg allBe s) := by
  cases r with
  | host =>
    obtain ⟨hr, ho⟩ := hsend
    rw [arrRow_host hop16 hkey harg hr ho]
    exact .of_popped (arrCmd_ends (r := .host) (by simp) hop key arg _)
  | core b =>
    obtain ⟨hp, hreset⟩ := hsend
    rw [arrRow_core hop16 hkey harg hp hreset]
    exact arrCmd_ends (r := .core b) (by simp) hop key arg s
  | engine => exact hsend.elim

/-- The commands' rows (Table: ARRAY_CMD commands). -/
theorem exec_arrayCommand {c : Instr} {r : Requester} {op key arg : Nat} {k : BitVec 16} {m : BitVec 8}
    (hc : (c, op, key, arg) ∈ [(Instr.arrayRead r allBe, 5, 0, 0), (.arrayProgram r k m allBe, 6, k.toNat, m.toNat),
      (.arrayErase r k allBe, 7, k.toNat, 0), (.arrayBlank r allBe, 8, 0, 0), (.arraySuspend r allBe, 9, 0, 0),
      (.arrayResume r allBe, 10, 0, 0)] ∨ (11 ≤ op ∧ op ≤ 15 ∧ key = 0 ∧ arg = 0 ∧ c = .arrayReserved r op allBe)) (s : State) :
    exec c s = .next (arrRow r op key arg allBe s) ∧ op ≠ 0 ∧ op < 2 ^ 4 ∧ key < 2 ^ 16 ∧ arg < 2 ^ 8 ∧ (op = 6 → BitVec.ofNat 8 arg = m) := by
  rcases hc with hc | ⟨h11, h15, rfl, rfl, rfl⟩
  · simp only [List.mem_cons, Prod.mk.injEq, List.not_mem_nil, or_false] at hc
    rcases hc with ⟨rfl, rfl, rfl, rfl⟩ | ⟨rfl, rfl, rfl, rfl⟩ | ⟨rfl, rfl, rfl, rfl⟩ | ⟨rfl, rfl, rfl, rfl⟩ | ⟨rfl, rfl, rfl, rfl⟩ |
      ⟨rfl, rfl, rfl, rfl⟩
    · exact ⟨rfl, by decide, by decide, by decide, by decide, nofun⟩
    · exact ⟨rfl, by decide, by decide, k.isLt, m.isLt, fun _ => BitVec.ofNat_toNat _ _⟩
    · exact ⟨rfl, by decide, by decide, k.isLt, by decide, nofun⟩
    · exact ⟨rfl, by decide, by decide, by decide, by decide, nofun⟩
    · exact ⟨rfl, by decide, by decide, by decide, by decide, nofun⟩
    · exact ⟨rfl, by decide, by decide, by decide, by decide, nofun⟩
  · have reserved : exec (.arrayReserved r op allBe) s = .next (if 11 ≤ op ∧ op ≤ 15 then arrRow r op 0 0 allBe s else s) := rfl
    rw [reserved, if_pos ⟨h11, h15⟩]
    exact ⟨rfl, by omega, by omega, by decide, by decide, by omega⟩

theorem exec_arrayNop (arg : Nat) (s : State) : exec (.arrayNop arg allBe) s = .next (arrRow .host 0 0 arg allBe s) := rfl

theorem exec_arrayLatch {c : Instr} {op : Nat} (hc : (c, op) ∈ [(Instr.arrayLdlo allBe, 1), (.arrayLdhi allBe, 2), (.arrayGetlo allBe, 3),
    (.arrayGethi allBe, 4)]) (s : State) :
    exec c s = .next (arrRow .host op 0 0 allBe s) ∧ (op = 1 ∨ op = 2 ∨ op = 3 ∨ op = 4) := by
  simp only [List.mem_cons, Prod.mk.injEq, List.not_mem_nil, or_false] at hc
  rcases hc with ⟨rfl, rfl⟩ | ⟨rfl, rfl⟩ | ⟨rfl, rfl⟩ | ⟨rfl, rfl⟩ <;> exact ⟨rfl, by decide⟩

/-- Settles O47: the command leaves the post buffer or a core's window and acts by its code. -/
theorem arrayCommands : Obligations.ArrayCommands := by
  unfold Obligations.ArrayCommands
  intro sends
  refine ⟨fun arg s hsend => ?_, fun c op s hc hsend hcode => ?_, fun c r op key arg k m s hc hsend => ?_⟩
  · obtain ⟨hr, ho⟩ := hsend
    have row : arrRow .host 0 0 arg allBe s = arrCmdWord .host (pack [(0, 4, 0), (arg, 8, 8), (0, 16, 16)]) allBe (popped s) :=
      leave_reaches _ _ s hr ho
    rw [exec_arrayNop, row, arrCmdWord_nop]
  · obtain ⟨row, hop⟩ := exec_arrayLatch hc s
    obtain ⟨hr, ho⟩ := hsend
    have up : powered (popped s) = true := by rw [powered_popped]; exact reaches_powered hr
    have arr : (popped s).arr = s.arr := by simp
    rw [arrRow_host (by omega) (by decide) (by decide) hr ho, arrCmd_latch hop ((cmdCode_popped s .host op 0 0).trans hcode)] at row
    refine ⟨_, row, ?_, setInt_sets (by decide) up, ?_⟩
    · simp [latchMoved]
    · obtain ⟨host, left⟩ := popped_hostOnly s
      rw [left]
      exact (setInt_hostOnly 7 _).trans (by simp)
  · intro code off
    obtain ⟨row, hop, hop16, hkey, harg, hm⟩ := exec_arrayCommand hc s
    have ends := arrRow_ends (r := r) (op := op) (key := key) (arg := arg) (s := s) hsend hop hop16 hkey harg
    obtain ⟨mem, retired, conf, adm, refused, reserved, read, program, erase, behind, blank, suspend, resume⟩ := ends
    refine ⟨_, row, mem, retired, conf, adm, refused, reserved, read, fun h h6 => ?_, erase, behind, blank, suspend, resume⟩
    rw [← hm h6]
    exact program h h6

end Sys2Proof.Machine
end

section
/-! PROOFS. The cores' store buffers, their drain and their exceptions (14_hive_cores_memory.md, R312, R315, R316, R319, R328). -/

namespace Sys2Proof.Machine

theorem coreOf_congr {s t : State} (h : t.hive = s.hive) (b : Bool) : coreOf t b = coreOf s b := by
  cases b <;> simp only [coreOf, h]

@[simp] theorem setCore_self (b : Bool) (s : State) : setCore b (coreOf s b) s = s := by
  cases b <;> rfl

/-! A store that is performed leaves the buffer behind it (R316). -/

theorem setRamByte_buf (b : Bool) (addr : Nat) (v : BitVec 8) (s : State) : (coreOf (setRamByte b addr v s) b).buf = (coreOf s b).buf := by
  unfold setRamByte
  split
  · simp
  · cases b <;> rfl

theorem ramMark_buf (b : Bool) (addr m : Nat) (s : State) : (coreOf (ramMark b addr m s) b).buf = (coreOf s b).buf := by
  unfold ramMark
  extract_lets w upd c
  split
  · rw [coreOf_setCore]
  · cases b <;> rfl

theorem injectUse_hive (chk : Nat) (s : State) : (injectUse chk s).1.hive = s.hive := by simp

theorem ramWrite_buf (b : Bool) (addr size : Nat) (data : Word) (s : State) :
    (coreOf (ramWrite b addr size data s).2 b).buf = (coreOf s b).buf := by
  unfold ramWrite
  extract_lets base s1 s2 j
  split
  · rw [coreOf_congr (s := s) (by simp)]
  · have told : (coreOf s1 b).buf = (coreOf s b).buf := by
      rw [coreOf_congr (s := s) (by simp only [s1]; split <;> simp)]
    have written : (coreOf s2 b).buf = (coreOf s1 b).buf :=
      foldl_proj _ (fun s => (coreOf s b).buf) (fun s i => setRamByte_buf b _ _ s) _ _
    have injected : coreOf j.1 b = coreOf s2 b := coreOf_congr (injectUse_hive _ s2) b
    rw [ramMark_buf, injected, written, told]

theorem arrCmd_hive (r : Requester) (op key arg : Nat) (s : State) : (arrCmd r op key arg s).hive = s.hive := by
  unfold arrCmd
  (repeat' split) <;> simp

theorem arrCmdWord_sameStored (r : Requester) (data : Word) (be : ByteEn) (s : State) : SameStored s (arrCmdWord r data be s) := by
  unfold arrCmdWord
  split
  · exact arrCmd_sameStored r _ _ _ s
  · exact .refl s

theorem storeArrWin_hive (b : Bool) (off size : Nat) (data : Word) (s : State) : (storeArrWin b off size data s).hive = s.hive := by
  simp [storeArrWin, arrCmdWord, arrCmd_hive]

theorem storeArrWin_adm (b : Bool) (off size : Nat) (data : Word) (s : State) : (storeArrWin b off size data s).adm = s.adm := by
  simp [storeArrWin, arrCmdWord, (arrCmd_confAdm _ _ _ _ _).2]

theorem storeArrWin_sameStored (b : Bool) (off size : Nat) (data : Word) (s : State) : SameStored s (storeArrWin b off size data s) := by
  unfold storeArrWin
  extract_lets w lo d m be p
  have port : ∀ q, SameStored s (setPort (.core b) q s) := fun q => setPort_sameStored _ q s
  split
  · exact arrCmdWord_sameStored _ _ _ s
  split
  · exact port _
  split
  · exact port _
  split
  · exact port _
  split
  · exact port _
  · exact .refl s

theorem ramWrite_sameStored (b : Bool) (addr size : Nat) (data : Word) (s : State) : SameStored s (ramWrite b addr size data s).2 :=
  .of_arr (by simp)

theorem performStore_none {b : Bool} {w : BufStore} {s : State} (h : fwReg w.addr.toNat = true) : performStore b w s = none := if_pos h

/-- A store outside the firmware-side registers is performed; it leaves the buffer, what the array stores and admission. -/
theorem performStore_some {b : Bool} {w : BufStore} (s : State) (h : fwReg w.addr.toNat = false) : ∃ t, performStore b w s = some t ∧
    (coreOf t b).buf = (coreOf s b).buf ∧ SameStored s t ∧ t.adm = s.adm := by
  unfold performStore
  extract_lets a
  rw [if_neg (by simp [a, h])]
  split
  · exact ⟨_, rfl, by rw [coreOf_congr (storeArrWin_hive ..)], storeArrWin_sameStored .., storeArrWin_adm ..⟩
  · have buf := ramWrite_buf b a w.size w.data s
    have stored := ramWrite_sameStored b a w.size w.data s
    have adm : (ramWrite b a w.size w.data s).2.adm = s.adm := by simp
    split
    next s1 heq =>
      rw [heq] at buf stored adm
      refine ⟨_, rfl, ?_, stored.trans (.of_arr (by simp)), by simpa using adm⟩
      rw [coreOf_congr (s := setCore b { coreOf s1 b with asyncFault := true } s1) (by simp), coreOf_setCore]
      exact buf
    next s1 heq =>
      rw [heq] at buf stored adm
      exact ⟨_, rfl, buf, stored, adm⟩

/-! The drain (R315). -/

theorem performHead_store {b : Bool} {w : BufStore} {ws : List BufStore} {s : State} (h : (coreOf s b).buf = w :: ws) :
    performHead b s = performStore b w (setCore b { coreOf s b with buf := ws } s) := by
  simp only [performHead, h]

theorem drain_some {b : Bool} : ∀ (buf : List BufStore) (s : State), (coreOf s b).buf = buf → (∀ w ∈ buf, fwReg w.addr.toNat = false) →
    ∃ t, drain b buf.length s = some t ∧ (coreOf t b).buf = [] ∧ SameStored s t ∧ t.adm = s.adm
  | [], s, hbuf, _ => ⟨s, rfl, hbuf, .refl s, rfl⟩
  | w :: ws, s, hbuf, hfw => by
    obtain ⟨s1, performed, buf, stored, adm⟩ :=
      performStore_some (b := b) (setCore b { coreOf s b with buf := ws } s) (hfw w List.mem_cons_self)
    rw [coreOf_setCore] at buf
    obtain ⟨t, drained, empty, stored', adm'⟩ := drain_some ws s1 buf fun x hx => hfw x (List.mem_cons_of_mem _ hx)
    have first : SameStored s (setCore b { coreOf s b with buf := ws } s) := .of_arr (by simp)
    refine ⟨t, ?_, empty, (first.trans stored).trans stored', ?_⟩
    · rw [List.length_cons, drain, performHead_store hbuf, performed]
      exact drained
    · rw [adm', adm, setCore_adm]

theorem drain_none {b : Bool} : ∀ (buf : List BufStore) (s : State), (coreOf s b).buf = buf → (∃ w ∈ buf, fwReg w.addr.toNat = true) →
    drain b buf.length s = none
  | [], _, _, ⟨_, hw, _⟩ => nomatch hw
  | w :: ws, s, hbuf, ⟨x, hx, hfw⟩ => by
    rw [List.length_cons, drain, performHead_store hbuf]
    cases hw : fwReg w.addr.toNat with
    | true => rw [performStore_none hw]
    | false =>
      obtain ⟨s1, performed, buf, -⟩ := performStore_some (b := b) (setCore b { coreOf s b with buf := ws } s) hw
      rw [coreOf_setCore] at buf
      have later : x ∈ ws := (List.mem_cons.1 hx).resolve_left fun same => by
        rw [same, hw] at hfw
        cases hfw
      rw [performed]
      exact drain_none ws s1 buf ⟨x, later, hfw⟩

theorem drainAll_none_iff (b : Bool) (s : State) : drainAll b s = none ↔ ∃ w, w ∈ (coreOf s b).buf ∧ fwReg w.addr.toNat = true := by
  refine ⟨fun h => ?_, fun h => drain_none _ s rfl h⟩
  by_contra hno
  obtain ⟨t, drained, -⟩ := drain_some (b := b) _ s rfl fun w hw => by
    cases hfw : fwReg w.addr.toNat with
    | false => rfl
    | true => exact absurd ⟨w, hw, hfw⟩ hno
  rw [drainAll, drained] at h
  cases h

/-- What a drain leaves: an empty buffer, what the array stores, and admission. -/
theorem drainAll_leaves {b : Bool} {s x : State} (h : drainAll b s = some x) : (coreOf x b).buf = [] ∧ SameStored s x ∧ x.adm = s.adm := by
  have none : ∀ w ∈ (coreOf s b).buf, fwReg w.addr.toNat = false := fun w hw => by
    cases hfw : fwReg w.addr.toNat with
    | false => rfl
    | true =>
      rw [(drainAll_none_iff b s).2 ⟨w, hw, hfw⟩] at h
      cases h
  obtain ⟨t, drained, leaves⟩ := drain_some (b := b) _ s rfl none
  obtain rfl : t = x := Option.some.inj (drained.symm.trans h)
  exact leaves

theorem drainAll_powered {b : Bool} {s x : State} (h : drainAll b s = some x) : powered x = powered s := by
  obtain ⟨state, coreBor, -⟩ := drainAll_keeps b s x h
  rw [powered, state, coreBor, powered]

/-! One instruction (R312, R315). -/

/-- Of the state that an instruction leaves, a due single step alone ends. -/
theorem oneInsn_next {b : Bool} {f : State → Out} {s t : State} (h : f s = .next t) :
    ∃ v, oneInsn b f s = .next (setCore b { coreOf t b with stepping := v } t) := by
  unfold oneInsn
  rw [h]
  dsimp only
  split
  · exact ⟨false, rfl⟩
  · exact ⟨(coreOf t b).stepping, by rw [setCore_self]⟩

theorem oneInsn_idle {b : Bool} {f : State → Out} {s : State} (h : f s = .next s)
    (hstep : coreRuns s b = false ∨ (coreOf s b).stepping = false) : oneInsn b f s = .next s := by
  unfold oneInsn
  rw [h]
  rcases hstep with h | h <;> simp [h]

theorem oneInsn_refused {b : Bool} {f : State → Out} {s : State} {r : Refusal} (h : f s = .refused r) : oneInsn b f s = .refused r := by
  unfold oneInsn
  rw [h]

theorem coreRuns_powered {s : State} {b : Bool} (h : coreRuns s b = true) : powered s = true := by
  simp only [coreRuns, Bool.and_eq_true] at h
  exact h.1.1.1

/-! Exceptions (R319, R328). -/

theorem coreSrc_notLog (b : Bool) : coreSrc b ≠ 0x48 := by cases b <;> decide

/-- Outside the extension an exception enters the handler, with its message. -/
theorem excEntry_handler {b : Bool} {x : State} (addr : Word) (hp : powered x = true) (hext : (b && extOn x) = false) :
    (coreOf (excEntry b addr x) b).handler = true ∧ (coreOf (excEntry b addr x) b).buf = (coreOf x b).buf ∧
    (srcOf (excEntry b addr x) (coreSrc b)).lastKind = 1 ∧ (srcOf (excEntry b addr x) (coreSrc b)).lastAddr = addr := by
  rw [excEntry, if_neg (by simp [hext])]
  have core : coreOf (tally (coreSrc b) 1 addr (setCore b { coreOf x b with handler := true } x)) b = { coreOf x b with handler := true } := by
    rw [coreOf_congr (s := setCore b { coreOf x b with handler := true } x) (by simp), coreOf_setCore]
  rw [core]
  have hp' : powered (setCore b { coreOf x b with handler := true } x) = true := by simpa [powered] using hp
  exact ⟨rfl, rfl, tally_latest 1 addr hp' (coreSrc_notLog b)⟩

theorem extStop_hive (addr : Word) (s : State) : (extStop addr s).hive.extStopped = true ∧ (extStop addr s).hive.extSince = none ∧
    (extStop addr s).hive.b.buf = s.hive.b.buf ∧ (extStop addr s).hive.a = s.hive.a := by
  simp [extStop]

theorem preciseFault_of_drained {b : Bool} {s x : State} (addr : Word) (h : drainAll b s = some x) :
    preciseFault b addr s = .next (excEntry b addr x) := by
  rw [preciseFault, h]
  rfl

end Sys2Proof.Machine
end

section
/-! PROOFS. What the array's engines keep when an operation ends (13_internal_array.md, R293, R294). -/

namespace Sys2Proof.Machine

/-- t stores what s stores, admits as s does in the same frame, and has every INT_STAT bit that s has. -/
def EndKept (s t : State) : Prop :=
  SameStored s t ∧ t.adm = s.adm ∧ t.fr.epoch = s.fr.epoch ∧ KeepsStampAndInts s t

theorem EndKept.refl (s : State) : EndKept s s := ⟨.refl s, rfl, rfl, .refl s⟩

theorem EndKept.trans {s t u : State} (h : EndKept s t) (k : EndKept t u) : EndKept s u := by
  obtain ⟨stored, adm, epoch, ints⟩ := h
  obtain ⟨stored', adm', epoch', ints'⟩ := k
  exact ⟨stored.trans stored', adm'.trans adm, epoch'.trans epoch, ints.trans ints'⟩

theorem EndKept.ite {c : Prop} [Decidable c] {s t u : State} (h : EndKept s t) (k : EndKept s u) : EndKept s (if c then t else u) := by
  split <;> assumption

theorem EndKept.foldl {β : Type} {f : State → β → State} (h : ∀ s x, EndKept s (f s x)) : ∀ (l : List β) (s : State), EndKept s (l.foldl f s)
  | [], s => .refl s
  | x :: l, s => (h s x).trans (EndKept.foldl h l (f s x))

theorem tally_endKept (src kind : Nat) (addr : Word) (s : State) : EndKept s (tally src kind addr s) :=
  ⟨.of_arr (by simp), by simp, by simp, tally_keepsStampAndInts src kind addr s⟩

theorem setInt_endKept (i : Nat) (s : State) : EndKept s (setInt i s) :=
  ⟨.of_arr (by simp), by simp, by simp, setInt_keepsStampAndInts i s⟩

theorem logEv_endKept (type : Nat) (x : BitVec 8) (a : BitVec 16) (b : Word) (s : State) : EndKept s (logEv type x a b s) :=
  ⟨.of_arr (by simp), by simp, by simp, logEv_keepsStampAndInts type x a b s⟩

/-- A step of the array alone keeps all but what it stores. -/
theorem EndKept.of_arrayOnly {s t : State} (stored : SameStored s t) (adm : t.adm = s.adm) (epoch : t.fr.epoch = s.fr.epoch)
    (host : t.host = s.host) (tally : t.tally = s.tally) : EndKept s t :=
  ⟨stored, adm, epoch, .of_eq (by rw [tally]) (by rw [host])⟩

theorem setPort_endKept (r : Requester) (p : ArrPort) (s : State) : EndKept s (setPort r p s) :=
  .of_arrayOnly (setPort_sameStored r p s) (by simp) (by simp) (by simp) (by simp)

theorem setHstate_endKept (r : Requester) (h : Nat) (s : State) : EndKept s (setHstate r h s) := setPort_endKept r _ s

theorem startNext_endKept (s : State) : EndKept s (startNext s) :=
  .of_arrayOnly (startNext_sameStored s) (by simp) (by simp) (by simp) (by simp)

theorem submit_endKept (o : ArrOp) (s : State) : EndKept s (submit o s) :=
  .of_arrayOnly (submit_sameStored o s) (by simp) (by simp) (by simp) (by simp)

theorem suspendRun_endKept (cause : Nat) (s : State) : EndKept s (suspendRun cause s) :=
  .of_arrayOnly (suspendRun_sameStored cause s) (by simp) (by simp) (by simp) (by simp)

theorem touchBank_endKept (off : Nat) (s : State) : EndKept s (touchBank off s) :=
  .of_arrayOnly (touchBank_sameStored off s) (by simp) (by simp) (by simp) (by simp)

/-! Reads that had waited (R298). -/

theorem endCmd_endKept (r : Requester) (h : Nat) (s : State) : EndKept s (endCmd r h s) := by
  unfold endCmd
  exact (setHstate_endKept r h s).trans (.ite (setInt_endKept 7 _) (.refl _))

theorem readWord_endKept (w : Nat) (s : State) : EndKept s (readWord w s).2 := by
  unfold readWord
  split
  · exact tally_endKept ..
  · split
    · exact tally_endKept ..
    · exact .refl s

theorem serveRead_endKept (r : Requester) (off : Nat) (s : State) : EndKept s (serveRead r off s) := by
  have read := (touchBank_endKept off s).trans (readWord_endKept (off / 8) (touchBank off s))
  unfold serveRead
  split <;> next heq =>
    rw [heq] at read
    exact (read.trans (setPort_endKept r _ _)).trans (endCmd_endKept r _ _)

theorem serveBlank_endKept (r : Requester) (off : Nat) (s : State) : EndKept s (serveBlank r off s) := by
  unfold serveBlank
  extract_lets s1
  have touched : EndKept s s1 := touchBank_endKept off s
  split <;> exact (touched.trans (setPort_endKept r _ _)).trans (endCmd_endKept r _ _)

theorem stallRead_endKept (r : Requester) (blank : Bool) (off : Nat) (erase : Bool) (s : State) : EndKept s (stallRead r blank off erase s) := by
  unfold stallRead
  exact EndKept.trans (.ite (tally_endKept ..) (.refl s)) (setPort_endKept r _ _)

theorem tryRead_endKept (r : Requester) (blank : Bool) (off : Nat) (s : State) : EndKept s (tryRead r blank off s) := by
  unfold tryRead
  extract_lets serve
  have served : ∀ u : State, EndKept u (serve u) := fun u => .ite (serveBlank_endKept r off u) (serveRead_endKept r off u)
  split
  · exact served s
  · exact .ite ((suspendRun_endKept 1 s).trans (served _)) (stallRead_endKept r blank off true s)
  · exact served s
  · exact stallRead_endKept r blank off false s

theorem serveWaits_endKept (s : State) : EndKept s (serveWaits s) := by
  refine EndKept.foldl (fun s r => ?_) _ s
  split
  · exact .ite (tryRead_endKept r _ _ s) (.refl s)
  · exact .refl s

/-! What an operation of an engine goes on with (R215, R237, R265, R267, R285, R301, R345). -/

theorem logProgram_endKept (i : Nat) (r : Record) (s : State) : EndKept s (logProgram i r s) := submit_endKept _ s

theorem logStep_endKept (i : Nat) (ok : Bool) (s : State) : EndKept s (logStep i ok s) := by
  unfold logStep
  split
  · extract_lets fail x _ s1
    have noted : EndKept s s1 := ⟨.of_arr rfl, rfl, rfl, .of_eq rfl rfl⟩
    exact noted.trans (.ite (logProgram_endKept _ _ s1) (.refl s1))
  · exact .refl s

theorem logErase_endKept (k : Nat) (bankB : Bool) (s : State) : EndKept s (logErase k bankB s) := by
  unfold logErase
  extract_lets s1
  have joined : EndKept s s1 := submit_endKept _ s
  exact joined.trans ⟨.of_arr rfl, rfl, rfl, .of_eq rfl rfl⟩

theorem logErased_endKept (arg : Nat) (s : State) : EndKept s (logErased arg s) :=
  .ite (logErase_endKept _ true s) ⟨.of_arr rfl, rfl, rfl, .of_eq rfl rfl⟩

theorem logUnhold_endKept (s : State) : EndKept s (logUnhold s) :=
  .ite (.refl s) ⟨.of_arr rfl, rfl, rfl, .of_eq rfl rfl⟩

theorem harvestRecord_endKept (s : State) : EndKept s (harvestRecord s) := logEv_endKept ..

theorem sealDone_endKept (s : State) : EndKept s (sealDone s) :=
  EndKept.trans (t := { s with harv := { s.harv with sealStep := 3 } }) ⟨.of_arr rfl, rfl, rfl, .of_eq rfl rfl⟩ (harvestRecord_endKept _)

theorem sealFails_endKept (s : State) : EndKept s (sealFails s) := by
  unfold sealFails
  refine EndKept.trans ?_ (harvestRecord_endKept _)
  exact EndKept.trans (t := { s with harv := { s.harv with catFail := true, sealStep := 3 } }) ⟨.of_arr rfl, rfl, rfl, .of_eq rfl rfl⟩
    (tally_endKept ..)

theorem endDone_endKept (id : Nat) (s : State) : EndKept s (endDone id s) := ⟨.of_arr rfl, rfl, rfl, .of_eq rfl rfl⟩

theorem endFails_endKept (id : Nat) (s : State) : EndKept s (endFails id s) := by
  unfold endFails
  refine .ite ?_ (.refl s)
  exact EndKept.trans (t := { s with ret := { s.ret with endRetry := some 65536 } }) ⟨.of_arr rfl, rfl, rfl, .of_eq rfl rfl⟩ (tally_endKept ..)

theorem armed_endKept (e : CatEntry) (s : State) : EndKept s (armed e s) :=
  ⟨.of_arr (by simp), by simp, by simp, .of_eq (by simp) (by simp)⟩

theorem modEntry_endKept (slot : Nat) (f : CatEntry → CatEntry) (s : State) : EndKept s (modEntry slot f s) :=
  ⟨.of_arr rfl, rfl, rfl, .of_eq rfl rfl⟩

theorem catDone_endKept (arg : Nat) (s : State) : EndKept s (catDone arg s) := by
  unfold catDone
  extract_lets slot w
  split
  · split
    · exact .ite (armed_endKept _ s) (.refl s)
    · exact .refl s
  · split
    · exact .refl s
    · split
      next e _ =>
        extract_lets s1 _ s2
        have entry : EndKept s s1 := modEntry_endKept slot _ s
        have pends : EndKept s s2 := entry.trans ⟨.of_arr rfl, rfl, rfl, .of_eq rfl rfl⟩
        split
        · exact pends
        · split
          · exact .ite (pends.trans (sealDone_endKept s2)) pends
          · exact entry.trans (endDone_endKept _ s1)
      next => exact .refl s

theorem catFails_endKept (arg : Nat) (s : State) : EndKept s (catFails arg s) := by
  unfold catFails
  extract_lets w
  split
  · exact .ite (sealFails_endKept s) (.ite (endFails_endKept _ s) (.refl s))
  · exact .refl s

theorem catEnd_endKept (o : ArrOp) (ok : Bool) (s : State) : EndKept s (catEnd o ok s) := by
  unfold catEnd
  refine .ite (catDone_endKept _ s) (.ite ?_ (catFails_endKept _ s))
  exact EndKept.trans (t := { s with nand := { s.nand with catAlt := true } }) ⟨.of_arr rfl, rfl, rfl, .of_eq rfl rfl⟩ (submit_endKept _ _)

theorem compactStep_endKept (s : State) : EndKept s (compactStep s) :=
  ⟨.of_arr (by simp), by simp, by simp, .of_eq (by simp) (by simp)⟩

theorem imgNote_endKept (img : Nat) (s : State) : EndKept s (imgNote img s) := by
  unfold imgNote
  extract_lets c others _ s1 bad _ s2
  have noted : EndKept s s1 := ⟨.of_arr rfl, rfl, rfl, .of_eq rfl rfl⟩
  have marked : EndKept s s2 := ⟨.of_arr rfl, rfl, rfl, .of_eq rfl rfl⟩
  exact .ite noted (.ite (marked.trans (tally_endKept ..)) marked)

theorem commitEnd_endKept (img : Nat) (s : State) : EndKept s (commitEnd img s) := by
  unfold commitEnd
  extract_lets mine left _ s1
  have noted : EndKept s s1 := EndKept.trans (t := { s with conf := { s.conf with edited := removeNat img s.conf.edited } })
    ⟨.of_arr rfl, rfl, rfl, .of_eq rfl rfl⟩ (imgNote_endKept img _)
  exact .ite (.refl s) (.ite noted (noted.trans ⟨.of_arr rfl, rfl, rfl, .of_eq rfl rfl⟩))

theorem readyCheck_endKept (s : State) : EndKept s (readyCheck s) := by
  unfold readyCheck
  extract_lets r _ s1
  have noted : EndKept s s1 := ⟨.of_arr rfl, rfl, rfl, .of_eq rfl rfl⟩
  exact .ite (noted.trans (tally_endKept ..)) noted

theorem setEnd_endKept (arg : Nat) (ok : Bool) (s : State) : EndKept s (setEnd arg ok s) := by
  unfold setEnd
  extract_lets second
  have stored : EndKept s (setStored second s) := EndKept.trans ⟨.of_arr rfl, rfl, rfl, .of_eq rfl rfl⟩ (readyCheck_endKept _)
  have failed : EndKept s (trainFails s) := EndKept.trans (t := { s with dram := { s.dram with trainFail := true } })
    ⟨.of_arr rfl, rfl, rfl, .of_eq rfl rfl⟩ (tally_endKept ..)
  exact .ite stored (.ite failed (.refl s))

theorem orfSpoilt_endKept (ok : Bool) (s : State) : EndKept s (orfSpoilt ok s) :=
  .ite ⟨.of_arr rfl, rfl, rfl, .of_eq rfl rfl⟩ (.refl s)

/-- After an operation has ended the next one starts, the reads that waited are tried, and the log's records are let go. -/
theorem nextOperation_endKept (s : State) : EndKept s (logUnhold (serveWaits (startNext s))) :=
  ((startNext_endKept s).trans (serveWaits_endKept _)).trans (logUnhold_endKept _)

end Sys2Proof.Machine
end

section
/-! PROOFS. The ends of array operations, a suspended erase, and a core's fetch from the array (13_internal_array.md, R293, R294,
R296 to R298). -/

namespace Sys2Proof.Machine

theorem exec_arrayProgramEnd (n : Nat) (ok : Bool) (s : State) : exec (.arrayProgramEnd n ok) s = .next (programEnd n ok s) := rfl
theorem exec_arrayEraseEnd (n : Nat) (ok : Bool) (s : State) : exec (.arrayEraseEnd n ok) s = .next (eraseEnd n ok s) := rfl
theorem exec_eraseSuspendEffect (s : State) : exec .eraseSuspendEffect s = .next (suspendEffect s) := rfl
theorem exec_autoResume (s : State) : exec .autoResume s = .next (autoResume s) := rfl

/-! The end of a program (R293). -/

/-- The running operation has ended, after its pulses. -/
def operationTaken (r : Requester) (n : Nat) (s : State) : State := notePulses r n { s with arr := { s.arr with run := none } }

theorem operationTaken_endKept (r : Requester) (n : Nat) (s : State) : EndKept s (operationTaken r n s) :=
  EndKept.trans (t := { s with arr := { s.arr with run := none } }) ⟨⟨rfl, rfl, rfl⟩, rfl, rfl, .of_eq rfl rfl⟩ (setPort_endKept r _ _)

theorem operationTaken_free (r : Requester) (n : Nat) (s : State) : (operationTaken r n s).free = s.free := by simp [operationTaken]

/-- A program's word, as its success or its failure leaves it. -/
def programmed (o : ArrOp) (ok : Bool) (s : State) : State :=
  let w := o.off / 8
  if ok then
    let j := injectUse 9 (setWord w (maskData o.data o.mask) s)
    { j.1 with arr := { j.1.arr with
        ceMarks := if j.2 = 1 then insertNat w j.1.arr.ceMarks else j.1.arr.ceMarks
        ueMarks := if j.2 = 2 then insertNat w j.1.arr.ueMarks else j.1.arr.ueMarks } }
  else
    let s2 := setWord w (Config.undefinedWord s.free) s
    tally 0x33 1 (BitVec.ofNat 32 o.off) { s2 with free := s2.free + 1 }

theorem arrWord_congr {s t : State} (h : t.arr.mem = s.arr.mem) (w : Nat) : arrWord t w = arrWord s w := by rw [arrWord, h, arrWord]

theorem programmed_words (o : ArrOp) (ok : Bool) (s : State) :
    arrWord (programmed o ok s) (o.off / 8) = (if ok then maskData o.data o.mask else Config.undefinedWord s.free) ∧
    ∀ w, w ≠ o.off / 8 → arrWord (programmed o ok s) w = arrWord s w := by
  have mem : (programmed o ok s).arr.mem =
      (setWord (o.off / 8) (if ok then maskData o.data o.mask else Config.undefinedWord s.free) s).arr.mem := by
    cases ok <;> simp [programmed]
  obtain ⟨same, others, -⟩ := setWord_laws (o.off / 8) (if ok then maskData o.data o.mask else Config.undefinedWord s.free) s
  exact ⟨(arrWord_congr mem _).trans same, fun w hw => (arrWord_congr mem w).trans (others w hw)⟩

theorem programmed_kept (o : ArrOp) (ok : Bool) (s : State) :
    (programmed o ok s).arr.retired = s.arr.retired ∧ (programmed o ok s).adm = s.adm ∧ (programmed o ok s).fr.epoch = s.fr.epoch ∧
    powered (programmed o ok s) = powered s := by
  cases ok <;> simp [programmed, powered, setWord]

/-- A requester's command ends with its operation (R302, R305); an engine's operation is no command. -/
def commandEnded (r : Requester) (ok : Bool) (s : State) : State := if r = .engine then s else endCmd r (if ok then 4 else 5) s

theorem commandEnded_endKept (r : Requester) (ok : Bool) (s : State) : EndKept s (commandEnded r ok s) := .ite (.refl s) (endCmd_endKept ..)

/-- The end of a host's command sets INT_STAT.ARRAY_DONE. -/
theorem endCmd_marks {h : Nat} {s : State} (hp : powered s = true) : (endCmd .host h s).host.intStat.getLsbD 7 = true := by
  rw [endCmd, if_pos rfl]
  exact setInt_sets (by decide) (by simpa [powered] using hp)

theorem commandEnded_marks {r : Requester} {ok : Bool} {s : State} (hr : r = .host) (hp : powered s = true) :
    (commandEnded r ok s).host.intStat.getLsbD 7 = true := by
  subst hr
  exact endCmd_marks hp

/-- What a program belongs to goes on. -/
def programFollowed (o : ArrOp) (ok : Bool) (s : State) : State :=
  if o.tag = 1 then logStep o.arg ok s
  else if o.tag = 3 then catEnd o ok s
  else if o.tag = 4 then commitEnd o.arg s
  else if o.tag = 6 then setEnd o.arg ok s
  else if o.tag = 9 then compactStep s
  else s

theorem programFollowed_endKept (o : ArrOp) (ok : Bool) (s : State) : EndKept s (programFollowed o ok s) :=
  .ite (logStep_endKept ..) (.ite (catEnd_endKept ..) (.ite (commitEnd_endKept ..) (.ite (setEnd_endKept ..)
    (.ite (compactStep_endKept s) (.refl s)))))

section
variable {n : Nat} {ok : Bool} {o : ArrOp} {s : State} (hrun : s.arr.run = some o) (hkind : o.erase = false) (hlo : 1 ≤ n) (hhi : n ≤ 16)
  (hend : ok = true ∨ n = 16) (hwhen : 28 + 12 * n ≤ 4 * (o.frames + 1))
include hrun hkind hlo hhi hend hwhen

theorem programEnd_timed : programEnd n ok s = logUnhold (serveWaits (startNext (programFollowed o ok (commandEnded o.req ok
    (programmed o ok (operationTaken o.req n s)))))) := by
  have due : (!o.erase && decide (1 ≤ n) && decide (n ≤ 16) && (ok || n == 16) && decide (28 + 12 * n ≤ 4 * (o.frames + 1))) = true := by
    simpa [hkind, hlo, hhi, hwhen] using hend
  simp only [programEnd, hrun]
  rw [if_pos due]
  rfl

theorem programEnd_ends :
    arrWord (programEnd n ok s) (o.off / 8) = (if ok then maskData o.data o.mask else Config.undefinedWord s.free) ∧
    (∀ w, w ≠ o.off / 8 → arrWord (programEnd n ok s) w = arrWord s w) ∧ (programEnd n ok s).arr.retired = s.arr.retired ∧
    (o.req = .host → powered s = true → (programEnd n ok s).host.intStat.getLsbD 7 = true) ∧
    (programEnd n ok s).adm = s.adm ∧ (programEnd n ok s).fr.epoch = s.fr.epoch := by
  rw [programEnd_timed hrun hkind hlo hhi hend hwhen]
  obtain ⟨⟨mem0, -, retired0⟩, adm0, epoch0, -⟩ := operationTaken_endKept o.req n s
  obtain ⟨word, others⟩ := programmed_words o ok (operationTaken o.req n s)
  obtain ⟨retired1, adm1, epoch1, power1⟩ := programmed_kept o ok (operationTaken o.req n s)
  have power : powered (operationTaken o.req n s) = powered s := by simp [operationTaken, powered]
  obtain ⟨⟨mem2, -, retired2⟩, adm2, epoch2, -⟩ := commandEnded_endKept o.req ok (programmed o ok (operationTaken o.req n s))
  obtain ⟨⟨mem3, -, retired3⟩, adm3, epoch3, -, ints⟩ :=
    (programFollowed_endKept o ok (commandEnded o.req ok (programmed o ok (operationTaken o.req n s)))).trans (nextOperation_endKept _)
  refine ⟨?_, fun w hw => ?_, ?_, fun hhost hp => ints 7 (commandEnded_marks hhost ?_), ?_, ?_⟩
  · rw [arrWord_congr (mem3.trans mem2), word, operationTaken_free]
  · rw [arrWord_congr (mem3.trans mem2), others w hw, arrWord_congr mem0]
  · rw [retired3, retired2, retired1, retired0]
  · rw [power1, power, hp]
  · rw [adm3, adm2, adm1, adm0]
  · rw [epoch3, epoch2, epoch1, epoch0]

end

theorem programEnd_idle {n : Nat} {ok : Bool} {o : ArrOp} {s : State} (hrun : s.arr.run = some o)
    (h : o.erase = true ∨ n = 0 ∨ 16 < n ∨ (ok = false ∧ n < 16)) : programEnd n ok s = s := by
  simp only [programEnd, hrun]
  rw [if_neg]
  simp only [Bool.and_eq_true, Bool.or_eq_true, Bool.not_eq_true', decide_eq_true_eq, beq_iff_eq]
  rintro ⟨⟨⟨⟨kind, lo⟩, hi⟩, ends⟩, -⟩
  rcases h with h | h | h | ⟨h, h'⟩
  · simp [kind] at h
  · omega
  · omega
  · rcases ends with ends | ends
    · simp [ends] at h
    · omega

/-! The end of an erase (R294). -/

/-- An erase's sector, as its success or its failure leaves it. -/
def sectorErased (o : ArrOp) (ok : Bool) (s : State) : State := if ok then eraseOk (secOf o.off) s else eraseFail (secOf o.off) s

theorem sectorErased_words (o : ArrOp) (ok : Bool) (s : State) (w : Nat) :
    arrWord (sectorErased o ok s) w = if ok = true ∧ secOf (8 * w) = secOf o.off then erasedWord else arrWord s w := by
  cases ok with
  | true => simp only [sectorErased, if_true, eraseOk_arrWord, true_and]
  | false =>
    simp only [sectorErased, Bool.false_eq_true, if_false, false_and]
    exact arrWord_congr (eraseFail_mem _ s) w

theorem sectorErased_kept (o : ArrOp) (ok : Bool) (s : State) :
    (sectorErased o ok s).adm = s.adm ∧ (sectorErased o ok s).fr.epoch = s.fr.epoch ∧ powered (sectorErased o ok s) = powered s := by
  cases ok <;> simp [sectorErased, powered]

/-- A failed erase retires its sector. -/
theorem sectorErased_retires {o : ArrOp} (s : State) : secOf o.off ∈ (sectorErased o false s).arr.retired := by
  simp [sectorErased, eraseFail, retire]

/-- The erase's command ends, with a request to suspend it. -/
def eraseCommandEnded (r : Requester) (ok : Bool) (s : State) : State :=
  if r = .engine then s else endCmd r (if ok then 4 else 5) (setPort r { portOf s r with suspReq := false } s)

theorem eraseCommandEnded_endKept (r : Requester) (ok : Bool) (s : State) : EndKept s (eraseCommandEnded r ok s) :=
  .ite (.refl s) ((setPort_endKept r _ s).trans (endCmd_endKept ..))

theorem eraseCommandEnded_marks {r : Requester} {ok : Bool} {s : State} (hr : r = .host) (hp : powered s = true) :
    (eraseCommandEnded r ok s).host.intStat.getLsbD 7 = true := by
  subst hr
  exact endCmd_marks (by simpa [powered] using hp)

/-- What an erase belongs to goes on. -/
def eraseFollowed (o : ArrOp) (ok : Bool) (s : State) : State :=
  if o.tag = 2 then logErased o.arg s
  else if o.tag = 4 then commitEnd o.arg s
  else if o.tag = 9 then compactStep s
  else if o.tag = 5 then orfSpoilt ok s
  else s

theorem eraseFollowed_endKept (o : ArrOp) (ok : Bool) (s : State) : EndKept s (eraseFollowed o ok s) :=
  .ite (logErased_endKept ..) (.ite (commitEnd_endKept ..) (.ite (compactStep_endKept s) (.ite (orfSpoilt_endKept ok s) (.refl s))))

section
variable {n : Nat} {ok : Bool} {o : ArrOp} {s : State} (hrun : s.arr.run = some o) (hkind : o.erase = true) (hlo : 1 ≤ n) (hhi : n ≤ 48)
  (hend : ok = true ∨ n = 48) (hwhen : 200 + 2256 * n ≤ 4 * (o.frames + 1))
include hrun hkind hlo hhi hend hwhen

theorem eraseEnd_timed : eraseEnd n ok s = logUnhold (serveWaits (startNext (eraseFollowed o ok (eraseCommandEnded o.req ok
    (sectorErased o ok (operationTaken o.req n s)))))) := by
  have due : (o.erase && decide (1 ≤ n) && decide (n ≤ 48) && (ok || n == 48) && decide (200 + 2256 * n ≤ 4 * (o.frames + 1))) = true := by
    simpa [hkind, hlo, hhi, hwhen] using hend
  simp only [eraseEnd, hrun]
  rw [if_pos due]
  rfl

theorem eraseEnd_ends :
    (∀ w, arrWord (eraseEnd n ok s) w = if ok = true ∧ secOf (8 * w) = secOf o.off then erasedWord else arrWord s w) ∧
    (ok = false → secOf o.off ∈ (eraseEnd n ok s).arr.retired) ∧
    (o.req = .host → powered s = true → (eraseEnd n ok s).host.intStat.getLsbD 7 = true) ∧
    (eraseEnd n ok s).adm = s.adm ∧ (eraseEnd n ok s).fr.epoch = s.fr.epoch := by
  rw [eraseEnd_timed hrun hkind hlo hhi hend hwhen]
  obtain ⟨⟨mem0, -, -⟩, adm0, epoch0, -⟩ := operationTaken_endKept o.req n s
  have words := sectorErased_words o ok (operationTaken o.req n s)
  obtain ⟨adm1, epoch1, power1⟩ := sectorErased_kept o ok (operationTaken o.req n s)
  have power : powered (operationTaken o.req n s) = powered s := by simp [operationTaken, powered]
  obtain ⟨⟨mem2, -, retired2⟩, adm2, epoch2, -⟩ := eraseCommandEnded_endKept o.req ok (sectorErased o ok (operationTaken o.req n s))
  obtain ⟨⟨mem3, -, retired3⟩, adm3, epoch3, -, ints⟩ :=
    (eraseFollowed_endKept o ok (eraseCommandEnded o.req ok (sectorErased o ok (operationTaken o.req n s)))).trans (nextOperation_endKept _)
  refine ⟨fun w => ?_, fun hfail => ?_, fun hhost hp => ints 7 (eraseCommandEnded_marks hhost ?_), ?_, ?_⟩
  · rw [arrWord_congr (mem3.trans mem2), words w, arrWord_congr mem0]
  · subst hfail
    rw [retired3, retired2]
    exact sectorErased_retires _
  · rw [power1, power, hp]
  · rw [adm3, adm2, adm1, adm0]
  · rw [epoch3, epoch2, epoch1, epoch0]

end

/-! A suspended erase (R296, R297). -/

theorem setPort_arrOnly (r : Requester) (p : ArrPort) (s : State) : setPort r p s = { s with arr := (setPort r p s).arr } := by
  rcases r with _ | (_ | _) | _ <;> rfl

theorem startNext_arrOnly (s : State) : startNext s = { s with arr := (startNext s).arr } := by
  unfold startNext
  repeat' split
  all_goals first | rfl | exact setPort_arrOnly ..

theorem suspended_hostArrOnly (r : Requester) (s : State) : suspended r s = { s with host := (suspended r s).host, arr := (suspended r s).arr } := by
  unfold suspended
  extract_lets _ s1
  obtain ⟨a, port⟩ : ∃ a, s1 = { s with arr := a } := ⟨_, setPort_arrOnly r _ s⟩
  rw [port]
  split
  · exact (setInt_hostOnly 7 _).trans (by simp)
  · rfl

theorem suspended_arr (r : Requester) (s : State) :
    (suspended r s).arr = (setPort r { portOf s r with suspReq := false, hstate := 3 } s).arr := by
  unfold suspended
  split <;> simp

theorem suspended_port {r : Requester} (hr : r ≠ .engine) (s : State) :
    portOf (suspended r s) r = { portOf s r with suspReq := false, hstate := 3 } := by
  rw [portOf_congr (suspended_arr r s), portOf_setPort hr]

/-- A port's write that keeps what waits there keeps what waits at every port. -/
theorem waitOp_setPort {r : Requester} {p : ArrPort} {s : State} (h : p.waitOp = (portOf s r).waitOp) (q : Requester) :
    (portOf (setPort r p s) q).waitOp = (portOf s q).waitOp := by
  rcases r with _ | (_ | _) | _ <;> rcases q with _ | (_ | _) | _ <;> first | exact h | rfl

theorem serveWaits_of_none {s : State} (h : ∀ r, (portOf s r).waitOp = none) : serveWaits s = s := by
  simp only [serveWaits, List.foldl_cons, List.foldl_nil, h]

section
variable {o : ArrOp} {s : State} (hrun : s.arr.run = some o) (hsusp : s.arr.susp = none) (hkind : o.erase = true)
  (hreq : (portOf s o.req).suspReq = true) (hqueue : s.arr.queue = []) (hwait : ∀ r, (portOf s r).waitOp = none)
include hrun hsusp hkind hreq hqueue hwait

/-- A requested suspension of the running erase takes effect; nothing waits to run in its place. -/
theorem suspendEffect_running : suspendEffect s =
    { suspended o.req s with arr := { (suspended o.req s).arr with run := none, susp := some ⟨o, 0, 0, 0⟩ } } := by
  have effect : suspendEffect s = serveWaits (suspendRun 0 (suspended o.req s)) := by
    simp [suspendEffect, hrun, hsusp, hkind, hreq]
  have running : (suspended o.req s).arr.run = some o := by simp [suspended_arr, hrun]
  have stopped : suspendRun 0 (suspended o.req s) =
      { suspended o.req s with arr := { (suspended o.req s).arr with run := none, susp := some ⟨o, 0, 0, 0⟩ } } := by
    simp only [suspendRun, running, hkind, if_true]
    exact startNext_of_empty (by simp [suspended_arr, hqueue])
  rw [effect, stopped]
  refine serveWaits_of_none fun r => ?_
  have port : portOf { suspended o.req s with arr := { (suspended o.req s).arr with run := none, susp := some ⟨o, 0, 0, 0⟩ } } r =
      portOf (setPort o.req { portOf s o.req with suspReq := false, hstate := 3 } s) r := by
    rcases r with _ | (_ | _) | _ <;> simp only [portOf, suspended_arr]
  rw [port, waitOp_setPort (by rfl), hwait]

end

theorem autoResume_due {z : Susp} {s : State} (hz : s.arr.susp = some z) (hc : z.cause = 1) (hwhen : 2 ≤ z.quietFor ∨ 500 ≤ z.since) :
    ∃ n, autoResume s = startNext (setHstate z.op.req 2 (resumeSusp n s)) := by
  simp only [autoResume, hz]
  rw [if_pos ⟨hc, hwhen⟩]
  exact ⟨_, rfl⟩

/-- An erase suspended automatically stays suspended for the requester that has asked (R296). -/
theorem suspendEffect_suspended {z : Susp} {s : State} (hz : s.arr.susp = some z) (hreq : (portOf s z.op.req).suspReq = true) :
    suspendEffect s = suspended z.op.req { s with arr := { s.arr with susp := some { z with cause := 0 } } } := by
  cases hrun : s.arr.run <;> simp [suspendEffect, hz, hrun, hreq]

/-- The suspended erase comes back to the head of the queue, and runs or waits there (R296). -/
theorem resumed_head {z : Susp} {s : State} (hz : s.arr.susp = some z) (n : Nat) (r : Requester) :
    let t := startNext (setHstate r 2 (resumeSusp n s))
    t.arr.susp = none ∧ (t.arr.run = some z.op ∨ z.op ∈ t.arr.queue) := by
  refine startNext_head (o := z.op) (q := s.arr.queue) ?_ ?_ <;> simp [resumeSusp, hz]

theorem resumeSusp_arrOnly (n : Nat) (s : State) : resumeSusp n s = { s with arr := (resumeSusp n s).arr } := by
  unfold resumeSusp
  split <;> rfl

/-! A core's access to the array (R298). -/

theorem coreAccess_kept (b : Bool) (off : Nat) (isFetch : Bool) (s : State) :
    EndKept s (coreAccess b off isFetch s).2 ∧ (coreAccess b off isFetch s).2.hive = s.hive := by
  unfold coreAccess
  extract_lets p stat read
  have reads : ∀ u : State, EndKept u (read u).2 ∧ (read u).2.hive = u.hive := fun u => by
    have kept := (touchBank_endKept off u).trans (readWord_endKept (off / 8) (touchBank off u))
    have hive : (readWord (off / 8) (touchBank off u)).2.hive = u.hive := by simp
    dsimp only [read]
    split <;> next heq => rw [heq] at kept hive; exact ⟨kept, hive⟩
  split
  · exact reads s
  · split
    · exact ⟨.refl s, rfl⟩
    · exact ⟨tally_endKept .., by simp⟩
  · split
    · exact ⟨.refl s, rfl⟩
    · split
      · obtain ⟨kept, hive⟩ := reads (suspendRun 1 s)
        exact ⟨(suspendRun_endKept 1 s).trans kept, hive.trans (by simp)⟩
      · exact ⟨.ite (.refl s) (tally_endKept ..), by dsimp only; split <;> simp⟩
  · split <;> exact ⟨.refl s, rfl⟩

theorem markAccess_endKept (b : Bool) (a : ArrAccess) (s : State) : EndKept s (markAccess b a s) := by
  unfold markAccess
  split
  · exact setPort_endKept ..
  · exact setPort_endKept ..
  · exact .refl s

/-- An access of a core whose buffer drains ends, or stalls, and stores nothing. -/
theorem arrayRead_next {b : Bool} (addr : Word) (size : Nat) (isFetch : Bool) {s : State}
    (hfw : ∀ w, w ∈ (coreOf s b).buf → fwReg w.addr.toNat = false) :
    ∃ t, arrayRead b addr size isFetch s = .next t ∧ SameStored s t ∧ t.adm = s.adm := by
  unfold arrayRead
  extract_lets off r s1 give
  obtain ⟨⟨stored, adm, -⟩, hive⟩ : EndKept s s1 ∧ s1.hive = s.hive := by
    obtain ⟨kept, hive⟩ := coreAccess_kept b off isFetch s
    exact ⟨kept.trans (markAccess_endKept b _ _), by simp only [s1, markAccess_blocks]; exact hive⟩
  have core : ∀ c, SameStored s (setCore b c s1) ∧ (setCore b c s1).adm = s.adm := fun c =>
    ⟨stored.trans (.of_arr (by simp)), by rw [setCore_adm, adm]⟩
  split
  · exact ⟨_, rfl, core _⟩
  · exact ⟨_, rfl, core _⟩
  · have buf : (coreOf (setStalled b false s1) b).buf = (coreOf s b).buf := by
      rw [setStalled, coreOf_setCore, coreOf_congr hive]
    obtain ⟨x, drained, -, stored', adm'⟩ := drain_some (b := b) _ (setStalled b false s1) rfl (by rw [buf]; exact hfw)
    obtain ⟨stored0, adm0⟩ := core { coreOf s1 b with stalled := false }
    refine ⟨_, preciseFault_of_drained addr drained, ?_, ?_⟩
    · exact (SameStored.trans stored0 stored').trans (.of_arr (by simp))
    · rw [(excEntry_blocks b addr x).2.1, adm']
      exact adm0
  · exact ⟨_, rfl, core _⟩

/-- An aligned half of a word, as a load takes it. -/
theorem loadedHalf {off : Nat} (d : DWord) (halign : off % 4 = 0) :
    (d >>> (8 * (off % 8))).truncate 32 &&& fmask 0 (8 * 4) = if off % 8 < 4 then d.truncate 32 else (d >>> 32).truncate 32 := by
  have whole : ∀ v : Word, v &&& fmask 0 (8 * 4) = v := fun v => BitVec.and_allOnes
  rw [whole]
  rcases (by omega : off % 8 = 0 ∨ off % 8 = 4) with h | h
  · rw [h, if_pos (by decide)]
    rfl
  · rw [h, if_neg (by decide)]

theorem coreAccess_free (b isFetch : Bool) {off : Nat} {s : State} (hbusy : busyFor s off = 0)
    (hret : s.arr.retired.contains (secOf off) = false) (hue : off / 8 ∉ s.arr.ueMarks) :
    (coreAccess b off isFetch s).1 = .value (arrWord s (off / 8)) := by
  obtain ⟨mem, ue, retired⟩ := touchBank_sameStored off s
  have word : (readWord (off / 8) (touchBank off s)).1 = some (arrWord s (off / 8)) := by
    rw [readWord_fine (by rw [retired, secOf_word]; exact hret) (by rw [ue]; exact hue), arrWord_congr mem]
  simp only [coreAccess, hbusy]
  split
  next d u heq =>
    rw [heq] at word
    rw [Option.some.inj word]
  next u heq =>
    rw [heq] at word
    cases word

/-- The word of a load from a bank that nothing holds (R298, R300). -/
theorem arrayRead_free {b : Bool} (isFetch : Bool) {addr : Word} {s : State} (halign : (addr.toNat - 0x40000000) % 4 = 0)
    (hbusy : busyFor s (addr.toNat - 0x40000000) = 0) (hret : s.arr.retired.contains (secOf (addr.toNat - 0x40000000)) = false)
    (hue : (addr.toNat - 0x40000000) / 8 ∉ s.arr.ueMarks) {t : State} (ht : arrayRead b addr 4 isFetch s = .next t) :
    let off := addr.toNat - 0x40000000
    (coreOf t b).lastLoad = (if off % 8 < 4 then (arrWord s (off / 8)).truncate 32 else (arrWord s (off / 8) >>> 32).truncate 32) ∧
    (coreOf t b).stalled = false := by
  intro off
  have value := coreAccess_free b isFetch hbusy hret hue
  simp only [arrayRead, value] at ht
  cases ht
  rw [coreOf_setCore]
  exact ⟨loadedHalf _ halign, rfl⟩

/-- A load or fetch that a program holds up stalls (R298). -/
theorem arrayRead_programs {b isFetch : Bool} {addr : Word} {size : Nat} {s : State} (hbusy : busyFor s (addr.toNat - 0x40000000) = 3)
    (hstat : isFetch = true ∨ (portOf s (.core b)).statread = false) {t : State} (ht : arrayRead b addr size isFetch s = .next t) :
    (coreOf t b).stalled = true := by
  have status : (!isFetch && (portOf s (.core b)).statread) = false := by
    rcases hstat with h | h <;> simp [h]
  have stall : (coreAccess b (addr.toNat - 0x40000000) isFetch s).1 = .stall false := by
    simp [coreAccess, hbusy, status]
  simp only [arrayRead, stall] at ht
  cases ht
  rw [setStalled, coreOf_setCore]

/-! A core's fetch (R298, R319). -/

/-- A fetch or data read of a core, as its instruction makes it. -/
def fetchInsn (b : Bool) (addr : Word) (isFetch : Bool) (s : State) : Out :=
  if coreRuns s b && decide (0x40000000 ≤ addr.toNat) && decide (addr.toNat < 0x40400000) then
    if accessBad s b addr.toNat 4 false then preciseFault b addr (setStalled b false s) else arrayRead b addr 4 isFetch (takeAsync b s)
  else .next s

theorem exec_arrayFetch (b : Bool) (addr : Word) (isFetch : Bool) (s : State) :
    exec (.arrayFetch b addr isFetch) s = oneInsn b (fetchInsn b addr isFetch) s := rfl

theorem fetchInsn_idle {b isFetch : Bool} {addr : Word} {s : State}
    (h : coreRuns s b = false ∨ addr.toNat < 0x40000000 ∨ 0x40400000 ≤ addr.toNat) : fetchInsn b addr isFetch s = .next s := by
  rw [fetchInsn, if_neg]
  simp only [Bool.and_eq_true, decide_eq_true_eq]
  rintro ⟨⟨runs, lo⟩, hi⟩
  rcases h with h | h | h
  · simp [runs] at h
  · omega
  · omega

/-- A sound access is aligned (R312). -/
theorem aligned_of_accessSound {s : State} {b write : Bool} {addr : Nat} (h : accessBad s b addr 4 write = false) : addr % 4 = 0 := by
  simp only [accessBad, Bool.or_eq_false_iff, Bool.not_eq_false', alignedTo, Bool.and_eq_true, beq_iff_eq] at h
  exact h.1.1.2

section
variable {b : Bool} {addr : Word} {s : State} (hruns : coreRuns s b = true) (hlo : 0x40000000 ≤ addr.toNat)
  (hhi : addr.toNat < 0x40400000)
include hruns hlo hhi

theorem fetchInsn_bad {x : State} (isFetch : Bool) (hbad : accessBad s b addr.toNat 4 false = true)
    (hdrain : drainAll b (setStalled b false s) = some x) : fetchInsn b addr isFetch s = .next (excEntry b addr x) := by
  rw [fetchInsn, if_pos (by simp [hruns, hlo, hhi]), if_pos hbad, preciseFault_of_drained addr hdrain]

theorem fetchInsn_sound (isFetch : Bool) (hsound : accessBad s b addr.toNat 4 false = false) (hasync : (coreOf s b).asyncFault = false) :
    fetchInsn b addr isFetch s = arrayRead b addr 4 isFetch s := by
  have quiet : takeAsync b s = s := by simp [takeAsync, hasync]
  rw [fetchInsn, if_pos (by simp [hruns, hlo, hhi]), if_neg (by simp [hsound]), quiet]

end

@[simp] theorem setCore_ext (b : Bool) (c : Core) (s : State) :
    (setCore b c s).hive.extStopped = s.hive.extStopped ∧ (setCore b c s).hive.extSince = s.hive.extSince := by
  cases b <;> exact ⟨rfl, rfl⟩

theorem srcOf_setCore (b : Bool) (c : Core) (s : State) (n : Nat) : srcOf (setCore b c s) n = srcOf s n := by
  cases b <;> rfl

/-- Settles O48: each end of an operation by the steps it is made of, each fetch by its access. -/
theorem arrayOperationEnds : Obligations.ArrayOperationEnds := by
  refine ⟨fun n ok o s hrun hkind hlo hhi hend hwhen => ?_, fun n ok o s hrun h => ?_, fun n ok o s hrun hkind hlo hhi hend hwhen => ?_,
    fun n ok s hrun => ?_, fun o s hrun hsusp hkind hreq hqueue hengine hwait => ?_, fun z s hz hreq hengine => ?_, fun s hrun hsusp => ?_,
    fun z s hz hc hwhen => ?_, fun s hsusp => ?_, fun b isFetch addr s x hruns hasync hlo hhi hdrain hfw => ?_, fun b isFetch addr s h => ?_⟩
  · obtain ⟨word, others, retired, done, adm, epoch⟩ := programEnd_ends hrun hkind hlo hhi hend hwhen
    exact ⟨_, exec_arrayProgramEnd n ok s, word, others, fun x hx => by rwa [retired], done, adm, epoch⟩
  · rw [exec_arrayProgramEnd, programEnd_idle hrun h]
  · exact ⟨_, exec_arrayEraseEnd n ok s, eraseEnd_ends hrun hkind hlo hhi hend hwhen⟩
  · exact ⟨by simp [exec_arrayProgramEnd, programEnd, hrun], by simp [exec_arrayEraseEnd, eraseEnd, hrun]⟩
  · refine ⟨_, exec_eraseSuspendEffect s, ?_⟩
    rw [suspendEffect_running hrun hsusp hkind hreq hqueue hwait]
    obtain ⟨host, arr, only⟩ : ∃ host arr, suspended o.req s = { s with host := host, arr := arr } := ⟨_, _, suspended_hostArrOnly _ s⟩
    have port : portOf { suspended o.req s with arr := { (suspended o.req s).arr with run := none, susp := some ⟨o, 0, 0, 0⟩ } } o.req =
        portOf (suspended o.req s) o.req := by
      rcases o.req with _ | (_ | _) | _ <;> rfl
    rw [port, suspended_port hengine]
    exact ⟨rfl, rfl, rfl, rfl, suspended_mem o.req s, by rw [only]⟩
  · refine ⟨_, exec_eraseSuspendEffect s, ?_⟩
    rw [suspendEffect_suspended hz hreq, suspended_port hengine]
    refine ⟨by simp [suspended_arr], by simp [suspended_arr], rfl, rfl, by simp, ?_⟩
    exact suspended_hostArrOnly z.op.req { s with arr := { s.arr with susp := some { z with cause := 0 } } }
  · simp [exec_eraseSuspendEffect, suspendEffect, hrun, hsusp]
  · obtain ⟨n, due⟩ := autoResume_due hz hc hwhen
    refine ⟨_, exec_autoResume s, ?_⟩
    rw [due]
    obtain ⟨susp, head⟩ := resumed_head hz n z.op.req
    refine ⟨susp, head, by simp, ?_⟩
    rw [startNext_arrOnly, setHstate, setPort_arrOnly, resumeSusp_arrOnly]
  · simp [exec_autoResume, autoResume, hsusp]
  · intro off
    rw [exec_arrayFetch]
    cases hbad : accessBad s b addr.toNat 4 false with
    | true =>
      obtain ⟨v, step⟩ := oneInsn_next (fetchInsn_bad hruns hlo hhi isFetch hbad hdrain)
      obtain ⟨-, ⟨mem, -, retired⟩, adm⟩ := drainAll_leaves hdrain
      have hp : powered x = true := by
        rw [drainAll_powered hdrain]
        simpa [powered, setStalled] using coreRuns_powered hruns
      refine ⟨_, step, by simpa [setStalled] using mem, by simpa [setStalled] using retired, by simpa [setStalled] using adm,
        fun _ hext => ?_, fun _ hext => ?_, nofun, nofun⟩
      · obtain ⟨handler, -, kind, at'⟩ := excEntry_handler addr hp hext
        rw [coreOf_setCore, srcOf_setCore]
        exact ⟨handler, kind, at'⟩
      · obtain ⟨stopped, since, -⟩ := extStop_hive addr x
        rw [(setCore_ext _ _ _).1, (setCore_ext _ _ _).2, excEntry, if_pos hext]
        exact ⟨stopped, since⟩
    | false =>
      obtain ⟨t, read, ⟨mem, -, retired⟩, adm⟩ := arrayRead_next addr 4 isFetch hfw
      obtain ⟨v, step⟩ := oneInsn_next ((fetchInsn_sound hruns hlo hhi isFetch hbad hasync).trans read)
      have halign : off % 4 = 0 := by
        have := aligned_of_accessSound hbad
        omega
      refine ⟨_, step, by simpa using mem, by simpa using retired, by simpa using adm, nofun, nofun, fun _ hbusy hret hue => ?_,
        fun _ hbusy hstat => ?_⟩
      · rw [coreOf_setCore]
        exact arrayRead_free isFetch halign hbusy hret hue read
      · rw [coreOf_setCore]
        exact arrayRead_programs hbusy hstat read
  · rw [exec_arrayFetch]
    rcases h with runs | ⟨hstep, hrange⟩
    · exact oneInsn_idle (fetchInsn_idle (.inl runs)) (.inl runs)
    · exact oneInsn_idle (fetchInsn_idle (.inr hrange)) (.inr hstep)

end Sys2Proof.Machine
end

section
/-! PROOFS. A core's stores, loads and FENCE through its store buffer, and its bus faults (14_hive_cores_memory.md, R312, R315, R316,
R319). -/

namespace Sys2Proof.Machine

theorem exec_storePerformed (b : Bool) (s : State) :
    exec (.storePerformed b) s = if powered s then orRefuse (performHead b s) else .next s := rfl
theorem exec_coreFence (b : Bool) (s : State) : exec (.coreFence b) s = windowInsn b (fun x => x) s := rfl

/-! Writes of the Hive's RAM, byte for byte (R316, R321). -/

@[simp] theorem setCore_sram (b : Bool) (c : Core) (s : State) : (setCore b c s).hive.sram = s.hive.sram := by
  cases b <;> rfl

/-- The bytes that a core sees are those of its TCM and of the SRAM. -/
theorem ramByte_congr {s t : State} {b : Bool} (htcm : (coreOf t b).tcm = (coreOf s b).tcm) (hsram : t.hive.sram = s.hive.sram) (a : Nat) :
    ramByte t b a = ramByte s b a := by
  simp only [ramByte, htcm, hsram]

theorem ramByte_setCore {b : Bool} {c : Core} {s : State} (h : c.tcm = (coreOf s b).tcm) (a : Nat) :
    ramByte (setCore b c s) b a = ramByte s b a :=
  ramByte_congr (by rw [coreOf_setCore, h]) (setCore_sram b c s) a

theorem ramByte_ramMark (b : Bool) (addr m : Nat) (s : State) (a : Nat) : ramByte (ramMark b addr m s) b a = ramByte s b a := by
  unfold ramMark
  extract_lets w upd c
  split
  · exact ramByte_setCore (b := b) (c := { c with ceWords := upd 1 c.ceWords, ueWords := upd 2 c.ueWords }) rfl a
  · cases b <;> rfl

/-- size bytes of data from an address on. -/
theorem foldl_setRamByte (b : Bool) (addr : Nat) (data : Word) : ∀ (n : Nat) (s : State) (x : Nat),
    ramByte ((List.range n).foldl (fun s i => setRamByte b (addr + i) (byteOf data i) s) s) b x =
      if addr ≤ x ∧ x < addr + n then byteOf data (x - addr) else ramByte s b x
  | 0, s, x => by rw [if_neg (by omega)]; rfl
  | n + 1, s, x => by
    rw [List.range_succ, List.foldl_append, List.foldl_cons, List.foldl_nil]
    obtain ⟨same, others, -⟩ := setRamByte_laws b (addr + n) (byteOf data n)
      ((List.range n).foldl (fun s i => setRamByte b (addr + i) (byteOf data i) s) s)
    by_cases hx : x = addr + n
    · subst hx
      rw [same, if_pos (by omega), Nat.add_sub_cancel_left]
    · rw [others x hx, foldl_setRamByte b addr data n s x]
      by_cases hin : addr ≤ x ∧ x < addr + n
      · rw [if_pos hin, if_pos (by omega)]
      · rw [if_neg hin, if_neg (by omega)]

/-- A write to a sound word, or to a whole one, is made: its bytes, and no other (R322). -/
theorem ramWrite_bytes {b : Bool} {addr size : Nat} {data : Word} {s : State} (h : ramUe s b addr = false) :
    (ramWrite b addr size data s).1 = false ∧
    ∀ x, ramByte (ramWrite b addr size data s).2 b x =
      if addr ≤ x ∧ x < addr + size then byteOf data (x - addr) else ramByte s b x := by
  unfold ramWrite
  extract_lets base s1 s2 j
  rw [if_neg (by simp [h])]
  refine ⟨rfl, fun x => ?_⟩
  have told : s1.hive = s.hive := by simp only [s1]; split <;> simp
  have injected : j.1.hive = s2.hive := injectUse_hive _ s2
  rw [ramByte_ramMark, ramByte_congr (congrArg Core.tcm (coreOf_congr injected b)) (congrArg HiveB.sram injected),
    foldl_setRamByte, ramByte_congr (congrArg Core.tcm (coreOf_congr told b)) (congrArg HiveB.sram told)]

/-- The Hive's RAM: the core's TCM and the shared SRAM (Table: Core address map). -/
theorem ramAddr_plain {a : Nat} (h : a < 0x10000 ∨ (0x10000000 ≤ a ∧ a < 0x10080000)) :
    fwReg a = false ∧ ¬ (0x20001000 ≤ a ∧ a < 0x20001100) ∧ ¬ (0x20000000 ≤ a ∧ a < 0x20000100) ∧ ¬ 0x40000000 ≤ a := by
  refine ⟨?_, by omega, by omega, by omega⟩
  simp only [fwReg, Bool.and_eq_false_iff, decide_eq_false_iff_not]
  omega

/-- A store to sound RAM is performed byte for byte. -/
theorem performStore_ram {b : Bool} {w : BufStore} {s : State} (h : w.addr.toNat < 0x10000 ∨ (0x10000000 ≤ w.addr.toNat ∧ w.addr.toNat < 0x10080000))
    (hue : ramUe s b w.addr.toNat = false) : performStore b w s = some (ramWrite b w.addr.toNat w.size w.data s).2 := by
  obtain ⟨fw, win, -⟩ := ramAddr_plain h
  obtain ⟨made, -⟩ := ramWrite_bytes (size := w.size) (data := w.data) hue
  unfold performStore
  extract_lets a
  rw [if_neg (by simp [a, fw]), if_neg win]
  split
  next heq => rw [heq] at made; cases made
  next heq => rw [heq]

theorem ramUe_setCore_buf (b : Bool) (ws : List BufStore) (s : State) (a : Nat) :
    ramUe (setCore b { coreOf s b with buf := ws } s) b a = ramUe s b a := by
  cases b <;> rfl

theorem ramByte_stepped {b v : Bool} {c : Core} {s : State} (h : c.tcm = (coreOf s b).tcm) (x : Nat) :
    ramByte (setCore b { coreOf (setCore b c s) b with stepping := v } (setCore b c s)) b x = ramByte s b x :=
  (ramByte_setCore (c := { coreOf (setCore b c s) b with stepping := v }) rfl x).trans (ramByte_setCore h x)

/-- Two changes of a core leave the other core, the shared RAM and everything outside the Hive. -/
theorem coreOnly_frame (b : Bool) (c : Core) (v : Bool) (s : State) (h : c.tcm = (coreOf s b).tcm) :
    let t := setCore b { coreOf (setCore b c s) b with stepping := v } (setCore b c s)
    (coreOf t b).tcm = (coreOf s b).tcm ∧ coreOf t (!b) = coreOf s (!b) ∧ t = { s with hive := t.hive } ∧ t.hive.sram = s.hive.sram := by
  refine ⟨by simp [h], by cases b <;> rfl, by cases b <;> rfl, by simp⟩

/-! Stores and loads commit (R312, R315). -/

section
variable {b : Bool} {addr : Word} {size : Nat} {s : State} (hruns : coreRuns s b = true) (hasync : (coreOf s b).asyncFault = false)

theorem takeAsync_quiet (h : (coreOf s b).asyncFault = false) : takeAsync b s = s := by
  simp [takeAsync, h]

include hruns hasync

theorem commitStore_ram {data : Word} (hsound : accessBad s b addr.toNat size true = false)
    (h : addr.toNat < 0x10000 ∨ (0x10000000 ≤ addr.toNat ∧ addr.toNat < 0x10080000)) : commitStore b addr size data s =
    if (coreOf s b).buf.length < 4 then
      .next (setCore b { coreOf s b with buf := (coreOf s b).buf ++ [⟨addr, size, data⟩], stalled := false } s)
    else .next (setStalled b true s) := by
  obtain ⟨-, -, win, -⟩ := ramAddr_plain h
  unfold commitStore
  dsimp only
  rw [if_neg (by simp [hruns]), if_neg (by simp [hsound]), if_neg win, takeAsync_quiet hasync]

/-- A load that overlaps a buffered store takes its bytes, when it has them all, and else waits. -/
theorem doLoad_buffered {w : BufStore} (hsound : accessBad s b addr.toNat size false = false) (hwin : ¬ (0x20000000 ≤ addr.toNat ∧ addr.toNat < 0x20000100))
    (hy : youngest (coreOf s b).buf addr.toNat size = some w) : doLoad b addr size s =
    if w.addr.toNat ≤ addr.toNat ∧ addr.toNat + size ≤ w.addr.toNat + w.size then
      .next (setCore b { coreOf s b with lastLoad := forwarded w addr.toNat size, stalled := false } s)
    else .next (setStalled b true s) := by
  unfold doLoad
  dsimp only
  rw [if_neg (by simp [hruns]), if_neg (by simp [hsound]), if_neg hwin, takeAsync_quiet hasync, hy]

theorem doLoad_ram {v : Word} {u : State} (hsound : accessBad s b addr.toNat size false = false)
    (h : addr.toNat < 0x10000 ∨ (0x10000000 ≤ addr.toNat ∧ addr.toNat < 0x10080000))
    (hy : youngest (coreOf s b).buf addr.toNat size = none) (hread : ramRead b addr.toNat size s = (some v, u)) :
    doLoad b addr size s = .next (setCore b { coreOf u b with lastLoad := v, stalled := false } u) := by
  obtain ⟨fw, arrWin, win, arr⟩ := ramAddr_plain h
  unfold doLoad
  dsimp only
  rw [if_neg (by simp [hruns]), if_neg (by simp [hsound]), if_neg win, takeAsync_quiet hasync, hy]
  dsimp only
  rw [if_neg (by simp [fw]), if_neg arrWin, if_neg arr, hread]

end

/-- A read of sound RAM gives its bytes and leaves them, and the buffer (R321). -/
theorem ramRead_sound {b : Bool} {addr size : Nat} {s : State} (h : ramUe s b addr = false) :
    ∃ u, ramRead b addr size s = (some (ramWord s b addr size), u) ∧ (∀ x, ramByte u b x = ramByte s b x) ∧
      (coreOf u b).buf = (coreOf s b).buf ∧ u.arr = s.arr := by
  unfold ramRead
  extract_lets base
  rw [if_neg (by simp [h])]
  split
  · have told : (tally 0x12 1 base (ramMark b addr 0 s)).hive = (ramMark b addr 0 s).hive := by simp
    have core := coreOf_congr told b
    refine ⟨_, rfl, fun x => ?_, by rw [core, ramMark_buf], by simp⟩
    exact (ramByte_congr (congrArg Core.tcm core) (congrArg HiveB.sram told) x).trans (ramByte_ramMark b addr 0 s x)
  · exact ⟨s, rfl, fun _ => rfl, rfl, rfl⟩

/-! Bus faults (R312, R319, R327). -/

theorem coreAccess_bad {b : Bool} {addr : Word} {size : Nat} {s x : State} (hruns : coreRuns s b = true)
    (hdrain : drainAll b (setStalled b false s) = some x) :
    (∀ data, accessBad s b addr.toNat size true = true → commitStore b addr size data s = .next (excEntry b addr x)) ∧
    (accessBad s b addr.toNat size false = true → doLoad b addr size s = .next (excEntry b addr x)) := by
  refine ⟨fun data hbad => ?_, fun hbad => ?_⟩
  · unfold commitStore
    extract_lets a
    rw [if_neg (by simp [hruns]), if_pos hbad, preciseFault_of_drained addr hdrain]
  · unfold doLoad
    extract_lets a
    rw [if_neg (by simp [hruns]), if_pos hbad, preciseFault_of_drained addr hdrain]

/-- What a precise fault outside the extension leaves: an empty buffer, the handler, and the message. -/
theorem fault_ends {b : Bool} {addr : Word} {f : State → Out} {s x : State} (hruns : coreRuns s b = true)
    (hdrain : drainAll b (setStalled b false s) = some x) (hext : (b && extOn x) = false) (hf : f s = .next (excEntry b addr x)) :
    ∃ t, oneInsn b f s = .next t ∧ (coreOf t b).buf = [] ∧
      (coreOf t b).handler = true ∧ (srcOf t (coreSrc b)).lastKind = 1 ∧ (srcOf t (coreSrc b)).lastAddr = addr := by
  obtain ⟨v, step⟩ := oneInsn_next hf
  have hp : powered x = true := by
    rw [drainAll_powered hdrain]
    simpa [powered, setStalled] using coreRuns_powered hruns
  obtain ⟨empty, -⟩ := drainAll_leaves hdrain
  obtain ⟨handler, buf, kind, at'⟩ := excEntry_handler addr hp hext
  refine ⟨_, step, ?_⟩
  rw [coreOf_setCore, srcOf_setCore]
  exact ⟨buf.trans empty, handler, kind, at'⟩

/-! FENCE (R315). -/

theorem takeAsync_buf (b : Bool) (s : State) : (coreOf (takeAsync b s) b).buf = (coreOf s b).buf := by
  unfold takeAsync
  split
  · extract_lets _ s1
    have quiet : (coreOf s1 b).buf = (coreOf s b).buf := by rw [coreOf_setCore]
    split
    next hext =>
      obtain ⟨rfl, -⟩ : b = true ∧ extOn s1 = true := by simpa using hext
      exact (extStop_hive 0 s1).2.2.1.trans quiet
    next => rw [coreOf_setCore]; exact quiet
  · rfl

theorem windowInsn_of_refused {b : Bool} {s : State} (f : State → State) (hruns : coreRuns s b = true)
    (hdrain : drainAll b (takeAsync b s) = none) : windowInsn b f s = .refused .firmwareRegister := by
  refine oneInsn_refused (f := fun s => if coreRuns s b then drainedInsn b f s else .next s) ?_
  beta_reduce
  rw [if_pos hruns, drainedInsn, hdrain]
  rfl

theorem windowInsn_next {b : Bool} {s x : State} (f : State → State) (hruns : coreRuns s b = true)
    (hdrain : drainAll b (takeAsync b s) = some x) :
    ∃ v, windowInsn b f s = .next (setCore b { coreOf (f x) b with stalled := false, stepping := v } (f x)) := by
  have drained : (if coreRuns s b then drainedInsn b f s else .next s) = .next (setStalled b false (f x)) := by
    rw [if_pos hruns, drainedInsn, hdrain]
    rfl
  obtain ⟨v, step⟩ := oneInsn_next (f := fun s => if coreRuns s b then drainedInsn b f s else .next s) drained
  refine ⟨v, step.trans ?_⟩
  cases b <;> rfl

/-- Settles O51: each access by the lemma for its case, the drain by its buffer. -/
theorem coreStores : Obligations.CoreStores := by
  refine ⟨fun b addr data size s => ?_, fun b w ws s => ?_, fun b s hbuf => ?_, fun b addr size s => ?_,
    fun b addr data size s x hruns hdrain hext => ⟨fun hbad => ?_, fun hbad => ?_⟩, drainAll_none_iff, fun b s hruns hfw => ?_,
    fun b s hruns hfw => ?_⟩
  · intro a hruns hasync hsound hram
    by_cases hroom : (coreOf s b).buf.length < 4
    · obtain ⟨v, step⟩ := oneInsn_next ((commitStore_ram hruns hasync hsound hram).trans (if_pos hroom))
      refine ⟨_, step, fun _ => by simp, fun hfull => by omega, ?_⟩
      exact coreOnly_frame b _ v s rfl
    · obtain ⟨v, step⟩ := oneInsn_next ((commitStore_ram hruns hasync hsound hram).trans (if_neg hroom))
      refine ⟨_, step, fun h => absurd h hroom, fun _ => by simp [setStalled], ?_⟩
      exact coreOnly_frame b _ v s rfl
  · intro a hp hbuf hram hue
    obtain ⟨-, bytes⟩ := ramWrite_bytes (size := w.size) (data := w.data) (s := setCore b { coreOf s b with buf := ws } s)
      ((ramUe_setCore_buf b ws s a).trans hue)
    have before : ∀ x, ramByte (setCore b { coreOf s b with buf := ws } s) b x = ramByte s b x :=
      ramByte_setCore (c := { coreOf s b with buf := ws }) rfl
    refine ⟨(ramWrite b a w.size w.data (setCore b { coreOf s b with buf := ws } s)).2, ?_, ?_, fun i hi _ _ => ?_, fun x hx => ?_,
      by simp, by simp, by simp⟩
    · rw [exec_storePerformed, if_pos hp, performHead_store hbuf, performStore_ram hram ((ramUe_setCore_buf b ws s a).trans hue)]
      rfl
    · rw [ramWrite_buf, coreOf_setCore]
    · rw [bytes, if_pos (by omega), Nat.add_sub_cancel_left]
    · rw [bytes, if_neg (by omega), before]
  · rw [exec_storePerformed, performHead, hbuf]
    split <;> rfl
  · intro a hruns hasync hsound hram hue
    obtain ⟨-, -, win, -⟩ := ramAddr_plain hram
    cases hy : youngest (coreOf s b).buf a size with
    | none =>
      obtain ⟨u, read, bytes, buf, arr⟩ := ramRead_sound (size := size) hue
      obtain ⟨v, step⟩ := oneInsn_next (doLoad_ram hruns hasync hsound hram hy read)
      exact ⟨_, step, fun _ => by simp, nofun, fun x => (ramByte_stepped (by rfl) x).trans (bytes x), by simpa using buf,
        by simpa using arr⟩
    | some w =>
      have loads := doLoad_buffered hruns hasync hsound win hy
      by_cases hcover : w.addr.toNat ≤ a ∧ a + size ≤ w.addr.toNat + w.size
      · obtain ⟨v, step⟩ := oneInsn_next (loads.trans (if_pos hcover))
        refine ⟨_, step, nofun, fun w' hw' => ?_, fun x => ?_, by simp, by simp⟩
        · obtain rfl := Option.some.inj hw'
          rw [if_pos hcover]
          simp [a]
        · exact ramByte_stepped (by rfl) x
      · obtain ⟨v, step⟩ := oneInsn_next (loads.trans (if_neg hcover))
        refine ⟨_, step, nofun, fun w' hw' => ?_, fun x => ?_, by simp [setStalled], by simp [setStalled]⟩
        · obtain rfl := Option.some.inj hw'
          rw [if_neg hcover]
          simp [setStalled]
        · exact ramByte_stepped (by rfl) x
  · exact fault_ends hruns hdrain hext ((coreAccess_bad hruns hdrain).1 data hbad)
  · exact fault_ends hruns hdrain hext ((coreAccess_bad hruns hdrain).2 hbad)
  · obtain ⟨x, drained, empty, ⟨mem, -⟩, -⟩ := drain_some (b := b) _ (takeAsync b s) rfl (by rw [takeAsync_buf]; exact hfw)
    obtain ⟨v, step⟩ := windowInsn_next (fun x => x) hruns drained
    refine ⟨_, step, ?_, ?_⟩
    · rw [coreOf_setCore]
      exact empty
    · simpa using mem
  · rw [exec_coreFence]
    exact windowInsn_of_refused _ hruns ((drainAll_none_iff b _).2 (by rwa [takeAsync_buf]))

end Sys2Proof.Machine
end

section
/-! PROOFS. A core's other commands: exceptions, the window, the watchdog, the extension (14_hive_cores_memory.md, R314, R319, R320,
R327, R328; 04, R95). -/

namespace Sys2Proof.Machine

theorem exec_coreInterrupt (b : Bool) (s : State) : exec (.coreInterrupt b) s =
    if coreRuns s b then
      let s1 := takeAsync b s
      .next (setCore b { coreOf s1 b with interrupt := true } s1)
    else .next s := rfl
theorem exec_watchdogExpiry (b : Bool) (s : State) : exec (.watchdogExpiry b) s = .next (watchdogReset b s) := rfl
theorem exec_coreRestart (b : Bool) (s : State) : exec (.coreRestart b) s = .next (coreRestart b s) := rfl
theorem exec_extensionActivation (k : ActKind) (s : State) : exec (.extensionActivation k) s = .next (extActivate k s) := rfl
theorem exec_extensionSliceExpiry (s : State) : exec .extensionSliceExpiry s = .next (extSlice s) := rfl

/-! The window's words (R95, R314). -/

/-- A window instruction of a running core ends in the machine that its function leaves, the core's own flags apart. -/
theorem windowInsn_ends {b : Bool} {s x : State} (f : State → State) (hruns : coreRuns s b = true) (hdrain : drainAll b (takeAsync b s) = some x) :
    ∃ t, windowInsn b f s = .next t ∧ t.host = (f x).host ∧ t.arr = (f x).arr ∧ t.adm = (f x).adm ∧
      (coreOf t b).lastLoad = (coreOf (f x) b).lastLoad ∧ (coreOf t b).wdog = (coreOf (f x) b).wdog := by
  obtain ⟨v, step⟩ := windowInsn_next f hruns hdrain
  exact ⟨_, step, by simp⟩

/-- A window instruction of a core that does not run, idles. -/
theorem windowInsn_idle {b : Bool} {s : State} (f : State → State) (h : coreRuns s b = false) : windowInsn b f s = .next s := by
  unfold windowInsn
  exact oneInsn_idle (by simp [h]) (.inl h)

theorem takeH2c_takes {b : Bool} {s : State} (hue : s.hive.winUe.contains 0 = false) : (takeH2c b s).host.h2cFull = false ∧
    (coreOf (takeH2c b s) b).lastLoad = (if s.host.h2cFull then s.host.h2c else 0) ∧
    (takeH2c b s).host.taken = (if s.host.h2cFull then some s.host.h2c else s.host.taken) := by
  rw [takeH2c, if_neg (by rw [hue]; exact Bool.false_ne_true)]
  refine ⟨rfl, ?_, ?_⟩
  · refine (congrArg Core.lastLoad ((coreOf_congr (s := setCore b _ _) rfl b).trans (coreOf_setCore b _ _))).trans ?_
    split <;> simp
  · cases s.host.h2cFull <;> split <;> simp

theorem and_fmask_word (data : Word) : data &&& fmask 0 (8 * 4) = data := by
  have whole : fmask 0 (8 * 4) = BitVec.allOnes 32 := by decide
  rw [whole, BitVec.and_allOnes]

theorem storeWindow_dbH2c (b : Bool) (data : Word) (s : State) :
    storeWindow b 0x08 4 data s = clearDbH2c (if b && extOn s then data &&& 0xFFFF0000 else data) s := by
  simp only [storeWindow, and_fmask_word]
  simp

theorem storeWindow_dbC2h (b : Bool) (data : Word) (s : State) :
    storeWindow b 0x0C 4 data s = ringC2h (if b && extOn s then data &&& 0xFFFF0000 else data) s := by
  simp only [storeWindow, and_fmask_word]
  simp

theorem ringC2h_dbC2h (bits : Word) (s : State) : (ringC2h bits s).host.dbC2h = s.host.dbC2h ||| (bits &&& 0xFFFF0003) := by
  unfold ringC2h
  extract_lets m
  split
  next h => rw [show bits &&& 0xFFFF0003 = 0 from h]; simp
  next =>
    obtain ⟨-, host, -⟩ := setInt_reports 10 { s with host := { s.host with dbC2h := s.host.dbC2h ||| m } }
    rw [host]

theorem kickWdog_kicks (b : Bool) (s : State) : kickWdog b 0xC0DE s = setCore b { coreOf s b with wdog := 0 } s := if_pos rfl

/-! The extension's stop (R328). -/

/-- A report leaves the message taken and the doorbells. -/
theorem tally_keepsWindow (src kind : Nat) (addr : Word) (s : State) :
    (tally src kind addr s).host.takenB = s.host.takenB ∧ (tally src kind addr s).host.dbC2h = s.host.dbC2h := by
  obtain ⟨-, host, -⟩ := tally_reports src kind addr s
  rw [host]
  exact ⟨rfl, rfl⟩

theorem ringC2h_takenB (bits : Word) (s : State) : (ringC2h bits s).host.takenB = s.host.takenB := by
  unfold ringC2h
  extract_lets m
  split
  · rfl
  · obtain ⟨-, host, -⟩ := setInt_reports 10 { s with host := { s.host with dbC2h := s.host.dbC2h ||| m } }
    rw [host]

theorem extStop_doorbell (addr : Word) (s : State) :
    (extStop addr s).host.dbC2h = s.host.dbC2h ||| 2 ∧ (extStop addr s).host.takenB = s.host.takenB := by
  unfold extStop
  extract_lets t c c1 h out _ s1
  obtain ⟨taker, bell⟩ := tally_keepsWindow 0x13 2 addr (ringC2h 2 (dropWork (fun w => decide (w = .extension)) s1))
  rw [taker, bell]
  exact ⟨by rw [ringC2h_dbC2h]; simp [s1], by rw [ringC2h_takenB]; simp [s1]⟩

theorem extStop_message (addr : Word) {s : State} (hp : powered s = true) : (srcOf (extStop addr s) 0x13).lastKind = 2 := by
  unfold extStop
  extract_lets t c c1 h out _ s1
  exact (tally_latest 2 addr (by simpa [powered, s1] using hp) (by decide)).1

theorem extActivate_of_asked {k : ActKind} {s : State} (hserves : fwServes s = true) (hready : extReady s = true) (hruns : coreRuns s true = true)
    (hmail : k = .mailbox → ∃ w, mboxMsg s = some w ∧ 0x80 ≤ mCmd w) (hbell : k = .doorbell → fld s.host.dbH2c 16 16 ≠ 0) :
    extActivate k s = { s with hive := { s.hive with extSince := some 0 } } := by
  refine if_pos ?_
  rw [hserves, hready, hruns]
  cases k with
  | mailbox =>
    obtain ⟨w, msg, cmd⟩ := hmail rfl
    simpa [msg, mCmd] using cmd
  | doorbell => simpa using hbell rfl
  | periodic => rfl

theorem extActivate_of_unready {k : ActKind} {s : State} (h : extReady s = false) : extActivate k s = s := if_neg (by simp [h])

/-! Exceptions, the watchdog and the restart (R319, R320). -/

theorem excEntry_extension {b : Bool} (addr : Word) {x : State} (h : (b && extOn x) = true) : excEntry b addr x = extStop addr x := if_pos h

theorem watchdogReset_of_idle {b : Bool} {s : State}
    (h : powered s = false ∨ quiesced s = true ∨ (coreOf s b).inReset = true ∨ (coreOf s b).wdog < 65536) : watchdogReset b s = s := by
  refine if_neg ?_
  simp only [Bool.and_eq_true, Bool.not_eq_true', decide_eq_true_eq]
  rintro ⟨⟨⟨hp, hq⟩, hreset⟩, hfull⟩
  rcases h with h | h | h | h
  · rw [h] at hp; cases hp
  · rw [h] at hq; cases hq
  · rw [h] at hreset; cases hreset
  · omega

theorem watchdogReset_resets {b : Bool} {s : State} (hp : powered s = true) (hq : quiesced s = false) (hreset : (coreOf s b).inReset = false)
    (hfull : 65536 ≤ (coreOf s b).wdog) : coreOf (watchdogReset b s) b = { inReset := true, clearing := true } ∧
    (s.host.takenB = b → (watchdogReset b s).host.taken = none) := by
  unfold watchdogReset
  rw [if_pos (by simp [hp, hq, hreset, hfull])]
  extract_lets c s1 s2 s3 _ s4 _ s5
  have taker : s4.host.takenB = s.host.takenB := by
    have dropped : s1.host.takenB = s.host.takenB := foldl_proj _ (fun s => s.host.takenB) (fun s w => (tally_keepsWindow _ _ _ s).1) _ _
    have told : s2.host.takenB = s1.host.takenB := (tally_keepsWindow _ _ _ s1).1
    have stopped : s3.host.takenB = s2.host.takenB := by
      simp only [s3]
      split
      · exact (extStop_doorbell 0 s2).2
      · rfl
    have ended : s4.host.takenB = s3.host.takenB := by
      simp only [s4]
      split <;> simp
    rw [ended, stopped, told, dropped]
  refine ⟨?_, fun htaken => ?_⟩
  · rw [coreOf_congr (s := setCore b { inReset := true, clearing := true } s5) (by simp), coreOf_setCore]
  · have lost : s5 = { s4 with host := { s4.host with taken := none } } := if_pos (by rw [taker, htaken])
    rw [(arrWatchdog_blocks b _).2.2.2.1, setCore_host, lost]

/-- Settles O52: each command by what its lemma says it leaves, the window's words by what the drained instruction ends in. -/
theorem coreEvents : Obligations.CoreEvents := by
  refine ⟨fun b s x hruns hdrain => ?_, fun b cause addr s x hruns hdrain => ?_, fun b s hruns => ?_, fun b s data cause c hruns hc => ?_,
    fun b s h => ?_, fun b s hp hq hreset hfull => ?_, fun b s hp hclear hframes hhalt => ?_, fun b s hclear => ?_,
    fun k s hserves hready hruns hmail hbell => ?_, fun k s hready => ?_, fun n s hsince hp hn => ?_, fun s hsince => ?_⟩
  · intro e
    refine ⟨?_, fun data => ?_, fun data => ?_, fun data => ?_, ?_⟩
    · obtain ⟨t, step, host, -, -, load, -⟩ := windowInsn_ends (fun x => takeH2c b (extReturn b x)) hruns hdrain
      refine ⟨t, step, fun hue => ?_⟩
      obtain ⟨full, took, taken⟩ := takeH2c_takes (b := b) (s := extReturn b x) (by rw [extReturn_winUe]; exact hue)
      have same : (extReturn b x).host = x.host := by simp
      rw [same] at took taken
      rw [host, load]
      exact ⟨full, took, taken⟩
    · obtain ⟨t, step, host, arr, adm, -⟩ := windowInsn_ends (fun x => postC2h data (extReturn b x)) hruns hdrain
      have hp : powered (extReturn b x) = true := by simpa [powered] using drained_powered hruns hdrain
      obtain ⟨word, full, mbox, -⟩ := postC2h_host data hp
      refine ⟨t, step, ?_⟩
      rw [host, arr, adm]
      exact ⟨word, full, mbox, by simp⟩
    · obtain ⟨t, step, host, arr, -⟩ := windowInsn_ends (storeWindow b 0x08 4 data) hruns hdrain
      refine ⟨t, step, ?_⟩
      rw [host, arr, storeWindow_dbH2c]
      exact ⟨rfl, rfl⟩
    · obtain ⟨t, step, host, arr, -⟩ := windowInsn_ends (storeWindow b 0x0C 4 data) hruns hdrain
      refine ⟨t, step, ?_⟩
      rw [host, arr, storeWindow_dbC2h]
      exact ⟨ringC2h_dbC2h _ x, by simp⟩
    · obtain ⟨t, step, -, arr, -, -, wdog⟩ := windowInsn_ends (fun x => kickWdog b 0xC0DE (extReturn b x)) hruns hdrain
      refine ⟨t, step, ?_⟩
      rw [wdog, arr, kickWdog_kicks, coreOf_setCore]
      exact ⟨rfl, by simp⟩
  · have hp : powered x = true := (drainAll_powered hdrain).trans (coreRuns_powered hruns)
    obtain ⟨v, step⟩ := oneInsn_next (f := fun s => if coreRuns s b then preciseFault b addr s else .next s)
      ((if_pos hruns).trans (preciseFault_of_drained addr hdrain))
    refine ⟨_, step, by simp, fun hext => ?_, fun hext => ?_⟩
    · obtain ⟨handler, -, message⟩ := excEntry_handler addr hp hext
      rw [coreOf_setCore, srcOf_setCore]
      exact ⟨handler, message⟩
    · obtain ⟨stopped, since, -⟩ := extStop_hive addr x
      obtain ⟨stopped', since'⟩ := setCore_ext b { coreOf (excEntry b addr x) b with stepping := v } (excEntry b addr x)
      rw [stopped', since', srcOf_setCore, excEntry_extension addr hext]
      exact ⟨stopped, since, extStop_message addr hp⟩
  · exact ⟨_, (exec_coreInterrupt b s).trans (if_pos hruns), by simp⟩
  · have idle : ∀ f, windowInsn b f s = .next s := fun f => windowInsn_idle f hruns
    simp only [List.mem_cons, List.not_mem_nil, or_false] at hc
    rcases hc with rfl | rfl | rfl | rfl | rfl | rfl | rfl
    · exact idle _
    · exact idle _
    · exact idle _
    · exact idle _
    · exact idle _
    · exact oneInsn_idle (f := fun s => if coreRuns s b then preciseFault b data s else .next s) (if_neg (Bool.eq_false_iff.1 hruns))
        (.inl hruns)
    · exact (exec_coreInterrupt b s).trans (if_neg (by simp [hruns]))
  · rw [exec_watchdogExpiry, watchdogReset_of_idle h]
  · obtain ⟨core, taken⟩ := watchdogReset_resets hp hq hreset hfull
    refine ⟨_, exec_watchdogExpiry b s, ?_⟩
    rw [core]
    exact ⟨rfl, rfl, rfl, rfl, taken, by simp⟩
  · rw [exec_coreRestart, coreRestart, if_pos (by simp [hp, hclear, hframes, hhalt])]
  · rw [exec_coreRestart, coreRestart, if_neg (by simp [hclear])]
  · rw [exec_extensionActivation, extActivate_of_asked hserves hready hruns hmail hbell]
  · rw [exec_extensionActivation, extActivate_of_unready hready]
  · have hp' : powered (tally 0x13 3 0 s) = true := by simpa [powered] using hp
    obtain ⟨stopped, since, -⟩ := extStop_hive 0 (tally 0x13 3 0 s)
    obtain ⟨bell, -⟩ := extStop_doorbell 0 (tally 0x13 3 0 s)
    refine ⟨extStop 0 (tally 0x13 3 0 s), ?_, stopped, since, bell.trans (congrArg (· ||| 2) (tally_keepsWindow 0x13 3 0 s).2), extStop_message 0 hp', by simp [onlyReports]⟩
    rw [exec_extensionSliceExpiry, extSlice, hsince]
    exact congrArg _ (if_pos hn)
  · rw [exec_extensionSliceExpiry, extSlice, hsince]

end Sys2Proof.Machine
end

section
/-! PROOFS. Orfort's commands (17_orfort_monitor.md, R374 to R380). -/

namespace Sys2Proof.Machine

section
variable (s : State)
theorem exec_orfortHe : exec .orfortHe s = .next (orfRun [0x68, 0x65] List.isEmpty grantsP (fun s => orfEnd 0 (grantedNow s) s) s) := rfl
theorem exec_orfortSt : exec .orfortSt s = .next (orfRun [0x73, 0x74] List.isEmpty grantsP orfSt s) := rfl
theorem exec_orfortRd (off n : Nat) : exec (.orfortRd off n) s = .next (orfRun [0x72, 0x64] (argsRd off n) grantsO (orfRd off n) s) := rfl
theorem exec_orfortWr (off : Nat) (val : Word) :
    exec (.orfortWr off val) s = .next (orfRun [0x77, 0x72] (numsAre [off, val.toNat]) grantsS (orfWr off val) s) := rfl
theorem exec_orfortTb (tid idx : Nat) :
    exec (.orfortTb tid idx) s = .next (orfRun [0x74, 0x62] (numsAre [tid, idx]) grantsO (orfTb tid idx) s) := rfl
theorem exec_orfortTl (tid idx : Nat) (ws : List Word) : exec (.orfortTl tid idx ws) s = .next (orfRun [0x74, 0x6C]
    (numsAre ([Int.ofNat tid, Int.ofNat idx] ++ ws.map fun w => Int.ofNat w.toNat)) grantsS (orfTl tid idx ws) s) := rfl
theorem exec_orfortAr (off n : Nat) : exec (.orfortAr off n) s = .next (orfRun [0x61, 0x72] (argsRd off n) grantsO (orfAr off n) s) := rfl
theorem exec_orfortCb (slot : Option Nat) : exec (.orfortCb slot) s = .next (orfRun [0x63, 0x62] (argsCb slot) grantsO (orfCb slot) s) := rfl
theorem exec_orfortLg (seq : Option Nat) (n : Nat) :
    exec (.orfortLg seq n) s = .next (orfRun [0x6C, 0x67] (argsLg seq n) grantsO (orfLg seq n) s) := rfl
theorem exec_orfortUlRequest (level : Nat) : exec (.orfortUlRequest level) s =
    .next (orfRun [0x75, 0x6C] (fun a => level != 0 && numsAre [level] a) grantsP (orfUlRequest level) s) := rfl
theorem exec_orfortUlResponse (data : Word) :
    exec (.orfortUlResponse data) s = .next (orfRun [0x75, 0x6C] (argsUl data) grantsP (orfUlResponse data) s) := rfl
theorem exec_orfortUlRelock :
    exec .orfortUlRelock s = .next (orfRun [0x75, 0x6C] (numsAre [0]) grantsP (fun s => orfEnd 0 [] (relock 1 s)) s) := rfl
theorem exec_orfortOvSet (ch : Nat) (start ramp : Int) : exec (.orfortOvSet ch start ramp) s = .next (orfOv (argsOv ch start ramp)
    (fun s => if ovArgOk ch start ramp then orfEnd 0 [] (ovPut ch start ramp s) else orfEnd 3 [] s) s) := rfl
theorem exec_orfortOvClear (ch : Nat) : exec (.orfortOvClear ch) s =
    .next (orfOv (argsOvOff ch) (fun s => if ovChannel ch then orfEnd 0 [] (ovDrop ch s) else orfEnd 3 [] s) s) := rfl
theorem exec_orfortOvOff : exec .orfortOvOff s =
    .next (orfOv (· == [wOff]) (fun s => orfEnd 0 [] { s with scout := { s.scout with ovr := [] } }) s) := rfl
theorem exec_orfortOvList : exec .orfortOvList s = .next (orfRun [0x6F, 0x76] List.isEmpty grantsO (fun s =>
    orfEnd 0 (s.scout.ovr.flatMap fun p => [BitVec.ofNat 32 p.1, BitVec.ofInt 32 p.2.1, BitVec.ofInt 32 p.2.2]) s) s) := rfl
theorem exec_orfortTxDisarm : exec .orfortTxDisarm s = .next (orfRun [0x74, 0x78] (· == [wDisarm]) grantsX orfDisarm s) := rfl
theorem exec_orfortTxLaneout (lane frame : Nat) : exec (.orfortTxLaneout lane frame) s =
    .next (orfRun [0x74, 0x78] (argsLaneout lane frame) grantsX (orfLaneout lane frame) s) := rfl
theorem exec_orfortTxSpoil (bankB ovl : Bool) : exec (.orfortTxSpoil bankB ovl) s =
    .next (orfRun [0x74, 0x78] (· == [wSpoil, wBank bankB, wImage ovl]) grantsX (orfSpoil bankB ovl) s) := rfl
end

/-! A line that calls another command, or none (R374). -/

theorem orfRun_uncalled {name : List Nat} {p : List (List Nat) → Bool} {granted : State → Bool} {f : State → State} {s : State}
    (h : calls s name p = false) : orfRun name p granted f s = s := if_neg (Bool.eq_false_iff.1 h)

theorem orfOv_uncalled {p : List (List Nat) → Bool} {f : State → State} {s : State} (h : calls s [0x6F, 0x76] p = false) : orfOv p f s = s :=
  if_pos (by simp [h])

theorem orfOv_granted {p : List (List Nat) → Bool} {f : State → State} {s : State} (hcalls : calls s [0x6F, 0x76] p = true)
    (hstate : s.top.state ≠ .harvest) (hgrants : grantsS s = true) : orfOv p f s = f s := by
  rw [orfOv, if_neg (by simp [hcalls]), if_neg hstate, if_pos hgrants]

theorem orfOv_harvest {p : List (List Nat) → Bool} {f : State → State} {s : State} (hcalls : calls s [0x6F, 0x76] p = true)
    (hstate : s.top.state = .harvest) : orfOv p f s = orfEnd 5 [] s := by
  rw [orfOv, if_neg (by simp [hcalls]), if_pos hstate]

/-! `wr 0x94` (R377). -/

theorem grantsS_notWake {s : State} (h : grantsS s = true) : s.top.state ≠ .wake := by
  simp only [grantsS, Bool.and_eq_true, bne_iff_ne, ne_eq] at h
  exact h.1.1.2

theorem refusedIn_arrayAddr (val : Word) (s : State) : refusedIn 0x94 (arrayAddrSet val (quiet 0x94 s)) = false := by
  simp [refusedIn, arrayAddrSet, quiet]

theorem orfWr_arrayAddr {val : Word} {s : State} (hgrants : grantsS s = true) (hrst : s.host.hrst = false) (hwindow : s.top.window = false) :
    orfWr 0x94 val s = freshen (orfEnd 0 [val] (arrayAddrSet val s)) := by
  have written := sideWrite_arrayAddr val hgrants hrst hwindow
  have hup : busUp (quiet 0x94 s) = true := busUp_of_grantsS (s := quiet 0x94 s) hgrants hrst
  have accepted : (sideWrite 0x94 val (applyReg 0x94 val allBe) s).2 = false := by
    simp only [sideWrite, gate_arrayAddr val _ hup hwindow (grantsS_notWake (s := quiet 0x94 s) hgrants), applyReg_arrayAddr]
    exact refusedIn_arrayAddr val s
  have inMap : ¬ (!regOff 0x94 || (decide (0x28 ≤ 0x94) && decide (0x94 ≤ 0x38))) = true := by decide
  rw [orfWr, if_neg inMap]
  dsimp only
  rw [if_neg (by simp [accepted]), written]
  rfl

/-! `tb` (R376). -/

theorem orfTb_of_sound {tid idx : Nat} {s : State} (hcode : tblCode s tid idx = 0) (htid : tid ∉ [9, 12, 13])
    (hsound : ∀ w, storeKey s tid idx w ∉ s.conf.tblUe ∧ storeKey s tid idx w ∉ s.conf.tblCe) :
    orfTb tid idx s = orfEnd 0 (tblEntry s s.fr.orfHi tid idx) s := by
  simp only [List.mem_cons, List.not_mem_nil, or_false, not_or] at htid
  obtain ⟨h9, h12, h13⟩ := htid
  have own : ownEntry tid idx s = (some (tblEntry s s.fr.orfHi tid idx), s) := by
    rw [ownEntry, if_neg (fun h => h9 h.1)]
    exact entryFetch_of_sound h12 h13 hsound
  rw [orfTb, if_neg (fun h => h13 h.1), if_neg (by simp [hcode]), own]

/-! `tl 10 16 v`: a word of DDRMR (R41, R92, R215). -/

theorem ready_of_words {s t : State} (h : ∀ i, i < 15 → cw t 10 i 0 = cw s 10 i 0) (hdram : t.dram = s.dram) : ready t = ready s := by
  simp only [ready, mrErr, trainHost, train2400, geomKey, speed3200, h2400, ret2400, geomW, cellsCfg, hdram, h 0 (by decide),
    h 1 (by decide), h 2 (by decide), h 3 (by decide), h 4 (by decide), h 5 (by decide), h 7 (by decide), h 12 (by decide),
    h 13 (by decide), h 14 (by decide)]
  rfl

/-- DDRMR's index 16 as a commit leaves it. -/
def windowPut (val : Word) (s : State) : State :=
  putField false 16 (storeMark (storeKey s 10 16 0) s) (modeField 16, fld val 0 (modeField 16).width)

section
variable (val : Word) (s : State)

theorem windowPut_words : fld (cw (windowPut val s) 10 16 0) 0 21 = fld val 0 21 ∧
    ∀ k, k ≠ ckey 10 16 0 → Sparse.get resetWord (windowPut val s).conf.cur k = Sparse.get resetWord s.conf.cur k := by
  obtain ⟨cur, -⟩ := storeMark_kept (storeKey s 10 16 0) s
  refine ⟨?_, fun k hk => ?_⟩
  · have word := putField_cw (d := modeField 16) (idx := 16) (v := fld val 0 (modeField 16).width) (storeMark (storeKey s 10 16 0) s)
      (by decide)
    have lo : (modeField 16).tid = 10 ∧ (modeField 16).word = 0 := ⟨rfl, rfl⟩
    rw [lo.1, lo.2] at word
    rw [windowPut, word, fld_zero (putBits _ _) 21, fld_zero val 21, putBits_truncate val _ rfl (by decide) (by decide)]
  · rw [windowPut, putField_others (d := modeField 16) _ hk, cur]

theorem windowPut_ready : ready (windowPut val s) = ready s := by
  refine ready_of_words (fun i hi => ?_) (by simp [windowPut])
  exact (windowPut_words val s).2 _ (by simp only [ckey]; omega)

/-- The commit of index 16 while DRAM is idle: no refusal, and no message where READY does not fall. -/
theorem commitEntry_window (hidle : ddrBusy s = false) (hready : s.dram.readyWas = true → ready s = true) :
    commitEntry 10 16 [(val, allBe)] s = { windowPut val s with dram := { s.dram with readyWas := ready s } } := by
  have dram : (windowPut val s).dram = s.dram := by simp [windowPut]
  have quiet : (windowPut val s).dram.readyWas = false ∨ ready (windowPut val s) = true := by
    rw [dram, windowPut_ready]
    cases h : s.dram.readyWas with
    | false => exact .inl rfl
    | true => exact .inr (hready h)
  rw [commitEntry_mode (by decide), if_neg (by simp [hidle])]
  exact (readyCheck_of_quiet quiet).trans (by rw [windowPut_ready, dram])

theorem gate_tblData {val : Word} {s : State} (f : State → State) (hup : busUp s = true) (hwindow : s.top.window = false)
    (hwake : s.top.state ≠ .wake) : gate ⟨0x2C, val, allBe⟩ f s = f s := by
  have whole : allBe ≠ 0#4 := by decide
  have word : wordAtomic 0x2C = false := by decide
  simp [gate, hup, hwindow, hwake, whole, word]

theorem entryWrite_window : entryWrite 10 16 [val] s = sideWrite 0x2C 0 (commitEntry 10 16 [(val, allBe)]) s := by
  simp [entryWrite, roTable, roWord, List.zipIdx_cons]

end

/-- A write that finds no error and keeps the marks of refusals is not refused, and leaves the earlier marks. -/
theorem sideWrite_tblData {val : Word} {f : State → State} {s : State} (hgrants : grantsS s = true) (hrst : s.host.hrst = false)
    (hwindow : s.top.window = false) (htop : (f (quiet 0x2C s)).top = (quiet 0x2C s).top) :
    sideWrite 0x2C val f s = (unquiet 0x2C val s (f (quiet 0x2C s)), false) ∧ (unquiet 0x2C val s (f (quiet 0x2C s))).top = s.top := by
  have hup : busUp (quiet 0x2C s) = true := busUp_of_grantsS (s := quiet 0x2C s) hgrants hrst
  rw [sideWrite, gate_tblData f hup hwindow (grantsS_notWake (s := quiet 0x2C s) hgrants)]
  generalize f (quiet 0x2C s) = r at htop
  refine ⟨Prod.ext rfl ?_, ?_⟩
  · simp [refusedIn, htop, quiet]
  · simp [unquiet, htop, quiet]

/-- `tl 10 16 v` while DRAM is idle. -/
theorem orfTl_window {val : Word} {s : State} (hgrants : grantsS s = true) (hrst : s.host.hrst = false) (hwindow : s.top.window = false)
    (hidle : ddrBusy s = false) (hready : s.dram.readyWas = true → ready s = true) : ∃ u, orfTl 10 16 [val] s = orfEnd 0 [] u ∧
      u.top = s.top ∧ u.conf = (windowPut val (quiet 0x2C s)).conf ∧ u.arr = s.arr ∧ u.adm = s.adm := by
  have committed := commitEntry_window val (quiet 0x2C s) hidle hready
  have top : (commitEntry 10 16 [(val, allBe)] (quiet 0x2C s)).top = (quiet 0x2C s).top := by
    rw [committed]
    simp [windowPut, storeMark, injectUse]
  obtain ⟨write, marks⟩ := sideWrite_tblData (val := 0) hgrants hrst hwindow top
  refine ⟨_, ?_, marks, ?_, ?_, ?_⟩
  · have named : ¬ (tblCode s 10 16 ≠ 0 ∨ [val].length ≠ tblWords 10) := by simp [tblCode, tblWords, tblCount]
    rw [orfTl, if_neg named, entryWrite_window, write]
    rfl
  · rw [committed]
    rfl
  · rw [committed]
    simp [unquiet, windowPut, quiet]
  · rw [committed]
    simp [unquiet, windowPut, quiet]

/-! `ar` (R290, R298, R376). -/

/-- The two words that `ar` prints of an array word. -/
def arrShown (s : State) (off : Nat) : List Word := [(arrWord s (off / 8) >>> 32).truncate 32, (arrWord s (off / 8)).truncate 32]

/-- A bank that can be read gives its word. -/
theorem arrPrint_of_free {off : Nat} {s : State} (hfree : busyFor s off = 0) (halign : off % 8 = 0)
    (hret : s.arr.retired.contains (secOf off) = false) (hue : off / 8 ∉ s.arr.ueMarks) :
    ∃ u, arrPrint (off / 8) 1 s = (arrShown s off, true, u) ∧ u.arr = s.arr := by
  have at' : 8 * (off / 8) = off := by omega
  have read := readWord_fine (w := off / 8) (s := s) (by rwa [at']) hue
  refine ⟨(readWord (off / 8) s).2, ?_, readWord_arr _ s⟩
  have pair : readWord (off / 8) s = (some (arrWord s (off / 8)), (readWord (off / 8) s).2) := Prod.ext read rfl
  rw [arrPrint, at', if_neg (by simp [hfree]), pair]
  rfl


theorem busyFor_touchBank (off : Nat) (s : State) : busyFor (touchBank off s) off = busyFor s off := by
  rw [touchBank_suspOnly]
  rfl

/-- `ar` of one word that the region permits, on the machine in which an erase of the bank is suspended where it may be. -/
theorem orfAr_permitted {off : Nat} {s t : State} (halign : off % 8 = 0) (hoff : off < 0x400000)
    (ht : (if busyFor s off = 1 ∧ s.arr.autoMin = 0 ∧ regionForbids s .host 5 off = false then suspendRun 1 s else s) = t)
    (hpermits : regionForbids t .host 5 off = false) : orfAr off 1 s =
      if busyFor t off = 1 ∨ busyFor t off = 3 then t
      else orfEnd (if (arrPrint (off / 8) 1 (touchBank off t)).2.1 then 0 else 10) (arrPrint (off / 8) 1 (touchBank off t)).1
        (arrPrint (off / 8) 1 (touchBank off t)).2.2 := by
  have last : off + 8 * 1 - 8 = off := by omega
  unfold orfAr
  dsimp only
  rw [ht, if_neg (by omega), last, if_neg (by simp [hpermits])]

/-- Where the bank can be read, its word is printed. -/
theorem orfAr_of_free {off : Nat} {s t : State} (halign : off % 8 = 0) (hoff : off < 0x400000)
    (ht : (if busyFor s off = 1 ∧ s.arr.autoMin = 0 ∧ regionForbids s .host 5 off = false then suspendRun 1 s else s) = t)
    (hpermits : regionForbids t .host 5 off = false) (hfree : busyFor t off = 0) (hret : t.arr.retired.contains (secOf off) = false)
    (hue : off / 8 ∉ t.arr.ueMarks) : ∃ u, orfAr off 1 s = orfEnd 0 (arrShown t off) u ∧ u.arr = (touchBank off t).arr := by
  obtain ⟨mem, -⟩ := touchBank_sameStored off t
  have only := touchBank_suspOnly off t
  have shown : arrShown (touchBank off t) off = arrShown t off := by rw [only]; rfl
  obtain ⟨u, print, arr⟩ := arrPrint_of_free (s := touchBank off t) ((busyFor_touchBank off t).trans hfree) halign
    (by rw [only]; exact hret) (by rw [only]; exact hue)
  refine ⟨u, ?_, arr⟩
  rw [orfAr_permitted halign hoff ht hpermits, if_neg (by omega), print, shown]
  rfl

/-- The erase o stands suspended for a reader (R296). -/
def erasePaused (o : ArrOp) (s : State) : State := { s with arr := { s.arr with run := none, susp := some ⟨o, 1, 0, 0⟩ } }

theorem busyFor_erasing {o : ArrOp} {off : Nat} {s : State} (hrun : s.arr.run = some o) (h : busyFor s off = 1) :
    o.erase = true ∧ bankOf o.off = bankOf off ∧ busyFor (erasePaused o s) off = 0 := by
  unfold busyFor at h ⊢
  rw [hrun] at h
  split at h
  next => cases h
  next hufe =>
    dsimp only at h
    split at h
    next => cases h
    next hbank =>
      split at h
      next herase => exact ⟨herase, not_not.1 hbank, if_neg hufe⟩
      next => cases h

theorem suspendRun_pauses {o : ArrOp} {s : State} (hrun : s.arr.run = some o) (herase : o.erase = true) (hqueue : s.arr.queue = []) :
    suspendRun 1 s = erasePaused o s := by
  simp only [suspendRun, hrun, herase, if_true]
  exact startNext_of_empty hqueue

theorem touchBank_paused {o : ArrOp} {off : Nat} {s : State} (h : bankOf o.off = bankOf off) :
    touchBank off (erasePaused o s) = erasePaused o s := by
  rw [touchBank]
  exact if_pos h

/-! `lg`, `cb` and `ul` (R378). -/

theorem logFetch_arr (q : Nat) (s : State) : (logFetch q s).2.arr = s.arr := by
  have read : ∀ (p : Nat × Record) (y : Bool) (s : State), (logRead p y s).2.arr = s.arr := fun p y s => by
    unfold logRead
    extract_lets first
    have one := readWord_arr (logOff p.1 y first / 8) s
    split
    next h => rwa [h] at one
    next h =>
      rw [h] at one
      split
      · exact one
      · exact (readWord_arr _ _).trans one
  unfold logFetch
  split
  · extract_lets x y
    have both : y.2.arr = s.arr := (read _ true x.2).trans (read _ false s)
    split <;> exact both
  · rfl

theorem orfLg_one {q : Nat} {ws : List Word} {s : State} (hq : q < 16384) (hfetch : (logFetch q s).1 = some ws) :
    orfLg (some q) 1 s = orfEnd 0 ws (logFetch q s).2 := by
  have inRange : ¬ (1 < 1 ∨ 256 < 1 ∨ 16384 ≤ (some q).getD 0) := by simpa using hq
  have pair : logFetch q s = (some ws, (logFetch q s).2) := Prod.ext hfetch rfl
  rw [orfLg, if_neg inRange]
  simp only [Option.isSome_some, if_true, logPrint, Nat.mod_eq_of_lt hq]
  rw [pair]
  simp

theorem orfCb_length (es : List CatEntry) : (orfCb.show' es).length = 5 * es.length := by
  simp [orfCb.show', List.length_flatMap, Nat.mul_comm]

theorem orfUlRequest_asks {lvl : Nat} {s : State} (h3 : lvl ≤ 3) (hidle : s.sec.chal = none) : let t := orfUlRequest lvl s
    t.sec.reqLevel = lvl ∧ t.sec.channel = 1 ∧ t.sec.level = s.sec.level ∧
      (refuseUnlock s 1 lvl = 0 → t.sec.chal = some (Config.challenge s.free) ∧ ∃ u, t = orfEnd 0 [Config.challenge s.free] u) ∧
      (refuseUnlock s 1 lvl ≠ 0 → t.sec.chal = none ∧ ∃ u, t = orfEnd 8 [BitVec.ofNat 32 (refuseUnlock s 1 lvl)] u) := by
  intro t
  have asks : t = match (unlockAsk 1 lvl s).sec.chal with
      | some c => orfEnd 0 [c] (unlockAsk 1 lvl s)
      | none => orfEnd 8 [BitVec.ofNat 32 (unlockAsk 1 lvl s).sec.result] (unlockAsk 1 lvl s) := if_neg (by omega)
  have asked := unlockAsk_of_idle 1 lvl hidle
  by_cases hr : refuseUnlock s 1 lvl = 0
  · rw [if_pos hr] at asked
    rw [asks, asked]
    exact ⟨rfl, rfl, rfl, fun _ => ⟨rfl, _, rfl⟩, fun h => absurd hr h⟩
  · rw [if_neg hr] at asked
    have sec : (unlockAsk 1 lvl s).sec = { (askedOn 1 lvl s).sec with result := refuseUnlock s 1 lvl } := by
      rw [asked, unlockMsg_sec]
    have none' : (unlockAsk 1 lvl s).sec.chal = none := by rw [sec]; exact hidle
    rw [none'] at asks
    have same : t.sec = (unlockAsk 1 lvl s).sec := by rw [asks]; rfl
    rw [same, sec]
    refine ⟨rfl, rfl, rfl, fun h => absurd h hr, fun _ => ⟨hidle, unlockAsk 1 lvl s, ?_⟩⟩
    rw [asks, sec]

theorem orfUlResponse_answers {data chal : Word} {s : State} (hchal : s.sec.chal = some chal) (hchannel : s.sec.channel = 1) :
    let t := orfUlResponse data s
    t.sec.chal = none ∧ (data = unlockResp s chal s.sec.reqLevel → t.sec.level = s.sec.reqLevel ∧ t.orf.status = 0) ∧
      (data ≠ unlockResp s chal s.sec.reqLevel → t.sec.level = s.sec.level ∧ t.orf.status = 9) := by
  intro t
  obtain ⟨none', right, wrong⟩ := unlockAnswer_sec (data := data) hchal
  have answers : t = if (unlockAnswer data s).sec.result = 1 then
      orfEnd 0 [BitVec.ofNat 32 (unlockAnswer data s).sec.level] (unlockAnswer data s)
    else orfEnd 9 [BitVec.ofNat 32 (unlockAnswer data s).sec.fails] (unlockAnswer data s) := if_pos (by simp [hchal, hchannel])
  have sec : t.sec = (unlockAnswer data s).sec := by rw [answers]; split <;> rfl
  rw [sec]
  refine ⟨none', fun h => ?_, fun h => ?_⟩
  · obtain ⟨level, result, -⟩ := right h
    rw [answers, if_pos result]
    exact ⟨level, rfl⟩
  · obtain ⟨level, result, -⟩ := wrong h
    rw [answers, if_neg (by rw [result]; decide)]
    exact ⟨level, rfl⟩

/-! `ov` (R379). -/

theorem mem_ovPut {ch : Nat} {start ramp : Int} {s : State} (p : Nat × Int × Int) : p ∈ (ovPut ch start ramp s).scout.ovr ↔
    p = (ch, (ovStart ch start, ramp)) ∨ (p ∈ s.scout.ovr ∧ p.1 ≠ ch) := by
  simp only [ovPut, List.mem_append, List.mem_filter, List.mem_singleton, decide_eq_true_eq]
  constructor
  · rintro ((⟨hp, hlt⟩ | rfl) | ⟨hp, hgt⟩)
    · exact .inr ⟨hp, by omega⟩
    · exact .inl rfl
    · exact .inr ⟨hp, by omega⟩
  · rintro (rfl | ⟨hp, hne⟩)
    · exact .inl (.inr rfl)
    · rcases Nat.lt_or_gt_of_ne hne with hlt | hgt
      · exact .inl (.inl ⟨hp, hlt⟩)
      · exact .inr ⟨hp, hgt⟩

/-! `tx` (R380). -/

theorem orfDisarm_of_armed {s : State} (h : s.nand.armed = true) : (orfDisarm s).orf.status = 0 ∧ (orfDisarm s).nand.armed = false ∧
    (orfDisarm s).nand.prepHeld = true ∧ (orfDisarm s).arr.mem = s.arr.mem := by
  obtain ⟨⟨mem, -⟩, -, armed⟩ := armLoss_ends s
  rw [orfDisarm, if_pos h]
  exact ⟨rfl, armed, rfl, mem⟩

theorem orfDisarm_of_unarmed {s : State} (h : s.nand.armed = false) : orfDisarm s = orfEnd 6 [] s := if_neg (by simp [h])

theorem orfLaneout_ends {lane frame : Nat} (s : State) (h : lane < 8) : (orfLaneout lane frame s).orf.ready = false ∧
    ((orfLaneout lane frame s).orf.status = 7 ∧ (orfLaneout lane frame s).nand = s.nand ∨
      (orfLaneout lane frame s).orf.status = 0 ∧ (orfLaneout lane frame s).nand.laneOut = s.nand.laneOut ++ [(lane, frame)]) := by
  unfold orfLaneout
  split
  · exact ⟨rfl, .inl ⟨rfl, rfl⟩⟩
  · rw [if_neg (by omega)]
    exact ⟨rfl, .inr ⟨rfl, rfl⟩⟩

/-- The erase that `tx spoil` has made. -/
def spoilErase (bankB ovl : Bool) : ArrOp :=
  { req := .engine, erase := true, off := (if bankB then 0x200000 else 0) + (if ovl then 0x184000 else 0x180000), tag := 5 }

theorem spoilErase_sec (bankB ovl : Bool) : secOf (spoilErase bankB ovl).off = (if bankB then 128 else 0) + (if ovl then 97 else 96) := by
  cases bankB <;> cases ovl <;> rfl

theorem orfSpoil_of_idle {bankB ovl : Bool} {s : State} (hrun : s.arr.run = none) (hqueue : s.arr.queue = []) (hsusp : s.arr.susp = none) :
    orfSpoil bankB ovl s = submit (spoilErase bankB ovl) s := if_neg (by simp [spoiling, hrun, hqueue, hsusp])

/-- A command's line that has not ended, or that calls another, leaves the machine. -/
theorem orf_uncalled {s : State} {c : Instr} {name : List Nat} {p : List (List Nat) → Bool} {off n tid : Nat} {val : Word} {ws : List Word}
    {b o : Bool} {q : Option Nat} {st ra : Int}
    (hc : (c, name, p) ∈ [(Instr.orfortHe, [0x68, 0x65], List.isEmpty), (.orfortSt, [0x73, 0x74], List.isEmpty),
      (.orfortRd off n, [0x72, 0x64], argsRd off n), (.orfortWr off val, [0x77, 0x72], numsAre [off, val.toNat]),
      (.orfortTb tid n, [0x74, 0x62], numsAre [tid, n]),
      (.orfortTl tid n ws, [0x74, 0x6C], numsAre ([Int.ofNat tid, Int.ofNat n] ++ ws.map fun w => Int.ofNat w.toNat)),
      (.orfortAr off n, [0x61, 0x72], argsRd off n), (.orfortCb q, [0x63, 0x62], argsCb q), (.orfortLg q n, [0x6C, 0x67], argsLg q n),
      (.orfortUlRequest n, [0x75, 0x6C], fun a => n != 0 && numsAre [n] a), (.orfortUlResponse val, [0x75, 0x6C], argsUl val),
      (.orfortUlRelock, [0x75, 0x6C], numsAre [0]), (.orfortOvSet n st ra, [0x6F, 0x76], argsOv n st ra),
      (.orfortOvClear n, [0x6F, 0x76], argsOvOff n), (.orfortOvOff, [0x6F, 0x76], (· == [wOff])), (.orfortOvList, [0x6F, 0x76], List.isEmpty),
      (.orfortTxDisarm, [0x74, 0x78], (· == [wDisarm])), (.orfortTxLaneout off n, [0x74, 0x78], argsLaneout off n),
      (.orfortTxSpoil b o, [0x74, 0x78], (· == [wSpoil, wBank b, wImage o]))]) (h : calls s name p = false) : exec c s = .next s := by
  simp only [List.mem_cons, List.not_mem_nil, or_false, Prod.mk.injEq] at hc
  rcases hc with ⟨rfl, rfl, rfl⟩ | ⟨rfl, rfl, rfl⟩ | ⟨rfl, rfl, rfl⟩ | ⟨rfl, rfl, rfl⟩ | ⟨rfl, rfl, rfl⟩ | ⟨rfl, rfl, rfl⟩ |
    ⟨rfl, rfl, rfl⟩ | ⟨rfl, rfl, rfl⟩ | ⟨rfl, rfl, rfl⟩ | ⟨rfl, rfl, rfl⟩ | ⟨rfl, rfl, rfl⟩ | ⟨rfl, rfl, rfl⟩ | ⟨rfl, rfl, rfl⟩ |
    ⟨rfl, rfl, rfl⟩ | ⟨rfl, rfl, rfl⟩ | ⟨rfl, rfl, rfl⟩ | ⟨rfl, rfl, rfl⟩ | ⟨rfl, rfl, rfl⟩ | ⟨rfl, rfl, rfl⟩
  · rw [exec_orfortHe, orfRun_uncalled h]
  · rw [exec_orfortSt, orfRun_uncalled h]
  · rw [exec_orfortRd, orfRun_uncalled h]
  · rw [exec_orfortWr, orfRun_uncalled h]
  · rw [exec_orfortTb, orfRun_uncalled h]
  · rw [exec_orfortTl, orfRun_uncalled h]
  · rw [exec_orfortAr, orfRun_uncalled h]
  · rw [exec_orfortCb, orfRun_uncalled h]
  · rw [exec_orfortLg, orfRun_uncalled h]
  · rw [exec_orfortUlRequest, orfRun_uncalled h]
  · rw [exec_orfortUlResponse, orfRun_uncalled h]
  · rw [exec_orfortUlRelock, orfRun_uncalled h]
  · rw [exec_orfortOvSet, orfOv_uncalled h]
  · rw [exec_orfortOvClear, orfOv_uncalled h]
  · rw [exec_orfortOvOff, orfOv_uncalled h]
  · rw [exec_orfortOvList, orfRun_uncalled h]
  · rw [exec_orfortTxDisarm, orfRun_uncalled h]
  · rw [exec_orfortTxLaneout, orfRun_uncalled h]
  · rw [exec_orfortTxSpoil, orfRun_uncalled h]

/-- The effect of a granted command, as the step's outcome. -/
theorem orfRun_outcome {name : List Nat} {p : List (List Nat) → Bool} {granted : State → Bool} {f : State → State} {s t : State}
    (hcalls : calls s name p = true) (hgranted : granted s = true) (h : f s = t) : Host.Outcome.next (orfRun name p granted f s) = (.next t : Out) := by
  rw [orfRun_granted hcalls hgranted, h]

/-- Settles O59: each command by `orfRun_granted`, or `orfOv`'s cases, and the lemma about its effect. -/
theorem orfortCommands : Obligations.OrfortCommands := by
  unfold Obligations.OrfortCommands
  intro ends
  refine ⟨fun s hc hg => ?_, fun s hc hg => ?_, fun off n s hc hg h4 h1 h64 hend => ?_, fun val s hc hg hrst hwindow => ?_,
    fun tid idx s hc hg hcode htid hsound => ?_, fun val s hc hg hrst hwindow hidle hready => ?_,
    fun off s hc hg h8 hoff hpermits hret hue => ?_, fun s hc hg => ?_, fun q ws s hc hg hq hfetch => ?_,
    fun lvl s hc hg _ h3 hidle => ?_, fun data chal s hc hg hchal hchannel => ?_, fun s hc hg => ?_,
    fun ch start ramp s hstate hg => ⟨fun hc hok => ?_, fun hc hok => ?_, fun hc => ?_⟩, fun ch start ramp s c p hc hstate hmem => ?_,
    fun s hc hg => ?_, fun s hg => ⟨fun hc => ⟨fun harmed => ?_, fun harmed => ?_⟩, fun lane frame hlane hc => ?_,
    fun bankB ovl hc hrun hqueue hsusp => ?_⟩, fun s c name p off n tid val ws b o q st ra hmem h => orf_uncalled hmem h⟩
  · exact ⟨_, (exec_orfortHe s).trans (orfRun_outcome hc hg rfl), ⟨rfl, rfl, rfl, rfl⟩, rfl⟩
  · exact ⟨_, (exec_orfortSt s).trans (orfRun_outcome hc hg rfl), rfl, rfl, rfl, rfl⟩
  · exact ⟨_, exec_orfortRd_of_inRange hc hg h4 h1 h64 hend, ⟨rfl, rfl, rfl, rfl⟩, rfl⟩
  · exact ⟨_, (exec_orfortWr s 0x94 val).trans (orfRun_outcome hc hg (orfWr_arrayAddr hg hrst hwindow)), ⟨rfl, rfl, rfl, rfl⟩, rfl⟩
  · exact ⟨_, (exec_orfortTb s tid idx).trans (orfRun_outcome hc hg (orfTb_of_sound hcode htid hsound)), ⟨rfl, rfl, rfl, rfl⟩, rfl⟩
  · obtain ⟨u, run, top, conf, arr, adm⟩ := orfTl_window hg hrst hwindow hidle hready
    obtain ⟨field, others⟩ := windowPut_words val (quiet 0x2C s)
    refine ⟨_, (exec_orfortTl s 10 16 [val]).trans (orfRun_outcome hc hg run), ⟨rfl, rfl, rfl, rfl⟩, ?_, top, fun k hk => ?_, arr, adm⟩
    · exact (congrArg (fld · 0 21) (cw_congr (congrArg Conf.cur conf) 10 16 0)).trans field
    · exact (congrArg (fun c : Conf => Sparse.get resetWord c.cur k) conf).trans (others k hk)
  · intro words
    refine ⟨fun hfree => ?_, fun o herase hmin hrun hqueue => ?_, fun hbusy => ?_⟩
    · obtain ⟨u, run, arr⟩ := orfAr_of_free (s := s) (t := s) h8 hoff (if_neg (by simp [hfree])) hpermits hfree hret hue
      refine ⟨_, (exec_orfortAr s off 1).trans (orfRun_outcome hc hg run), ⟨rfl, rfl, rfl, rfl⟩, ?_⟩
      rw [show (orfEnd 0 (arrShown s off) u).arr = u.arr from rfl, arr, touchBank_suspOnly]
      exact ⟨rfl, rfl⟩
    · obtain ⟨erase, bank, free⟩ := busyFor_erasing hrun herase
      obtain ⟨u, run, arr⟩ := orfAr_of_free (s := s) (t := erasePaused o s) h8 hoff
        ((if_pos ⟨herase, hmin, hpermits⟩).trans (suspendRun_pauses hrun erase hqueue)) hpermits free hret hue
      refine ⟨_, (exec_orfortAr s off 1).trans (orfRun_outcome hc hg run), ⟨rfl, rfl, rfl, rfl⟩, ?_⟩
      rw [show (orfEnd 0 (arrShown (erasePaused o s) off) u).arr = u.arr from rfl, arr, touchBank_paused bank]
      exact ⟨rfl, rfl, rfl⟩
    · have waits : orfAr off 1 s = s := by
        rw [orfAr_permitted h8 hoff (t := s) (if_neg ?_) hpermits, if_pos (by omega)]
        rintro ⟨h1, hmin, -⟩
        omega
      rw [exec_orfortAr, orfRun_outcome hc hg waits]
  · exact ⟨_, (exec_orfortCb s none).trans (orfRun_outcome hc hg rfl), rfl, rfl, orfCb_length s.nand.catalog, rfl⟩
  · obtain ⟨-, -, -, -, -, -, -, -, -, held, -⟩ := logFetch_reports q s
    exact ⟨_, (exec_orfortLg s (some q) 1).trans (orfRun_outcome hc hg (orfLg_one hq hfetch)), ⟨rfl, rfl, rfl, rfl⟩, logFetch_arr q s, held⟩
  · obtain ⟨req, channel, level, asked, refused⟩ := orfUlRequest_asks h3 hidle
    refine ⟨_, (exec_orfortUlRequest s lvl).trans (orfRun_outcome hc hg rfl), req, channel, level, fun h => ?_, fun h => ?_⟩
    · obtain ⟨chal, u, ht⟩ := asked h
      exact ⟨chal, by rw [ht]; exact ⟨rfl, rfl, rfl, rfl⟩⟩
    · obtain ⟨chal, u, ht⟩ := refused h
      exact ⟨chal, by rw [ht]; exact ⟨rfl, rfl, rfl, rfl⟩⟩
  · exact ⟨_, (exec_orfortUlResponse s data).trans (orfRun_outcome hc hg rfl), orfUlResponse_answers hchal hchannel⟩
  · obtain ⟨level, chal, -⟩ := relock_sec 1 s
    exact ⟨_, (exec_orfortUlRelock s).trans (orfRun_outcome hc hg rfl), level, chal, ⟨rfl, rfl, rfl, rfl⟩, by simp [onlyReports, orfEnd]⟩
  · refine ⟨orfEnd 0 [] (ovPut ch start ramp s), ?_, ⟨rfl, rfl, rfl, rfl⟩, (mem_ovPut _).2 (.inl rfl), fun p hp => ?_, rfl⟩
    · rw [exec_orfortOvSet, orfOv_granted hc hstate hg, if_pos hok]
    · exact (mem_ovPut p).trans ⟨fun h => (h.resolve_left fun same => hp (by rw [same])).1, fun h => .inr ⟨h, hp⟩⟩
  · refine ⟨orfEnd 0 [] (ovDrop ch s), ?_, ⟨rfl, rfl, rfl, rfl⟩, fun p => by simp [orfEnd, ovDrop], rfl⟩
    rw [exec_orfortOvClear, orfOv_granted hc hstate hg, if_pos hok]
  · refine ⟨orfEnd 0 [] { s with scout := { s.scout with ovr := [] } }, ?_, ⟨rfl, rfl, rfl, rfl⟩, rfl⟩
    rw [exec_orfortOvOff, orfOv_granted hc hstate hg]
  · simp only [List.mem_cons, List.not_mem_nil, or_false, Prod.mk.injEq] at hmem
    refine ⟨orfEnd 5 [] s, ?_, ⟨rfl, rfl, rfl, rfl⟩, rfl⟩
    rcases hmem with ⟨rfl, rfl⟩ | ⟨rfl, rfl⟩ | ⟨rfl, rfl⟩
    · rw [exec_orfortOvSet, orfOv_harvest hc hstate]
    · rw [exec_orfortOvClear, orfOv_harvest hc hstate]
    · rw [exec_orfortOvOff, orfOv_harvest hc hstate]
  · refine ⟨_, (exec_orfortOvList s).trans (orfRun_outcome hc hg rfl), rfl, rfl, ?_, rfl⟩
    simp [orfEnd, List.length_flatMap, Nat.mul_comm]
  · obtain ⟨status, armed, held, mem⟩ := orfDisarm_of_armed harmed
    exact ⟨_, (exec_orfortTxDisarm s).trans (orfRun_outcome hc hg rfl), status, armed, held, mem⟩
  · exact ⟨_, (exec_orfortTxDisarm s).trans (orfRun_outcome hc hg (orfDisarm_of_unarmed harmed)), ⟨rfl, rfl, rfl, rfl⟩, rfl⟩
  · exact ⟨_, (exec_orfortTxLaneout s lane frame).trans (orfRun_outcome hc hg rfl), orfLaneout_ends s hlane⟩
  · obtain ⟨run, -⟩ := submit_head (o := spoilErase bankB ovl) hrun hqueue hsusp
    obtain ⟨mem, -⟩ := submit_sameStored (spoilErase bankB ovl) s
    exact ⟨_, _, (exec_orfortTxSpoil s bankB ovl).trans (orfRun_outcome hc hg (orfSpoil_of_idle hrun hqueue hsusp)), run, rfl,
      spoilErase_sec bankB ovl, mem⟩

end Sys2Proof.Machine
end
